-- ==== Sys2Proof/Word.lean ====
section
/-! DEFINITION. The word types of the PSC-88 model: bytes and the fixed widths that the spec gives its fields (R24). -/

namespace Sys2Proof

/-- One byte. -/
abbrev Byte := BitVec 8

/-- A 16-bit little-endian field. -/
abbrev W16 := BitVec 16

/-- A 32-bit little-endian field. -/
abbrev W32 := BitVec 32

/-- A 64-bit little-endian field; also the raw bits of any elementary datum (Table 04.6), in its low-order bytes. -/
abbrev W64 := BitVec 64

/-- The bits of an IEEE 754 binary64 value. -/
abbrev F64 := BitVec 64

/-- A block of bytes: an image bank, a record payload, an object's content. -/
abbrev Bytes := List Byte

end Sys2Proof
end

