-- ==== Sys2Proof/Syntax.lean ====
section
/-! DEFINITION. The commands of the block: one constructor of Instr per row of spec/opcode_table.json, with what
each command brings from outside (readings at a latch, a host request's fields, a received frame's content). -/

namespace Sys2Proof

/-- How a host request reached the module (R499, R501, R502): the session it came on (0 to 7 plant network and service
port, 8 USB), whether that session was opened to the role address (R79), the header's SEQ, and the phase of its
acceptance in ns after the tick boundary (R512). -/
structure Req where
  session : Nat
  seq : W32
  at_ : Nat
  deriving DecidableEq, Repr

/-- What the onboard stages read at the latch of phase 0 µs (R40, R413, R415, R422, R425, R577, R82). Lists are in
channel order; a missing item reads as its default. Voltages and currents are binary64, V and mA. -/
structure Latch where
  /-- filtered current of AI00 to AI15, mA (R415) -/
  ai : List F64 := []
  /-- loop supply of AI00 to AI15 at its current limit (R416) -/
  aiLimit : List Bool := []
  /-- measured current of AO0 to AO7, mA (R422) -/
  ao : List F64 := []
  /-- compliance margin U_m of AO0 to AO7, V (R422) -/
  aoMargin : List F64 := []
  /-- terminal voltage of D00 to D47, V (R413) -/
  dv : List F64 := []
  /-- load current of D00 to D47, mA (R410) -/
  di : List F64 := []
  /-- latched count of POS0 and POS1, extended to 64 bits without wrap (R235) -/
  pos : List Int := []
  /-- signal fault of POS0 and POS1 at this latch (R425); 0 none -/
  posFault : List Nat := []
  /-- field feed voltage of F1 to F6, V (R411) -/
  feedV : List F64 := []
  /-- field feed comparator found a fall since the last latch, F1 to F6 (R411) -/
  feedDip : List Bool := []
  /-- group current of G1 to G6, A (R409) -/
  groupA : List F64 := []
  /-- the button contact reads closed (R82) -/
  button : Bool := false
  /-- the partner's token line reads held (R335) -/
  partnerToken : Bool := false
  /-- the module's own token line reads held (R335) -/
  ownToken : Bool := false
  /-- the partner's and the own token line as sampled at phase 62.5 µs of the tick that ends (R335) -/
  partnerHalf : Bool := false
  ownHalf : Bool := false
  /-- filtered logical state of channel a, then b, of SI0 to SI7 as safety channel A latches it (R373) -/
  siA : List (Bool × Bool) := []
  /-- the same as safety channel B latches it -/
  siB : List (Bool × Bool) := []
  /-- position counts as safety channel B latches them (R369) -/
  posB : List Int := []
  deriving DecidableEq, Repr

/-- One CAN request of a course, released at its activation end (R465, R477). -/
structure CanReq where
  port : Nat
  handle : Nat
  ident : W32
  flags : Byte
  dlc : Nat
  data : Bytes
  /-- none: SYS_CAN_SEND; some t: SYS_CAN_LAUNCH with launch time t, 0 for the instant of arrival -/
  launch : Option Nat
  deriving DecidableEq, Repr

/-- What an activation's bricks have produced when the last one ends (R141, R148, R149, R164, R477). The program is
native code whose instruction set the spec does not give, so its results come with the command. -/
structure Release where
  /-- output image writes: I/O map entry, raw value -/
  outputs : List (Nat × W64) := []
  /-- loop set-points written through SYS_LOOP: context, binary64 -/
  setpoints : List (Nat × F64) := []
  /-- loop mode requests through SYS_LOOP: context, code of Table 06.7 -/
  modeReqs : List (Nat × Nat) := []
  /-- course-supplied solver parameters: context, index, binary64 -/
  params : List (Nat × Nat × F64) := []
  /-- instance data of every brick of the course after the activation (instance 0 for its global writes): offset, bytes -/
  data : List (Nat × Nat × Bytes) := []
  /-- integer divisions by zero, in order (R148): the brick, the vessel time of the division in ns -/
  div0 : List (Nat × Nat) := []
  /-- the brick that wrote the first non-finite datum of outputs, set-points and parameters, if there is one (R149) -/
  nonFinite : Nat := 0
  /-- calls of SYS_EVENT_RAISE: source 120 to 127, argument, vessel time of the call in ns -/
  events : List (Nat × W32 × Nat) := []
  /-- events taken from the course queue by SYS_EVENT_READ -/
  eventsRead : Nat := 0
  /-- CAN requests in call order -/
  can : List CanReq := []
  /-- handles to cancel (SYS_CAN_CANCEL) -/
  canCancel : List Nat := []
  /-- SYS_CAN_CONTROL: port, command (R474) -/
  canControl : List (Nat × Nat) := []
  /-- frames taken from receive queues by SYS_CAN_READ: filter -/
  canRead : List Nat := []
  deriving DecidableEq, Repr, Inhabited

/-- The mirage command of Table 04.6 without its OP byte, which names the row. -/
structure MirageCmd where
  kind : Nat
  ty : Nat
  brick : Nat
  index : Nat
  value : W64
  /-- a reserved byte is set (R28) -/
  reserved : Bool := false
  /-- the type that the program declares for the variable at BRICK and INDEX (no record of the spec lays it out); unused for a
  channel -/
  declared : Nat := 0
  deriving DecidableEq, Repr

/-- The injection command of Table 07.6 without its OP byte. -/
structure InjCmd where
  signal : Nat
  point : Nat
  order : Nat
  hold : Nat
  startTick : Nat
  duration : Nat
  msPeriod : Nat
  amplitude : F64
  f0 : F64
  f1 : F64
  msHarm : BitVec 32
  seed : BitVec 32
  reserved : Bool := false
  deriving DecidableEq, Repr

/-- The region request of R198. -/
structure RegionCmd where
  kind : Nat
  op : Nat
  index : Nat
  length : Nat
  crc : W32
  reserved : Bool := false
  deriving DecidableEq, Repr

/-- A partner STATUS frame (R334) whose CRC is valid. -/
structure StatusFrame where
  tick : Nat
  mode : Nat
  role : Nat
  /-- the sender's own token line as it reads it -/
  ownToken : Bool
  /-- the receiver's token line as the sender reads it -/
  otherToken : Bool
  cause : Nat
  tiles : W32
  staleness : List Nat
  rehearsalDays : Nat
  /-- image digest compared at forming (R360) -/
  digest : Bytes
  deriving DecidableEq, Repr

/-- The state of one loop context carried in tick mortar (R234). -/
structure LoopMortar where
  ctx : Nat
  acc : Int
  d : F64
  sPrev : F64
  e : F64
  u : F64
  v : F64
  sat : Nat
  satHeld : Nat
  /-- e at the swap that set SAT_HELD (R230) -/
  heldE : F64 := 0
  rampPrev : F64
  rampTarget : F64
  rampJ : Nat
  consecMiss : Nat
  consecPvBad : Nat
  lastTick : Nat
  /-- the counters of 0x1005_00cc (Table 06.9) -/
  counters : List Nat := [0, 0, 0, 0]
  deriving DecidableEq, Repr

/-- A tick mortar frame (Table 10.3 class 0). closes: the closing segment arrived and its CRC over all segments is right. -/
structure TickMortar where
  tick : Nat
  loops : List LoopMortar
  outputs : List (Nat × W64)
  /-- ledger in units of 4 µV·s; unlisted 0 -/
  ledger : List (Nat × Int)
  band : Nat
  bias : Bool
  /-- PANEL position at phase 90 µs: compensating or not, and PANEL cycles since the frame or pair began (R556); none
  while the driver is released -/
  panel : Option (Bool × Nat)
  /-- the active swapped to the staged program (1) or back (2) in this tick (R194); else 0 -/
  exch : Nat
  closes : Bool
  deriving DecidableEq, Repr

/-- The outcome of a frame (Table 08.10, Table 09.2) with its numerics report (Table 09.4). -/
structure Outcome9 where
  /-- STATUS: 0 OK to 6 HELD -/
  status : Nat := 6
  /-- CAUSE of Table 09.2, or of Table 08.10 for HELD -/
  cause : Nat := 0
  /-- the outcome publishes its own values (R283, R322) -/
  fresh : Bool := false
  x : List F64 := []
  mult : List F64 := []
  objective : F64 := 0
  /-- START: 0 COLD, 1 WARM_FULL, 2 WARM_PARTIAL (Table 09.3) -/
  start : Nat := 0
  /-- RETRY: 0 none, 1 after overflow, 2 after wrong sign -/
  retry : Nat := 0
  changes : Nat := 0
  changesP1 : Nat := 0
  refine : Nat := 0
  replaced : Nat := 0
  firstReplaced : W32 := 0xFFFFFFFF
  mapped : W32 := 0
  /-- final residual; none when no refinement ran -/
  residual : Option F64 := none
  tau : F64 := 0
  violation : F64 := 0
  /-- final working set: candidate number and side (true: upper), for the warm start (R326) -/
  working : List (Nat × Bool) := []
  /-- the frame ran a job, whose report is more than STATUS (R328) -/
  job : Bool := true
  /-- SIGNATURE of the template that the job ran on (R324) -/
  signature : W64 := 0
  deriving DecidableEq, Repr

/-- Warm-start data of a context (R326): the structure signature, x, the multipliers, the working set as candidate and
side, and the tag lists under which they were recorded. -/
structure WarmSt where
  signature : W64
  x : List F64
  mult : List F64
  working : List (Nat × Bool)
  vtags : List Nat
  ctags : List Nat
  /-- equality rows of the context that recorded them -/
  nEq : Nat
  deriving DecidableEq, Repr

/-- What one solver frame's outcome carries in mortar (Table 10.3, R286, R327, R328): the outcome with its numerics report, the
publication data and counters that follow from it, the fallback state, the last good values and the warm-start data. -/
structure OutcomeMortar where
  ctx : Nat
  frame : Nat
  /-- outcome and numerics report (Table 09.4) -/
  outcome : Outcome9
  /-- CONSEC_HELD, fresh_count and FALLBACK after the frame (R283, R284) -/
  consecHeld : Nat
  freshCount : Nat
  fallback : Bool
  /-- STALE_TAGS of the frame (R279) -/
  staleTags : Bool := false
  /-- AGE after the frame (Table 08.10) -/
  age : Nat := 0
  /-- last good X, MULT, OBJECTIVE and SOLVED_TICK; no multipliers before the first fresh outcome -/
  goodX : List F64 := []
  goodMult : Option (List F64) := none
  goodObjective : Option F64 := none
  goodTick : Nat := 0
  /-- counters of Table 08.16 -/
  counters : List Nat := []
  /-- warm-start data for the next frame (R326) -/
  warm : Option WarmSt := none
  deriving DecidableEq, Repr

/-- A class 1, 2 or 3 mortar frame (Table 10.3). -/
inductive Mortar where
  /-- class 1: course, number of the release (R343), selected brick bytes, and in the base course's set the mirages and
  settings changed -/
  | courseEnd (course release : Nat) (data : List (Nat × Nat × Bytes)) (settings : List (Nat × W64))
      (mirages : List (Nat × Option MirageCmd))
  /-- class 2 -/
  | outcome (o : OutcomeMortar)
  /-- class 3: the active's mode changed -/
  | mode (m : Nat) (exchState exchPhase : Nat)
  /-- class 3: settings STATE and GENERATION -/
  | settings (state : Nat) (generation : W32)
  /-- class 3: a loop mode, manual value -/
  | loop (ctx : Nat) (mode : Nat) (manual : F64)
  /-- class 3: the parameters in force of a context, offsets 0x30 to 0xAF -/
  | loopParams (ctx : Nat) (params : List F64)
  /-- class 3: the DEGRADED expiry as vessel time -/
  | expiry (t : Option Nat)
  /-- class 3: an acknowledgement with the active's application boundary; reset: it is a press that is a safety reset too
  (R84, R392) -/
  | ack (boundary : Nat) (reset : Bool)
  /-- class 3: a standby's button acknowledgement forwarded to the active (R84) -/
  | ackForward
  /-- class 3: acknowledgement state of the annunciator's pixels (R549): unacknowledged, TRUE and acknowledged -/
  | pixels (unacked acked : List Nat)
  /-- class 3: UNTRUSTED of the panel (R559) -/
  | untrusted (u : Bool)
  /-- class 3: the status of a region update: ticket, STATUS, KIND, INDEX, REASON (R201) -/
  | region (ticket status kind index reason : Nat)
  /-- class 3: the standby's table rebuild is complete (R247) -/
  | tableReady (table : Nat)
  /-- class 3: the standby holds the data of a region update and applies it at the same commit point (R201) -/
  | regionReady (ticket : Nat)
  /-- class 3: the standby's bank has passed R115, or not, in a write to the role address (R117) -/
  | imageResult (passed : Bool)
  /-- bulk copy: the contents of a region that a DONE update has changed since LOAD: KIND, INDEX, data (R361) -/
  | content (kind index : Nat) (data : Bytes)
  /-- class 3: the active's role (Table 10.3) -/
  | role (r : Nat)
  /-- class 3: the partner-facing rehearsal record, the stamp of the sender's last EV049 (R359) -/
  | rehearsal (t : Option Nat)
  /-- class 3: the CAN launch list of a port -/
  | launch (port : Nat) (entries : List CanReq)
  /-- class 3: a pending role swap -/
  | swap (tick : Option Nat)
  /-- class 3: a STEP of vessel time at the next boundary (R496, R497) -/
  | step (offset : Int)
  deriving DecidableEq, Repr

/-- A ring frame as it arrives (R446): STATION, TICK, SSTATUS, and per module block MODULE, MSTATUS and the data. -/
structure RingFrame where
  station : Nat
  tick : Nat
  sstatus : Byte
  modules : List (Nat × Byte × Bytes)
  /-- the phase of its arrival in ns after the boundary of the tick in which it arrives -/
  at_ : Nat
  /-- LENGTH as the header states it -/
  length : Nat := modules.foldl (fun n b => n + 4 + (b.2.2.length + 3) / 4 * 4) 0
  /-- RTYPE: 1 OUTPUT, 2 INPUT, 3 DISCOVER, 4 CONFIG, 5 TIME -/
  rtype : Nat := 2
  /-- the FCS is correct -/
  fcsOk : Bool := true
  deriving DecidableEq, Repr

/-- A station's answer to DISCOVER (R451). -/
structure Discovered where
  station : Nat
  ident : W32
  position : Nat
  digest : Bytes
  modules : List Nat
  deriving DecidableEq, Repr

/-- A CAN frame on the bus (Table 14.7). -/
structure CanFrame where
  port : Nat
  flags : Byte
  dlc : Nat
  ident : W32
  data : Bytes
  /-- vessel time in ns, and its fraction, that the controller has captured at the sample point of the start-of-frame bit (R470) -/
  stampNs : Nat
  stampFrac : W16
  /-- end of frame completed, vessel time in ns -/
  endNs : Nat
  deriving DecidableEq, Repr

/-- One entry of a BATCH_WRITE (R523). -/
structure BatchEntry where
  object : W32
  data : Bytes
  deriving DecidableEq, Repr

/-- What is forwarded to the standby over the Cerhar link (R201, R117, R193). -/
inductive Forward where
  | region (ticket : Nat) (kind index : Nat) (data : Bytes)
  | image (bank : Bytes)
  | exchange (digest : Bytes)
  deriving DecidableEq, Repr

/-- A key's content at insertion (R102): the two image banks and the journal blocks found valid. -/
structure KeyContent where
  bankA : Bytes
  bankB : Bytes
  /-- JSEQ of each valid journal block (R570) -/
  journal : List Nat
  /-- START_NO last recorded for this module on the key (Table 19.3) -/
  starts : Nat
  /-- newest stamp in the journal (R492) -/
  newestStamp : Nat
  /-- stamp of this module's last EV049 in the journal (R359) -/
  rehearsal : Option Nat
  /-- the key can be read; one that cannot is as absent (R104, Table 02.6) -/
  readable : Bool := true
  deriving DecidableEq, Repr

/-- One command of the block: one row of spec/opcode_table.json each. The operand `at_` is the phase, in ns after the
last tick boundary, at which the happening is detected (R50); commands of a fixed phase point have none. -/
inductive Instr where
  /-- POWER_ON (R64): the base slot read at power-on, 0 single base, 1 or 2; and which logic feeds are in their band -/
  | powerOn (slot : Nat) (feedA feedB : Bool)
  /-- SRAM_CLEAR_COMPLETE (R90) -/
  | sramClearComplete
  /-- DRAM_CLEAR_COMPLETE (R90) -/
  | dramClearComplete
  /-- CLEAR_TIMEOUT (R92) -/
  | clearTimeout
  /-- START_SUPPLY_LOSS (R93) -/
  | startSupplyLoss
  /-- BANK_HEADERS_READ (R111) -/
  | bankHeadersRead (at_ : Nat)
  /-- BANK_FULL_CHECK_COMPLETE (R110) -/
  | bankFullCheckComplete (at_ : Nat)
  /-- IMAGE_APPLIED (R112) -/
  | imageApplied (at_ : Nat)
  /-- ACQ_WAIT_EXPIRY (R492) -/
  | acqWaitExpiry (at_ : Nat)
  /-- IMAGE_KEY_REMOVED (R104) -/
  | imageKeyRemoved (at_ : Nat)
  /-- IMAGE_KEY_INSERTED (R104) -/
  | imageKeyInserted (key : KeyContent) (at_ : Nat)
  /-- KILN_REMEASURE_COMPLETE (R98): the stage 2 to 6 and its code as held in memory -/
  | kilnRemeasureComplete (stage : Nat) (code : Bytes) (at_ : Nat)
  /-- TICK_BOUNDARY (R39) -/
  | tickBoundary (latch : Latch)
  /-- INPUT_IMAGE_COMPLETE (R47) -/
  | inputImageComplete
  /-- OVERRUN_LIMIT_REACHED (R145) -/
  | overrunLimitReached (course : Nat)
  /-- MAX_SCAN_REACHED (R144) -/
  | maxScanReached
  /-- SCAN_WATCH_EXPIRY (R144) -/
  | scanWatchExpiry
  /-- COURSE_ACTIVATION_END (R141) -/
  | courseActivationEnd (course : Nat) (rel : Release) (at_ : Nat)
  /-- EXECUTION_TRAP (R147): course, brick, code offset -/
  | executionTrap (course brick offset : Nat) (at_ : Nat)
  /-- BREAKPOINT_REACHED (R153): the base course arrives at the brick that armed breakpoints name -/
  | breakpointReached (brick : Nat) (at_ : Nat)
  /-- LOOP_SAMPLE (R209) -/
  | loopSample (ctx : Nat) (at_ : Nat)
  /-- LOOP_DEADLINE (R220) -/
  | loopDeadline (lane : Nat)
  /-- OUTPUT_COMMIT (R42) -/
  | outputCommit
  /-- MODE_START (R64) -/
  | modeStart (r : Req)
  /-- MODE_STOP (R64) -/
  | modeStop (r : Req)
  /-- MODE_CONTINUE (R155) -/
  | modeContinue (r : Req)
  /-- MODE_ACKNOWLEDGE (R84) -/
  | modeAcknowledge (r : Req)
  /-- MODE_RESET (R85) -/
  | modeReset (r : Req)
  /-- MODE_ROLE_SWAP (R69) -/
  | modeRoleSwap (r : Req)
  /-- ROLE_SWAP_TICK (R357) -/
  | roleSwapTick
  /-- INJECTION_ON (R73) -/
  | injectionOn (r : Req)
  /-- INJECTION_OFF (R73) -/
  | injectionOff (r : Req)
  /-- ARM_BREAKPOINTS (R153) -/
  | armBreakpoints (r : Req)
  /-- DISARM_BREAKPOINTS (R68) -/
  | disarmBreakpoints (r : Req)
  /-- PREPARE_RETURN (R573) -/
  | prepareReturn (r : Req)
  /-- PREPARE_RETURN_TIMEOUT (R573) -/
  | prepareReturnTimeout
  /-- BUTTON_CLOSING_RECOGNISED (R82) -/
  | buttonClosingRecognised
  /-- BUTTON_RELEASE_RECOGNISED (R83) -/
  | buttonReleaseRecognised
  /-- BUTTON_STUCK (R86) -/
  | buttonStuck
  /-- BUTTON_STUCK_END (R86) -/
  | buttonStuckEnd
  /-- SETTING_WRITE (R121): IIII and the written bytes -/
  | settingWrite (r : Req) (index : Nat) (data : Bytes)
  /-- SETTINGS_COMPLETE (R123) -/
  | settingsComplete (r : Req) (generation : W32)
  /-- SETTINGS_DECLARATION_DONE (R123): the session whose held declaration completes -/
  | settingsDeclarationDone (session : Nat)
  /-- ATTESTATION_NONCE (R99) -/
  | attestationNonce (r : Req) (nonce : Bytes)
  /-- QUOTE_READY (R99) -/
  | quoteReady (session : Nat) (at_ : Nat)
  /-- BREAKPOINT_WRITE (R152) -/
  | breakpointWrite (r : Req) (bp : Nat) (value : W32)
  /-- MIRAGE_PLACE (R157) -/
  | miragePlace (r : Req) (cmd : MirageCmd)
  /-- MIRAGE_RELEASE (R162) -/
  | mirageRelease (r : Req) (cmd : MirageCmd)
  /-- MIRAGE_RELEASE_ALL (R162) -/
  | mirageReleaseAll (r : Req)
  /-- COURSE_COUNTER_CLEAR (R167) -/
  | courseCounterClear (r : Req) (course : Nat) (value : W32)
  /-- EXCHANGE_STAGE (R169) -/
  | exchangeStage (r : Req)
  /-- STAGING_COMPLETE (R169): whether the staged tables could be loaded (R250), the digest the standby has staged, and
  the I/O map entries that the staged and the running program leave without a writer (R31: the image declares the
  writers; no record of the spec lays the declaration out) -/
  | stagingComplete (tablesLoaded : Bool) (partner : Option Bytes) (unwrittenNew unwrittenOld : List Nat) (at_ : Nat)
  /-- EXCHANGE_ACTIVATE (R173) -/
  | exchangeActivate (r : Req)
  /-- EXCHANGE_UNSTAGE (R168) -/
  | exchangeUnstage (r : Req)
  /-- EXCHANGE_NO_QUIET_TICK (R173) -/
  | exchangeNoQuietTick
  /-- EXCHANGE_ROLLBACK (R178) -/
  | exchangeRollback
  /-- REGION_UPDATE_REQUEST (R198) -/
  | regionUpdateRequest (r : Req) (cmd : RegionCmd)
  /-- REGION_DATA_WRITE (R198) -/
  | regionDataWrite (r : Req) (ticket : Nat) (data : Bytes)
  /-- REGION_DATA_CHECKED (R197) -/
  | regionDataChecked (ticket : Nat) (at_ : Nat)
  /-- REGION_PENDING_START (R197) -/
  | regionPendingStart (ticket : Nat)
  /-- REGION_CANCEL (R199) -/
  | regionCancel (r : Req) (ticket : Nat) (value : W32)
  /-- REGION_DATA_TIMEOUT (R198) -/
  | regionDataTimeout (ticket : Nat) (at_ : Nat)
  /-- IMAGE_WRITE_COMPLETE (R115): the standby's bank passed (none: no standby) -/
  | imageWriteComplete (partnerPassed : Option Bool) (at_ : Nat)
  /-- LOOP_MODE_MANUAL (R224) -/
  | loopModeManual (r : Req) (ctx : Nat)
  /-- LOOP_MODE_AUTO (R224) -/
  | loopModeAuto (r : Req) (ctx : Nat)
  /-- LOOP_MODE_CASCADE (R224) -/
  | loopModeCascade (r : Req) (ctx : Nat)
  /-- LOOP_MODE_EXTERNAL (R224) -/
  | loopModeExternal (r : Req) (ctx : Nat)
  /-- LOOP_MODE_HOLD (R224) -/
  | loopModeHold (r : Req) (ctx : Nat)
  /-- MANUAL_VALUE_WRITE (R225) -/
  | manualValueWrite (r : Req) (ctx : Nat) (value : F64)
  /-- APPLY (R228) -/
  | apply (r : Req) (ctx : Nat) (value : W32)
  /-- TABLE_REBUILD_COMPLETE (R247): the local buffer is complete -/
  | tableRebuildComplete (table : Nat) (at_ : Nat)
  /-- REBUILD_OVERDUE (R249) -/
  | rebuildOverdue (table : Nat)
  /-- INJECTION_START (R255) -/
  | injectionStart (r : Req) (ctx : Nat) (cmd : InjCmd)
  /-- INJECTION_STOP (R257) -/
  | injectionStop (r : Req) (ctx : Nat)
  /-- CAPTURE_CONFIGURE (R260): the 88 bytes of Table 07.9 -/
  | captureConfigure (r : Req) (data : Bytes)
  /-- CAPTURE_ARM (R262) -/
  | captureArm (r : Req)
  /-- CAPTURE_FORCE_TRIGGER (R262) -/
  | captureForceTrigger (r : Req)
  /-- CAPTURE_ABORT (R263) -/
  | captureAbort (r : Req)
  /-- CAPTURE_ROW (R261) -/
  | captureRow
  /-- SOLVER_FRAME_START (R277) -/
  | solverFrameStart (ctx : Nat)
  /-- SOLVER_JOB_END (R322). In the three solver events that follow, a context 64 + c names the frame of context c that an
  exchange has left on its old template (R188) -/
  | solverJobEnd (ctx : Nat) (at_ : Nat)
  /-- SOLVER_JOB_DEADLINE (R289) -/
  | solverJobDeadline (ctx : Nat)
  /-- SOLVER_PUBLISH (R283) -/
  | solverPublish (ctx : Nat)
  /-- TILE_OFFLINE (R294): tile, cause 1 self-test, 2 memory, 3 step watchdog -/
  | tileOffline (tile cause : Nat) (at_ : Nat)
  /-- TILE_SELF_TEST (R295): tile, the test passed -/
  | tileSelfTest (tile : Nat) (passed : Bool) (at_ : Nat)
  /-- STATUS_FRAME_RECEIVE (R334): lane and frame -/
  | statusFrameReceive (lane : Nat) (f : StatusFrame) (at_ : Nat)
  /-- PARTNER_REPORT_LAPSE (R61) -/
  | partnerReportLapse
  /-- ABDICATE_FRAME_RECEIVE (R351) -/
  | abdicateFrameReceive (cause : Nat) (at_ : Nat)
  /-- ABDICATION_DETECTED (R351): two released samples (false) or one after an ABDICATE frame (true) -/
  | abdicationDetected (oneSample : Bool) (at_ : Nat)
  /-- TAKEOVER (R352) -/
  | takeover
  /-- LATENT_FAULT_WINDOW_END (R359) -/
  | latentFaultWindowEnd
  /-- REHEARSAL_OVERDUE (R359) -/
  | rehearsalOverdue
  /-- LOCKSTEP_MISMATCH (R347): core pair 0, 1 or 2 (management) -/
  | lockstepMismatch (pair : Nat) (at_ : Nat)
  /-- UNCORRECTABLE_ECC_ERROR (R532): bank 0 to 47, or 48 for DRAM; word -/
  | uncorrectableEccError (bank word : Nat) (at_ : Nat)
  /-- SINGLE_BIT_CORRECTION (R532): bank 0 to 47, or 48 for DRAM; word -/
  | singleBitCorrection (bank word : Nat) (at_ : Nat)
  /-- SCRUB_PASS (R533): bank 0 to 47, or 48 for DRAM; the words found with a single-bit error -/
  | scrubPass (bank : Nat) (corrected : List Nat) (at_ : Nat)
  /-- CLOCK_MONITOR_FAULT (R35): clock domain 0 to 12 in the order of Table 01.2 -/
  | clockMonitorFault (domain : Nat) (at_ : Nat)
  /-- SUPPLY_MONITOR_FAULT (R578) -/
  | supplyMonitorFault (at_ : Nat)
  /-- INTERNAL_RAILS_OFF (R578) -/
  | internalRailsOff
  /-- LOGIC_FEED_LOW (R577): feed 0 L+A, 1 L+B; its voltage, binary64 -/
  | logicFeedLow (feed : Nat) (volts : F64) (at_ : Nat)
  /-- LOGIC_FEED_RESTORED (R577) -/
  | logicFeedRestored (feed : Nat) (at_ : Nat)
  /-- LANE_DOWN (R338) -/
  | laneDown (lane : Nat) (at_ : Nat)
  /-- LANE_UP (R338) -/
  | laneUp (lane : Nat) (at_ : Nat)
  /-- LINK_UP_NEGOTIATION (R364): the partner's LV range, its MF list, and the items an older format lacks -/
  | linkUpNegotiation (lvLow lvHigh : Nat) (mf : List (Nat × Nat)) (missing : W32) (at_ : Nat)
  /-- MORTAR_TICK_FRAME_RECEIVE (R342) -/
  | mortarTickFrameReceive (f : TickMortar)
  /-- MORTAR_FRAME_RECEIVE (R343): the frame's CRC is right, and the frame -/
  | mortarFrameReceive (crcOk : Bool) (m : Mortar) (at_ : Nat)
  /-- MORTAR_STALE (R344) -/
  | mortarStale (cls : Nat) (at_ : Nat)
  /-- BULK_COPY_START (R361): bytes to copy -/
  | bulkCopyStart (bytes : Nat) (at_ : Nat)
  /-- TRACK_REACHED (R362) -/
  | trackReached (at_ : Nat)
  /-- SAFETY_DECISION (R385): per safety channel A, B a cause of loss found in this tick (0 none, 1 self-test, 2 watchdog,
  3 lockstep compare), and whether its compare data has arrived (R371) -/
  | safetyDecision (lossA lossB : Nat) (dataA dataB : Bool)
  /-- PARTNER_AXIS_STATE_RECEIVE (R383): per axis its state, start tick and start speed -/
  | partnerAxisStateReceive (axes : List (Nat × Nat × F64))
  /-- TEST_PULSE (R374): input, channel 0 a or 1 b, and whether it reads closed in the window -/
  | testPulse (input channel : Nat) (readsClosed : Bool) (at_ : Nat)
  /-- PERMIT_OFF_PULSE (R381): axis, switch 0 a or 1 b; the output reads below 5 V while off, and on while commanded on -/
  | permitOffPulse (axis switch : Nat) (below on : Bool) (at_ : Nat)
  /-- SAFETY_RESET (R392): the source the reset came from: 0 button, 1 safety input, 2 ring connection -/
  | safetyReset (source : Nat) (at_ : Nat)
  /-- RING_SAFETY_WATCHDOG (R389) -/
  | ringSafetyWatchdog (conn : Nat)
  /-- DEGRADED_EXPIRY_NEAR (R393) -/
  | degradedExpiryNear (at_ : Nat)
  /-- DEGRADED_EXPIRY (R393) -/
  | degradedExpiry (at_ : Nat)
  /-- DIGITAL_INPUT_CHANGE (R404): channel 0 to 47, new filtered level, vessel time of the change in ns -/
  | digitalInputChange (channel : Nat) (level : Bool) (changedNs : Nat)
  /-- SOE_READ (R406) -/
  | soeRead (r : Req)
  /-- OUTPUT_OVERLOAD (R407) -/
  | outputOverload (channel : Nat) (at_ : Nat)
  /-- OUTPUT_OVERTEMP (R407) -/
  | outputOvertemp (channel : Nat) (at_ : Nat)
  /-- OUTPUT_RETRY (R408): the junction has cooled below 135 °C -/
  | outputRetry (channel : Nat) (cooled : Bool)
  /-- CHANNEL_CLEAR (R408) -/
  | channelClear (r : Req) (kk : Nat) (value : W32)
  /-- GROUP_OVERCURRENT (R409): group 1 to 6, the channels switched off in order of their current -/
  | groupOvercurrent (group : Nat) (channels : List Nat) (at_ : Nat)
  /-- OPEN_WIRE (R410): channel, the condition that has lasted 80 latches -/
  | openWire (channel : Nat) (open_ : Bool)
  /-- FIELD_FEED_LOW (R411): group 1 to 6 -/
  | fieldFeedLow (group : Nat)
  /-- FIELD_FEED_RESTORED (R411) -/
  | fieldFeedRestored (group : Nat)
  /-- READBACK_FAILURE (R413): channel number kk of Table 12.4 -/
  | readbackFailure (kk : Nat)
  /-- ANALOGUE_UNDER_RANGE (R416): AI 0 to 15 -/
  | analogueUnderRange (ai : Nat)
  /-- ANALOGUE_OVER_RANGE (R416) -/
  | analogueOverRange (ai : Nat)
  /-- ANALOGUE_RANGE_CLEAR (R416) -/
  | analogueRangeClear (ai : Nat)
  /-- COMPLIANCE_LOST (R422): AO 0 to 7 -/
  | complianceLost (ao : Nat)
  /-- COMPLIANCE_REGAINED (R422) -/
  | complianceRegained (ao : Nat)
  /-- POSITION_SIGNAL_FAULT (R425): POS 0 or 1 -/
  | positionSignalFault (pos : Nat)
  /-- POSITION_SIGNAL_CLEAR (R425) -/
  | positionSignalClear (pos : Nat)
  /-- LOGIC_SILENCE (R429) -/
  | logicSilence (at_ : Nat)
  /-- FIELD_CONTROLLER_WATCHDOG (R429) -/
  | fieldControllerWatchdog (at_ : Nat)
  /-- TRIM_MODE_WRITE (R421) -/
  | trimModeWrite (r : Req) (mask : Byte)
  /-- TRIM_CURRENT_WRITE (R421) -/
  | trimCurrentWrite (r : Req) (ao : Nat) (value : F64)
  /-- RING_INPUT_FRAME_RECEIVE (R442) -/
  | ringInputFrameReceive (f : RingFrame)
  /-- RING_CYCLE_MISSED (R442) -/
  | ringCycleMissed (station : Nat)
  /-- RING_CLOSED (R437) -/
  | ringClosed
  /-- RING_LINK_UP (R451): the answers to DISCOVER -/
  | ringLinkUp (answers : List Discovered) (at_ : Nat)
  /-- STATION_JOIN (R452) -/
  | stationJoin (station : Nat)
  /-- HOP_SPEED_NEGOTIATED (R436): hop, both ends gen 2, comes up at 1 Gbit/s -/
  | hopSpeedNegotiated (hop : Nat) (bothGen2 : Bool) (gigabit : Bool) (at_ : Nat)
  /-- CAN_FRAME_RECEIVED (R462) -/
  | canFrameReceived (f : CanFrame) (at_ : Nat)
  /-- CAN_RECEIVE_SLOT_TIMEOUT (R464) -/
  | canReceiveSlotTimeout (slot : Nat)
  /-- SYS_CAN_CANCEL (R469): the handle whose cancel reaches the controller -/
  | sysCanCancel (handle : Nat) (at_ : Nat)
  /-- CAN_SELECTION_POINT (R466) -/
  | canSelectionPoint (port : Nat) (at_ : Nat)
  /-- CAN_TRANSMIT_END (R466): 0 success, 1 lost arbitration, 2 error; vessel time at the CAN clock edge at which the controller
  drove the start of frame (R470) -/
  | canTransmitEnd (port result : Nat) (stampNs : Nat) (stampFrac : W16) (at_ : Nat)
  /-- CAN_LAUNCH_LATE (R468) -/
  | canLaunchLate (port : Nat) (at_ : Nat)
  /-- CAN_RECOVER (R474) -/
  | canRecover (r : Req) (port : Nat)
  /-- CAN_RECOVERY_COMPLETE (R473) -/
  | canRecoveryComplete (port : Nat) (at_ : Nat)
  /-- FLUSH_FIFO (R474) -/
  | flushFifo (r : Req) (port : Nat)
  /-- FLUSH_LAUNCH (R474) -/
  | flushLaunch (r : Req) (port : Nat)
  /-- FLUSH_ALL (R474) -/
  | flushAll (r : Req) (port : Nat)
  /-- LAN_LINK_DOWN (R485): port 0 LAN A, 1 LAN B, 2 service -/
  | lanLinkDown (port : Nat) (at_ : Nat)
  /-- LAN_LINK_UP (R485): port, 1 for 100 Mbit/s, 2 for 1 Gbit/s -/
  | lanLinkUp (port speed : Nat) (at_ : Nat)
  /-- PTP_MEASUREMENT (R491): port 1 LAN A, 2 LAN B; grandmaster; its clockClass and stepsRemoved; offset in ns by
  the stamps as the MAC took them (R489) -/
  | ptpMeasurement (port : Nat) (gm : W64) (cls steps : Nat) (offset : Int) (at_ : Nat)
  /-- ANNOUNCE_TIMEOUT (R491) -/
  | announceTimeout (at_ : Nat)
  /-- TIME_SLEW (R495) -/
  | timeSlew (r : Req) (rate : Nat)
  /-- TIME_STEP (R496) -/
  | timeStep (r : Req)
  /-- TIME_REJECT (R495) -/
  | timeReject (r : Req)
  /-- HALT_SLEW (R495) -/
  | haltSlew (r : Req)
  /-- SESSION_OPEN (R501): interface 0 plant, 1 service, 2 USB; to the role address; MIN_GEN, MAX_GEN; the authority
  slot under which the host certificate was verified, if any -/
  | sessionOpen (iface : Nat) (role : Bool) (minGen maxGen : Nat) (authority : Option Nat) (seq : W32) (at_ : Nat)
  /-- SESSION_CLOSE (R502) -/
  | sessionClose (r : Req)
  /-- SESSION_IDLE_TIMEOUT (R502) -/
  | sessionIdleTimeout (session : Nat)
  /-- STREAM_EVENTS (R526) -/
  | streamEvents (r : Req) (op : Nat) (mask : Byte) (fromSeq : W32)
  /-- SUBSCRIBE (R520) -/
  | subscribe (r : Req) (object : W32) (action minTicks : Nat)
  /-- BATCH_WRITE (R524) -/
  | batchWrite (r : Req) (entries : List BatchEntry)
  /-- EVENT_RECORDS_READ (R525) -/
  | eventRecordsRead (r : Req)
  /-- OBJECT_WRITE (R511) -/
  | objectWrite (r : Req) (object : W32) (data : Bytes)
  /-- INTRUSION (R538): mesh (else lid switch) -/
  | intrusion (mesh : Bool) (at_ : Nat)
  /-- ENVIRONMENTAL_WIPE (R538): cause coded as LAST_WIPE, 4 to 7 -/
  | environmentalWipe (cause : Nat) (at_ : Nat)
  /-- IDENTITY_KEY_RELOAD (R538) -/
  | identityKeyReload (at_ : Nat)
  /-- SIGNER_ENROL (R541): slot, 120 bytes of Table 17.7 -/
  | signerEnrol (r : Req) (slot : Nat) (data : Bytes)
  /-- AUTHORITY_ENROL (R541): slot, certificate or nothing -/
  | authorityEnrol (r : Req) (slot : Nat) (cert : Bytes)
  /-- ENROLMENT_TIMEOUT (R541) -/
  | enrolmentTimeout
  /-- FRAME_PAIR_BOUNDARY (R553) -/
  | framePairBoundary (at_ : Nat)
  /-- NTC_READ (R547): panel temperature in units of 0.1 °C -/
  | ntcRead (deciC : Int) (at_ : Nat)
  /-- CRACK_LOOP_MEASURE (R558): resistance in Ω, coupling with the test current off, mV -/
  | crackLoopMeasure (ohms mv : Nat) (at_ : Nat)
  /-- LAMP_TEST (R561) -/
  | lampTest (r : Req)
  /-- JOURNAL_BLOCK_CLOSE (R571) -/
  | journalBlockClose (at_ : Nat)
  /-- JOURNAL_WRITE_COMPLETE (R570): the read-back passed -/
  | journalWriteComplete (readBackOk : Bool) (at_ : Nat)
  /-- DIE_TEMPERATURE_WARNING (R590): die temperature in °C -/
  | dieTemperatureWarning (celsius : Int) (at_ : Nat)
  /-- CAN_BUS_ERROR (R472): port; the rise of the receive error counter that ISO 11898-1 gives this error -/
  | canBusError (port rise : Nat) (at_ : Nat)
  /-- FORWARDING_RECEIVE (R201) -/
  | forwardingReceive (f : Forward) (at_ : Nat)
  /-- FIRMWARE_LOAD (R365): stage 1 to 6, code, whether its signature verifies under Svangegor's key (R96), version -/
  | firmwareLoad (stage : Nat) (code : Bytes) (signed : Bool) (version : W32)
  /-- GRATUITOUS_ARP_REPEAT (R484) -/
  | gratuitousArpRepeat (at_ : Nat)
  /-- HOLDOVER_CLOCK_CLASS_CHANGE (R487) -/
  | holdoverClockClassChange (at_ : Nat)
  /-- PRP_SUPERVISION_FRAME (R481): LAN 0 or 1; the peer's MAC -/
  | prpSupervisionFrame (lan : Nat) (peer : Nat) (at_ : Nat)
  deriving DecidableEq, Repr

end Sys2Proof
end

