-- ==== Sys2Proof/Decode.lean ====
section
/-! DEFINITION. Commands spelled by words: spec/opcode_table.json gives no row any bits, so no word spells a command. -/

namespace Sys2Proof

/-- The command that `nbits` bits of `w` spell by the opcode table. The table gives none of its 191 rows bits (every
`fields` is empty) and the commands of the block are happenings and host requests (R503, R511), so the answer is none. -/
def decodeTableWord (nbits w : Nat) : Option Instr :=
  match nbits, w with
  | _, _ => none

end Sys2Proof
end

