-- ==== Sys2Proof/Machine/Bytes.lean ====
section
/-! DEFINITION. Byte blocks: little-endian fields (R24), the CRCs of R105, R107, R336 and R389, and SHA-384 and SHA-512
(R95, R110). -/

namespace Sys2Proof.Machine

/-- The little-endian value of a list of bytes (R24). -/
def leVal : Bytes → Nat
  | [] => 0
  | b :: bs => b.toNat + 256 * leVal bs

/-- `n` bytes from offset `off`; an erased or missing byte at the end is left out. -/
def slice (b : Bytes) (off n : Nat) : Bytes := (b.drop off).take n

/-- The little-endian field of `n` bytes at offset `off` (R24). -/
def le (b : Bytes) (off n : Nat) : Nat := leVal (slice b off n)

/-- `n` bytes that hold `v`, little-endian (R24). -/
def toLe : Nat → Nat → Bytes
  | 0, _ => []
  | n + 1, v => BitVec.ofNat 8 v :: toLe n (v / 256)

/-- Every byte of `n` bytes at `off` is 0. -/
def zeroAt (b : Bytes) (off n : Nat) : Bool := (slice b off n).all (· == 0)

/-- One byte of a reflected 32-bit CRC with polynomial `poly` (bit-reversed). -/
def crcByte (poly : BitVec 32) (c : BitVec 32) (b : Byte) : BitVec 32 :=
  (List.range 8).foldl (fun a _ => if a.getLsbD 0 then (a >>> 1) ^^^ poly else a >>> 1) (c ^^^ b.setWidth 32)

/-- A reflected CRC-32 with initial value 0xFFFF_FFFF and final complement. -/
def crc32 (poly : BitVec 32) (bs : Bytes) : W32 := ~~~ (bs.foldl (crcByte poly) 0xFFFFFFFF#32)

/-- CRC-32C (R105, R107, R336): polynomial 0x1EDC_6F41, reflected. -/
def crc32c (bs : Bytes) : W32 := crc32 0x82F63B78#32 bs

/-- The safety CRC of R389: polynomial 0xF4AC_FB13, initial value 0xFFFF_FFFF and final complement; reflected as the
other CRCs of the module (PRESUMED, notes/assumptions). -/
def crcSafety (bs : Bytes) : W32 := crc32 0xC8DF352F#32 bs

/-- The 80 round constants of SHA-384 and SHA-512 (FIPS 180-4). -/
def sha2Rounds : List (BitVec 64) :=
  [0x428a2f98d728ae22, 0x7137449123ef65cd, 0xb5c0fbcfec4d3b2f, 0xe9b5dba58189dbbc,
    0x3956c25bf348b538, 0x59f111f1b605d019, 0x923f82a4af194f9b, 0xab1c5ed5da6d8118]
  ++ [0xd807aa98a3030242, 0x12835b0145706fbe, 0x243185be4ee4b28c, 0x550c7dc3d5ffb4e2,
    0x72be5d74f27b896f, 0x80deb1fe3b1696b1, 0x9bdc06a725c71235, 0xc19bf174cf692694]
  ++ [0xe49b69c19ef14ad2, 0xefbe4786384f25e3, 0x0fc19dc68b8cd5b5, 0x240ca1cc77ac9c65,
    0x2de92c6f592b0275, 0x4a7484aa6ea6e483, 0x5cb0a9dcbd41fbd4, 0x76f988da831153b5]
  ++ [0x983e5152ee66dfab, 0xa831c66d2db43210, 0xb00327c898fb213f, 0xbf597fc7beef0ee4,
    0xc6e00bf33da88fc2, 0xd5a79147930aa725, 0x06ca6351e003826f, 0x142929670a0e6e70]
  ++ [0x27b70a8546d22ffc, 0x2e1b21385c26c926, 0x4d2c6dfc5ac42aed, 0x53380d139d95b3df,
    0x650a73548baf63de, 0x766a0abb3c77b2a8, 0x81c2c92e47edaee6, 0x92722c851482353b]
  ++ [0xa2bfe8a14cf10364, 0xa81a664bbc423001, 0xc24b8b70d0f89791, 0xc76c51a30654be30,
    0xd192e819d6ef5218, 0xd69906245565a910, 0xf40e35855771202a, 0x106aa07032bbd1b8]
  ++ [0x19a4c116b8d2d0c8, 0x1e376c085141ab53, 0x2748774cdf8eeb99, 0x34b0bcb5e19b48a8,
    0x391c0cb3c5c95a63, 0x4ed8aa4ae3418acb, 0x5b9cca4f7763e373, 0x682e6ff3d6b2b8a3]
  ++ [0x748f82ee5defb2fc, 0x78a5636f43172f60, 0x84c87814a1f0ab72, 0x8cc702081a6439ec,
    0x90befffa23631e28, 0xa4506cebde82bde9, 0xbef9a3f7b2c67915, 0xc67178f2e372532b]
  ++ [0xca273eceea26619c, 0xd186b8c721c0c207, 0xeada7dd6cde0eb1e, 0xf57d4f7fee6ed178,
    0x06f067aa72176fba, 0x0a637dc5a2c898a6, 0x113f9804bef90dae, 0x1b710b35131c471b]
  ++ [0x28db77f523047d84, 0x32caab7b40c72493, 0x3c9ebe0a15c9bebc, 0x431d67c49c100d4c,
    0x4cc5d4becb3e42b6, 0x597f299cfc657e2a, 0x5fcb6fab3ad6faec, 0x6c44198c4a475817]

/-- SHA-512's initial hash value. -/
def sha512Init : List (BitVec 64) :=
  [0x6a09e667f3bcc908, 0xbb67ae8584caa73b, 0x3c6ef372fe94f82b, 0xa54ff53a5f1d36f1,
   0x510e527fade682d1, 0x9b05688c2b3e6c1f, 0x1f83d9abfb41bd6b, 0x5be0cd19137e2179]

/-- SHA-384's initial hash value. -/
def sha384Init : List (BitVec 64) :=
  [0xcbbb9d5dc1059ed8, 0x629a292a367cd507, 0x9159015a3070dd17, 0x152fecd8f70e5939,
   0x67332667ffc00b31, 0x8eb44a8768581511, 0xdb0c2e0d64f98fa7, 0x47b5481dbefa4fa4]

/-- The big-endian value of a list of bytes. -/
def beVal (bs : Bytes) : Nat := bs.foldl (fun a b => a * 256 + b.toNat) 0

/-- `n` bytes that hold `v`, big-endian. -/
def toBe (n v : Nat) : Bytes := (toLe n v).reverse

/-- The next word of SHA-2's message schedule, from the last 16 words, newest first. -/
def sha2Word (w : List (BitVec 64)) : BitVec 64 :=
  let a := w.getD 14 0
  let b := w.getD 1 0
  (b.rotateRight 19 ^^^ b.rotateRight 61 ^^^ (b >>> 6)) + w.getD 6 0 +
    (a.rotateRight 1 ^^^ a.rotateRight 8 ^^^ (a >>> 7)) + w.getD 15 0

/-- One round of SHA-2 over the working variables a to h. -/
def sha2Round (v : List (BitVec 64)) (k w : BitVec 64) : List (BitVec 64) :=
  match v with
  | [a, b, c, d, e, f, g, h] =>
    let t1 := h + (e.rotateRight 14 ^^^ e.rotateRight 18 ^^^ e.rotateRight 41) + ((e &&& f) ^^^ (~~~ e &&& g)) + k + w
    let t2 := (a.rotateRight 28 ^^^ a.rotateRight 34 ^^^ a.rotateRight 39) + ((a &&& b) ^^^ (a &&& c) ^^^ (b &&& c))
    [t1 + t2, a, b, c, d + t1, e, f, g]
  | _ => v

/-- The rounds over the remaining constants; `w` holds the last 16 schedule words, newest first. -/
def sha2Rounds16 : List (BitVec 64) → List (BitVec 64) → List (BitVec 64) → List (BitVec 64)
  | [], _, v => v
  | k :: ks, w, v => sha2Rounds16 ks ((sha2Word w :: w).take 16) (sha2Round v k (w.getD 15 0))

/-- One 128-byte block. -/
def sha2Block (h : List (BitVec 64)) (b : Bytes) : List (BitVec 64) :=
  let w := (List.range 16).map fun i => BitVec.ofNat 64 (beVal (slice b (8 * i) 8))
  List.zipWith (· + ·) h (sha2Rounds16 sha2Rounds w.reverse h)

/-- The blocks of a padded message. -/
def sha2Blocks : Nat → List (BitVec 64) → Bytes → List (BitVec 64)
  | 0, h, _ => h
  | n + 1, h, b => sha2Blocks n (sha2Block h (b.take 128)) (b.drop 128)

/-- A message with its padding to whole 128-byte blocks. -/
def sha2Pad (m : Bytes) : Bytes :=
  m ++ [0x80] ++ List.replicate ((239 - m.length % 128) % 128) 0 ++ toBe 16 (8 * m.length)

/-- SHA-512 (64 bytes). -/
def sha512 (m : Bytes) : Bytes :=
  let p := sha2Pad m
  (sha2Blocks (p.length / 128) sha512Init p).flatMap fun w => toBe 8 w.toNat

/-- SHA-384 (48 bytes; R95, R105). -/
def sha384 (m : Bytes) : Bytes :=
  let p := sha2Pad m
  ((sha2Blocks (p.length / 128) sha384Init p).flatMap fun w => toBe 8 w.toNat).take 48

/-- A list of bytes cut or filled with zeros to n. -/
def padTo (n : Nat) (b : Bytes) : Bytes := (b ++ List.replicate n 0).take n

end Sys2Proof.Machine
end

