-- ==== Sys2Proof/Config.lean ====
section
/-! DEFINITION. What the spec leaves open: the free values of the model. Each is an opaque constant without a body, so
that no proof can use a value of it (notes/assumptions names each one). -/

namespace Sys2Proof.Config

/-- The payload bits of the quiet NaN that an operation produces: the spec asks for "a quiet NaN" only (R261, R265). -/
opaque qnanPayload : BitVec 51

/-- The sign bit of that quiet NaN. -/
opaque qnanSign : BitVec 1

/-- The sine used by CHIRP and MULTISINE (R256), whose rounding the spec does not state. -/
opaque sin : F64 → F64

/-- The natural logarithm used by a logarithmic CHIRP (R256), whose rounding the spec does not state. -/
opaque ln : F64 → F64

/-- The power used by a logarithmic CHIRP (R256), whose rounding the spec does not state. Arguments: base, exponent. -/
opaque pow : F64 → F64 → F64

/-- The bytes of the boot ROM report measured into K0 (Table 03.1): its items are named, its layout is not stated.
Arguments: life-cycle code, tamper latch, start cause (true: power-on), base slot. -/
opaque k0Report : Nat → Bool → Bool → Nat → Bytes

/-- ECDSA P-384 signature of a quote by the device identity key (R100): identity key, bytes 0x000 to 0x1EF. Result: r and
s. -/
opaque quoteSignature : Bytes → Bytes → BitVec 384 × BitVec 384

/-- The code of a mode change's cause in EV008 (R64): the spec gives the event a cause and no coding of it. -/
opaque modeCauseCode : Nat → W32

/-- The coding of a combination of mode, role, injection and mirage attributes in EV010 (R75). -/
opaque comboCode : Nat → Nat → Bool → Bool → W32

/-- The name of a datum in events whose content names "the first datum" (EV073, EV105, EV133): no coding is stated. -/
opaque datumCode : Nat → Nat → W32

/-- The code of an item in an event's content where the spec names the item and states no coding (EV129's cause, EV134's
requester and others). Arguments: the event, the case. -/
opaque argCode : Nat → Nat → W32

/-- The final STATUS of a request that was ACCEPTED and ends without its effect, where the spec states none (R514).
Arguments: the kind of request, the case. -/
opaque finalCode : Nat → Nat → Nat

/-- The integral accumulator when an increment is not finite or a result leaves the 96 bits of R210: no result is stated.
Arguments: the increment or the result, the accumulator before it. -/
opaque accOverflow : F64 → Int → BitVec 96

/-- The raw value that a loop output takes in an output of another type than LREAL and REAL (no conversion is stated).
Arguments: the type, the output. -/
opaque loopRaw : Nat → F64 → W64

/-- The code of the detection path in EV039 (R352): no coding is stated. Argument: an ABDICATE frame had arrived. -/
opaque detectionPathCode : Bool → W32

/-- Which of two whole numbers is "the nearest" to a half (R554, R556): no rule is stated. Argument: the lower one. -/
opaque tieUp : Nat → Bool

/-- The range of link protocol versions that this firmware supports, lowest and highest (R364): no number is stated. -/
opaque lvRange : Nat × Nat

/-- The mortar formats, major and minor, that this firmware supports (R364): no number is stated. -/
opaque mfList : List (Nat × Nat)

/-- Bytes of a class 3 frame, and of the settings and mirages in a base course's set, by the number of items that it carries
(R341, Table 10.6 counts them as one reserve; no layout is stated). -/
opaque changeFrameBytes : Nat → Nat

/-- Bytes of a STATUS or ABDICATE frame (1), of the safety compare's frame (2) and of the versions frame (7): no layout is
stated; each is one frame. -/
opaque frameBytes : Nat → Nat

/-- Plynlin's stage ordering of a class D context (R308): no record of the spec carries it. Argument: the context's record.
Result: element numbers, variables j and rows 0x1000 + i. -/
opaque stageOrder : Bytes → List Nat

/-- Late outputs of a station (R441, R456): the station counts them, and no field of a ring frame brings the count to the
module. By station and tick. -/
opaque lateOutputs : Nat → Nat → W32

/-- A ring station's IDENT found is accepted for the IDENT declared (R451: type equal, revision not below): the spec does
not state which bits hold type and revision. Arguments: declared, found. -/
opaque identAccepts : BitVec 32 → BitVec 32 → Bool

/-- The drive's speed that 0x8005_000j reports for an axis without a drive connection (R396): none is stated. -/
opaque noDriveSpeed : Nat → F64

/-- Serial number of the module, 16 bytes of ASCII (Table 16.3): an item of the single unit. -/
opaque serialNumber : Bytes

/-- Hardware revision of the module (Table 16.3). -/
opaque hardwareRevision : Nat

/-- Version of the boot ROM (Table 16.3). -/
opaque bootRomVersion : W32

/-- Mean path delay in ns and frequency correction in ppb at a tick (Table 15.10): the spec states no control law of the
servo from which they would follow. -/
opaque pathDelay : Nat → F64
opaque frequencyCorrection : Nat → F64

/-- SEQUENCE (0, 1) and FLAGS (2, 3) of banks A and B while no Image Key is present (R106, R113): none is stated. -/
opaque absentBankWord : Nat → W64

/-- V_OP as measured at a tick (Table 18.8): a measurement that no command brings. -/
opaque vopMeasured : Nat → F64

/-- The phase of the management core's own flash timer before the tick counter runs (R81): lit in slow and in fast flash.
Argument: ticks of 125 µs passed in the model's count. -/
opaque coreFlash : Nat → Bool × Bool

/-- What the bricks of an abandoned activation have done before it was abandoned (R131, R141, R148, R164): native code, whose
progress no command brings. Arguments: the k-th open choice, the course. -/
opaque leftRelease : Nat → Nat → Release

/-- The value that a step reads for the k-th open choice it meets (a byte order of two simultaneous things, a host-side
choice): plain counter in, free word out. -/
opaque freeWord : Nat → W64

end Sys2Proof.Config
end

