-- ==== Sys2Proof/Machine/Float64.lean ====
section
/-! DEFINITION. IEEE 754 binary64 arithmetic (R209, R242, R304): round to nearest, ties to even, exact intermediate
results on integers, narrowed once at the end. -/

namespace Sys2Proof.Machine

/-- What 64 bits stand for: not a number, an infinity, or (−1)^neg · m · 2^e. -/
inductive FV where
  | nan
  | inf (neg : Bool)
  | fin (neg : Bool) (m : Nat) (e : Int)
  deriving DecidableEq, Repr

/-- The value that a format with `p` − 1 fraction bits and `w` exponent bits gives the bits `n`. -/
def fvOf (p w n : Nat) : FV :=
  let neg := n.testBit (p - 1 + w)
  let ex := n / 2 ^ (p - 1) % 2 ^ w
  let fr := n % 2 ^ (p - 1)
  let bias : Int := 2 ^ (w - 1) - 1 + (p - 1)
  if ex = 2 ^ w - 1 then (if fr = 0 then .inf neg else .nan)
  else if ex = 0 then .fin neg fr (1 - bias)
  else .fin neg (2 ^ (p - 1) + fr) (ex - bias)

/-- The bits of (−1)^neg · (m + s) · 2^e, where 0 ≤ s < 1 and `sticky` says s ≠ 0, rounded to nearest even. -/
def fPack (p w : Nat) (neg : Bool) (m : Nat) (e : Int) (sticky : Bool) : Nat :=
  let sg := if neg then 2 ^ (p - 1 + w) else 0
  let bias : Int := 2 ^ (w - 1) - 1 + (p - 1)
  if m = 0 then sg
  else
    let len : Int := Nat.log2 m + 1
    let sh := max (len - p) (1 - bias - e)
    let q := if sh ≤ 0 then m * 2 ^ (-sh).toNat else
      let d := 2 ^ sh.toNat
      let r := m % d
      let up := decide (d < 2 * r) || (decide (2 * r = d) && (sticky || decide (m / d % 2 = 1)))
      m / d + (if up then 1 else 0)
    let carry := decide (q = 2 ^ p)
    let q := if carry then 2 ^ (p - 1) else q
    let ex := e + sh + bias + (if carry then 1 else 0)
    if q < 2 ^ (p - 1) then sg + q
    else if 2 ^ w - 1 ≤ ex then sg + (2 ^ w - 1) * 2 ^ (p - 1)
    else sg + ex.toNat * 2 ^ (p - 1) + (q - 2 ^ (p - 1))

/-- The value of a binary64. -/
def fv (x : F64) : FV := fvOf 53 11 x.toNat

/-- The quiet NaN that an operation gives: its sign and payload are free (Config). -/
def fNaN : F64 := Config.qnanSign ++ (0xFFF#12 ++ Config.qnanPayload)

/-- The infinity of a sign. -/
def fInf (neg : Bool) : F64 := if neg then 0xFFF0000000000000 else 0x7FF0000000000000

/-- The binary64 nearest to (−1)^neg · (m + s) · 2^e. -/
def fRound (neg : Bool) (m : Nat) (e : Int) (sticky : Bool := false) : F64 := BitVec.ofNat 64 (fPack 53 11 neg m e sticky)

/-- The binary64 nearest to i · 2^e; 0 is +0. -/
def fScaled (i : Int) (e : Int) : F64 := fRound (decide (i < 0)) i.natAbs e

/-- The binary64 nearest to an integer. -/
def fOfInt (i : Int) : F64 := fScaled i 0

/-- The binary64 nearest to the quotient of an integer and a positive integer. -/
def fOfRat (i : Int) (d : Nat) : F64 :=
  let m := i.natAbs * 2 ^ (Nat.log2 d + 60)
  fRound (decide (i < 0)) (4 * (m / d)) (-(Nat.log2 d + 60 : Nat) - 2) (decide (m % d ≠ 0))

/-- The value is a NaN. -/
def fIsNaN (x : F64) : Bool := fv x == .nan

/-- The value is finite. -/
def fIsFinite (x : F64) : Bool :=
  match fv x with
  | .fin _ _ _ => true
  | _ => false

/-- Sign reversed. -/
def fNeg (x : F64) : F64 := x ^^^ 0x8000000000000000#64

/-- Magnitude. -/
def fAbs (x : F64) : F64 := x &&& 0x7FFFFFFFFFFFFFFF#64

/-- The signed integer of a sign and a magnitude. -/
def sgnInt (neg : Bool) (m : Nat) : Int := if neg then -(m : Int) else m

/-- Two finite values as integers over one power of two. -/
def fAlign (n1 : Bool) (m1 : Nat) (e1 : Int) (n2 : Bool) (m2 : Nat) (e2 : Int) : Int × Int × Int :=
  let e := min e1 e2
  (sgnInt n1 (m1 * 2 ^ (e1 - e).toNat), sgnInt n2 (m2 * 2 ^ (e2 - e).toNat), e)

/-- The exact sum of two values, rounded once. -/
def fvAdd (a b : FV) : F64 :=
  match a, b with
  | .nan, _ => fNaN
  | _, .nan => fNaN
  | .inf x, .inf y => if x = y then fInf x else fNaN
  | .inf x, .fin _ _ _ => fInf x
  | .fin _ _ _, .inf y => fInf y
  | .fin n1 m1 e1, .fin n2 m2 e2 =>
    let (i, j, e) := fAlign n1 m1 e1 n2 m2 e2
    let s := i + j
    if s = 0 then (if n1 && n2 then 0x8000000000000000 else 0) else fScaled s e

/-- The exact product of two values. -/
def fvMul (a b : FV) : FV :=
  match a, b with
  | .nan, _ => .nan
  | _, .nan => .nan
  | .inf x, .inf y => .inf (x != y)
  | .inf x, .fin n m _ => if m = 0 then .nan else .inf (x != n)
  | .fin n m _, .inf y => if m = 0 then .nan else .inf (n != y)
  | .fin n1 m1 e1, .fin n2 m2 e2 => .fin (n1 != n2) (m1 * m2) (e1 + e2)

/-- A value as binary64. -/
def fOfFV : FV → F64
  | .nan => fNaN
  | .inf n => fInf n
  | .fin n m e => fRound n m e

/-- Sum. -/
def fAdd (x y : F64) : F64 := fvAdd (fv x) (fv y)

/-- Difference. -/
def fSub (x y : F64) : F64 := fAdd x (fNeg y)

/-- Product. -/
def fMul (x y : F64) : F64 := fOfFV (fvMul (fv x) (fv y))

/-- Fused multiply-add x · y + z, rounded once (R209). -/
def fFma (x y z : F64) : F64 := fvAdd (fvMul (fv x) (fv y)) (fv z)

/-- Quotient. -/
def fDiv (x y : F64) : F64 :=
  match fv x, fv y with
  | .nan, _ => fNaN
  | _, .nan => fNaN
  | .inf _, .inf _ => fNaN
  | .inf n, .fin n2 _ _ => fInf (n != n2)
  | .fin n _ _, .inf n2 => fRound (n != n2) 0 0
  | .fin n1 m1 e1, .fin n2 m2 e2 =>
    if m2 = 0 then (if m1 = 0 then fNaN else fInf (n1 != n2))
    else
      let k := 60 + Nat.log2 m2
      let a := m1 * 2 ^ k
      fRound (n1 != n2) (4 * (a / m2)) (e1 - e2 - k - 2) (decide (a % m2 ≠ 0))

/-- Order of two values; none when one is a NaN. -/
def fCmp (x y : F64) : Option Ordering :=
  match fv x, fv y with
  | .nan, _ => none
  | _, .nan => none
  | .inf a, .inf b => some (compare (if a then 0 else 1) (if b then 0 else 1))
  | .inf a, .fin _ _ _ => some (if a then .lt else .gt)
  | .fin _ _ _, .inf b => some (if b then .gt else .lt)
  | .fin n1 m1 e1, .fin n2 m2 e2 =>
    let (i, j, _) := fAlign n1 m1 e1 n2 m2 e2
    some (compare i j)

/-- x < y; false with a NaN. -/
def fLt (x y : F64) : Bool := fCmp x y == some .lt

/-- x ≤ y; false with a NaN. -/
def fLe (x y : F64) : Bool := fCmp x y == some .lt || fCmp x y == some .eq

/-- x = y as values; false with a NaN. -/
def fEq (x y : F64) : Bool := fCmp x y == some .eq

/-- The smaller and the larger of two finite values. -/
def fMin (x y : F64) : F64 := if fLt y x then y else x

/-- The larger of two finite values. -/
def fMax (x y : F64) : F64 := if fLt x y then y else x

/-- x held between lo and hi. -/
def fClamp (lo hi x : F64) : F64 := if fLt x lo then lo else if fLt hi x then hi else x

/-- The largest integer at or below a finite value; 0 for any other. -/
def fFloor (x : F64) : Int :=
  match fv x with
  | .fin n m e => if 0 ≤ e then sgnInt n m * 2 ^ e.toNat else sgnInt n m / 2 ^ (-e).toNat
  | _ => 0

/-- The integer nearest to a finite value times 2^k, ties to even; 0 for any other. -/
def fNearest (x : F64) (k : Int) : Int :=
  match fv x with
  | .fin n m e =>
    if 0 ≤ e + k then sgnInt n m * 2 ^ (e + k).toNat
    else
      let d := 2 ^ (-(e + k)).toNat
      let r := m % d
      let up := decide (d < 2 * r) || (decide (2 * r = d) && decide (m / d % 2 = 1))
      sgnInt n (m / d + (if up then 1 else 0))
  | _ => 0

/-- The value of a binary32 as binary64 (exact). -/
def f32To64 (x : BitVec 32) : F64 := fOfFV (fvOf 24 8 x.toNat)

/-- A binary64 rounded to binary32, ties to even. -/
def f64To32 (x : F64) : BitVec 32 :=
  match fv x with
  | .nan => Config.qnanSign ++ (0x1FF#9 ++ Config.qnanPayload.setWidth 22)
  | .inf n => if n then 0xFF800000 else 0x7F800000
  | .fin n m e => BitVec.ofNat 32 (fPack 24 8 n m e false)

end Sys2Proof.Machine
end

