-- ==== Sys2Proof/Machine/State.lean ====
section
/-! DEFINITION. The state of one PSC-88 module as plain data: every register, buffer, counter, mode and pin the spec
gives it, grouped by chapter; a field's default value is its value at reset (the module without power, Table 02.2). -/

namespace Sys2Proof.Machine

/-- A sparse table by number; Machine/Ops.lean gives `tget` and `tset`. An unlisted number holds the default. -/
abbrev Tab (α : Type) := List (Nat × α)

/-- The twelve major modes (R58, Table 02.1). -/
inductive Mode where
  | kiln | load | stop | sync | track | run | hold | change | degraded | oasis | halt | sealed
  deriving DecidableEq, Repr

/-- The three roles (R58, R59). -/
inductive Role where
  | solo | active | standby
  deriving DecidableEq, Repr

/-- A host request that waits for its completion (R78, R514): session index, SEQ, and the number of its session's opening,
so that a later session of the same index is not taken for it. -/
structure Origin where
  session : Nat
  seq : W32
  opening : Nat := 0
  deriving DecidableEq, Repr

/-- A mode command that was ACCEPTED and is not complete (R78): its code of Table 02.5. -/
structure PendCmd where
  code : Nat
  origin : Origin
  deriving DecidableEq, Repr

/-- A mode transition that waits for the next tick boundary (R64, R67): its rank in R67, its target, its cause, and the
code of Table 02.5 of the command that asked for it, 0 for none. -/
structure Trans where
  rank : Nat
  dest : Mode
  cause : Nat
  origin : Option Origin := none
  code : Nat := 0
  deriving DecidableEq, Repr

/-- Chapter 02: mode, role, attributes and what waits for a boundary. -/
structure ModeSt where
  /-- the logic supply is in range and the module started (Table 02.2, Power-off); reset: power-off -/
  powered : Bool := false
  /-- base slot: 0 single base, 1 or 2 on a twin base (R60, Table 10.11); reset DESIGN CHOICE 0 -/
  slot : Nat := 0
  /-- MODE (R58, Table 02.4); reset KILN, the mode entered from power-off -/
  mode : Mode := .kiln
  /-- PREV_MODE (Table 02.4); reset 0 -/
  prevMode : Mode := .kiln
  /-- ROLE (R59, Table 02.4); reset DESIGN CHOICE SOLO, the role of a module on a single base -/
  role : Role := .solo
  /-- TOKEN: the module holds its token line (R59, Table 02.4); reset 0 -/
  token : Bool := false
  /-- injection attribute (R58, R73); reset off -/
  injection : Bool := false
  /-- the mode command accepted and not complete (R78); reset none -/
  cmd : Option PendCmd := none
  /-- transitions that wait for the next boundary, in order of arrival (R67); reset none -/
  trans : List Trans := []
  /-- tick at whose boundary the accepted role swap is due (R69); reset none -/
  swapAt : Option Nat := none
  /-- the pending swap came from a reset request: KILN follows it (Table 02.8); reset no -/
  swapReset : Bool := false
  /-- the ROLE_SWAP command that waits for the swap (R78); reset none -/
  swapCmd : Option Origin := none
  /-- tick at whose boundary an honoured reset request enters KILN (Table 02.8); reset none -/
  resetAt : Option Nat := none
  /-- mode that the station held before CHANGE (Table 02.2); reset STOP -/
  beforeChange : Mode := .stop
  /-- commits apply oasis values until the first base scan after entry to RUN has ended (R142); reset no -/
  oasisUntilScan : Bool := false
  /-- the start was a power-on, not a reset (Table 03.1, K0); reset yes -/
  fromPowerOn : Bool := true
  /-- ticks for which all LEDs stay lit, in units of 125 µs (R81); reset 0 -/
  lampTicks : Nat := 0
  /-- the management core pair is able to act: no lockstep loss of it (R349); reset yes -/
  mgmtAlive : Bool := true
  /-- HALT was entered by an abdication or in LOAD or later, so the time base runs on in it (R44); reset no -/
  ticking : Bool := false
  deriving DecidableEq, Repr

/-- Chapter 02: the ACK/RESET button as sampled each tick (R82 to R87). -/
structure ButtonSt where
  /-- number of samples taken since power-on (R82); reset 0 -/
  samples : Nat := 0
  /-- level at the last sample: closed (R82); reset DESIGN CHOICE open -/
  raw : Bool := false
  /-- consecutive samples at that level (R82); reset 0 -/
  run : Nat := 0
  /-- the debounced state, if it has been determined since power-on: closed (R82, R87); reset none -/
  level : Option Bool := none
  /-- sample number of the debounced closing stamp (R83); reset 0 -/
  closedAt : Nat := 0
  /-- sample number of the debounced opening stamp (R83, R86); reset 0 -/
  openedAt : Nat := 0
  /-- BUTTON_STUCK (R86, Table 02.4); reset 0 ("measured") -/
  stuck : Bool := false
  /-- EV014 of a button found closed at power-on waits for LOAD (R87); reset no -/
  ev014Due : Bool := false
  deriving DecidableEq, Repr

/-- A firmware stage K1 to K6 in the module's non-volatile firmware store (R94, R96, R365). -/
structure FwStage where
  code : Bytes := []
  /-- its signature verifies under Svangegor's key (R96) -/
  signed : Bool := true
  version : W32 := 0
  deriving DecidableEq, Repr

/-- One record of an image body (Table 03.6). -/
structure Rec where
  type : Nat
  flags : W16
  inst : Nat
  payload : Bytes
  deriving DecidableEq, Repr

/-- An image that passed R110: its header bytes 0x000 to 0x0FF and its records. -/
structure Image where
  header : Bytes
  recs : List Rec
  deriving DecidableEq, Repr

/-- One image bank of the Image Key and its status (Table 03.8). -/
structure BankSt where
  /-- content of the bank; bytes beyond the list are erased, 0xFF (R102); reset erased -/
  bytes : Bytes := []
  /-- VALID (Table 03.8); reset 0 -/
  valid : Bool := false
  /-- FAIL_REASON (Table 03.8); reset 13, no key present -/
  failReason : Nat := 13
  /-- WRITING (Table 03.8); reset 0 -/
  writing : Bool := false
  /-- FALLBACK (Table 03.8); reset 0 -/
  fallback : Bool := false
  /-- RUNNING (Table 03.8); reset 0 -/
  running : Bool := false
  deriving DecidableEq, Repr

/-- One attestation nonce and its quote (R99). -/
structure QuoteSt where
  session : Nat
  nonce : Bytes
  /-- bytes 0x000 to 0x1EF as captured at the boundary; none before it -/
  captured : Option Bytes := none
  /-- the quote is readable -/
  ready : Bool := false
  deriving DecidableEq, Repr

/-- Chapter 03: kiln, Image Key and image selection. -/
structure KilnSt where
  /-- the SRAM clear has completed since the last KILN entry (R90); reset no -/
  sramDone : Bool := false
  /-- the DRAM clear has completed since the last KILN entry (R90); reset no -/
  dramDone : Bool := false
  /-- kiln registers K0 to K7, 48 bytes each (R94, R95); reset 48 zero bytes each (value at KILN entry) -/
  k : List Bytes := List.replicate 8 (List.replicate 48 0)
  /-- the measurement m of each of the stages 0 to 6 as kiln took it (R98); reset none -/
  measured : Tab Bytes := []
  /-- firmware stages K1 to K6 as stored (R94, R365); reset DESIGN CHOICE empty code that verifies -/
  fw : Tab FwStage := []
  /-- attestation nonces, one per session (R99); reset none -/
  quotes : List QuoteSt := []
  /-- an Image Key is present and readable (R104); reset DESIGN CHOICE absent -/
  keyPresent : Bool := false
  /-- image bank A (Table 03.3, Table 03.8) -/
  bankA : BankSt := {}
  /-- image bank B (Table 03.3, Table 03.8) -/
  bankB : BankSt := {}
  /-- both headers have been read since LOAD entry or key insertion (R111); reset no -/
  headersRead : Bool := false
  /-- bank under full check in LOAD: 0 A, 1 B (R111); reset none -/
  trying : Option Nat := none
  /-- the bank that may be tried after it (R111); reset none -/
  other : Option Nat := none
  /-- a bank tried in this selection has failed its full check (R111); reset no -/
  firstFailed : Bool := false
  /-- an image that a STANDBY writes to its spare bank for its active (R117); reset none -/
  follow : Option Bytes := none
  /-- the selected image that is being applied, with its bank (R112); reset none -/
  selected : Option (Nat × Image) := none
  /-- the selected image has been applied; the module leaves LOAD at a boundary (R112); reset no -/
  applied : Bool := false
  /-- EV035 has been raised for the applied image (Table 02.2); reset no -/
  differs : Bool := false
  /-- the running image (R112); reset none -/
  image : Option Image := none
  /-- bank that the running image came from: 0 A, 1 B (R113); reset 0 -/
  imageBank : Nat := 0
  /-- the image that an exchange put away, until the exchange ends (R176); reset none -/
  oldImage : Option Image := none
  deriving DecidableEq, Repr

/-- A settings write that has not reported DONE (R122). -/
structure PendWrite where
  origin : Origin
  index : Nat
  tick : Nat
  deriving DecidableEq, Repr

/-- A settings-complete declaration: held, or complete and waiting for its boundary (R123). -/
structure Decl where
  origin : Origin
  generation : W32
  /-- SEQs of the earlier writes of the session that have not reported DONE -/
  waits : List W32
  /-- a settings write was accepted since the declaration was accepted -/
  written : Bool := false
  deriving DecidableEq, Repr

/-- Chapter 03: settings (R119 to R125). -/
structure SettingsSt where
  /-- values in force by the low 16 bits of INDEX; an unlisted setting holds its image default (R120, R121); reset none -/
  values : Tab W64 := []
  /-- values accepted in this tick, in order of acceptance, in force from the next boundary (R121); reset none -/
  next : List (Nat × W64) := []
  /-- STATE: 0 DEFAULTED, 1 PARTIAL, 2 COMPLETE (R120, R124); reset 0 -/
  state : Nat := 0
  /-- GENERATION (R120, R124); reset 0 -/
  generation : W32 := 0
  /-- WRITTEN, saturating at 0xFFFF (Table 03.9); reset 0 -/
  written : Nat := 0
  /-- writes that wait for the class 1 mortar frame (R122); reset none -/
  waiting : List PendWrite := []
  /-- declarations held (R123); reset none -/
  held : List Decl := []
  /-- declarations complete, which set GENERATION and STATE at the next boundary (R123); reset none -/
  done : List Decl := []
  deriving DecidableEq, Repr

/-- One event record (Table 19.2): its event, stamp in ns of vessel time, class at release, and arguments. -/
structure EvRec where
  seq : W32 := 0
  stamp : Nat
  ev : Nat
  /-- the argument words that the event's row states; a missing word is 0 -/
  arg : List W32 := []
  /-- class: 0 I, 1 W, 2 A, 3 F (Table 19.1) -/
  cls : Nat := 0
  /-- time quality at detection (Table 16.6): 0 locked, 1 holdover, 2 never locked -/
  quality : Nat := 0
  deriving DecidableEq, Repr

/-- One I/O map entry of an input image: raw value, valid flag and sample tick (R139, SYS_IOSTAT). -/
structure InCell where
  value : W64 := 0
  valid : Bool := false
  sample : Nat := 0
  deriving DecidableEq, Repr

/-- One I/O map entry of the output image (R595). -/
structure OutCell where
  value : W64 := 0
  /-- the writer has released or published since the last LOAD -/
  released : Bool := false
  deriving DecidableEq, Repr

/-- One breakpoint (Table 04.5). -/
structure BreakSt where
  defined : Bool := false
  armed : Bool := false
  reached : Bool := false
  brick : Nat := 0
  /-- passes counted (R153, R154) -/
  passes : Nat := 0
  deriving DecidableEq, Repr

/-- One mirage: KIND, TYPE, BRICK, INDEX and VALUE of Table 04.6. -/
structure Mirage where
  kind : Nat
  ty : Nat
  brick : Nat
  index : Nat
  value : W64
  /-- suspended in CHANGE (R191) -/
  suspended : Bool := false
  deriving DecidableEq, Repr

/-- A place or release that waits for the class 1 mortar frame (R163). -/
structure PendMirage where
  origin : Origin
  tick : Nat
  deriving DecidableEq, Repr

/-- One region update ticket (Table 05.8). -/
structure TicketSt where
  /-- STATUS: 0 FREE, 1 ACCEPTED, 2 PENDING, 3 RUNNING, 4 DONE, 5 SUPERSEDED, 6 CANCELLED, 7 FAILED; reset 0 -/
  status : Nat := 0
  kind : Nat := 0
  index : Nat := 0
  reason : Nat := 0
  length : Nat := 0
  crc : W32 := 0
  /-- data received so far (R198) -/
  data : Bytes := []
  /-- the request that waits for its end (R198, R514); reset none -/
  origin : Option Origin := none
  /-- tick at which data last arrived (R198) -/
  lastData : Nat := 0
  /-- tick at which it became RUNNING (R249) -/
  runTick : Nat := 0
  /-- the request's session was to the role address (R117) -/
  role : Bool := false
  /-- the standby has applied or checked it (R201) -/
  partnerDone : Bool := false
  /-- the data is complete and the request waits for its check (R198) -/
  complete : Bool := false
  /-- an image-bank write is at step 2 to 5 of R115; its commit point (step 4) has passed -/
  committed : Bool := false
  deriving DecidableEq, Repr

/-- One loop context (R204 to R234). -/
structure LoopSt where
  /-- loop mode: 0 MANUAL, 1 AUTO, 2 CASCADE, 3 EXTERNAL, 4 HOLD (Table 06.4); reset from INIT_MODE at LOAD -/
  mode : Nat := 0
  /-- manual value (R225); reset DESIGN CHOICE 0 -/
  manual : F64 := 0
  /-- the 96-bit integral accumulator A (R210); reset 0 -/
  acc : Int := 0
  /-- derivative filter state d (R209); reset 0 -/
  d : F64 := 0
  /-- stored s (R209); reset 0 -/
  sPrev : F64 := 0
  /-- stored e (R209); reset 0 -/
  e : F64 := 0
  /-- stored u, u_prev (R209, R212); U_INIT at LOAD (R214); reset 0 -/
  u : F64 := 0
  /-- stored v (R209); reset 0 -/
  v : F64 := 0
  /-- SAT: 0 none, 1 high, 2 low (R212, Table 06.8); reset 0 -/
  sat : Nat := 0
  /-- direction held by SAT_HELD, 0 none (R230); reset 0 -/
  satHeld : Nat := 0
  /-- e at the swap that set SAT_HELD (R230); reset 0 -/
  heldE : F64 := 0
  /-- r_prev of the set-point ramp (R217); reset 0 -/
  rampPrev : F64 := 0
  /-- r* of the set-point ramp (R217); reset 0 -/
  rampTarget : F64 := 0
  /-- j of the set-point ramp (R217); reset 0 -/
  rampJ : Nat := 0
  /-- set-point now in force, clamped, without injection (R217, R218); reset 0 -/
  rNow : F64 := 0
  /-- CONSEC_MISS (Table 06.8); reset 0 -/
  consecMiss : Nat := 0
  /-- CONSEC_PVBAD (Table 06.8); reset 0 -/
  consecPvBad : Nat := 0
  /-- STEPPED (Table 06.8); reset 0 -/
  stepped : Bool := false
  /-- OVERRIDDEN (Table 06.8); reset 0 -/
  overridden : Bool := false
  /-- TRACKING (Table 06.8); reset 0 -/
  tracking : Bool := false
  /-- FALLEN_BACK (Table 06.8); reset 0 -/
  fallenBack : Bool := false
  /-- PV_BAD (Table 06.8); reset 0 -/
  pvBad : Bool := false
  /-- SP_HELD (Table 06.8); reset 0 -/
  spHeld : Bool := false
  /-- the next sample is a restart (R209); reset yes -/
  restart : Bool := true
  deriving DecidableEq, Repr

/-- More of one loop context: sources, requests, parameters and counters (R206 to R233). -/
structure LoopSt2 where
  /-- the next sample in a law mode is a bumpless transfer (R214); reset yes -/
  bumpless : Bool := true
  /-- tick of the last completed sample (Table 06.9); reset 0 -/
  lastTick : Nat := 0
  /-- a sample has completed since LOAD or since the context was added (R226); reset no -/
  sampled : Bool := false
  /-- r, y, e, P, I, D, F, u of the last completed sample (Table 06.9); reset 0 -/
  q : List F64 := [0, 0, 0, 0, 0, 0, 0, 0]
  /-- table term t and injected signal s of the last completed sample (R261); reset 0 -/
  qt : F64 := 0
  qs : F64 := 0
  /-- samples missed, samples with PV_BAD, swaps, fallbacks, saturating (Table 06.9); reset 0 -/
  counters : List Nat := [0, 0, 0, 0]
  /-- parameters in force, the 16 values of offsets 0x30 to 0xAF (Table 06.9); image values at LOAD; reset none -/
  params : List F64 := []
  /-- changes accepted and waiting for APPLY or for their boundary: offset, value, tick (R227, R228); reset none -/
  changes : List (Nat × F64 × Nat) := []
  /-- tick in which an APPLY was accepted (R228); reset none -/
  applyAt : Option Nat := none
  /-- visible parameter sets not yet applied, oldest first: offset, value (R228); reset none -/
  due : List (List (Nat × F64)) := []
  /-- the course or the exchange brought a whole parameter set (R187); reset none -/
  dueAll : Option (List F64) := none
  /-- host loop mode requests, oldest first: loop mode, tick of acceptance, request (R224); reset none -/
  hostReq : List (Nat × Nat × Origin) := []
  /-- visible course loop mode request (R224); reset none -/
  courseReq : Option Nat := none
  /-- SYS_LOOP reports the last course request refused (R224); reset no -/
  courseRefused : Bool := false
  /-- set-point last written by a course and loaded (R226); reset none -/
  courseSp : Option F64 := none
  /-- y of the first completed sample, held as set-point until a course writes (R226); reset none -/
  firstY : Option F64 := none
  /-- last valid process value since LOAD (R401); reset none -/
  lastY : Option F64 := none
  /-- last valid set-point (Table 06.6); reset 0 -/
  lastSp : F64 := 0
  /-- output published in the previous tick, as KIND 3 sources of another lane read it (R206); reset 0 -/
  prevOut : F64 := 0
  /-- evaluated in the tick of this number (R220); reset none -/
  doneTick : Option Nat := none
  deriving DecidableEq, Repr

/-- One compensation table (R238 to R251). -/
structure TableSt where
  /-- foreground payload of Table 07.2 (R241); image content at LOAD; reset none -/
  fore : Bytes := []
  /-- background buffer (R241, R247); reset none -/
  back : Option Bytes := none
  /-- GENERATION (Table 07.3); reset 0 -/
  generation : Nat := 0
  /-- OUT_OF_RANGE (Table 07.3); reset 0 -/
  outOfRange : Bool := false
  /-- TERM_OFF (Table 07.3); reset 0 -/
  termOff : Bool := false
  /-- OVERDUE (Table 07.3); reset 0 -/
  overdue : Bool := false
  /-- STAGED_BG (Table 07.3); reset 0 -/
  stagedBg : Bool := false
  /-- REBUILDING (Table 07.3); reset 0 -/
  rebuilding : Bool := false
  /-- tick of the last swap (R251); reset 0 -/
  swapTick : Nat := 0
  /-- duration of the last completed rebuild in ticks (R251); reset 0 -/
  duration : Nat := 0
  /-- ticket of the running rebuild (R247); reset none -/
  ticket : Option Nat := none
  /-- the local background buffer is complete (R247); reset no -/
  localDone : Bool := false
  /-- the standby has reported completion (R247); reset no -/
  partnerDone : Bool := false
  /-- tick in which the rebuild completed (R248); reset none -/
  completeTick : Option Nat := none
  deriving DecidableEq, Repr

/-- Injection of one loop context (R252 to R258). -/
structure InjSt where
  /-- STATE: 0 IDLE, 1 WAITING, 2 RUNNING, 3 ENDED, 4 STOPPED (Table 07.7); reset 0 -/
  state : Nat := 0
  /-- CAUSE (Table 07.7); reset 0 -/
  cause : Nat := 0
  /-- the command in force (Table 07.6); reset none -/
  cmd : Option InjCmd := none
  /-- samples injected (R254); reset 0 -/
  n : Nat := 0
  /-- PRBS register (R256); reset 0 -/
  prbs : Nat := 0
  /-- output bit of the PRBS now held (R256); reset 0 -/
  prbsBit : Bool := false
  /-- consecutive injected samples with SAT high or low (Table 07.7, cause 4); reset 0 -/
  satRun : Nat := 0
  /-- the START that waits for the first injected sample (R255); reset none -/
  origin : Option Origin := none
  /-- tick of the first injected sample (R262); reset none -/
  firstTick : Option Nat := none
  deriving DecidableEq, Repr

/-- The capture unit (R259 to R265). -/
structure CaptureSt where
  /-- configuration, 88 bytes of Table 07.9; reset 0 -/
  config : Bytes := []
  /-- STATE: 0 IDLE, 1 ARMED, 2 TRIGGERED, 3 DONE, 4 ABORTED (Table 07.10); reset 0 -/
  state : Nat := 0
  /-- CAUSE (Table 07.10); reset 0 -/
  cause : Nat := 0
  /-- configuration under which the rows were taken (R265); reset none -/
  rowConfig : Bytes := []
  /-- rows kept, oldest first: tick and one binary64 per enabled channel, in channel order (R259, R262); reset none -/
  rows : List (Nat × List F64) := []
  /-- tick of the trigger row (R264); reset none -/
  trigTick : Option Nat := none
  /-- rows written from the trigger row on (R262); reset 0 -/
  after : Nat := 0
  /-- FORCE_TRIGGER was given (R262); reset no -/
  forced : Bool := false
  /-- the event controller has received TRIG_EVENT since PRE rows were complete (R262); reset no -/
  evSeen : Bool := false
  /-- value of TRIG_SEL in the previous row (R262); reset none -/
  prevSel : Option F64 := none
  /-- tick from which rows are taken (R262); reset 0 -/
  fromTick : Nat := 0
  /-- tick of the last row taken (R261); reset none -/
  lastRow : Option Nat := none
  /-- tick after whose row the PRE rows were complete (R262); reset none -/
  preAt : Option Nat := none
  deriving DecidableEq, Repr

/-- Chapters 06 and 07: the loop engine. -/
structure LoopsSt where
  /-- law state of contexts 0 to 127 (R204); reset not configured -/
  l : Tab LoopSt := []
  /-- sources, requests, parameters and counters of contexts 0 to 127; reset not configured -/
  m : Tab LoopSt2 := []
  /-- compensation tables 0 to 63 (R238); reset not configured -/
  t : Tab TableSt := []
  /-- injections of contexts 0 to 127 (R252); reset idle -/
  inj : Tab InjSt := []
  /-- capture unit (R259) -/
  cap : CaptureSt := {}
  /-- largest window cycles used in any tick: lane 0, lane 1 (LANE_LOAD, R232); reset 0 -/
  laneLoad : List Nat := [0, 0]
  /-- window cycles used in the present tick: lane 0, lane 1 (R222); reset 0 -/
  laneNow : List Nat := [0, 0]
  /-- output image as the loop engine loaded it at phase 20 to 30 µs of the tick (R45); reset none -/
  loaded : Tab OutCell := []
  /-- position counts x_n of the last 64 latches, newest first, POS0 and
  POS1 (Table 07.1); reset none -/
  pos : List (List Int) := [[], []]
  /-- consecutive latches for which POS0 and POS1 have been valid since LOAD or since regaining validity (R236); reset 0 -/
  posGood : List Nat := [0, 0]
  /-- the safety override value at these I/O map entries, as of the last commit (R49, R219); reset none -/
  override : List (Nat × F64) := []
  deriving DecidableEq, Repr

/-- A frame's snapshot (R278, Table 08.8). -/
structure Snapshot where
  frame : Nat
  /-- tag values, in tag order -/
  tags : List F64
  /-- model and course parameters -/
  params : List F64
  /-- curves: payload bytes of Table 08.7, in order -/
  curves : List Bytes
  deriving DecidableEq, Repr

/-- A job in flight (R287 to R289). -/
structure JobSt where
  /-- JOB: 1 READY, 2 RUNNING, 3 PREEMPTED (Table 08.14) -/
  state : Nat
  snap : Snapshot
  /-- start tick of the deadline tick f + PERIOD − 2 -/
  deadline : Nat
  /-- lowest tile of the unit that it runs on -/
  unit : Nat
  /-- the record under which the frame started, when an exchange has replaced it since (R188) -/
  record : Bytes
  warm : Option WarmSt
  /-- instant of its release, and of the start of its present stretch on the unit, ns of the tick counter (R288) -/
  released : Nat := 0
  ranFrom : Nat := 0
  deriving DecidableEq, Repr

/-- One solver context (R270 to R302). -/
structure SolvSt where
  /-- FRAME_TICK of the publication (Table 08.9); reset 0 -/
  frameTick : Nat := 0
  /-- SOLVED_TICK (Table 08.9); reset 0 -/
  solvedTick : Nat := 0
  /-- the publication has SOLVED_TICK of a solved frame, not XINIT; reset no -/
  solved : Bool := false
  /-- STATUS (Table 08.10); reset 6 HELD -/
  status : Nat := 6
  /-- CAUSE (Table 08.10); reset 1 -/
  cause : Nat := 1
  /-- CONSEC_HELD (Table 08.10, R283); reset 0 -/
  consecHeld : Nat := 0
  /-- AGE (Table 08.10); reset 0 -/
  age : Nat := 0
  /-- STALE_TAGS (Table 08.10); reset 0 -/
  staleTags : Bool := false
  /-- FALLBACK (Table 08.10); reset 0 -/
  fallback : Bool := false
  /-- HELD (Table 08.10); reset 1 -/
  held : Bool := true
  /-- OBJECTIVE; none reads as a quiet NaN (Table 08.9); reset none -/
  objective : Option F64 := none
  /-- X as published (Table 08.9); XINIT at LOAD; reset none -/
  x : List F64 := []
  /-- MULT as published; none reads as quiet NaN (Table 08.9); reset none -/
  mult : Option (List F64) := none
  /-- last good X, multipliers and objective (R283); reset none -/
  goodX : List F64 := []
  goodMult : Option (List F64) := none
  goodObjective : Option F64 := none
  /-- SOLVED_TICK of the last good values (R283); reset 0 -/
  goodTick : Nat := 0
  /-- fresh_count (R283); reset 0 -/
  freshCount : Nat := 0
  deriving DecidableEq, Repr

/-- More of one solver context: job, parameters, warm start and counters. -/
structure SolvSt2 where
  /-- job in flight (R287); reset none -/
  job : Option JobSt := none
  /-- outcome of the frame whose end has not come, with its start tick (R283); reset none -/
  outcome : Option (Nat × Outcome9) := none
  /-- STALE_TAGS of the present frame (R279); reset no -/
  stale : Bool := false
  /-- start tick of the frame in progress (R277); reset none -/
  frame : Option Nat := none
  /-- last valid value of each tag since LOAD (R279); reset none -/
  tagLast : Tab F64 := []
  /-- tags that now take their last valid value (R279, EV164); reset none -/
  tagStale : List Nat := []
  /-- curves whose argument is clamped (R275, EV168); reset none -/
  clamped : List Nat := []
  /-- parameters in force, model and course (R274); image values at LOAD; reset none -/
  params : List F64 := []
  /-- curves in force (R274); image values at LOAD; reset none -/
  curves : List Bytes := []
  /-- course parameters released but not yet carried by a commit: index, value, commit tick (R278); reset none -/
  courseParams : List (Nat × F64 × Nat) := []
  /-- the fallback array as released before the last commit (R284); INIT at LOAD; reset none -/
  fallbackVals : List F64 := []
  /-- checked region update of kind 2 that waits for the next snapshot: ticket, payload (R276); reset none -/
  update : Option (Nat × Bytes) := none
  /-- warm-start data (R326); reset none -/
  warm : Option WarmSt := none
  /-- structure signature in force (R324); reset 0 -/
  signature : W64 := 0
  /-- conditions of EV176 to EV180 at the last job, in this order (R329); reset none -/
  conditions : List Bool := [false, false, false, false, false]
  /-- numerics report of the publication (Table 09.4): frame tick and outcome; reset none -/
  report : Option (Nat × Outcome9) := none
  /-- fresh outcomes, LATE outcomes, held publications, restarts (Table 08.16), saturating; reset 0 -/
  counters : List Nat := [0, 0, 0, 0]
  /-- lowest tile of the unit that holds the context; none while SUSPENDED (R297); home unit at LOAD; reset none -/
  unit : Option Nat := none
  /-- tick of the last snapshot (Table 08.16); reset 0 -/
  lastSnap : Nat := 0
  /-- the active's outcome as carried in mortar, with its frame (R286); reset none -/
  mortar : Option OutcomeMortar := none
  /-- that outcome came after its tick f + PERIOD − 2 (R344); reset no -/
  mortarLate : Bool := false
  deriving DecidableEq, Repr

/-- What the system bricks of an activation return "as of the activation start", captured once (R164, R165). -/
structure SysSt where
  /-- vessel time at the start tick's boundary, ns, and the time quality (SYS_TIME) -/
  ns : Nat := 0
  quality : Nat := 0
  /-- mode, role, attributes and partner mode, coded as in Table 02.4 (SYS_MODE) -/
  mode : Nat := 0
  role : Nat := 0
  injection : Bool := false
  mirages : Bool := false
  partner : Nat := 15
  /-- LAST_TIME, MAX_TIME, OVERRUNS, SKIPPED, DIV0, CONSEC (SYS_COURSE) -/
  counts : List Nat := []
  /-- settings STATE, GENERATION and values (SYS_SETTINGS) -/
  setState : Nat := 0
  generation : W32 := 0
  settings : Tab W64 := []
  /-- the loop contexts, and those whose last course request was refused (SYS_LOOP) -/
  loops : Tab LoopSt := []
  refused : List Nat := []
  /-- the publications at the start tick's boundary (SYS_SOLVER_READ) -/
  solver : Tab SolvSt := []
  /-- events queued before the activation start (SYS_EVENT_READ) -/
  queued : Nat := 0
  deriving DecidableEq, Repr

/-- One course's execution state (R133 to R146, Table 04.8, Table 04.9). -/
structure CourseSt where
  /-- STATE: 0 IDLE, 1 RUNNING, 2 READY or PREEMPTED, 3 FROZEN (Table 04.8); reset 0 -/
  state : Nat := 0
  /-- start tick of the present or last activation (R134, R151); reset 0 -/
  startTick : Nat := 0
  /-- the input image of the start tick by I/O map entry: values, valid flags and sample ticks (R138, R139); reset none -/
  image : Tab InCell := []
  /-- the global variables as they stood at the start (R140); reset none -/
  globals : Bytes := []
  /-- what the system bricks return of the activation start (R165) -/
  sys : SysSt := {}
  /-- lowest ORDER that the activation has not been seen to pass (R136); reset 0 -/
  pos : Nat := 0
  /-- the present activation was the first since entry to RUN (R143); reset no -/
  firstScan : Bool := false
  /-- no activation has ended since entry to RUN (R143); reset no -/
  firstDue : Bool := false
  /-- TAKEOVER_FIRST_SCAN of the present activation (R164, R346); reset no -/
  takeoverScan : Bool := false
  /-- no activation has ended since a takeover (R346); reset no -/
  takeoverDue : Bool := false
  /-- CONSEC (R145); reset 0 -/
  consec : Nat := 0
  /-- overran_this_activation (R145); reset no -/
  overran : Bool := false
  /-- WARNED (Table 04.8): EV096 has been raised for this scan (R144); reset 0 -/
  warned : Bool := false
  /-- TRAPPED (Table 04.8); reset 0 -/
  trapped : Bool := false
  /-- elapsed ticks of the scan, without HOLD (R144); reset 0 -/
  elapsed : Nat := 0
  /-- tick of the last phase 20 µs that counted toward `elapsed` (R144); reset 0 -/
  watchTick : Nat := 0
  /-- variable mirages in force for this course since its last activation start (R160): brick, offset, bytes; reset none -/
  forced : List (Nat × Nat × Bytes) := []
  /-- LAST_TIME in µs (Table 04.9); reset 0 -/
  lastTime : Nat := 0
  /-- MAX_TIME in µs (Table 04.9); reset 0 -/
  maxTime : Nat := 0
  /-- ACTIVATIONS (Table 04.9); reset 0 -/
  activations : Nat := 0
  /-- OVERRUNS (Table 04.9); reset 0 -/
  overruns : Nat := 0
  /-- SKIPPED (Table 04.9); reset 0 -/
  skipped : Nat := 0
  /-- DIV0 (Table 04.9); reset 0 -/
  div0 : Nat := 0
  /-- EVENTS_SUPPRESSED (Table 04.9); reset 0 -/
  suppressed : Nat := 0
  /-- calls of SYS_SOLVER_PARAM refused because their index lies below COURSE_FROM (R274); reset 0 -/
  paramRefused : Nat := 0
  /-- stretches of execution of the last 8,000 ticks: start and end in ns of the tick counter (LOAD, Table 04.9); reset
  none -/
  busy : List (Nat × Nat) := []
  /-- start of the present stretch, ns of the tick counter; a HOLD ends a stretch (R144, R155); reset 0 -/
  from_ : Nat := 0
  /-- length of the activation's stretches before the present one, ns; reset 0 -/
  ranNs : Nat := 0
  /-- a CLEAR is due at the next boundary (R167); reset no -/
  clearDue : Bool := false
  /-- events routed to this course and not read, at most 64 (R164); reset none -/
  events : List EvRec := []
  /-- the scan ended at or after phase 20 µs of this tick, so the next one starts in a later tick (R47); reset 0 -/
  endTick : Nat := 0
  /-- the scan ended at phase 20 µs or later of endTick (R47); reset no -/
  endLate : Bool := false
  deriving DecidableEq, Repr

/-- Chapter 04: courses, images and mirages. -/
structure CoursesSt where
  /-- base course 0 and T1 to T8 (R132, R133); reset idle -/
  c : Tab CourseSt := []
  /-- instance data of every brick as SRAM holds it (R131); an unlisted brick holds its INIT; reset none -/
  data : Tab Bytes := []
  /-- instance data as released at the last activation end of the brick's course (0x0240_IIII, Table 04.9); an unlisted brick
  shows its INIT; reset none -/
  shown : Tab Bytes := []
  /-- the input image of the present tick by I/O map entry (R45, R138); reset 0, not valid -/
  inp : Tab InCell := []
  /-- the output image by I/O map entry (R595); reset 0, not released -/
  out : Tab OutCell := []
  /-- outputs released at or after the snapshot's cycle of a commit: entry, value, tick of the commit that takes them (R42);
  reset none -/
  outLate : List (Nat × W64 × Nat) := []
  /-- the input image without its mirages (R160, R401); reset none -/
  live : Tab InCell := []
  /-- values applied at the last commit by I/O map entry (R42); reset none -/
  committed : Tab W64 := []
  /-- the program's value that a commit last applied to an output, before any mirage or override (R427); reset none -/
  held : Tab W64 := []
  /-- breakpoints 0 to 15 (R152); reset all 0 -/
  bp : Tab BreakSt := []
  /-- brick before which the base course is frozen in HOLD (R153); reset 0 -/
  frozenAt : Nat := 0
  /-- mirage list entries 0 to 511 (R157, R159); reset none -/
  mirages : Tab Mirage := []
  /-- input mirages as they stood at the last tick boundary (R160, R162); reset none -/
  imageMirages : List Mirage := []
  /-- mirage commands that wait for the class 1 mortar frame (R163); reset none -/
  mirageWaits : List PendMirage := []
  /-- mirage entries changed since the last class 1 frame (R163): entry, tick of the command; reset none -/
  mirageChanged : List (Nat × Nat) := []
  /-- settings changed since the last class 1 frame (R122): index, value, tick of the write; reset none -/
  settingChanged : List (Nat × W64 × Nat) := []
  /-- set-points and mode requests released and not yet loaded: context, binary64, tick of the commit that carries
  them (R141, R45); reset none -/
  setpoints : List (Nat × F64 × Nat) := []
  /-- course loop mode requests released and not yet visible: context, code, commit tick (R224); reset none -/
  modeReqs : List (Nat × Nat × Nat) := []
  deriving DecidableEq, Repr

/-- One tile (Table 08.15). -/
structure TileSt where
  online : Bool := true
  failed : Bool := false
  cause : Nat := 0
  /-- lowest tile of its unit -/
  unit : Nat := 0
  /-- tiles in its unit: 1, 2, 4; 0 none -/
  gang : Nat := 1
  deriving DecidableEq, Repr

/-- Chapters 08 and 09: the solver. -/
structure SolverSt where
  /-- publication of contexts 0 to 63 (R282); reset not configured -/
  s : Tab SolvSt := []
  /-- job, parameters and counters of contexts 0 to 63; reset not configured -/
  j : Tab SolvSt2 := []
  /-- tiles 0 to 3 (R294, Table 08.15); reset DESIGN CHOICE online ("measured"), four single units -/
  tiles : List TileSt := [⟨true, false, 0, 0, 1⟩, ⟨true, false, 0, 1, 1⟩, ⟨true, false, 0, 2, 1⟩, ⟨true, false, 0, 3, 1⟩]
  /-- tick of each tile's last in-service self-test (R295); reset 0 -/
  tested : List Nat := [0, 0, 0, 0]
  /-- unit (lowest tile) that runs a job: ns of the tick counter since when (R302, Table 08.16); reset none -/
  busyFrom : Tab Nat := []
  /-- busy intervals of the last 8,000 ticks by unit: start and end in ns of the tick counter; reset none -/
  busy : Tab (List (Nat × Nat)) := []
  /-- largest busy time of a unit over 8,000 ticks, ns (Table 08.16); reset 0 -/
  busyPeak : Tab Nat := []
  deriving DecidableEq, Repr

/-- What an exchange keeps so that a rollback can return it (R178). -/
structure OldVersion where
  image : Image
  bank : Nat
  /-- data of converted, added and removed bricks as it stood at tick s -/
  data : Tab Bytes := []
  shown : Tab Bytes := []
  /-- mirages as they stood before the swap -/
  mirages : Tab Mirage := []
  /-- tables as they stood before the swap -/
  tables : Tab TableSt := []
  /-- loop contexts as they stood before the swap -/
  loopsL : Tab LoopSt := []
  loopsM : Tab LoopSt2 := []
  /-- solver contexts as they stood before the swap, for those that it replaces -/
  solverS : Tab SolvSt := []
  solverJ : Tab SolvSt2 := []
  /-- course table states as they stood before the swap, for courses that it removes -/
  courses : Tab CourseSt := []
  /-- settings values, STATE and GENERATION as they stood before the swap -/
  settings : Tab W64 := []
  setState : Nat := 0
  setGeneration : W32 := 0
  /-- I/O map entries that the old image leaves without a writer -/
  unwritten : List Nat := []
  deriving DecidableEq, Repr

/-- Chapter 05: the exchange (R168 to R195). -/
structure ExchSt where
  /-- STATE (Table 05.3): 0 NONE to 7 ABANDONED; reset 0 -/
  state : Nat := 0
  /-- REASON (Table 05.3); reset 0 -/
  reason : Nat := 0
  /-- PHASE (Table 05.3): 1 scan A, 2 wait quiet, 3 scan B, 4 scan C; reset 0 -/
  phase : Nat := 0
  /-- switching tick of the last exchange (R172); reset 0 -/
  switchTick : Nat := 0
  /-- plan counts, eight words (R172); reset 0 -/
  plan : List Nat := [0, 0, 0, 0, 0, 0, 0, 0]
  /-- staged image and its bank (R169); reset none -/
  staged : Option (Nat × Image) := none
  /-- I/O map entries of the staged image, and of the running one, that no writer of that image writes (R31, R183);
  reset none -/
  unwrittenNew : List Nat := []
  unwrittenOld : List Nat := []
  /-- tick at whose phase 20 µs wait_from lies (R173); reset 0 -/
  waitFrom : Nat := 0
  /-- base scans ended in the window (EV108); reset 0 -/
  scans : Nat := 0
  /-- the swap has taken place (R177); reset no -/
  swapped : Bool := false
  /-- bricks added by the exchange that have not run their first activation (R182): instances; reset none -/
  added : List Nat := []
  /-- what a rollback restores (R178); reset none -/
  old : Option OldVersion := none
  /-- a rollback is due: its REASON, and the tick at whose phase 20 µs it acts (R178); reset none -/
  rollback : Option (Nat × Nat) := none
  /-- tick of the last rollback (R194); reset none -/
  backTick : Option Nat := none
  /-- outputs that take their oasis values since the swap, by I/O map entry (R183); reset none -/
  orphans : List Nat := []
  /-- tables that wait for the swap at their context's first sample: table, payload, tick s (R189); reset none -/
  tableSwaps : List (Nat × Bytes) := []
  /-- ACTIVATE that waits for CHANGE (R173, R514); reset none -/
  origin : Option Origin := none
  /-- STAGE that has not ended (R169, R514); reset none -/
  stageOrigin : Option Origin := none
  /-- tick at which STAGE was accepted (R169); reset 0 -/
  stageTick : Nat := 0
  /-- digest of the image staged on the partner, if it has reported one (R193); reset none -/
  partnerDigest : Option Bytes := none
  /-- solver frames that run on an old template: context and the record under which they started (R188); they are kept in
  the solver's table under 64 + context; reset none -/
  oldFrames : List (Nat × Bytes) := []
  deriving DecidableEq, Repr

/-- One lane of the Cerhar link (R338, Table 10.12). -/
structure LaneSt where
  /-- 0 down, 1 training, 2 up -/
  state : Nat := 0
  /-- tick in which it last delivered a frame with a valid CRC -/
  lastTick : Nat := 0
  /-- consecutive ticks, up to the last one, in which it has delivered such a frame (R338); reset 0 -/
  run : Nat := 0
  deriving DecidableEq, Repr

/-- Chapter 10: the pair. -/
structure PairSt where
  /-- lanes XL0 and XL1 (R338); reset DESIGN CHOICE down ("measured") -/
  lanes : List LaneSt := [{}, {}]
  /-- LV in use (Table 10.12); reset 0 -/
  lv : Nat := 0
  /-- MF major and minor in use (Table 10.12); reset 0 -/
  mf : Nat × Nat := (0, 0)
  /-- items that the older format lacks (R365); reset 0 -/
  missing : W32 := 0
  /-- versions were found with nothing in common (R364); reset no -/
  noCommon : Bool := false
  /-- the last STATUS frame received (R334); reset none -/
  status : Option StatusFrame := none
  /-- tick in which it arrived (R59); reset 0 -/
  statusTick : Nat := 0
  /-- a STATUS frame has come within the last 8 ticks (R59); reset no -/
  report : Bool := false
  /-- the partner's token line as last sampled: held (R335); reset released -/
  partnerToken : Bool := false
  /-- cause of an ABDICATE frame received since the partner last held its token (R351); reset none -/
  abdicate : Option Nat := none
  /-- tick of the last STATUS frame that reports SYNC or TRACK, until that report lapses (R59, R61); reset none -/
  shadowTick : Option Nat := none
  /-- tick in which abdication was detected, until the takeover at the next boundary (R351); reset none -/
  detected : Option Nat := none
  /-- an ABDICATE frame opened the one-sample path of the detection (EV039); reset no -/
  oneSample : Bool := false
  /-- STATUS frames since detection that report the partner holding the token with no cause (Table 10.9); reset 0 -/
  wiringFrames : Nat := 0
  /-- WIRING_FAULT (Table 10.11); reset 0 -/
  wiringFault : Bool := false
  /-- staleness of classes 0 to 3 (R344); reset 0 -/
  stale : List Nat := [0, 0, 0, 0]
  /-- the partner's days (R359); reset DESIGN CHOICE 0xFFFF -/
  partnerDays : Nat := 0xFFFF
  /-- tick at which it became ACTIVE or SOLO by takeover or role swap, while the 8,000 ticks of R358 run; reset none -/
  watchFrom : Option Nat := none
  /-- an EV047 was raised in that window (R359); reset no -/
  watchFault : Bool := false
  /-- that window began with a role swap: it is a rehearsal (R359); reset no -/
  rehearsing : Bool := false
  /-- contents of the regions that DONE updates have changed since LOAD: KIND, INDEX, data, one entry for a region (R201, R361);
  reset none -/
  updated : List (Nat × Nat × Bytes) := []
  /-- tick of the last EV048 (R359); reset none -/
  overdueAt : Option Nat := none
  /-- role that the module takes at the next boundary (R61, Table 10.9); reset none -/
  roleDue : Option Role := none
  /-- bytes of the bulk copy (R361); reset none in progress -/
  bulk : Option Nat := none
  /-- tick of SYNC entry (EV046); reset 0 -/
  syncTick : Nat := 0
  /-- takeovers, abdications, role swaps, link losses, lane losses, tick frames discarded, retransmissions, read-back
  disagreements, saturating (Table 10.13); reset 0 -/
  counters : List Nat := [0, 0, 0, 0, 0, 0, 0, 0]
  /-- largest tick of mortar sent, bytes (Table 10.13); reset 0 -/
  largest : Nat := 0
  /-- the module's own token line as last sampled: held (R335); reset released -/
  ownToken : Bool := false
  /-- the partner's and the own token line at phase 62.5 µs of the last tick (R335); reset released -/
  partnerHalf : Bool := false
  ownHalf : Bool := false
  /-- last abdication seen: tick, cause, slot (Table 10.13); reset 0 -/
  lastAbd : Nat × Nat × Nat := (0, 0, 0)
  /-- this module's abdication cause, 0 none (R334, R349); reset 0 -/
  cause : Nat := 0
  deriving DecidableEq, Repr

/-- What an ACTIVE module has last sent of each item of on-change mortar (Table 10.3, class 3). -/
structure ChangeSent where
  /-- mode, exchange STATE and PHASE -/
  mode : Option (Nat × Nat × Nat) := none
  /-- settings STATE and GENERATION -/
  settings : Option (Nat × W32) := none
  /-- loop mode and manual value by context -/
  loops : Tab (Nat × F64) := []
  /-- parameters in force by context -/
  params : Tab (List F64) := []
  /-- DEGRADED expiry, vessel time ns -/
  expiry : Option (Option Nat) := none
  /-- CAN launch list by port -/
  launch : Tab (List CanReq) := []
  /-- pending role swap -/
  swap : Option (Option Nat) := none
  /-- role (Table 02.4) -/
  role : Option Nat := none
  /-- rehearsal record (R359) -/
  rehearsal : Option (Option Nat) := none
  deriving DecidableEq, Repr

/-- What a standby holds of mortar until it applies it (Table 10.3), and runs of R332. -/
structure MortarSt where
  /-- the last complete tick frame (R342); reset none -/
  tick : Option TickMortar := none
  /-- class 1 and 3 frames complete and not yet applied, in order of completion (R343); reset none -/
  queue : List Mortar := []
  /-- a reaction of its own that would put an active into OASIS waits for the mortar of this tick (R72); reset no -/
  shadowFault : Bool := false
  /-- loop state by context as last carried in a complete tick frame (R234, R345); reset none -/
  loops : Tab LoopMortar := []
  /-- mode of the active as carried in class 3 mortar (R66); reset STOP -/
  activeMode : Nat := 2
  /-- exchange state and phase of the active (R193); reset 0 -/
  exch : Nat × Nat := (0, 0)
  /-- consecutive commits in disagreement per channel kk (R332); reset 0 -/
  runs : Tab Nat := []
  /-- output values of the active as carried in the last tick frame (R332): entry, value; reset none -/
  outputs : List (Nat × W64) := []
  /-- drive targets of the active's last commits by channel kk, newest first, as ChanSt.targets (R332); reset none -/
  targets : Tab (List (Option F64)) := []
  /-- ticks of the deadline events EV098, EV128 and EV160 of the last 8,000 ticks (R348): tick, event; reset none -/
  cascade : List (Nat × Nat) := []
  /-- brick data of class 1 sets applied since SYNC entry (Table 10.7): instance, offset, bytes; reset none -/
  courseData : List (Nat × Nat × Bytes) := []
  /-- on-change items as this module has last sent them while ACTIVE (R339); reset none -/
  sent : ChangeSent := {}
  /-- number of the class 1 set of each course that the standby applies next (R343); reset none -/
  nextSet : Tab Nat := []
  /-- number of the class 1 set of each course that an active sends next (R343); reset 0 -/
  sentSets : Tab Nat := []
  /-- courses whose release in shadow and set from the active have not met: the tick of a release whose set has not been
  applied, none for a set that came before its release (R344); reset none -/
  setDue : Tab (Option Nat) := []
  /-- frames that failed their CRC and have not come again: class, tick (R343, R344); reset none -/
  awaited : List (Nat × Nat) := []
  deriving DecidableEq, Repr

/-- One dual-channel safety input (R372 to R379, Table 11.9). -/
structure SiSt where
  /-- logical states of a and b as safety channel A latched them (R373); reset 0 ("measured") -/
  a : Bool := false
  b : Bool := false
  /-- the same as safety channel B latched them; reset 0 -/
  aB : Bool := false
  bB : Bool := false
  /-- DISC of channel A and of channel B (R377); reset 0 -/
  disc : Nat := 0
  discB : Nat := 0
  /-- DISC_FAULT (R377, R379); reset 0 -/
  discFault : Bool := false
  /-- both channels have agreed at 0 at a latch since the fault (R379); reset no -/
  agreedZero : Bool := false
  /-- LOST_A, LOST_B (Table 11.9); reset 0 -/
  lostA : Bool := false
  lostB : Bool := false
  /-- a lost channel is restored and waits for a safety reset to return to two-channel evaluation (R376); reset no -/
  restored : Bool := false
  /-- consecutive passed pulses of a lost channel in agreement (R376); reset 0 -/
  passes : Nat := 0
  /-- the demand of RESTART 1 waits for a reset (R372); reset no -/
  waiting : Bool := false
  /-- DEMAND as last evaluated (Table 11.9); reset 1 ("a used input reads 1 from LOAD") -/
  demand : Bool := true
  /-- reset source: latch tick at which the change from 0 to 1 was seen (R392); reset none -/
  since : Option Nat := none
  /-- state for R392 at the last evaluation; none before the first; reset none -/
  level : Option Bool := none
  /-- consecutive ticks in which the channels' readings of it differed (R370); reset 0 -/
  diffRun : Nat := 0
  deriving DecidableEq, Repr

/-- One axis (R384 to R387, Table 11.10). -/
structure AxisSt where
  /-- STATE: 0 not used, 1 PERMITTED, 2 SS1, 3 STO (Table 11.10); reset 3 -/
  state : Nat := 3
  /-- CAUSE (Table 11.10); reset 0 -/
  cause : Nat := 0
  /-- start tick, start speed and its sign, of the SS1 (R385); reset 0 -/
  ts : Nat := 0
  v0 : F64 := 0
  s0 : Int := 0
  /-- start speed in channel B's view (R369); reset 0 -/
  v0B : F64 := 0
  /-- consecutive ticks at or below V_STOP in the view of channel A and of channel B (R385); reset 0 -/
  stopRun : Nat := 0
  stopRunB : Nat := 0
  /-- v of channel A and of channel B (R385); reset 0 -/
  v : F64 := 0
  vB : F64 := 0
  /-- the speed is valid (R387); reset no -/
  valid : Bool := false
  /-- consecutive ticks of cross-check disagreement in the view of channel A and of channel B (R387); reset 0 -/
  xchkRun : Nat := 0
  xchkRunB : Nat := 0
  /-- XCHK_FAULT (Table 11.10); reset 0 -/
  xchk : Bool := false
  /-- PFAULT_A, PFAULT_B (Table 11.10); reset 0 -/
  pfaultA : Bool := false
  pfaultB : Bool := false
  /-- switch a, switch b read below 5 V when last read back while off (R381); reset DESIGN CHOICE yes -/
  belowA : Bool := true
  belowB : Bool := true
  /-- a safety reset has come for the waiting axis (R392); reset no -/
  released : Bool := false
  /-- this unit's own decision of the last tick, before the partner's was adopted (R383); reset 3 -/
  own : Nat := 3
  /-- OVERRIDING (Table 11.10); reset 0 -/
  overriding : Bool := false
  /-- switches a and b commanded on (R380); reset off -/
  swA : Bool := false
  swB : Bool := false
  /-- consecutive ticks in which own and partner's state differ (R383); reset 0 -/
  mismatch : Nat := 0
  /-- the partner's state, start tick and start speed for the last tick (R383); reset none -/
  partner : Option (Nat × Nat × F64) := none
  /-- consecutive ticks in which the channels' speeds differed (R370); reset 0 -/
  diffRun : Nat := 0
  /-- envelope at the last evaluation (R396); reset 0 -/
  env : F64 := 0
  deriving DecidableEq, Repr

/-- One ring safety connection (R388, R389). -/
structure ConnSt where
  /-- station and I/O module that its containers ride in (R388); reset none, set from the image -/
  source : Nat × Nat := (64, 16)
  /-- last accepted COUNTER (R396); reset 0 -/
  counter : Nat := 0
  /-- a container has been accepted since LOAD; reset no -/
  seen : Bool := false
  /-- the watchdog has expired (R396); reset no -/
  expired : Bool := false
  /-- the data is valid (R396); reset no -/
  valid : Bool := false
  /-- the last container was rejected (EV076, R389); reset no -/
  rejecting : Bool := false
  /-- DATA of the last accepted container (Table 11.4); reset 0 -/
  data : W64 := 0
  /-- tick whose evaluation accepted the last container (R389); reset 0 -/
  lastTick : Nat := 0
  /-- containers arrived in this tick and not yet evaluated: bytes, arrival phase (R389, R41); reset none -/
  arrived : List (Bytes × Nat) := []
  /-- reset source of R392: tick of the change from 0 to 1; reset none -/
  since : Option Nat := none
  level : Option Bool := none
  deriving DecidableEq, Repr

/-- Chapter 11: the safety function. -/
structure SafetySt where
  /-- CH_A, CH_B healthy (Table 11.8); reset healthy ("measured") -/
  chA : Bool := true
  chB : Bool := true
  /-- consecutive ticks without compare data of channel A, of channel B (R371); reset 0 -/
  missedA : Nat := 0
  missedB : Nat := 0
  /-- tick of the last decision (R385); reset none -/
  evalTick : Option Nat := none
  /-- COMPARE_FAULT (Table 11.8); reset 0 -/
  compareFault : Bool := false
  /-- LOSS: 0 none, 1 channel A, 2 channel B, 3 input channel (Table 11.8); reset 0 -/
  loss : Nat := 0
  /-- DEGRADED expiry as vessel time in ns (R393); reset none -/
  expiry : Option Nat := none
  /-- the expiry has come (R393); reset no -/
  expired : Bool := false
  /-- EV078 at 1 h and at 10 min was raised (R393); reset none -/
  notices : Nat := 0
  /-- PAIR_MISMATCH (Table 11.8); reset 0 -/
  pairMismatch : Bool := false
  /-- safety inputs SI0 to SI7 (R372) -/
  si : Tab SiSt := []
  /-- axes 0 to 3 (R384) -/
  axis : Tab AxisSt := []
  /-- ring safety connections 0 to 31 (R388) -/
  conn : Tab ConnSt := []
  /-- a safety reset has been seen: its source and the tick at whose latch it acts (R392); reset none -/
  resetSeen : Option (Nat × Nat) := none
  /-- demands, SS1 starts, envelope violations, discrepancy faults, test-pulse faults, permit faults, containers
  rejected, watchdog expiries, saturating (R396); reset 0 -/
  counters : List Nat := [0, 0, 0, 0, 0, 0, 0, 0]
  /-- position counts as channel B latched them, newest first, POS0 and POS1 (R369); reset none -/
  posB : List (List Int) := [[], []]
  /-- containers of KIND 3 queued at the last commit: connection, bytes (R390); reset none -/
  permits : List (Nat × Bytes) := []
  deriving DecidableEq, Repr

/-- One onboard channel kk of Table 12.4 (R407 to R432). -/
structure ChanSt where
  /-- RETRIES (Table 12.13); reset 0 -/
  retries : Nat := 0
  /-- LATCHED (Table 12.13); reset 0 -/
  latched : Bool := false
  /-- SILENCE (Table 12.13); reset 0 -/
  silence : Bool := false
  /-- COMPLIANCE (Table 12.13); reset 0 -/
  compliance : Bool := false
  /-- READBACK (Table 12.13); reset 0 -/
  readback : Bool := false
  /-- EXT_DRIVE (Table 12.13); reset 0 -/
  extDrive : Bool := false
  /-- OVERTEMP (Table 12.13); reset 0 -/
  overtemp : Bool := false
  /-- OVERLOAD (Table 12.13); reset 0 -/
  overload : Bool := false
  /-- OPEN_WIRE (Table 12.13); reset 0 -/
  openWire : Bool := false
  /-- UNDER, OVER, SIGNAL (Table 12.13); reset 0 -/
  under : Bool := false
  above : Bool := false
  signal : Bool := false
  /-- value measured at the last latch: V, mA or POSITION (Table 12.14); reset 0 -/
  measured : F64 := 0
  /-- overloads, open-wire entries, read-back failures, compliance losses, saturating (Table 12.14); reset 0 -/
  counters : List Nat := [0, 0, 0, 0]
  /-- filtered state of a digital input (R404); reset off -/
  level : Bool := false
  /-- tick of the last switch-off by protection (R408); reset 0 -/
  offTick : Nat := 0
  /-- switched off by protection and waiting for its retry (R408); reset no -/
  tripped : Bool := false
  /-- tick of the last retry, while OVERLOAD has not cleared (R408); reset none -/
  retryTick : Option Nat := none
  /-- drive targets of the last commits, newest first: V of a digital output (on 1), mA of an analogue one; none where
  the output was off (R413, R422); reset none -/
  targets : List (Option F64) := []
  /-- last reading within the limits, or last valid value, as image value (R401, R416); reset none -/
  lastValid : Option W64 := none
  deriving DecidableEq, Repr

/-- Run counters of one onboard channel, in latches. -/
structure RunSt where
  /-- under-range, over-range, in-range latches (R416); reset 0 -/
  under : Nat := 0
  above : Nat := 0
  good : Nat := 0
  goodOver : Nat := 0
  /-- open-wire latches and clearing latches (R410); reset 0 -/
  open_ : Nat := 0
  closed : Nat := 0
  /-- read-back failures (R413); reset 0 -/
  readback : Nat := 0
  /-- the last read-back check that was made passed (R413, R408); reset yes -/
  readbackOk : Bool := true
  /-- compliance-lost latches and regained latches (R422); reset 0 -/
  lost : Nat := 0
  regained : Nat := 0
  /-- latches without a position signal fault (R425); reset 0 -/
  clean : Nat := 0
  /-- fault code of a position input at the last latch (R425); reset 0 -/
  fault : Nat := 0
  deriving DecidableEq, Repr

/-- One field group G1 to G6 (R409, R411). -/
structure GroupSt where
  /-- feed voltage, V (0x3003_000g); reset 0 -/
  volts : F64 := 0
  /-- group current, A (0x3003_000g); reset 0 -/
  amps : F64 := 0
  /-- FEED_LOW (R411, Table 12.13); reset 0 ("measured") -/
  low : Bool := false
  /-- consecutive latches above 17.5 V without a dip (R411); reset 0 -/
  good : Nat := 0
  /-- low was found at the last latch and EV198 is due (R411); reset no -/
  fell : Bool := false
  /-- consecutive latches with the group current above 4.2 A (R409); reset 0 -/
  overRun : Nat := 0
  deriving DecidableEq, Repr

/-- One event stamp record (Table 12.6). -/
structure SoeRec where
  time : Nat
  channel : Nat
  edge : Bool
  quality : Nat
  seq : W32
  deriving DecidableEq, Repr

/-- Chapter 12: the onboard field channels. -/
structure FieldSt where
  /-- channels kk 0x00 to 0x49 (Table 12.4) -/
  ch : Tab ChanSt := []
  /-- run counters of channels kk -/
  run : Tab RunSt := []
  /-- groups 1 to 6 -/
  group : Tab GroupSt := []
  /-- the field controller has received its first refresh since LOAD (R429); reset no -/
  refreshed : Bool := false
  /-- tick of the last refresh (R429); reset 0 -/
  lastRefresh : Nat := 0
  /-- terminal values of the last refresh, by I/O map entry (R429); reset none -/
  terminal : Tab W64 := []
  /-- SILENCE (0x3030_0000); reset 0 -/
  silence : Bool := false
  /-- cause of the last EV205: 0 none, 1, 2 (0x3030_0000); reset 0 -/
  cause : Nat := 0
  /-- field controller watchdog fault present (R429); reset no -/
  fault : Bool := false
  /-- event stamp buffer, oldest first, at most 8,192 (R406); reset none -/
  soe : List SoeRec := []
  /-- SEQ of the next record (Table 12.6); reset 0 -/
  soeSeq : Nat := 0
  /-- EV206 has been raised for the present unread loss (R406); reset no -/
  soeLost : Bool := false
  /-- tick of a role swap whose outputs have not changed hands (R357); reset none -/
  overlap : Option Nat := none
  /-- trim mode mask (R421); reset 0 -/
  trimMask : Byte := 0
  /-- trim mode mask written in this tick (R421); reset none -/
  trimMaskNext : Option Byte := none
  /-- trim currents AO0 to AO7, mA, in force (R421); reset 0 -/
  trim : Tab F64 := []
  /-- trim currents written in this tick (R421); reset none -/
  trimNext : List (Nat × F64) := []
  deriving DecidableEq, Repr

/-- One module of a ring station. -/
structure RModSt where
  /-- PRESENT (Table 13.7) and valid -/
  present : Bool := false
  valid : Bool := false
  /-- MSTATUS as last received (R446) -/
  mstatus : Byte := 0
  data : Bytes := []
  /-- sample tick of that data (R442) -/
  sample : Nat := 0
  /-- the module was reported absent or faulty (EV216), or ignored (EV218) -/
  down : Bool := false
  ignored : Bool := false
  deriving DecidableEq, Repr

/-- One ring station (Table 13.6). -/
structure StationSt where
  /-- STATE: 0 not declared, 1 ABSENT, 2 CONFIGURING, 3 RUNNING, 4 LOST, 5 IGNORED; reset 0 -/
  state : Nat := 0
  /-- POSITION; reset 0 -/
  position : Nat := 0
  /-- HOP_A, HOP_B; reset 0 -/
  hopA : Nat := 0
  hopB : Nat := 0
  late : Bool := false
  heldOut : Bool := false
  mismatch : Bool := false
  undeclared : Bool := false
  /-- consecutive missed cycles (R442); reset 0 -/
  missed : Nat := 0
  /-- late, missed, output cycles dropped, late outputs, frames discarded, saturating (Table 13.7); reset 0 -/
  counters : List Nat := [0, 0, 0, 0, 0]
  /-- sample tick of the last cycle received (Table 13.7); reset 0 -/
  sample : Nat := 0
  /-- sample ticks of cycles whose copy has arrived; the newest -/
  lastCycle : Option Nat := none
  /-- frame that arrived after phase 20 µs and enters the next image: tick, modules (R442); reset none -/
  pendingFrame : Option (Nat × List (Nat × Byte × Bytes)) := none
  /-- configuration digest that it holds (R451); reset none -/
  digest : Option Bytes := none
  /-- output data queued at the last commit: module, bytes (R441); reset none -/
  queued : List (Nat × Bytes) := []
  /-- output data of the last frame launched and its launch tick (R441, R447); reset none -/
  launched : List (Nat × Bytes) := []
  launchTick : Option Nat := none
  mods : Tab RModSt := []
  deriving DecidableEq, Repr

/-- An output frame as the module sends it on a ring port (R441, R444, R446): DIR of the port (0 RING-A, 1 RING-B), the station,
and its bytes from the header to before the frame check sequence, which is right by construction. -/
structure RingSent where
  dir : Nat
  station : Nat
  bytes : Bytes
  deriving DecidableEq, Repr

/-- Chapter 13: the I/O ring. -/
structure RingSt where
  /-- stations 0 to 63 -/
  st : Tab StationSt := []
  /-- OPEN (Table 13.7); reset 0 -/
  opened : Bool := false
  /-- OPEN_HOP, 0xFF none (Table 13.7); reset 0xFF -/
  openHop : Nat := 0xFF
  /-- hops reported down (R437); reset none -/
  hopsDown : List Nat := []
  /-- of them, those whose EV213 has been raised (R437); reset none -/
  hopsTold : List Nat := []
  /-- the ring controller has been started at the end of KILN and forwards frames (R435); reset no -/
  forwarding : Bool := false
  /-- a link-up is being resolved by DISCOVER (R451); reset no -/
  discovering : Bool := false
  /-- counts of the ring position entries in the last 65 input images, newest first, by I/O map entry (R235); reset none -/
  counts : Tab (List Int) := []
  /-- speed of each hop: 1 100 Mbit/s, 2 1 Gbit/s (R436); reset none -/
  speed : Tab Nat := []
  /-- output frames sent at the last tick boundary, in the order in which each port sends them (R444); reset none -/
  sent : List RingSent := []
  deriving DecidableEq, Repr

/-- One frame in a transmit FIFO or launch list (R465). -/
structure TxEntry where
  req : CanReq
  /-- launch time in ns of vessel time; 0 in the FIFO -/
  time : Nat := 0
  /-- transmit slot that built it, if any (R464) -/
  slot : Option Nat := none
  /-- the launch list holds it -/
  launch : Bool := false
  /-- arrival number, for equal launch times -/
  order : Nat := 0
  deriving DecidableEq, Repr

/-- One CAN controller (R465 to R479). -/
structure PortSt where
  /-- STATE: 0 OFF, 1 ERROR_ACTIVE, 2 ERROR_PASSIVE, 3 BUS_OFF, 4 RECOVERING, 5 SILENT (Table 14.10); reset 0 -/
  state : Nat := 0
  /-- TEC, REC as ISO 11898-1 counts them (Table 14.10); reset 0 -/
  txErr : Nat := 0
  rxErr : Nat := 0
  /-- transmit FIFO, head first (R465); reset none -/
  fifo : List TxEntry := []
  /-- launch list by launch time, then arrival (R465); reset none -/
  launch : List TxEntry := []
  /-- the frame on the bus (R466); reset none -/
  onBus : Option TxEntry := none
  /-- a cancel waits for the end of the frame on the bus (R469); reset no -/
  cancelOnBus : Bool := false
  /-- EV228 was raised for the FIFO, for the launch list (R465); reset no -/
  fifoFull : Bool := false
  listFull : Bool := false
  /-- frames sent, received, unmatched, queue overflows, LATE removals, cancels DONE, cancels FAILED, bus-offs,
  saturating (Table 14.11); reset 0 -/
  counters : List Nat := [0, 0, 0, 0, 0, 0, 0, 0]
  /-- frames dropped under R475 and R476 (Table 14.11); reset 0 -/
  dropped : Nat := 0
  deriving DecidableEq, Repr

/-- The stamp of a frame: vessel time, fraction and time quality (R470). -/
structure CanStamp where
  ns : Nat := 0
  frac : W16 := 0
  quality : Nat := 0
  deriving DecidableEq, Repr

/-- One CAN frame record (Table 14.7). -/
structure CanRec where
  stamp : CanStamp
  port : Nat
  flags : Byte
  dlc : Nat
  ident : W32
  data : Bytes
  deriving DecidableEq, Repr

/-- One CAN slot (R464). -/
structure SlotSt where
  /-- last frame received, or last sent with its stamp (Table 14.11); reset none -/
  last : Option CanRec := none
  /-- end of frame of it, vessel time ns (R464); reset 0 -/
  endNs : Nat := 0
  /-- valid (R464); reset no -/
  valid : Bool := false
  /-- frame that the image holds: data and sample tick (R464); reset none -/
  image : Option (Bytes × Nat) := none
  /-- tick of its last frame (R464); reset 0 -/
  tick : Nat := 0
  deriving DecidableEq, Repr

/-- A transmit handle (R477). -/
structure HandleSt where
  /-- 1 WAITING, 2 ON_BUS, 3 DONE, 4 CANCELLED, 5 LATE, 6 DROPPED, 7 REFUSED_FULL, 8 SHADOW -/
  state : Nat
  stamp : Option CanStamp := none
  /-- result of its last cancel: 0 none, 1 DONE, 2 FAILED, 3 REFUSED_RANGE (R469) -/
  cancel : Nat := 0
  deriving DecidableEq, Repr

/-- Chapter 14: the CAN ports. -/
structure CanSt where
  /-- ports CAN0 to CAN3 -/
  p : Tab PortSt := []
  /-- receive queues by filter (R463); reset empty -/
  q : Tab (List CanRec) := []
  /-- EV229 was raised for the filter's queue (R463); reset none -/
  qFull : List Nat := []
  /-- last frame taken by each filter (Table 14.11); reset none -/
  last : Tab CanRec := []
  /-- slots 0 to 63 (R464) -/
  slot : Tab SlotSt := []
  /-- handles issued (R477); reset none -/
  handle : Tab HandleSt := []
  /-- arrival counter for equal launch times; reset 0 -/
  order : Nat := 0
  /-- handles whose cancel a course has released and which has not reached its controller (R469); reset none -/
  cancels : List Nat := []
  /-- answer to the last SYS_CAN_CONTROL of each port (Table 14.9); reset none -/
  control : Tab Nat := []
  deriving DecidableEq, Repr

/-- One LAN port: 0 LAN A, 1 LAN B, 2 service (R485, R506). -/
structure LanSt where
  up : Bool := false
  /-- 1 100 Mbit/s, 2 1 Gbit/s -/
  speed : Nat := 0
  /-- PRP peers seen on it, by MAC (R481) -/
  peers : List Nat := []
  /-- frames received, frames sent, duplicates discarded, PTP measurements discarded, jumps refused, sessions refused,
  saturating (Table 15.10) -/
  counters : List Nat := [0, 0, 0, 0, 0, 0]
  deriving DecidableEq, Repr

/-- Chapter 15: vessel time and the PTP servo (R486 to R497). -/
structure TimeSt where
  /-- tick counter, 64 bits (R20, R44); reset 0 -/
  tick : Nat := 0
  /-- vessel time at the last tick boundary, ns (R20); reset 0 -/
  ns : Nat := 0
  /-- its 16-bit fraction (Table 01.1); reset 0 -/
  frac : W16 := 0
  /-- phase of the present instant within the tick, ns (R19); reset 0 -/
  phase : Nat := 0
  /-- tick at LOAD entry (R492); reset 0 -/
  loadTick : Nat := 0
  /-- vessel time has been set from a master in LOAD (R492); reset no -/
  set : Bool := false
  /-- ACQ_WAIT has ended (R492); reset no -/
  waitOver : Bool := false
  /-- SERVO: 0 ACQUIRING, 1 LOCKED, 2 HOLDOVER, 3 SLEWING, 4 FREE (Table 15.9); reset 0 -/
  servo : Nat := 0
  /-- it has been LOCKED since LOAD (R491); reset no -/
  everLocked : Bool := false
  /-- JUMP (Table 15.9); reset 0 -/
  jump : Bool := false
  /-- PORT: 0 none, 1 LAN A, 2 LAN B (Table 15.9); reset 0 -/
  port : Nat := 0
  /-- parent grandmaster identity (Table 15.10); reset 0 -/
  gm : W64 := 0
  /-- GM_CLASS (Table 15.9); reset 248 -/
  gmClass : Nat := 248
  /-- STEPS (Table 15.9); reset 0 -/
  steps : Nat := 0
  /-- last offset from master, ns (Table 15.10); reset 0 -/
  offset : Int := 0
  /-- refused offset, ns (Table 15.10); reset 0 -/
  refused : Int := 0
  /-- the last slave port that fed the servo (R488); reset 0 none -/
  slavePort : Nat := 0
  /-- grandmaster whose jump was refused or rejected: it is ignored (R494, R495); reset none -/
  ignored : Option W64 := none
  /-- the ignored source was rejected by the host (R495); reset no -/
  rejected : Bool := false
  /-- measurements of each master since LOAD: grandmaster, port, count (R492); reset none -/
  seen : List (W64 × Nat × Nat) := []
  /-- consecutive measurements within 100 ns (R491); reset 0 -/
  goodRun : Nat := 0
  /-- consecutive measurements beyond JUMP_NS, and their grandmaster (R494); reset 0 -/
  badRun : Nat := 0
  badGm : W64 := 0
  /-- offset still to remove by the slew, in eighths of a ns, and its RATE in ppm (R495); reset 0 -/
  slewLeft : Int := 0
  slewRate : Nat := 0
  /-- vessel time when the slew was accepted (EV238); reset 0 -/
  slewFrom : Nat := 0
  /-- tick of the entry to HOLDOVER (Table 15.10); reset 0 -/
  holdFrom : Nat := 0
  /-- a STEP to the source's time, from this offset from it, is due at the next boundary, with its request; a standby
  follows its active's (R496, R497); reset none -/
  stepDue : Option (Int × Option Origin) := none
  /-- the clockClass announced as a boundary clock's master (R487); reset 248 -/
  announced : Nat := 248
  /-- a SLEW waits for its end: its request (R495, R514); reset none -/
  slewOrigin : Option Origin := none
  /-- offset that a standby's servo has monitored last, ns (R497); reset none -/
  monitor : Option Int := none
  deriving DecidableEq, Repr

/-- One subscription (R520). -/
structure SubSt where
  object : W32
  minTicks : Nat
  /-- content last sent (R520) -/
  content : Option Bytes := none
  /-- tick of the last NOTIFY sent -/
  lastTick : Nat := 0
  /-- a NOTIFY that MIN_TICKS holds back: the tick of its boundary, its content (R520, R521) -/
  unsent : Option (Nat × Bytes) := none
  /-- changes replaced since the last NOTIFY (R521) -/
  skipped : Nat := 0
  deriving DecidableEq, Repr

/-- One session (R501, R502). -/
structure SessSt where
  open_ : Bool := false
  /-- number of its opening (the model's own count) -/
  opening : Nat := 0
  /-- generation 1 to 3 -/
  gen : Nat := 0
  /-- 0 plant, 1 service, 2 USB -/
  iface : Nat := 0
  /-- opened to the role address -/
  role : Bool := false
  /-- authority slot under which it is authenticated (R498, R541) -/
  authority : Option Nat := none
  /-- tick of its last message (R502) -/
  lastTick : Nat := 0
  /-- requests answered ACCEPTED and not complete: SEQ, object (R502, R514) -/
  waiting : List (W32 × W32) := []
  subs : List SubSt := []
  /-- event stream: class mask and SEQ of the next record to send (R526); none when stopped -/
  stream : Option (Byte × Nat) := none
  /-- read position in the event buffer: SEQ of the next record (R525) -/
  evPos : Nat := 1
  /-- read position in the stamp buffer (R406) -/
  soePos : Nat := 0
  /-- ticket of its last region request (R198) -/
  ticket : Nat := 0
  deriving DecidableEq, Repr

/-- What the module sends to a host (R499, R514, R522). The host's side is not the module's, so the list only grows: the
model's own record of what was sent. -/
inductive OutMsg where
  /-- a response: session, SEQ, STATUS of Table 15.8, payload -/
  | response (session : Nat) (seq : W32) (status : Nat) (payload : Bytes)
  /-- a completion NOTIFY: session, ORIG_SEQ, object, final STATUS (R514) -/
  | completion (session : Nat) (seq : W32) (object : W32) (status : Nat)
  /-- a subscription NOTIFY: session, object, tick, SKIPPED, content (Table 16.4) -/
  | notify (session : Nat) (object : W32) (tick skipped : Nat) (content : Bytes)
  /-- an event stream NOTIFY: session and records (R526) -/
  | stream (session : Nat) (recs : List EvRec)
  /-- a gratuitous ARP announcement on both LANs (R484) -/
  | arp (address : W32)
  /-- a PRP supervision frame on a LAN (R481) -/
  | prpSupervision (lan : Nat)
  /-- messages on the Cerhar link, as they are given to its lanes (R337): ABDICATE with its cause (R349), STATUS (R334), the
  axis states of the safety compare (R383), mortar of class 0, a loop context's segment and the closing segment with the whole
  frame (R342), mortar of class 1 to 3 (R339), and what is forwarded (R201) -/
  | abdicate (cause : Nat)
  /-- at a link-up, the range of link protocol versions and the mortar formats that the module supports (R364) -/
  | versions (lv : Nat × Nat) (mf : List (Nat × Nat))
  | status (f : StatusFrame)
  | safetyState (axes : List (Nat × Nat × Nat × F64))
  | tickLoop (q : LoopMortar)
  | tickMortar (f : TickMortar)
  | mortar (m : Mortar)
  | forward (f : Forward)
  /-- DISCOVER at a link-up on the ring (R451) -/
  | ringDiscover
  /-- CONFIG for a station: its digest, its station entry with the module entries, and the oasis entries of its outputs (R451) -/
  | ringConfig (station : Nat) (digest entries oasis : Bytes)
  deriving DecidableEq, Repr

/-- A message in a lane's queue (R337): its order of Table 10.2, the sender's tick counter, and the bytes not yet sent. -/
structure LaneItem where
  order : Nat
  tick : Nat
  left : Nat
  deriving DecidableEq, Repr

/-- A link frame as it goes onto a lane (R336): type by its order of Table 10.2, length, the sender's tick counter, and the
instant of its start in bytes of lane time. Its CRC-32C is right by construction. -/
structure LinkFrame where
  lane : Nat
  order : Nat
  len : Nat
  tick : Nat
  at_ : Nat
  deriving DecidableEq, Repr

/-- The sending side of one lane: messages that wait, in the order of Table 10.2 and in each order as they came, and the
instant from which the lane is free, in bytes of lane time. -/
structure LaneOut where
  queue : List LaneItem := []
  freeAt : Nat := 0
  deriving DecidableEq, Repr

/-- One batch that waits for its entries (R524). -/
structure BatchSt where
  origin : Origin
  /-- entries of it that have not reported DONE -/
  left : Nat
  deriving DecidableEq, Repr

/-- Chapters 15 and 16: network, sessions and messages. -/
structure NetSt where
  /-- LAN A, LAN B, service (R485); reset DESIGN CHOICE down ("measured") -/
  lan : List LanSt := [{}, {}, {}]
  /-- it answers on IP_ROLE (R484); reset no -/
  roleAddr : Bool := false
  /-- ticks at which a gratuitous ARP repeat is due (R484); reset none -/
  arp : List Nat := []
  /-- sessions 0 to 8 (R502); reset closed -/
  sess : Tab SessSt := []
  /-- sessions opened so far (the model's own count); reset DESIGN CHOICE 0 -/
  openings : Nat := 0
  /-- messages sent, newest first; the model's own record (DESIGN CHOICE); reset none -/
  outbox : List OutMsg := []
  /-- batches not complete (R524); reset none -/
  batches : List BatchSt := []
  /-- the objects that change only at tick boundaries, as they stood at the last boundary (R76, R513); reset none -/
  objects : Tab Bytes := []
  /-- the objects that a host write can change, as they stood at the last boundary, by session × 2^32 + object (R513); reset none -/
  before : Tab Bytes := []
  /-- objects that hosts have written since the last boundary (R513); reset none -/
  touched : List W32 := []
  /-- sending sides of lanes XL0 and XL1 (R337); reset empty -/
  laneOut : List LaneOut := [{}, {}]
  /-- link frames sent in this tick, newest first (R336, R337); reset none -/
  linkFrames : List LinkFrame := []
  /-- mortar bytes of the present tick (R341); reset 0 -/
  mortarSent : Nat := 0
  deriving DecidableEq, Repr

/-- Per source of the event controller (Table 16.7, R567). -/
structure SrcSt where
  /-- records raised since LOAD -/
  count : Nat := 0
  /-- stamp of the last record, ns -/
  last : Nat := 0
  /-- release ticks of its records of the last 8,000 ticks -/
  window : List Nat := []
  deriving DecidableEq, Repr

/-- A journal block (Table 19.3). -/
structure JBlock where
  jseq : Nat := 0
  serial : Bytes := []
  recs : List EvRec := []
  /-- JFLAGS bit 0 RETURN and bit 1 GAP -/
  ret : Bool := false
  gap : Bool := false
  lost : Nat := 0
  startNo : Nat := 0
  deriving DecidableEq, Repr

/-- Chapters 16 and 19: the event controller, the event buffer and the fault journal. -/
structure EventSt where
  /-- the event controller runs (from LOAD on, R87); reset no -/
  running : Bool := false
  /-- records received in this tick, not released (R566); reset none -/
  intake : List EvRec := []
  /-- event buffer, oldest first, at most 4,096 (R525); reset empty -/
  buffer : List EvRec := []
  /-- SEQ of the next record (R525); reset 1 -/
  next : Nat := 1
  /-- SEQ of the unacknowledged records with their source, their class and the tick of their release (R565, R596);
  reset none -/
  unacked : List (Nat × Nat × Nat × Nat) := []
  /-- sources 0 to 255 (R567) -/
  src : Tab SrcSt := []
  /-- records that JOURNAL_BLOCK_CLOSE will put into a block: the open block (R571); reset none -/
  open_ : List EvRec := []
  /-- tick of the open block's first record (R571); reset 0 -/
  openTick : Nat := 0
  /-- closed blocks not yet on the key, oldest first (R572); reset none -/
  held : List JBlock := []
  /-- WRITING (Table 19.4); reset 0 -/
  writing : Bool := false
  /-- READY (Table 19.4); reset 0 -/
  ready : Bool := false
  /-- GAP (Table 19.4); reset 0 -/
  gap : Bool := false
  /-- GAP to set in the next block written, and LOST (R572); reset none -/
  gapDue : Bool := false
  lost : Nat := 0
  /-- EV020 was raised for the present absence of the key (R572); reset no -/
  dropped : Bool := false
  /-- next JSEQ (R570); reset 0 -/
  jseq : Nat := 0
  /-- START_NO on the present key (Table 19.3); reset 0 -/
  startNo : Nat := 0
  /-- blocks on the present key in the order written (R569); reset none -/
  key : List JBlock := []
  /-- newest stamp in the journal of the present key (R492); reset 0 -/
  newest : Nat := 0
  /-- stamp of this module's last EV049 in the journal of the present key (R359); reset none -/
  keyRehearsed : Option Nat := none
  /-- stamp of this module's last EV049, found on the key at LOAD or raised since (R359); reset none -/
  rehearsed : Option Nat := none
  /-- PREPARE_RETURN outstanding: request and deadline tick (R573); reset none -/
  prepare : Option (Origin × Nat) := none
  deriving DecidableEq, Repr

/-- An image-signer slot (Table 17.7). -/
structure SignerSt where
  id : W64 := 0
  key : Bytes := []
  deriving DecidableEq, Repr

/-- An enrolment that waits for the button (R541). -/
structure EnrolSt where
  origin : Origin
  /-- signer slot (true) or authority slot (false) -/
  signer : Bool
  slot : Nat
  data : Bytes
  deadline : Nat
  deriving DecidableEq, Repr

/-- Chapter 17: keys, memory errors and tamper. -/
structure SecSt where
  /-- device identity key in the key store (R536); reset DESIGN CHOICE the byte 1 -/
  identity : Bytes := [1]
  /-- certificates (R101); reset DESIGN CHOICE empty -/
  certs : Bytes := []
  /-- life-cycle state: 0 FACTORY, 1 PROVISIONED, 2 FIELD, 3 RETURN (Table 17.4); reset DESIGN CHOICE PROVISIONED -/
  life : Nat := 1
  /-- intrusion latch (R536); reset DESIGN CHOICE clear -/
  intruded : Bool := false
  /-- image-signer slots 0 to 3 (R540); reset DESIGN CHOICE empty -/
  signers : Tab SignerSt := []
  /-- vessel authority slots 0 to 3 (R540); reset DESIGN CHOICE empty -/
  authorities : Tab Bytes := []
  /-- bank 47 holds the identity key (R91, R537); reset no -/
  loaded : Bool := false
  /-- LAST_WIPE (Table 17.8); reset 0 -/
  lastWipe : Nat := 0
  /-- an environmental condition is or was present until this tick (R538); reset none -/
  envFrom : Option Nat := none
  /-- corrections in SRAM, in DRAM, environmental wipes, enrolments, saturating (R542); reset 0 -/
  counters : List Nat := [0, 0, 0, 0]
  /-- corrections per bank 0 to 47 and DRAM 48 (R532); reset 0 -/
  corrections : Tab Nat := []
  /-- tick of the last EV240 per bank (R532); reset none -/
  lastEv240 : Tab Nat := []
  /-- tick of the last whole scrub pass per bank (R533); reset none -/
  scrubbed : Tab Nat := []
  /-- enrolment outstanding (R541); reset none -/
  enrol : Option EnrolSt := none
  /-- EV242 of intrusions before the event controller ran: mesh, with power (R539); reset none -/
  ev242Due : List (Bool × Bool) := []
  /-- an intrusion that came without power acts at the next power-on: mesh, else lid (R539); reset none -/
  unpowered : Option Bool := none
  deriving DecidableEq, Repr

/-- Chapter 18: the annunciator drive. -/
structure PanelSt where
  /-- DRIVING (Table 18.7); reset 0 -/
  driving : Bool := false
  /-- a start to drive is due at the next FRAME_PAIR_BOUNDARY (R555); reset no -/
  starting : Bool := false
  /-- BAND in force, 7 no map (Table 18.7); reset 7 -/
  band : Nat := 7
  /-- band decided and not yet in force (R547); reset none -/
  decided : Option Nat := none
  /-- consecutive readings that call for a rise, for a fall (R547); reset 0 -/
  rise : Nat := 0
  fall : Nat := 0
  /-- a valid reading has come since LOAD (R547); reset no -/
  anyReading : Bool := false
  /-- panel temperature, 0.1 °C (Table 18.8); reset 0 -/
  temp : Int := 0
  /-- NTC_FAULT (Table 18.7); reset 0 -/
  ntcFault : Bool := false
  /-- BIAS in force: charge pump (Table 18.7); reset ladder -/
  bias : Bool := false
  /-- ledger of each pixel in PANEL cycles × mV ÷ 4, exact; unlisted 0 (R552); reset 0 -/
  ledger : Tab Int := []
  /-- pixels shown on in the current pair (R549, Table 18.8); reset none -/
  shown : List Nat := []
  /-- the current drive is a pair of display data (else compensation or nothing) -/
  inPair : Bool := false
  /-- compensation frames still to run, including the present one (R553); reset 0 -/
  comp : Nat := 0
  /-- LAMP_TEST: ticks still to run (R561); reset 0 -/
  lampUntil : Option Nat := none
  /-- a LAMP_TEST accepted waits for its boundary (R561); reset no -/
  lampDue : Bool := false
  /-- crack loop: consecutive readings with the present outcome, and that outcome: 0 valid, 1 marginal, 2 above 10 kΩ,
  3 coupled, 4 below 50 Ω (R558); reset 0 -/
  loopRun : Nat := 0
  loopKind : Nat := 0
  /-- loop resistance, Ω (Table 18.8); reset 0 -/
  ohms : Nat := 0
  /-- MARGINAL (Table 18.7); reset 0 -/
  marginal : Bool := false
  /-- UNTRUSTED (Table 18.7); reset 0 -/
  untrusted : Bool := false
  /-- CRACK_CAUSE (Table 18.7); reset 0 -/
  crackCause : Nat := 0
  /-- consecutive valid measurements (R559); reset 0 -/
  validRun : Nat := 0
  deriving DecidableEq, Repr

/-- More of the annunciator: acknowledgement of pixels, map and counters. -/
structure PanelSt2 where
  /-- source-word pixels unacknowledged since they were TRUE (Table 18.5); reset none -/
  unacked : List Nat := []
  /-- source-word pixels TRUE and acknowledged (Table 18.5); reset none -/
  acked : List Nat := []
  /-- annunciator map in force: payload of record 0x0060 (R551); reset none -/
  map : Bytes := []
  /-- a map that waits for the next pair boundary (R551); reset none -/
  mapDue : Option Bytes := none
  /-- band changes, compensation frames, crack declarations, NTC faults, saturating (Table 18.8); reset 0 -/
  counters : List Nat := [0, 0, 0, 0]
  /-- pixel conditions as they changed, newest first: vessel time ns, and (pixel, 1 on, 2 fast flash, 3 slow flash) of
  every pixel that is not off (R550); reset none -/
  hist : List (Nat × List (Nat × Nat)) := []
  /-- after a role swap the old active drives until its next frame-pair boundary (R557); reset no -/
  releasing : Bool := false
  /-- tick of that boundary, at which it has released the panel (R557); reset none -/
  releasedAt : Option Nat := none
  /-- instant of the last frame-pair boundary, ns of the tick counter (R556); reset 0 -/
  pairAt : Nat := 0
  /-- the pixels decided at a boundary that has inserted compensation frames, shown behind them (R549, R553); reset none -/
  next : List Nat := []
  deriving DecidableEq, Repr

/-- Chapter 20: supply and temperature. -/
structure SupplySt where
  /-- L+A and L+B in their band (R577); reset not in range -/
  inRange : List Bool := [false, false]
  /-- tick after which the internal rails go off (R578); reset none -/
  railsOffAt : Option Nat := none
  /-- die temperature warning present (R590); reset no -/
  hot : Bool := false
  deriving DecidableEq, Repr

/-- The reasons for which a step faults: none. The spec gives every command of its table an effect in every state of the
block, so no meaning of this model faults. -/
inductive Fault where
  /-- a state that no power-on leads to; no meaning raises it (safe) -/
  | unreachable
  deriving DecidableEq, Repr

/-- The reasons for which a step refuses a command. -/
inductive Refusal where
  /-- raised by Machine/Dispatch.lean alone, for a command without a meaning in this model; safe: nothing is claimed -/
  | notModelled (mnemonic : String)
  deriving DecidableEq, Repr

/-- The state of one module, and the commands that wait, first in, first out. -/
structure State where
  /-- the queue of waiting commands (the model's own; the block's input) -/
  pending : List Instr := []
  /-- mode, role and attributes (chapter 02) -/
  md : ModeSt := {}
  /-- button (chapter 02) -/
  btn : ButtonSt := {}
  /-- kiln, Image Key, image (chapter 03) -/
  kiln : KilnSt := {}
  /-- settings (chapter 03) -/
  set : SettingsSt := {}
  /-- courses, images, mirages (chapter 04) -/
  crs : CoursesSt := {}
  /-- exchange (chapter 05) -/
  exch : ExchSt := {}
  /-- region tickets 0 to 255 (R198) -/
  tickets : Tab TicketSt := []
  /-- last assigned ticket (R198); reset 255, so that ticket 0 is the first assigned -/
  lastTicket : Nat := 255
  /-- loop engine (chapters 06, 07) -/
  loops : LoopsSt := {}
  /-- solver (chapters 08, 09) -/
  solver : SolverSt := {}
  /-- pair (chapter 10) -/
  pair : PairSt := {}
  /-- mortar (chapter 10) -/
  mortar : MortarSt := {}
  /-- safety (chapter 11) -/
  safe : SafetySt := {}
  /-- field channels (chapter 12) -/
  field : FieldSt := {}
  /-- ring (chapter 13) -/
  ring : RingSt := {}
  /-- CAN ports (chapter 14) -/
  can : CanSt := {}
  /-- time (chapter 15) -/
  time : TimeSt := {}
  /-- network and sessions (chapters 15, 16) -/
  net : NetSt := {}
  /-- events and journal (chapters 16, 19) -/
  ev : EventSt := {}
  /-- security (chapter 17) -/
  sec : SecSt := {}
  /-- annunciator (chapter 18) -/
  panel : PanelSt := {}
  /-- annunciator, continued (chapter 18) -/
  panel2 : PanelSt2 := {}
  /-- supply (chapter 20) -/
  sup : SupplySt := {}
  /-- the model's own counter of open choices: argument of Config.freeWord; reset DESIGN CHOICE 0 -/
  free : Nat := 0
  deriving DecidableEq, Repr

/-- The module right after reset: without power (Table 02.2, Power-off), every field at its stated reset value. -/
def State.reset : State := {}

end Sys2Proof.Machine
end

