-- ==== Sys2Proof/Machine/Records.lean ====
section
/-! DEFINITION. Typed views of the running image's records (R107, R108): elementary types, courses and bricks, settings,
event routing, mortar selection, network and time. -/

namespace Sys2Proof.Machine

/-- The entry of a sparse table, or the default. -/
def tget {α : Type} (d : α) : Tab α → Nat → α
  | [], _ => d
  | (j, v) :: t, k => if j = k then v else tget d t k

/-- The entry of a sparse table, if it is listed. -/
def tfind {α : Type} : Tab α → Nat → Option α
  | [], _ => none
  | (j, v) :: t, k => if j = k then some v else tfind t k

/-- A sparse table with one entry set; entries stay in rising order of their number. -/
def tset {α : Type} : Tab α → Nat → α → Tab α
  | [], k, v => [(k, v)]
  | (j, w) :: t, k, v =>
    if k < j then (k, v) :: (j, w) :: t else if j = k then (k, v) :: t else (j, w) :: tset t k v

/-- A sparse table without one entry. -/
def tdel {α : Type} (t : Tab α) (k : Nat) : Tab α := t.filter fun e => e.1 != k

/-- One element of a list replaced; a list that is too short is left. -/
def lset {α : Type} (l : List α) (i : Nat) (v : α) : List α := l.set i v

/-- A counter of `bits` bits that saturates at its maximum. -/
def satAdd (bits a b : Nat) : Nat := min (a + b) (2 ^ bits - 1)

/-- One counter of a list of 32-bit counters, raised by `n`, saturating. -/
def bump (l : List Nat) (i : Nat) (n : Nat := 1) : List Nat := lset l i (satAdd 32 (l.getD i 0) n)

/-- Bytes written into a block at an offset. -/
def writeAt (b : Bytes) (off : Nat) (v : Bytes) : Bytes := b.take off ++ v ++ b.drop (off + v.length)

/-- Payload of the record of one type and instance. -/
def recOf (img : Image) (t i : Nat) : Option Bytes :=
  (img.recs.find? fun r => r.type == t && r.inst == i).map (·.payload)

/-- Instance and payload of every record of one type, in body order. -/
def recsOf (img : Image) (t : Nat) : List (Nat × Bytes) :=
  (img.recs.filter fun r => r.type == t).map fun r => (r.inst, r.payload)

/-- The image without any record: what the views read when no image runs. -/
def noImage : Image := ⟨[], []⟩

/-- The running image (R112). -/
def theImage (s : State) : Image := s.kiln.image.getD noImage

/-- The image that runs, or in LOAD the one that has been selected to run, with its bank (R112, RUNNING of Table 03.8). -/
def runningImage (s : State) : Option (Nat × Image) :=
  match s.kiln.image with
  | some i => some (s.kiln.imageBank, i)
  | none => s.kiln.selected

/-! ### Header (Table 03.4) -/

def hdrSequence (h : Bytes) : Nat := le h 0x08 8
def hdrFlags (h : Bytes) : Nat := le h 0x10 4
def hdrBodyLength (h : Bytes) : Nat := le h 0x14 4
def hdrNode (h : Bytes) : Nat := le h 0x18 2
def hdrBuilt (h : Bytes) : Nat := le h 0x20 8
def hdrSigner (h : Bytes) : W64 := BitVec.ofNat 64 (le h 0x28 8)
def hdrDigest (h : Bytes) : Bytes := slice h 0x30 48

/-- HOLD_ON_ACTIVE of the running image (Table 03.5). -/
def holdOnActive (s : State) : Bool := (hdrFlags (theImage s).header).testBit 3

/-- START_MODE is RUN (Table 03.5). -/
def startsInRun (s : State) : Bool := hdrFlags (theImage s).header % 4 == 1

/-! ### Elementary types (Table 04.6, R594) -/

/-- Width in bytes of an elementary type; 0 for a code that Table 04.6 does not list. -/
def tyWidth (ty : Nat) : Nat :=
  [0, 1, 1, 2, 4, 8, 1, 2, 4, 8, 1, 2, 4, 8, 4, 8, 4, 8].getD ty 0

/-- A signed integer type or a time type. -/
def tySigned (ty : Nat) : Bool := [6, 7, 8, 9, 0x10, 0x11].contains ty

/-- REAL or LREAL. -/
def tyReal (ty : Nat) : Bool := ty == 0x0E || ty == 0x0F

/-- Every byte beyond the type's width is 0. -/
def rawFits (ty : Nat) (v : W64) : Bool := decide (v.toNat < 256 ^ tyWidth ty)

/-- The value as binary64; exact for REAL. -/
def rawF64 (ty : Nat) (v : W64) : F64 :=
  if ty == 0x0F then v
  else if ty == 0x0E then f32To64 (v.setWidth 32)
  else if tySigned ty then fOfInt (BitVec.ofNat (8 * tyWidth ty) v.toNat).toInt
  else fOfInt v.toNat

/-- A REAL or LREAL that is NaN or infinite. -/
def rawNonFinite (ty : Nat) (v : W64) : Bool := tyReal ty && !fIsFinite (rawF64 ty v)

/-- a ≤ b in the order of the type. -/
def rawLe (ty : Nat) (a b : W64) : Bool :=
  if tyReal ty then fLe (rawF64 ty a) (rawF64 ty b)
  else if tySigned ty then
    decide ((BitVec.ofNat (8 * tyWidth ty) a.toNat).toInt ≤ (BitVec.ofNat (8 * tyWidth ty) b.toNat).toInt)
  else decide (a.toNat ≤ b.toNat)

/-- A binary64 as a datum of a REAL or LREAL type. -/
def rawOfF64 (ty : Nat) (x : F64) : W64 := if ty == 0x0E then (f64To32 x).setWidth 64 else x

/-! ### Courses and bricks (chapter 04) -/

/-- Record of a configured course (Table 04.3). -/
structure CourseDef where
  period : Nat
  offset : Nat
  maxScan : Nat
  limit : Nat
  deriving DecidableEq, Repr

/-- The course record of course c, if it is configured (R133). -/
def courseDef (img : Image) (c : Nat) : Option CourseDef :=
  (recOf img 4 c).map fun p => ⟨le p 0 2, le p 2 2, le p 4 4, le p 8 1⟩

/-- Brick type record (Table 04.1). -/
structure BrickType where
  typeId : Nat
  version : Nat
  entry : Nat
  len : Nat
  safety : Bool
  deriving DecidableEq, Repr

def brickType (img : Image) (t : Nat) : Option BrickType :=
  (recOf img 2 t).map fun p => ⟨le p 0 8, le p 8 4, le p 0x0C 4, le p 0x10 4, (le p 0x14 2).testBit 0⟩

/-- Brick instance record (Table 04.2). -/
structure BrickInst where
  brickId : Nat
  type : Nat
  course : Nat
  order : Nat
  offset : Nat
  len : Nat
  init : Bytes
  deriving DecidableEq, Repr

def brickOf (p : Bytes) : BrickInst :=
  ⟨le p 0 8, le p 8 2, le p 0x0A 1, le p 0x0C 4, le p 0x10 4, le p 0x14 4, p.drop 0x18⟩

def brickInst (img : Image) (i : Nat) : Option BrickInst := (recOf img 3 i).map brickOf

/-- Every brick instance with its index. -/
def bricks (img : Image) : List (Nat × BrickInst) := (recsOf img 3).map fun e => (e.1, brickOf e.2)

/-- Instance data of a brick as SRAM holds it; INIT from LOAD on (R131). -/
def brickData (s : State) (i : Nat) : Bytes :=
  match tfind s.crs.data i with
  | some d => d
  | none => ((brickInst (theImage s) i).map (·.init)).getD []

/-- Instance data of a brick as released at its course's last activation end; INIT before that (Table 04.9). -/
def shownData (s : State) (i : Nat) : Bytes :=
  match tfind s.crs.shown i with
  | some d => d
  | none => ((brickInst (theImage s) i).map (·.init)).getD []

/-! ### Event routing (Table 19.2) -/

/-- The routing word of a source; 0 without the record (R564). -/
def routing (img : Image) (ev : Nat) : Nat := ((recOf img 4 0x20).map fun p => le p (4 * ev) 4).getD 0

/-! ### Settings (R119) -/

structure SettingDef where
  index : Nat
  type : Nat
  bindCtx : Nat
  bindOffset : Nat
  dflt : W64
  min : W64
  max : W64
  deriving DecidableEq, Repr

def settingDefs (img : Image) : List SettingDef :=
  match recOf img 0x70 0 with
  | none => []
  | some p => (List.range (le p 0 4)).map fun i =>
    let o := 8 + 40 * i
    ⟨le p o 4, le p (o + 4) 1, le p (o + 5) 1, le p (o + 6) 2, BitVec.ofNat 64 (le p (o + 0x10) 8),
      BitVec.ofNat 64 (le p (o + 0x18) 8), BitVec.ofNat 64 (le p (o + 0x20) 8)⟩

/-- The setting that a host names by IIII (R121). -/
def settingByLow (img : Image) (i : Nat) : Option SettingDef := (settingDefs img).find? fun d => d.index % 65536 == i

/-- Value in force of the setting with low index i (R120, R121). -/
def settingValue (s : State) (i : Nat) : W64 :=
  match tfind s.set.values i with
  | some v => v
  | none => ((settingByLow (theImage s) i).map (·.dflt)).getD 0

/-! ### Mortar selection (Tables 10.4, 10.5) -/

structure MortarSel where
  staleTick : Nat
  worstTick : Nat
  staleCourse : Nat
  staleChange : Nat
  staleSolver : Nat
  rehearsalDays : Nat
  entries : List (Nat × Bool × Nat × Nat)
  deriving DecidableEq, Repr

/-- Mortar selection in force; the defaults of Table 10.4 without the record. -/
def mortarSel (img : Image) : MortarSel :=
  match recOf img 0x50 0 with
  | none => ⟨4, 0, 80, 80, 2, 90, []⟩
  | some p => ⟨le p 2 2, le p 4 4, le p 8 4, le p 0x0C 4, le p 0x10 2, le p 0x12 2,
    (List.range (le p 0 2)).map fun i =>
      let o := 32 + 16 * i
      (le p o 2, (le p (o + 2) 2).testBit 0, le p (o + 4) 4, le p (o + 8) 4)⟩

/-! ### Network and time (Table 15.2) -/

structure NetCfg where
  profile : Nat
  clock : Nat
  jumpNs : Nat
  asymA : Int
  asymB : Int
  acqWait : Nat
  idleS : Nat
  ipRole : W32
  deriving DecidableEq, Repr

/-- A 4-byte signed field. -/
def leS32 (b : Bytes) (off : Nat) : Int := (BitVec.ofNat 32 (le b off 4)).toInt

/-- Network and time configuration; the defaults of Table 15.2 without the record (PRESUMED PROFILE 0). -/
def netCfg (img : Image) : NetCfg :=
  match recOf img 0x82 0 with
  | none => ⟨0, 0, 1000, 0, 0, 0, 30, 0⟩
  | some p => ⟨le p 0 1, le p 1 1, le p 4 4, leS32 p 8, leS32 p 0x0C, le p 0x10 2, le p 0x12 2,
    BitVec.ofNat 32 (le p 0x1C 4)⟩

end Sys2Proof.Machine
end

