-- ==== Sys2Proof/Machine/RecordsIo.lean ====
section
/-! DEFINITION. Typed views and owner rules of the I/O records: I/O map (R398 to R400, R439), oasis values (R427), trim
(R419) and ring configuration (R438). -/

namespace Sys2Proof.Machine

/-- An I/O map entry (Tables 12.1 and 13.3). For a ring entry `module` is the station, `chan` the module, `filter` the
byte offset, and LIM_LO, LIM_HI are RAW_LO, RAW_HI; a CAN entry (SOURCE 2, R464) is laid out alike, `module` being the
slot and `chan` 0. -/
structure IoEntry where
  ring : Bool
  can : Bool
  output : Bool
  ty : Nat
  kind : Nat
  module : Nat
  chan : Nat
  flags : Nat
  filter : Nat
  param : Nat
  engLo : F64
  engHi : F64
  limLo : F64
  limHi : F64
  deriving DecidableEq, Repr

/-- A binary64 field. -/
def leF64 (b : Bytes) (off : Nat) : F64 := BitVec.ofNat 64 (le b off 8)

/-- The entry at a byte offset of the I/O map payload. -/
def ioEntryAt (p : Bytes) (o : Nat) : IoEntry :=
  ⟨le p o 1 == 1, le p o 1 == 2, le p (o + 1) 1 == 1, le p (o + 2) 1, le p (o + 3) 1, le p (o + 4) 1, le p (o + 5) 1, le p (o + 6) 2,
    le p (o + 8) 4, le p (o + 0x0C) 4, leF64 p (o + 0x10), leF64 p (o + 0x18), leF64 p (o + 0x20), leF64 p (o + 0x28)⟩

/-- Every entry of the I/O map, in order. -/
def ioMap (img : Image) : List IoEntry :=
  match recOf img 0x10 0 with
  | none => []
  | some p => (List.range (le p 0 4)).map fun i => ioEntryAt p (16 + 48 * i)

/-- The entries with their numbers. -/
def ioNum (img : Image) : List (Nat × IoEntry) := (ioMap img).zipIdx.map fun e => (e.2, e.1)

/-- One entry by number. -/
def ioEntry (img : Image) (i : Nat) : Option IoEntry := (ioMap img)[i]?

/-- T_SILENCE; its default without the record. -/
def tSilence (img : Image) : Nat := ((recOf img 0x10 0).map fun p => le p 4 2).getD 160

/-- An entry of an onboard channel (SOURCE 0). -/
def onboard (e : IoEntry) : Bool := !e.ring && !e.can

/-- Channel number kk of an onboard entry (Table 12.4), if it has one. -/
def kkOf (e : IoEntry) : Option Nat :=
  if !onboard e then none
  else if 1 ≤ e.module ∧ e.module ≤ 6 then some (8 * (e.module - 1) + e.chan)
  else if e.module = 7 ∨ e.module = 8 then some (0x30 + 8 * (e.module - 7) + e.chan)
  else if e.module = 9 then some (0x40 + e.chan)
  else if e.module = 11 ∧ (e.chan = 4 ∨ e.chan = 5) then some (0x48 + e.chan - 4)
  else none

/-- The entry of a kind on channel kk, with its number. -/
def ioByKind (img : Image) (kk : Nat) (kinds : List Nat) : Option (Nat × IoEntry) :=
  (ioNum img).find? fun e => kkOf e.2 == some kk && kinds.contains e.2.kind

/-- Two entries name one channel of one I/O module, or one datum of a ring module. -/
def sameChannel (a b : IoEntry) : Bool :=
  a.ring == b.ring && a.can == b.can && a.module == b.module && a.chan == b.chan &&
    (onboard a || (a.filter == b.filter && a.output == b.output && (a.ty != 1 || a.param == b.param)))

/-! ### Owner rules -/

/-- Every field that the kind does not use is 0, and the used ones lie in range (Tables 12.1 to 12.3, R423, R236). -/
def onboardOk (e : IoEntry) : Bool :=
  let noEng := e.engLo == 0 && e.engHi == 0
  let noLim := e.limLo == 0 && e.limHi == 0
  let inp (ty : Nat) := !e.output && e.ty == ty
  let flagsIn (m : Nat) := e.flags &&& (0xFFFF - m) == 0
  let scale := fIsFinite e.engLo && fIsFinite e.engHi && !fEq e.engLo e.engHi
  let chanOk := if e.module = 11 then decide (e.chan ≤ 5) else decide (1 ≤ e.module ∧ e.module ≤ 10 ∧ e.chan ≤ 7)
  chanOk && (match e.kind with
    | 1 | 2 | 3 => inp 1 && decide (1 ≤ e.module ∧ e.module ≤ 6) && (e.filter == 0 || decide (5 ≤ e.filter ∧ e.filter ≤ 20000))
        && e.param == 0 && noEng && noLim && flagsIn 1
    | 4 => e.output && e.ty == 1 && decide (1 ≤ e.module ∧ e.module ≤ 6) && e.filter == 0
        && decide (80 ≤ e.param ∧ e.param ≤ 80000) && noEng && noLim && flagsIn 0xE
    | 6 | 7 => inp 0x0F && decide (e.module = 7 ∨ e.module = 8) && decide (e.filter ≤ 3) && e.param == 0 && scale && flagsIn 0x10
    | 8 => e.output && e.ty == 0x0F && e.module == 9 && e.filter == 0 && e.param == 0 && scale && flagsIn 0x20
        && fLe 0 e.limLo && fLe e.limLo e.limHi && fLe e.limHi (fOfInt 24)
    | 9 => inp 0x0F && e.module == 9 && e.filter == 0 && e.param == 0 && noEng && noLim && flagsIn 0
    | 10 =>
      let enc := e.param % 4
      let wl := e.param / 2 ^ 10 % 64
      let clk := e.param / 2 ^ 16 % 256
      inp 0x0F && e.module == 11 && decide (4 ≤ e.chan) && e.filter == 0 && noLim && flagsIn 0
        && decide (e.param / 2 ^ 24 ≤ 85) && decide (e.param / 8 % 128 = 0) && enc != 3
        && (if enc = 2 then decide (8 ≤ wl ∧ wl ≤ 32 ∧ 1 ≤ clk ∧ clk ≤ 40 ∧ 20 * (wl + 3) ≤ 35 * clk) else wl == 0)
    | 11 => inp 0x0F && e.module == 11 && decide (4 ≤ e.chan) && e.filter == 0 && decide (1 ≤ e.param ∧ e.param ≤ 64)
        && noEng && noLim && flagsIn 0
    | 12 => inp 0x0F && e.module == 11 && decide (4 ≤ e.chan) && e.filter == 0 && decide (1 ≤ e.param ∧ e.param ≤ 2 ^ 31)
        && noEng && noLim && flagsIn 0
    | 13 => inp 1 && (e.module == 10 || (e.module == 11 && decide (e.chan ≤ 3))) && e.filter == 0 && e.param == 0
        && noEng && noLim && flagsIn 0
    | 14 => inp 4 && e.filter == 0 && e.param == 0 && noEng && noLim && flagsIn 0
    | _ => false)

/-- The same for a ring entry (Table 13.3, R439). -/
def ringEntryOk (e : IoEntry) : Bool :=
  let noEng := e.engLo == 0 && e.engHi == 0
  let noRaw := e.limLo == 0 && e.limHi == 0
  decide (e.module ≤ 63 ∧ e.chan ≤ 15) && (match e.kind with
    | 20 => tyWidth e.ty != 0 && e.flags == 0 && (if e.ty = 1 then decide (e.param ≤ 7) else e.param == 0) && noEng && noRaw
    | 21 => e.ty == 0x0F && decide (e.flags ≤ 1) && (e.param == 16 || e.param == 32) && fIsFinite e.engLo
        && fIsFinite e.engHi && !fEq e.engLo e.engHi && fLt e.limLo e.limHi
    | 22 => !e.output && e.ty == 0x0F && e.flags == 0 && e.param == 0 && noRaw
    | 23 => !e.output && e.ty == 0x0F && e.flags == 0 && decide (1 ≤ e.param ∧ e.param ≤ 64) && noEng && noRaw
    | 24 => !e.output && e.ty == 0x0F && e.flags == 0 && decide (1 ≤ e.param ∧ e.param ≤ 2 ^ 31) && noEng && noRaw
    | 25 => !e.output && e.ty == 4 && e.flags == 0 && e.filter == 0 && e.param == 0 && noEng && noRaw
    | _ => false)

/-- The same for a CAN entry: kinds 20, 21 and 25 of Table 13.3, MODULE 0 (R464). -/
def canEntryOk (e : IoEntry) : Bool :=
  (e.kind == 20 || e.kind == 21 || e.kind == 25) && e.chan == 0 && ringEntryOk e

/-- No two elements of a list are related. -/
def allPairs {α : Type} (p : α → α → Bool) : List α → Bool
  | [] => true
  | a :: l => l.all (p a) && allPairs p l

/-- Rules of the I/O map record by itself (R398 to R400, R439). -/
def ioMapOk (p : Bytes) : Bool :=
  let n := le p 0 4
  let es := (List.range n).map fun i => ioEntryAt p (16 + 48 * i)
  decide (n ≤ 16384 ∧ p.length = 16 + 48 * n ∧ 40 ≤ le p 4 2 ∧ le p 4 2 ≤ 8000) && zeroAt p 6 10
    && (List.range n).all (fun i => decide (le p (16 + 48 * i) 1 ≤ 2 ∧ le p (17 + 48 * i) 1 ≤ 1))
    && es.all (fun e => if e.ring then ringEntryOk e else if e.can then canEntryOk e else onboardOk e)
    && allPairs (fun a b => !onboard a || !onboard b || !(a.module == b.module && a.chan == b.chan) ||
        (a.kind != b.kind && !(decide (a.kind ≤ 3) && b.kind == 4) && !(a.kind == 4 && decide (b.kind ≤ 3)))) es
    && es.all (fun e => !onboard e ||
        (let has (k : Nat) := es.any fun b => onboard b && b.kind == k && b.module == e.module && b.chan == e.chan
         if e.kind = 9 then has 8 else if e.kind = 11 ∨ e.kind = 12 then has 10 else true))

/-- Entries of the oasis record: entry, OKIND, VALUE (R427). -/
def oasisEntries (img : Image) : List (Nat × Nat × F64) :=
  match recOf img 0x11 0 with
  | none => []
  | some p => (List.range (le p 0 4)).map fun i => (le p (8 + 16 * i) 4, le p (12 + 16 * i) 1, leF64 p (16 + 16 * i))

/-- OKIND and VALUE of an output; off without an entry (R427). -/
def oasisOf (img : Image) (i : Nat) : Nat × F64 :=
  ((oasisEntries img).find? fun e => e.1 == i).elim (0, 0) fun e => e.2

/-- An analogue output: LREAL or REAL; every other type is treated as digital (R427). -/
def ioAnalogue (e : IoEntry) : Bool := tyReal e.ty

/-- Rules of the oasis record by itself (R427). -/
def oasisOk (p : Bytes) : Bool :=
  let n := le p 0 4
  decide (p.length = 8 + 16 * n) && zeroAt p 4 4 &&
    (List.range n).all fun i =>
      let o := 8 + 16 * i
      decide (le p (o + 4) 1 ≤ 3) && zeroAt p (o + 5) 3 && (le p (o + 4) 1 == 3 || zeroAt p (o + 8) 8)

/-- Rules that relate the oasis record to the I/O map (R427). -/
def oasisCrossOk (img : Image) : Bool :=
  (oasisEntries img).all fun (i, k, _) =>
    match ioEntry img i with
    | none => false
    | some e => e.output && !(k == 1 && ioAnalogue e) && !(k == 3 && !ioAnalogue e)

/-- I4M and I20M of AO a (R419); none when the channel is untrimmed. -/
def trimOf (img : Image) (a : Nat) : Option (F64 × F64) :=
  match recOf img 0x12 0 with
  | none => none
  | some p => if zeroAt p (16 * a) 16 then none else some (leF64 p (16 * a), leF64 p (16 * a + 8))

/-- Rules of the trim record (R419). -/
def trimOk (p : Bytes) : Bool :=
  decide (p.length = 128) && (List.range 8).all fun a =>
    zeroAt p (16 * a) 16 ||
      (fLe (fAbs (fSub (leF64 p (16 * a)) (fOfInt 4))) (fOfRat 5 100)
        && fLe (fAbs (fSub (leF64 p (16 * a + 8)) (fOfInt 20))) (fOfRat 5 100))

/-! ### Ring configuration (R438) -/

/-- A declared module of a station (Table 13.2). -/
structure RModDef where
  module : Nat
  optional : Bool
  inBytes : Nat
  outBytes : Nat
  mtype : W32
  deriving DecidableEq, Repr

/-- A declared station (Table 13.1). -/
structure StationDef where
  station : Nat
  gen : Nat
  optional : Bool
  drive : Bool
  cycle : Nat
  offset : Nat
  holdWin : Nat
  ident : W32
  mods : List RModDef
  deriving DecidableEq, Repr

/-- The n station entries from a byte offset on, and the offset behind them. -/
def stationsAt (p : Bytes) : Nat → Nat → List StationDef × Nat
  | 0, o => ([], o)
  | n + 1, o =>
    let k := le p (o + 3) 1
    let mods := (List.range k).map fun i =>
      let q := o + 16 + 16 * i
      (⟨le p q 1, (le p (q + 1) 1).testBit 0, le p (q + 2) 2, le p (q + 4) 2, BitVec.ofNat 32 (le p (q + 8) 4)⟩ : RModDef)
    let st : StationDef := ⟨le p o 1, le p (o + 1) 1, (le p (o + 2) 1).testBit 0, (le p (o + 2) 1).testBit 1, le p (o + 4) 2,
      le p (o + 6) 2, le p (o + 8) 2, BitVec.ofNat 32 (le p (o + 0x0C) 4), mods⟩
    let r := stationsAt p n (o + 16 + 16 * k)
    (st :: r.1, r.2)

/-- Every declared station. -/
def stations (img : Image) : List StationDef :=
  match recOf img 0x80 0 with
  | none => []
  | some p => (stationsAt p (le p 0 2) 16).1

/-- The declaration of a station number. -/
def stationDef (img : Image) (n : Nat) : Option StationDef := (stations img).find? fun d => d.station == n

/-- The station entry of a station with its module entries, as the record's n entries from a byte offset on hold them. -/
def stationBytes (p : Bytes) (st : Nat) : Nat → Nat → Bytes
  | 0, _ => []
  | n + 1, o =>
    let size := 16 + 16 * le p (o + 3) 1
    if le p o 1 = st then (p.drop o).take size else stationBytes p st n (o + size)

/-- The entries of the oasis record that name outputs of a ring station (R427, R451). -/
def stationOasis (img : Image) (st : Nat) : Bytes :=
  match recOf img 0x11 0 with
  | none => []
  | some p => (List.range (le p 0 4)).flatMap fun i =>
    if (ioEntry img (le p (8 + 16 * i) 4)).elim false fun e => e.ring && e.module == st then (p.drop (8 + 16 * i)).take 16 else []

/-- The configuration digest: SHA-384 of the record's payload (R451). -/
def ringDigest (img : Image) : Bytes := sha384 ((recOf img 0x80 0).getD [])

/-- A power of two between two bounds. -/
def pow2In (lo hi n : Nat) : Bool := decide (lo ≤ n ∧ n ≤ hi) && decide (2 ^ Nat.log2 n = n)

/-- Reserved bytes of the n station entries and their modules are 0. -/
def ringReservedOk (p : Bytes) : Nat → Nat → Bool
  | 0, _ => true
  | n + 1, o =>
    let k := le p (o + 3) 1
    decide (le p (o + 2) 1 ≤ 3) && zeroAt p (o + 0x0A) 2 &&
      (List.range k).all (fun i =>
        let q := o + 16 + 16 * i
        decide (le p (q + 1) 1 ≤ 1) && zeroAt p (q + 6) 2 && zeroAt p (q + 0x0C) 4) &&
      ringReservedOk p n (o + 16 + 16 * k)

/-- Rules of the ring configuration record (R438, Tables 13.1 and 13.2). -/
def ringOk (p : Bytes) : Bool :=
  let n := le p 0 2
  let r := stationsAt p n 16
  decide (n ≤ 64) && zeroAt p 2 14 && decide (r.2 = p.length) && ringReservedOk p n 16
    && r.1.all (fun d =>
      decide (d.station ≤ 63 ∧ 1 ≤ d.mods.length ∧ d.mods.length ≤ 16 ∧ d.offset < d.cycle)
        && (d.gen == 1 && pow2In 4 64 d.cycle || d.gen == 2 && pow2In 1 64 d.cycle)
        && decide (4 ≤ d.holdWin ∧ d.holdWin ≤ 4000 ∧ 2 * d.cycle ≤ d.holdWin)
        && d.mods.all (fun m => decide (m.module ≤ 15 ∧ m.inBytes ≤ 256 ∧ m.outBytes ≤ 256))
        && allPairs (fun a b => a.module != b.module) d.mods)
    && allPairs (fun a b => a.station != b.station) r.1

/-- Bytes that a ring datum takes in its module's data (Table 13.3). -/
def ringWidth (e : IoEntry) : Nat :=
  if e.kind = 21 then e.param / 8 else if e.kind = 25 then 0 else if e.kind = 20 then tyWidth e.ty else 8

/-- Ring entries name declared stations and modules and lie within their data (Table 13.3). -/
def ioCrossOk (img : Image) : Bool :=
  (ioMap img).all fun e => !e.ring ||
    (match stationDef img e.module with
     | none => false
     | some d =>
       match d.mods.find? fun m => m.module == e.chan with
       | none => false
       | some m => decide (e.filter + ringWidth e ≤ if e.output then m.outBytes else m.inBytes))

end Sys2Proof.Machine
end

