-- ==== Sys2Proof/Machine/RecordsCan.lean ====
section
/-! DEFINITION. Typed views and owner rules of the CAN records, type 0x0081 (R459, R461, R462, R464). -/

namespace Sys2Proof.Machine

/-- A port entry (Table 14.3), as far as the controller's behaviour at frame level needs it. -/
structure CanPortDef where
  format : Nat
  late : Nat
  /-- N_BRP and N_TSEG1 of the nominal bit timing (R459) -/
  brp : Nat
  tseg1 : Nat
  deriving DecidableEq, Repr

/-- A receive filter (Table 14.4). -/
structure FilterDef where
  port : Nat
  flags : Byte
  slot : Bool
  dest : Nat
  ident : W32
  mask : W32
  depth : Nat
  deriving DecidableEq, Repr

/-- A slot (Table 14.5). -/
structure SlotDef where
  tx : Bool
  port : Nat
  flags : Byte
  dlc : Nat
  ident : W32
  period : Nat
  offset : Nat
  phase : Nat
  deriving DecidableEq, Repr

def canPortDef (img : Image) (p : Nat) : Option CanPortDef :=
  if p ≤ 3 then (recOf img 0x81 p).map fun b => ⟨le b 0 1, le b 0x0C 2, le b 1 1, le b 2 2⟩ else none

def filterOf (b : Bytes) : FilterDef :=
  ⟨le b 0 1, b.getD 1 0, le b 2 1 == 1, le b 3 1, BitVec.ofNat 32 (le b 4 4), BitVec.ofNat 32 (le b 8 4), le b 0x0C 2⟩

def filterDef (img : Image) (f : Nat) : Option FilterDef := if f ≤ 127 then (recOf img 0x81 (0x100 + f)).map filterOf else none

def slotOf (b : Bytes) : SlotDef :=
  ⟨le b 0 1 == 1, le b 1 1, b.getD 2 0, le b 3 1, BitVec.ofNat 32 (le b 4 4), le b 8 2, le b 0x0A 2, le b 0x0C 2⟩

def slotDef (img : Image) (k : Nat) : Option SlotDef := if k ≤ 63 then (recOf img 0x81 (0x200 + k)).map slotOf else none

/-- Every filter and every slot that has an entry, in ascending number. -/
def filterDefs (img : Image) : List (Nat × FilterDef) :=
  (List.range 128).filterMap fun f => (filterDef img f).map fun d => (f, d)
def slotDefs (img : Image) : List (Nat × SlotDef) := (List.range 64).filterMap fun k => (slotDef img k).map fun d => (k, d)

/-- Data bytes of a DLC (ISO 11898-1); a classical frame has at most 8. -/
def dlcLength (fd : Bool) (dlc : Nat) : Nat :=
  if dlc ≤ 8 then dlc else if fd then [12, 16, 20, 24, 32, 48, 64].getD (dlc - 9) 64 else 8

/-- One of the two bit rates' timing: sample point within 60 to 90 %. -/
def samplePointOk (t1 t2 : Nat) : Bool := decide (60 * (1 + t1 + t2) ≤ 100 * (1 + t1) ∧ 100 * (1 + t1) ≤ 90 * (1 + t1 + t2))

/-- Rules of a port entry (R459, Table 14.3). -/
def canPortOk (b : Bytes) : Bool :=
  let nb := le b 1 1
  let n1 := le b 2 2
  let n2 := le b 4 1
  let db := le b 6 1
  let d1 := le b 7 1
  let d2 := le b 8 1
  let nd := nb * (1 + n1 + n2)
  let dd := db * (1 + d1 + d2)
  decide (b.length = 16 ∧ le b 0 1 ≤ 2 ∧ 1 ≤ nb ∧ nb ≤ 32 ∧ 2 ≤ n1 ∧ n1 ≤ 256 ∧ 1 ≤ n2 ∧ n2 ≤ 128 ∧ 1 ≤ le b 5 1
      ∧ le b 5 1 ≤ n2 ∧ le b 0x0A 1 ≤ 127 ∧ le b 0x0C 2 ≤ 8000 ∧ 80 ≤ nd ∧ nd ≤ 640)
    && zeroAt b 0x0B 1 && zeroAt b 0x0E 2 && samplePointOk n1 n2
    && (if le b 0 1 = 0 then zeroAt b 6 4
      else decide (1 ≤ db ∧ db ≤ 32 ∧ 1 ≤ d1 ∧ d1 ≤ 32 ∧ 1 ≤ d2 ∧ d2 ≤ 16 ∧ 1 ≤ le b 9 1 ∧ le b 9 1 ≤ d2
          ∧ 16 ≤ dd ∧ dd ≤ nd) && samplePointOk d1 d2)

/-- An identifier of 11 or 29 bits. -/
def identOk (ide : Bool) (i : W32) : Bool := decide (i.toNat < if ide then 2 ^ 29 else 2 ^ 11)

/-- Rules of a receive filter (Table 14.4). -/
def filterOk (b : Bytes) : Bool :=
  let d := filterOf b
  decide (b.length = 16 ∧ d.port ≤ 3 ∧ d.flags.toNat < 16 ∧ le b 2 1 ≤ 1) && identOk (d.flags.getLsbD 0) d.ident
    && zeroAt b 0x0E 2
    && (if d.slot then decide (d.dest ≤ 63 ∧ d.depth = 0) else decide (d.dest ≤ 8 ∧ 1 ≤ d.depth ∧ d.depth ≤ 64))

/-- Rules of a slot (Table 14.5). -/
def slotOk (b : Bytes) : Bool :=
  let d := slotOf b
  decide (b.length = 16 ∧ le b 0 1 ≤ 1 ∧ d.port ≤ 3 ∧ 1 ≤ d.period ∧ d.period ≤ 8192) && zeroAt b 0x0E 2
    && (if d.tx then decide (d.flags.toNat < 8 ∧ d.dlc ≤ 15 ∧ d.offset < d.period ∧ d.phase ≤ 124)
          && identOk (d.flags.getLsbD 0) d.ident && (d.flags.getLsbD 1 || decide (d.dlc ≤ 8))
        else zeroAt b 2 6 && zeroAt b 0x0A 4)

/-- The rules of one record of type 0x0081 by itself. -/
def canRecOk (i : Nat) (b : Bytes) : Bool :=
  if i ≤ 3 then canPortOk b
  else if 0x100 ≤ i ∧ i ≤ 0x17F then filterOk b
  else if 0x200 ≤ i ∧ i ≤ 0x23F then slotOk b
  else false

/-- Rules that relate the CAN records to each other and to the I/O map (R461, R462, R464). -/
def canCrossOk (img : Image) : Bool :=
  decide (((filterDefs img).map fun e => e.2.depth).sum ≤ 2048)
    && (slotDefs img).all (fun e => !e.2.tx || (canPortDef img e.2.port).elim true fun p =>
      (!e.2.flags.getLsbD 1 || p.format != 0) && (!e.2.flags.getLsbD 2 || p.format == 1))
    && (ioMap img).all fun e => !e.can ||
      (match slotDef img e.module with
       | none => false
       | some d => d.tx == e.output &&
          decide (e.filter + ringWidth e ≤ if d.tx then dlcLength (d.flags.getLsbD 1) d.dlc else 64))

end Sys2Proof.Machine
end

