-- ==== Sys2Proof/Machine/Ops.lean ====
section
/-! DEFINITION. The shared operations: time, events, host messages, and what a change of mode, of role or an abdication
does to the rest of the module (chapters 02, 10, 15, 16, 19). -/

namespace Sys2Proof.Machine

/-! ### Time -/

/-- Length of a tick in ns of vessel time (R20). -/
def tickNs : Nat := 125000

/-- Vessel time at the present instant, ns (R20, R50). -/
def vtime (s : State) : Nat := s.time.ns + s.time.phase

/-- The staleness of a mortar class (R344). -/
def setStale (s : State) (cls n : Nat) : State := { s with pair := { s.pair with stale := lset s.pair.stale cls n } }

/-- The present instant in ns of the tick counter. -/
def nowNs (s : State) : Nat := s.time.tick * tickNs + s.time.phase

/-- The present instant moves to a phase of the tick (R19). -/
def setPhase (s : State) (ph : Nat) : State := { s with time := { s.time with phase := ph } }

/-- Time quality (R491): 0 LOCKED, 1 otherwise once locked, 2 before the first lock or FREE. -/
def timeQuality (s : State) : Nat :=
  if s.time.servo = 1 then 0 else if s.time.servo = 4 ∨ (s.time.servo = 0 ∧ !s.time.everLocked) then 2 else 1

/-! ### Modes and roles -/

/-- Mode codes of Table 02.1. -/
def modeCode : Mode → Nat
  | .kiln => 0 | .load => 1 | .stop => 2 | .sync => 3 | .track => 4 | .run => 5 | .hold => 6 | .change => 7
  | .degraded => 8 | .oasis => 9 | .halt => 10 | .sealed => 11

/-- The mode of a code of Table 02.1. -/
def modeOfCode (n : Nat) : Mode :=
  [Mode.kiln, .load, .stop, .sync, .track, .run, .hold, .change, .degraded, .oasis, .halt, .sealed].getD n .halt

/-- Role codes of Table 02.4. -/
def roleCode : Role → Nat
  | .solo => 0 | .active => 1 | .standby => 2

/-- Courses, loop engine and solver run in this mode (Table 02.1); in TRACK in shadow. -/
def runs : Mode → Bool
  | .track | .run | .hold | .change | .degraded => true
  | _ => false

/-- Courses, loop engine and solver run: in TRACK while the active's mode runs them (R72, Table 02.3). -/
def running (s : State) : Bool := runs s.md.mode && (s.md.mode != .track || runs (modeOfCode s.mortar.activeMode))

/-- The safety channels evaluate in this mode (Table 02.1). -/
def evaluates : Mode → Bool
  | .stop | .sync | .track | .run | .hold | .change | .degraded | .oasis => true
  | _ => false

/-- The module sits on a twin base (R59). -/
def onTwin (s : State) : Bool := s.md.slot != 0

/-- It holds the role SOLO or ACTIVE. -/
def inControl (s : State) : Bool := s.md.role != .standby

/-- It drives the plant (R330, R331, Table 02.1): SOLO or ACTIVE in a mode in which the safety channels evaluate. -/
def drives (s : State) : Bool := inControl s && evaluates s.md.mode

/-- A partner report has come within the last 8 ticks and names one of these modes (R59). -/
def partnerIn (s : State) (ms : List Mode) : Bool :=
  s.pair.report && (match s.pair.status with
    | some f => ms.contains (modeOfCode f.mode)
    | none => false)

/-- The partner receives mortar: in SYNC, TRACK or CHANGE (R339). -/
def partnerFollows (s : State) : Bool := onTwin s && partnerIn s [.sync, .track, .change]

/-- The partner is in TRACK (R69, R122, R163). -/
def partnerTracks (s : State) : Bool := onTwin s && partnerIn s [.track]

/-- The partner is live: its token line reads held, or a STATUS frame came within the last 8 ticks (R59). -/
def partnerLive (s : State) : Bool := onTwin s && (s.pair.partnerToken || s.pair.report)

/-- Both lanes of the Cerhar link are down (R338). -/
def linkLost (s : State) : Bool := s.pair.lanes.all fun l => l.state != 2

/-! ### Events (chapter 19) -/

/-- Class of a source: 0 I, 1 W, 2 A, 3 F (Table 19.1 and the owner tables); EV120 to EV127 from the image (R564). -/
def evClass (s : State) (ev : Nat) : Nat :=
  if [4, 32, 52, 72, 73, 79, 97, 99, 101, 205, 241].contains ev then 3
  else if [1, 2, 14, 17, 35, 39, 40, 41, 47, 50, 64, 65, 67, 68, 70, 71, 75, 77, 78, 98, 109, 129, 161, 165, 167, 178,
    179, 192, 193, 195, 196, 198, 208, 213, 216, 225, 234, 242, 243, 248, 252].contains ev then 2
  else if [3, 5, 9, 10, 13, 18, 20, 22, 33, 36, 42, 44, 48, 53, 74, 76, 82, 96, 104, 105, 110, 111, 113, 117, 128, 130,
    131, 133, 135, 137, 138, 139, 142, 146, 160, 163, 164, 168, 176, 177, 180, 194, 197, 200, 201, 203, 206, 207, 209,
    211, 212, 215, 218, 219, 220, 224, 227, 228, 229, 230, 233, 236, 239, 246, 250, 254].contains ev then 1
  else if 120 ≤ ev ∧ ev ≤ 127 then routing (theImage s) ev / 1024 % 4
  else 0

/-- The capture's TRIGGER is EVENT, its TRIG_EVENT is this source, and PRE rows are complete (R262, Table 07.9). -/
def captureSees (s : State) (ev : Nat) : Bool :=
  s.loops.cap.state == 1 && le s.loops.cap.config 2 1 == 3 && le s.loops.cap.config 0x0C 2 == ev &&
    decide (le s.loops.cap.config 8 4 ≤ s.loops.cap.rows.length)

/-- A block hands an event to the event controller's intake, with the vessel time of its detection (R50, R566). The
deadline events of R348 are kept for the cascade. Before LOAD the controller does not run and takes nothing (R87). -/
def raiseAt (s : State) (stamp ev : Nat) (arg : List W32) : State :=
  if s.ev.running then
    let s := { s with ev := { s.ev with intake := s.ev.intake ++ [{ stamp := stamp, ev := ev, arg := arg.take 4, quality := timeQuality s }] } }
    let s := if ev = 98 ∨ ev = 128 ∨ ev = 160 then
      { s with mortar := { s.mortar with cascade := s.mortar.cascade ++ [(s.time.tick, ev)] } } else s
    if captureSees s ev then { s with loops := { s.loops with cap := { s.loops.cap with evSeen := true } } } else s
  else s

/-- An event detected at the present instant. -/
def raise (s : State) (ev : Nat) (arg : List W32 := []) : State := raiseAt s (vtime s) ev arg

/-- A number as one argument word (R568). -/
def w32 (n : Nat) : W32 := BitVec.ofNat 32 n

/-- A 64-bit value as two argument words (R568). -/
def w64 (n : Nat) : List W32 := [BitVec.ofNat 32 n, BitVec.ofNat 32 (n / 2 ^ 32)]

/-- A binary64 as two argument words (R568). -/
def wF64 (x : F64) : List W32 := w64 x.toNat

/-- The next open choice (Config.freeWord): its word, and the state behind it. -/
def takeFree (s : State) : W64 × State := (Config.freeWord s.free, { s with free := s.free + 1 })

/-! ### Host messages (chapters 15 and 16) -/

/-- Response codes of Table 15.8. -/
def stDone : Nat := 0x00
def stAccepted : Nat := 0x01
def stBusy : Nat := 0x02
def rfMode : Nat := 0x10
def rfRole : Nat := 0x11
def rfImage : Nat := 0x12
def rfBusy : Nat := 0x13
def rfRange : Nat := 0x14
def rfFull : Nat := 0x15
def rfSafety : Nat := 0x16
def rfAccess : Nat := 0x17
def rfObject : Nat := 0x18
def rfVersion : Nat := 0x19

/-- Session i. -/
def sess (s : State) (i : Nat) : SessSt := tget {} s.net.sess i

/-- Session i replaced. -/
def setSess (s : State) (i : Nat) (x : SessSt) : State := { s with net := { s.net with sess := tset s.net.sess i x } }

/-- A message leaves the module. -/
def send (s : State) (m : OutMsg) : State := { s with net := { s.net with outbox := m :: s.net.outbox } }

/-! ### The sending side of the Cerhar link (R336, R337, R341) -/

/-- Largest link frame (R337). -/
def frameMax : Nat := 512

/-- The present instant in bytes of lane time: a lane carries 2.5 Gbit/s, one byte in 3.2 ns (R336). -/
def linkNow (s : State) : Nat := nowNs s * 5 / 16

/-- A message enters a lane's queue behind those of its order or a higher one (Table 10.2). -/
def itemInsert (x : LaneItem) : List LaneItem → List LaneItem
  | [] => [x]
  | y :: l => if x.order < y.order then x :: y :: l else y :: itemInsert x l

/-- Frames that have started on a lane by an instant: each takes up to 512 bytes of the first message that waits, as soon as
the lane is free. -/
def laneRun (now lane : Nat) : Nat → LaneOut → List LinkFrame → LaneOut × List LinkFrame
  | 0, o, fs => (o, fs)
  | n + 1, o, fs =>
    match o.queue with
    | [] => (o, fs)
    | x :: l =>
      if now < o.freeAt then (o, fs)
      else
        let len := min x.left frameMax
        let q := if x.left ≤ frameMax then l else { x with left := x.left - frameMax } :: l
        laneRun now lane n ⟨q, o.freeAt + max len 1⟩ (⟨lane, x.order, len, x.tick, o.freeAt⟩ :: fs)

/-- Frames that a lane's queue can need. -/
def laneFrames (o : LaneOut) : Nat := o.queue.foldl (fun n x => n + x.left / frameMax + 1) 0

/-- A lane sends up to the present instant. -/
def linkRun (s : State) (lane : Nat) : State :=
  let o := s.net.laneOut.getD lane {}
  let r := laneRun (linkNow s) lane (laneFrames o) o s.net.linkFrames
  { s with net := { s.net with laneOut := lset s.net.laneOut lane r.1, linkFrames := r.2 } }

/-- A message of so many bytes is queued on a lane. -/
def lanePut (s : State) (lane order bytes : Nat) : State :=
  let s := linkRun s lane
  let o := s.net.laneOut.getD lane {}
  let o := ⟨itemInsert ⟨order, s.time.tick, bytes⟩ o.queue, max o.freeAt (linkNow s)⟩
  linkRun { s with net := { s.net with laneOut := lset s.net.laneOut lane o } } lane

/-- Lanes that take a message: STATUS and ABDICATE go on both (R334, R349), any other on the lane that is up, of two the one
with fewer bytes queued, XL0 of equals: how traffic is split over two lanes is not stated (DESIGN CHOICE, assumption 87). -/
def lanesFor (s : State) (order : Nat) : List Nat :=
  if order = 1 then [0, 1]
  else
    let load (k : Nat) : Nat := (s.net.laneOut.getD k {}).queue.foldl (fun n x => n + x.left) 0
    match (List.range 2).filter fun k => (s.pair.lanes.getD k {}).state == 2 with
    | [a, b] => if load b < load a then [b] else [a]
    | l => l

/-- What waits on a lane that is lost leaves on the other, if that is up (R338). -/
def laneMove (s : State) (lane : Nat) : State :=
  let l := (s.net.laneOut.getD lane {}).queue
  let k := 1 - lane
  let o := s.net.laneOut.getD k {}
  let q := if (s.pair.lanes.getD k {}).state == 2 then
    l.foldl (fun q x => if x.order = 1 then q else itemInsert x q) o.queue else o.queue
  { s with net := { s.net with
    laneOut := lset (lset s.net.laneOut lane { s.net.laneOut.getD lane {} with queue := [] }) k { o with queue := q } } }

/-- At a tick boundary both lanes have sent what the last tick let them, and its mortar is counted (R337, R341). -/
def linkTick (s : State) : State :=
  let s := linkRun (linkRun s 0) 1
  { s with
    pair := { s.pair with largest := max s.pair.largest s.net.mortarSent }
    net := { s.net with mortarSent := 0, linkFrames := [] } }

/-- A message leaves on the Cerhar link in an order of Table 10.2; mortar (orders 3 and 4) counts toward the tick's bytes
(R341). -/
def sendLink (s : State) (order bytes : Nat) (m : OutMsg) : State :=
  let s := send s m
  let s := { s with net := { s.net with
    mortarSent := if order = 3 ∨ order = 4 then s.net.mortarSent + bytes else s.net.mortarSent } }
  (lanesFor s order).foldl (fun s k => lanePut s k order bytes) s

/-- Bytes of a frame of class 1 to 3 (Table 10.6). -/
def mortarBytes : Mortar → Nat
  | .courseEnd _ _ data settings mirages =>
    let n := settings.length + mirages.length
    data.foldl (fun b e => b + e.2.2.length) 16 + (if n = 0 then 0 else Config.changeFrameBytes n)
  | .outcome o => 128 + 12 * (o.goodX.length + (o.goodMult.getD []).length)
  | .content _ _ data => data.length
  | _ => Config.changeFrameBytes 1

/-- Mortar of class 1 to 3 on the link (R339). -/
def linkMortar (s : State) (m : Mortar) : State := sendLink s 4 (mortarBytes m) (.mortar m)

/-- Mortar of class 1 to 3 leaves an ACTIVE module for its partner (R339), in an order of Table 10.2: 4, or 6 in the bulk
copy (R361). -/
def sendMortarAt (order : Nat) (s : State) (m : Mortar) : State :=
  if s.md.role == .active then sendLink s order (mortarBytes m) (.mortar m) else s

/-- Mortar of class 1 to 3 outside the bulk copy. -/
def sendMortar (s : State) (m : Mortar) : State := sendMortarAt 4 s m

/-- Frames for the entries of an on-change table that differ from what was last sent. -/
def sendTab {α : Type} [BEq α] (order : Nat) (s : State) (now sent : Tab α) (f : Nat → α → Mortar) : State :=
  now.foldl (fun s e => if tfind sent e.1 == some e.2 then s else sendMortarAt order s (f e.1 e.2)) s

/-- Exchange STATE and PHASE as mortar carries them: an accepted ACTIVATE is announced as a window without a phase, so that
the standby enters CHANGE at the same boundary (R193). -/
def exchItem (s : State) : Nat × Nat :=
  if s.md.trans.any fun t => t.dest == .change then (4, 0) else (s.exch.state, s.exch.phase)

/-- What the on-change items of class 3 read now (Table 10.3). -/
def changeItems (s : State) : ChangeSent :=
  { mode := some (modeCode s.md.mode, exchItem s)
    settings := some (s.set.state, s.set.generation)
    loops := s.loops.l.map fun e => (e.1, (e.2.mode, e.2.manual))
    params := s.loops.m.map fun e => (e.1, e.2.params)
    expiry := some s.safe.expiry
    launch := s.can.p.map fun e => (e.1, e.2.launch.map (·.req))
    swap := some s.md.swapAt
    role := some (roleCode s.md.role)
    rehearsal := some s.ev.rehearsed }

/-- Each on-change item that differs from what was last sent leaves in an order of Table 10.2. -/
def sendItems (order : Nat) (s : State) : State :=
  let o := s.mortar.sent
  let n := changeItems s
  let one (s : State) (same : Bool) (m : Mortar) : State := if same then s else sendMortarAt order s m
  let s := one s (o.mode == n.mode) (.mode (modeCode s.md.mode) (exchItem s).1 (exchItem s).2)
  let s := one s (o.settings == n.settings) (.settings s.set.state s.set.generation)
  let s := one s (o.expiry == n.expiry) (.expiry s.safe.expiry)
  let s := one s (o.swap == n.swap) (.swap s.md.swapAt)
  let s := one s (o.role == n.role) (.role (roleCode s.md.role))
  let s := one s (o.rehearsal == n.rehearsal) (.rehearsal s.ev.rehearsed)
  let s := sendTab order s n.loops o.loops fun c x => .loop c x.1 x.2
  let s := sendTab order s n.params o.params fun c x => .loopParams c x
  let s := sendTab order s n.launch o.launch fun p x => .launch p x
  { s with mortar := { s.mortar with sent := n } }

/-- On-change mortar (R339, Table 10.3): an ACTIVE module sends each item that differs from what it has last sent. -/
def sendChanges (s : State) : State := if s.md.role != .active then s else sendItems 4 s

/-- The request that a later completion names. -/
def originOf (s : State) (r : Req) : Origin := ⟨r.session, r.seq, (sess s r.session).opening⟩

/-- A response (R499, R503). A request answered ACCEPTED waits for its completion (R514). -/
def reply (s : State) (r : Req) (obj : W32) (status : Nat) (payload : Bytes := []) : State :=
  let s := send s (.response r.session r.seq status payload)
  if status = stAccepted then
    let x := sess s r.session
    setSess s r.session { x with waiting := x.waiting ++ [(r.seq, obj)] }
  else s

/-- A request that was ACCEPTED reports its final code: a completion NOTIFY in SP2 and SP3; nothing once its session has
ended (R504, R514). -/
def completeOne (s : State) (o : Origin) (status : Nat) : State :=
  let x := sess s o.session
  if x.open_ && x.opening == o.opening then
    match x.waiting.find? fun w => w.1 == o.seq with
    | none => s
    | some w =>
      let s := setSess s o.session { x with waiting := x.waiting.erase w }
      if 2 ≤ x.gen then send s (.completion o.session o.seq w.2 status) else s
  else s

/-- A request that was ACCEPTED completes with its final code; a batch once every entry of it has (R514, R524). -/
def complete (s : State) (o : Origin) (status : Nat) : State :=
  match s.net.batches.find? fun b => b.origin == o with
  | none => completeOne s o status
  | some b =>
    let rest := s.net.batches.erase b
    if 2 ≤ b.left then { s with net := { s.net with batches := ⟨o, b.left - 1⟩ :: rest } }
    else completeOne { s with net := { s.net with batches := rest } } o status

/-- Completion of a request that may be absent. -/
def completeOpt (s : State) (o : Option Origin) (status : Nat) : State :=
  match o with
  | some o => complete s o status
  | none => s

/-- A refused command: its code in the response and in EV009 (R75). -/
def refuse (s : State) (r : Req) (obj : W32) (status : Nat) : State :=
  raise (reply s r obj status) 9 [w32 status]

/-- The link is up to a partner that receives this module's mortar, or sends it its own (R247, R339). -/
def tablePartner (s : State) : Bool :=
  onTwin s && !linkLost s && (if inControl s then partnerIn s [.sync, .track, .change] else s.pair.report)

/-! ### Region update tickets (R197, R198) and the end of sessions -/

/-- Ticket t (Table 05.8). -/
def ticket (s : State) (t : Nat) : TicketSt := tget {} s.tickets t
def setTicket (s : State) (t : Nat) (x : TicketSt) : State := { s with tickets := tset s.tickets t x }

/-- Both modules of a pair hold the data of a RUNNING update, so that it may reach its commit point (R201). -/
def regionHeld (s : State) (t : Nat) : Bool := !inControl s || !tablePartner s || (ticket s t).partnerDone

/-- The contents of a region are those of a DONE update (R201, R361). -/
def keepUpdate (s : State) (kind index : Nat) (data : Bytes) : State :=
  { s with pair := { s.pair with
      updated := (s.pair.updated.filter fun e => !(e.1 == kind && e.2.1 == index)) ++ [(kind, index, data)] } }

/-- A request ends: 4 DONE, 5 SUPERSEDED, 6 CANCELLED, 7 FAILED with its REASON; EV112, EV113 or EV114 (Table 05.9); its
host learns the end (R514). -/
def ticketEnd (s : State) (t status reason : Nat) : State :=
  let x := ticket s t
  let s := setTicket s t { x with status := status, reason := reason, origin := none, data := [] }
  let s := if status = 4 ∧ x.kind ≠ 4 then keepUpdate s x.kind x.index x.data else s
  let s := if status = 4 then raise s 112 [w32 t, w32 x.kind, w32 x.index]
    else if status = 7 then raise s 113 [w32 t, w32 reason]
    else raise s 114 [w32 t, w32 status]
  let s := sendMortar s (.region t status x.kind x.index reason)
  completeOpt s x.origin (if status = 4 then stDone else Config.finalCode 0xE000 (16 * status + reason))

/-- Sessions that meet a test end (R502, R504): their waiting requests get nothing, their region requests whose data is
incomplete are CANCELLED with REASON 8 (R198), their nonces go. -/
def endSessions (s : State) (p : Nat → SessSt → Bool) : State :=
  let gone := s.net.sess.filter fun e => p e.1 e.2
  let mine (o : Origin) : Bool := gone.any fun e => e.1 == o.session && e.2.opening == o.opening
  let s : State := { s with
    net := { s.net with
      sess := s.net.sess.filter fun e => !p e.1 e.2, batches := s.net.batches.filter fun b => !mine b.origin }
    kiln := { s.kiln with quotes := s.kiln.quotes.filter fun q => !gone.any fun e => e.1 == q.session } }
  s.tickets.foldl (fun s e =>
    if e.2.status = 1 && !e.2.complete && e.2.origin.elim false mine then ticketEnd s e.1 6 8 else s) s

/-! ### Parts of the module that a change of mode touches -/

/-- An injection stops with a cause (R257, Table 07.7); a START that waits for its first sample completes. -/
def stopInjection (s : State) (ctx cause : Nat) : State :=
  let j := tget ({} : InjSt) s.loops.inj ctx
  if j.state = 1 ∨ j.state = 2 then
    let s := { s with loops := { s.loops with
      inj := tset s.loops.inj ctx { j with state := 4, cause := cause, origin := none, satRun := 0 } } }
    completeOpt (raise s 142 [w32 ctx, w32 cause]) j.origin (Config.finalCode 0x1030 cause)
  else s

/-- Every injection stops with a cause. -/
def stopInjections (s : State) (cause : Nat) : State :=
  (s.loops.inj.map (·.1)).foldl (fun s c => stopInjection s c cause) s

/-- A capture that is ARMED or TRIGGERED is aborted (R263). -/
def abortCapture (s : State) (cause : Nat) : State :=
  if s.loops.cap.state = 1 ∨ s.loops.cap.state = 2 then
    raise { s with loops := { s.loops with cap := { s.loops.cap with state := 4, cause := cause } } } 146 [w32 cause]
  else s

/-- The state of course c (R133), replaced, and instance data (R131). -/
def course (s : State) (c : Nat) : CourseSt := tget {} s.crs.c c
def setCourse (s : State) (c : Nat) (x : CourseSt) : State := { s with crs := { s.crs with c := tset s.crs.c c x } }

/-- Instance data with bytes written at an offset. -/
def putData (s : State) (brick off : Nat) (b : Bytes) : State :=
  { s with crs := { s.crs with data := tset s.crs.data brick (writeAt (brickData s brick) off b) } }

/-- The course that a brick belongs to; none for instance 0 and for an index without a brick (R130). -/
def brickCourse (s : State) (i : Nat) : Option Nat :=
  (brickInst (theImage s) i).bind fun b => if b.course ≤ 8 then some b.course else none

/-- One output in the output image, as its writer has released it (R595); it is no orphan of an exchange any more (R183). -/
def putOut (s : State) (n : Nat) (v : W64) : State :=
  { s with
    crs := { s.crs with out := tset s.crs.out n ⟨v, true⟩ }
    exch := { s.exch with orphans := s.exch.orphans.filter (· != n) } }

/-- An activation's present stretch of execution ends: at its end, where it is abandoned, or in HOLD (LOAD, Table 04.9). -/
def endStretch (s : State) (x : CourseSt) : CourseSt :=
  if x.state = 1 ∨ x.state = 2 then
    { x with busy := x.busy ++ [(x.from_, nowNs s)], ranNs := x.ranNs + (nowNs s - x.from_), from_ := nowNs s }
  else x

/-- The first call of each source of SYS_EVENT_RAISE, and the number of the others (R165). -/
def firstCalls : List (Nat × W32 × Nat) → List Nat → List (Nat × W32 × Nat) × Nat
  | [], _ => ([], 0)
  | e :: l, seen =>
    if seen.contains e.1 then let r := firstCalls l seen; (r.1, r.2 + 1)
    else let r := firstCalls l (e.1 :: seen); (e :: r.1, r.2)

/-- The calls of SYS_EVENT_RAISE of an activation: each source once, stamped at its call; repeated calls are counted. -/
def releaseEvents (s : State) (c : Nat) (l : List (Nat × W32 × Nat)) : State :=
  let (es, n) := firstCalls (l.filter fun e => decide (120 ≤ e.1 ∧ e.1 ≤ 127)) []
  let s := es.foldl (fun s e => raiseAt s (min e.2.2 (vtime s)) e.1 [e.2.1, w32 c]) s
  let x := course s c
  setCourse s c { x with suppressed := satAdd 32 x.suppressed n }

/-- Integer divisions by zero of an activation (R148). -/
def releaseDiv0 (s : State) (c : Nat) (l : List (Nat × Nat)) : State :=
  match l with
  | [] => s
  | (b, at_) :: _ =>
    let x := course s c
    raiseAt (setCourse s c { x with div0 := satAdd 32 x.div0 l.length }) (min at_ (vtime s)) 104 [w32 c, w32 b]

/-- Frames that SYS_CAN_READ has taken from receive queues: the filters, in order of the calls (R463). -/
def canTaken (s : State) (l : List Nat) : State :=
  l.foldl (fun s f =>
    { s with can := { s.can with q := tset s.can.q f ((tget [] s.can.q f).drop 1) } }) s

/-- Events that SYS_EVENT_READ has taken: of those queued before the activation start (R164). -/
def eventsTaken (s : State) (c n : Nat) : State :=
  let x := course s c
  setCourse s c { x with events := x.events.drop (min n x.sys.queued) }

/-- Instance data that bricks of a course have written in their own data: it stays where it is, released or not (R131). -/
def ownData (s : State) (c : Nat) (l : List (Nat × Nat × Bytes)) : State :=
  l.foldl (fun s e =>
    let (i, off, b) := e
    let len := ((brickInst (theImage s) i).map (·.len)).getD 0
    if brickCourse s i = some c ∧ off + b.length ≤ len then putData s i off b else s) s

/-- What an activation that does not end leaves: nothing of it is released (R141), but what its bricks have written in their
own data, taken, raised and counted before stands (R131, R148, R164). -/
def leaveDone (s : State) (c : Nat) (done : Release) : State :=
  let s := ownData (releaseDiv0 s c done.div0) c done.data
  canTaken (eventsTaken (releaseEvents s c done.events) c done.eventsRead) done.canRead

/-- An activation ends without its release: what its bricks have done by then is a free value, since no command brings it
(DESIGN CHOICE, assumption 82). -/
def leaveUndone (s : State) (c : Nat) : State :=
  leaveDone { s with free := s.free + 1 } c (Config.leftRelease s.free c)

/-- An activation in progress is abandoned (R137, R141). -/
def abandonOne (s : State) (c : Nat) : State :=
  if (course s c).state = 0 then s
  else
    let s := leaveUndone s c
    setCourse s c { endStretch s (course s c) with state := 0, firstScan := false, takeoverScan := false, warned := false }

/-- Activations in progress are abandoned (R137, R141). -/
def abandonCourses (s : State) : State :=
  let s := (s.crs.c.map (·.1)).foldl abandonOne s
  { s with crs := { s.crs with frozenAt := 0, bp := s.crs.bp.map fun e => (e.1, { e.2 with reached := false }) } }

/-- The loop engine stops: its states are frozen, and its next samples are restarts (R209, R214). -/
def stopLoops (s : State) : State :=
  { s with loops := { s.loops with
    l := s.loops.l.map fun e => (e.1, { e.2 with restart := true })
    m := s.loops.m.map fun e => (e.1, { e.2 with bumpless := true }) } }

/-- The solver stops: jobs, outcomes and frames in progress are dropped (Table 02.1). -/
def stopSolver (s : State) : State :=
  { s with
    solver := { s.solver with
      j := (s.solver.j.filter fun e => decide (e.1 < 64)).map fun e =>
        (e.1, { e.2 with job := none, outcome := none, frame := none, stale := false }) }
    exch := { s.exch with oldFrames := [] } }

/-- One transmit handle reads a state (R477). -/
def setHandle (s : State) (h st : Nat) : State :=
  { s with can := { s.can with handle := tset s.can.handle h { tget ⟨0, none, 0⟩ s.can.handle h with state := st } } }

/-- The handle of a list entry reads a state; a transmit slot's frame has no handle (R464). -/
def setEntryHandle (s : State) (e : TxEntry) (st : Nat) : State := if e.slot.isSome then s else setHandle s e.req.handle st

/-- The entry is the frame on the bus. -/
def isOnBus (p : PortSt) (e : TxEntry) : Bool := p.onBus.elim false fun b => b.order == e.order

/-- The waiting frames of a port's FIFO and launch list are removed, but not the frame on the bus; their handles read
DROPPED (6). The answer is the number removed. -/
def canDropWaiting (s : State) (port : Nat) (fifo launch : Bool) : State × Nat :=
  let p := tget ({} : PortSt) s.can.p port
  let gone := ((if fifo then p.fifo else []) ++ (if launch then p.launch else [])).filter fun e => !isOnBus p e
  let s := { s with can := { s.can with p := tset s.can.p port { p with
    fifo := if fifo then p.fifo.filter (isOnBus p) else p.fifo
    launch := if launch then p.launch.filter (isOnBus p) else p.launch
    fifoFull := if fifo then false else p.fifoFull, listFull := if launch then false else p.listFull } } }
  (gone.foldl (fun s e => setEntryHandle s e 6) s, gone.length)

/-- Frames of a port dropped by mode, takeover or role swap (R475, R476): counted, with EV230 when there were any. -/
def canFlush (s : State) (port : Nat) : State :=
  let (s, n) := canDropWaiting s port true true
  if n = 0 then s else
    let p := tget ({} : PortSt) s.can.p port
    let s := { s with can := { s.can with p := tset s.can.p port { p with dropped := satAdd 32 p.dropped n } } }
    raise s 230 [w32 port, w32 n]

/-- Controllers follow mode and role (Table 14.8): off, bus monitoring (SILENT), or normal. A frame on the bus of a
controller that goes off ends in error and is dropped (R476); one that goes silent finishes it. -/
def canSettle (s : State) : State :=
  let st := if !evaluates s.md.mode then 0 else if s.md.role == .standby then 5 else 1
  (s.can.p.map (·.1)).foldl (fun s port =>
    let p := tget ({} : PortSt) s.can.p port
    if st = 1 ∧ p.state ≠ 0 ∧ p.state ≠ 5 then s
    else if st = p.state then s
    else
      let s := match p.onBus with
        | some e => if st ≠ 0 then s else setEntryHandle s e 6
        | none => s
      let p := { p with
        state := st, txErr := 0, rxErr := 0
        onBus := if st ≠ 0 then p.onBus else none
        fifo := if st ≠ 0 then p.fifo else p.fifo.filter fun e => !isOnBus p e
        launch := if st ≠ 0 then p.launch else p.launch.filter fun e => !isOnBus p e
        cancelOnBus := p.cancelOnBus && decide (st ≠ 0) }
      { s with can := { s.can with p := tset s.can.p port p } }) s

/-- The panel driver follows mode and role (R555): released outside STOP to OASIS and as STANDBY, but after a role swap
only at the next frame-pair boundary (R557); a module that may drive and has a map starts its frame grid at the next PANEL
cycle. -/
def panelSettle (s : State) : State :=
  if drives s && s.md.mode != .sync && s.md.mode != .track && !s.panel2.map.isEmpty then
    if s.panel.driving || s.panel.starting then s else { s with panel := { s.panel with starting := true } }
  else if s.panel2.releasing && s.panel.driving && evaluates s.md.mode then s
  else if s.panel.driving || s.panel.starting then
    { s with
      panel := { s.panel with
        driving := false, starting := false, inPair := false, comp := 0, shown := [], lampUntil := none, lampDue := false }
      panel2 := { s.panel2 with releasing := false } }
  else s

/-- The role address is answered by an ACTIVE or SOLO module in LOAD to OASIS (R484). -/
def roleAddrSettle (s : State) : State :=
  { s with net := { s.net with roleAddr := inControl s && (s.md.mode == .load || evaluates s.md.mode) } }

/-- What follows mode and role at once: CAN controllers, panel driver, role address. -/
def settle (s : State) : State := roleAddrSettle (panelSettle (canSettle s))

/-! ### Changes of mode (R64, R70 to R75) -/

/-- Table 02.3 allows an injection in this mode. -/
def injectionMode : Mode → Bool
  | .run | .degraded => true
  | _ => false

/-- Table 02.3 clears or releases the mirages in this mode. -/
def mirageFree : Mode → Bool
  | .kiln | .load | .halt | .sealed => true
  | _ => false

/-- The injection attribute is set off, and every injection stops with cause 11 (R73, R258). -/
def injectionSetOff (s : State) : State :=
  stopInjections { s with md := { s.md with injection := false } } 11

/-- Role of a module in HALT (Table 02.3): STANDBY while its partner is live, else SOLO (R59). -/
def haltRole (s : State) : Role := if partnerLive s then .standby else .solo

/-- Step 1 of R70 for a mode that the module enters: the role columns of Table 02.3. -/
def resolveRole (s : State) (m : Mode) : Role :=
  match m with
  | .halt => haltRole s
  | .sealed => if onTwin s then .standby else .solo
  | _ => s.md.role

/-- EV010 with the combination requested and the one that results (R75): modes, roles, injection and mirage attribute. -/
def raiseCombo (s : State) (m m' : Mode) (r r' : Role) (inj inj' mir mir' : Bool) : State :=
  raise s 10 [Config.comboCode (modeCode m) (roleCode r) inj mir, Config.comboCode (modeCode m') (roleCode r') inj' mir']

/-- The resolution of Table 02.3 for a new mode, in the three steps of R70: role, injection, mirages; EV010 for a value that
it changes, EV038 for mirages that it takes away. -/
def resolve (s : State) (m : Mode) : State :=
  let r := s.md.role
  let r' := resolveRole s m
  let inj := s.md.injection
  let n := s.crs.mirages.length
  let inj' := inj && injectionMode m && r' != .standby
  let mir' := decide (n ≠ 0) && !mirageFree m
  let s1 := { s with md := { s.md with role := r' } }
  let s2 := if inj && !inj' then injectionSetOff s1 else s1
  let s3 := if mirageFree m && decide (n ≠ 0) then
    raise { s2 with crs := { s2.crs with mirages := [] } } 38 [w32 n] else s2
  if r != r' || (inj && !inj') || (decide (n ≠ 0) && !mir') then raiseCombo s3 m m r r' inj inj' (decide (n ≠ 0)) mir' else s3

/-- What entry to a mode does beside the mode field (Table 02.1). -/
def enterEffects (s : State) (old m : Mode) : State :=
  let s := if runs m then s else abandonCourses s
  -- leaving HOLD for a mode that runs courses resumes the frozen scan (R154, R155)
  let s := if old = .hold ∧ runs m then
    { s with crs := { s.crs with
      frozenAt := 0
      bp := s.crs.bp.map fun e => (e.1, { e.2 with reached := false })
      c := s.crs.c.map fun e => (e.1, if e.2.state = 3 then { e.2 with state := 1, from_ := nowNs s } else e.2) } }
    else s
  -- entry to RUN from STOP or LOAD: first scans, oasis values until the first base scan has ended (R142, R143)
  let s := if m = .run ∧ (old = .stop ∨ old = .load) then
    { s with
      md := { s.md with oasisUntilScan := true }
      crs := { s.crs with c := s.crs.c.map fun e => (e.1, { e.2 with firstDue := true, trapped := false }) } }
    else s
  let s := if m = .run then s else if runs m then s else { s with md := { s.md with oasisUntilScan := false } }
  let s := if runs old && !runs m then stopSolver (stopLoops (stopInjections s 11)) else s
  -- a capture ends with the entry to any mode in which the loop engine is stopped (R263)
  let s := if runs m then s else abortCapture s 2
  -- STOP and OASIS of a driving module flush the transmit lists (Table 14.8)
  let s := if (m = .stop ∨ m = .oasis) ∧ inControl s then
    (s.can.p.map (·.1)).foldl canFlush s else s
  -- permits follow the safety decision in the modes that evaluate except SYNC; elsewhere hardware drops them
  let s := if evaluates m && m != .sync then s else
    { s with safe := { s.safe with axis := s.safe.axis.map fun e => (e.1, { e.2 with swA := false, swB := false }) } }
  -- trim mode ends when the module leaves STOP (R421)
  let s := if old = .stop then { s with field := { s.field with trimMask := 0, trimMaskNext := none } } else s
  s

/-- The module changes its mode (R64): EV008 with old mode, new mode and cause, the resolution of Table 02.3, and what
entry to the new mode does. -/
def changeMode (s : State) (m : Mode) (cause : Nat) : State :=
  let old := s.md.mode
  if old = m then s
  else
    let s := raise s 8 [w32 (modeCode old), w32 (modeCode m), Config.modeCauseCode cause]
    let s := resolve s m
    let s := { s with md := { s.md with mode := m, prevMode := old } }
    settle (enterEffects s old m)

/-- Causes of mode changes as the model numbers them, for Config.modeCauseCode. -/
def causeStart : Nat := 0
def causeHost : Nat := 1
def causeButton : Nat := 2
def causePair : Nat := 3
def causeSafety : Nat := 4
def causeReaction : Nat := 5
def causeSelf : Nat := 6
def causeExchange : Nat := 7
def causeBreakpoint : Nat := 8

/-! ### HALT and abdication (R349, R350) -/

/-- A pending role swap is void (R355). -/
def voidSwap (s : State) : State :=
  let o := s.md.swapCmd
  completeOpt { s with md := { s.md with swapAt := none, swapReset := false, swapCmd := none } } o rfMode

/-- A pending mode command and the transitions that wait are discarded; the command reports REFUSED_MODE (R67). An
acknowledgement waits on for its boundary (R84). -/
def dropTransitions (s : State) : State :=
  let o := s.md.cmd.map (·.origin)
  completeOpt { s with md := { s.md with cmd := none, trans := s.md.trans.filter (·.code == 4), resetAt := none } } o rfMode

/-- Onboard outputs and permits are dropped in hardware (R349): no terminal is driven, every permit switch opens. -/
def dropOutputs (s : State) : State :=
  { s with
    field := { s.field with terminal := [], refreshed := false }
    safe := { s.safe with
      axis := s.safe.axis.map fun e => (e.1, { e.2 with swA := false, swB := false })
      permits := [] }
    ring := { s.ring with st := s.ring.st.map fun e => (e.1, { e.2 with queued := [], launched := [] }) } }

/-- Requests of the old ACTIVE that wait for what it does no longer do: loop modes and mirages (no final code is stated). -/
def dropWaits (s : State) : State :=
  let os := (s.loops.m.flatMap fun e => e.2.hostReq.map (·.2.2)) ++ s.crs.mirageWaits.map (·.origin)
  let s := { s with
    loops := { s.loops with m := s.loops.m.map fun e => (e.1, { e.2 with hostReq := [] }) }
    crs := { s.crs with mirageWaits := [], mirageChanged := [] } }
  os.foldl (fun s o => complete s o (Config.finalCode 0x0200 6)) s

/-- A module that leaves the ACTIVE or SOLO role (R123, Table 03.10): held declarations end with REFUSED_ROLE; writes that
have not reported DONE are lost. -/
def settingsRoleLost (s : State) : State :=
  let held := s.set.held
  let s := { s with
    set := { s.set with held := [], waiting := [] }
    crs := { s.crs with settingChanged := [] } }
  held.foldl (fun s d => complete s d.origin rfRole) s

/-- HALT: outputs and permits dropped, token line released, sessions of the networks ended (R349, R484). -/
def enterHalt (s : State) (cause : Nat) : State :=
  let ctl := inControl s
  let s := if s.md.mode = .load then raise s 5 else s
  let s := dropTransitions (voidSwap s)
  let s := changeMode s .halt cause
  let s := if ctl && !inControl s then dropWaits (settingsRoleLost s) else s
  let s := dropOutputs s
  let s := endSessions s fun i _ => decide (i < 8)
  settle { s with md := { s.md with token := false } }

/-- Abdication, or a standby's halt on the same causes (R347 to R350): HALT, the ABDICATE frame while the management
pair can act, then EV032 with the cause. -/
def abdicate (s : State) (cause : Nat) : State :=
  if s.md.mode = .halt ∨ s.md.mode = .sealed then s
  else
    let ctl := inControl s && s.md.mode != .kiln
    let s := enterHalt s causeSelf
    let s := if s.md.mgmtAlive && onTwin s && s.ev.running then sendLink s 1 (min (Config.frameBytes 1) frameMax) (.abdicate cause) else s
    let s := raise s 32 [w32 cause]
    if ctl then
      { s with pair := { s.pair with
          cause := cause, counters := bump s.pair.counters 1, lastAbd := (s.time.tick, cause, s.md.slot) } }
    else { s with pair := { s.pair with cause := cause } }

/-! ### The end of an exchange (R177 to R179) -/

/-- The module returns from CHANGE to the mode that it held before, at the next boundary (R177). -/
def leaveChange (s : State) : State :=
  { s with md := { s.md with trans := s.md.trans ++ [⟨7, s.md.beforeChange, causeExchange, none, 0⟩] } }

/-- The plan ends, and with it the hold of its tables on the background buffers (R171, R250). -/
def dropStagedTables (s : State) : State :=
  { s with loops := { s.loops with t := s.loops.t.map fun e => (e.1, { e.2 with stagedBg := false }) } }

/-- An exchange ends before its swap (Table 05.4): the old program continues. -/
def exchAbandon (s : State) (reason : Nat) : State :=
  let s := { s with exch := { s.exch with state := 7, reason := reason, phase := 0, staged := none, scans := 0 } }
  raise (dropStagedTables s) 110 [w32 reason]

/-- An exchange has left a region as it was: the contents that an update gave it stand. -/
def regionStays (oi ni : Image) (kind index : Nat) : Bool :=
  match kind with
  | 1 => recOf oi 0x21 index == recOf ni 0x21 index
  | 2 => recOf oi 0x30 index == recOf ni 0x30 index && recOf oi 0x31 index == recOf ni 0x31 index
  | _ => brickInst oi index == brickInst ni index

/-- An exchange completes (R173, R179): EV108; suspended mirages are released with EV111 (R192). -/
def exchComplete (s : State) : State :=
  let n := (s.crs.mirages.filter fun e => e.2.suspended).length
  let s := raise s 108 (w64 s.exch.switchTick ++ [w32 s.exch.scans])
  let s := if n = 0 then s else
    raise { s with crs := { s.crs with mirages := s.crs.mirages.filter fun e => !e.2.suspended } } 111 [w32 n]
  let s := dropStagedTables s
  { s with
    kiln := { s.kiln with oldImage := none }
    pair := { s.pair with updated := s.pair.updated.filter fun e =>
      s.kiln.oldImage.elim true fun oi => regionStays oi (theImage s) e.1 e.2.1 }
    exch := { s.exch with state := 5, reason := 0, phase := 0, staged := none, old := none, rollback := none } }

/-- An exchange in its window that a transition out of CHANGE ends: abandoned with a reason before the swap, complete at
once after it (Table 05.4). -/
def exchEnd (s : State) (reason : Nat) : State :=
  if s.exch.state ≠ 4 then s else if s.exch.swapped then exchComplete s else exchAbandon s reason

/-! ### OASIS and DEGRADED as reactions (Table 02.2) -/

/-- A standby leaves TRACK, or a window that it follows, for SYNC; the exchange goes on (R194). -/
def toSync (s : State) (cause : Nat) : State :=
  let s := { s with
    pair := { s.pair with syncTick := s.time.tick, bulk := none }
    mortar := { s.mortar with shadowFault := false } }
  changeMode s .sync cause

/-- A reaction that takes a SOLO or ACTIVE module to OASIS, in CHANGE after the exchange has ended (Table 05.4), and a
standby that shadows to SYNC, at the boundary at which the mortar of this tick has told whether the active enters OASIS as
well (R72, R150). -/
def oasisReaction (s : State) : State :=
  if inControl s then
    match s.md.mode with
    | .stop | .run | .hold | .degraded => changeMode s .oasis causeReaction
    | .change => changeMode (exchEnd s 14) .oasis causeReaction
    | _ => s
  else if s.md.mode = .track ∨ s.md.mode = .change then
    { s with mortar := { s.mortar with shadowFault := true } }
  else s

/-- DEG_HOURS of the general safety record (Table 11.5). -/
def degHours (img : Image) : Nat := ((recOf img 0x40 0).map fun p => le p 0 2).getD 24

/-- The DEGRADED countdown starts (R393): on the unit in control the expiry is set at the first loss and does not move. -/
def startCountdown (s : State) : State :=
  if inControl s then
    { s with safe := { s.safe with
      expiry := some (s.safe.expiry.getD (vtime s + degHours (theImage s) * 3600 * 10 ^ 9)) } }
  else s

/-- RUN, HOLD and CHANGE become DEGRADED (R393). -/
def degradedMode (s : State) : State :=
  if inControl s then
    match s.md.mode with
    | .run | .hold => changeMode s .degraded causeReaction
    | .change => changeMode (exchEnd s 14) .degraded causeReaction
    | _ => s
  else s

/-- Loss of one safety channel or of one channel of a safety input (R393). -/
def degradedReaction (s : State) : State := degradedMode (startCountdown s)

/-! ### Requests from a host -/

/-- Interface classes of the first byte of an object (Table 16.1). -/
def objClass (obj : W32) : Nat := obj.toNat / 2 ^ 24

/-- Generation from which an object is served (Table 16.1). -/
def objGen (obj : W32) : Nat :=
  let c := objClass obj
  let sub := obj.toNat / 2 ^ 16 % 256
  if c = 0x20 ∨ c = 0xB0 ∨ c = 0xD0 ∨ c = 0xE0 then 2
  else if (c = 0x02 ∧ sub = 0x40) ∨ (c = 0x10 ∧ sub = 0x21) ∨ (c = 0xA0 ∧ sub = 0x10) ∨ (c = 0xC0 ∧ sub = 3) then 2
  else 1

/-- The mode serves the object (Table 16.2, R574). Class 0xE0 in LOAD is limited to kind 4 by its owner. -/
def modeServes (s : State) (obj : W32) : Bool :=
  let c := objClass obj
  match s.md.mode with
  | .kiln => false
  | .load => c == 0x01 || obj == 0x02000000 || obj == 0x02010000 || [0x60, 0x70, 0xA0, 0xC0, 0xE0].contains c
  | .halt => c == 0x01 || obj == 0x02000000 || obj == 0x02010000 || [0x70, 0xA0].contains c ||
      (c == 0xC0 && s.md.mgmtAlive)
  | .sealed => c == 0x01 || obj == 0x02000000 ||
      (c == 0xA0 && decide (obj.toNat / 65536 % 256 ≤ 3))
  | _ => true

/-- The interface of a session answers in this mode (Table 16.2, R484, R574): 0 plant, 1 service, 2 USB. -/
def ifaceAnswers (s : State) (iface : Nat) : Bool :=
  match s.md.mode with
  | .kiln => false
  | .halt => iface == 2
  | .sealed => iface != 0
  | _ => true

/-- A request arrives: at its phase, on an open session whose interface answers, and on a session to the role address
only while the module holds the role (R79, R515); any other gets no response and does nothing. -/
def withSession (s : State) (r : Req) (k : State → State) : State :=
  let x := sess s r.session
  if s.md.powered && x.open_ && ifaceAnswers s x.iface && (!x.role || inControl s) then
    let s := setPhase s r.at_
    k (setSess s r.session { x with lastTick := s.time.tick })
  else s

/-- A host has written an object in this tick: a read shows it from the next boundary (R513). -/
def wrote (s : State) (obj : W32) : State := { s with net := { s.net with touched := obj :: s.net.touched } }

/-- A write request on an object: the generation and the mode must serve it (R516, R517), and SEALED refuses every write
(R574); then its owner decides. A refused write raises EV009 with its code (R75). -/
def hostWrite (s : State) (r : Req) (obj : W32) (k : State → State) : State :=
  withSession s r fun s =>
    if (sess s r.session).gen < objGen obj then refuse s r obj rfVersion
    else if !modeServes s obj || s.md.mode == .sealed then refuse s r obj rfMode
    else sendChanges (wrote (k s) obj)

/-- The same for a host command, which CHANGE refuses with REFUSED_BUSY (R68). -/
def hostCommand (s : State) (r : Req) (obj : W32) (k : State → State) : State :=
  hostWrite s r obj fun s => if s.md.mode = .change then refuse s r obj rfBusy else k s

/-- A read that has an effect: the generation and the mode must serve it (R516, R517). -/
def hostRead (s : State) (r : Req) (obj : W32) (k : State → State) : State :=
  withSession s r fun s =>
    if (sess s r.session).gen < objGen obj then reply s r obj rfVersion
    else if !modeServes s obj then reply s r obj rfMode
    else k s

end Sys2Proof.Machine
end

