-- ==== Sys2Proof/Machine/FieldOps.lean ====
section
/-! DEFINITION. Operations of the onboard field channels (chapter 12): validity, the latch, the onboard input image, the
status word and the drive of the terminals at a commit. -/

namespace Sys2Proof.Machine

def chan (s : State) (kk : Nat) : ChanSt := tget {} s.field.ch kk
def chanRun (s : State) (kk : Nat) : RunSt := tget {} s.field.run kk
def groupSt (s : State) (g : Nat) : GroupSt := tget {} s.field.group g
def setChan (s : State) (kk : Nat) (c : ChanSt) : State := { s with field := { s.field with ch := tset s.field.ch kk c } }
def setRun (s : State) (kk : Nat) (c : RunSt) : State := { s with field := { s.field with run := tset s.field.run kk c } }
def setGroup (s : State) (g : Nat) (c : GroupSt) : State :=
  { s with field := { s.field with group := tset s.field.group g c } }

/-- Group of a digital channel: 1 to 6; 0 for every other channel. -/
def groupOf (kk : Nat) : Nat := if kk < 0x30 then kk / 8 + 1 else 0

/-- FEED_LOW of the group of a channel (R411). -/
def feedLow (s : State) (kk : Nat) : Bool := decide (kk < 0x30) && (groupSt s (groupOf kk)).low

/-- The onboard I/O module of a channel is valid (R401): no field feed low, no field controller fault. -/
def moduleValid (s : State) (kk : Nat) : Bool := !s.field.fault && !feedLow s kk

/-- BAD of a channel (Table 12.13). -/
def chanBad (s : State) (kk : Nat) : Bool :=
  let c := chan s kk
  c.under || c.above || c.signal || !moduleValid s kk

/-- CLASS of a channel (Table 12.13). -/
def chanClass (s : State) (kk : Nat) : Nat :=
  let has (ks : List Nat) := (ioByKind (theImage s) kk ks).isSome
  if kk < 0x30 then (if has [4] then 2 else if has [1, 2, 3] then 1 else 0)
  else if kk < 0x40 then (if has [6, 7] then 3 else 0)
  else if kk < 0x48 then (if has [8] then 4 else 0)
  else if kk ≤ 0x49 then (if has [10] then 5 else 0)
  else 0

/-- One bit of a word. -/
def bit (b : Bool) (n : Nat) : Nat := if b then 2 ^ n else 0

/-- The status word of channel kk (Table 12.13). -/
def chanStatus (s : State) (kk : Nat) : Nat :=
  let c := chan s kk
  min c.retries 255 * 2 ^ 24 + bit c.latched 16 + bit (chanBad s kk) 15 + bit c.silence 14 + bit (feedLow s kk) 13
    + bit c.compliance 12 + bit c.readback 11 + bit c.extDrive 10 + bit c.overtemp 9 + bit c.overload 8
    + bit c.openWire 7 + bit c.under 6 + bit c.above 5 + bit c.signal 4 + chanClass s kk

/-! ### The latch of phase 0 µs (R40) -/

/-- One run counter: counts while the condition holds, back to 0 when it does not. -/
def count1 (b : Bool) (n : Nat) : Nat := if b then n + 1 else 0

/-- 0.1 mA. -/
def mA01 : F64 := fOfRat 1 10

/-- 0.1 %, 0.2 % and 0.01 % of the 16 mA span, and 20 µA, in mA (R413, R422). -/
def spanTenth : F64 := fOfRat 16 1000
def spanFifth : F64 := fOfRat 32 1000
def spanHundredth : F64 := fOfRat 16 10000
def offLimit : F64 := fOfRat 20 1000

/-- The image value of an analogue input (R415): i₀ 4 for kind 6, 0 for kind 7. -/
def aiValue (e : IoEntry) (i : F64) : F64 :=
  let i0 := if e.kind = 6 then fOfInt 4 else 0
  fAdd e.engLo (fDiv (fMul (fSub i i0) (fSub e.engHi e.engLo)) (fSub (fOfInt 20) i0))

/-- One analogue input at a latch (R415, R416): counters, measured current, last reading within the limits. -/
def latchAi (s : State) (l : Latch) (a : Nat) : State :=
  match ioByKind (theImage s) (0x30 + a) [6, 7] with
  | none => s
  | some (_, e) =>
    let kk := 0x30 + a
    let i := l.ai.getD a 0
    let lim := l.aiLimit.getD a false
    let low := !fEq e.limLo 0 && fLt i e.limLo
    let high := fLt e.limHi i || lim
    let r := chanRun s kk
    let r := { r with
      under := count1 low r.under, above := count1 high r.above
      good := count1 (fLe (fAdd e.limLo mA01) i) r.good
      goodOver := count1 (fLe i (fSub e.limHi mA01) && !lim) r.goodOver }
    let c := chan s kk
    let c := { c with
      measured := i
      lastValid := if low || high || c.under || c.above || s.field.fault then c.lastValid else some (aiValue e i) }
    setChan (setRun s kk r) kk c

/-- The read-back check of a digital output at a latch (R413, Table 12.8): none when void. -/
def doCheck (s : State) (kk : Nat) (v : F64) : Option Bool :=
  let c := chan s kk
  if c.overload || c.overtemp || c.compliance || c.silence || feedLow s kk then none
  else match c.targets with
    | [] => none
    | some _ :: _ => some (fLe (fSub (groupSt s (groupOf kk)).volts (fOfRat 3 2)) v)
    | none :: _ => some (fLe v (fOfInt 5))

/-- A target within 0.1 % of span of another. -/
def near (a b : F64) : Bool := fLe (fAbs (fSub a b)) spanTenth

/-- The read-back check of an analogue output at a latch, over its three last commits (R413): none when void. -/
def aoCheck (s : State) (kk : Nat) (i : F64) : Option Bool :=
  let c := chan s kk
  if c.overload || c.overtemp || c.compliance || c.silence then none
  else
    let isOff (t : Option F64) : Bool := t.elim true fun x => fEq x 0
    match c.targets with
    | t2 :: t1 :: t0 :: _ =>
      if isOff t0 && isOff t1 && isOff t2 then some (fLe i offLimit)
      else match t0, t1, t2 with
        | some x0, some x1, some x2 =>
          if near x1 x0 && near x2 x0 then some (fLe (fAbs (fSub i x0)) spanFifth) else none
        | _, _, _ => none
    | _ => none

/-- A read-back check enters the run of consecutive failures; a void one does not (R413). -/
def readbackRun (r : RunSt) (chk : Option Bool) : RunSt :=
  match chk with
  | none => r
  | some true => { r with readback := 0, readbackOk := true }
  | some false => { r with readback := r.readback + 1, readbackOk := false }

/-- One digital channel at a latch: level of an input (R404), read-back and open-wire runs of an output (R410, R413). -/
def latchDigital (s : State) (l : Latch) (kk : Nat) : State :=
  let v := l.dv.getD kk 0
  let c := { chan s kk with measured := v }
  match ioByKind (theImage s) kk [4] with
  | some (_, e) =>
    let on := match c.targets with
      | some _ :: _ => !c.tripped && !c.latched
      | _ => false
    let i := l.di.getD kk 0
    let owOn := e.flags.testBit 1 && on
    let owOff := e.flags.testBit 2 && !on
    let r := readbackRun (chanRun s kk) (doCheck s kk v)
    let r := { r with
      open_ := count1 (owOn && fLt i (fOfInt 1) || owOff && fLt (fOfInt 10) v) r.open_
      closed := count1 (owOn && fLe (fOfRat 12 10) i || owOff && fLe v (fOfInt 8)) r.closed }
    setChan (setRun s kk r) kk c
  | none =>
    -- from the latch at which a feed is found low, the inputs hold (R401, R411)
    let c := { c with lastValid := if moduleValid s kk && !(groupSt s (groupOf kk)).fell then some (if c.level then 1 else 0) else c.lastValid }
    setChan s kk c

/-- The target current that an analogue output's newest commit asks for. -/
def aoTarget (c : ChanSt) : Option F64 :=
  match c.targets with
  | t :: _ => t
  | [] => none

/-- One analogue output at a latch: read-back and compliance runs (R413, R422). -/
def latchAo (s : State) (l : Latch) (a : Nat) : State :=
  let kk := 0x40 + a
  match ioByKind (theImage s) kk [8] with
  | none => s
  | some _ =>
    let i := l.ao.getD a 0
    let c := chan s kk
    let r := readbackRun (chanRun s kk) (aoCheck s kk i)
    let t := aoTarget c
    let r := { r with
      lost := count1 (t.elim false fun t => fLt spanTenth (fSub t i)) r.lost
      regained := count1 (t.elim false fun t => fLe (fAbs (fSub t i)) spanHundredth && fLe (fOfRat 1 2) (l.aoMargin.getD a 0))
        r.regained }
    setChan (setRun s kk r) kk { c with measured := i }

/-- The scaled position of a count (Table 07.1): offset at count 0, unit per count. -/
def posScaled (e : IoEntry) (n : Int) : F64 := fFma (fOfInt n) e.engHi e.engLo

/-- One position input at a latch: count history, signal fault runs (R235, R236, R425). -/
def latchPos (s : State) (l : Latch) (p : Nat) : State :=
  let kk := 0x48 + p
  match ioByKind (theImage s) kk [10] with
  | none => s
  | some (_, e) =>
    let n := l.pos.getD p 0
    let f := l.posFault.getD p 0
    let r := { chanRun s kk with fault := f, clean := count1 (f == 0) (chanRun s kk).clean }
    let c := chan s kk
    let ok := f == 0 && !c.signal && !s.field.fault
    let c := { c with measured := posScaled e n, lastValid := if ok then some (posScaled e n) else c.lastValid }
    let s := setChan (setRun s kk r) kk c
    { s with loops := { s.loops with
      pos := lset s.loops.pos p ((n :: s.loops.pos.getD p []).take 65)
      posGood := lset s.loops.posGood p (count1 ok (s.loops.posGood.getD p 0)) } }

/-- One field group at a latch: voltage, current, and the runs of R409 and R411. -/
def latchGroup (s : State) (l : Latch) (g : Nat) : State :=
  let x := groupSt s g
  let dip := l.feedDip.getD (g - 1) false
  let v := l.feedV.getD (g - 1) 0
  let i := l.groupA.getD (g - 1) 0
  setGroup s g { x with
    volts := v, amps := i, fell := dip && !x.low
    good := if dip then 0 else count1 (fLt (fOfRat 35 2) v) x.good
    overRun := count1 (fLt (fOfRat 42 10) i) x.overRun }

/-- The field controller's latch of phase 0 µs (R40). -/
def latchField (s : State) (l : Latch) : State :=
  let s := (List.range 6).foldl (fun s g => latchGroup s l (g + 1)) s
  let s := (List.range 48).foldl (fun s k => latchDigital s l k) s
  let s := (List.range 16).foldl (fun s a => latchAi s l a) s
  let s := (List.range 8).foldl (fun s a => latchAo s l a) s
  (List.range 2).foldl (fun s p => latchPos s l p) s

/-! ### The onboard input image (R401, R413 to R416, Table 12.2) -/

/-- 125 µs × W in seconds. -/
def windowSecs (w : Nat) : F64 := fOfRat (125 * w) 1000000

/-- VELOCITY from the scaled positions now and W ticks ago (Table 07.1). -/
def velocity (x xw : F64) (w : Nat) : F64 := fDiv (fSub x xw) (windowSecs w)

/-- ANGLE in degrees from a count (Table 07.1). -/
def angleDeg (n : Int) (cpr : Nat) : F64 := fOfRat (n % (cpr : Int) * 360) cpr

/-- A safety input or axis in channel A's view, for a kind 13 entry (R399): reads 1 while SIi does not demand, or while
axis j is PERMITTED. -/
def safetyBit (s : State) (e : IoEntry) : Bool :=
  if e.module = 10 then !(tget ({} : SiSt) s.safe.si e.chan).demand
  else (tget ({} : AxisSt) s.safe.axis e.chan).state == 1

/-- The cell of an onboard input entry in the input image: value, valid, sample tick. -/
def onboardCell (s : State) (e : IoEntry) : InCell :=
  let img := theImage s
  let held (kk : Nat) : InCell := ⟨(chan s kk).lastValid.getD 0, !chanBad s kk, s.time.tick⟩
  match e.kind, kkOf e with
  | 13, _ => ⟨if safetyBit s e then 1 else 0, !s.field.fault, s.time.tick⟩
  | 14, some kk => ⟨BitVec.ofNat 64 (chanStatus s kk), !s.field.fault, s.time.tick⟩
  | 14, none => ⟨0, !s.field.fault, s.time.tick⟩
  | 9, some kk =>
    -- read-back current on the scale of the channel's kind 8 entry
    match ioByKind img kk [8] with
    | some (_, o) =>
      let i := (chan s kk).measured
      ⟨fAdd o.engLo (fDiv (fMul (fSub i (fOfInt 4)) (fSub o.engHi o.engLo)) (fOfInt 16)), !chanBad s kk, s.time.tick⟩
    | none => ⟨0, false, s.time.tick⟩
  | 11, some kk =>
    let p := kk - 0x48
    let hist := s.loops.pos.getD p []
    match ioByKind img kk [10], hist[0]?, hist[e.param]? with
    | some (_, o), some n, some m =>
      let ok := !chanBad s kk && decide (e.param < s.loops.posGood.getD p 0)
      ⟨if ok then velocity (posScaled o n) (posScaled o m) e.param else 0, ok, s.time.tick⟩
    | _, _, _ => ⟨0, false, s.time.tick⟩
  | 12, some kk =>
    match (s.loops.pos.getD (kk - 0x48) [])[0]? with
    | some n => ⟨angleDeg n e.param, !chanBad s kk, s.time.tick⟩
    | none => ⟨0, false, s.time.tick⟩
  | _, some kk => held kk
  | _, none => ⟨0, false, s.time.tick⟩

/-- An invalid cell keeps the value of the last valid one (R401). -/
def keepCell (old new : InCell) : InCell := if new.valid then new else { new with value := old.value }

/-! ### The terminals at a commit (R42, R418, R428) -/

/-- Target current of an analogue output for a committed value (R418), clamped. -/
def aoMilliamps (e : IoEntry) (x : F64) : F64 :=
  fClamp e.limLo e.limHi
    (fAdd (fOfInt 4) (fDiv (fMul (fOfInt 16) (fSub x e.engLo)) (fSub e.engHi e.engLo)))

/-- The value on an analogue output's scale that stands for 0 mA: what "off" reads as where a committed value is kept. -/
def aoOffValue (e : IoEntry) : F64 :=
  fAdd e.engLo (fDiv (fMul (fOfInt (-4)) (fSub e.engHi e.engLo)) (fOfInt 16))

/-- What "off" reads as among the committed values. -/
def offValue (e : IoEntry) : W64 := if e.kind = 8 then aoOffValue e else 0

/-- What a commit applies to an output: off, or a value of its type (R427). -/
inductive Applied where
  | off
  | value (v : W64)
  deriving DecidableEq, Repr

/-- The drive target of an onboard output for what a commit applies: none off; 1 for a digital output on; mA for an
analogue one, untrimmed (R418). -/
def driveTarget (e : IoEntry) (a : Applied) : Option F64 :=
  match a with
  | .off => none
  | .value v =>
    if e.kind = 8 then some (aoMilliamps e v) else if v.toNat % 2 = 1 then some (fOfInt 1) else none

/-- The channel in trim mode drives the trim current (R421). -/
def trimTarget (s : State) (kk : Nat) : Option F64 :=
  if 0x40 ≤ kk ∧ kk < 0x48 ∧ s.field.trimMask.getLsbD (kk - 0x40) then some (tget 0 s.field.trim (kk - 0x40)) else none

/-- The current that the untrimmed stage is commanded for a target (R420). -/
def trimmed (img : Image) (kk : Nat) (t : F64) : F64 :=
  match trimOf img (kk - 0x40) with
  | none => t
  | some (i4, i20) => fAdd (fOfInt 4) (fDiv (fMul (fOfInt 16) (fSub t i4)) (fSub i20 i4))

/-- One onboard output at a commit: its target joins the last four; OVERTEMP ends as the output runs again (Table 12.13), OVERLOAD
once it has stayed on for PARAM ticks (R408). -/
def commitChan (s : State) (e : IoEntry) (a : Applied) : State :=
  match kkOf e with
  | none => s
  | some kk =>
    let t := (trimTarget s kk).elim (driveTarget e a) some
    let c := chan s kk
    let on := t.isSome
    let stay := on && !c.tripped && !c.latched
    let done := c.overload && stay && c.retryTick.elim false fun r => decide (r + e.param ≤ s.time.tick)
    setChan s kk { c with
      targets := (t :: c.targets).take 4
      overload := c.overload && !done
      overtemp := c.overtemp && !stay
      retryTick := if !stay || done then none else if c.overload then some (c.retryTick.getD s.time.tick) else c.retryTick }

/-- Output stages that the module releases or that are off drive nothing, and their read-back is void (R331, R413). -/
def releaseStages (s : State) : State :=
  { s with field := { s.field with ch := s.field.ch.map fun e => (e.1, { e.2 with targets := [] }) } }

/-! ### Oasis values (R31, R112, R142, R183, R427) -/

/-- The mode whose row of Table 02.1 the outputs follow: a standby in TRACK shadows its active's. -/
def planMode (s : State) : Mode := if s.md.mode = .track then modeOfCode s.mortar.activeMode else s.md.mode

/-- The mode's outputs come from the program and loops (Table 02.1); in a CHANGE entered from STOP nothing runs. -/
def programMode (s : State) : Bool :=
  [Mode.run, .hold, .change, .degraded].contains (planMode s) && !(s.md.mode == .change && s.md.beforeChange == .stop)

/-- The oasis value of an output (R427): hold is the program's value last applied, off without one (R595). -/
def oasisApplied (s : State) (n : Nat) (e : IoEntry) : Applied :=
  match oasisOf (theImage s) n with
  | (1, _) => .value 1
  | (2, _) => (tfind s.crs.held n).elim .off .value
  | (3, v) => .value (rawOfF64 e.ty v)
  | _ => .off

/-- The raw value that stands for what a commit applied. -/
def appliedRaw (e : IoEntry) (a : Applied) : W64 :=
  match a with
  | .off => offValue e
  | .value v => v

/-- The commit applies the oasis value to output n whatever its writer has released: in a mode of oasis values (Table
02.1), before the first base scan after START has ended (R112, R142), without a writer after an exchange (R183). -/
def oasisNow (s : State) (n : Nat) : Bool := !programMode s || s.md.oasisUntilScan || s.exch.orphans.contains n

end Sys2Proof.Machine
end

