-- ==== Sys2Proof/Machine/Ring.lean ====
section
/-! DEFINITION. The I/O ring (chapter 13): its image, its output frames, and its commands. -/

namespace Sys2Proof.Machine

def stn (s : State) (n : Nat) : StationSt := tget {} s.ring.st n
def setStn (s : State) (n : Nat) (x : StationSt) : State := { s with ring := { s.ring with st := tset s.ring.st n x } }

/-- The tick is a cycle tick of the station (Table 13.1). -/
def cycleTick (d : StationDef) (t : Nat) : Bool := t % d.cycle == d.offset

/-! ### Data in a module's block -/

/-- Position count at a byte offset, signed 64 bits (Table 13.3). -/
def ringCount (data : Bytes) (off : Nat) : Int := (BitVec.ofNat 64 (le data off 8)).toInt

/-- The raw value of a kind 21 datum. -/
def ringRaw (e : IoEntry) (data : Bytes) : Int :=
  let n := le data e.filter (e.param / 8)
  if e.flags.testBit 0 then (BitVec.ofNat e.param n).toInt else n

/-- A kind 21 input on its scale (R439). -/
def ringScaled (e : IoEntry) (raw : Int) : F64 :=
  fAdd e.engLo (fDiv (fMul (fSub (fOfInt raw) e.limLo) (fSub e.engHi e.engLo)) (fSub e.limHi e.limLo))

/-- A kind 21 output as raw bits: rounded to nearest even, saturated to the raw width (R439). -/
def ringUnscaled (e : IoEntry) (x : F64) : Nat :=
  let y := fAdd e.limLo (fDiv (fMul (fSub x e.engLo) (fSub e.limHi e.limLo)) (fSub e.engHi e.engLo))
  let lo : Int := if e.flags.testBit 0 then -(2 ^ (e.param - 1)) else 0
  let hi : Int := if e.flags.testBit 0 then 2 ^ (e.param - 1) - 1 else 2 ^ e.param - 1
  let n := if fLt y (fOfInt lo) then lo else if fLt (fOfInt hi) y then hi else fNearest y 0
  (BitVec.ofInt e.param (max lo (min hi n))).toNat

/-- An output datum written into its module's data (R439). -/
def ringPut (e : IoEntry) (data : Bytes) (v : W64) : Bytes :=
  if e.kind = 21 then writeAt data e.filter (toLe (e.param / 8) (ringUnscaled e v))
  else if e.ty = 1 then
    let b := data.getD e.filter 0
    let m : Byte := 1#8 <<< e.param
    writeAt data e.filter [if v.toNat % 2 = 1 then b ||| m else b &&& ~~~ m]
  else writeAt data e.filter (toLe (tyWidth e.ty) v.toNat)

/-! ### The ring's part of the input image (R442, R443) -/

/-- The cell of a ring input entry: data, validity and sample tick of its I/O module. `hist` holds the entry's counts,
newest first. -/
def ringCell (s : State) (e : IoEntry) (hist : List Int) : InCell :=
  let m := tget ({} : RModSt) (stn s e.module).mods e.chan
  let ok := (stn s e.module).state == 3 && m.valid
  let v : W64 := match e.kind with
    | 21 => ringScaled e (ringRaw e m.data)
    | 22 => posScaled e (ringCount m.data e.filter)
    | 24 => angleDeg (ringCount m.data e.filter) e.param
    | 25 => BitVec.ofNat 64 m.mstatus.toNat
    | 20 => if e.ty = 1 then (if (m.data.getD e.filter 0).getLsbD e.param then 1 else 0)
      else BitVec.ofNat 64 (le m.data e.filter (tyWidth e.ty))
    | _ => 0
  match e.kind with
  | 23 =>
    -- the scale is that of the kind 22 entry of the same count; without one, a count is the unit
    let scale := (ioMap (theImage s)).find? fun o => o.kind == 22 && sameChannel o { e with kind := 22 }
    let sc (n : Int) : F64 := scale.elim (fOfInt n) fun o => posScaled o n
    match hist[0]?, hist[e.param]? with
    | some n, some k => ⟨if ok then velocity (sc n) (sc k) e.param else 0, ok, m.sample⟩
    | _, _ => ⟨0, false, m.sample⟩
  | _ => ⟨v, ok, m.sample⟩

/-- The count history of a ring position entry gains this tick's count; a module that is not valid empties it (R236). -/
def ringHistory (s : State) (i : Nat) (e : IoEntry) : State :=
  let m := tget ({} : RModSt) (stn s e.module).mods e.chan
  let ok := (stn s e.module).state == 3 && m.valid
  let h := if ok then (ringCount m.data e.filter :: tget [] s.ring.counts i).take 65 else []
  { s with ring := { s.ring with counts := tset s.ring.counts i h } }

/-! ### Input frames (R442, R446, R454) -/

/-- One declared module of a station takes its block of a frame with sample tick n, or its absence from it (R454). -/
def takeModule (s : State) (st n : Nat) (blocks : List (Nat × Byte × Bytes)) (d : RModDef) : State :=
  let x := stn s st
  let m := tget ({} : RModSt) x.mods d.module
  match blocks.find? fun b => b.1 == d.module with
  | none =>
    let s := setStn s st { x with mods := tset x.mods d.module { m with present := false, valid := false, down := true } }
    if m.down then s else raise s 216 [w32 st, w32 d.module]
  | some (_, status, data) =>
    if status.getLsbD 2 then
      let s := setStn s st { x with mods := tset x.mods d.module { m with
        present := status.getLsbD 0, valid := false, mstatus := status, ignored := true } }
      if m.ignored then s else
        let (w, s) := takeFree s
        raise s 218 [w32 st, w32 d.module, w.setWidth 32]
    else
      let ok := status.getLsbD 0 && !status.getLsbD 1
      let m' := { m with
        present := status.getLsbD 0, valid := ok, mstatus := status, ignored := false, down := !ok
        data := if ok then data else m.data, sample := if ok then n else m.sample }
      let s := setStn s st { x with mods := tset x.mods d.module m' }
      if !ok && !m.down then raise s 216 [w32 st, w32 d.module]
      else if ok && m.down then raise s 217 [w32 st, w32 d.module]
      else s

/-- A block of a module number that is not declared is ignored with EV218 (R454). -/
def takeUndeclared (s : State) (st : Nat) (d : StationDef) (b : Nat × Byte × Bytes) : State :=
  if d.mods.any fun m => m.module == b.1 then s
  else
    let x := stn s st
    let m := tget ({} : RModSt) x.mods b.1
    if m.ignored then s
    else
      let s := setStn s st { x with mods := tset x.mods b.1 { m with ignored := true } }
      let (w, s) := takeFree s
      raise s 218 [w32 st, w32 b.1, w.setWidth 32]

/-- The data of a frame enters the image data of its station (R442). -/
def takeBlocks (s : State) (d : StationDef) (n : Nat) (blocks : List (Nat × Byte × Bytes)) : State :=
  let s := d.mods.foldl (fun s m => takeModule s d.station n blocks m) s
  blocks.foldl (fun s b => takeUndeclared s d.station d b) s

/-- Hops that a station reports down in SSTATUS, by its ring position (R437, Table 13.5). -/
def hopReport (s : State) (pos : Nat) (sstatus : Byte) : State :=
  let s := { s with ring := { s.ring with hopsDown := s.ring.hopsDown.filter fun h => h != pos - 1 && h != pos } }
  let add (s : State) (h : Nat) : State := { s with ring := { s.ring with hopsDown := s.ring.hopsDown ++ [h] } }
  let s := if sstatus.getLsbD 0 then add s (pos - 1) else s
  if sstatus.getLsbD 1 then add s pos else s

/-- Frames that arrived after phase 20 µs enter the image of the next tick (R442). -/
def applyLateFrames (s : State) : State :=
  (stations (theImage s)).foldl (fun s d =>
    match (stn s d.station).pendingFrame with
    | some (n, blocks) =>
      let s := setStn s d.station { stn s d.station with pendingFrame := none }
      takeBlocks s d n blocks
    | none => s) s

/-- At phase 20 µs of the tick that first reports a hop down, OPEN is set, the hop stands in OPEN_HOP, and EV213 is raised
(R437). -/
def reportOpen (s : State) : State :=
  let now := s.ring.hopsDown
  let new := now.filter fun h => !s.ring.hopsTold.contains h
  let s := { s with ring := { s.ring with hopsTold := now } }
  new.foldl (fun s h => raise { s with ring := { s.ring with opened := true, openHop := h } } 213 [w32 h]) s

/-- An input frame's effect on its station (R442): first copy, on time or late; a second copy is discarded. -/
def ringInput (s : State) (f : RingFrame) : State :=
  match stationDef (theImage s) f.station with
  | none => s
  | some d =>
    let x := stn s f.station
    let now := s.time.tick
    let onTime := decide (f.tick = now ∧ f.at_ ≤ 20000)
    let lateSame := decide (f.tick = now ∧ 20000 < f.at_)
    let lateNext := decide (f.tick + 1 = now ∧ f.at_ ≤ 20000)
    let second := x.lastCycle.elim false fun n => decide (f.tick ≤ n)
    if x.state ≠ 3 ∨ !cycleTick d f.tick ∨ second ∨ !(onTime || lateSame || lateNext) then s
    else
      let held := f.sstatus.getLsbD 2
      let newHeld := held && !x.heldOut
      let x' := { x with
        lastCycle := some f.tick, missed := 0, sample := f.tick, late := !onTime, heldOut := held
        counters := if onTime then x.counters else bump x.counters 0
        pendingFrame := if lateSame then some (f.tick, f.modules) else none }
      let s := setStn s f.station x'
      let s := if !onTime && !x.late then
        raise s 215 [w32 f.station, w32 (f.at_ + (now - f.tick) * tickNs)] else s
      let s := if newHeld then raise s 219 [w32 f.station] else s
      let s := hopReport s x.position f.sstatus
      if lateSame then s else takeBlocks s d f.tick f.modules

/-- Safety containers of an accepted, on-time frame wait for the evaluation of the tick (R389, R445). -/
def ringContainers (s : State) (f : RingFrame) : State :=
  if f.tick = s.time.tick ∧ f.at_ ≤ 20000 then
    { s with safe := { s.safe with conn := s.safe.conn.map fun e =>
      match (f.modules.find? fun b => e.2.source == (f.station, b.1)) with
      | some b => (e.1, { e.2 with arrived := e.2.arrived ++ [(b.2.2, f.at_)] })
      | none => e } }
  else s

/-- A frame without fault (R446): a correct FCS, a known RTYPE, and a LENGTH that is that of its module blocks, each padded
to 4 bytes. -/
def frameSound (f : RingFrame) : Bool :=
  f.fcsOk && decide (1 ≤ f.rtype ∧ f.rtype ≤ 5) &&
    f.length == f.modules.foldl (fun n b => n + 4 + (b.2.2.length + 3) / 4 * 4) 0

/-- RING_INPUT_FRAME_RECEIVE (R442, R446): the first copy of a cycle's frame; late frames bring no safety container (R445). A
faulty frame is discarded and counted for the station that it names; the other types are for stations. -/
def execRingInputFrameReceive (f : RingFrame) (s : State) : Host.Outcome State Fault Refusal :=
  .next <|
    if !s.ring.forwarding || !(s.md.mode == .load || evaluates s.md.mode) then s
    else if !frameSound f then
      if (stationDef (theImage s) f.station).isNone then s
      else setStn s f.station { stn s f.station with counters := bump (stn s f.station).counters 4 }
    else if f.rtype ≠ 2 then s
    else
      let s' := ringInput (setPhase s f.at_) f
      if (stn s' f.station).lastCycle == (stn s f.station).lastCycle then s' else ringContainers s' f

/-- RING_CYCLE_MISSED (R442, R453): at phase 20 µs no copy of the last cycle has arrived; after two in a row the modules
are not valid and the station is LOST. -/
def execRingCycleMissed (station : Nat) (s : State) : Host.Outcome State Fault Refusal :=
  .next <|
    match stationDef (theImage s) station with
    | none => s
    | some d =>
      let x := stn s station
      let n := s.time.tick - 1
      let got := x.lastCycle.elim false fun k => decide (n ≤ k)
      if x.state ≠ 3 ∨ s.time.tick = 0 ∨ !cycleTick d n ∨ got then s
      else
        let s := setPhase s 20000
        let x := { x with missed := x.missed + 1, counters := bump x.counters 1, lastCycle := some n }
        if x.missed < 2 then setStn s station x
        else
          let s := setStn s station { x with
            state := 4, mods := x.mods.map fun e => (e.1, { e.2 with valid := false }) }
          raise s (if d.optional then 209 else 208) [w32 station]

/-- RING_CLOSED (R437): every hop is up again. -/
def execRingClosed (s : State) : Host.Outcome State Fault Refusal :=
  .next <|
    if !s.ring.opened || !s.ring.hopsDown.isEmpty then s
    else raise { s with ring := { s.ring with opened := false, openHop := 0xFF, hopsTold := [] } } 214 []

/-- The module that sends DISCOVER and CONFIG: the holder of the token, or a SOLO module on a single base (R448). -/
def ringMaster (s : State) : Bool := s.md.token || (!onTwin s && s.md.role == .solo)

/-- One answer to DISCOVER (R451). -/
def discoverAnswer (s : State) (all : List Discovered) (a : Discovered) : State :=
  let img := theImage s
  let x := { stn s a.station with
    position := a.position, hopA := tget 0 s.ring.speed (a.position - 1), hopB := tget 0 s.ring.speed a.position }
  match stationDef img a.station with
  | none => raise (setStn s a.station { x with undeclared := true, state := 5 }) 211 [w32 a.station]
  | some d =>
    let dup := decide (1 < (all.filter fun b => b.station == a.station).length)
    if dup || !(a.ident == d.ident || Config.identAccepts d.ident a.ident) then
      raise (setStn s a.station { x with mismatch := true, state := 5 }) 212
        [w32 a.station, a.ident]
    else
      let dig := ringDigest img
      let x := { x with mismatch := false, undeclared := false }
      if a.digest = dig then
        setStn s a.station { x with digest := some dig, state := if x.state = 3 then 3 else 2 }
      else
        let p := (recOf img 0x80 0).getD []
        send (setStn s a.station { x with digest := some dig, state := 2 })
          (.ringConfig a.station dig (stationBytes p a.station (le p 0 2) 16) (stationOasis img a.station))

/-- RING_LINK_UP (R451): the module holding the token sends DISCOVER, and treats each station by its answer. -/
def execRingLinkUp (answers : List Discovered) (at_ : Nat) (s : State) : Host.Outcome State Fault Refusal :=
  .next <|
    if !s.ring.forwarding || s.kiln.image.isNone || !ringMaster s || !(s.md.mode == .load || evaluates s.md.mode) then s
    else answers.foldl (fun s a => discoverAnswer s answers a) (send (setPhase s at_) .ringDiscover)

/-- STATION_JOIN (R452): a configured station joins at its first cycle tick; EV210 unless the module is still in LOAD. -/
def execStationJoin (station : Nat) (s : State) : Host.Outcome State Fault Refusal :=
  .next <|
    match stationDef (theImage s) station with
    | none => s
    | some d =>
      let x := stn s station
      if x.state ≠ 2 ∨ !cycleTick d s.time.tick then s
      else
        let s := setStn s station { x with state := 3, missed := 0, late := false, lastCycle := none, pendingFrame := none }
        if s.md.mode = .load then s else raise s 210 [w32 station, w32 x.position]

/-- HOP_SPEED_NEGOTIATED (R436): 1 Gbit/s when both ends are gen 2, else 100 Mbit/s; a gen 2 hop at 100 Mbit/s raises
EV220. -/
def execHopSpeedNegotiated (hop : Nat) (bothGen2 : Bool) (gigabit : Bool) (at_ : Nat) (s : State) :
    Host.Outcome State Fault Refusal :=
  .next <|
    if !s.ring.forwarding then s
    else
      let s := setPhase s at_
      let fast := bothGen2 && gigabit
      let sp := if fast then 2 else 1
      let s := { s with ring := { s.ring with
          speed := tset s.ring.speed hop sp, hopsDown := s.ring.hopsDown.filter fun h => h != hop
          st := s.ring.st.map fun e => (e.1, { e.2 with
            hopA := if e.2.position = hop + 1 then sp else e.2.hopA
            hopB := if e.2.position = hop then sp else e.2.hopB }) } }
      if bothGen2 && !gigabit then raise s 220 [w32 hop] else s

/-! ### Output frames (R441, R448, R453) -/

/-- The module sends output frames: SOLO or ACTIVE in STOP to OASIS (R448). -/
def ringSends (s : State) : Bool := drives s && s.md.mode != .sync && s.md.mode != .track

/-- The output frame of a station (R444, R446): TICK is that of the commit, LENGTH counts the module blocks, and a frame is
padded to 64 bytes with its check sequence. MSTATUS and SSTATUS are a station's words: here 0; CFG takes the digest's first two
bytes (DESIGN CHOICE, assumption 98). -/
def ringFrame (s : State) (d : StationDef) (dir : Nat) : RingSent :=
  let x := stn s d.station
  let blocks := x.launched.flatMap fun q =>
    BitVec.ofNat 8 q.1 :: 0 :: toLe 2 q.2.length ++ padTo ((q.2.length + 3) / 4 * 4) q.2
  let head : Bytes := [1, BitVec.ofNat 8 d.station, BitVec.ofNat 8 dir, 0] ++ toLe 8 (s.time.tick - 1) ++ toLe 2 blocks.length
    ++ padTo 2 ((x.digest.getD []).take 2)
  let frame := head ++ blocks
  ⟨dir, d.station, padTo (max 60 frame.length) frame⟩

/-- A list in ascending order of a key; equal keys stay in their order. -/
def sortedBy {α : Type} (key : α → Nat) (l : List α) : List α :=
  l.foldl (fun r a => (r.takeWhile fun b => decide (key b ≤ key a)) ++ a :: r.dropWhile fun b => decide (key b ≤ key a)) []

/-- The frames of a tick on both ports, on each in ascending ring distance: from RING-A by POSITION, from RING-B against it
(R437, R444). -/
def ringFrames (s : State) : List RingSent :=
  let due := (stations (theImage s)).filter fun d => (stn s d.station).launchTick == some s.time.tick
  let fromA := sortedBy (fun d : StationDef => (stn s d.station).position) due
  fromA.map (fun d => ringFrame s d 0) ++ fromA.reverse.map fun d => ringFrame s d 1

/-- What the module sends at this boundary (R444). -/
def ringSent (s : State) : State := { s with ring := { s.ring with sent := ringFrames s } }

/-- At a tick boundary the frames queued at the last commit are launched to the stations whose cycle tick it is; cycles
for a LOST station, and data for an absent module, are dropped and counted (R441, R453, R454). -/
def ringLaunch (s : State) : State :=
  if !ringSends s then
    { s with ring := { s.ring with
        st := s.ring.st.map fun e => (e.1, { e.2 with queued := [], launched := [] }), sent := [] } }
  else
    ringSent <| (stations (theImage s)).foldl (fun s d =>
      let x := stn s d.station
      if !cycleTick d s.time.tick ∨ x.queued.isEmpty then s
      else if x.state = 3 then
        let down := x.queued.filter fun q => (tget ({} : RModSt) x.mods q.1).down
        setStn s d.station { x with
          launched := x.queued.filter fun q => !(tget ({} : RModSt) x.mods q.1).down
          launchTick := some s.time.tick
          counters := if down.isEmpty then x.counters else bump x.counters 2 }
      else if x.state = 4 then setStn s d.station { x with counters := bump x.counters 2 }
      else s) s

/-- At a commit the output data of every station is queued for the next launch (R42, R441). -/
def ringQueue (s : State) (vals : List (Nat × IoEntry × W64)) : State :=
  (stations (theImage s)).foldl (fun s d =>
    let data := d.mods.map fun m =>
      (m.module, vals.foldl (fun b (_, e, v) =>
        if e.ring && e.module == d.station && e.chan == m.module then ringPut e b v else b) (List.replicate m.outBytes 0))
    setStn s d.station { stn s d.station with queued := data }) s

end Sys2Proof.Machine
end

