-- ==== Sys2Proof/Machine/Can.lean ====
section
/-! DEFINITION. The CAN ports (chapter 14): receiving, the transmit lists, cancel, errors and bus-off, port commands, and
the slots' part of the images. -/

namespace Sys2Proof.Machine

def port (s : State) (p : Nat) : PortSt := tget {} s.can.p p
def setPort (s : State) (p : Nat) (x : PortSt) : State := { s with can := { s.can with p := tset s.can.p p x } }
def slotSt (s : State) (k : Nat) : SlotSt := tget {} s.can.slot k
def setSlot (s : State) (k : Nat) (x : SlotSt) : State := { s with can := { s.can with slot := tset s.can.slot k x } }

/-- One of the eight counters of 0x5002_000p (Table 14.11). -/
def canCount (s : State) (p i : Nat) (n : Nat := 1) : State :=
  setPort s p { port s p with counters := bump (port s p).counters i n }

/-- The controller takes part in the bus or listens to it (Table 14.8): it is on and not bus-off. -/
def canListens (s : State) (p : Nat) : Bool := [1, 2, 5].contains (port s p).state

/-- Frames may be sent in this mode and role (Table 14.8). -/
def canSends (s : State) : Bool := inControl s && (s.md.mode == .run || s.md.mode == .hold || s.md.mode == .change || s.md.mode == .degraded)

/-! ### Error states (R472, R473) -/

/-- A controller follows its error counters between error-active and error-passive (EV224, EV231). -/
def canErrorState (s : State) (p : Nat) : State :=
  let x := port s p
  if x.state = 1 ∧ (128 ≤ x.txErr ∨ 128 ≤ x.rxErr) then
    raise (setPort s p { x with state := 2 }) 224 [w32 p, w32 x.txErr, w32 x.rxErr]
  else if x.state = 2 ∧ x.txErr < 128 ∧ x.rxErr < 128 then
    raise (setPort s p { x with state := 1 }) 231 [w32 p]
  else s

/-- A reception without error lowers the receive error counter as ISO 11898-1 counts: by 1 down to 0; above 127 it takes
a value from 119 to 127, which the standard leaves open. -/
def canGoodReceive (s : State) (p : Nat) : State :=
  let x := port s p
  if x.state = 5 ∨ x.rxErr = 0 then s
  else if x.rxErr ≤ 127 then canErrorState (setPort s p { x with rxErr := x.rxErr - 1 }) p
  else
    let (w, s) := takeFree s
    canErrorState (setPort s p { x with rxErr := 119 + w.toNat % 9 }) p

/-! ### Receiving (R462 to R464, R470, R471) -/

/-- A filter accepts a frame (R462). -/
def filterTakes (d : FilterDef) (f : CanFrame) : Bool :=
  d.port == f.port && d.flags.getLsbD 0 == f.flags.getLsbD 0 &&
    (if f.flags.getLsbD 4 then d.flags.getLsbD 3 else if f.flags.getLsbD 1 then d.flags.getLsbD 2 else d.flags.getLsbD 1) &&
    (f.ident ^^^ d.ident) &&& d.mask == 0

/-- A stamp from a captured vessel time and what is added to it, in units of 2⁻¹⁶ ns; the time quality goes with it. -/
def canStamp (s : State) (ns : Nat) (frac : W16) (add : Int) : CanStamp :=
  let t := (((ns * 65536 + frac.toNat : Nat) : Int) + add).toNat
  ⟨t / 65536, BitVec.ofNat 16 (t % 65536), timeQuality s⟩

/-- The stamp of a received frame (R470): the captured time less the sample point's offset of 1 + N_TSEG1 nominal quanta of
N_BRP CAN clock periods (12.5 ns), half a CAN clock period, the typical receive delay of 65 ns, and the 10 ns of C18 (R38). -/
def canRxStamp (s : State) (p ns : Nat) (frac : W16) : CanStamp :=
  let quanta := (canPortDef (theImage s) p).elim 0 fun d => (1 + d.tseg1) * d.brp
  canStamp s ns frac (-((819200 * quanta + 409600 + 65536 * 75 : Nat) : Int))

/-- The stamp of a sent frame (R470): the clock edge of its start of frame plus the typical transmit delay of 55 ns, less the
10 ns of C18 (R38). -/
def canTxStamp (s : State) (ns : Nat) (frac : W16) : CanStamp := canStamp s ns frac (65536 * 45)

/-- The record of a received frame (Table 14.7); the time quality stands in the stamp. -/
def frameRec (s : State) (f : CanFrame) : CanRec :=
  ⟨canRxStamp s f.port f.stampNs f.stampFrac, f.port, f.flags &&& 0x1F, f.dlc, f.ident, f.data⟩

/-- A frame taken by a filter goes to its queue or its slot. -/
def takeFrame (s : State) (n : Nat) (d : FilterDef) (f : CanFrame) : State :=
  let r := frameRec s f
  let s := { s with can := { s.can with last := tset s.can.last n r } }
  if d.slot then setSlot s d.dest { slotSt s d.dest with last := some r, endNs := f.endNs, tick := s.time.tick }
  else
    let q := tget [] s.can.q n
    if q.length < d.depth then
      { s with can := { s.can with q := tset s.can.q n (q ++ [r]), qFull := s.can.qFull.filter (· != n) } }
    else
      let s := canCount s f.port 3
      if s.can.qFull.contains n then s
      else raise { s with can := { s.can with qFull := n :: s.can.qFull } } 229 [w32 n]

/-- CAN_FRAME_RECEIVED (R462): the first filter that matches takes the frame; one that matches none is counted. -/
def execCanFrameReceived (f : CanFrame) (at_ : Nat) (s : State) : Host.Outcome State Fault Refusal :=
  .next <|
    if !canListens s f.port then s
    else
      let s := canGoodReceive (canCount (setPhase s at_) f.port 1) f.port
      match ((filterDefs (theImage s)).find? fun e => filterTakes e.2 f) with
      | some e => takeFrame s e.1 e.2 f
      | none => canCount s f.port 2

/-- CAN_RECEIVE_SLOT_TIMEOUT (R464): no frame has arrived for TIMEOUT ticks; the slot is not valid. -/
def execCanReceiveSlotTimeout (slot : Nat) (s : State) : Host.Outcome State Fault Refusal :=
  .next <|
    match slotDef (theImage s) slot with
    | none => s
    | some d =>
      let x := slotSt s slot
      if d.tx || decide (s.time.tick < x.tick + d.period) then s else setSlot s slot { x with valid := false }

/-- At a latch every receive slot's image takes the last frame whose end lies before it (R464). -/
def canSlotImage (s : State) : State :=
  (slotDefs (theImage s)).foldl (fun s e =>
    let x := slotSt s e.1
    match x.last with
    | some r =>
      if !e.2.tx && decide (x.endNs < s.time.ns) && decide (s.time.tick < x.tick + e.2.period) then
        setSlot s e.1 { x with image := some (r.data, x.tick), valid := true }
      else s
    | none => s) s

/-- The cell of a CAN entry in the input image (R464): a slot has no status byte of Table 13.5, so kind 25 is open. -/
def canCell (s : State) (e : IoEntry) : InCell :=
  let x := slotSt s e.module
  let (data, tick) := x.image.getD ([], 0)
  let v : W64 := match e.kind with
    | 21 => ringScaled e (ringRaw e data)
    | 25 => (Config.argCode 25 e.module).setWidth 64
    | _ => if e.ty = 1 then (if (data.getD e.filter 0).getLsbD e.param then 1 else 0)
      else BitVec.ofNat 64 (le data e.filter (tyWidth e.ty))
  ⟨v, x.valid, tick⟩

/-! ### The transmit lists (R465, R468) -/

/-- LATE_LIMIT of a port in ns; none when entries are never dropped. -/
def lateLimit (img : Image) (p : Nat) : Option Nat :=
  match canPortDef img p with
  | some d => if d.late = 0 then none else some (d.late * tickNs)
  | none => none

/-- An entry's launch time has passed by more than LATE_LIMIT. -/
def isLate (s : State) (p : Nat) (e : TxEntry) : Bool :=
  (lateLimit (theImage s) p).elim false fun l => decide (e.time + l < vtime s)

/-- An entry takes its place in a launch list: by launch time, then by arrival. -/
def launchInsert : List TxEntry → TxEntry → List TxEntry
  | [], e => [e]
  | a :: l, e => if e.time < a.time then e :: a :: l else a :: launchInsert l e

/-- A refused request (R465): REFUSED_FULL, and EV228 on entry to the condition. -/
def canRefuse (s : State) (p : Nat) (e : TxEntry) : State :=
  let s := setEntryHandle s e 7
  let x := port s p
  if e.launch then
    if x.listFull then s else raise (setPort s p { x with listFull := true }) 228 [w32 p, Config.argCode 228 1]
  else if x.fifoFull then s else raise (setPort s p { x with fifoFull := true }) 228 [w32 p, Config.argCode 228 0]

/-- A request enters the FIFO or the launch list of its port. -/
def canEnter (s : State) (e : TxEntry) : State :=
  let p := e.req.port
  let x := port s p
  let e := { e with order := s.can.order }
  let s := { s with can := { s.can with order := s.can.order + 1 } }
  if e.launch then
    if x.launch.length < 32 then
      setEntryHandle (setPort s p { x with launch := launchInsert x.launch e, listFull := false }) e 1
    else canRefuse s p e
  else if x.fifo.length < 64 then
    setEntryHandle (setPort s p { x with fifo := x.fifo ++ [e], fifoFull := false }) e 1
  else canRefuse s p e

/-- A released SYS_CAN_SEND or SYS_CAN_LAUNCH (R465, R468, R475): a standby's handle reads SHADOW; a launch time that has
passed by more than LATE_LIMIT is LATE at once; launch time 0 is the instant of arrival. -/
def canRequest (s : State) (r : CanReq) : State :=
  if !inControl s then setHandle s r.handle 8
  else match r.launch with
    | none => canEnter s { req := r }
    | some t =>
      let e : TxEntry := { req := r, time := if t = 0 then vtime s else t, launch := true }
      if isLate s r.port e then setHandle s r.handle 5 else canEnter s e

/-- EV227 counts every entry that a port removes in one tick in one event (R468). -/
def raiseLate (s : State) (p n : Nat) : State :=
  let mine (e : EvRec) : Bool := e.ev == 227 && e.arg.headD 0 == w32 p
  if s.ev.intake.any mine then
    { s with
      ev := { s.ev with
        intake := s.ev.intake.map fun e => if mine e then { e with arg := [w32 p, e.arg.getD 1 0 + w32 n] } else e } }
  else raise s 227 [w32 p, w32 n]

/-- The instant launch time plus LATE_LIMIT has come. -/
def limitCome (s : State) (p : Nat) (e : TxEntry) : Bool :=
  (lateLimit (theImage s) p).elim false fun l => decide (e.time + l ≤ vtime s)

/-- The entries of a launch list that are late by a test and not on the bus are removed (R468). -/
def dropLate (s : State) (p : Nat) (late : TxEntry → Bool) : State :=
  let x := port s p
  let gone := x.launch.filter (fun e => late e && !isOnBus x e)
  if gone.isEmpty then s
  else
    let s := setPort s p { x with launch := x.launch.filter fun e => !(late e && !isOnBus x e), listFull := false }
    raiseLate (canCount (gone.foldl (fun s e => setEntryHandle s e 5) s) p 4 gone.length) p gone.length

/-- CAN_LAUNCH_LATE (R468, R473): an entry that has not started by that instant is removed; in bus-off too. -/
def execCanLaunchLate (port at_ : Nat) (s : State) : Host.Outcome State Fault Refusal :=
  .next <|
    let s := setPhase s at_
    dropLate s port (limitCome s port)

/-- CAN_SELECTION_POINT (R466): the launch-list head once its time has been reached, else the FIFO head, is offered. An entry
may still start at the very instant of its LATE_LIMIT (R468). -/
def execCanSelectionPoint (port at_ : Nat) (s : State) : Host.Outcome State Fault Refusal :=
  .next <|
    let x := Sys2Proof.Machine.port s port
    if !canSends s || !(x.state == 1 || x.state == 2) || x.onBus.isSome then s
    else
      let s := setPhase s at_
      let s := dropLate s port (isLate s port)
      let x := Sys2Proof.Machine.port s port
      let due := x.launch.head?.filter fun e => decide (e.time ≤ vtime s)
      match due, x.fifo with
      | some e, _ => setEntryHandle (setPort s port { x with onBus := some e, cancelOnBus := false }) e 2
      | none, e :: _ => setEntryHandle (setPort s port { x with onBus := some e, cancelOnBus := false }) e 2
      | none, [] => s

/-- The entry leaves its list. -/
def canRemove (s : State) (p : Nat) (e : TxEntry) : State :=
  let x := port s p
  setPort s p { x with fifo := x.fifo.filter (fun a => a.order != e.order), launch := x.launch.filter (fun a => a.order != e.order) }

/-- Result of the last cancel of a handle: 1 DONE, 2 FAILED, 3 REFUSED_RANGE (R469). -/
def setCancel (s : State) (h r : Nat) : State :=
  { s with can := { s.can with handle := tset s.can.handle h { tget ⟨0, none, 0⟩ s.can.handle h with cancel := r } } }

/-- The frame on the bus has been sent (R470): handle DONE with its stamp, slot object, counters. -/
def canSent (s : State) (p : Nat) (e : TxEntry) (st : CanStamp) : State :=
  let s := canCount (canRemove s p e) p 0
  match e.slot with
  | some k => setSlot s k { slotSt s k with
      last := some ⟨st, p, e.req.flags &&& 0x1F, e.req.dlc, e.req.ident, e.req.data⟩ }
  | none => { s with can := { s.can with
      handle := tset s.can.handle e.req.handle { tget ⟨0, none, 0⟩ s.can.handle e.req.handle with state := 3, stamp := some st } } }

/-- An attempt that did not succeed: a cancel that waited for it removes the frame; a module that may not send any more
drops it (R476); else it keeps its place (R466, R469). -/
def canRetry (s : State) (p : Nat) (e : TxEntry) (cancel : Bool) : State :=
  if cancel then setCancel (setEntryHandle (canCount (canRemove s p e) p 5) e 4) e.req.handle 1
  else if !canSends s then
    let s := setEntryHandle (canRemove s p e) e 6
    let x := port s p
    raise (setPort s p { x with dropped := satAdd 32 x.dropped 1 }) 230 [w32 p, w32 1]
  else setEntryHandle s e 1

/-- A transmit error raises the transmit error counter by 8 (ISO 11898-1); at 256 the controller is bus-off (R473). -/
def canTxError (s : State) (p : Nat) (e : TxEntry) : State :=
  let x := port s p
  if x.state = 5 then s
  else if 256 ≤ x.txErr + 8 then
    raise (canCount (setPort s p { x with txErr := x.txErr + 8, state := 3 }) p 7) 225 [w32 p, e.req.ident]
  else canErrorState (setPort s p { x with txErr := x.txErr + 8 }) p

/-- CAN_TRANSMIT_END (R466, R469, R470, R472, R473): success, lost arbitration or error of the frame on the bus. -/
def execCanTransmitEnd (port result stampNs : Nat) (stampFrac : W16) (at_ : Nat) (s : State) :
    Host.Outcome State Fault Refusal :=
  .next <|
    let x := Sys2Proof.Machine.port s port
    match x.onBus with
    | none => s
    | some e =>
      let s := setPhase s at_
      let s := setPort s port { x with onBus := none, cancelOnBus := false }
      match result with
      | 0 =>
        let s := canSent s port e (canTxStamp s stampNs stampFrac)
        let s := if x.cancelOnBus then setCancel (canCount s port 6) e.req.handle 2 else s
        let y := Sys2Proof.Machine.port s port
        if y.state = 5 then s else canErrorState (setPort s port { y with txErr := y.txErr - 1 }) port
      | 1 => canRetry s port e x.cancelOnBus
      | _ => canTxError (canRetry s port e x.cancelOnBus) port e

/-- CAN_BUS_ERROR (R472): an error raises the receive error counter as ISO 11898-1 says; a listening controller's
counters stay at 0. -/
def execCanBusError (port rise at_ : Nat) (s : State) : Host.Outcome State Fault Refusal :=
  .next <|
    let x := Sys2Proof.Machine.port s port
    if x.state = 1 ∨ x.state = 2 then canErrorState (setPort (setPhase s at_) port { x with rxErr := x.rxErr + rise }) port
    else s

/-- The waiting entry of a handle, with its port. -/
def findEntry (s : State) (h : Nat) : Option (Nat × TxEntry) :=
  s.can.p.findSome? fun e => ((e.2.fifo ++ e.2.launch).find? fun a => a.slot.isNone && a.req.handle == h).map fun a => (e.1, a)

/-- SYS_CAN_CANCEL (R469): a cancel that a course has released reaches its controller. -/
def execSysCanCancel (handle at_ : Nat) (s : State) : Host.Outcome State Fault Refusal :=
  .next <|
    if !s.can.cancels.contains handle then s
    else
      let s := setPhase s at_
      let s := { s with can := { s.can with cancels := s.can.cancels.erase handle } }
      match findEntry s handle with
      | none => setCancel s handle 3
      | some (p, e) =>
        let x := port s p
        if isOnBus x e then setPort s p { x with cancelOnBus := true }
        else setCancel (setEntryHandle (canCount (canRemove s p e) p 5) e 4) handle 1

/-! ### Bus-off recovery and port commands (R473, R474) -/

/-- CAN_RECOVERY_COMPLETE (R473): error-active with both counters at 0. -/
def execCanRecoveryComplete (port at_ : Nat) (s : State) : Host.Outcome State Fault Refusal :=
  .next <|
    let x := Sys2Proof.Machine.port s port
    if x.state = 4 then raise (setPort (setPhase s at_) port { x with state := 1, txErr := 0, rxErr := 0 }) 226 [w32 port] else s

/-- The answer to a port command before its effect (R474, R78): none when it is accepted. -/
def portGate (s : State) (p : Nat) : Option Nat :=
  if s.md.mode = .change then some rfBusy
  else if !inControl s then some rfRole
  else if !(List.contains [Mode.stop, .run, .hold, .degraded, .oasis] s.md.mode) then some rfMode
  else if p ≤ 3 then none else some rfObject

/-- The effect of a port command's code (R474), and its answer. -/
def portCommand (s : State) (p code : Nat) : State × Nat :=
  match portGate s p with
  | some r => (s, r)
  | none =>
    match code with
    | 1 => if (port s p).state = 3 then (setPort s p { port s p with state := 4 }, stDone) else (s, rfMode)
    | 2 => ((canDropWaiting s p true false).1, stDone)
    | 3 => ((canDropWaiting s p false true).1, stDone)
    | 4 => ((canDropWaiting s p true true).1, stDone)
    | _ => (s, rfMode)

/-- The object of port commands (R474). -/
def portObj (p : Nat) : W32 := w32 (0x50010000 + p)

/-- A port command from a host. -/
def hostPort (r : Req) (p code : Nat) (s : State) : State :=
  hostCommand s r (portObj p) fun s =>
    let (s', a) := portCommand s p code
    if a = stDone then reply s' r (portObj p) a else refuse s r (portObj p) a

/-- CAN_RECOVER (R473, R474). -/
def execCanRecover (r : Req) (port : Nat) (s : State) : Host.Outcome State Fault Refusal := .next (hostPort r port 1 s)

/-- FLUSH_FIFO (R474). -/
def execFlushFifo (r : Req) (port : Nat) (s : State) : Host.Outcome State Fault Refusal := .next (hostPort r port 2 s)

/-- FLUSH_LAUNCH (R474). -/
def execFlushLaunch (r : Req) (port : Nat) (s : State) : Host.Outcome State Fault Refusal := .next (hostPort r port 3 s)

/-- FLUSH_ALL (R474). -/
def execFlushAll (r : Req) (port : Nat) (s : State) : Host.Outcome State Fault Refusal := .next (hostPort r port 4 s)

/-- What a course releases for the CAN ports, in call order (R465, R477). -/
def canRelease (s : State) (rel : Release) : State :=
  let s := rel.can.foldl canRequest s
  let s := { s with can := { s.can with cancels := s.can.cancels ++ rel.canCancel } }
  let s := rel.canControl.foldl (fun s c =>
    let (s', a) := portCommand s c.1 c.2
    { s' with can := { s'.can with control := tset s'.can.control c.1 a } }) s
  canTaken s rel.canRead

/-! ### Transmit slots at a commit (R464) -/

/-- The frame of a transmit slot from the committed values. -/
def slotFrame (d : SlotDef) (k : Nat) (vals : List (Nat × IoEntry × W64)) : CanReq :=
  let data := vals.foldl (fun b (_, e, v) => if e.can && e.module == k then ringPut e b v else b)
    (List.replicate (dlcLength (d.flags.getLsbD 1) d.dlc) 0)
  ⟨d.port, 0, d.ident, d.flags, d.dlc, data, none⟩

/-- At the commit of tick t − 1 every transmit slot due at tick t enters the launch list. -/
def canSlotQueue (s : State) (vals : List (Nat × IoEntry × W64)) : State :=
  if !canSends s then s
  else (slotDefs (theImage s)).foldl (fun s (k, d) =>
    if d.tx && (s.time.tick + 1) % d.period == d.offset then
      canEnter s { req := slotFrame d k vals, time := s.time.ns + tickNs + 1000 * d.phase, slot := some k, launch := true }
    else s) s

/-! ### Takeover and role swap (R476) -/

/-- The new module's controllers at a takeover or role swap at the present boundary: normal, launch lists as carried in
mortar; at a takeover the entries whose launch time lies before the boundary are dropped and counted (Table 10.7), at a role swap
the list is carried whole. -/
def canTake (s : State) (takeover : Bool) : State :=
  let hs : Tab HandleSt := s.can.handle.map fun e => (e.1, if takeover then { e.2 with state := 6 } else e.2)
  let s : State := { s with can := { s.can with handle := hs } }
  (s.can.p.map (·.1)).foldl (fun s p =>
    let x := port s p
    let gone (e : TxEntry) : Bool := takeover && decide (e.time < s.time.ns)
    let old := x.launch.filter gone
    let n := old.length + x.fifo.length
    let s := setPort s p { x with
      launch := x.launch.filter fun e => !gone e
      fifo := [], onBus := none, dropped := satAdd 32 x.dropped n }
    if n = 0 then s else raise s 230 [w32 p, w32 n]) s

/-- The old active's controllers at a role swap: unsent FIFO frames are dropped and counted; the launch list is carried to
the new active. -/
def canYield (s : State) : State :=
  (s.can.p.map (·.1)).foldl (fun s p =>
    let (s, n) := canDropWaiting s p true false
    let x := port s p
    let s := setPort s p { x with launch := x.launch.filter (isOnBus x), dropped := satAdd 32 x.dropped n }
    if n = 0 then s else raise s 230 [w32 p, w32 n]) s

end Sys2Proof.Machine
end

