-- ==== Sys2Proof/Machine/RecordsLoop.lean ====
section
/-! DEFINITION. Typed views and owner rules of the loop records (R204 to R217) and of the records of type 0x0021: friction
and cogging tables and injection limits (R238 to R241, R252). -/

namespace Sys2Proof.Machine

/-- A loop context record (Table 06.1). `params` are the 16 binary64 of offsets 0x30 to 0xA8. -/
structure LoopDef where
  period : Nat
  offset : Nat
  outer : Nat
  lane : Nat
  initMode : Nat
  fallback : Nat
  lflags : Nat
  missLimit : Nat
  pvbadLimit : Nat
  table : Nat
  pvSrc : Nat
  outDst : Nat
  spSetting : Nat
  extSrc : Nat
  ff0 : Nat
  ff1 : Nat
  intExp : Int
  params : List F64
  deriving DecidableEq, Repr

def loopOf (p : Bytes) : LoopDef :=
  ⟨le p 0 2, le p 2 2, le p 4 1, le p 5 1, le p 6 1, le p 7 1, le p 8 2, le p 0x0A 1, le p 0x0B 1, le p 0x0C 2,
    le p 0x10 4, le p 0x14 4, le p 0x18 4, le p 0x1C 4, le p 0x20 4, le p 0x24 4, leS32 p 0x28,
    (List.range 16).map fun i => leF64 p (0x30 + 8 * i)⟩

/-- The record of context c, if it is configured (R204). -/
def loopDef (img : Image) (c : Nat) : Option LoopDef := (recOf img 0x20 c).map loopOf

/-- Every configured context with its number. -/
def loopDefs (img : Image) : List (Nat × LoopDef) := (recsOf img 0x20).map fun e => (e.1, loopOf e.2)

/-! Positions in the parameter list (Table 06.1, offset 0x30 + 8 times the position). -/
def pKP : Nat := 0
def pKI : Nat := 1
def pKD : Nat := 2
def pTF : Nat := 3
def pB : Nat := 4
def pC : Nat := 5
def pKT : Nat := 6
def pUMIN : Nat := 7
def pUMAX : Nat := 8
def pRATEUP : Nat := 9
def pRATEDOWN : Nat := 10
def pKFF0 : Nat := 11
def pKFF1 : Nat := 12
def pSPMIN : Nat := 13
def pSPMAX : Nat := 14
def pUINIT : Nat := 15

/-- LFLAGS of Table 06.2. -/
def LoopDef.gate (d : LoopDef) : Bool := d.lflags.testBit 7
def LoopDef.spTrack (d : LoopDef) : Bool := d.lflags.testBit 6
def LoopDef.ramp (d : LoopDef) : Bool := d.lflags.testBit 5
def LoopDef.awClamp (d : LoopDef) : Bool := d.lflags.testBit 4
def LoopDef.spCourse (d : LoopDef) : Bool := d.lflags.testBit 3

/-- OUT_DST as an I/O map entry. -/
def LoopDef.dst (d : LoopDef) : Option Nat := if d.outDst = 0xFFFFFFFF then none else some d.outDst

/-- The context has a tick of sample at tick t (Table 06.1). -/
def LoopDef.dueAt (d : LoopDef) (t : Nat) : Bool := t % d.period == d.offset

/-- KIND of a source word (R206). -/
def srcKind (w : Nat) : Nat := w / 2 ^ 24

/-- The context whose OUTER names context c (R215). -/
def innerOf (img : Image) (c : Nat) : Option (Nat × LoopDef) := (loopDefs img).find? fun e => e.2.outer == c

/-- The outermost context of c's chain, and c's place in the chain counted from it (R216). -/
def chainOf (img : Image) : Nat → Nat → Nat × Nat
  | 0, c => (c, 0)
  | n + 1, c =>
    match loopDef img c with
    | none => (c, 0)
    | some d => if d.outer = 0xFF then (c, 0) else
      let r := chainOf img n d.outer
      (r.1, r.2 + 1)

/-- A context enters a list ordered by outermost context and place in the chain. -/
def laneInsert (x : Nat × Nat × Nat) : List (Nat × Nat × Nat) → List (Nat × Nat × Nat)
  | [] => [x]
  | y :: l => if x.2.1 < y.2.1 ∨ (x.2.1 = y.2.1 ∧ x.2.2 < y.2.2) then x :: y :: l else y :: laneInsert x l

/-- The contexts of a lane that are due at tick t, in the order of their evaluation (R216). -/
def laneOrder (img : Image) (lane t : Nat) : List Nat :=
  (((loopDefs img).filter fun e => e.2.lane == lane && e.2.dueAt t).foldl
    (fun l e => laneInsert (e.1, chainOf img 4 e.1) l) []).map (·.1)

/-- The first parameter, as its offset, that is not finite or outside its range (R205, Table 06.1); U_INIT apart. A rate
below 0 is out of range (DEDUCED: 0 stands for no limit). -/
def paramFault (p : List F64) : Option Nat :=
  let g (i : Nat) : F64 := p.getD i 0
  let one := fOfInt 1
  let bad (i : Nat) : Bool :=
    !fIsFinite (g i) ||
      (if i = pTF ∨ i = pKT ∨ i = pRATEUP ∨ i = pRATEDOWN then fLt (g i) 0
       else if i = pB ∨ i = pC then fLt (g i) 0 || fLt one (g i)
       else if i = pUMAX then fLe (g pUMAX) (g pUMIN)
       else if i = pSPMAX then fLt (g pSPMAX) (g pSPMIN)
       else false)
  ((List.range 15).find? bad).map fun i => 0x30 + 8 * i

/-- A request for this loop mode is allowed (R224): CASCADE needs OUTER, EXTERNAL a source. -/
def modeAllowed (d : LoopDef) (m : Nat) : Bool :=
  decide (m ≤ 4) && !(m == 2 && d.outer == 0xFF) && !(m == 3 && srcKind d.extSrc == 0)

/-- A source word has a KIND of R206 and none of its reserved bits. -/
def srcBits (w : Nat) : Bool :=
  match srcKind w with
  | 0 => decide (w % 2 ^ 24 = 0)
  | 1 => true
  | 2 => decide (w / 2 ^ 22 % 4 = 0)
  | 3 => decide (w % 2 ^ 24 < 128)
  | _ => false

/-- A source word names something that the image holds (R206, R282). `pub` gives N_VAR and N_ROWS of a solver context. -/
def srcOk (img : Image) (pub : Nat → Option (Nat × Nat)) (w : Nat) : Bool :=
  match srcKind w with
  | 0 => decide (w % 2 ^ 24 = 0)
  | 1 => decide (w % 2 ^ 24 < (ioMap img).length)
  | 2 => decide (w / 2 ^ 22 % 4 = 0) && (pub (w / 2 ^ 16 % 64)).elim false fun n =>
      let e := w % 2 ^ 16
      decide (e < n.1 ∨ (0x1000 ≤ e ∧ e < 0x1000 + n.2) ∨ e = 0x2000)
  | 3 => decide (w % 2 ^ 24 < 128) && (loopDef img (w % 128)).isSome
  | _ => false

/-- Rules of one loop record by itself (Table 06.1, R205). -/
def loopRecOk (p : Bytes) : Bool :=
  let d := loopOf p
  decide (p.length = 184) && pow2In 1 1024 d.period && decide (d.offset < d.period) && decide (d.lane ≤ 1)
    && decide (d.outer < 128 ∨ d.outer = 0xFF) && modeAllowed d d.initMode && decide (d.fallback ≤ 1)
    && decide (d.lflags / 256 = 0 ∧ d.lflags % 8 = 0 ∧ 1 ≤ d.missLimit ∧ 1 ≤ d.pvbadLimit)
    && zeroAt p 0x0E 2 && zeroAt p 0x2C 4 && zeroAt p 0xB0 8 && decide (-64 ≤ d.intExp ∧ d.intExp ≤ 64)
    && (paramFault d.params).isNone && fIsFinite (d.params.getD pUINIT 0)
    && fLe (d.params.getD pUMIN 0) (d.params.getD pUINIT 0) && fLe (d.params.getD pUINIT 0) (d.params.getD pUMAX 0)
    && (if d.spCourse then d.spSetting == 0xFFFFFFFF else true)
    && srcBits d.pvSrc && srcBits d.extSrc && srcBits d.ff0 && srcBits d.ff1

/-- Rules that relate one loop record to the rest of the image (R206, R207, R215, R240). -/
def loopCrossOk (img : Image) (pub : Nat → Option (Nat × Nat)) (c : Nat) (d : LoopDef) : Bool :=
  srcKind d.pvSrc == 1 && srcOk img pub d.pvSrc && srcOk img pub d.extSrc && srcOk img pub d.ff0 && srcOk img pub d.ff1
    && (d.dst.elim true fun o => (ioEntry img o).elim false fun e => e.output)
    && (d.spCourse || (settingDefs img).any fun x => x.index == d.spSetting)
    && (d.outer == 0xFF ||
      (match loopDef img d.outer with
       | none => false
       | some o => d.lane == o.lane && pow2In 2 256 (o.period / d.period) && decide (o.period % d.period = 0)
           && decide (o.offset % d.period = d.offset) && o.dst.isNone))
    && decide (((loopDefs img).filter fun e => e.2.outer == c).length ≤ 1)
    && (d.table == 0xFFFF || (decide (d.table < 64) && (recOf img 0x21 d.table).isSome
      && (loopDefs img).all fun e => e.1 == c || e.2.table != d.table))
    && ((loopDef img (chainOf img 3 c).1).elim false fun r => r.outer == 0xFF)

/-! ### Tables (R238 to R241) -/

def tabKind (p : Bytes) : Nat := le p 0 1
def tabPoints (p : Bytes) : Nat := le p 4 2
def tabMax (p : Bytes) : Nat := le p 6 2
def tabX (p : Bytes) : Nat := le p 8 4
def tabV (p : Bytes) : Nat := le p 0x0C 4
def tabBound (p : Bytes) : Nat := le p 0x10 4

/-- Values that a payload holds: POINTS, twice for friction. -/
def tabValues (p : Bytes) : Nat := if tabKind p = 1 then 2 * tabPoints p else tabPoints p

/-- Every point of a payload is finite (R239, R247). -/
def tabPointsFinite (p : Bytes) : Bool := (List.range (tabValues p)).all fun i => fIsFinite (leF64 p (0x40 + 8 * i))

/-- The source word names an input or output of one of these kinds. -/
def tabSrcOk (img : Image) (w : Nat) (kinds : List Nat) : Bool :=
  srcKind w == 1 && (ioEntry img (w % 2 ^ 24)).elim false fun e => kinds.contains e.kind

/-- A payload of Table 07.2 in its ranges; `points` asks for finite points as well, `src` is what its source words must
meet. -/
def tableRanges (src : Nat → List Nat → Bool) (p : Bytes) (points : Bool) : Bool :=
  let fin (o : Nat) := fIsFinite (leF64 p o)
  decide (64 ≤ p.length) && decide (p.length = 64 + 8 * tabValues p) && decide (tabPoints p ≤ tabMax p ∧ tabMax p ≤ 4096)
    && decide (8 ≤ tabBound p ∧ tabBound p ≤ 80000) && zeroAt p 0x14 4 && zeroAt p 0x38 8
    && fin 0x18 && fin 0x20 && fin 0x28 && fin 0x30
    && (if tabKind p = 1 then
        decide (le p 1 1 = 0 ∧ le p 2 2 = 0 ∧ 2 ≤ tabPoints p) && src (tabX p) [10, 22]
          && src (tabV p) [11, 23] && fLt (leF64 p 0x18) (leF64 p 0x20) && fLe 0 (leF64 p 0x28)
      else
        tabKind p == 2 && (if le p 1 1 = 1 then decide (1 ≤ le p 2 2 ∧ le p 2 2 ≤ 64) else decide (le p 1 1 = 0 ∧ le p 2 2 = 0))
          && decide (4 ≤ tabPoints p) && src (tabX p) [12, 24] && decide (tabV p = 0)
          && fLe 0 (leF64 p 0x18) && fLt (leF64 p 0x18) (fOfInt 360) && zeroAt p 0x20 16)
    && (!points || tabPointsFinite p)

/-- The same with source words that the image's I/O map satisfies (R240). -/
def tableOk (img : Image) (p : Bytes) (points : Bool) : Bool := tableRanges (tabSrcOk img) p points

/-- Bytes of one buffer of a table (R241). -/
def tabBuffer (p : Bytes) : Nat := if tabKind p = 1 then 64 + 16 * tabMax p else 64 + 8 * tabMax p

/-- The payload of table t in the image. -/
def tableRec (img : Image) (t : Nat) : Option Bytes := if t < 64 then recOf img 0x21 t else none

/-- The table numbers that the image configures. -/
def tableNums (img : Image) : List Nat := ((recsOf img 0x21).filter fun e => decide (e.1 < 64)).map (·.1)

/-- The context that names table t (R240). -/
def tableUser (img : Image) (t : Nat) : Option Nat := ((loopDefs img).find? fun e => e.2.table == t).map (·.1)

/-! ### Injection limits (Table 07.4) -/

structure InjLimits where
  pointsOk : Nat
  durMax : Nat
  amp : List F64
  yLow : F64
  yHigh : F64
  satLimit : Nat
  deriving DecidableEq, Repr

def injLimitsOf (p : Bytes) : InjLimits :=
  ⟨le p 1 1, le p 4 4, [leF64 p 8, leF64 p 0x10, leF64 p 0x18], leF64 p 0x20, leF64 p 0x28, le p 0x30 4⟩

/-- The injection limits of context c (R252). -/
def injLimits (img : Image) (c : Nat) : Option InjLimits := (recOf img 0x21 (0x100 + c)).map injLimitsOf

def injLimitsOk (p : Bytes) : Bool :=
  let l := injLimitsOf p
  decide (p.length = 56) && le p 0 1 == 3 && decide (l.pointsOk < 8) && zeroAt p 2 2 && zeroAt p 0x34 4
    && decide (8 ≤ l.durMax ∧ l.durMax ≤ 4800000 ∧ 1 ≤ l.satLimit ∧ l.satLimit ≤ 65535)
    && l.amp.all (fun a => fIsFinite a && fLt 0 a) && fIsFinite l.yLow && fIsFinite l.yHigh && fLt l.yLow l.yHigh

/-- One record of type 0x0021 by itself (R238, R239, R252). -/
def rec21Ok (inst : Nat) (p : Bytes) : Bool :=
  if inst < 64 then tableRanges (fun w _ => srcKind w == 1) p true
  else decide (0x100 ≤ inst ∧ inst < 0x180) && injLimitsOk p

/-- Both buffers of all tables fit the table memory (R241). -/
def tablesFit (img : Image) : Bool :=
  decide (((recsOf img 0x21).filter fun e => decide (e.1 < 64)).foldl (fun n e => n + 2 * tabBuffer e.2) 0 ≤ 2097152)

end Sys2Proof.Machine
end

