-- ==== Sys2Proof/Machine/RecordsPanel.lean ====
section
/-! DEFINITION. Typed view and owner rules of the annunciator map, record type 0x0060 (R546, R548). -/

namespace Sys2Proof.Machine

/-- A band entry (Table 18.4): UPPER_C in 0.1 °C, V_OP in mV, SLOT in PANEL cycles. -/
structure BandDef where
  upper : Int
  vop : Nat
  slot : Nat
  deriving DecidableEq, Repr

/-- A pixel entry (Table 18.4). -/
structure PixelDef where
  pixel : Nat
  kind : Nat
  alarm : Bool
  src : Nat
  deriving DecidableEq, Repr

def mapBias (p : Bytes) : Bool := le p 0 1 == 1
def mapDefaultBand (p : Bytes) : Nat := le p 1 1
def mapTrust (p : Bytes) : Nat := le p 2 2

def bandDef (p : Bytes) (b : Nat) : BandDef :=
  ⟨(BitVec.ofNat 16 (le p (16 + 8 * b) 2)).toInt, le p (18 + 8 * b) 2, le p (20 + 8 * b) 2⟩

def pixelDefs (p : Bytes) : List PixelDef :=
  (List.range (le p 4 2)).map fun i => ⟨le p (56 + 8 * i) 2, le p (58 + 8 * i) 1, le p (59 + 8 * i) 1 == 1, le p (60 + 8 * i) 4⟩

/-- Rules of the annunciator map by itself (R546, R548). -/
def mapOk (p : Bytes) : Bool :=
  let n := le p 4 2
  let bs := (List.range 5).map (bandDef p)
  decide (n ≤ 960 ∧ p.length = 56 + 8 * n ∧ le p 0 1 ≤ 1 ∧ le p 1 1 ≤ 4 ∧ (le p 2 2 ≤ 959 ∨ le p 2 2 = 0xFFFF))
    && zeroAt p 6 10
    && (List.range 5).all (fun b => zeroAt p (22 + 8 * b) 2)
    && bs.all (fun d => decide (2500 ≤ d.vop ∧ d.vop ≤ 6000 ∧ 2000 ≤ d.slot ∧ d.slot ≤ 8000) && (mapBias p || decide (d.vop ≤ 5000)))
    && (List.range 4).all (fun b => decide ((bandDef p b).upper < (bandDef p (b + 1)).upper))
    && decide ((bandDef p 4).upper = 0x7FFF)
    && (List.range n).all (fun i => decide (le p (59 + 8 * i) 1 ≤ 1))
    && (pixelDefs p).all (fun d => decide (d.pixel ≤ 959) && (match d.kind with
      | 1 => !d.alarm && decide (d.src ≤ 255)
      | 2 => srcKind d.src == 1
      | 3 => !d.alarm && d.src == 0
      | _ => false))
    && allPairs (fun a b => a.pixel != b.pixel) (pixelDefs p)

/-- Source words of pixels name BOOL entries of the I/O map (Table 18.4). -/
def mapCrossOk (img : Image) : Bool :=
  match recOf img 0x60 0 with
  | none => true
  | some p => (pixelDefs p).all fun d => d.kind != 2 || (ioEntry img (d.src % 2 ^ 24)).elim false fun e => e.ty == 1

end Sys2Proof.Machine
end

