-- ==== Sys2Proof/Machine/RecordsProg.lean ====
section
/-! DEFINITION. Owner rules of the program records (R128 to R133), event routing (R564), mortar selection (R340), settings
(R119) and the network record (R483). -/

namespace Sys2Proof.Machine

/-! ### Program (chapter 04) -/

/-- One byte of a UTF-8 text: continuation bytes still due and the range of the next one. -/
def utf8Step (st : Option (Nat × Nat × Nat)) (b : Byte) : Option (Nat × Nat × Nat) :=
  match st with
  | none => none
  | some (0, _) =>
    let v := b.toNat
    if v < 0x80 then some (0, 0, 0)
    else if v < 0xC2 then none
    else if v < 0xE0 then some (1, 0x80, 0xBF)
    else if v = 0xE0 then some (2, 0xA0, 0xBF)
    else if v = 0xED then some (2, 0x80, 0x9F)
    else if v < 0xF0 then some (2, 0x80, 0xBF)
    else if v = 0xF0 then some (3, 0x90, 0xBF)
    else if v < 0xF4 then some (3, 0x80, 0xBF)
    else if v = 0xF4 then some (3, 0x80, 0x8F)
    else none
  | some (n + 1, lo, hi) => if lo ≤ b.toNat ∧ b.toNat ≤ hi then some (n, 0x80, 0xBF) else none

/-- UTF-8, zero-padded (Table 04.1). -/
def nameOk (b : Bytes) : Bool :=
  (b.dropWhile (· != 0)).all (· == 0) && ((b.foldl utf8Step (some (0, 0, 0))).map (·.1) == some 0)

/-- A brick type record by itself (R129, Table 04.1). -/
def brickTypeOk (inst : Nat) (p : Bytes) : Bool :=
  decide (inst ≤ 4095 ∧ p.length = 56 ∧ le p 0x10 4 % 8 = 0 ∧ le p 0x14 2 ≤ 1) && zeroAt p 0x16 2 && nameOk (p.drop 0x18)

/-- One rule of a conversion list (Table 05.6). -/
structure ConvRule where
  src : Nat
  dst : Nat
  op : Nat
  srcTy : Nat
  dstTy : Nat
  count : Nat
  deriving DecidableEq, Repr

/-- One block of a conversion list (Table 05.6). -/
structure ConvBlock where
  typeId : Nat
  old : Nat
  new : Nat
  rules : List ConvRule
  deriving DecidableEq, Repr

def convRuleAt (p : Bytes) (o : Nat) : ConvRule := ⟨le p o 4, le p (o + 4) 4, le p (o + 8) 1, le p (o + 9) 1, le p (o + 10) 1, le p (o + 12) 2⟩

/-- The blocks of a conversion list from an offset on; none when a block does not fit or breaks Table 05.6. -/
def convBlocksAt (p : Bytes) : Nat → Nat → Option (List ConvBlock)
  | 0, _ => none
  | fuel + 1, o =>
    if o = p.length then some []
    else
      let n := le p (o + 0x10) 4
      let next := o + 20 + 16 * n
      let ok (i : Nat) : Bool :=
        let q := o + 20 + 16 * i
        let r := convRuleAt p q
        decide (r.op ≤ 4 ∧ 1 ≤ r.count) && tyWidth r.srcTy != 0 && tyWidth r.dstTy != 0 && zeroAt p (q + 11) 1 && zeroAt p (q + 14) 2
      if p.length < next ∨ !(List.range n).all ok then none
      else (convBlocksAt p fuel next).map fun bs =>
        ⟨le p o 8, le p (o + 8) 4, le p (o + 12) 4, (List.range n).map fun i => convRuleAt p (o + 20 + 16 * i)⟩ :: bs

/-- The conversion list of an image (R181): record 0x0001, INSTANCE 1. -/
def convList (img : Image) : List ConvBlock :=
  ((recOf img 1 1).bind fun p => convBlocksAt p (p.length / 20 + 1) 0).getD []

/-- The program code (INSTANCE 0) or the conversion list (INSTANCE 1) by itself (R181). -/
def codeRecOk (inst : Nat) (p : Bytes) : Bool :=
  inst == 0 || (inst == 1 && (convBlocksAt p (p.length / 20 + 1) 0).isSome)

/-- Bytes of the instance area (R128). -/
def instanceArea : Nat := 33554432

/-- A brick instance record by itself (R130, Table 04.2). -/
def brickInstOk (inst : Nat) (p : Bytes) : Bool :=
  let d := brickOf p
  decide (inst ≤ 65535 ∧ p.length = 0x18 + d.len ∧ 0x18 ≤ p.length ∧ d.type ≤ 4095 ∧ d.offset % 8 = 0
      ∧ d.offset + d.len ≤ instanceArea)
    && (if inst = 0 then d.course == 0xFF else decide (d.course ≤ 8)) && zeroAt p 0x0B 1

/-- A course record by itself, or the event routing (R133, R564). -/
def courseRecOk (inst : Nat) (p : Bytes) : Bool :=
  if inst = 0 then
    decide (p.length = 16 ∧ 8 ≤ le p 4 4 ∧ le p 4 4 ≤ 80000) && zeroAt p 0 4 && zeroAt p 8 4
  else if inst ≤ 8 then
    decide (p.length = 16 ∧ 1 ≤ le p 0 2 ∧ le p 0 2 ≤ 8192 ∧ le p 2 2 < le p 0 2 ∧ 1 ≤ le p 8 1) && zeroAt p 4 4 && zeroAt p 9 3
  else if inst = 0x20 then
    decide (p.length = 1024) && (List.range 256).all fun ev =>
      let w := le p (4 * ev) 4
      decide (w < 4096 ∧ w / 1024 ≠ 3) && (w / 1024 == 0 || decide (120 ≤ ev ∧ ev ≤ 127))
  else false

/-- Rules that relate the program's records (R128, R129, R130, R133). -/
def programCrossOk (img : Image) : Bool :=
  let bs := bricks img
  let code := ((recOf img 1 0).map (·.length)).getD 0
  (courseDef img 0).isSome
    && (recsOf img 2).all (fun e => decide (le e.2 0x0C 4 < code))
    && bs.all (fun e => (brickType img e.2.type).elim false fun t => t.len == e.2.len)
    && decide ((bs.map fun e => e.2.len).sum ≤ instanceArea)
    && bs.all (fun e => e.1 == 0 || (courseDef img e.2.course).isSome)
    && allPairs (fun a b => a.2.course != b.2.course || a.2.order != b.2.order) bs
    && (List.range 9).all fun c =>
      match recOf img 4 c with
      | none => true
      | some p => le p 0x0C 4 == (bs.filter fun e => e.2.course == c).length

/-! ### Mortar selection (R340) -/

/-- The mortar selection record by itself (Tables 10.4, 10.5). -/
def mortarRecOk (p : Bytes) : Bool :=
  let n := le p 0 2
  let m := le p 2 2
  decide (n ≤ 16384 ∧ p.length = 32 + 16 * n ∧ 2 ≤ m ∧ m ≤ 64 ∧ le p 4 4 ≤ 24576 ∧ 8 ≤ le p 8 4 ∧ le p 8 4 ≤ 80000
      ∧ 8 ≤ le p 0x0C 4 ∧ le p 0x0C 4 ≤ 8000 ∧ 1 ≤ le p 0x10 2 ∧ le p 0x10 2 ≤ 8 ∧ le p 0x12 2 ≤ 3650)
    && zeroAt p 0x14 12
    && (List.range n).all fun i =>
      let o := 32 + 16 * i
      decide (le p (o + 2) 2 ≤ 1) && zeroAt p (o + 0x0C) 4 &&
        (if le p (o + 2) 2 = 1 then zeroAt p (o + 4) 8
         else decide (le p (o + 4) 4 % 8 = 0 ∧ le p (o + 8) 4 % 8 = 0 ∧ 8 ≤ le p (o + 8) 4))

/-- Byte range that an entry selects. -/
def selRange (len : Nat) (e : Nat × Bool × Nat × Nat) : Nat × Nat :=
  if e.2.1 then (0, len) else (e.2.2.1, e.2.2.1 + e.2.2.2)

/-- Rules that relate the selection to the bricks (R340). -/
def mortarCrossOk (img : Image) : Bool :=
  let es := (mortarSel img).entries
  es.all (fun e => (brickInst img e.1).elim false fun b =>
      ((brickType img b.type).elim false fun t => !t.safety) && decide ((selRange b.len e).2 ≤ b.len))
    && allPairs (fun a b => a.1 != b.1 || (brickInst img a.1).elim true fun i =>
      decide ((selRange i.len a).2 ≤ (selRange i.len b).1 ∨ (selRange i.len b).2 ≤ (selRange i.len a).1)) es

/-! ### Settings (R119) -/

/-- Range that Table 06.1 states for the parameter at an offset: lower and upper end; none where only finiteness is asked. -/
def paramRange (offset : Nat) : Option F64 × Option F64 :=
  let i := (offset - 0x30) / 8
  if i = pTF ∨ i = pKT ∨ i = pRATEUP ∨ i = pRATEDOWN then (some 0, none)
  else if i = pB ∨ i = pC then (some 0, some (fOfInt 1)) else (none, none)

/-- One setting by itself. -/
def settingOk (d : SettingDef) : Bool :=
  (d.type == 1 || decide (6 ≤ d.type ∧ d.type ≤ 0x0F))
    && rawFits d.type d.dflt && rawFits d.type d.min && rawFits d.type d.max
    && !rawNonFinite d.type d.dflt && !rawNonFinite d.type d.min && !rawNonFinite d.type d.max
    && rawLe d.type d.min d.dflt && rawLe d.type d.dflt d.max
    && (d.type != 1 || (d.min == 0 && d.max == 1))
    && (if d.bindCtx = 0xFF then d.bindOffset == 0
        else decide (d.bindCtx ≤ 127 ∧ 0x30 ≤ d.bindOffset ∧ d.bindOffset ≤ 0xA0 ∧ d.bindOffset % 8 = 0) && d.type == 0x0F
          && (paramRange d.bindOffset).1.elim true (fun lo => fLe lo d.min)
          && (paramRange d.bindOffset).2.elim true (fun hi => fLe d.max hi))

/-- The settings record by itself (R119). -/
def settingsRecOk (p : Bytes) : Bool :=
  let n := le p 0 4
  let ds := settingDefs ⟨[], [⟨0x70, 0, 0, p⟩]⟩
  decide (n ≤ 65536 ∧ p.length = 8 + 40 * n) && zeroAt p 4 4 && (List.range n).all (fun i => zeroAt p (16 + 40 * i) 8)
    && ds.all settingOk
    && allPairs (fun a b => a.index % 65536 != b.index % 65536
      && (a.bindCtx == 0xFF || a.bindCtx != b.bindCtx || a.bindOffset != b.bindOffset)) ds

/-- The limits of a setting bound to U_MAX or SP_MAX lie in the range of Table 06.1: above U_MIN, and not below SP_MIN, as the
image states these (R119). -/
def boundRange (l : LoopDef) (d : SettingDef) : Bool :=
  let i := (d.bindOffset - 0x30) / 8
  let g (k : Nat) : F64 := l.params.getD k 0
  if i = pUMAX then fLt (g pUMIN) d.min else if i = pSPMAX then fLe (g pSPMIN) d.min else true

/-- A setting that a loop context names as SP_SETTING is LREAL (R119). -/
def settingsCrossOk (img : Image) : Bool :=
  ((loopDefs img).all fun e => e.2.spCourse ||
    (settingDefs img).all fun d => d.index != e.2.spSetting || d.type == 0x0F)
    && (settingDefs img).all fun d => d.bindCtx == 0xFF || (loopDef img d.bindCtx).elim true fun l => boundRange l d

/-! ### Network and time (R483) -/

/-- The network record (Table 15.2). -/
def netRecOk (p : Bytes) : Bool :=
  let prof := le p 0 1
  let asym (o : Nat) : Bool := decide (-100000 ≤ leS32 p o ∧ leS32 p o ≤ 100000)
  decide (p.length = 0x30 ∧ prof ≤ 3 ∧ le p 1 1 ≤ 1 ∧ le p 2 1 ≤ 127 ∧ 50 ≤ le p 4 4 ∧ le p 4 4 ≤ 10000000
      ∧ le p 0x10 2 ≤ 5000 ∧ 5 ≤ le p 0x12 2 ∧ le p 0x12 2 ≤ 600 ∧ 8 ≤ le p 0x20 1 ∧ le p 0x20 1 ≤ 30)
    && (prof != 3 || zeroAt p 2 1) && (prof != 0 || zeroAt p 0x10 2) && asym 8 && asym 0x0C
    && zeroAt p 3 1 && zeroAt p 0x21 3 && zeroAt p 0x2C 4

end Sys2Proof.Machine
end

