-- ==== Sys2Proof/Machine/RecordsSafety.lean ====
section
/-! DEFINITION. Typed views and owner rules of the safety records, type 0x0040 (R372, R384, R388, R392; Tables 11.1 to
11.3 and 11.5). -/

namespace Sys2Proof.Machine

/-- A safety input record (Table 11.1). -/
structure SiDef where
  mode : Nat
  manual : Bool
  filter : Nat
  discT : Nat
  deriving DecidableEq, Repr

/-- An axis record (Table 11.2). -/
structure AxisDef where
  ss1 : Bool
  src : Nat
  conn : Nat
  override : Bool
  ws : Nat
  xchkSto : Bool
  manual : Bool
  demand : Nat
  stopTicks : Nat
  ringDemand : Nat
  refDst : Nat
  tDelay : Nat
  xchkTime : Nat
  tMax : Nat
  aEnv : F64
  vTol : F64
  vStop : F64
  xchkTol : F64
  aRamp : F64
  deriving DecidableEq, Repr

/-- A ring safety connection record (Table 11.3). -/
structure ConnDef where
  kind : Nat
  station : Nat
  module : Nat
  axis : Nat
  wd : Nat
  ident : Nat
  deriving DecidableEq, Repr

/-- The general safety record (Table 11.5). -/
structure SafeGen where
  hours : Nat
  resetSrc : Nat
  resetIndex : Nat
  tpPeriod : Nat
  deriving DecidableEq, Repr

def siOf (p : Bytes) : SiDef := ⟨le p 0 1, le p 1 1 == 1, le p 2 2, le p 4 2⟩

def axisOf (p : Bytes) : AxisDef :=
  ⟨le p 0 1 == 2, le p 1 1, le p 2 1, le p 3 1 == 1, le p 4 1, le p 5 1 == 1, le p 6 1 == 1, le p 8 2, le p 0x0A 2,
    le p 0x0C 4, le p 0x10 4, le p 0x14 2, le p 0x16 2, le p 0x18 4, leF64 p 0x20, leF64 p 0x28, leF64 p 0x30,
    leF64 p 0x38, leF64 p 0x40⟩

def connOf (p : Bytes) : ConnDef := ⟨le p 0 1, le p 1 1, le p 2 1, le p 3 1, le p 4 2, le p 8 4⟩

/-- Record of safety input i, if it is used (R372). -/
def siDef (img : Image) (i : Nat) : Option SiDef := (recOf img 0x40 (0x10 + i)).map siOf

/-- Record of axis j, if it is used (R384). -/
def axisDef (img : Image) (j : Nat) : Option AxisDef := (recOf img 0x40 (0x20 + j)).map axisOf

/-- Record of ring safety connection k (R388). -/
def connDef (img : Image) (k : Nat) : Option ConnDef := (recOf img 0x40 (0x30 + k)).map connOf

/-- General safety parameters; the defaults of Table 11.5 without the record. -/
def safeGen (img : Image) : SafeGen :=
  match recOf img 0x40 0 with
  | none => ⟨24, 0, 0, 800⟩
  | some p => ⟨le p 0 2, le p 2 1, le p 3 1, le p 4 2⟩

/-- Used inputs, axes and connections, in order. -/
def siDefs (img : Image) : List (Nat × SiDef) := (List.range 8).filterMap fun i => (siDef img i).map fun d => (i, d)
def axisDefs (img : Image) : List (Nat × AxisDef) := (List.range 4).filterMap fun j => (axisDef img j).map fun d => (j, d)
def connDefs (img : Image) : List (Nat × ConnDef) := (List.range 32).filterMap fun k => (connDef img k).map fun d => (k, d)

/-- Field ranges of a safety input record (Table 11.1). -/
def siRecOk (p : Bytes) : Bool :=
  let d := siOf p
  decide (p.length = 16 ∧ 1 ≤ d.mode ∧ d.mode ≤ 3 ∧ le p 1 1 ≤ 1 ∧ 4 ≤ d.filter ∧ d.filter ≤ 800 ∧ 1 ≤ d.discT
    ∧ d.discT ≤ 8000) && zeroAt p 6 10

/-- Field ranges of an axis record (Table 11.2). Fields of FUNC 2 are checked for FUNC 2 alone. -/
def axisRecOk (p : Bytes) : Bool :=
  let d := axisOf p
  decide (p.length = 0x48 ∧ 1 ≤ le p 0 1 ∧ le p 0 1 ≤ 2 ∧ le p 3 1 ≤ 1 ∧ le p 5 1 ≤ 1 ∧ le p 6 1 ≤ 1)
    && zeroAt p 7 1 && zeroAt p 9 1 && zeroAt p 0x1C 4
    && (d.override || d.refDst == 0xFFFFFFFF)
    && (!d.ss1 ||
      (decide (d.src ≤ 1 ∧ 1 ≤ d.ws ∧ d.ws ≤ 2 ∧ 1 ≤ d.stopTicks ∧ d.stopTicks ≤ 800 ∧ d.tDelay ≤ 800
          ∧ 8 ≤ d.tMax ∧ d.tMax ≤ 800000)
        && fIsFinite d.aEnv && fLt 0 d.aEnv && fIsFinite d.vTol && fLe 0 d.vTol && fIsFinite d.vStop && fLe 0 d.vStop
        && (if d.override then fIsFinite d.aRamp && fLe d.aEnv d.aRamp else d.aRamp == 0)))
    && (d.conn == 0xFF || (decide (d.conn ≤ 31 ∧ 1 ≤ d.xchkTime ∧ d.xchkTime ≤ 800)
        && fIsFinite d.xchkTol && fLt 0 d.xchkTol))

/-- Field ranges of a ring safety connection record (Table 11.3). -/
def connRecOk (p : Bytes) : Bool :=
  let d := connOf p
  decide (p.length = 16 ∧ 1 ≤ d.kind ∧ d.kind ≤ 3 ∧ d.station ≤ 63 ∧ d.module ≤ 15 ∧ d.axis ≤ 3 ∧ d.wd ≤ 800
    ∧ d.ident ≠ 0) && (d.kind == 3 || d.axis == 0) && zeroAt p 6 2 && zeroAt p 0x0C 4

/-- Field ranges of the general record (Table 11.5). -/
def safeGenRecOk (p : Bytes) : Bool :=
  decide (p.length = 16 ∧ 1 ≤ le p 0 2 ∧ le p 0 2 ≤ 168 ∧ le p 2 1 ≤ 2 ∧ 80 ≤ le p 4 2 ∧ le p 4 2 ≤ 8000
    ∧ le p 4 2 % 16 = 0) && (le p 2 1 != 0 || le p 3 1 == 0) && zeroAt p 6 10

/-- The rules of one record of type 0x0040 by itself. -/
def safetyRecOk (i : Nat) (p : Bytes) : Bool :=
  if i = 0 then safeGenRecOk p
  else if 0x10 ≤ i ∧ i ≤ 0x17 then siRecOk p
  else if 0x20 ≤ i ∧ i ≤ 0x23 then axisRecOk p
  else if 0x30 ≤ i ∧ i ≤ 0x4F then connRecOk p
  else false

/-- Rules that relate the safety records to each other and to the I/O map and the ring (R384, R388, R392). -/
def safetyCrossOk (img : Image) : Bool :=
  let g := safeGen img
  (axisDefs img).all (fun (_, d) =>
      (!d.override || ((ioEntry img d.refDst).elim false fun e => e.output))
      && (d.conn == 0xFF || (connDef img d.conn).elim false fun c => c.kind == 2)
      && (!d.ss1 || (ioByKind img (0x48 + d.src) [10]).isSome))
    && (connDefs img).all (fun (_, d) =>
      (match stationDef img d.station with
       | none => false
       | some st => decide (2 * st.cycle ≤ d.wd) && st.mods.any fun m => m.module == d.module))
    && allPairs (fun a b => a.2.ident != b.2.ident) (connDefs img)
    && (match g.resetSrc with
      | 1 => (siDef img g.resetIndex).isSome && decide (g.resetIndex ≤ 7)
          && (axisDefs img).all fun (_, d) => !d.demand.testBit g.resetIndex
      | 2 => decide (g.resetIndex ≤ 31) && (connDef img g.resetIndex).elim false fun c => c.kind == 1
      | _ => true)

end Sys2Proof.Machine
end

