-- ==== Sys2Proof/Machine/Ed25519.lean ====
section
/-! DEFINITION. Ed25519 verification (RFC 8032), which R110 check 4 and R541 ask for; it checks without the cofactor
(DESIGN CHOICE, notes/assumptions). -/

namespace Sys2Proof.Machine

/-- The field prime 2^255 − 19. -/
def edP : Nat := 2 ^ 255 - 19

/-- The order of the base point. -/
def edL : Nat := 2 ^ 252 + 27742317777372353535851937790883648493

/-- b to the power e modulo m, e below 2^n, from the exponent's top bit down. -/
def powMod (m b e : Nat) : Nat → Nat → Nat
  | 0, acc => acc
  | n + 1, acc =>
    let sq := acc * acc % m
    powMod m b e n (if e.testBit n then sq * b % m else sq)

/-- b to the power e in the field. -/
def edPow (b e : Nat) : Nat := powMod edP b e 256 1

/-- Subtraction in the field. -/
def edSub (a b : Nat) : Nat := (a + (edP - b % edP)) % edP

/-- The curve constant d = −121665/121666. -/
def edD : Nat := edSub 0 (121665 * edPow 121666 (edP - 2) % edP)

/-- A square root of −1 in the field. -/
def edI : Nat := edPow 2 ((edP - 1) / 4)

/-- A point in extended homogeneous coordinates X, Y, Z, T. -/
abbrev EdPoint := Nat × Nat × Nat × Nat

/-- The neutral element. -/
def edZero : EdPoint := (0, 1, 1, 0)

/-- Addition (complete on this curve, so it also doubles). -/
def edAdd (p q : EdPoint) : EdPoint :=
  let (x1, y1, z1, t1) := p
  let (x2, y2, z2, t2) := q
  let a := edSub y1 x1 * edSub y2 x2 % edP
  let b := (y1 + x1) * (y2 + x2) % edP
  let c := t1 * 2 * edD * t2 % edP
  let d := z1 * 2 * z2 % edP
  let e := edSub b a
  let f := edSub d c
  let g := (d + c) % edP
  let h := (b + a) % edP
  (e * f % edP, g * h % edP, f * g % edP, e * h % edP)

/-- k times a point, k below 2^n, from the top bit down. -/
def edMul (k : Nat) (p : EdPoint) : Nat → EdPoint → EdPoint
  | 0, acc => acc
  | n + 1, acc =>
    let dbl := edAdd acc acc
    edMul k p n (if k.testBit n then edAdd dbl p else dbl)

/-- The two projective points are one. -/
def edSame (p q : EdPoint) : Bool :=
  let (x1, y1, z1, _) := p
  let (x2, y2, z2, _) := q
  (x1 * z2 % edP == x2 * z1 % edP) && (y1 * z2 % edP == y2 * z1 % edP)

/-- The point that 32 bytes encode, if they encode one. -/
def edDecode (b : Bytes) : Option EdPoint :=
  let v := leVal b
  let y := v % 2 ^ 255
  let odd := v / 2 ^ 255
  if b.length ≠ 32 ∨ edP ≤ y then none
  else
    let u := edSub (y * y % edP) 1
    let w := (edD * (y * y % edP) + 1) % edP
    let x2 := u * edPow w (edP - 2) % edP
    let r := edPow x2 ((edP + 3) / 8)
    let x := if r * r % edP = x2 then some r
      else if r * r % edP = edSub 0 x2 then some (r * edI % edP) else none
    match x with
    | none => none
    | some x =>
      if x = 0 ∧ odd = 1 then none
      else
        let x := if x % 2 = odd then x else edSub 0 x
        some (x, y, 1, x * y % edP)

/-- The base point, which encodes as y = 4/5 with an even x. -/
def edBase : Option EdPoint := edDecode (toLe 32 (4 * edPow 5 (edP - 2) % edP))

/-- Ed25519 verification: public key, message, signature of 64 bytes. -/
def ed25519Ok (key msg sig : Bytes) : Bool :=
  match edBase, edDecode key, edDecode (sig.take 32) with
  | some b, some a, some r =>
    let s := leVal (sig.drop 32)
    let k := leVal (sha512 (sig.take 32 ++ key ++ msg)) % edL
    decide (sig.length = 64) && decide (s < edL) &&
      edSame (edMul s b 256 edZero) (edAdd r (edMul k a 256 edZero))
  | _, _, _ => false

end Sys2Proof.Machine
end

