-- ==== Sys2Proof/Machine/Security.lean ====
section
/-! DEFINITION. Memory errors, the secure bank, tamper and enrolment (chapter 17). -/

namespace Sys2Proof.Machine

/-- One of the four counters of 0x0100_0041 (R542). -/
def secCount (s : State) (i : Nat) : State := { s with sec := { s.sec with counters := bump s.sec.counters i } }

/-- A wipe of bank 47 (R538) with its LAST_WIPE code: every session ends, region requests that are ACCEPTED are
CANCELLED. -/
def wipeBank (s : State) (cause : Nat) : State :=
  let s := endSessions { s with sec := { s.sec with loaded := false, lastWipe := cause } } fun _ _ => true
  s.tickets.foldl (fun s e => if e.2.status = 1 then ticketEnd s e.1 6 0 else s) s

/-- Bank as an argument of EV240 and EV241: the number of an SRAM bank; the code of DRAM is not stated. -/
def bankArg (bank : Nat) : W32 := if bank < 48 then w32 bank else Config.argCode 240 48

/-! ### Errors in memory (R532, R533) -/

/-- One correction of a single-bit error: counted, and EV240 when the bank has had none for 8,000 ticks. -/
def correctBit (bank : Nat) (s : State) (word : Nat) : State :=
  let s := secCount s (if bank < 48 then 0 else 1)
  let s := { s with sec := { s.sec with
    corrections := tset s.sec.corrections bank (satAdd 32 (tget 0 s.sec.corrections bank) 1) } }
  match tfind s.sec.lastEv240 bank with
  | some t =>
    if s.time.tick < t + 8000 then s
    else raise { s with sec := { s.sec with lastEv240 := tset s.sec.lastEv240 bank s.time.tick } } 240 [bankArg bank, w32 word]
  | none => raise { s with sec := { s.sec with lastEv240 := tset s.sec.lastEv240 bank s.time.tick } } 240 [bankArg bank, w32 word]

/-- SINGLE_BIT_CORRECTION (R532). -/
def execSingleBitCorrection (bank word at_ : Nat) (s : State) : Host.Outcome State Fault Refusal :=
  .next (if s.md.powered && decide (bank ≤ 48) then correctBit bank (setPhase s at_) word else s)

/-- SCRUB_PASS (R533): a whole pass over a bank; the errors that it found follow R532. -/
def execScrubPass (bank : Nat) (corrected : List Nat) (at_ : Nat) (s : State) : Host.Outcome State Fault Refusal :=
  .next <|
    if s.md.powered && decide (bank ≤ 48) then
      let s := corrected.foldl (correctBit bank) (setPhase s at_)
      { s with sec := { s.sec with scrubbed := tset s.sec.scrubbed bank s.time.tick } }
    else s

/-- An environmental wipe (R538, Table 17.5): counted, EV243; the identity key waits for its reload. -/
def envWipe (s : State) (cause : Nat) : State :=
  let s := raise (secCount s 2) 243 [w32 cause]
  let s := wipeBank s cause
  { s with sec := { s.sec with envFrom := some s.time.tick } }

/-- ENVIRONMENTAL_WIPE (R538, R539): the sensors act while the logic supply is in range. -/
def execEnvironmentalWipe (cause at_ : Nat) (s : State) : Host.Outcome State Fault Refusal :=
  .next (if s.md.powered && decide (4 ≤ cause ∧ cause ≤ 7) then envWipe (setPhase s at_) cause else s)

/-- UNCORRECTABLE_ECC_ERROR (R532): EV241 and abdication cause 2; in bank 47 an environmental wipe. -/
def execUncorrectableEccError (bank word at_ : Nat) (s : State) : Host.Outcome State Fault Refusal :=
  .next <|
    if !s.md.powered || decide (48 < bank) then s
    else
      let s := setPhase s at_
      if bank = 47 then envWipe s 7
      else abdicate (raise s 241 [bankArg bank, w32 word]) 2

/-- IDENTITY_KEY_RELOAD (R538): the condition has been absent for 8,000 ticks; EV244. -/
def execIdentityKeyReload (at_ : Nat) (s : State) : Host.Outcome State Fault Refusal :=
  .next <|
    match s.sec.envFrom with
    | some t =>
      if s.md.powered && decide (t + 8000 ≤ s.time.tick) then
        raise { setPhase s at_ with
          sec := { s.sec with envFrom := none, loaded := !s.sec.identity.isEmpty } } 244
      else s
    | none => s

/-- The effects of an intrusion (R538): bank 47 wiped, identity key, image-signer keys and vessel authorities erased, the
intrusion latch set. -/
def intrude (s : State) (mesh : Bool) : State :=
  let s := { s with sec := { s.sec with identity := [], signers := [], authorities := [], intruded := true } }
  wipeBank s (if mesh then 3 else 2)

/-- Arguments of EV242: lid or mesh, powered or not (no coding is stated). -/
def intrusionArgs (mesh powered : Bool) : List W32 :=
  [Config.argCode 242 (if mesh then 1 else 0), Config.argCode 242 (if powered then 3 else 2)]

/-- INTRUSION (R538, R539): at once with power; without, at the next power-on. -/
def execIntrusion (mesh : Bool) (at_ : Nat) (s : State) : Host.Outcome State Fault Refusal :=
  .next <|
    if s.md.powered then
      let s := intrude (setPhase s at_) mesh
      if s.ev.running then raise s 242 (intrusionArgs mesh true)
      else { s with sec := { s.sec with ev242Due := s.sec.ev242Due ++ [(mesh, true)] } }
    else { s with sec := { s.sec with unpowered := some (s.sec.unpowered.getD mesh) } }

/-! ### Enrolment (R540, R541) -/

/-- Image-signer keys enrolled. -/
def signersIn (s : State) : List (Nat × SignerSt) := s.sec.signers.filter fun e => !e.2.key.all (· == 0)

/-- Vessel authorities enrolled. -/
def authoritiesIn (s : State) : List (Nat × Bytes) := s.sec.authorities.filter fun e => !e.2.isEmpty

/-- A key of an image-signer write (Table 17.7); an empty slot when all 0. -/
def signerOf (d : Bytes) : SignerSt := ⟨BitVec.ofNat 64 (le d 0 8), slice d 8 32⟩

/-- The store after an enrolment. -/
def enrolled (s : State) (signer : Bool) (slot : Nat) (d : Bytes) : State :=
  let ks := if (slice d 8 32).all (· == 0) then tdel s.sec.signers slot else tset s.sec.signers slot (signerOf d)
  let cs := if d.isEmpty then tdel s.sec.authorities slot else tset s.sec.authorities slot d
  if signer then { s with sec := { s.sec with signers := ks } } else { s with sec := { s.sec with authorities := cs } }

/-- The endorsement of an image-signer write is valid: by a key already enrolled, over bytes 0x00 to 0x2F and the slot
number (one byte, PRESUMED). -/
def endorsed (s : State) (slot : Nat) (d : Bytes) : Bool :=
  (signersIn s).any fun e => e.2.id == BitVec.ofNat 64 (le d 0x30 8) &&
    ed25519Ok e.2.key (slice d 0 0x30 ++ toLe 1 slot) (slice d 0x38 64)

/-- The code with which an enrolment write is refused; none when it is accepted (R541). -/
def enrolRefusal (s : State) (r : Req) (signer : Bool) (slot : Nat) (d : Bytes) : Option Nat :=
  let x := sess s r.session
  if x.role || !(List.contains [Mode.load, .stop, .sync, .track] s.md.mode) || !(s.sec.life == 1 || s.sec.life == 2) then some rfMode
  else if s.sec.enrol.isSome then some rfBusy
  else if signer && (d.length != 120 || decide (2 ≤ le d 0x28 4) || !zeroAt d 0x2C 4) then some rfRange
  else if !signer && decide (2048 < d.length) then some rfRange
  else if s.sec.life = 1 then
    if signer && !zeroAt d 0x30 72 then some rfRange else none
  else if signer && !endorsed s slot d then some rfAccess
  else if !signer && !(x.authority.elim false fun a => (authoritiesIn s).any fun e => e.1 == a) then some rfAccess
  else
    let s' := enrolled s signer slot d
    if (signersIn s').isEmpty || (authoritiesIn s').isEmpty then some rfRange else none

/-- An enrolment write (R541). -/
def hostEnrol (r : Req) (obj : W32) (signer : Bool) (slot : Nat) (d : Bytes) (s : State) : State :=
  hostCommand s r obj fun s =>
    if 3 < slot then refuse s r obj rfObject
    else match enrolRefusal s r signer slot d with
      | some c => refuse s r obj c
      | none =>
        let s := reply s r obj stAccepted
        { s with sec := { s.sec with enrol := some ⟨originOf s r, signer, slot, d, s.time.tick + 240000⟩ } }

/-- SIGNER_ENROL (R540, R541). -/
def execSignerEnrol (r : Req) (slot : Nat) (data : Bytes) (s : State) : Host.Outcome State Fault Refusal :=
  .next (hostEnrol r (w32 (0x01100030 + slot)) true slot data s)

/-- AUTHORITY_ENROL (R540, R541). -/
def execAuthorityEnrol (r : Req) (slot : Nat) (cert : Bytes) (s : State) : Host.Outcome State Fault Refusal :=
  .next (hostEnrol r (w32 (0xC0030010 + slot)) false slot cert s)

/-- The life-cycle state changes (R535, R538): EV247, and bank 47 is wiped. -/
def lifeChange (s : State) (n : Nat) : State :=
  let s := raise { s with sec := { s.sec with life := n } } 247 [w32 s.sec.life, w32 n]
  wipeBank s 1

/-- An acknowledge-class press completes the outstanding enrolment (R541): EV245, DONE, and FIELD once a key and an
authority are enrolled. -/
def confirmEnrol (s : State) : State :=
  match s.sec.enrol with
  | none => s
  | some e =>
    if e.deadline < s.time.tick then s
    else
      let s := enrolled { s with sec := { s.sec with enrol := none } } e.signer e.slot e.data
      let tag := if e.signer then w64 (le e.data 0 8) else
        (List.range 3).map fun i => w32 (le (sha384 e.data) (4 * i) 4)
      let s := raise (secCount s 3) 245 (w32 e.slot :: tag)
      let s := complete s e.origin stDone
      if s.sec.life = 1 ∧ !(signersIn s).isEmpty ∧ !(authoritiesIn s).isEmpty then lifeChange s 2 else s

/-- ENROLMENT_TIMEOUT (R541): no press within 240,000 ticks; REFUSED_ACCESS and EV246. -/
def execEnrolmentTimeout (s : State) : Host.Outcome State Fault Refusal :=
  .next <|
    match s.sec.enrol with
    | none => s
    | some e =>
      if s.time.tick ≤ e.deadline then s
      else raise (complete { s with sec := { s.sec with enrol := none } } e.origin rfAccess) 246 [w32 e.slot]

end Sys2Proof.Machine
end

