-- ==== Sys2Proof/Machine/RecordsSolver.lean ====
section
/-! DEFINITION. Typed views and owner rules of the solver records (R270 to R276, R269, R271). -/

namespace Sys2Proof.Machine

/-- A solver context header (Table 08.3). -/
structure SolverDef where
  cls : Nat
  form : Nat
  home : Nat
  n : Nat
  nEq : Nat
  nIneq : Nat
  nRes : Nat
  period : Nat
  offset : Nat
  band : Nat
  changeCap : Nat
  heldLimit : Nat
  recover : Nat
  rank : Nat
  fbBrick : Nat
  fbOffset : Nat
  cost : List Nat
  nTags : Nat
  nTerms : Nat
  epsAbs : F64
  epsRel : F64
  pivotExp : Nat
  deriving DecidableEq, Repr

def solverOf (p : Bytes) : SolverDef :=
  ⟨le p 1 1, le p 2 1, le p 3 1, le p 4 2, le p 6 2, le p 8 2, le p 0x0A 2, le p 0x0C 2, le p 0x0E 2, le p 0x10 2,
    le p 0x12 2, le p 0x14 1, le p 0x15 1, le p 0x16 1, le p 0x18 2, le p 0x1C 4,
    [le p 0x20 4, le p 0x24 4, le p 0x28 4], le p 0x2C 2, le p 0x30 4, leF64 p 0x38, leF64 p 0x40, le p 0x48 2⟩

/-- Constraint rows of a context (R267). -/
def SolverDef.rows (d : SolverDef) : Nat := d.nEq + d.nIneq

/-- The payload of context c, if it is configured (R270). -/
def solverRec (img : Image) (c : Nat) : Option Bytes := if c < 64 then recOf img 0x30 c else none

/-- The header of context c. -/
def solverDef (img : Image) (c : Nat) : Option SolverDef := (solverRec img c).map solverOf

/-- Every configured context with its number. -/
def solverDefs (img : Image) : List (Nat × SolverDef) :=
  ((recsOf img 0x30).filter fun e => decide (e.1 < 64)).map fun e => (e.1, solverOf e.2)

/-- N_VAR and N_ROWS of a context's publication (R282). -/
def pubSize (img : Image) (c : Nat) : Option (Nat × Nat) := (solverDef img c).map fun d => (d.n, d.rows)

/-! ### Sections of the record (R270) -/

def secCtag (d : SolverDef) : Nat := 80 + 2 * d.n
def secTags (d : SolverDef) : Nat := (80 + 2 * d.n + 2 * d.rows + 7) / 8 * 8
def secTerms (d : SolverDef) : Nat := secTags d + 8 * d.nTags
def secXinit (d : SolverDef) : Nat := secTerms d + 24 * d.nTerms

/-- Structure tags of the variables and of the rows. -/
def vtags (d : SolverDef) (p : Bytes) : List Nat := (List.range d.n).map fun i => le p (80 + 2 * i) 2
def ctags (d : SolverDef) (p : Bytes) : List Nat := (List.range d.rows).map fun i => le p (secCtag d + 2 * i) 2

/-- Source word and REQUIRED of every tag (Table 08.4). -/
def solverTags (d : SolverDef) (p : Bytes) : List (Nat × Bool) :=
  (List.range d.nTags).map fun i => (le p (secTags d + 8 * i) 4, (le p (secTags d + 8 * i + 4) 1).testBit 0)

/-- XINIT. -/
def xinit (d : SolverDef) (p : Bytes) : List F64 := (List.range d.n).map fun i => leF64 p (secXinit d + 8 * i)

/-- A template term (Table 08.5). -/
structure Term where
  target : Nat
  f1 : Nat
  f2 : Nat
  row : Nat
  col : Nat
  i1 : Nat
  i2 : Nat
  arg : Nat
  coef : F64
  deriving DecidableEq, Repr

def termAt (p : Bytes) (o : Nat) : Term :=
  ⟨le p o 1, le p (o + 1) 1, le p (o + 2) 1, le p (o + 4) 2, le p (o + 6) 2, le p (o + 8) 2, le p (o + 0x0A) 2,
    le p (o + 0x0C) 2, leF64 p (o + 0x10)⟩

/-- Every term of a context. -/
def solverTerms (d : SolverDef) (p : Bytes) : List Term :=
  (List.range d.nTerms).map fun i => termAt p (secTerms d + 24 * i)

/-! ### Model parameters and curves (Tables 08.6 and 08.7) -/

def mpCount (p : Bytes) : Nat := le p 0 2
def mpCourseFrom (p : Bytes) : Nat := le p 2 2
def mpCurves (p : Bytes) : Nat := le p 4 2
def mpParams (p : Bytes) : List F64 := (List.range (mpCount p)).map fun i => leF64 p (8 + 8 * i)

/-- The n curves from the front of a byte list, and what follows them. -/
def curvesAt : Nat → Bytes → List Bytes × Bytes
  | 0, b => ([], b)
  | n + 1, b =>
    let k := 24 + 8 * le b 0 2
    let r := curvesAt n (b.drop k)
    (b.take k :: r.1, r.2)

/-- The curves of a payload of Table 08.6. -/
def mpCurveList (p : Bytes) : List Bytes := (curvesAt (mpCurves p) (p.drop (8 + 8 * mpCount p))).1

/-- The payload without a record: no parameters and no curves. -/
def noParams : Bytes := [0, 0, 0, 0, 0, 0, 0, 0]

/-- The model parameter payload of context c in the image (R274). -/
def modelParams (img : Image) (c : Nat) : Bytes := (recOf img 0x31 c).getD noParams

/-- Rules of one curve (Table 08.7). -/
def curveOk (b : Bytes) : Bool :=
  let n := le b 0 2
  decide (2 ≤ n ∧ n ≤ 256 ∧ b.length = 24 + 8 * n) && zeroAt b 2 6 && fIsFinite (leF64 b 8) && fIsFinite (leF64 b 0x10)
    && fLt (leF64 b 8) (leF64 b 0x10) && (List.range n).all fun i => fIsFinite (leF64 b (0x18 + 8 * i))

/-- Rules of a payload of Table 08.6. -/
def modelParamsOk (p : Bytes) : Bool :=
  let r := curvesAt (mpCurves p) (p.drop (8 + 8 * mpCount p))
  decide (8 ≤ p.length ∧ mpCount p ≤ 4096 ∧ mpCourseFrom p ≤ mpCount p ∧ mpCurves p ≤ 256
    ∧ 8 + 8 * mpCount p ≤ p.length) && zeroAt p 6 2 && (mpParams p).all fIsFinite && r.1.all curveOk && r.2.isEmpty

/-! ### Units (R271, R287, Table 08.2) -/

/-- GANG_LAYOUT (R271). -/
def gangLayout (img : Image) : Nat := ((recOf img 0x30 0x100).map fun p => le p 1 1).getD 0

/-- Units of a layout: lowest tile and number of tiles. -/
def unitsOf (layout : Nat) : List (Nat × Nat) :=
  match layout with
  | 1 => [(0, 2), (2, 1), (3, 1)]
  | 2 => [(0, 2), (2, 2)]
  | 3 => [(0, 4)]
  | _ => [(0, 1), (1, 1), (2, 1), (3, 1)]

/-- A problem's size is within the limits of a unit of g tiles (Table 08.2). -/
def sizeFits (d : SolverDef) (g : Nat) : Bool :=
  decide (1 ≤ d.n ∧ d.n ≤ 256 * g ∧ d.rows ≤ 512 * g ∧ d.nRes ≤ 512 * g)

/-- C_WCg of a context on a unit of g tiles. -/
def costOn (d : SolverDef) (g : Nat) : Nat := d.cost.getD (if g = 1 then 0 else if g = 2 then 1 else 2) 0

/-- KKT order N of Table 08.11. -/
def kktOrder (d : SolverDef) : Nat := d.n + min d.rows d.n

/-! ### Owner rules of the context record -/

/-- A term within the dimensions (R273). -/
def termOk (d : SolverDef) (np nc : Nat) (p : Bytes) (o : Nat) : Bool :=
  let t := termAt p o
  let inRow (k : Nat) := decide (t.row < k)
  let idx (kind i : Nat) := if kind = 0 then true else if kind = 1 then decide (i < np) else if kind = 2 then decide (i < d.nTags)
    else decide (i < nc)
  decide (t.target ≤ 10 ∧ t.f1 ≤ 3 ∧ t.f2 ≤ 2) && zeroAt p (o + 3) 1 && zeroAt p (o + 0x0E) 2 && fIsFinite t.coef
    && idx t.f1 t.i1 && idx t.f2 t.i2
    && decide (t.arg / 2 ^ 12 % 8 = 0)
    && (if t.f1 = 3 then (if t.arg.testBit 15 then decide (t.arg % 4096 < np) else decide (t.arg % 4096 < d.nTags)) else true)
    && (match t.target with
      | 0 => decide (t.row ≤ t.col ∧ t.col < d.n)
      | 1 | 6 | 7 => inRow d.n && t.col == 0
      | 2 => inRow d.nEq && decide (t.col < d.n)
      | 3 => inRow d.nEq && t.col == 0
      | 4 => inRow d.nIneq && decide (t.col < d.n)
      | 5 => inRow d.nIneq && t.col == 0
      | 8 => d.form == 1 && inRow d.nRes && decide (t.col < d.n)
      | _ => d.form == 1 && inRow d.nRes && t.col == 0)

/-- The record of a solver context by itself (R270 to R273, R269; the numeric ranges are those of Table 09.1). -/
def solverRecOk (p : Bytes) (numericOk : SolverDef → Bool) : Bool :=
  let d := solverOf p
  le p 0 1 == 1 && decide (d.cls ≤ 3) && decide (d.form ≤ 1) && (d.cls == 3 || (d.cls == 2) == (d.form == 1))
    && (if d.form = 1 then decide (1 ≤ d.nRes) else d.nRes == 0)
    && decide (8 ≤ d.period ∧ d.period ≤ 8192 ∧ d.offset < d.period)
    && (if d.cls = 0 then decide (1 ≤ d.band ∧ d.band < kktOrder d) else d.band == 0)
    && decide (1 ≤ d.changeCap ∧ d.changeCap ≤ 256 ∧ 1 ≤ d.heldLimit ∧ 1 ≤ d.recover)
    && zeroAt p 0x17 1 && zeroAt p 0x1A 2 && zeroAt p 0x2E 2 && zeroAt p 0x34 4 && zeroAt p 0x4A 6
    && decide (d.nTags ≤ 1024 ∧ 1 ≤ d.nTerms ∧ d.nTerms ≤ 4194304)
    && decide (p.length = secXinit d + 8 * d.n) && zeroAt p (secCtag d + 2 * d.rows) (secTags d - (secCtag d + 2 * d.rows))
    && sizeFits d 4 && numericOk d
    && (List.range d.nTags).all (fun i =>
      let o := secTags d + 8 * i
      decide (1 ≤ srcKind (le p o 4)) && srcBits (le p o 4) && decide (le p (o + 4) 1 ≤ 1) && zeroAt p (o + 5) 3)
    && (List.range d.nTerms).all (fun i => termOk d (2 ^ 32) (2 ^ 32) p (secTerms d + 24 * i))

/-- Rules that relate the record of context c to its parameters, the layout and what its tags name (R271, R272, R273). -/
def solverCrossOk (img : Image) (c : Nat) (p : Bytes) : Bool :=
  let d := solverOf p
  let np := mpCount (modelParams img c)
  let nc := mpCurves (modelParams img c)
  let g := ((unitsOf (gangLayout img)).find? fun u => u.1 == d.home).map (·.2)
  g.elim false (fun g => sizeFits d g && costOn d g != 0)
    && (List.range d.nTags).all (fun i => srcOk img (pubSize img) (le p (secTags d + 8 * i) 4))
    && (List.range d.nTerms).all (fun i => termOk d np nc p (secTerms d + 24 * i))

/-- The layout record (R271). -/
def layoutOk (p : Bytes) : Bool := decide (p.length = 8 ∧ le p 0 1 = 2 ∧ le p 1 1 ≤ 3) && zeroAt p 2 6

/-- The tags of all contexts together are at most 4,096 (R272). -/
def tagsFit (img : Image) : Bool := decide ((solverDefs img).foldl (fun n e => n + e.2.nTags) 0 ≤ 4096)

end Sys2Proof.Machine
end

