-- ==== Sys2Proof/Machine/SolverNum.lean ====
section
/-! DEFINITION. The numerics of a solver job (chapter 09): exact accumulation, assembly, the factor of the KKT matrix,
refinement, the active-set method, the outcome, and warm starts. -/

namespace Sys2Proof.Machine

/-! ### The long accumulator (R306) -/

/-- A finite binary64 as a multiple of 2^−1074. -/
def fxInt (x : F64) : Int :=
  match fv x with
  | .fin neg m e => sgnInt neg m * 2 ^ (e + 1074).toNat
  | _ => 0

/-- The sum of products and of single terms, exact, rounded once. -/
def exactSum (ps : List (F64 × F64)) (qs : List F64) : F64 :=
  if ps.all (fun e => fIsFinite e.1 && fIsFinite e.2) && qs.all fIsFinite then
    fScaled (ps.foldl (fun a e => a + fxInt e.1 * fxInt e.2) 0 + qs.foldl (fun a q => a + fxInt q * 2 ^ 1074) 0) (-2148)
  else fNaN

/-- The dot product of two lists, exact, with further terms. -/
def exactDot (a b : List F64) (qs : List F64 := []) : F64 := exactSum (a.zip b) qs

def negs (l : List F64) : List F64 := l.map fNeg

/-- Largest magnitude of a list; 0 for none. -/
def maxAbs (l : List F64) : F64 := l.foldl (fun a b => if fLt a (fAbs b) || fIsNaN b then fAbs b else a) 0

/-- ‖r‖∞ ≤ τ, false for a list with a NaN. -/
def within (l : List F64) (tau : F64) : Bool := l.all fun v => fLe (fAbs v) tau

/-- 2^k as binary64. -/
def fPow2 (k : Int) : F64 := fScaled 1 k

/-! ### Curves and assembly (R275, R280, R281) -/

/-- A curve's value and whether its argument was clamped (R275). -/
def curveValue (b : Bytes) (x : F64) : F64 × Bool :=
  let n := le b 0 2
  let lo := leF64 b 8
  let hi := leF64 b 0x10
  let q := fDiv (fSub (fClamp lo hi x) lo) (fDiv (fSub hi lo) (fOfInt (n - 1)))
  let i := min (fFloor q).toNat (n - 2)
  let y (k : Nat) : F64 := leF64 b (0x18 + 8 * k)
  (fFma (fSub q (fOfInt i)) (fSub (y (i + 1)) (y i)) (y i), fLt x lo || fLt hi x)

/-- What a job assembles from: the snapshot's values. -/
structure AsmIn where
  tags : List F64
  params : List F64
  curves : List Bytes
  deriving DecidableEq, Repr

/-- Argument of a curve in a term (Table 08.5). -/
def curveArg (a : AsmIn) (t : Term) : F64 :=
  if t.arg.testBit 15 then a.params.getD (t.arg % 4096) 0 else a.tags.getD (t.arg % 4096) 0

/-- The factors of a term: none for the factor 1. -/
def factorOne (a : AsmIn) (t : Term) : Option F64 :=
  match t.f1 with
  | 1 => some (a.params.getD t.i1 0)
  | 2 => some (a.tags.getD t.i1 0)
  | 3 => some (curveValue (a.curves.getD t.i1 []) (curveArg a t)).1
  | _ => none

def factorTwo (a : AsmIn) (t : Term) : Option F64 :=
  match t.f2 with
  | 1 => some (a.params.getD t.i2 0)
  | 2 => some (a.tags.getD t.i2 0)
  | _ => none

/-- The two factors whose exact product is the value of a term (R280). -/
def termValue (a : AsmIn) (t : Term) : F64 × F64 :=
  match factorOne a t, factorTwo a t with
  | none, none => (t.coef, fOfInt 1)
  | some g, none => (t.coef, g)
  | none, some g => (t.coef, g)
  | some g, some k => (t.coef, fMul g k)

/-- Number of an entry: TARGET, ROW, COL. -/
def entryKey (target row col : Nat) : Nat := target * 2 ^ 32 + row * 2 ^ 16 + col

/-- The exact sums of all entries that have terms, as multiples of 2^−2148; none for a sum with a term that is not
finite. -/
def assemble (a : AsmIn) (ts : List Term) : Tab (Option Int) :=
  ts.foldl (fun tab t =>
    let k := entryKey t.target t.row t.col
    let (x, y) := termValue a t
    let v : Option Int := if fIsFinite x && fIsFinite y then some (fxInt x * fxInt y) else none
    let old := tget (some 0) tab k
    tset tab k (match old, v with
      | some p, some q => some (p + q)
      | _, _ => none)) []

/-- An entry, rounded once; its default without terms. -/
def entryVal (tab : Tab (Option Int)) (k : Nat) (dflt : F64) : F64 :=
  match tfind tab k with
  | none => dflt
  | some none => fNaN
  | some (some v) => fScaled v (-2148)

/-- The first entry that is not finite, or the first weight that is not above 0 (R281). -/
def assemblyFault (d : SolverDef) (tab : Tab (Option Int)) : Option Nat :=
  (tab.find? fun e =>
    let v := entryVal tab e.1 0
    !fIsFinite v || (e.1 / 2 ^ 32 == 10 && d.form == 1 && fLe v 0)).map (·.1)

/-- An assembled problem, as a QP (R267, R307). `f0` is the assembled f, without the least-squares part. -/
structure Prob where
  n : Nat
  nEq : Nat
  h : List (List F64)
  f : List F64
  f0 : List F64
  /-- rows: equality rows, then inequality rows, with right-hand sides -/
  a : List (List F64)
  b : List F64
  lo : List F64
  hi : List F64
  c : List (List F64)
  d : List F64
  w : List F64
  deriving DecidableEq, Repr

/-- The problem of a frame from its assembled entries. -/
def problemOf (d : SolverDef) (tab : Tab (Option Int)) : Prob :=
  let n := d.n
  let vec (target k : Nat) (dflt : F64) := (List.range k).map fun i => entryVal tab (entryKey target i 0) dflt
  let mat (target rows : Nat) := (List.range rows).map fun i => (List.range n).map fun j => entryVal tab (entryKey target i j) 0
  let c := mat 8 d.nRes
  let dv := vec 9 d.nRes 0
  let w := vec 10 d.nRes (fOfInt 1)
  let wc := (w.zip c).map fun e => e.2.map (fMul e.1)
  let col (m : List (List F64)) (j : Nat) := m.map fun r => r.getD j 0
  let h := if d.form = 1 then
      (List.range n).map fun j => (List.range n).map fun k =>
        if j ≤ k then exactDot (col wc j) (col c k) else exactDot (col wc k) (col c j)
    else (List.range n).map fun j => (List.range n).map fun k => entryVal tab (entryKey 0 (min j k) (max j k)) 0
  let f0 := vec 1 n 0
  let f := if d.form = 1 then
      (List.range n).map fun j =>
        match tget (some 0) tab (entryKey 1 j 0) with
        | some v => fScaled (v - ((col wc j).zip dv).foldl (fun a e => a + fxInt e.1 * fxInt e.2) 0) (-2148)
        | none => fNaN
    else f0
  ⟨n, d.nEq, h, f, f0, mat 2 d.nEq ++ mat 4 d.nIneq, vec 3 d.nEq 0 ++ vec 5 d.nIneq 0,
    vec 6 n (fInf true), vec 7 n (fInf false), c, dv, w⟩

/-- ν and τ (R305). -/
def probNu (p : Prob) : F64 := maxAbs (p.f ++ p.b ++ (p.lo ++ p.hi).filter fIsFinite)
def probTau (d : SolverDef) (p : Prob) : F64 := fFma d.epsRel (probNu p) d.epsAbs

/-! ### Candidates (R316, R317) -/

/-- Violation of a candidate side at x: positive when violated; none for an infinite bound. Candidates are numbered as
R316 says; `up` distinguishes the two bounds of a variable. -/
def violation (p : Prob) (x : List F64) (c : Nat) (up : Bool) : Option F64 :=
  if c < p.n then
    let v := x.getD c 0
    let bd := if up then p.hi.getD c 0 else p.lo.getD c 0
    if fIsFinite bd then some (if up then fSub v bd else fSub bd v) else none
  else
    let r := p.nEq + (c - p.n)
    some (exactDot (p.a.getD r []) x [fNeg (p.b.getD r 0)])

/-- Every candidate side, in the order of R316. -/
def candidates (p : Prob) : List (Nat × Bool) :=
  (List.range p.n).flatMap (fun j => [(j, false), (j, true)]) ++
    (List.range (p.a.length - p.nEq)).map fun i => (p.n + i, true)

/-- Largest candidate violation at x; 0 when none is violated. -/
def maxViolation (p : Prob) (x : List F64) : F64 :=
  (candidates p).foldl (fun a c => (violation p x c.1 c.2).elim a fun v => if fLt a v || fIsNaN v then v else a) 0

/-- Residuals of the equality rows at x. -/
def eqResiduals (p : Prob) (x : List F64) : List F64 :=
  ((p.a.zip p.b).take p.nEq).map fun e => exactDot e.1 x [fNeg e.2]

/-- The variable's bounds are equal: it is fixed for the whole job (R317). -/
def boundsEqual (p : Prob) (j : Nat) : Bool := fEq (p.lo.getD j 0) (p.hi.getD j 1)

/-! ### The factor (R308 to R313) -/

/-- Number of the element of constraint row i. -/
def rowElem (i : Nat) : Nat := 0x1000 + i

/-- Entry of the KKT matrix between two elements. -/
def kEntry (p : Prob) (e g : Nat) : F64 :=
  if e < 0x1000 then
    (if g < 0x1000 then (p.h.getD e []).getD g 0 else (p.a.getD (g - 0x1000) []).getD e 0)
  else if g < 0x1000 then (p.a.getD (e - 0x1000) []).getD g 0 else 0

/-- A factor L·D·Lᵀ in its order, with the pivots that were replaced. -/
structure Fac where
  order : List Nat := []
  l : List (List F64) := []
  d : List F64 := []
  rep : List Bool := []
  deriving DecidableEq, Repr

/-- What bordering one element gives: the factor, whether its pivot was replaced, and an abort: its position of occurrence
and its cause (1 overflow, 2 wrong sign). -/
structure Border where
  fac : Fac
  replaced : Bool
  aborts : List (Nat × Nat)
  deriving DecidableEq, Repr

/-- 2^512. -/
def big512 : F64 := fPow2 512

/-- One new row at the end of the factor order (R309, R313). `reg` is ρ when the retry is in force, else 0. -/
def border (p : Prob) (scale tiny reg : F64) (fc : Fac) (e : Nat) : Border :=
  let us := (fc.order.zip (fc.l.zip fc.d)).foldl (fun (acc : List F64 × List F64) q =>
      let u := exactDot (negs acc.1) q.2.1 [kEntry p e q.1]
      (acc.1 ++ [u], acc.2 ++ [fDiv u q.2.2])) ([], [])
  let isVar := decide (e < 0x1000)
  let dv := exactDot (negs us.1) us.2 [kEntry p e e, if isVar then reg else fNeg reg]
  let wrong := (if isVar then fLt dv 0 else fLt 0 dv) && fLe tiny (fAbs dv)
  let small := fLt (fAbs dv) tiny
  let delta := fMul (fPow2 (-26)) scale
  let dv := if small then (if isVar then delta else fNeg delta) else dv
  let big := ((List.range us.1.length).filter fun j =>
    fLt big512 (fAbs (us.1.getD j 0)) || fLt big512 (fAbs (us.2.getD j 0))).map fun j => (2 * j + 1, 1)
  ⟨⟨fc.order ++ [e], fc.l ++ [us.2], fc.d ++ [dv], fc.rep ++ [small]⟩, small,
    big ++ (if wrong then [(2 * fc.order.length, 2)] else [])⟩

/-- The job's factor and what it has counted. -/
structure FacSt where
  fac : Fac := {}
  reg : Bool := false
  /-- 0 none, 1 after overflow, 2 after wrong sign -/
  retry : Nat := 0
  replaced : Nat := 0
  first : Option Nat := none
  /-- cause of an abort that no retry has met -/
  dead : Option Nat := none
  deriving DecidableEq, Repr

/-- The earliest abort in the order of R309: its place and its cause. -/
def firstAbort (l : List (Nat × Nat)) : Option (Nat × Nat) :=
  l.foldl (fun (m : Option (Nat × Nat)) e =>
    match m with
    | none => some e
    | some q => if e.1 < q.1 then some e else some q) none

/-- Free variables of a working set. -/
def freeVars (p : Prob) (w : List (Nat × Bool)) : List Nat :=
  (List.range p.n).filter fun j => !boundsEqual p j && !w.any fun c => c.1 == j

/-- scale of a working set's K (R309). -/
def kScale (p : Prob) (w : List (Nat × Bool)) : F64 :=
  let m := maxAbs ((freeVars p w).map fun j => kEntry p j j)
  if fEq m 0 then fOfInt 1 else m

/-- An ordering of a class D context's elements is a stage ordering (R308): it holds every variable and row once, every row
follows every variable that it names, and the half-bandwidth is at most BAND. `keys`: the entries that the context's terms
name. (Over such an ordering the sums of R309 over the band are the sums over everything: entries outside it are 0.) -/
def stageOk (d : SolverDef) (keys : List Nat) (o : List Nat) : Bool :=
  let all := List.range d.n ++ (List.range d.rows).map rowElem
  let place (e : Nat) : Nat := (o.findIdx? (· == e)).getD 0
  let near (e g : Nat) : Bool := decide (place e ≤ place g + d.band ∧ place g ≤ place e + d.band)
  o.length == all.length && all.all o.contains && keys.all fun k =>
    let (row, col) := (k / 2 ^ 16 % 2 ^ 16, k % 2 ^ 16)
    match k / 2 ^ 32 with
    | 0 => near row col
    | 2 => near (rowElem row) col && decide (place col < place (rowElem row))
    | 4 => near (rowElem (d.nEq + row)) col && decide (place col < place (rowElem (d.nEq + row)))
    | _ => true

/-- Elements of a working set in factor order (R308). -/
def facOrder (p : Prob) (stage : Option (List Nat)) (w : List (Nat × Bool)) : List Nat :=
  let std := freeVars p w ++
    ((List.range p.a.length).filter fun r => decide (r < p.nEq) || w.any fun c => c.1 == p.n + (r - p.nEq)).map rowElem
  match stage with
  | none => std
  | some o => o.filter std.contains ++ std.filter fun e => !o.contains e

/-- Pivot settings of a working set. -/
def facPars (d : SolverDef) (p : Prob) (w : List (Nat × Bool)) (reg : Bool) : F64 × F64 × F64 :=
  let scale := kScale p w
  (scale, fMul (fPow2 (-(d.pivotExp : Int))) scale, if reg then fMul (fPow2 (-26)) scale else 0)

/-- A factor grows by elements at its end, and their pivots and entries are tested (R309 to R311): the factor, the pivots
replaced before the earliest abort, and that abort. A whole factorisation starts from nothing; an addition starts from the
factor as it stands; a removal keeps the leading part and forms the trailing part anew (R313), every entry an exact sum
rounded once (R306, R315). -/
def facGrow (d : SolverDef) (p : Prob) (w : List (Nat × Bool)) (st : FacSt) (lead : Fac) (es : List Nat) : FacSt :=
  let (scale, tiny, reg) := facPars d p w st.reg
  let (fac, aborts) := es.foldl (fun (acc : Fac × List (Nat × Nat)) e =>
      let b := border p scale tiny reg acc.1 e
      (b.fac, acc.2 ++ b.aborts)) (lead, [])
  let stop := firstAbort aborts
  let news := (List.range fac.order.length).filter fun k =>
    decide (lead.order.length ≤ k) && fac.rep.getD k false && stop.elim true fun q => decide (2 * k < q.1)
  let st := { st with
    fac := fac, replaced := st.replaced + news.length
    first := if st.first.isNone then news.head?.map fun k => fac.order.getD k 0 else st.first }
  match stop with
  | none => st
  | some q => { st with dead := some q.2 }

/-- A whole factorisation of the working set's K (R308). -/
def factorAll (d : SolverDef) (p : Prob) (stage : Option (List Nat)) (w : List (Nat × Bool)) (st : FacSt) : FacSt :=
  facGrow d p w st {} (facOrder p stage w)

/-- The retry of R312: at the job's first abort the factor is discarded and the working set's K is factored again with the
regularisation, which stays in force; a second abort ends the job. -/
def afterAbort (d : SolverDef) (p : Prob) (stage : Option (List Nat)) (w : List (Nat × Bool)) (st : FacSt) : FacSt :=
  match st.dead with
  | none => st
  | some c => if st.retry ≠ 0 then st else factorAll d p stage w { st with dead := none, reg := true, retry := c }

/-- A working set's K is factored, with the retry. -/
def facNew (d : SolverDef) (p : Prob) (stage : Option (List Nat)) (w : List (Nat × Bool)) (st : FacSt) : FacSt :=
  afterAbort d p stage w (factorAll d p stage w st)

/-- The factor with one more element at the end of the order (R313). -/
def facAdd (d : SolverDef) (p : Prob) (stage : Option (List Nat)) (w : List (Nat × Bool)) (st : FacSt) (e : Nat) : FacSt :=
  afterAbort d p stage w (facGrow d p w st st.fac [e])

/-- The factor without one element (R313). -/
def facDrop (d : SolverDef) (p : Prob) (stage : Option (List Nat)) (w : List (Nat × Bool)) (st : FacSt) (e : Nat) : FacSt :=
  match st.fac.order.findIdx? (· == e) with
  | none => st
  | some i =>
    let c := st.fac
    let lead : Fac := ⟨c.order.take i, c.l.take i, c.d.take i, c.rep.take i⟩
    afterAbort d p stage w (facGrow d p w st lead (c.order.drop (i + 1)))

/-- Element of a candidate: its variable, or its constraint row. -/
def candElem (p : Prob) (c : Nat) : Nat := if c < p.n then c else rowElem (p.nEq + (c - p.n))

/-- A candidate enters the working set `w`: a bound fixes its variable, a row is added (R313). -/
def facEnter (d : SolverDef) (p : Prob) (stage : Option (List Nat)) (w : List (Nat × Bool)) (st : FacSt) (c : Nat) : FacSt :=
  if c < p.n then facDrop d p stage w st c else facAdd d p stage w st (candElem p c)

/-- A candidate has left the working set `w`: its variable is freed, or its row is dropped (R313). -/
def facLeave (d : SolverDef) (p : Prob) (stage : Option (List Nat)) (w : List (Nat × Bool)) (st : FacSt) (c : Nat) : FacSt :=
  if c < p.n then facAdd d p stage w st c else facDrop d p stage w st (candElem p c)

/-! ### Solving and refinement (R314) -/

/-- Forward substitution, division by D, back substitution. -/
def facSolve (fc : Fac) (rhs : List F64) : List F64 :=
  let y := (fc.l.zip rhs).foldl (fun acc e => acc ++ [exactDot (negs acc) e.1 [e.2]]) []
  let v := (y.zip fc.d).map fun e => fDiv e.1 e.2
  let k := fc.order.length
  (List.range k).foldl (fun (acc : List F64) t =>
    -- acc holds z of the elements behind position i
    let i := k - 1 - t
    let lcol := (List.range t).map fun m => (fc.l.getD (i + 1 + m) []).getD i 0
    exactDot (negs lcol) acc [v.getD i 0] :: acc) []

/-- Value of an element in a solution. -/
def elemVal (fc : Fac) (z : List F64) (e : Nat) : F64 := ((fc.order.zip z).find? fun q => q.1 == e).elim 0 (·.2)

/-- Right-hand side [−f_F; b_W] with the contribution of the fixed variables. -/
def refineRhs (p : Prob) (fc : Fac) (x : List F64) : List F64 :=
  let fixed := (List.range p.n).filter fun j => !fc.order.contains j
  fc.order.map fun e =>
    let ps := fixed.map fun j => (fNeg (kEntry p e j), x.getD j 0)
    exactSum ps [if e < 0x1000 then fNeg (p.f.getD e 0) else p.b.getD (e - 0x1000) 0]

/-- The residual rhs − K·z with the K that was assembled. -/
def kktResidual (p : Prob) (fc : Fac) (rhs z : List F64) : List F64 :=
  (fc.order.zip rhs).map fun e => exactDot (fc.order.map fun g => fNeg (kEntry p e.1 g)) z [e.2]

/-- Refinement: z, the steps made, the final residual, and whether the test was met; `left` steps remain. -/
def refineFrom (p : Prob) (fc : Fac) (rhs : List F64) (tau : F64) : Nat → Nat → List F64 → List F64 × Nat × F64 × Bool
  | left, step, z =>
    let r := kktResidual p fc rhs z
    if within r tau then (z, step, maxAbs r, true)
    else match left with
      | 0 => (z, step, maxAbs r, false)
      | k + 1 => refineFrom p fc rhs tau k (step + 1) ((z.zip (facSolve fc r)).map fun e => fAdd e.1 e.2)

def refine (p : Prob) (fc : Fac) (x : List F64) (tau : F64) : List F64 × Nat × F64 × Bool :=
  let rhs := refineRhs p fc x
  refineFrom p fc rhs tau 3 0 (facSolve fc rhs)

/-! ### Candidates as rows, and steps -/

/-- How the method ends. -/
inductive MethodEnd where
  | optimal
  | capped
  | dead
  | unbounded
  deriving DecidableEq, Repr

/-- Coefficients and right-hand side of a candidate as a·x ≤ b. -/
def candRow (p : Prob) (c : Nat) (up : Bool) : List F64 × F64 :=
  if c < p.n then
    ((List.range p.n).map fun j => if j = c then (if up then fOfInt 1 else fNeg (fOfInt 1)) else 0,
      if up then p.hi.getD c 0 else fNeg (p.lo.getD c 0))
  else (p.a.getD (p.nEq + (c - p.n)) [], p.b.getD (p.nEq + (c - p.n)) 0)

/-- The bound that a candidate of a variable fixes. -/
def boundOf (p : Prob) (c : Nat × Bool) : F64 := if c.2 then p.hi.getD c.1 0 else p.lo.getD c.1 0

/-- The bounds of a working set carried exactly (R319, R323). -/
def onBounds (p : Prob) (w : List (Nat × Bool)) (x : List F64) : List F64 :=
  w.foldl (fun x c => if c.1 < p.n then lset x c.1 (boundOf p c) else x) x

/-- x + t·z, each element an exact sum rounded once (R306). -/
def along (t : F64) (z x : List F64) : List F64 := (x.zip z).map fun e => fFma t e.2 e.1

/-- Exact a·x scaled by 2^2148. -/
def exactInt (a x : List F64) : Int := (a.zip x).foldl (fun s e => s + fxInt e.1 * fxInt e.2) 0

/-- The largest binary64 that is not above m / d, for m / d below 1. -/
def ratioDown (m d : Nat) : F64 :=
  let q := m * 2 ^ 1074 / d
  let sh := 2 ^ (Nat.log2 q - 52)
  fRound false (q / sh * sh) (-1074)

/-- Direction of the variables in a solution of the KKT system: 0 for a variable that has left it. -/
def direction (p : Prob) (fc : Fac) (z : List F64) : List F64 := (List.range p.n).map fun j => elemVal fc z j

/-- Phase 1 or phase 2 of a job under way: the point, the working set with the multipliers that phase 1 carries, the
factor and the changes made. -/
structure Method where
  x : List F64
  w : List (Nat × Bool)
  fs : FacSt
  changes : Nat
  deriving DecidableEq, Repr

/-! ### Phase 1: the dual method of Goldfarb and Idnani (R318) -/

/-- Phase 1 under way: multipliers of the working candidates, in the order of the working set, and the candidate being
added with its multiplier. -/
structure Phase1 where
  m : Method
  lam : List F64 := []
  cand : Option ((Nat × Bool) × F64) := none
  deriving DecidableEq, Repr

/-- How phase 1 ends. -/
inductive End1 where
  | feasible
  | infeasible (c : Nat)
  | capped
  | dead
  deriving DecidableEq, Repr

/-- The projection problem of R318: the identity in place of H, and f = −x_s. -/
def projection (p : Prob) (xs : List F64) : Prob :=
  { p with
    h := (List.range p.n).map fun j => (List.range p.n).map fun k => if j = k then fOfInt 1 else 0
    f := negs xs, f0 := negs xs }

/-- The most violated candidate outside the working set, if its violation exceeds τ; the lower number among equals (R316). -/
def mostViolated (p : Prob) (x : List F64) (w : List (Nat × Bool)) (tau : F64) : Option (Nat × Bool) :=
  ((candidates p).foldl (fun (m : Option ((Nat × Bool) × F64)) c =>
    if w.contains c then m else
    match violation p x c.1 c.2 with
    | none => m
    | some v => if !fLt tau v then m else match m with
      | none => some (c, v)
      | some q => if fLt q.2 v then some (c, v) else m) none).map (·.1)

/-- How the multiplier of a working candidate moves along the step (z, r) that adds the row `a`. -/
def dualRate (p : Prob) (fc : Fac) (z a : List F64) (c : Nat × Bool) : F64 :=
  if c.1 < p.n then
    let rows := (fc.order.zip z).filter fun e => decide (0x1000 ≤ e.1)
    let v := exactDot (rows.map fun e => kEntry p e.1 c.1) (rows.map (·.2)) [a.getD c.1 0]
    if c.2 then fNeg v else v
  else elemVal fc z (candElem p c.1)

/-- The working candidate that limits the dual step, and the step; the lower number among equals. -/
def dualLimit (w : List (Nat × Bool)) (lam rates : List F64) : Option ((Nat × Bool) × F64) :=
  (w.zip (lam.zip rates)).foldl (fun (m : Option ((Nat × Bool) × F64)) e =>
    if !fLt e.2.2 0 then m
    else
      let t := fDiv e.2.1 (fNeg e.2.2)
      match m with
      | none => some (e.1, t)
      | some q => if fLt t q.2 || (fEq t q.2 && decide (e.1.1 < q.1.1)) then some (e.1, t) else m) none

/-- One iteration of phase 1: the candidate under addition (or the most violated one) enters after a full step, or the
working candidate that limits the dual step is dropped. -/
def phase1Step (d : SolverDef) (p : Prob) (stage : Option (List Nat)) (tau : F64) (s : Phase1) : Phase1 × Option End1 :=
  match s.cand.orElse fun _ => (mostViolated p s.m.x s.m.w tau).map fun c => (c, 0) with
  | none => (s, some .feasible)
  | some (c, lc) =>
    let fc := s.m.fs.fac
    let a := (candRow p c.1 c.2).1
    let r := facSolve fc (fc.order.map fun e => if e < 0x1000 then fNeg (a.getD e 0) else 0)
    let z := direction p fc r
    let rates := s.m.w.map (dualRate p fc r a)
    let full := fDiv ((violation p s.m.x c.1 c.2).getD 0) (fNeg (exactDot a z))
    let still := within z tau
    match dualLimit s.m.w s.lam rates with
    | some (k, t) =>
      if still || fLt t full then
        -- the dual step is limited: k is dropped, and c stays the candidate
        let left := (s.m.w.zip (along t rates s.lam)).filter fun e => e.1 != k
        let w := left.map (·.1)
        ({ m := { s.m with
             x := if still then s.m.x else along t z s.m.x, w := w, fs := facLeave d p stage w s.m.fs k.1
             changes := s.m.changes + 1 }
           lam := left.map (·.2), cand := some (c, fAdd lc t) }, none)
      else phase1Full s c lc full z rates
    | none => if still then (s, some (.infeasible c.1)) else phase1Full s c lc full z rates
where
  /-- A full step: the candidate enters the working set. -/
  phase1Full (s : Phase1) (c : Nat × Bool) (lc t : F64) (z rates : List F64) : Phase1 × Option End1 :=
    let w := s.m.w ++ [c]
    ({ m := { s.m with
         x := onBounds p w (along t z s.m.x), w := w, fs := facEnter d p stage w s.m.fs c.1
         changes := s.m.changes + 1 }
       lam := along t rates s.lam ++ [fAdd lc t], cand := none }, none)

/-- The iterations of phase 1: every one but the last is a change, so the cap ends them (R320). -/
def phase1Run (d : SolverDef) (p : Prob) (stage : Option (List Nat)) (tau : F64) : Nat → Phase1 → Phase1 × End1
  | 0, s => (s, .capped)
  | k + 1, s =>
    if s.m.fs.dead.isSome then (s, .dead)
    else
      match phase1Step d p stage tau s with
      | (s', some e) => (s', e)
      | (s', none) =>
        if s'.m.fs.dead.isSome then (s', .dead)
        else if d.changeCap ≤ s'.m.changes then (s', .capped)
        else phase1Run d p stage tau k s'

/-- Phase 1 from the start point `xs` (R318): nothing to do at a point that satisfies everything within τ; else the point
is put on the equality rows and the method runs. -/
def phase1 (d : SolverDef) (p : Prob) (stage : Option (List Nat)) (tau : F64) (xs : List F64) : Phase1 × End1 :=
  let onRows := within (eqResiduals p xs) tau
  if fLe (maxViolation p xs) tau && onRows then (⟨⟨xs, [], {}, 0⟩, [], none⟩, .feasible)
  else
    let q := projection p xs
    let fs := facNew d q stage [] {}
    let z := facSolve fs.fac (refineRhs q fs.fac xs)
    let x := if onRows then xs else (List.range p.n).map fun j => if fs.fac.order.contains j then elemVal fs.fac z j else xs.getD j 0
    phase1Run d q stage tau (d.changeCap + 1) ⟨⟨x, [], fs, 0⟩, [], none⟩

/-! ### Phase 2 (R319, R320) -/

/-- The candidate outside the working set that blocks the step first, if the full step violates one by more than τ, with
the exact room and rate whose ratio is the step: the smallest ratio, the lower number among equals. -/
def blocking (p : Prob) (x dir : List F64) (w : List (Nat × Bool)) (tau : F64) : Option ((Nat × Bool) × Int × Int) :=
  let one : Int := 2 ^ 1074
  (candidates p).foldl (fun (best : Option ((Nat × Bool) × Int × Int)) c =>
    let (a, b) := candRow p c.1 c.2
    if !fIsFinite b || w.contains c || (decide (c.1 < p.n) && boundsEqual p c.1) then best
    else
      let rate := exactInt a dir
      let room := (fxInt b + fxInt tau) * one - exactInt a x
      if rate ≤ 0 ∨ rate ≤ room then best
      else match best with
        | none => some (c, room, rate)
        | some (_, room', rate') => if room * rate' < room' * rate then some (c, room, rate) else best) none

/-- The gradient Hx + f. -/
def gradient (p : Prob) (x : List F64) : List F64 := (List.range p.n).map fun j => exactDot (p.h.getD j []) x [p.f.getD j 0]

/-- The step and the row multipliers of a working set at x: K's solution for [−g_F; 0]. -/
def stepAt (p : Prob) (fc : Fac) (x : List F64) : List F64 :=
  let g := gradient p x
  facSolve fc (fc.order.map fun e => if e < 0x1000 then fNeg (g.getD e 0) else 0)

/-- A pivot of a variable is replaced in the factor and x has grown past R321's limit: the objective is unbounded below. -/
def unboundedAt (p : Prob) (fc : Fac) (x : List F64) : Bool :=
  ((fc.order.zip fc.rep).any fun q => decide (q.1 < 0x1000) && q.2)
    && fLe (fMul (fPow2 20) (fMax (fOfInt 1) (probNu p))) (maxAbs x)

/-- One iteration of R319. -/
def phase2Step (d : SolverDef) (p : Prob) (stage : Option (List Nat)) (tau : F64) (s : Method) : Method × Option MethodEnd :=
  let g := gradient p s.x
  let z := stepAt p s.fs.fac s.x
  let dir := direction p s.fs.fac z
  if within dir tau then
    let mult (c : Nat × Bool) : F64 :=
      if c.1 < p.n then (if c.2 then fNeg (g.getD c.1 0) else g.getD c.1 0) else elemVal s.fs.fac z (candElem p c.1)
    let q := (candidates p).foldl (fun (m : Option ((Nat × Bool) × F64)) c =>
      if !s.w.contains c then m else
        match m with
        | none => some (c, mult c)
        | some (_, v) => if fLt (mult c) v then some (c, mult c) else m) none
    match q with
    | none => (s, some .optimal)
    | some (c, v) =>
      if !fLt v (fNeg tau) then (s, some .optimal)
      else
        let w := s.w.erase c
        ({ s with w := w, fs := facLeave d p stage w s.fs c.1, changes := s.changes + 1 }, none)
  else
    match blocking p s.x dir s.w tau with
    | none =>
      let x := along (fOfInt 1) dir s.x
      ({ s with x := x }, if unboundedAt p s.fs.fac x then some .unbounded else none)
    | some (c, room, rate) =>
      -- the largest step that keeps every candidate within τ
      let x := along (ratioDown room.toNat rate.toNat) dir s.x
      let w := s.w ++ [c]
      ({ s with x := onBounds p [c] x, w := w, fs := facEnter d p stage w s.fs c.1, changes := s.changes + 1 }, none)

/-- The iterations of phase 2; none when they have not ended within the fuel (the job is still running). -/
def phase2 (d : SolverDef) (p : Prob) (stage : Option (List Nat)) (tau : F64) : Nat → Method → Option (Method × MethodEnd)
  | 0, _ => none
  | k + 1, s =>
    if s.fs.dead.isSome then some (s, .dead)
    else
      match phase2Step d p stage tau s with
      | (s', some e) => some (s', e)
      | (s', none) =>
        if s'.fs.dead.isSome then some (s', .dead)
        else if s'.changes = d.changeCap then some (s', .capped)
        else phase2 d p stage tau k s'

/-! ### The objective and the outcome (R321 to R323) -/

/-- The objective at x (R323): three-factor products are rounded in two factors first, H·x or w·r (R306), and the sum is
exact and rounded once. -/
def objectiveOf (form : Nat) (p : Prob) (x : List F64) : F64 :=
  let quad : List (F64 × F64) := if form = 1 then
      (p.c.zip (p.d.zip p.w)).map fun e =>
        let r := exactDot e.1 x [fNeg e.2.1]
        (fMul e.2.2 r, r)
    else (p.h.zip x).flatMap fun e => (e.1.zip x).map fun q => (fMul q.1 q.2, e.2)
  let f := if form = 1 then p.f0 else p.f
  if x.all fIsFinite && quad.all (fun e => fIsFinite e.1) then
    fScaled (quad.foldl (fun a e => a + fxInt e.1 * fxInt e.2) 0 + 2 * exactInt f x) (-2149)
  else fNaN

/-- Multipliers of every constraint row of a working set (R323): 0 outside it. -/
def rowMults (p : Prob) (fc : Fac) (z : List F64) : List F64 :=
  (List.range p.a.length).map fun r => elemVal fc z (rowElem r)

/-- x of a solution: the free variables from z, the others as they stand. -/
def solutionX (p : Prob) (fc : Fac) (x z : List F64) : List F64 :=
  (List.range p.n).map fun j => if fc.order.contains j then elemVal fc z j else x.getD j 0

/-- How a job starts (Table 09.3). -/
structure StartOf where
  code : Nat := 0
  x : List F64
  w : List (Nat × Bool)
  mapped : W32 := 0
  deriving DecidableEq, Repr

/-- What a job has come to so far, in the report's fields (R328). -/
def methodReport (p : Prob) (m : Method) (o : Outcome9) : Outcome9 :=
  { o with
    changes := m.changes, retry := m.fs.retry, replaced := m.fs.replaced
    firstReplaced := m.fs.first.elim 0xFFFFFFFF (BitVec.ofNat 32 ·), violation := maxViolation p m.x }

/-- The outcome of an optimal exit: x and the multipliers are computed once more by refinement (R314, R319, R321). -/
def optimalOutcome (d : SolverDef) (p : Prob) (tau : F64) (m : Method) (o : Outcome9) : Outcome9 :=
  let fc := m.fs.fac
  let (z, steps, res, ok) := refine p fc m.x tau
  let x := solutionX p fc m.x z
  let o := { o with refine := steps, residual := some res, violation := maxViolation p x }
  if !ok then { o with status := 4, cause := 3 }
  else if unboundedAt p fc x then { o with status := 4, cause := 4 }
  else { o with
    status := if m.fs.replaced ≠ 0 ∨ m.fs.retry ≠ 0 then 1 else 0, cause := 0
    fresh := true, x := x, mult := rowMults p fc z, objective := objectiveOf d.form p x }

/-- The outcome at the cap in phase 2 (R320, R322): published when the current x violates no candidate by more than τ and
meets the residual test on its working set, with the multipliers that K gives at x. -/
def cappedOutcome (d : SolverDef) (p : Prob) (tau : F64) (m : Method) (o : Outcome9) : Outcome9 :=
  let fc := m.fs.fac
  let z := stepAt p fc m.x
  let zx := (fc.order.zip z).map fun e => if e.1 < 0x1000 then m.x.getD e.1 0 else e.2
  let r := kktResidual p fc (refineRhs p fc m.x) zx
  let o := { o with residual := some (maxAbs r) }
  if unboundedAt p fc m.x then { o with status := 4, cause := 4 }
  else if within r tau && fLe (maxViolation p m.x) tau then { o with
    status := 2, cause := 1, fresh := true, x := m.x, mult := rowMults p fc z, objective := objectiveOf d.form p m.x }
  else { o with status := 2, cause := 2 }

/-- The outcome of a job that runs on an assembled problem (R317 to R323); none while it has not ended. -/
def solveProblem (d : SolverDef) (p : Prob) (stage : Option (List Nat)) (st : StartOf) : Option Outcome9 :=
  let tau := probTau d p
  let base : Outcome9 := { start := st.code, mapped := st.mapped, tau := tau }
  let crossed := (List.range p.n).any fun j => fLt (p.hi.getD j 0) (p.lo.getD j 0)
  let x0 := (List.range p.n).map fun j => if boundsEqual p j then p.lo.getD j 0 else st.x.getD j 0
  if crossed then some { base with status := 3, cause := 1, violation := maxViolation p x0 }
  else
    let (s1, e1) := phase1 d p stage tau x0
    let base := { methodReport p s1.m base with changesP1 := s1.m.changes }
    match e1 with
    | .infeasible c => some { base with status := 3, cause := 2, firstReplaced := BitVec.ofNat 32 c }
    | .dead => some { base with status := 4, cause := s1.m.fs.dead.getD 1 }
    | .capped => some { base with status := 2, cause := 2 }
    | .feasible =>
      let w := st.w.filter fun c =>
        (violation p s1.m.x c.1 c.2).elim false (fun v => fLe (fAbs v) tau) && !(decide (c.1 < p.n) && boundsEqual p c.1)
      let fs := facNew d p stage w { s1.m.fs with fac := {} }
      (phase2 d p stage tau (4 * d.changeCap + 64) ⟨onBounds p w s1.m.x, w, fs, s1.m.changes⟩).map fun (m, e) =>
        let base := { methodReport p m base with working := m.w }
        match e with
        | .dead => { base with status := 4, cause := m.fs.dead.getD 1 }
        | .unbounded => { base with status := 4, cause := 4 }
        | .optimal => optimalOutcome d p tau m base
        | .capped => cappedOutcome d p tau m base

/-! ### Warm starts (R324 to R326) -/

/-- The distinct (TARGET, ROW, COL) of a context's terms, in ascending order (R324). -/
def distinctKeys (ts : List Term) : List Nat :=
  (ts.foldl (fun (t : Tab Unit) e => tset t (entryKey e.target e.row e.col) ()) []).map (·.1)

/-- The structure signature (R324). -/
def signatureOf (p : Bytes) : W64 :=
  let d := solverOf p
  let head := toLe 1 d.cls ++ toLe 1 d.form ++ toLe 2 d.n ++ toLe 2 d.nEq ++ toLe 2 d.nIneq ++ toLe 2 d.nRes ++ toLe 2 d.band
  let tags := ((vtags d p) ++ (ctags d p)).flatMap (toLe 2)
  let keys := (distinctKeys (solverTerms d p)).flatMap fun k =>
    toLe 1 (k / 2 ^ 32) ++ toLe 2 (k / 2 ^ 16 % 2 ^ 16) ++ toLe 2 (k % 2 ^ 16)
  BitVec.ofNat 64 (le (sha384 (head ++ tags ++ keys)) 0 8)

/-- Place of a tag other than 0 in a tag list. -/
def tagAt (l : List Nat) (t : Nat) : Option Nat := if t = 0 then none else l.findIdx? (· == t)

/-- The start of a job from the warm-start data (Table 09.3). -/
def startOf (p : Bytes) (sig : W64) (warm : Option WarmSt) : StartOf :=
  let d := solverOf p
  let x0 := xinit d p
  match warm with
  | none => { x := x0, w := [] }
  | some m =>
    if m.signature = sig then { code := 1, x := m.x, w := m.working }
    else
      let vt := vtags d p
      let ct := ctags d p
      let vmap := (List.range d.n).map fun j => tagAt m.vtags (vt.getD j 0)
      let rmap := (List.range d.rows).map fun r => tagAt m.ctags (ct.getD r 0)
      let nv := (vmap.filter Option.isSome).length
      let nr := (rmap.filter Option.isSome).length
      if nv = 0 ∧ nr = 0 then { x := x0, w := [] }
      else
        let x := (vmap.zip x0).map fun e => e.1.elim e.2 fun i => m.x.getD i e.2
        let n0 := m.vtags.length
        let w := m.working.filterMap fun c =>
          if c.1 < n0 then (vmap.findIdx? (· == some c.1)).map fun j => (j, c.2)
          else
            -- the candidate's row in the old numbering, taken by its tag
            (rmap.findIdx? (· == some (m.nEq + (c.1 - n0)))).bind fun r =>
              if d.nEq ≤ r then some (d.n + (r - d.nEq), c.2) else none
        { code := 2, x := x, w := w, mapped := BitVec.ofNat 32 (w.length * 2 ^ 16 + nv) }

/-- The numeric settings lie in their ranges, and tags other than 0 are unique (Table 09.1, R325). -/
def numericOk (p : Bytes) (d : SolverDef) : Bool :=
  let uniq (l : List Nat) := allPairs (fun a b => a == 0 || a != b) l
  fLe 0 d.epsAbs && fLe d.epsAbs (fOfRat 1 1000) && fLe (fPow2 (-52)) d.epsRel && fLe d.epsRel (fPow2 (-10))
    && decide (20 ≤ d.pivotExp ∧ d.pivotExp ≤ 60) && uniq (vtags d p) && uniq (ctags d p)

end Sys2Proof.Machine
end

