-- ==== Sys2Proof/Machine/ImageCheck.lean ====
section
/-! DEFINITION. The checks of an image bank (R105 to R110, R597) and its selection at start (R111, R113). -/

namespace Sys2Proof.Machine

/-- `n` bytes of a bank from an offset; an erased byte reads 0xFF (R102). -/
def bankRead (b : Bytes) (off n : Nat) : Bytes :=
  let x := slice b off n
  x ++ List.replicate (n - x.length) 0xFF

/-- Size of an image bank, 56 MiB (Table 03.3): it holds no byte beyond. -/
def bankMax : Nat := 58720256

/-- The 256 header bytes of a bank. -/
def bankHeader (b : Bytes) : Bytes := bankRead b 0 256

/-- A format version that the shipped firmware supports (R109): major, minor. -/
def formatOk (major minor : Nat) : Bool := (major == 1 && decide (minor ≤ 7)) || (major == 2 && decide (minor ≤ 3))

/-- Longest body (Table 03.4). -/
def bodyMax : Nat := 58720000

/-- The signature verifies under one of the enrolled image-signer keys (R110, check 4). -/
def signatureOk (s : State) (h : Bytes) : Bool :=
  (signersIn s).any fun e => ed25519Ok e.2.key (slice h 0 0x60) (slice h 0x60 64)

/-- Checks 1 to 5 of R110 on a header: the FAIL_REASON of Table 03.8, 0 when all pass, 9 for an erased bank. -/
def headerCheck (s : State) (h : Bytes) : Nat :=
  if h.all (· == 0xFF) then 9
  else if le h 0 4 ≠ 0x38384350 then 1
  else if le h 0xA0 4 ≠ (crc32c (slice h 0 0xA0)).toNat then 2
  else if !formatOk (le h 6 2) (le h 4 2) then 3
  else if !signatureOk s h then 4
  else if zeroAt h 0x1A 6 && zeroAt h 0xA4 92 && decide (hdrFlags h &&& 0xFFFFFFF4 = 0 ∧ hdrNode h < 16384 ∧ hdrFlags h % 4 ≤ 1
      ∧ 1 ≤ hdrSequence h ∧ hdrBodyLength h ≤ bodyMax) then 0
  else 5

/-- Record types of Table 03.7. -/
def knownTypes : List Nat :=
  [0x01, 0x02, 0x03, 0x04, 0x10, 0x11, 0x12, 0x20, 0x21, 0x30, 0x31, 0x40, 0x50, 0x60, 0x70, 0x80, 0x81, 0x82]

/-- The rules of one record's own payload (R110, check 6). A type of a single record has INSTANCE 0. -/
def payloadOk (t inst : Nat) (p : Bytes) : Bool :=
  match t with
  | 0x01 => codeRecOk inst p
  | 0x02 => brickTypeOk inst p
  | 0x03 => brickInstOk inst p
  | 0x04 => courseRecOk inst p
  | 0x10 => inst == 0 && ioMapOk p
  | 0x11 => inst == 0 && oasisOk p
  | 0x12 => inst == 0 && trimOk p
  | 0x20 => decide (inst ≤ 127) && loopRecOk p
  | 0x21 => rec21Ok inst p
  | 0x30 => if inst = 0x100 then layoutOk p else decide (inst ≤ 63) && solverRecOk p (numericOk p)
  | 0x31 => decide (inst ≤ 63) && modelParamsOk p
  | 0x40 => safetyRecOk inst p
  | 0x50 => inst == 0 && mortarRecOk p
  | 0x60 => inst == 0 && mapOk p
  | 0x70 => inst == 0 && settingsRecOk p
  | 0x80 => inst == 0 && ringOk p
  | 0x81 => canRecOk inst p
  | 0x82 => inst == 0 && netRecOk p
  | _ => true

/-- No two records have both the same TYPE and the same INSTANCE (R110, check 6). -/
def noDuplicates : List Rec → Bool
  | [] => true
  | r :: l => (l.all fun q => !(q.type == r.type && q.inst == r.inst)) && noDuplicates l

/-- The rules that relate records to each other, checked at the end record (R110, R597). -/
def imageCrossOk (img : Image) : Bool :=
  let pub := pubSize img
  noDuplicates img.recs && programCrossOk img && ioCrossOk img && oasisCrossOk img && mortarCrossOk img && settingsCrossOk img && mapCrossOk img
    && safetyCrossOk img && canCrossOk img && tagsFit img && tablesFit img
    && (loopDefs img).all (fun e => loopCrossOk img pub e.1 e.2)
    && (recsOf img 0x21).all (fun e => decide (64 ≤ e.1) || tableOk img e.2 true)
    && (solverDefs img).all (fun e => solverCrossOk img e.1 ((solverRec img e.1).getD []))

/-- What a pass over the body has found: FAIL_REASON 0 and the records, or 6 or 7; and the unknown types that it skipped. -/
structure BodyPass where
  reason : Nat
  recs : List Rec
  skipped : List Nat
  deriving DecidableEq, Repr

/-- Checks 6 and 7 record by record from an offset of the body (R597); `acc` holds the records before it, newest first. -/
def bodyPass (body : Bytes) (len : Nat) : Nat → Nat → List Rec → List Nat → BodyPass
  | 0, _, _, sk => ⟨6, [], sk⟩
  | fuel + 1, off, acc, sk =>
    let h := bankRead body off 12
    let t := le h 0 2
    let fl := le h 2 2
    let n := le h 4 4
    let inst := le h 8 4
    let stop := off + 12 + n + 4
    let next := (stop + 7) / 8 * 8
    if len < off + 16 ∨ len < stop then ⟨6, [], sk⟩
    else if le (bankRead body (off + 12 + n) 4) 0 4 ≠ (crc32c (bankRead body off (12 + n))).toNat ∨ fl % 32768 ≠ 0 then ⟨6, [], sk⟩
    else if t = 0xFFFF then (if n = 0 ∧ stop = len then ⟨0, acc.reverse, sk⟩ else ⟨6, [], sk⟩)
    else if len < next ∨ !zeroAt (bankRead body stop (next - stop)) 0 8 then ⟨6, [], sk⟩
    else if !knownTypes.contains t then
      if fl = 32768 then ⟨7, [], sk⟩
      else bodyPass body len fuel next (⟨t, BitVec.ofNat 16 fl, inst, []⟩ :: acc) (sk ++ [t])
    else
      let p := bankRead body (off + 12) n
      if !payloadOk t inst p then ⟨6, [], sk⟩
      else bodyPass body len fuel next (⟨t, BitVec.ofNat 16 fl, inst, p⟩ :: acc) sk

/-- The result of a full check: FAIL_REASON, the image when it is 0, and the skipped record types (EV019). -/
structure FullCheck where
  reason : Nat
  image : Option Image
  skipped : List Nat
  deriving DecidableEq, Repr

/-- Checks 6 to 8 of R110 of a bank under a header. -/
def bodyCheck (h body : Bytes) : FullCheck :=
  let len := hdrBodyLength h
  let r := bodyPass body len (len / 16 + 1) 0 [] []
  if r.reason ≠ 0 then ⟨r.reason, none, r.skipped⟩
  else
    let img : Image := ⟨h, r.recs⟩
    if !imageCrossOk img then ⟨6, none, r.skipped⟩
    else if sha384 (bankRead body 0 len) != hdrDigest h then ⟨8, none, r.skipped⟩
    else ⟨0, some img, r.skipped⟩

/-- All checks of R110 of a bank. -/
def fullCheck (s : State) (b : Bytes) : FullCheck :=
  let h := bankHeader b
  let r := headerCheck s h
  if r ≠ 0 then ⟨r, none, []⟩ else bodyCheck h (b.drop 256)

/-- EV019 for every record of an unknown type that a pass has skipped (R109). -/
def raiseSkipped (s : State) (ts : List Nat) : State := ts.foldl (fun s t => raise s 19 [w32 t]) s

/-! ### Banks (Table 03.8) -/

/-- Bank 0 A, 1 B. -/
def bank (s : State) (b : Nat) : BankSt := if b = 0 then s.kiln.bankA else s.kiln.bankB
def setBank (s : State) (b : Nat) (x : BankSt) : State :=
  if b = 0 then { s with kiln := { s.kiln with bankA := x } } else { s with kiln := { s.kiln with bankB := x } }

/-- Status after a check with a FAIL_REASON; 0 is a full check that passed. -/
def bankStatus (s : State) (b reason : Nat) : State :=
  setBank s b { bank s b with valid := reason == 0, failReason := reason }

/-- Both headers are read: checks 1 to 5 decide each bank's status; a bank that passes them is not fully checked (11). -/
def readHeaders (s : State) : State :=
  (List.range 2).foldl (fun s b =>
    let r := headerCheck s (bankHeader (bank s b).bytes)
    setBank s b { bank s b with valid := false, failReason := if r = 0 then 11 else r }) s

/-- The spare bank (R114, R116): the one without the running image; in LOAD without one, the bank that is invalid or has
the lower SEQUENCE, or bank A when both are equal. Two invalid banks count as equal (DEDUCED, assumption 90). -/
def spareBank (s : State) : Nat :=
  match runningImage s with
  | some (b, _) => 1 - b
  | none =>
    let a := s.kiln.bankA
    let b := s.kiln.bankB
    let ok (x : BankSt) : Bool := x.failReason == 0 || x.failReason == 11
    if ok a && !ok b then 1
    else if ok b && !ok a then 0
    else if ok a && ok b && decide (hdrSequence (bankHeader b.bytes) < hdrSequence (bankHeader a.bytes)) then 1
    else 0

end Sys2Proof.Machine
end

