-- ==== Sys2Proof/Machine/LoopOps.lean ====
section
/-! DEFINITION. Operations of the loop engine: sources, the table term, the integral, the limits, the coefficient swap,
test signals, and one sample of a context (chapters 06 and 07). -/

namespace Sys2Proof.Machine

def loop (s : State) (c : Nat) : LoopSt := tget {} s.loops.l c
def loop2 (s : State) (c : Nat) : LoopSt2 := tget {} s.loops.m c
def setLoop (s : State) (c : Nat) (x : LoopSt) : State := { s with loops := { s.loops with l := tset s.loops.l c x } }
def setLoop2 (s : State) (c : Nat) (x : LoopSt2) : State := { s with loops := { s.loops with m := tset s.loops.m c x } }
def tableSt (s : State) (t : Nat) : TableSt := tget {} s.loops.t t
def setTable (s : State) (t : Nat) (x : TableSt) : State := { s with loops := { s.loops with t := tset s.loops.t t x } }
def injSt (s : State) (c : Nat) : InjSt := tget {} s.loops.inj c
def setInj (s : State) (c : Nat) (x : InjSt) : State := { s with loops := { s.loops with inj := tset s.loops.inj c x } }

/-- Parameter i in force of a context (positions pKP to pUINIT). -/
def prm (p : List F64) (i : Nat) : F64 := p.getD i 0

/-! ### Sources (R206, Table 06.6) -/

/-- The I/O module of an entry is valid (R401): for an input as the tick's image marks it. -/
def entryValid (s : State) (i : Nat) (e : IoEntry) : Bool :=
  if !e.output then (tget ({} : InCell) s.crs.inp i).valid
  else if e.ring then (stn' s e).1 == 3 && (stn' s e).2
  else if e.can then true
  else (kkOf e).elim (!s.field.fault) fun kk => moduleValid s kk
where
  /-- station state and module validity of a ring entry -/
  stn' (s : State) (e : IoEntry) : Nat × Bool :=
    let x := tget ({} : StationSt) s.ring.st e.module
    (x.state, (tget ({} : RModSt) x.mods e.chan).valid)

/-- Element of a solver publication (R282). -/
def solverElement (x : SolvSt) (i : Nat) : F64 :=
  if i < 0x1000 then x.x.getD i fNaN
  else if i < 0x2000 then (x.mult.getD []).getD (i - 0x1000) fNaN
  else x.objective.getD fNaN

/-- The value of a source word for a context of a lane, and whether it may be used: not from an I/O module that is not
valid. Outputs read as the engine loaded them; a loop output of another lane is that of the previous tick. -/
def srcVal (s : State) (lane w : Nat) : F64 × Bool :=
  match srcKind w with
  | 1 =>
    let i := w % 2 ^ 24
    match ioEntry (theImage s) i with
    | none => (0, false)
    | some e =>
      let v := if e.output then (tget ({} : OutCell) s.loops.loaded i).value else (tget ({} : InCell) s.crs.inp i).value
      (rawF64 e.ty v, entryValid s i e)
  | 2 => (solverElement (tget {} s.solver.s (w / 2 ^ 16 % 64)) (w % 2 ^ 16), true)
  | 3 =>
    let c := w % 128
    let same := (loopDef (theImage s) c).elim false fun d => d.lane == lane
    (if same then (loop s c).u else (loop2 s c).prevOut, true)
  | _ => (0, true)

/-- A set-point source may be used: a solver publication not when it carries HELD (Table 06.6). -/
def spUsable (s : State) (lane w : Nat) : Bool :=
  if srcKind w = 2 then !(tget ({} : SolvSt) s.solver.s (w / 2 ^ 16 % 64)).held else (srcVal s lane w).2

/-! ### The table term (R242 to R245) -/

/-- x modulo 360, in [0, 360). -/
def fMod360 (x : F64) : F64 :=
  match fv x with
  | .fin neg m e =>
    let i := sgnInt neg m
    if 0 ≤ e then fOfInt (i * 2 ^ e.toNat % 360) else fScaled (i % (360 * 2 ^ (-e).toNat)) e
  | _ => fNaN

/-- Point i of a payload. -/
def tabPoint (p : Bytes) (i : Nat) : F64 := leF64 p (0x40 + 8 * i)

/-- The cogging term (R242). -/
def coggingTerm (p : Bytes) (x : F64) : F64 :=
  let n := tabPoints p
  let m := if le p 1 1 = 1 then le p 2 2 else 1
  let a := fMod360 (fFma (fOfInt m) x (leF64 p 0x18))
  let q := fDiv a (fDiv (fOfInt 360) (fOfInt n))
  let i := (fFloor q).toNat
  let f := fSub q (fOfInt i)
  let p0 := tabPoint p (i % n)
  fMul (leF64 p 0x30) (fFma f (fSub (tabPoint p ((i + 1) % n)) p0) p0)

/-- The friction term (R243). -/
def frictionTerm (p : Bytes) (x v : F64) : F64 :=
  let n := tabPoints p
  let xMin := leF64 p 0x18
  let xMax := leF64 p 0x20
  let vd := leF64 p 0x28
  let d := fDiv (fSub xMax xMin) (fOfInt (n - 1))
  let q := fDiv (fSub (fClamp xMin xMax x) xMin) d
  let i := min (fFloor q).toNat (n - 2)
  let f := fSub q (fOfInt i)
  let at_ (k : Nat) : F64 := fFma f (fSub (tabPoint p (k + i + 1)) (tabPoint p (k + i))) (tabPoint p (k + i))
  let fp := at_ 0
  let fn := at_ n
  let g :=
    if fLe vd v && fLt 0 v then fp
    else if fLe v (fNeg vd) && fLt v 0 then fn
    else if fEq vd 0 then fDiv (fAdd fp fn) (fOfInt 2)
    else fFma (fDiv (fAdd v vd) (fMul (fOfInt 2) vd)) (fSub fp fn) fn
  fMul (leF64 p 0x30) g

/-- The background buffer of a table becomes its foreground (R248, R189); a region update that it ends reports DONE. -/
def swapTable (s : State) (t : Nat) (fore : Bytes) : State :=
  let x := tableSt s t
  let g := (x.generation + 1) % 65536
  let s := setTable s t { x with
    fore := fore, back := none, generation := g, swapTick := s.time.tick, rebuilding := false, overdue := false
    localDone := false, partnerDone := false, completeTick := none, ticket := none }
  let s := raise s 136 ([w32 t] ++ w64 s.time.tick ++ [w32 g])
  match x.ticket with
  | some k => ticketEnd s k 4 0
  | none => s

/-- At a sample of its context, a table takes what waits for it: an exchange's table, or a rebuild that completed in an
earlier tick (R189, R248). -/
def tableDue (s : State) (t : Nat) : State :=
  match s.exch.tableSwaps.find? fun e => e.1 == t with
  | some (_, p) =>
    let s := { s with exch := { s.exch with tableSwaps := s.exch.tableSwaps.filter fun e => e.1 != t } }
    swapTable s t p
  | none =>
    let x := tableSt s t
    match x.completeTick, x.back with
    | some k, some b => if k < s.time.tick then swapTable s t b else s
    | _, _ => s

/-- The table term of a sample, with TERM_OFF and OUT_OF_RANGE (R242 to R245). -/
def tableTerm (s : State) (d : LoopDef) : F64 × State :=
  let t := d.table
  if t = 0xFFFF ∨ (tableRec (theImage s) t).isNone then (0, s)
  else
    let s := tableDue s t
    let x := tableSt s t
    let p := x.fore
    let (px, okX) := srcVal s d.lane (tabX p)
    let (pv, okV) := if tabKind p = 1 then srcVal s d.lane (tabV p) else (0, true)
    if !okX || !okV then
      let s' := setTable s t { x with termOff := true }
      (0, if x.termOff then s' else raise s' 139 [w32 t, w32 (if okX then tabV p else tabX p)])
    else if tabKind p = 1 then
      let out := fLt px (leF64 p 0x18) || fLt (leF64 p 0x20) px
      let s' := setTable s t { x with termOff := false, outOfRange := out }
      (frictionTerm p px pv, if out && !x.outOfRange then raise s' 138 ([w32 t] ++ wF64 px) else s')
    else (coggingTerm p px, setTable s t { x with termOff := false })

/-! ### The integral (R210, R211) -/

/-- A value as accumulator units: the nearest multiple of 2^(E − 88), ties to even. -/
def accOf (e : Int) (x : F64) : Int := fNearest x (88 - e)

/-- The integral as binary64. -/
def accVal (e : Int) (a : Int) : F64 := fScaled a (e - 88)

/-- A is a 96-bit two's-complement integer (R210): a result beyond it, for which no rule is stated, is free. `x` is what was
brought in, `a` the accumulator before. -/
def accFit (x : F64) (a n : Int) : Int := if -(2 ^ 95) ≤ n ∧ n < 2 ^ 95 then n else (Config.accOverflow x a).toInt

/-- The accumulator of an integral under another exponent (R187): the same value, to the nearest. -/
def accRescale (e e' : Int) (a : Int) : Int := if e = e' then a else accFit (accVal e a) a (accOf e' (accVal e a))

/-- The accumulator clamped to the output limits. -/
def accClamp (e : Int) (p : List F64) (a : Int) : Int :=
  accFit (accVal e a) a (max (accOf e (prm p pUMIN)) (min (accOf e (prm p pUMAX)) a))

/-- An increment added to the accumulator. -/
def accAdd (e : Int) (a : Int) (inc : F64) : Int :=
  if fIsFinite inc then accFit inc a (a + accOf e inc) else (Config.accOverflow inc a).toInt

/-- The accumulator set to a binary64, clamped. -/
def accSet (e : Int) (p : List F64) (x : F64) (a : Int) : Int :=
  accClamp e p (if fIsFinite x then accOf e x else (Config.accOverflow x a).toInt)

/-- An increment that a saturation (1 high, 2 low) allows. -/
def incAllowed (sat : Nat) (inc : F64) : F64 :=
  if (sat = 1 ∧ fLt 0 inc) ∨ (sat = 2 ∧ fLt inc 0) then 0 else inc

/-- One integration over h (R211, R218, R230). `innerSat` is the stored SAT of the inner loop, 0 without one. -/
def integrate (d : LoopDef) (p : List F64) (x : LoopSt) (innerSat : Nat) (h : F64) : Int :=
  let inc :=
    if d.awClamp then incAllowed x.sat (fMul h (fMul (prm p pKI) x.e))
    else fMul h (fFma (prm p pKT) (fSub x.u x.v) (fMul (prm p pKI) x.e))
  let inc := incAllowed innerSat (incAllowed x.satHeld inc)
  accClamp d.intExp p (accAdd d.intExp x.acc inc)

/-! ### The proportional and derivative parts, limits (R208, R209, R212) -/

/-- P, s, and the derivative filter state d of a sample (R208, R209). -/
def lawPd (p : List F64) (x : LoopSt) (r y h : F64) : F64 × F64 × F64 :=
  let pr := fMul (prm p pKP) (fFma (prm p pB) r (fNeg y))
  let sv := fFma (prm p pC) r (fNeg y)
  let dv :=
    if x.restart then 0
    else if fEq (prm p pTF) 0 then fDiv (fSub sv x.sPrev) h
    else fDiv (fFma (prm p pTF) x.d (fSub sv x.sPrev)) (fAdd (prm p pTF) h)
  (pr, sv, dv)

/-- clamp(rate(clamp(v))) (R212). -/
def lawLimit (p : List F64) (uPrev h v : F64) : F64 :=
  let lo := prm p pUMIN
  let hi := prm p pUMAX
  let u := fClamp lo hi v
  let u := if fEq (prm p pRATEUP) 0 then u else fMin u (fFma (prm p pRATEUP) h uPrev)
  let u := if fEq (prm p pRATEDOWN) 0 then u else fMax u (fFma (fNeg (prm p pRATEDOWN)) h uPrev)
  fClamp lo hi u

/-- SAT from u and v (R212): 0 none, 1 high, 2 low. -/
def satOf (u v : F64) : Nat := if fLt u v then 1 else if fLt v u then 2 else 0

/-- I for a tracked output: u − P − D − F. -/
def trackI (u pr dp ff : F64) : F64 := fSub (fSub (fSub u pr) dp) ff

/-- P + I + D + F. -/
def sumV (pr i dp ff : F64) : F64 := fAdd (fAdd (fAdd pr i) dp) ff

/-- The integral that tracks an output, I = clamp(u − P − D − F), and v: the output itself where the clamp leaves I as it is
(R213, R214), else P + I + D + F. -/
def trackOut (e : Int) (p : List F64) (a : Int) (u pr dp ff : F64) : Int × F64 :=
  let want := trackI u pr dp ff
  let a := accSet e p want a
  (a, if fLe (prm p pUMIN) want && fLe want (prm p pUMAX) then u else sumV pr (accVal e a) dp ff)

/-! ### Parameter sets (R228 to R230) -/

/-- Parameters with a set's changes. -/
def withSet (p : List F64) (set : List (Nat × F64)) : List F64 :=
  set.foldl (fun p e => lset p ((e.1 - 0x30) / 8) e.2) p

/-- What the swap step of one sample has done so far. -/
structure SwapSt where
  params : List F64
  acc : Int
  /-- the integral as the swaps of this sample would have it without their clamps, once a clamp has changed it -/
  full : Option Int := none
  swaps : Nat := 0
  deriving DecidableEq, Repr

/-- One parameter set at a sample: refused as a whole with EV133, or swapped in with EV132 and the absorption of R229. -/
def swapOne (s : State) (c : Nat) (d : LoopDef) (x : LoopSt) (r y h : F64) (w : SwapSt) (new : List F64) :
    State × SwapSt :=
  match paramFault new with
  | some o => (raise s 133 [w32 c, Config.datumCode c o], w)
  | none =>
    let pd (p : List F64) : F64 :=
      let (pr, _, dv) := lawPd p x r y h
      fAdd pr (fMul (prm p pKD) dv)
    let step := fSub (pd w.params) (pd new)
    let a := accAdd d.intExp w.acc step
    let a' := accClamp d.intExp new a
    let full := if a' = a then w.full.map (accAdd d.intExp · step) else some (accAdd d.intExp (w.full.getD w.acc) step)
    (raise s 132 ([w32 c] ++ w64 s.time.tick), ⟨new, a', full, w.swaps + 1⟩)

/-! ### Test signals (R256) -/

/-- Feedback taps of Table 07.8. -/
def prbsTaps (q : Nat) : List Nat :=
  match q with
  | 7 => [7, 6] | 8 => [8, 6, 5, 4] | 9 => [9, 5] | 10 => [10, 7] | 11 => [11, 9] | 12 => [12, 6, 4, 1]
  | 13 => [13, 4, 3, 1] | 14 => [14, 5, 3, 1] | 15 => [15, 14] | 16 => [16, 15, 13, 4] | 17 => [17, 14] | 18 => [18, 11]
  | 19 => [19, 6, 2, 1] | 20 => [20, 17] | _ => []

/-- One step of the PRBS register: the output bit and the next register. -/
def prbsStep (q st : Nat) : Bool × Nat :=
  let fb := (prbsTaps q).foldl (fun b t => b != st.testBit (t - 1)) false
  (st.testBit (q - 1), (2 * st + if fb then 1 else 0) % 2 ^ q)

/-- Samples of an injection: floor(DURATION / PERIOD). -/
def injSamples (d : LoopDef) (c : InjCmd) : Nat := c.duration / d.period

/-- 2π, rounded once to binary64. -/
def twoPi : F64 := 0x401921FB54442D18

/-- The phase φ of a CHIRP at time τ of T (R256). The spec states the formulas and no order of rounding: each operation is
rounded as it is written, from the left (DEDUCED, assumption 16). -/
def chirpPhase (c : InjCmd) (tau t : F64) : F64 :=
  if c.order = 1 then
    fDiv (fMul (fMul (fMul twoPi c.f0) t) (fSub (Config.pow (fDiv c.f1 c.f0) (fDiv tau t)) (fOfInt 1)))
      (Config.ln (fDiv c.f1 c.f0))
  else
    fMul twoPi (fAdd (fMul c.f0 tau) (fDiv (fMul (fSub c.f1 c.f0) (fMul tau tau)) (fMul (fOfInt 2) t)))

/-- The harmonics that a mask selects, in ascending order (Table 07.6). -/
def harmonics (mask : BitVec 32) : List Nat := ((List.range 32).filter fun j => mask.getLsbD j).map (· + 1)

/-- The MULTISINE at sample n (R256): (A/K)·Σ sin(2π·k·n/M + φ), with Schroeder phases φ = −π·i·(i − 1)/K. -/
def multisine (c : InjCmd) (n : Nat) : F64 :=
  let ks := harmonics c.msHarm
  let term (e : Nat × Nat) : F64 :=
    Config.sin (fSub (fDiv (fMul (fMul twoPi (fOfInt e.1)) (fOfInt n)) (fOfInt c.msPeriod))
      (fDiv (fMul (fDiv twoPi (fOfInt 2)) (fOfInt ((e.2 + 1) * e.2))) (fOfInt ks.length)))
  fMul (fDiv c.amplitude (fOfInt ks.length)) (ks.zipIdx.foldl (fun x e => fAdd x (term e)) 0)

/-- The signal of the next injected sample, and the injection's state with its PRBS register advanced (R256). -/
def injSignal (d : LoopDef) (j : InjSt) (c : InjCmd) : F64 × InjSt :=
  let a := c.amplitude
  if c.signal = 1 then (a, j)
  else if c.signal = 2 then
    let (b, st) := if j.n % c.hold = 0 then prbsStep c.order j.prbs else (j.prbsBit, j.prbs)
    (if b then a else fNeg a, { j with prbs := st, prbsBit := b })
  else if c.signal = 3 then
    let h := windowSecs d.period
    let tau := fMul (fOfInt j.n) h
    let t := fMul (fOfInt (injSamples d c)) h
    (fClamp (fNeg a) a (fMul a (Config.sin (chirpPhase c tau t))), j)
  else (fClamp (fNeg a) a (multisine c j.n), j)

/-- The injection point is available in a loop mode (Table 07.5). -/
def pointInMode (point mode : Nat) : Bool := if point = 1 then mode == 0 else decide (1 ≤ mode ∧ mode ≤ 3)

/-! ### Loop modes and set-points (R213 to R218, R224 to R226) -/

/-- The loop mode of a context changes (R214): entry to MANUAL takes u_prev; a law mode after MANUAL or HOLD starts
bumpless; an injection stops with cause 7; EV134. `who`: 0 host, 1 course, 2 fallback. -/
def setLoopMode (s : State) (c mode who : Nat) : State :=
  let x := loop s c
  if x.mode = mode then s
  else
    let img := theImage s
    -- entry to CASCADE: the target is the outer output that has tracked this context (R218)
    let o := ((loopDef img c).map fun d => (loop s d.outer).u).getD 0
    let s := setLoop s c { x with
      mode := mode, manual := if mode = 0 then x.u else x.manual
      rampPrev := if mode = 2 then o else x.rampPrev, rampTarget := if mode = 2 then o else x.rampTarget
      rampJ := if mode = 2 then 256 else x.rampJ }
    let law (m : Nat) : Bool := decide (1 ≤ m ∧ m ≤ 3)
    let s := if law mode && !law x.mode then setLoop2 s c { loop2 s c with bumpless := true } else s
    let s := raise s 134 [w32 c, w32 x.mode, w32 mode, Config.argCode 134 who]
    stopInjection s c 7

/-- A loop mode request takes effect (R221, R224): FALLEN_BACK, both counters and STEPPED clear. -/
def applyRequest (s : State) (c mode who : Nat) : State :=
  let x := loop s c
  let s := setLoop s c { x with fallenBack := false, consecMiss := 0, consecPvBad := 0, stepped := false }
  setLoopMode s c mode who

/-- Fallback at a sample that completes (R221): EV129 with its cause. -/
def fallbackDue (s : State) (c : Nat) (d : LoopDef) : State :=
  let x := loop s c
  let miss := decide (d.missLimit ≤ x.consecMiss)
  if x.fallenBack || !(miss || decide (d.pvbadLimit ≤ x.consecPvBad)) then s
  else
    let s := setLoop s c { x with fallenBack := true }
    let m := loop2 s c
    let s := setLoop2 s c { m with counters := bump m.counters 3 }
    let s := raise s 129 [w32 c, Config.argCode 129 (if miss then 0 else 1)]
    if d.fallback = 0 then setLoopMode s c 4 2
    else
      let s := setLoopMode s c 0 2
      setLoop s c { loop s c with manual := x.u }

/-- The requests visible at a sample (R224): the host's, in order, prevail over the course's. -/
def requestsDue (s : State) (c : Nat) : State :=
  let m := loop2 s c
  let now := m.hostReq.filter fun e => decide (e.2.1 < s.time.tick)
  match now with
  | _ :: _ =>
    let s := setLoop2 s c { m with
      hostReq := m.hostReq.filter fun e => decide (s.time.tick ≤ e.2.1)
      courseReq := none, courseRefused := m.courseReq.isSome }
    now.foldl (fun s e => complete (applyRequest s c e.1 0) e.2.2 stDone) s
  | [] =>
    match m.courseReq with
    | none => s
    | some code =>
      let ok := (loopDef (theImage s) c).elim false fun d => modeAllowed d code
      let s := setLoop2 s c { m with courseReq := none, courseRefused := !ok }
      if ok then applyRequest s c code 1 else s

/-- The local set-point (R226): the setting, or the course's, or until a course writes the y of the first sample. -/
def localSp (s : State) (d : LoopDef) (m : LoopSt2) : F64 :=
  if d.spCourse then m.courseSp.getD (m.firstY.getD 0)
  else
    let i := d.spSetting % 65536
    rawF64 ((settingByLow (theImage s) i).elim 0x0F (·.type)) (settingValue s i)

/-- The ramped or direct inner set-point in CASCADE, k being the cascade ratio (R217). -/
def cascadeSp (d : LoopDef) (k : Nat) (x : LoopSt) : F64 :=
  if !d.ramp || decide (k ≤ x.rampJ) then x.rampTarget
  else fFma (fOfRat x.rampJ k) (fSub x.rampTarget x.rampPrev) x.rampPrev

/-- The cascade ratio k of an inner loop (R215). -/
def cascadeK (img : Image) (d : LoopDef) : Nat := (loopDef img d.outer).elim 1 fun o => o.period / d.period

/-- One inner sample instant passes for the ramp (R217). -/
def rampStep (s : State) (c : Nat) (d : LoopDef) : State :=
  if d.outer = 0xFF then s else
    let x := loop s c
    setLoop s c { x with rampJ := min (x.rampJ + 1) 256 }

/-! ### One sample (R209, Table 06.6) -/

/-- What a sample reads before its law runs. -/
structure SampleIn where
  y : F64
  yOk : Bool
  /-- set-point of the loop mode, before the clamp -/
  r : F64
  spOk : Bool
  w0 : F64
  w1 : F64
  t : F64
  h : F64
  /-- output that it must track: 1 override, 2 oasis, 3 an outer loop's inner set-point; and the value -/
  track : Option (Nat × F64)
  innerSat : Nat
  deriving DecidableEq, Repr

/-- The output that a context tracks at a sample, first row first (Table 06.6, R218). -/
def trackOf (s : State) (c : Nat) (d : LoopDef) : Option (Nat × F64) :=
  let img := theImage s
  match d.dst.bind fun o => (s.loops.override.find? fun e => e.1 == o).map (·.2) with
  | some v => some (1, v)
  | none =>
    let oasis := d.dst.bind fun o => (ioEntry img o).bind fun e =>
      if oasisNow s o then some (rawF64 e.ty (appliedRaw e (oasisApplied s o e))) else none
    match oasis with
    | some v => some (2, v)
    | none =>
      match innerOf img c with
      | some (i, _) =>
        let x := loop s i
        if x.mode = 2 then none else some (3, if (loop2 s i).sampled then x.rNow else (loop s c).u)
      | none => none

/-- The published output enters the output image (R207). -/
def publishOut (s : State) (d : LoopDef) (u : F64) : State :=
  match d.dst with
  | none => s
  | some o =>
    let ty := (ioEntry (theImage s) o).elim 0x0F (·.ty)
    let v := if tyReal ty then rawOfF64 ty u else Config.loopRaw ty u
    putOut s o v

/-- Cost of one evaluation in lane cycles (Table 06.3). -/
def loopCost (d : LoopDef) (p : List F64) : Nat :=
  64 + (if fEq (prm p pKD) 0 then 0 else 8) + (if srcKind d.ff0 = 0 ∧ srcKind d.ff1 = 0 then 0 else 8)
    + (if fEq (prm p pRATEUP) 0 && fEq (prm p pRATEDOWN) 0 then 0 else 8)
    + (if d.ramp && d.outer != 0xFF then 8 else 0) + (if d.table = 0xFFFF then 0 else 24)

/-- Window cycles used on a lane in this tick rise (R222, R232). -/
def laneUse (s : State) (lane n : Nat) : State :=
  let used := min (s.loops.laneNow.getD lane 0 + n) 24000
  { s with loops := { s.loops with
      laneNow := lset s.loops.laneNow lane used
      laneLoad := lset s.loops.laneLoad lane (max used (s.loops.laneLoad.getD lane 0)) } }

/-- An injection ends after its duration (R256): EV141 with its samples. -/
def injectEnd (s : State) (c : Nat) (j : InjSt) : State :=
  raise (setInj s c { j with state := 3, cause := 1, satRun := 0 }) 141 [w32 c, w32 j.n]

/-- The injection of a context at one sample (R255, R257): it starts, stops on a cause seen at the sample, or gives its
signal. The answer is the signal, 0 when nothing is injected, and whether a signal was injected. -/
def injectSample (s : State) (c : Nat) (d : LoopDef) (i : SampleIn) : F64 × Bool × State :=
  let j := injSt s c
  match j.cmd with
  | none => (0, false, s)
  | some cmd =>
    let (j, s) :=
      if j.state = 1 ∧ cmd.startTick ≤ s.time.tick then
        let j' := { j with state := 2, n := 0, satRun := 0, firstTick := some s.time.tick, origin := none }
        (j', completeOpt (raise (setInj s c j') 140 [w32 c, w32 cmd.signal, w32 cmd.point]) j.origin stDone)
      else (j, s)
    if j.state ≠ 2 then (0, false, s)
    else
      let band := (injLimits (theImage s) c).elim true fun l => fLe l.yLow i.y && fLe i.y l.yHigh
      let stop (n : Nat) : F64 × Bool × State := (0, false, stopInjection s c n)
      if i.yOk && !band then stop 3
      else if !i.yOk then stop 6
      else match i.track with
        | some (1, _) => stop 8
        | some (2, _) => stop 9
        | _ =>
          -- a DURATION below PERIOD has no sample to inject (R256)
          if injSamples d cmd = 0 then (0, false, injectEnd s c j)
          else
            let (v, j) := injSignal d j cmd
            (v, true, setInj s c { j with n := j.n + 1 })

/-- After an injected sample: the end of the duration (EV141), or SAT for SAT_LIMIT samples (Table 07.7). -/
def injectAfter (s : State) (c : Nat) (d : LoopDef) (sat : Nat) : State :=
  let j := injSt s c
  match j.cmd with
  | none => s
  | some cmd =>
    let run := if sat = 0 then 0 else j.satRun + 1
    if injSamples d cmd ≤ j.n then injectEnd s c j
    else
      let s := setInj s c { j with satRun := run }
      let lim := (injLimits (theImage s) c).elim 65536 (·.satLimit)
      if lim ≤ run then stopInjection s c 4 else s

/-- The inner loop of a chain takes a completed outer sample as its new target (R217). -/
def outerDone (s : State) (c : Nat) (u : F64) : State :=
  match innerOf (theImage s) c with
  | none => s
  | some (i, _) =>
    let x := loop s i
    setLoop s i { x with rampPrev := x.rNow, rampTarget := u, rampJ := 0 }

/-- The swaps of one sample (R229): a whole parameter set, then every visible set, oldest first. -/
def swapAll (s : State) (c : Nat) (d : LoopDef) (x : LoopSt) (r y h : F64) (m : LoopSt2) (acc : Int) : State × SwapSt :=
  m.due.foldl (fun (sw : State × SwapSt) q => swapOne sw.1 c d x r y h sw.2 (withSet sw.2.params q))
    (m.dueAll.elim (s, ⟨m.params, acc, none, 0⟩) fun q => swapOne s c d x r y h ⟨m.params, acc, none, 0⟩ q)

/-- What the law gives at one sample: output, unlimited output, SAT, integral, step of the output, and whether a transfer
was made. -/
structure LawOut where
  u : F64
  v : F64
  sat : Nat
  acc : Int
  step : Option F64
  transfer : Bool

/-- The output of one sample (R210 to R214, R229, Table 06.6) from the terms P, D and F; `inj` adds the injected signal at
a point. -/
def lawOut (d : LoopDef) (x : LoopSt) (i : SampleIn) (w : SwapSt) (bumpless : Bool) (pr dp ff : F64)
    (inj : Nat → F64 → F64) : LawOut :=
  let e88 := d.intExp
  let p := w.params
  let uPrev := x.u
  let lawLim := lawLimit p uPrev i.h
  match i.track with
  | some (_, tv) =>
    let (a, v) := trackOut e88 p w.acc tv pr dp ff
    ⟨tv, v, satOf tv v, a, none, false⟩
  | none =>
    if !i.yOk then
      let v := sumV pr (accVal e88 w.acc) dp ff
      ⟨uPrev, v, satOf uPrev v, w.acc, none, false⟩
    else if 1 ≤ x.mode ∧ x.mode ≤ 3 then
      if bumpless then
        let want := trackI uPrev pr dp ff
        let (a, v) := trackOut e88 p w.acc uPrev pr dp ff
        let clamped := fLt want (prm p pUMIN) || fLt (prm p pUMAX) want
        let v := inj 2 v
        let u := lawLim v
        ⟨u, v, satOf u v, a, if clamped && !fEq u uPrev then some (fSub u uPrev) else none, true⟩
      else
        let v := inj 2 (sumV pr (accVal e88 w.acc) dp ff)
        let u := lawLim v
        let uf := (w.full.map fun f => lawLim (inj 2 (sumV pr (accVal e88 f) dp ff))).getD u
        ⟨u, v, satOf u v, w.acc, if fEq u uf then none else some (fSub u uf), false⟩
    else
      let want := if x.mode = 0 then inj 1 x.manual else uPrev
      let u := lawLim want
      let (a, v) := trackOut e88 p w.acc u pr dp ff
      ⟨u, v, satOf u v, a, none, false⟩

/-- Events of one sample: a step of the output, a process value or a set-point that is no longer valid (Table 06.10). -/
def lawEvents (s : State) (c : Nat) (d : LoopDef) (x : LoopSt) (i : SampleIn) (step : Option F64) : State :=
  let s := step.elim s fun q => raise s 131 ([w32 c] ++ wF64 q)
  let s := if !i.yOk && !x.pvBad then raise s 130 [w32 c] else s
  if !i.spOk && !x.spHeld then raise s 135 [w32 c, w32 d.extSrc] else s

/-- The law of one sample (R208 to R214, R229, R230, Table 06.6), after requests, with everything that it reads. -/
def lawSample (s : State) (c : Nat) (d : LoopDef) (i : SampleIn) : State :=
  let x := loop s c
  let m := loop2 s c
  let e88 := d.intExp
  let law := decide (1 ≤ x.mode ∧ x.mode ≤ 3)
  let g := injectSample s c d i
  let sig := g.1
  let injected := g.2.1
  let s := g.2.2
  let point := ((injSt s c).cmd.map (·.point)).getD 0
  let inj (n : Nat) (v : F64) : F64 := if injected && point == n then fAdd v sig else v
  -- integration over h with the old coefficients
  let a0 := if x.restart || !i.yOk || i.track.isSome || !law then x.acc else integrate d m.params x i.innerSat i.h
  -- the set-point with the limits that are due
  let takes (p q : List F64) : List F64 := if (paramFault q).isNone then q else p
  let lim := m.due.foldl (fun p q => takes p (withSet p q)) (m.dueAll.elim m.params (takes m.params))
  let clampSp (r : F64) : F64 := fClamp (prm lim pSPMIN) (prm lim pSPMAX) r
  let rNow := clampSp i.r
  let r := if injected && point == 0 && law then clampSp (fAdd rNow sig) else rNow
  let y := i.y
  let e := fSub r y
  let sw := swapAll s c d x r y i.h m a0
  let s := sw.1
  let w := sw.2
  let p := w.params
  let swapped := decide (w.swaps ≠ 0)
  -- SAT_HELD (R230)
  let opposite := fEq e 0 || (fLt e 0 != fLt x.heldE 0)
  let held := if swapped then (if x.sat ≠ 0 ∧ !fEq e 0 then (x.sat, e) else (x.satHeld, x.heldE))
    else if x.satHeld ≠ 0 ∧ opposite then (0, x.heldE) else (x.satHeld, x.heldE)
  -- P, D, F with the coefficients now in force
  let t := lawPd p x r y i.h
  let dp := fMul (prm p pKD) t.2.2
  let ff := fFma (prm p pKFF0) i.w0 (fFma (prm p pKFF1) i.w1 i.t)
  let o := lawOut d x i w (m.bumpless || x.restart) t.1 dp ff inj
  let s := lawEvents s c d x i o.step
  -- what the sample stores; the set-point, ramp and requests were dealt with before
  let x := loop s c
  let s := setLoop s c { x with
    acc := o.acc, d := t.2.2, sPrev := t.2.1, e := e, u := o.u, v := o.v, sat := o.sat, satHeld := held.1
    heldE := held.2, rNow := rNow
    consecMiss := 0, consecPvBad := if i.yOk then 0 else min (x.consecPvBad + 1) 255
    stepped := if o.step.isSome then true else if swapped || o.transfer then false else x.stepped
    overridden := i.track.elim false fun q => q.1 == 1
    tracking := i.track.elim false fun q => q.1 != 1
    pvBad := !i.yOk, spHeld := !i.spOk, restart := false }
  let m := loop2 s c
  let cnt := bump m.counters 2 w.swaps
  let s := setLoop2 s c { m with
    bumpless := i.track.isSome || ((m.bumpless || x.restart) && law && !o.transfer) || (m.bumpless && !law)
    lastTick := s.time.tick, sampled := true, doneTick := some s.time.tick
    q := [r, y, e, t.1, accVal e88 o.acc, dp, ff, o.u], qt := i.t, qs := sig
    counters := if i.yOk then cnt else bump cnt 1
    params := p, due := [], dueAll := none
    lastY := if i.yOk then some y else m.lastY, lastSp := if i.spOk then i.r else m.lastSp }
  let s := if injected then injectAfter s c d o.sat else s
  let s := publishOut s d o.u
  let s := outerDone s c o.u
  laneUse s d.lane (loopCost d p)

/-- One sample of a due context (R209): requests and fallback, what it reads, and the law. -/
def loopSample (s : State) (c : Nat) (d : LoopDef) : State :=
  let img := theImage s
  let s := requestsDue (fallbackDue s c d) c
  let (yv, yOk) := srcVal s d.lane d.pvSrc
  let m := loop2 s c
  let y := if yOk then yv else m.lastY.getD 0
  let s := if d.spCourse && m.courseSp.isNone && m.firstY.isNone then
    setLoop2 s c { m with firstY := some (if yOk then yv else 0) } else s
  let s := rampStep s c d
  let x := loop s c
  let m := loop2 s c
  let ext := srcVal s d.lane d.extSrc
  let extOk := spUsable s d.lane d.extSrc
  let (r, spOk) :=
    if (x.mode = 0 ∨ x.mode = 4) ∧ d.spTrack then (y, true)
    else if x.mode = 2 then (cascadeSp d (cascadeK img d) x, true)
    else if x.mode = 3 then (if extOk then (ext.1, true) else (m.lastSp, false))
    else (localSp s d m, true)
  let (t, s) := tableTerm s d
  let gap := if x.restart || !m.sampled then d.period else s.time.tick - m.lastTick
  let innerSat := ((innerOf img c).map fun e => (loop s e.1).sat).getD 0
  lawSample s c d
    ⟨y, yOk, r, spOk, (srcVal s d.lane d.ff0).1, (srcVal s d.lane d.ff1).1, t, windowSecs gap, trackOf s c d, innerSat⟩

/-- The state of a context as tick mortar carries it (R234). -/
def loopMortar (s : State) (c : Nat) : LoopMortar :=
  let x := loop s c
  let m := loop2 s c
  { ctx := c, acc := x.acc, d := x.d, sPrev := x.sPrev, e := x.e, u := x.u, v := x.v, sat := x.sat, satHeld := x.satHeld
    heldE := x.heldE, rampPrev := x.rampPrev, rampTarget := x.rampTarget, rampJ := x.rampJ, consecMiss := x.consecMiss
    consecPvBad := x.consecPvBad, lastTick := m.lastTick, counters := m.counters }

/-- An ACTIVE module sends tick mortar to a standby that follows it (R339). -/
def sendsTick (s : State) : Bool := s.md.role == .active && partnerFollows s

/-- The segment of a context leaves as soon as its sample completes (R342). -/
def sendLoop (s : State) (c : Nat) : State := if sendsTick s then sendLink s 3 96 (.tickLoop (loopMortar s c)) else s

/-- A missed sample (R220): the counters rise; output and law state stay; an injection stops with cause 5. -/
def loopMiss (s : State) (c : Nat) : State :=
  let s := (loopDef (theImage s) c).elim s fun d => rampStep s c d
  let x := loop s c
  let m := loop2 s c
  let s := setLoop s c { x with consecMiss := min (x.consecMiss + 1) 255 }
  let s := setLoop2 s c { m with counters := bump m.counters 0, doneTick := some s.time.tick }
  if (injSt s c).state = 2 then stopInjection s c 5 else s

/-- The contexts of a lane that are due in this tick and have been neither evaluated nor missed, in order (R216). -/
def laneLeft (s : State) (lane : Nat) : List Nat :=
  (laneOrder (theImage s) lane s.time.tick).filter fun c => (loop2 s c).doneTick != some s.time.tick

/-- The loop engine loads set-points and feed-forward values (R45): releases that earlier commits have carried, the
output image, and the outputs of the previous tick for the other lane. -/
def loopsLoad (s : State) : State :=
  let t := s.time.tick
  let s := (s.crs.setpoints.filter fun e => decide (e.2.2 < t)).foldl
    (fun s e => setLoop2 s e.1 { loop2 s e.1 with courseSp := some e.2.1 }) s
  let s := (s.crs.modeReqs.filter fun e => decide (e.2.2 < t)).foldl
    (fun s e => setLoop2 s e.1 { loop2 s e.1 with courseReq := some e.2.1 }) s
  { s with
    crs := { s.crs with
      setpoints := s.crs.setpoints.filter fun e => decide (t ≤ e.2.2)
      modeReqs := s.crs.modeReqs.filter fun e => decide (t ≤ e.2.2) }
    loops := { s.loops with
      loaded := s.crs.out, laneNow := [0, 0]
      m := s.loops.m.map fun e => (e.1, { e.2 with prevOut := (loop s e.1).u }) } }

/-- Parameter changes that become visible at a tick boundary form one set of their context; with PARAM_GATE they wait for
APPLY (R228). -/
def paramsVisible (s : State) : State :=
  { s with loops := { s.loops with
      m := s.loops.m.map fun e =>
        let gate := (loopDef (theImage s) e.1).elim false (·.gate)
        if e.2.changes.isEmpty || (gate && e.2.applyAt.isNone) then (e.1, { e.2 with applyAt := none })
        else (e.1, { e.2 with
          changes := [], applyAt := none, due := e.2.due ++ [e.2.changes.map fun q => (q.1, q.2.1)] }) } }

end Sys2Proof.Machine
end

