-- ==== Sys2Proof/Machine/Panel.lean ====
section
/-! DEFINITION. The local alarm annunciator (chapter 18): pixel states, frame-pair boundaries, DC ledger, NTC, crack loop. -/

namespace Sys2Proof.Machine

/-- Slow flash: lit while vessel time modulo 1 s is below 500 ms (R80). -/
def slowLit (t : Nat) : Bool := decide (t % 1000000000 < 500000000)

/-- Fast flash: lit while vessel time modulo 250 ms is below 125 ms (R80). -/
def fastLit (t : Nat) : Bool := decide (t % 250000000 < 125000000)

/-- One of the four counters of 0xD004_0000. -/
def panelCount (s : State) (i : Nat) (n : Nat := 1) : State :=
  { s with panel2 := { s.panel2 with counters := bump s.panel2.counters i n } }

/-! ### Pixel conditions (R549, R550) -/

/-- Value and validity of a pixel's source word. -/
def pixelSource (s : State) (w : Nat) : Bool × Bool :=
  let i := w % 2 ^ 24
  match ioEntry (theImage s) i with
  | none => (false, false)
  | some e =>
    let v := if e.output then (tget ({} : OutCell) s.crs.out i).value else (tget ({} : InCell) s.crs.inp i).value
    (v.toNat % 2 == 1, entryValid s i e)

/-- The alarm sequence of one STYLE 1 pixel takes its present value: a new TRUE is unacknowledged; an acknowledged one
that turns FALSE is off. -/
def sequencePixel (s : State) (d : PixelDef) : State :=
  if d.kind = 2 ∧ d.alarm then
    let v := (pixelSource s d.src).1
    let q := s.panel2
    if v && !q.unacked.contains d.pixel && !q.acked.contains d.pixel then
      { s with panel2 := { q with unacked := q.unacked ++ [d.pixel] } }
    else if !v && q.acked.contains d.pixel then { s with panel2 := { q with acked := q.acked.erase d.pixel } }
    else s
  else s

/-- Condition of a pixel (Table 18.5): 0 off, 1 on, 2 fast flash, 3 slow flash. -/
def pixelCond (s : State) (d : PixelDef) : Nat :=
  match d.kind with
  | 1 => if s.ev.unacked.any fun u => u.2.1 == d.src then 2 else 0
  | 2 =>
    let (v, ok) := pixelSource s d.src
    if !ok then 3
    else if !d.alarm then (if v then 1 else 0)
    else if s.panel2.unacked.contains d.pixel then (if v then 2 else 3)
    else if v then 1 else 0
  | _ => 1

/-- The conditions of all pixels are noted with their instant when they have changed (R550); of older notes, the last one
that is at least 2 ticks old is kept. -/
def panelNote (s : State) : State :=
  if s.panel2.map.isEmpty then s
  else
    let ds := pixelDefs s.panel2.map
    let s' := ds.foldl sequencePixel s
    let now := (ds.map fun d => (d.pixel, pixelCond s' d)).filter fun e => e.2 != 0
    let s' := if s'.panel2.unacked == s.panel2.unacked && s'.panel2.acked == s.panel2.acked then s'
      else sendMortar s' (.pixels s'.panel2.unacked s'.panel2.acked)
    if (s'.panel2.hist.head?.map (·.2)) == some now then s'
    else
      let old := s'.panel2.hist.filter fun e => decide (vtime s' < e.1 + 250000)
      let last := (s'.panel2.hist.filter fun e => !decide (vtime s' < e.1 + 250000)).head?
      { s' with panel2 := { s'.panel2 with hist := (vtime s', now) :: (old ++ last.toList) } }

/-- The conditions that may be shown at an instant: those of 2 ticks ago or earlier (R550). -/
def shownConds (s : State) : List (Nat × Nat) :=
  ((s.panel2.hist.find? fun e => decide (e.1 + 250000 ≤ vtime s)).map (·.2)).getD []

/-- The pixels lit at a frame-pair boundary (R549, R556, R559, R561). -/
def litPixels (s : State) : List Nat :=
  if s.panel.lampUntil.isSome then List.range 960
  else
    let t := vtime s
    let on := ((shownConds s).filter fun e => e.2 == 1 || (e.2 == 2 && fastLit t) || (e.2 == 3 && slowLit t)).map (·.1)
    let trust := mapTrust s.panel2.map
    let on := on.filter (· != trust)
    if trust = 0xFFFF ∨ s.panel.untrusted then on else on ++ [trust]

/-- An acknowledgement reaches the pixels (R549, R596) and, after 100 valid measurements, trust (R559). -/
def panelAck (s : State) : State :=
  let q := s.panel2
  let true_ := (pixelDefs q.map).filter fun d => q.unacked.contains d.pixel && (pixelSource s d.src).1
  let s := if q.unacked.isEmpty then s else
    let s := { s with panel2 := { q with unacked := [], acked := q.acked ++ true_.map (·.pixel) } }
    sendMortar s (.pixels s.panel2.unacked s.panel2.acked)
  if s.panel.untrusted ∧ 100 ≤ s.panel.validRun then
    sendMortar (raise { s with panel := { s.panel with untrusted := false, crackCause := 0 } } 249) (.untrusted false)
  else s

/-! ### The DC ledger (R552 to R556). Unit: a quarter of a millivolt for one PANEL cycle. -/

/-- 40 µV·s, 20,000 µV·s and the reporting unit of 4 µV·s. -/
def ledgerLimit : Nat := 327680
def ledgerAlarm : Nat := 163840000
def ledgerUnit : Nat := 32768

/-- The nearest whole number of times that b goes into a. -/
def nearest (a b : Nat) : Nat :=
  let q := a / b
  let r := a % b
  if 2 * r < b then q else if b < 2 * r then q + 1 else if Config.tieUp q then q + 1 else q

/-- A ledger after the correction of at most n cycles of V/4 (R554). -/
def corrected (v n : Nat) (l : Int) : Int :=
  let m : Int := (min (nearest l.natAbs v) n * v : Nat)
  if 0 ≤ l then l - m else l + m

/-- Every pixel's ledger within a limit. -/
def ledgerWithin (lim : Nat) (t : Tab Int) : Bool := t.all fun e => decide (e.2.natAbs ≤ lim)

/-- The ledger after k compensation frames of a band. -/
def compensated (d : BandDef) (k : Nat) (t : Tab Int) : Tab Int :=
  (t.map fun e => (e.1, (List.range k).foldl (fun l _ => corrected d.vop d.slot l) e.2)).filter fun e => e.2 != 0

/-- The number of compensation frames at a boundary (R553). -/
def compFrames (d : BandDef) (t : Tab Int) : Nat :=
  if ledgerWithin ledgerLimit t then 0
  else if ledgerWithin ledgerLimit (compensated d 1 t) then 1
  else if ledgerWithin ledgerLimit (compensated d 2 t) then 2
  else if ledgerWithin ledgerLimit (compensated d 3 t) then 3
  else 4

/-- Voltage of a pixel in slot j (0 to 15) of a frame pair (Table 18.1), in quarters of a millivolt. -/
def pairVolt (v : Nat) (lit : List Nat) (j pixel : Nat) : Int :=
  let c := j % 8
  let a : Int := if pixel % 8 = c then (if lit.contains pixel then 4 * v else 2 * v)
    else if lit.contains (pixel / 8 * 8 + c) then v else -v
  if j < 8 then a else -a

/-- The volt-seconds that n cycles of drive from a position of the pair on add to a pixel. -/
def pairWave (d : BandDef) (lit : List Nat) (pixel : Nat) : Nat → Nat → Nat → Int
  | 0, _, _ => 0
  | fuel + 1, pos, n =>
    let m := min n (d.slot - pos % d.slot)
    if n = 0 ∨ m = 0 then 0
    else m * pairVolt d.vop lit (pos / d.slot % 16) pixel + pairWave d lit pixel fuel (pos + m) (n - m)

/-- A ledger after n cycles of a compensation frame from a position on (R554). -/
def compWave (d : BandDef) (pixel : Nat) : Nat → Nat → Nat → Int → Int
  | 0, _, _, l => l
  | fuel + 1, pos, n, l =>
    let m := min n (d.slot - pos % d.slot)
    if n = 0 ∨ m = 0 then l
    else compWave d pixel fuel (pos + m) (n - m) (if pos / d.slot % 8 = pixel % 8 then corrected d.vop m l else l)

/-- A ledger held as a whole number of reporting units (R552, worked example of chapter 18). -/
def inUnits (l : Int) : Int :=
  let m : Int := (nearest l.natAbs ledgerUnit * ledgerUnit : Nat)
  if 0 ≤ l then m else -m

/-- The ledger of a pixel after n cycles of drive from a position of a compensation frame or of a pair on. -/
def ledgerAfter (d : BandDef) (comp : Bool) (lit : List Nat) (pixel pos n : Nat) (l : Int) : Int :=
  let fuel := n / 2000 + 2
  if comp then compWave d pixel fuel pos n l else l + pairWave d lit pixel fuel pos n

/-- PANEL cycles in a time of ns: 2.048 MHz. -/
def panelCycles (ns : Nat) : Nat := ns * 32 / 15625

/-- The ledger that a tick frame carries (R552): units of 4 µV·s, 16-bit signed, saturating; pixels at 0 are not listed. -/
def ledgerUnits (t : Tab Int) : List (Nat × Int) :=
  (t.map fun e => (e.1, max (-32767) (min 32767 (inUnits e.2 / ledgerUnit)))).filter fun e => e.2 != 0

/-- PANEL position at phase 90 µs of this tick: compensating or not, and the cycles since the frame or pair began (R556); none
while the driver is released. -/
def panelPosition (s : State) : Option (Bool × Nat) :=
  if s.panel.driving then some (s.panel.comp != 0, panelCycles (s.time.tick * tickNs + 90000 - s.panel2.pairAt)) else none

/-- The ledger at that instant: what the boundary left, and the drive since. -/
def ledgerNow (s : State) : List (Nat × Int) :=
  match panelPosition s with
  | none => ledgerUnits s.panel.ledger
  | some (comp, n) =>
    let d := bandDef s.panel2.map s.panel.band
    ledgerUnits ((List.range 960).map fun p => (p, ledgerAfter d comp s.panel.shown p 0 n (tget 0 s.panel.ledger p)))

/-- The ledger of a tick frame, as the module keeps it. -/
def frameLedger (f : TickMortar) : Tab Int := f.ledger.map fun e => (e.1, e.2 * ledgerUnit)

/-- At the detection of an abdication the ledger continues (R556): that of the last complete tick frame, and the old
module's waveform from the recorded instant on, with the pixels as this module would show them. -/
def ledgerCarry (s : State) : State :=
  match s.mortar.tick with
  | none => s
  | some f =>
    let base := frameLedger f
    match f.panel with
    | none => { s with panel := { s.panel with ledger := base } }
    | some (comp, pos) =>
      let d := bandDef s.panel2.map f.band
      let n := panelCycles ((s.time.tick - f.tick) * tickNs + s.time.phase - 90000)
      let lit := litPixels s
      let t := (List.range 960).map fun p => (p, inUnits (ledgerAfter d comp lit p pos n (tget 0 base p)))
      { s with panel := { s.panel with ledger := t.filter fun e => e.2 != 0 } }

/-- A new active takes the ledger of the old one's tick frames until it drives the panel itself (R557). -/
def ledgerTake (s : State) : State :=
  match s.mortar.tick with
  | some f => if s.panel.driving then s else { s with panel := { s.panel with ledger := frameLedger f } }
  | none => s

/-! ### Frame-pair boundaries (R545, R553, R555, R557) -/

/-- Band, bias and map decided take effect (R551, R553). A new map keeps the band in force; before the first valid reading it
brings its DEFAULT_BAND (R547). -/
def takeBand (s : State) : State :=
  let b := s.panel.decided.getD s.panel.band
  match s.panel2.mapDue with
  | none => { s with panel := { s.panel with band := b, decided := none, bias := mapBias s.panel2.map } }
  | some m => { s with
      panel := { s.panel with
        band := if m.isEmpty then 7 else if s.panel.anyReading then min b 4 else mapDefaultBand m
        decided := none, bias := !m.isEmpty && mapBias m }
      panel2 := { s.panel2 with map := m, mapDue := none } }

/-- The driver is released at a frame-pair boundary: after a role swap (R557), or because a new image has no map (R548). -/
def releasePanel (s : State) : State :=
  { s with
    panel := { s.panel with driving := false, inPair := false, comp := 0, shown := [], lampUntil := none, lampDue := false } }

/-- The pixels that the next pair shows are decided at the boundary (R549, R561). -/
def decidePixels (s : State) : List Nat :=
  litPixels { s with panel := { s.panel with
    lampUntil := if s.panel.lampDue then some s.time.tick else s.panel.lampUntil.filter fun t => decide (s.time.tick < t) } }

/-- A pair of display data starts with the pixels decided; a lamp test among them starts with it. -/
def startPair (s : State) (lit : List Nat) : State :=
  let lamp := s.panel.lampDue && lit.length == 960
  { s with panel := { s.panel with
    lampUntil := if lamp then some (s.time.tick + 16000) else s.panel.lampUntil.filter fun t => decide (s.time.tick < t)
    lampDue := s.panel.lampDue && !lamp, shown := lit, inPair := true } }

/-- FRAME_PAIR_BOUNDARY (R553): the end of a pair, or of the compensation frames that a boundary has inserted. A pair
leaves the ledger as it was; compensation frames correct it, and what has changed during them waits for the next boundary. -/
def execFramePairBoundary (at_ : Nat) (s : State) : Host.Outcome State Fault Refusal :=
  .next <|
    if !s.panel.driving && !s.panel.starting then s
    else
      let s := setPhase s at_
      let s := { s with panel2 := { s.panel2 with pairAt := nowNs s } }
      if s.panel2.releasing then
        let s := releasePanel s
        { s with panel2 := { s.panel2 with releasing := false, releasedAt := some s.time.tick } }
      else
        let s := { s with panel := { s.panel with driving := true, starting := false } }
        if s.panel.comp ≠ 0 then
          let t := compensated (bandDef s.panel2.map s.panel.band) s.panel.comp s.panel.ledger
          let s := panelCount s 1 s.panel.comp
          let s := if ledgerWithin ledgerAlarm t then s else raise s 250 [3]
          startPair { s with panel := { s.panel with ledger := t, comp := 0 } } s.panel2.next
        else
          let s := takeBand s
          if s.panel2.map.isEmpty then releasePanel s
          else
            let k := compFrames (bandDef s.panel2.map s.panel.band) s.panel.ledger
            let lit := decidePixels s
            if k = 0 then startPair s lit
            else { s with
              panel := { s.panel with comp := k, inPair := false, shown := [] }
              panel2 := { s.panel2 with next := lit } }

/-! ### NTC, crack loop, lamp test (R547, R558, R559, R561) -/

/-- The panel is served: an annunciator map is in force and the mode is one that runs the image. -/
def panelServed (s : State) : Bool := !s.panel2.map.isEmpty && evaluates s.md.mode

/-- NTC_READ (R547). EV251 brings the temperature, and EV248 the loop resistance, as a binary64 as their object does (Table 18.8;
DEDUCED, assumption 103). -/
def execNtcRead (deciC : Int) (at_ : Nat) (s : State) : Host.Outcome State Fault Refusal :=
  .next <|
    if !panelServed s then s
    else
      let s := setPhase s at_
      if deciC < -500 ∨ 1000 < deciC then
        let s' := { s with panel := { s.panel with ntcFault := true, rise := 0, fall := 0 } }
        if s.panel.ntcFault then s' else raise (panelCount s' 3) 250 [2]
      else
        let p := s.panel
        let cur := p.decided.getD p.band
        let m := s.panel2.map
        let up := count1' (decide ((bandDef m cur).upper ≤ deciC) && decide (cur < 4)) p.rise
        let down := count1' (decide (0 < cur) && decide (deciC < (bandDef m (cur - 1)).upper - 20)) p.fall
        let p := { p with temp := deciC, ntcFault := false, anyReading := true, rise := up, fall := down }
        let go (new : Nat) : State :=
          raise (panelCount { s with panel := { p with decided := some new, rise := 0, fall := 0 } } 0) 251
            (w32 cur :: w32 new :: wF64 (fDiv (fOfInt deciC) (fOfInt 10)))
        if 3 ≤ up then go (cur + 1) else if 3 ≤ down then go (cur - 1) else { s with panel := p }
where
  /-- a run counter -/
  count1' (b : Bool) (n : Nat) : Nat := if b then n + 1 else 0

/-- Outcome of a crack loop reading (Table 18.6): 0 valid, 1 marginal, 2 above 10 kΩ, 3 coupled, 4 below 50 Ω. -/
def loopOutcome (ohms mv : Nat) : Nat :=
  if 10000 < ohms then 2 else if 500 < mv then 3 else if ohms < 50 then 4 else if 2000 < ohms then 1 else 0

/-- CRACK_LOOP_MEASURE (R558, R559): a condition is recognised after 3 consecutive readings. -/
def execCrackLoopMeasure (ohms mv at_ : Nat) (s : State) : Host.Outcome State Fault Refusal :=
  .next <|
    if !s.panel.driving then s
    else
      let s := setPhase s at_
      let p := s.panel
      let k := loopOutcome ohms mv
      let run := if p.loopKind = k then p.loopRun + 1 else 1
      let p := { p with ohms := ohms, loopKind := k, loopRun := run, validRun := if k = 0 then p.validRun + 1 else 0 }
      let s := { s with panel := p }
      if run < 3 then s
      else if k = 0 then { s with panel := { p with marginal := false } }
      else if k = 1 then
        if p.marginal then s else raise { s with panel := { p with marginal := true } } 250 [1]
      else if p.untrusted ∧ p.crackCause = k - 1 then { s with panel := { p with marginal := false } }
      else
        let s := panelCount { s with panel := { p with marginal := false, untrusted := true, crackCause := k - 1 } } 2
        sendMortar (raise s 248 (w32 (k - 1) :: wF64 (fOfInt ohms))) (.untrusted true)

/-- LAMP_TEST (R561): accepted while DRIVING reads 1; it starts at the next frame-pair boundary. -/
def execLampTest (r : Req) (s : State) : Host.Outcome State Fault Refusal :=
  .next <| hostCommand s r 0xD0050000 fun s =>
    if !inControl s then refuse s r 0xD0050000 rfRole
    else if !s.panel.driving then refuse s r 0xD0050000 rfMode
    else reply { s with panel := { s.panel with lampDue := true } } r 0xD0050000 stDone

end Sys2Proof.Machine
end

