-- ==== Sys2Proof/Machine/SafeStop.lean ====
section
/-! DEFINITION. The safety function (chapter 11): the latch of the safety channels, the decision of phase 35 µs, test
pulses, permit read-back, ring safety connections, safety reset and the DEGRADED countdown. -/

namespace Sys2Proof.Machine

def siSt (s : State) (i : Nat) : SiSt := tget {} s.safe.si i
def setSi (s : State) (i : Nat) (x : SiSt) : State := { s with safe := { s.safe with si := tset s.safe.si i x } }
def axSt (s : State) (j : Nat) : AxisSt := tget {} s.safe.axis j
def setAx (s : State) (j : Nat) (x : AxisSt) : State := { s with safe := { s.safe with axis := tset s.safe.axis j x } }
def connSt (s : State) (k : Nat) : ConnSt := tget {} s.safe.conn k
def setConn (s : State) (k : Nat) (x : ConnSt) : State := { s with safe := { s.safe with conn := tset s.safe.conn k x } }

/-- One of the eight counters of 0x8006_0000 is raised (R396). -/
def safeCount (s : State) (i : Nat) : State := { s with safe := { s.safe with counters := bump s.safe.counters i } }

/-- The channel whose view is reported and acted on where one is asked for: A, or B once A is lost (R395, DEDUCED). -/
def leadB (s : State) : Bool := !s.safe.chA && s.safe.chB

/-- States of a and b of an input as the leading channel latched them. -/
def siView (s : State) (i : Nat) : Bool × Bool :=
  let x := siSt s i
  if leadB s then (x.aB, x.bB) else (x.a, x.b)

/-! ### The latch of phase 0 µs (R373, R376, R379, R392) -/

/-- A safety reset has been seen and acts at the latch of a tick (R392). -/
def seeReset (s : State) (source tick : Nat) : State := { s with safe := { s.safe with resetSeen := some (source, tick) } }

/-- A change of a reset source's state between two evaluations (R392): the new start of d, and whether a reset is seen. -/
def resetEdge (level : Option Bool) (since : Option Nat) (now : Nat) (v : Bool) : Option Nat × Bool :=
  match level, v with
  | some false, true => (some now, false)
  | some true, false => (none, since.elim false fun t => decide (400 ≤ now - t ∧ now - t < 16000))
  | none, _ => (none, false)
  | _, _ => (since, false)

/-- One safety input at a latch. -/
def latchSi (s : State) (l : Latch) (i : Nat) : State :=
  let va := l.siA.getD i (false, false)
  let vb := l.siB.getD i (false, false)
  let x := siSt s i
  let zero := (!s.safe.chA || (!va.1 && !va.2)) && (!s.safe.chB || (!vb.1 && !vb.2))
  let agree := (!s.safe.chA || va.1 == va.2) && (!s.safe.chB || vb.1 == vb.2)
  let s := setSi s i { x with
    a := va.1, b := va.2, aB := vb.1, bB := vb.2
    agreedZero := x.agreedZero || (x.discFault && zero)
    passes := if agree then x.passes else 0 }
  let g := safeGen (theImage s)
  if g.resetSrc = 1 ∧ g.resetIndex = i then
    let v := siView s i
    let e := resetEdge x.level x.since s.time.tick (v.1 && v.2)
    let s := setSi s i { siSt s i with level := some (v.1 && v.2), since := e.1 }
    if e.2 then seeReset s 1 (s.time.tick + 1) else s
  else s

/-- The safety channels' latch of phase 0 µs: the used inputs, and position counts in channel B's path (R369). -/
def latchSafety (s : State) (l : Latch) : State :=
  if evaluates s.md.mode then
    let s := (siDefs (theImage s)).foldl (fun s e => latchSi s l e.1) s
    { s with safe := { s.safe with posB := (List.range 2).map fun p =>
      (l.posB.getD p 0 :: s.safe.posB.getD p []).take 3 } }
  else s

/-! ### Losses (R371, R374, R394) -/

/-- A compare fault (R370): latched, EV073 with the datum, OASIS. -/
def compareFault (s : State) (datum : Nat) : State :=
  if s.safe.compareFault then s
  else oasisReaction (raise { s with safe := { s.safe with compareFault := true } } 73 [Config.datumCode 73 datum])

/-- A safety channel is lost (R371): the first loss starts the countdown of DEGRADED; the second leaves nothing to stand on
(R394). The mode follows at the end of the decision (R67). -/
def loseChannel (s : State) (b : Bool) (cause : Nat) : State :=
  if (if b then s.safe.chB else s.safe.chA) then
    let s := { s with safe := { s.safe with
      chA := s.safe.chA && b, chB := s.safe.chB && !b
      loss := if s.safe.loss = 0 then (if b then 2 else 1) else s.safe.loss
      si := s.safe.si.map fun e => (e.1, { e.2 with level := none, since := none })
      conn := s.safe.conn.map fun e => (e.1, { e.2 with level := none, since := none }) } }
    let s := raise s 72 [Config.argCode 72 (if b then 2 else 1), Config.argCode 72 (16 + cause)]
    let s := startCountdown s
    if !s.safe.chA && !s.safe.chB then compareFault s 255 else s
  else s

/-- Channel losses at the compare of a tick: causes shown, and compare data missing in two consecutive ticks. -/
def safeLosses (s : State) (lossA lossB : Nat) (dataA dataB : Bool) : State :=
  let s := { s with safe := { s.safe with
    missedA := count1 (!dataA) s.safe.missedA, missedB := count1 (!dataB) s.safe.missedB } }
  let s := if lossA ≠ 0 then loseChannel s false lossA
    else if 2 ≤ s.safe.missedA then loseChannel s false 4 else s
  if lossB ≠ 0 then loseChannel s true lossB
  else if 2 ≤ s.safe.missedB then loseChannel s true 4 else s

/-! ### Ring safety connections (R389) -/

/-- The containers of kinds 1 and 2 pass: 16 bytes, right CRC, and a counter that is new (0: the CRC, 1: the counter is
at fault). A connection that has accepted none yet has no last COUNTER to compare with (DEDUCED). -/
def containerFault (d : ConnDef) (x : ConnSt) (b : Bytes) : Option Nat :=
  let step := (le b 8 2 + 65536 - x.counter) % 65536
  if b.length < 16 ∨ crcSafety (toLe 4 d.ident ++ b.take 12) ≠ BitVec.ofNat 32 (le b 12 4) then some 0
  else if x.seen ∧ ¬ (0 < step ∧ step ≤ d.wd) then some 1
  else none

/-- One container of a connection is accepted or rejected. -/
def takeContainer (k : Nat) (d : ConnDef) (s : State) (b : Bytes) : State :=
  let x := connSt s k
  match containerFault d x b with
  | none => setConn s k { x with
      counter := le b 8 2, seen := true, expired := false, valid := true, rejecting := false
      data := BitVec.ofNat 64 (le b 0 8), lastTick := s.time.tick
      level := if x.expired then none else x.level }
  | some f =>
    let s := safeCount (setConn s k { x with rejecting := true }) 6
    if x.rejecting then s else raise s 76 [w32 k, Config.argCode 76 f]

/-- A KIND 1 connection demands: no accepted container, watchdog expired, or its bit 0 is 0 (Table 11.4). -/
def connDemands (x : ConnSt) : Bool := !x.valid || !x.data.getLsbD 0

/-- The reset source of RESET_SRC 2 at an evaluation (R392). -/
def connReset (s : State) (k : Nat) : State :=
  let g := safeGen (theImage s)
  if g.resetSrc = 2 ∧ g.resetIndex = k then
    let x := connSt s k
    let v := !connDemands x
    let e := resetEdge x.level x.since s.time.tick v
    let s := setConn s k { x with level := some v, since := e.1 }
    if e.2 then seeReset s 2 (s.time.tick + 1) else s
  else s

/-- Every connection of kind 1 or 2 at the evaluation of a tick. -/
def evalConns (s : State) : State :=
  (connDefs (theImage s)).foldl (fun s e =>
    if e.2.kind = 3 then s
    else
      let bs := (connSt s e.1).arrived
      let s := setConn s e.1 { connSt s e.1 with arrived := [] }
      connReset (bs.foldl (fun s b => takeContainer e.1 e.2 s b.1) s) e.1) s

/-! ### Inputs (R370, R372, R377) -/

/-- The discrepancy count of one safety channel at a latch (R377); none is counted with a channel lost (R374). -/
def discStep (x : SiSt) (a b : Bool) (disc : Nat) : Nat :=
  if x.lostA || x.lostB then 0 else if a != b then min (disc + 1) 65535 else 0

/-- An input demands in the view of one safety channel, on the channels that are not lost. -/
def siRaw (x : SiSt) (a b : Bool) : Bool := (x.lostA && x.lostB) || (!a && !x.lostA) || (!b && !x.lostB)

/-- One used input at phase 35 µs: its discrepancy rule on each live channel, its demand, and the compare of readings. -/
def evalSi (s : State) (i : Nat) (d : SiDef) : State :=
  let x := siSt s i
  let dA := if s.safe.chA then discStep x x.a x.b x.disc else x.disc
  let dB := if s.safe.chB then discStep x x.aB x.bB x.discB else x.discB
  let hitA := s.safe.chA && dA == d.discT + 1 && dA != x.disc
  let hitB := s.safe.chB && dB == d.discT + 1 && dB != x.discB
  let hit := hitA || hitB
  let fault := x.discFault || hit
  let raw := fault || (s.safe.chA && siRaw x x.a x.b) || (s.safe.chB && siRaw x x.aB x.bB)
  let waiting := x.waiting || (d.manual && raw)
  let run := count1 (s.safe.chA && s.safe.chB && (x.a != x.aB || x.b != x.bB)) x.diffRun
  let s := setSi s i { x with
    disc := dA, discB := dB, discFault := fault, agreedZero := x.agreedZero && !hit
    waiting := waiting, demand := raw || waiting, diffRun := run }
  let s := if hit then raise (safeCount s 3) 68 [w32 i, w32 (d.discT + 1)] else s
  if 3 ≤ run then compareFault s i else s

/-! ### Speeds (R385, R387) -/

/-- The safety speed of a position input from its counts, newest first. -/
def safetySpeed (e : IoEntry) (xs : List Int) (ws : Nat) : F64 :=
  match xs[0]?, xs[ws]? with
  | some n, some m => velocity (posScaled e n) (posScaled e m) ws
  | _, _ => 0

/-- The speed of a source is valid: valid for more than W_S latches (R387). -/
def speedValid (s : State) (d : AxisDef) : Bool :=
  decide (d.ws < s.loops.posGood.getD d.src 0) && !s.field.fault

/-- |v| differs from the drive's speed by more than XCHK_TOL (R387); no comparison without valid data of both. -/
def xchkBad (s : State) (d : AxisDef) (valid : Bool) (v : F64) : Bool :=
  let c := connSt s d.conn
  d.conn != 0xFF && valid && c.valid && fLt d.xchkTol (fAbs (fSub (fAbs v) c.data))

/-- One FUNC 2 axis's speeds at phase 35 µs: EV082, the compare of readings, the cross-check. -/
def evalSpeed (s : State) (j : Nat) (d : AxisDef) : State :=
  if d.ss1 then
    match ioByKind (theImage s) (0x48 + d.src) [10] with
    | none => setAx s j { axSt s j with valid := false }
    | some (_, e) =>
      let x := axSt s j
      let valid := speedValid s d
      let v := safetySpeed e (s.loops.pos.getD d.src []) d.ws
      let vB := safetySpeed e (s.safe.posB.getD d.src []) d.ws
      let run := count1 (s.safe.chA && s.safe.chB && valid && !fEq v vB) x.diffRun
      let runA := count1 (s.safe.chA && xchkBad s d valid v) x.xchkRun
      let runB := count1 (s.safe.chB && xchkBad s d valid vB) x.xchkRunB
      let hit := !x.xchk && decide (d.conn ≠ 0xFF ∧ (d.xchkTime ≤ runA ∨ d.xchkTime ≤ runB))
      let lead := if leadB s then vB else v
      let s' := setAx s j { x with
        v := v, vB := vB, valid := valid, diffRun := run, xchkRun := runA, xchkRunB := runB, xchk := x.xchk || hit }
      let s' := if x.valid && !valid then raise s' 82 [w32 j] else s'
      let s' := if hit then
        raise s' 75 (w32 j :: wF64 (fAbs (fSub (fAbs lead) (connSt s d.conn).data))) else s'
      if 3 ≤ run then compareFault s' (8 + d.src) else s'
  else s

/-! ### Axes (R385, R386) -/

/-- 125 µs in seconds, times a number of ticks. -/
def tickSecs (n : Nat) : F64 := fOfRat (125 * n) 1000000

/-- The envelope of an SS1 at a tick (R385). -/
def envelope (d : AxisDef) (v0 : F64) (ts now : Nat) : F64 :=
  fSub (fAdd v0 d.vTol) (fMul d.aEnv (tickSecs (now - ts - d.tDelay)))

/-- The demand on an axis: its cause of Table 11.10 and whether it asks for STO at once. -/
def axisDemand (s : State) (j : Nat) (d : AxisDef) : Option (Nat × Bool) :=
  let x := axSt s j
  if x.xchk && d.xchkSto then some (5, true)
  else if (siDefs (theImage s)).any (fun e => d.demand.testBit e.1 && (siSt s e.1).demand) then some (1, false)
  else if (connDefs (theImage s)).any (fun e =>
      d.ringDemand.testBit e.1 && e.2.kind == 1 && connDemands (connSt s e.1)) then some (2, false)
  else if x.xchk then some (5, false)
  else if s.safe.expired then some (7, false)
  else none

/-- A latched fault of an axis (R385): compare fault, cross-check fault, permit fault. -/
def axisFault (s : State) (j : Nat) : Bool :=
  let x := axSt s j
  s.safe.compareFault || x.xchk || x.pfaultA || x.pfaultB

/-- What one safety channel decides for an axis. -/
structure AxisRes where
  state : Nat
  cause : Nat
  ts : Nat
  v0 : F64
  run : Nat
  env : F64
  evs : List (Nat × List W32)
  deriving DecidableEq, Repr

/-- STO is taken for a cause (EV064 from PERMITTED). -/
def axisSto (r : AxisRes) (j cause : Nat) : AxisRes :=
  if r.state = 3 then r
  else { r with
    state := 3, cause := cause, evs := if r.state = 1 then r.evs ++ [(64, [w32 j, w32 cause])] else r.evs }

/-- The demand of a tick acts on an axis (R385). -/
def axisTake (d : AxisDef) (j now : Nat) (valid : Bool) (v : F64) (dem : Option (Nat × Bool)) (r : AxisRes) : AxisRes :=
  match dem with
  | none => r
  | some (c, sto) =>
    if r.state = 1 ∧ d.ss1 ∧ valid ∧ !sto then
      { r with
        state := 2, cause := c, ts := now, v0 := fAbs v, run := 0
        evs := r.evs ++ [(65, w32 j :: w32 c :: wF64 (fAbs v))] }
    else if r.state = 1 ∨ (r.state = 2 ∧ sto) then axisSto r j c
    else r

/-- An SS1 at a tick (R385). -/
def axisSs1 (d : AxisDef) (j now : Nat) (valid : Bool) (v : F64) (r : AxisRes) : AxisRes :=
  if r.state = 2 then
    let env := envelope d r.v0 r.ts now
    let r := { r with env := env }
    let stop (c : Nat) (ev : Nat × List W32) (r : AxisRes) : AxisRes :=
      let q := axisSto r j c
      { q with evs := q.evs ++ [ev] }
    if !valid then stop 6 (66, [w32 j, w32 6]) r
    else if fLt env (fAbs v) then stop 4 (67, w32 j :: (wF64 v ++ wF64 env)) r
    else
      let run := count1 (fLe (fAbs v) d.vStop) r.run
      let r := { r with run := run }
      if d.stopTicks ≤ run then stop 10 (66, [w32 j, w32 10]) r
      else if d.tMax ≤ now - r.ts then stop 11 (66, [w32 j, w32 11]) r
      else r
  else r

/-- One safety channel's decision for an axis (R385), from the axis's state and that channel's speed. -/
def axisDecide (s : State) (j : Nat) (d : AxisDef) (isB : Bool) : AxisRes :=
  let x := axSt s j
  let now := s.time.tick
  let v := if isB then x.vB else x.v
  let dem := axisDemand s j d
  let r : AxisRes := ⟨x.state, x.cause, x.ts, if isB then x.v0B else x.v0, if isB then x.stopRunB else x.stopRun, x.env, []⟩
  let r := if s.safe.compareFault then axisSto r j 8
    else if x.pfaultA || x.pfaultB then axisSto r j 9 else r
  let r := axisSs1 d j now x.valid v (axisTake d j now x.valid v dem r)
  if r.state = 3 ∧ dem = none ∧ !axisFault s j ∧ (!d.manual || x.released) then { r with state := 1 } else r

/-- The sign of a speed: −1, 0 or +1. -/
def signOf (v : F64) : Int := if fLt 0 v then 1 else if fLt v 0 then -1 else 0

/-- The decision of both channels for an axis: the more restrictive state of the live channels (R370). -/
def axisOwn (s : State) (j : Nat) (d : AxisDef) : State :=
  let x := axSt s j
  let ra := axisDecide s j d false
  let rb := axisDecide s j d true
  let r := if !s.safe.chA then rb else if !s.safe.chB then ra else if ra.state < rb.state then rb else ra
  let began := r.state = 2 ∧ x.state ≠ 2
  let startB := if rb.state = 2 then rb.v0 else x.v0B
  let s := setAx s j { x with
    state := r.state, own := r.state, cause := r.cause, ts := r.ts
    v0 := if began then ra.v0 else x.v0
    v0B := if began then startB else x.v0B
    s0 := if began then signOf (if leadB s then x.vB else x.v) else x.s0
    stopRun := ra.run, stopRunB := rb.run, env := r.env
    released := x.released && (axisDemand s j d).isNone }
  let s := if x.state = 1 ∧ (axisDemand s j d).isSome then safeCount s 0 else s
  r.evs.foldl (fun s e =>
    let s := if e.1 = 65 then safeCount s 1 else if e.1 = 67 then safeCount s 2 else s
    raise s e.1 e.2) s

/-- Adoption of the partner's state of the last tick (R383), the axis having been in state `before`. -/
def axisAdopt (s : State) (j before own0 : Nat) : State :=
  let x := axSt s j
  match x.partner with
  | none => setAx s j { x with mismatch := 0 }
  | some (ps, pts, pv) =>
    let run := count1 (decide (ps ≠ own0)) x.mismatch
    let x := { x with mismatch := run, partner := none }
    let s := setAx s j x
    let s := if run = 8 then raise s 74 [w32 j] else s
    if ps ≤ x.state then s
    else if ps = 2 then
      let s := setAx s j { x with
        state := 2, cause := 3, ts := pts, v0 := pv, v0B := pv, stopRun := 0, stopRunB := 0
        s0 := signOf (if leadB s then x.vB else x.v) }
      if before = 2 then s else raise (safeCount s 1) 65 (w32 j :: w32 3 :: wF64 pv)
    else if before = 3 then setAx s j { x with state := 3 }
    else
      let s' := setAx s j { x with state := 3, cause := 3 }
      if x.state = 1 ∧ before = 1 then raise s' 64 [w32 j, w32 3] else s'

/-- Permits follow the safety decision (R380, Table 02.1); a failed switch drops the axis (R381). -/
def axisSwitches (s : State) (j : Nat) : State :=
  let x := axSt s j
  let on := (x.state == 1 || x.state == 2) && s.md.mode != .sync && evaluates s.md.mode
  setAx s j { x with
    swA := on, swB := on, released := x.released && x.state != 1 }

/-- One used axis at phase 35 µs. -/
def evalAxis (s : State) (j : Nat) (d : AxisDef) : State :=
  let before := (axSt s j).state
  let own0 := (axSt s j).own
  axisSwitches (axisAdopt (axisOwn s j d) j before own0) j

/-- Each unit of a pair sends its axis states of this tick to the other (R383). -/
def sendAxes (s : State) : State :=
  if !onTwin s || s.pair.noCommon then s
  else sendLink s 2 (Config.frameBytes 2) (.safetyState ((axisDefs (theImage s)).map fun e =>
    let x := axSt s e.1
    (e.1, x.own, x.ts, x.v0)))

/-- Every used axis is in STO. -/
def allSto (s : State) : Bool := (axisDefs (theImage s)).all fun e => (axSt s e.1).state == 3

/-- SAFETY_DECISION (R370, R371, R377, R383, R385): losses, ring data, inputs, speeds, axes, and what follows for the
mode; once in a tick. Of OASIS and DEGRADED in one tick, OASIS is taken (R67). -/
def execSafetyDecision (lossA lossB : Nat) (dataA dataB : Bool) (s : State) : Host.Outcome State Fault Refusal :=
  .next <|
    if !evaluates s.md.mode || s.safe.evalTick == some s.time.tick then s
    else
      let s := setPhase s 35000
      let s := { s with safe := { s.safe with evalTick := some s.time.tick } }
      let had := (s.safe.chA, s.safe.chB)
      let s := safeLosses s lossA lossB dataA dataB
      let lost := (s.safe.chA, s.safe.chB) != had
      let s := evalConns s
      let s := (siDefs (theImage s)).foldl (fun s e => evalSi s e.1 e.2) s
      let s := (axisDefs (theImage s)).foldl (fun s e => evalSpeed s e.1 e.2) s
      let s := (axisDefs (theImage s)).foldl (fun s e => evalAxis s e.1 e.2) s
      let s := sendAxes s
      let s := { s with safe := { s.safe with
        pairMismatch := (axisDefs (theImage s)).any fun e => (axSt s e.1).mismatch != 0 } }
      let s := if lost || (s.md.mode == .run && s.safe.expiry.isSome) then degradedMode s else s
      if s.md.mode == .degraded && s.safe.expired && allSto s then oasisReaction s else s

/-- PARTNER_AXIS_STATE_RECEIVE (R383): the partner's states of this tick wait for the next decision. -/
def execPartnerAxisStateReceive (axes : List (Nat × Nat × F64)) (s : State) : Host.Outcome State Fault Refusal :=
  .next <|
    if !onTwin s || !evaluates s.md.mode then s
    else axes.zipIdx.foldl (fun s e =>
      match axisDef (theImage s) e.2 with
      | some _ => setAx s e.2 { axSt s e.2 with partner := some e.1 }
      | none => s) s

/-! ### Test pulses and permit read-back (R374, R376, R381) -/

/-- A pulse of a source is due in this tick, or was in the last one (its window ends at phase 115 µs of the next). -/
def pulseDue (s : State) (input channel : Nat) : Bool :=
  let p := (safeGen (theImage s)).tpPeriod
  let at_ (t : Nat) : Bool := decide (t % p = (2 * input + channel) * (p / 16))
  at_ s.time.tick || at_ (s.time.tick - 1)

/-- One channel of a safety input is lost (R374). -/
def loseInput (s : State) (i channel : Nat) : State :=
  let x := siSt s i
  let s := setSi s i { x with
    lostA := x.lostA || channel == 0, lostB := x.lostB || channel == 1, restored := false, passes := 0, disc := 0, discB := 0
    level := none, since := none }
  let s := { s with safe := { s.safe with loss := if s.safe.loss = 0 then 3 else s.safe.loss } }
  degradedReaction (raise (safeCount s 4) 70 [w32 i, w32 channel])

/-- TEST_PULSE (R374, R376): a channel that reads closed in the window is lost; eight passed pulses in agreement restore
it, for the next safety reset. -/
def execTestPulse (input channel : Nat) (readsClosed : Bool) (at_ : Nat) (s : State) : Host.Outcome State Fault Refusal :=
  .next <|
    match siDef (theImage s) input with
    | none => s
    | some d =>
      if !evaluates s.md.mode || d.mode == 3 || decide (1 < channel) || !pulseDue s input channel then s
      else
        let s := setPhase s at_
        let x := siSt s input
        let lost := if channel = 0 then x.lostA else x.lostB
        if readsClosed then
          if lost then setSi s input { x with passes := 0, restored := false } else loseInput s input channel
        else if lost && !x.restored then
          let s' := setSi s input { x with passes := x.passes + 1, restored := decide (8 ≤ x.passes + 1) }
          if 8 ≤ x.passes + 1 then raise s' 81 [w32 input, w32 channel] else s'
        else s

/-- PERMIT_OFF_PULSE (R381): the read-back of a permit switch, in its off-pulse or outside it. -/
def execPermitOffPulse (axis switch : Nat) (below on : Bool) (at_ : Nat) (s : State) : Host.Outcome State Fault Refusal :=
  .next <|
    match axisDef (theImage s) axis with
    | none => s
    | some _ =>
      if !evaluates s.md.mode || decide (1 < switch) then s
      else
        let s := setPhase s at_
        let x := axSt s axis
        let commanded := if switch = 0 then x.swA else x.swB
        let had := if switch = 0 then x.pfaultA else x.pfaultB
        let bad := !below || (commanded && !on)
        let x := if switch = 0 then { x with belowA := below, pfaultA := had || bad }
          else { x with belowB := below, pfaultB := had || bad }
        let s := setAx s axis x
        if bad && !had then raise (safeCount s 5) 71 [w32 axis, w32 switch] else s

/-! ### Safety reset (R372, R376, R379, R381, R387, R392, R394) -/

/-- A safety reset at one input: discrepancy fault, RESTART 1 wait, and a restored channel. -/
def resetSi (s : State) (i : Nat) : State :=
  let x := siSt s i
  let clear := x.discFault && x.agreedZero
  let fault := x.discFault && !clear
  let v := siView s i
  let back := !siRaw x v.1 v.2 && !fault
  let s := setSi s i { x with
    discFault := fault, agreedZero := x.agreedZero && fault
    waiting := x.waiting && !back
    lostA := x.lostA && !x.restored, lostB := x.lostB && !x.restored, restored := false }
  if clear then raise s 69 [w32 i] else s

/-- A safety reset at one axis: cross-check and permit faults whose conditions hold, and the wait of RESTART 1. -/
def resetAxis (s : State) (j : Nat) : State :=
  let x := axSt s j
  setAx s j { x with
    xchk := x.xchk && (x.xchkRun != 0 || x.xchkRunB != 0)
    pfaultA := x.pfaultA && !x.belowA, pfaultB := x.pfaultB && !x.belowB
    released := x.released || x.state == 3 }

/-- No safety channel and no input channel is lost (R394). -/
def lossFree (s : State) : Bool :=
  s.safe.chA && s.safe.chB && (siDefs (theImage s)).all fun e => !(siSt s e.1).lostA && !(siSt s e.1).lostB

/-- SAFETY_RESET (R392): a reset that has been seen acts at its latch; DEGRADED without a loss returns to RUN at the next
boundary (R394). -/
def execSafetyReset (source at_ : Nat) (s : State) : Host.Outcome State Fault Refusal :=
  .next <|
    match s.safe.resetSeen with
    | none => s
    | some (src, tick) =>
      if src ≠ source ∨ s.time.tick < tick ∨ !evaluates s.md.mode then s
      else
        let s := setPhase s at_
        let s := { s with safe := { s.safe with resetSeen := none } }
        let s := raise s 80 [w32 source]
        let s := (siDefs (theImage s)).foldl (fun s e => resetSi s e.1) s
        let s := (axisDefs (theImage s)).foldl (fun s e => resetAxis s e.1) s
        if lossFree s && s.safe.expiry.isSome then
          let s := { s with safe := { s.safe with expiry := none, expired := false, notices := 0, loss := 0 } }
          if s.md.mode == .degraded then { s with md := { s.md with trans := s.md.trans ++ [⟨7, .run, causeSafety, none, 0⟩] } }
          else s
        else s

/-! ### Watchdog and countdown -/

/-- RING_SAFETY_WATCHDOG (R389): no container has been accepted for T_WD ticks; the connection takes its safe value. -/
def execRingSafetyWatchdog (conn : Nat) (s : State) : Host.Outcome State Fault Refusal :=
  .next <|
    match connDef (theImage s) conn with
    | none => s
    | some d =>
      let x := connSt s conn
      if !evaluates s.md.mode || d.kind == 3 || x.expired || decide (s.time.tick < x.lastTick + d.wd) then s
      else raise (safeCount (setConn s conn { x with expired := true, valid := false }) 7) 77 [w32 conn]

/-- Time left to the DEGRADED expiry, ns. -/
def expiryLeft (s : State) : Option Nat := s.safe.expiry.map fun t => t - vtime s

/-- DEGRADED_EXPIRY_NEAR (R393): EV078 at 1 h and again at 10 min before the expiry, with the seconds left. -/
def execDegradedExpiryNear (at_ : Nat) (s : State) : Host.Outcome State Fault Refusal :=
  .next <|
    let s := setPhase s at_
    match expiryLeft s with
    | none => s
    | some n =>
      let due := if n ≤ 600 * 10 ^ 9 then 2 else if n ≤ 3600 * 10 ^ 9 then 1 else 0
      if !evaluates s.md.mode || s.safe.expired || decide (due ≤ s.safe.notices) then s
      else raise { s with safe := { s.safe with notices := due } } 78 [w32 (n / 10 ^ 9)]

/-- DEGRADED_EXPIRY (R393): every used axis takes the demand of R385 at its next decision. -/
def execDegradedExpiry (at_ : Nat) (s : State) : Host.Outcome State Fault Refusal :=
  .next <|
    let s := setPhase s at_
    match expiryLeft s with
    | some 0 => if !evaluates s.md.mode || s.safe.expired then s else
        raise { s with safe := { s.safe with expired := true } } 79
    | _ => s

/-! ### What a commit takes from the safety function (R386, R390) -/

/-- The override of a drive reference at a commit: I/O map entry and value (R386). -/
def overrides (s : State) : List (Nat × F64) :=
  (axisDefs (theImage s)).filterMap fun (j, d) =>
    let x := axSt s j
    if !d.override || x.state == 1 then none
    else if x.state = 2 then
      let v0 := if leadB s then x.v0B else x.v0
      some (d.refDst, fMul (fOfInt x.s0) (fMax 0 (fSub v0 (fMul d.aRamp (tickSecs (s.time.tick - x.ts))))))
    else some (d.refDst, 0)

/-- A permit container of kind 3 (Table 11.4, R390). -/
def permitContainer (s : State) (d : ConnDef) : Bytes :=
  let x := axSt s d.axis
  let p := if (axisDef (theImage s) d.axis).isSome && (x.state == 1 || x.state == 2) then 1 else 0
  let tail := toLe 2 s.time.tick ++ toLe 2 0
  let crc := toLe 4 (crcSafety (toLe 4 d.ident ++ toLe 1 p ++ tail)).toNat
  toLe 1 p ++ toLe 1 p ++ List.replicate 6 0 ++ tail ++ crc ++ crc

/-- The permit containers that the ACTIVE or SOLO module queues at a commit (R390). -/
def permitContainers (s : State) : List (Nat × Bytes) :=
  if inControl s then
    (connDefs (theImage s)).filterMap fun (k, d) => if d.kind = 3 then some (k, permitContainer s d) else none
  else []

/-- OVERRIDING follows the commits (R386, Table 11.10). -/
def markOverrides (s : State) : State :=
  (axisDefs (theImage s)).foldl (fun s (j, d) => setAx s j { axSt s j with overriding := d.override && (axSt s j).state != 1 }) s

end Sys2Proof.Machine
end

