-- ==== Sys2Proof/Machine/Solver.lean ====
section
/-! DEFINITION. The solver's frames, jobs, publications and tiles (chapter 08), and its commands. -/

namespace Sys2Proof.Machine

def solv (s : State) (c : Nat) : SolvSt := tget {} s.solver.s c
def solv2 (s : State) (c : Nat) : SolvSt2 := tget {} s.solver.j c
def setSolv (s : State) (c : Nat) (x : SolvSt) : State := { s with solver := { s.solver with s := tset s.solver.s c x } }
def setSolv2 (s : State) (c : Nat) (x : SolvSt2) : State := { s with solver := { s.solver with j := tset s.solver.j c x } }

/-! ### Snapshots (R278, R279) -/

/-- The value of a tag at a snapshot, and whether it is valid (Table 08.8). -/
def tagValue (s : State) (w : Nat) : F64 × Bool :=
  match srcKind w with
  | 1 =>
    let i := w % 2 ^ 24
    match ioEntry (theImage s) i with
    | none => (0, false)
    | some e =>
      if e.output then (rawF64 e.ty (tget 0 s.crs.committed i), true)
      else
        let c := tget ({} : InCell) s.crs.inp i
        let forced := s.crs.imageMirages.any fun m => m.kind == 0 && m.index == i
        (rawF64 e.ty c.value, c.valid || forced)
  | 2 => (solverElement (solv s (w / 2 ^ 16 % 64)) (w % 2 ^ 16), true)
  | 3 => ((loop s (w % 128)).u, true)
  | _ => (0, false)

/-- One tag of a snapshot: its value is appended; the first tag that holds the frame is kept (R279). -/
def takeTag (c : Nat) (acc : State × List F64 × Option Nat × Bool) (t : Nat × Nat × Bool) :
    State × List F64 × Option Nat × Bool :=
  let (s, vals, bad, stale) := acc
  let (i, w, req) := t
  let m := solv2 s c
  let (v, ok) := tagValue s w
  if ok then
    (setSolv2 s c { m with tagLast := tset m.tagLast i v, tagStale := m.tagStale.filter (· != i) }, vals ++ [v], bad, stale)
  else
    match req, tfind m.tagLast i with
    | false, some v =>
      let s := if m.tagStale.contains i then s
        else raise (setSolv2 s c { m with tagStale := m.tagStale ++ [i] }) 164 [w32 c, w32 i]
      (s, vals ++ [v], bad, true)
    | _, last => (s, vals ++ [last.getD 0], (if bad.isNone then some i else bad), stale)

/-- A solver parameter block in force (R274, R276): its parameters below COURSE_FROM, and its curves. -/
def blockApplied (m : SolvSt2) (p : Bytes) : SolvSt2 :=
  { m with params := (mpParams p).take (mpCourseFrom p) ++ m.params.drop (mpCourseFrom p), curves := mpCurveList p }

/-- Region updates and course parameters that enter at this snapshot (R274, R276, R164). -/
def snapshotParams (s : State) (c : Nat) : State :=
  let m := solv2 s c
  let ready := m.update.filter fun u => regionHeld s u.1
  let (s, m) := match ready with
    | some (t, p) =>
      let m := { blockApplied m p with update := none }
      (ticketEnd (setSolv2 s c m) t 4 0, m)
    | none => (s, m)
  let due := m.courseParams.filter fun e => decide (e.2.2 < s.time.tick)
  setSolv2 s c { m with
    params := due.foldl (fun p e => lset p e.1 e.2.1) m.params
    courseParams := m.courseParams.filter fun e => decide (s.time.tick ≤ e.2.2) }

/-! ### Jobs and their order (R287, R288) -/

/-- Of two jobs the one that runs first: earlier deadline, then lower context number. -/
def jobBefore (a b : Nat × Nat) : Bool := decide (a.2 < b.2 ∨ (a.2 = b.2 ∧ a.1 % 64 < b.1 % 64))

/-- Of a unit's jobs in the states that `p` takes, the one that comes first. -/
def unitFirst (s : State) (u : Nat) (p : Nat → Bool) : Option (Nat × JobSt) :=
  s.solver.j.foldl (fun (best : Option (Nat × JobSt)) e =>
    match e.2.job with
    | none => best
    | some j =>
      if j.unit ≠ u || !p j.state then best
      else match best with
        | none => some (e.1, j)
        | some b => if jobBefore (e.1, j.deadline) (b.1, b.2.deadline) then some (e.1, j) else best) none

/-- The running job of a unit. -/
def unitJob (s : State) (u : Nat) : Option (Nat × JobSt) := unitFirst s u (· == 2)

/-- The busy time of a unit up to the present instant (Table 08.16): a busy time that ends joins those of the last 8,000
ticks, and the largest sum over 8,000 ticks, the present one among them, is kept. -/
def noteUnit (s : State) (u : Nat) : State :=
  let now := nowNs s
  let lo := now - 8000 * tickNs
  let old := (tget [] s.solver.busy u).filter fun e => decide (lo < e.2)
  let from_ := tfind s.solver.busyFrom u
  let l := old ++ (from_.map fun t => (t, now)).toList
  let sum := l.foldl (fun a e => a + (e.2 - max e.1 lo)) 0
  let peak := tset s.solver.busyPeak u (max (tget 0 s.solver.busyPeak u) sum)
  match from_, unitJob s u with
  | none, some _ => { s with solver := { s.solver with busyPeak := peak, busyFrom := tset s.solver.busyFrom u now } }
  | some _, none =>
    { s with solver := { s.solver with busyPeak := peak, busyFrom := tdel s.solver.busyFrom u, busy := tset s.solver.busy u l } }
  | _, _ => { s with solver := { s.solver with busyPeak := peak, busy := tset s.solver.busy u old } }

/-- The job in slot k takes a state, in a stretch on its unit that begins or ended at an instant. -/
def setJob (s : State) (k : Nat) (j : JobSt) (st at_ : Nat) : State :=
  setSolv2 s k { solv2 s k with job := some { j with state := st, ranFrom := at_ } }

/-- First step boundary, not before an instant, of a job that has run since another (R288); a step takes 10 µs (DESIGN
CHOICE, assumption 92: the rule bounds a step and fixes no length). -/
def stepEnd (from_ t : Nat) : Nat := from_ + (t - from_ + 9999) / 10000 * 10000

/-- One unit runs its jobs by earliest deadline (R288): an idle unit starts the first one that waits; one with an earlier
deadline than the running job preempts it at the next step boundary after its release. -/
def scheduleUnit (s : State) (u : Nat) : State :=
  let now := nowNs s
  match unitFirst s u (· != 2), unitJob s u with
  | none, _ => s
  | some (k, w), none => setJob s k w 2 now
  | some (k, w), some (r, j) =>
    let t := stepEnd j.ranFrom w.released
    if w.deadline < j.deadline ∧ t ≤ now then
      setJob (setJob s r j (if j.released = t then 1 else 3) t) k w 2 t
    else s

/-- The four units run their jobs, and their busy times are kept. -/
def schedule (s : State) : State := (List.range 4).foldl (fun s u => noteUnit (scheduleUnit s u) u) s

/-- The outcome of a frame that runs no job, or whose job did not end. -/
def heldOutcome (status cause : Nat) : Outcome9 := { status := status, cause := cause, job := false }

/-- A context's outcome for its frame. -/
def setOutcome (s : State) (c f : Nat) (o : Outcome9) : State :=
  setSolv2 s c { solv2 s c with job := none, outcome := some (f, o) }

/-- A frame held before its job runs (R279, R297): EV163 with the tag, if there is one. -/
def holdFrame (s : State) (c f cause : Nat) (item : List W32) : State :=
  raise (setOutcome s c f (heldOutcome 6 cause)) 163 ([w32 (c % 64), w32 cause] ++ item)

/-- What a job assembles from. -/
def JobSt.input (j : JobSt) : AsmIn := ⟨j.snap.tags, j.snap.params, j.snap.curves⟩

/-- The assembled entries of a job. -/
def JobSt.entries (j : JobSt) : Tab (Option Int) := assemble j.input (solverTerms (solverOf j.record) j.record)

/-- How a job starts (Table 09.3). -/
def JobSt.start (j : JobSt) : StartOf := startOf j.record (signatureOf j.record) j.warm

/-- What the report tells of any job: START, MAPPED and SIGNATURE (Table 09.4). -/
def jobReport (j : JobSt) (o : Outcome9) : Outcome9 :=
  { o with job := true, start := j.start.code, mapped := j.start.mapped, signature := signatureOf j.record }

/-- A job is LATE (R289, R298): EV160. `why`: 0 its deadline, 1 it could not join its new unit. Its report keeps what the
job had when it was abandoned: τ once it had begun (R305). -/
def jobLate (s : State) (c : Nat) (why : Nat) : State :=
  match (solv2 s c).job with
  | none => s
  | some j =>
    let m := solv2 s (c % 64)
    let s := setSolv2 s (c % 64) { m with counters := bump m.counters 1 }
    let d := solverOf j.record
    let tau := if j.state = 1 ∨ (assemblyFault d j.entries).isSome then 0 else probTau d (problemOf d j.entries)
    let s := setOutcome s c j.snap.frame (jobReport j { status := 5, cause := 0, tau := tau })
    schedule (raise s 160 ([w32 (c % 64)] ++ w64 j.snap.frame ++ [Config.argCode 160 why]))

/-- SOLVER_FRAME_START (R277 to R279): the snapshot, and the release of the frame's job. -/
def execSolverFrameStart (ctx : Nat) (s : State) : Host.Outcome State Fault Refusal :=
  .next <|
    match solverRec (theImage s) ctx with
    | none => s
    | some p =>
      let d := solverOf p
      let f := s.time.tick
      if !running s || f % d.period != d.offset || (solv2 s ctx).frame == some f then s
      else
        let s := snapshotParams (setPhase s 20000) ctx
        let tags := solverTags d p
        let (s, vals, bad, stale) := (tags.zipIdx.map fun e => (e.2, e.1.1, e.1.2)).foldl (takeTag ctx) (s, [], none, false)
        let m := solv2 s ctx
        let s := setSolv2 s ctx { m with frame := some f, outcome := none, stale := stale, lastSnap := f }
        match m.unit with
        | none => holdFrame s ctx f 4 []
        | some u =>
          match bad with
          | some i => holdFrame s ctx f 2 [w32 i]
          | none =>
            let st := startOf p m.signature m.warm
            let s := setPhase s 25000
            let job : JobSt :=
              { state := 1, snap := ⟨f, vals, m.params, m.curves⟩, deadline := f + d.period - 2, unit := u, record := p
                warm := m.warm, released := nowNs s, ranFrom := nowNs s }
            let s := schedule (setSolv2 s ctx { solv2 s ctx with job := some job })
            if st.code = 2 ∨ (st.code = 0 ∧ m.warm.isSome) then
              raise s 181 [w32 ctx, w32 st.code, st.mapped]
            else s

/-- The curves of a record whose argument is clamped in a snapshot (R275). -/
def clampedCurves (d : SolverDef) (p : Bytes) (a : AsmIn) : List Nat :=
  ((solverTerms d p).filter fun t =>
    t.f1 == 3 && (curveValue (a.curves.getD t.i1 []) (curveArg a t)).2).foldl
      (fun (t : Tab Unit) e => tset t e.i1 ()) [] |>.map (·.1)

/-- What a job comes to: none while it has not ended; an entry that holds the frame; or its outcome. -/
inductive JobEnd where
  | running
  | invalid (entry : Nat)
  | outcome (o : Outcome9)
  deriving DecidableEq, Repr

/-- The job of a frame, run on its record, snapshot and warm-start data (R280, R281, R308, R322). -/
def runJob (j : JobSt) : JobEnd :=
  let d := solverOf j.record
  let keys := distinctKeys (solverTerms d j.record)
  match assemblyFault d j.entries with
  | some k => .invalid k
  | none =>
    let order := Config.stageOrder j.record
    let stage := if d.cls = 0 && stageOk d keys order then some order else none
    match solveProblem d (problemOf d j.entries) stage j.start with
    | none => .running
    | some o => .outcome (jobReport j o)

/-- The conditions of EV176 to EV180 in an outcome, in order (Table 09.5). -/
def jobConditions (o : Outcome9) : List Bool :=
  [o.replaced != 0, o.retry != 0, o.status == 4, o.status == 3, o.status == 2]

/-- EV176 to EV180, each on entry to its condition (R329). -/
def raiseConditions (s : State) (c : Nat) (o : Outcome9) : State :=
  let m := solv2 s c
  let now := jobConditions o
  let new (i : Nat) : Bool := now.getD i false && !m.conditions.getD i false
  let s := setSolv2 s c { m with conditions := now }
  let s := if new 0 then raise s 176 [w32 c, w32 o.replaced, o.firstReplaced] else s
  let s := if new 1 then raise s 177 [w32 c, w32 o.retry] else s
  let s := if new 2 then raise s 178 [w32 c, w32 o.cause] else s
  let s := if new 3 then raise s 179 [w32 c, w32 o.cause, o.firstReplaced] else s
  if new 4 then raise s 180 ([w32 c, w32 o.cause] ++ wF64 o.violation) else s

/-- Warm-start data of a fresh outcome (R326). -/
def warmOf (record : Bytes) (o : Outcome9) : WarmSt :=
  let d := solverOf record
  ⟨signatureOf record, o.x, o.mult, o.working, vtags d record, ctags d record, d.nEq⟩

/-- SOLVER_JOB_END (R322): the running job of a unit ends with its outcome. A context 64 + c names the frame of context c
on its old template (R188). -/
def execSolverJobEnd (ctx : Nat) (at_ : Nat) (s : State) : Host.Outcome State Fault Refusal :=
  .next <|
    -- a preemption that has come due stands before the end
    let s := if (solv2 s ctx).job.isSome then schedule (setPhase s at_) else s
    match (solv2 s ctx).job with
    | none => s
    | some j =>
      if j.state ≠ 2 ∨ j.deadline ≤ s.time.tick then s
      else
        let c := ctx % 64
        let m := solv2 s c
        let cl := clampedCurves (solverOf j.record) j.record j.input
        let s1 := cl.foldl (fun s k => if m.clamped.contains k then s else raise s 168 [w32 c, w32 k])
          (setSolv2 s c { m with clamped := cl })
        match runJob j with
        | .running => s
        | .invalid k =>
          let s := setOutcome s1 ctx j.snap.frame (jobReport j { status := 6, cause := 3 })
          schedule (raise s 163 [w32 c, 3, Config.datumCode c k])
        | .outcome o =>
          let s := raiseConditions s1 c o
          let s := if o.fresh then setSolv2 s c { solv2 s c with warm := some (warmOf j.record o) } else s
          schedule (setOutcome s ctx j.snap.frame o)

/-- SOLVER_JOB_DEADLINE (R289): a job in flight at its deadline is LATE. -/
def execSolverJobDeadline (ctx : Nat) (s : State) : Host.Outcome State Fault Refusal :=
  .next <|
    match (solv2 s ctx).job with
    | none => s
    | some j => if s.time.tick < j.deadline then s else jobLate s ctx 0

/-! ### Publication (R282 to R286) -/

/-- The fallback array of a context with non-finite elements replaced, and the first such element (R284). -/
def fallbackOf (vals good : List F64) (n : Nat) : List F64 × Option Nat :=
  ((List.range n).map fun i => let v := vals.getD i 0; if fIsFinite v then v else good.getD i 0,
    (List.range n).find? fun i => !fIsFinite (vals.getD i 0))

/-- The publication of an outcome (R283): the new publication, and the events it raises: fallback starts or the limit is
reached (EV161, with the first non-finite element), fallback ends (EV162). -/
def publish (d : SolverDef) (x : SolvSt) (f : Nat) (o : Outcome9) (stale : Bool) (fb : List F64) :
    SolvSt × Option (Option Nat) × Bool :=
  let held := if o.fresh then 0 else x.consecHeld + 1
  let fresh := if o.fresh then x.freshCount + 1 else 0
  let x := if o.fresh then { x with
      goodX := o.x, goodMult := some o.mult, goodObjective := some o.objective, goodTick := f, solved := true } else x
  let bound := d.fbBrick != 0xFFFF
  let start := !x.fallback && bound && decide (d.heldLimit ≤ held)
  let noBrick := !bound && decide (x.consecHeld < d.heldLimit ∧ d.heldLimit ≤ held)
  let fallback := x.fallback || start
  let ends := fallback && decide (d.recover ≤ fresh)
  let fallback := fallback && !ends
  let (fv, bad) := fallbackOf fb x.goodX d.n
  let x := { x with
    frameTick := f, solvedTick := x.goodTick, status := o.status, cause := if o.status = 6 then o.cause else 0
    consecHeld := min held 255
    age := if o.fresh then 0 else min (x.age + 1) 255
    staleTags := stale, fallback := fallback, freshCount := fresh
    held := !fallback && !o.fresh
    x := if fallback then fv else x.goodX
    mult := if fallback then none else x.goodMult
    objective := if fallback then none else x.goodObjective }
  (x, if start || noBrick then some (if start then bad else none) else none, ends)

/-- The publication of a standby, as its active publishes (R286): the fallback values alone are its own. Also whether
fallback starts or the limit is reached, with the first non-finite element, and whether fallback ends. -/
def publishMortar (d : SolverDef) (x : SolvSt) (q : OutcomeMortar) (fb : List F64) : SolvSt × Option (Option Nat) × Bool :=
  let o := q.outcome
  let (fv, bad) := fallbackOf fb q.goodX d.n
  let start := q.fallback && !x.fallback
  let noBrick := d.fbBrick == 0xFFFF && decide (x.consecHeld < d.heldLimit ∧ d.heldLimit ≤ q.consecHeld)
  ({ frameTick := q.frame, solvedTick := q.goodTick, solved := q.goodMult.isSome, status := o.status
     cause := if o.status = 6 then o.cause else 0
     consecHeld := q.consecHeld, age := q.age, staleTags := q.staleTags, fallback := q.fallback
     held := !q.fallback && !o.fresh
     x := if q.fallback then fv else q.goodX
     mult := if q.fallback then none else q.goodMult
     objective := if q.fallback then none else q.goodObjective
     goodX := q.goodX, goodMult := q.goodMult, goodObjective := q.goodObjective, goodTick := q.goodTick
     freshCount := q.freshCount },
    if start || noBrick then some (if start then bad else none) else none, x.fallback && !q.fallback)

/-- Counters of Table 08.16 after a publication. -/
def publishCounts (l : List Nat) (fresh held : Bool) : List Nat :=
  let l := if fresh then bump l 0 else l
  if held then bump l 2 else l

/-- The definition under which slot `ctx` runs its frame: the running image's, or for a slot 64 + c the old record. -/
def frameDef (s : State) (ctx : Nat) : Option SolverDef :=
  if ctx < 64 then solverDef (theImage s) ctx
  else ((s.exch.oldFrames.find? fun e => e.1 == ctx % 64)).map fun e => solverOf e.2

/-- A frame that ran on an old template is over. -/
def dropOldFrame (s : State) (ctx : Nat) : State :=
  if ctx < 64 then s
  else { s with
    solver := { s.solver with j := tdel s.solver.j ctx }
    exch := { s.exch with oldFrames := s.exch.oldFrames.filter fun e => e.1 != ctx % 64 } }

/-- The mortar of the active for the frame that ends in slot `ctx`, on a standby. -/
def mortarFor (s : State) (ctx f : Nat) : Option OutcomeMortar :=
  if s.md.role == .standby then (solv2 s ctx).mortar.filter fun q => q.frame == f else none

/-- The staleness of class 2 on a standby: outcomes in a row that missed their tick (R344). -/
def countOutcome (s : State) (arrived : Bool) : State :=
  if s.md.role != .standby then s
  else setStale s 2 (if arrived then 0 else min (s.pair.stale.getD 2 0 + 1) 65535)

/-- SOLVER_PUBLISH (R283): at the boundary of the frame-end tick the outcome decides the publication; on a standby the
active's does, when it has come (R286). -/
def execSolverPublish (ctx : Nat) (s : State) : Host.Outcome State Fault Refusal :=
  .next <|
    match frameDef s ctx, (solv2 s ctx).frame with
    | some d, some f =>
      if !running s || decide (s.time.tick < f + d.period) then s
      else
        -- a job that is still in flight has passed its deadline (R289)
        let s := jobLate s ctx 0
        let c := ctx % 64
        let w := solv2 s ctx
        let m := solv2 s c
        let sent := mortarFor s ctx f
        let own := (w.outcome.map (·.2)).getD (heldOutcome 6 0)
        let (x, starts, ends) := match sent with
          | some q => publishMortar d (solv s c) q m.fallbackVals
          | none => publish d (solv s c) f own w.stale m.fallbackVals
        let s := countOutcome (setSolv s c x) (sent.isSome && !w.mortarLate)
        let s := match starts with
          | some bad => raise s 161 ([w32 c] ++ (bad.map w32).toList)
          | none => s
        let s := if ends then raise s 162 [w32 c] else s
        let m := solv2 s c
        let s := setSolv2 s c (match sent with
          | some q => { m with report := some (f, q.outcome), counters := q.counters, warm := q.warm }
          | none => { m with report := some (f, own), counters := publishCounts m.counters own.fresh x.held })
        let s := setSolv2 s ctx { solv2 s ctx with frame := none, outcome := none, mortar := none, mortarLate := false }
        dropOldFrame s ctx
    | _, _ => s

/-! ### Tiles and units (R293 to R298) -/

/-- Units that remain: lowest tile and number of tiles (Table 08.15). -/
def unitList (s : State) : List (Nat × Nat) :=
  (s.solver.tiles.zipIdx.filter fun e => e.1.online && e.1.unit == e.2).map fun e => (e.2, e.1.gang)

/-- Tile status (Table 08.15): tile t in bits 8t + 7 to 8t. -/
def tileWord (s : State) : Nat :=
  ((List.range 4).map fun t =>
    let x := s.solver.tiles.getD t {}
    (bit x.online 7 + bit x.failed 6 + (if x.gang = 0 then 3 else if x.gang = 4 then 2 else if x.gang = 2 then 1 else 0) * 16 +
      x.unit % 4 * 4 + x.cause % 4) * 256 ^ t).sum

/-- A density as an exact fraction (R291). -/
abbrev Density := Nat × Nat

def addDensity (a b : Density) : Density := (a.1 * b.2 + b.1 * a.2, a.2 * b.2)
def leDensity (a b : Density) : Bool := decide (a.1 * b.2 ≤ b.1 * a.2)

/-- Density of a context on a unit of g tiles (R291). -/
def densityOn (d : SolverDef) (g : Nat) : Density := (costOn d g, (d.period - 2) * 100000 - 28000)

/-- Planned density of a unit: the sum over the contexts that it holds. -/
def planned (s : State) (u g : Nat) : Density :=
  (solverDefs (theImage s)).foldl (fun a e =>
    if (solv2 s e.1).unit = some u then addDensity a (densityOn e.2 g) else a) (0, 1)

/-- The unit that takes a context (R297): lowest planned density among those that hold its size and stay at or below
0.95; ties to the lower tile. -/
def placeUnit (s : State) (d : SolverDef) : Option (Nat × Nat) :=
  ((unitList s).foldl (fun (best : Option ((Nat × Nat) × Density)) u =>
    let den := planned s u.1 u.2
    if !sizeFits d u.2 || !leDensity (addDensity den (densityOn d u.2)) (19, 20) then best
    else match best with
      | none => some (u, den)
      | some (_, q) => if leDensity q den then best else some (u, den)) none).map (·.1)

/-- SOLV cycles left to a deadline (R298). -/
def cyclesLeft (s : State) (deadline : Nat) : Nat := ((deadline - s.time.tick) * tickNs - s.time.phase) * 4 / 5

/-- The job in slot k of context c joins unit u of g tiles: it waits there, restarts, or is LATE (R298). -/
def rejoin (s : State) (c k : Nat) (d : SolverDef) (u g : Nat) : State :=
  let w := solv2 s k
  match w.job with
  | none => s
  | some j =>
    if cyclesLeft s j.deadline < costOn d g then jobLate s k 1
    else
      let s := setSolv2 s k { w with job := some { j with unit := u, state := 1, released := nowNs s } }
      if j.state = 1 then s
      else
        let m := solv2 s c
        raise (setSolv2 s c { m with counters := bump m.counters 3 }) 166 [w32 c, w32 u]

/-- One context finds a new unit, or is suspended; its job joins the unit, restarts, or is LATE (R297, R298). -/
def rehomeOne (s : State) (e : Nat × SolverDef) : State :=
  let (c, d) := e
  let m := solv2 s c
  match placeUnit s d with
  | none => jobLate (jobLate (raise (setSolv2 s c { m with unit := none }) 167 [w32 c]) c 1) (64 + c) 1
  | some (u, g) =>
    rejoin (rejoin (setSolv2 s c { m with unit := some u }) c c d u g) c (64 + c) d u g

/-- A context enters a list in ascending RANK, then context number. -/
def rankInsert (x : Nat × SolverDef) : List (Nat × SolverDef) → List (Nat × SolverDef)
  | [] => [x]
  | y :: l => if x.2.rank < y.2.rank ∨ (x.2.rank = y.2.rank ∧ x.1 < y.1) then x :: y :: l else y :: rankInsert x l

/-- Contexts are re-homed in the order of R297. -/
def rehome (s : State) (cs : List (Nat × SolverDef)) : State :=
  let cs := cs.foldl (fun l e => rankInsert e l) []
  let s := cs.foldl (fun s e => setSolv2 s e.1 { solv2 s e.1 with unit := none }) s
  schedule (cs.foldl rehomeOne s)

/-- The tiles after one is lost (R296). -/
def shrink (tiles : List TileSt) (t cause : Nat) : List TileSt :=
  let x := tiles.getD t {}
  let u := x.unit
  let mate := if t % 2 = 0 then t + 1 else t - 1
  let pair := if t < 2 then 2 else 0
  (tiles.zipIdx).map fun e =>
    if e.2 = t then { e.1 with online := false, failed := true, cause := cause, gang := 0 }
    else if e.1.gang = 0 ∨ e.1.unit ≠ u then e.1
    else if x.gang = 4 then
      (if e.2 = mate then { e.1 with unit := mate, gang := 1 } else { e.1 with unit := pair, gang := 2 })
    else { e.1 with unit := e.2, gang := 1 }

/-- A tile goes offline (R294, R296, R297): EV165, its unit shrinks, and the contexts of that unit are re-homed. -/
def tileOff (s : State) (t cause : Nat) : State :=
  match s.solver.tiles[t]? with
  | none => s
  | some x =>
    if !x.online then s
    else
      let s := { s with solver := { s.solver with tiles := shrink s.solver.tiles t cause } }
      let s := raise s 165 [w32 t, w32 cause]
      rehome s ((solverDefs (theImage s)).filter fun e => (solv2 s e.1).unit == some x.unit)

/-- TILE_OFFLINE (R294): the self-test (1), the tile memory (2) or the step watchdog (3). -/
def execTileOffline (tile cause : Nat) (at_ : Nat) (s : State) : Host.Outcome State Fault Refusal :=
  .next <| if s.md.powered && s.ev.running then tileOff (setPhase s at_) tile cause else s

/-- TILE_SELF_TEST (R295): a failed test takes the tile offline with cause 1. -/
def execTileSelfTest (tile : Nat) (passed : Bool) (at_ : Nat) (s : State) : Host.Outcome State Fault Refusal :=
  .next <|
    if !(s.md.powered && s.ev.running) then s
    else
      let s := setPhase s at_
      let s := { s with solver := { s.solver with tested := lset s.solver.tested tile s.time.tick } }
      if passed then s else tileOff s tile 1

/-- At a commit: the fallback arrays as released (R284). -/
def keepFallbacks (s : State) : State :=
  (solverDefs (theImage s)).foldl (fun s e =>
    if e.2.fbBrick = 0xFFFF then s
    else
      let b := shownData s e.2.fbBrick
      setSolv2 s e.1 { solv2 s e.1 with
        fallbackVals := (List.range e.2.n).map fun i => leF64 b (e.2.fbOffset + 8 * i) }) s

/-- What the outcome of the frame f in slot `ctx` carries in mortar (R286, R327, R328): publication data and counters as
they stand after the frame. -/
def outcomeMortar (s : State) (ctx : Nat) (d : SolverDef) (f : Nat) (o : Outcome9) : OutcomeMortar :=
  let c := ctx % 64
  let m := solv2 s c
  let (x, _, _) := publish d (solv s c) f o (solv2 s ctx).stale m.fallbackVals
  { ctx := c, frame := f, outcome := o, consecHeld := x.consecHeld, freshCount := x.freshCount, fallback := x.fallback
    staleTags := x.staleTags, age := x.age, goodX := x.goodX, goodMult := x.goodMult, goodObjective := x.goodObjective
    goodTick := x.goodTick, counters := publishCounts m.counters o.fresh x.held, warm := m.warm }

/-- The outcome of the frame in slot `ctx` leaves in the tick of its deadline (R286, R342); a job still in flight is LATE
by then (R289). -/
def sendOutcome (s : State) (ctx : Nat) : State :=
  match frameDef s ctx, (solv2 s ctx).frame with
  | some d, some f =>
    if s.time.tick + 2 ≠ f + d.period then s
    else
      let s := jobLate s ctx 0
      match (solv2 s ctx).outcome with
      | some (_, o) => sendLink s 4 (128 + 12 * (d.n + d.rows)) (.mortar (.outcome (outcomeMortar s ctx d f o)))
      | none => s
  | _, _ => s

/-- Each outcome of the active is sent to a standby that follows it (R286, R339): the context's frame, or the one on its old
template (R188). -/
def sendOutcomes (s : State) : State :=
  if !partnerFollows s || s.md.role != .active then s
  else (solverDefs (theImage s)).foldl (fun s e => sendOutcome (sendOutcome s e.1) (64 + e.1)) s

end Sys2Proof.Machine
end

