-- ==== Sys2Proof/Machine/Apply.lean ====
section
/-! DEFINITION. Applying an image in LOAD (R112, Table 03.11): what each block holds of its configuration and of its values
after LOAD. -/

namespace Sys2Proof.Machine

/-- A loop context after LOAD (R214, R226): its loop mode INIT_MODE, u_prev U_INIT. The manual value is U_INIT (DESIGN
CHOICE). -/
def loopStart (d : LoopDef) : LoopSt :=
  let u := d.params.getD pUINIT 0
  { mode := d.initMode, manual := u, u := u, rampJ := 256 }

/-- An inner loop's set-point ramp starts at its outer context's U_INIT (R217). -/
def rampStart (img : Image) (d : LoopDef) (x : LoopSt) : LoopSt :=
  match loopDef img d.outer with
  | some o => { x with rampPrev := o.params.getD pUINIT 0, rampTarget := o.params.getD pUINIT 0 }
  | none => x

/-- The loop engine after LOAD: contexts, tables in the foreground (R204, R241). -/
def applyLoops (s : State) : State :=
  let img := theImage s
  { s with loops := {
      l := (loopDefs img).foldl (fun t e => tset t e.1 (rampStart img e.2 (loopStart e.2))) []
      m := (loopDefs img).foldl (fun t e => tset t e.1 { params := e.2.params }) []
      t := (tableNums img).foldl (fun t n => tset t n { fore := (tableRec img n).getD [] }) [] } }

/-- Tiles of the layout (R271); a tile found faulty before stays offline, and its unit is what R296 leaves of it. -/
def layoutTiles (s : State) : List TileSt :=
  let us := unitsOf (gangLayout (theImage s))
  let fresh := (List.range 4).map fun i =>
    match us.find? fun u => decide (u.1 ≤ i ∧ i < u.1 + u.2) with
    | some u => (⟨true, false, 0, u.1, u.2⟩ : TileSt)
    | none => ⟨true, false, 0, i, 1⟩
  (s.solver.tiles.zipIdx).foldl (fun ts e => if e.1.online then ts else shrink ts e.2 e.1.cause) fresh

/-- One solver context after LOAD (R282, R284, R274): its publication is XINIT, HELD. -/
def solverStart (img : Image) (c : Nat) (d : SolverDef) : SolvSt × SolvSt2 :=
  let p := (solverRec img c).getD []
  let x := xinit d p
  let mp := modelParams img c
  let fb := if d.fbBrick = 0xFFFF then [] else
    let b := ((brickInst img d.fbBrick).map (·.init)).getD []
    (List.range d.n).map fun i => leF64 b (d.fbOffset + 8 * i)
  ({ x := x, goodX := x },
   { params := mpParams mp, curves := mpCurveList mp, fallbackVals := fb, signature := signatureOf p, unit := some d.home })

/-- The solver after LOAD: units of the layout, contexts on their home units; a context whose home unit is not whole is
re-homed (R297). -/
def applySolver (s : State) : State :=
  let img := theImage s
  let ds := solverDefs img
  let s := { s with solver := { s.solver with
      s := ds.foldl (fun t e => tset t e.1 (solverStart img e.1 e.2).1) []
      j := ds.foldl (fun t e => tset t e.1 (solverStart img e.1 e.2).2) []
      tiles := layoutTiles s } }
  let whole := unitsOf (gangLayout img)
  let broken := ds.filter fun e =>
    !(unitList s).any fun u => u.1 == e.2.home && whole.any fun w => w.1 == u.1 && w.2 == u.2
  if broken.isEmpty then s else rehome s broken

/-- The safety function after LOAD (R372, R384, R388). -/
def applySafety (s : State) : State :=
  let img := theImage s
  { s with safe := { s.safe with
      si := (siDefs img).foldl (fun t e => tset t e.1 {}) []
      axis := (axisDefs img).foldl (fun t e => tset t e.1 {}) []
      conn := (connDefs img).foldl (fun t e => tset t e.1 { source := (e.2.station, e.2.module), lastTick := s.time.tick }) [] } }

/-- Ring, CAN and panel after LOAD (R438, R459, R551): declared stations are ABSENT, controllers off. -/
def applyIo (s : State) : State :=
  let img := theImage s
  let map := (recOf img 0x60 0).getD []
  { s with
    ring := { s.ring with
      st := (stations img).foldl (fun t d => tset t d.station { state := 1 }) [] }
    can := {
      p := (List.range 4).foldl (fun t p => if (canPortDef img p).isSome then tset t p {} else t) []
      slot := (slotDefs img).foldl (fun t e => tset t e.1 {}) [] }
    panel := { s.panel with
      band := if map.isEmpty then 7 else mapDefaultBand map, bias := !map.isEmpty && mapBias map }
    panel2 := { s.panel2 with map := map, mapDue := none } }

/-- The courses after LOAD: every brick at INIT, every output without a release (R131, R133, R595). -/
def applyCourses (s : State) : State :=
  let img := theImage s
  { s with
    set := {}, exch := {}
    crs := { c := (List.range 9).foldl (fun t c => if (courseDef img c).isSome then tset t c {} else t) [] } }

/-- K7 is extended with an image's header (R97). -/
def extendK7 (s : State) (h : Bytes) : State :=
  let k7 := s.kiln.k.getD 7 []
  let base := if k7.all (· == 0) then s.kiln.k.getD 6 [] else k7
  { s with kiln := { s.kiln with k := s.kiln.k.set 7 (sha384 (base ++ sha384 h)) } }

/-- An image that passed every check is measured and applied (R112). -/
def applyImage (s : State) (b : Nat) (img : Image) : State :=
  let s := extendK7 s img.header
  let s := { s with kiln := { s.kiln with
      image := some img, imageBank := b, oldImage := none, selected := none, applied := true, differs := false } }
  settle (applyIo (applySafety (applySolver (applyLoops (applyCourses s)))))

end Sys2Proof.Machine
end

