-- ==== Sys2Proof/Machine/Loops.lean ====
section
/-! DEFINITION. The commands of the loop engine and its tables (chapters 06 and 07). -/

namespace Sys2Proof.Machine

/-- LOOP_SAMPLE (R209, R216, R220): a context is evaluated in the window of phase 30 µs to 90 µs of a tick that is due, when
it is the next of its lane's order. -/
def execLoopSample (ctx : Nat) (at_ : Nat) (s : State) : Host.Outcome State Fault Refusal :=
  .next <|
    match loopDef (theImage s) ctx with
    | none => s
    | some d =>
      if !running s || decide (at_ < 30000 ∨ 90000 ≤ at_) || (laneLeft s d.lane).head? != some ctx then s
      else sendLoop (loopSample (setPhase s at_) ctx d) ctx

/-- LOOP_DEADLINE (R220): at phase 90 µs every due context of the lane that has not completed misses its sample; EV128 once
with the first and their number. -/
def execLoopDeadline (lane : Nat) (s : State) : Host.Outcome State Fault Refusal :=
  .next <|
    if !running s then s
    else
      match laneLeft s lane with
      | [] => s
      | c :: l =>
        let s := raise (setPhase s 90000) 128 [w32 lane, w32 c, w32 (l.length + 1)]
        laneUse ((c :: l).foldl loopMiss s) lane 24000

/-- The limits of R224 on role and mode for the loop class's writes; CHANGE has refused before (R68). -/
def loopGate (s : State) : Option Nat :=
  if !inControl s then some rfRole
  else match s.md.mode with
    | .stop | .run | .hold | .degraded | .oasis => none
    | _ => some rfMode

/-- A loop mode request's check (R224). -/
def loopModeCheck (s : State) (c mode : Nat) : Option Nat :=
  match loopGate s with
  | some x => some x
  | none =>
    match loopDef (theImage s) c with
    | none => some (if c < 128 then rfImage else rfObject)
    | some d => if modeAllowed d mode then none else some rfRange

/-- An accepted loop mode request waits for the context's first sample from the next boundary (R224). -/
def loopModeAccept (s : State) (r : Req) (c mode : Nat) : State :=
  let m := loop2 s c
  setLoop2 s c { m with hostReq := m.hostReq ++ [(mode, s.time.tick, originOf s r)] }

/-- A loop mode request (R224, Table 06.7). -/
def loopModeRequest (r : Req) (c mode : Nat) (s : State) : State :=
  let obj := 0x10010000 + w32 c
  hostCommand s r obj fun s =>
    match loopModeCheck s c mode with
    | some x => refuse s r obj x
    | none => reply (loopModeAccept s r c mode) r obj stAccepted

/-- LOOP_MODE_MANUAL (R224). -/
def execLoopModeManual (r : Req) (ctx : Nat) (s : State) : Host.Outcome State Fault Refusal :=
  .next (loopModeRequest r ctx 0 s)

/-- LOOP_MODE_AUTO (R224). -/
def execLoopModeAuto (r : Req) (ctx : Nat) (s : State) : Host.Outcome State Fault Refusal :=
  .next (loopModeRequest r ctx 1 s)

/-- LOOP_MODE_CASCADE (R224): refused without OUTER. -/
def execLoopModeCascade (r : Req) (ctx : Nat) (s : State) : Host.Outcome State Fault Refusal :=
  .next (loopModeRequest r ctx 2 s)

/-- LOOP_MODE_EXTERNAL (R224): refused with EXT_SRC of KIND 0. -/
def execLoopModeExternal (r : Req) (ctx : Nat) (s : State) : Host.Outcome State Fault Refusal :=
  .next (loopModeRequest r ctx 3 s)

/-- LOOP_MODE_HOLD (R224). -/
def execLoopModeHold (r : Req) (ctx : Nat) (s : State) : Host.Outcome State Fault Refusal :=
  .next (loopModeRequest r ctx 4 s)

/-- A manual value's check (R225): loop mode MANUAL only. -/
def manualCheck (s : State) (c : Nat) : Option Nat :=
  match loopGate s with
  | some x => some x
  | none =>
    match loopDef (theImage s) c with
    | none => some (if c < 128 then rfImage else rfObject)
    | some _ => if (loop s c).mode = 0 then none else some rfMode

/-- The manual value changes; it applies at the next sample (R225). -/
def manualAccept (s : State) (c : Nat) (v : F64) : State := setLoop s c { loop s c with manual := v }

/-- MANUAL_VALUE_WRITE (R225). -/
def execManualValueWrite (r : Req) (ctx : Nat) (value : F64) (s : State) : Host.Outcome State Fault Refusal :=
  .next <| hostCommand s r (0x10030000 + w32 ctx) fun s =>
    match manualCheck s ctx with
    | some x => refuse s r (0x10030000 + w32 ctx) x
    | none => reply (manualAccept s ctx value) r (0x10030000 + w32 ctx) stDone

/-- An APPLY's check (R228, R28). -/
def applyCheck (s : State) (c : Nat) (value : W32) : Option Nat :=
  match loopGate s with
  | some x => some x
  | none =>
    if (loopDef (theImage s) c).isNone then some (if c < 128 then rfImage else rfObject)
    else if 1 < value.toNat then some rfRange else none

/-- APPLY gathers the gated changes at the next boundary (R228). -/
def applyAccept (s : State) (c : Nat) (value : W32) : State :=
  if value = 1 then setLoop2 s c { loop2 s c with applyAt := some s.time.tick } else s

/-- APPLY (R228). -/
def execApply (r : Req) (ctx : Nat) (value : W32) (s : State) : Host.Outcome State Fault Refusal :=
  .next <| hostCommand s r (0x10040000 + w32 ctx) fun s =>
    match applyCheck s ctx value with
    | some x => refuse s r (0x10040000 + w32 ctx) x
    | none => reply (applyAccept s ctx value) r (0x10040000 + w32 ctx) stDone

/-! ### Tables (R246 to R251) -/

/-- A rebuild whose buffers are complete on every module of the pair is complete (R247). -/
def tableCompletes (s : State) (t : Nat) : State :=
  let x := tableSt s t
  if x.localDone && x.completeTick.isNone && (x.partnerDone || !tablePartner s) then
    setTable s t { x with
      completeTick := some s.time.tick
      duration := (x.ticket.map fun k => s.time.tick - (ticket s k).runTick).getD x.duration }
  else s

/-- TABLE_REBUILD_COMPLETE (R247): the local buffer is complete; a point found non-finite fails the update. -/
def execTableRebuildComplete (table : Nat) (at_ : Nat) (s : State) : Host.Outcome State Fault Refusal :=
  .next <|
    let x := tableSt s table
    match x.back with
    | none => s
    | some b =>
      if !x.rebuilding || x.localDone then s
      else
        let s := setPhase s at_
        if !tabPointsFinite b then
          let s := setTable s table { x with back := none, rebuilding := false, overdue := false, ticket := none }
          match x.ticket with
          | some k => ticketEnd s k 7 2
          | none => s
        else
          let s := setTable s table { x with localDone := true }
          let s := if tablePartner s then linkMortar s (.tableReady table) else s
          tableCompletes s table

/-- REBUILD_OVERDUE (R249): a rebuild past its bound. -/
def execRebuildOverdue (table : Nat) (s : State) : Host.Outcome State Fault Refusal :=
  .next <|
    let x := tableSt s table
    match x.ticket with
    | none => s
    | some k =>
      if x.rebuilding && x.completeTick.isNone && !x.overdue &&
          decide ((ticket s k).runTick + tabBound x.fore ≤ s.time.tick) then
        raise (setTable s table { x with overdue := true }) 137 [w32 table, w32 k]
      else s

end Sys2Proof.Machine
end

