-- ==== Sys2Proof/Machine/Inject.lean ====
section
/-! DEFINITION. The commands of test injection and of the capture unit (R252 to R265). -/

namespace Sys2Proof.Machine

/-- The frequencies of a chirp (R256): both in [0, 1/(2h)); logarithmic: F0 > 0 and F0 ≠ F1. -/
def chirpOk (d : LoopDef) (c : InjCmd) : Bool :=
  let top := fOfRat 4000 d.period
  fLe 0 c.f0 && fLt c.f0 top && fLe 0 c.f1 && fLt c.f1 top && (c.order == 0 || (fLt 0 c.f0 && !fEq c.f0 c.f1))

/-- Number of the highest set bit plus one. -/
def highestBit (x : BitVec 32) : Nat := if x = 0 then 0 else Nat.log2 x.toNat + 1

/-- The fields of a START in their ranges (Table 07.6, R255, R256). -/
def injFieldsOk (d : LoopDef) (l : InjLimits) (c : InjCmd) : Bool :=
  let a := fAbs c.amplitude
  !c.reserved && decide (1 ≤ c.signal ∧ c.signal ≤ 4 ∧ c.point ≤ 2) && l.pointsOk.testBit c.point
    && decide (8 ≤ c.duration ∧ c.duration ≤ l.durMax) && fIsFinite c.amplitude && fLe a (l.amp.getD c.point 0)
    && (c.signal == 1 || fLt 0 c.amplitude)
    && (if c.signal = 2 then decide (7 ≤ c.order ∧ c.order ≤ 20 ∧ 1 ≤ c.hold ∧ c.hold ≤ 64) &&
          (c.seed == 0 || decide (c.seed.toNat % 2 ^ c.order ≠ 0))
        else (if c.signal = 3 then decide (c.order ≤ 1) && chirpOk d c else c.order == 0) && c.hold == 0)
    && (if c.signal = 4 then decide (8 ≤ c.msPeriod ∧ c.msPeriod ≤ 65536 ∧ c.msHarm ≠ 0 ∧ 2 * highestBit c.msHarm < c.msPeriod)
        else c.msPeriod == 0)

/-- An output mirage sits on the context's output. -/
def outMirage (s : State) (d : LoopDef) : Bool :=
  d.dst.elim false fun o => s.crs.mirages.any fun e => e.2.kind == 1 && e.2.index == o

/-- The check of a START (R255), in the order of the rule. -/
def injStartCheck (s : State) (ctx : Nat) (c : InjCmd) : Option Nat :=
  if !inControl s then some rfRole
  else match loopDef (theImage s) ctx with
    | none => some (if ctx < 128 then rfImage else rfObject)
    | some d =>
      if !injectionMode s.md.mode || !s.md.injection || !pointInMode c.point (loop s ctx).mode then some rfMode
      else match injLimits (theImage s) ctx with
        | none => some rfRange
        | some l =>
          let st := (injSt s ctx).state
          if !injFieldsOk d l c then some rfRange
          else if st = 1 ∨ st = 2 ∨ 8 ≤ (s.loops.inj.filter fun e => e.2.state == 2).length then some rfBusy
          else if c.point ≠ 0 ∧ outMirage s d then some rfBusy
          else none

/-- INJECTION_START (R255): accepted, the injection waits for its first sample. -/
def execInjectionStart (r : Req) (ctx : Nat) (cmd : InjCmd) (s : State) : Host.Outcome State Fault Refusal :=
  .next <|
    let obj := 0x10300000 + w32 ctx
    hostCommand s r obj fun s =>
      match injStartCheck s ctx cmd with
      | some x => refuse s r obj x
      | none =>
        let seed := if cmd.seed = 0 then 2 ^ cmd.order - 1 else cmd.seed.toNat % 2 ^ cmd.order
        let s := setInj s ctx {
          state := 1, cmd := some { cmd with startTick := if cmd.startTick = 0 then s.time.tick + 1 else cmd.startTick }
          prbs := seed, origin := some (originOf s r) }
        reply s r obj stAccepted

/-- INJECTION_STOP (R257): the injection stops with cause 2. -/
def execInjectionStop (r : Req) (ctx : Nat) (s : State) : Host.Outcome State Fault Refusal :=
  .next <|
    let obj := 0x10300000 + w32 ctx
    hostCommand s r obj fun s =>
      if (loopDef (theImage s) ctx).isNone then refuse s r obj (if ctx < 128 then rfImage else rfObject)
      else stopInjection (reply s r obj stDone) ctx 2

/-! ### Capture (R259 to R265) -/

def capRate (c : Bytes) : Nat := le c 0 2
def capTrigger (c : Bytes) : Nat := le c 2 1
def capSel (c : Bytes) : Nat := le c 3 1
def capDepth (c : Bytes) : Nat := le c 4 4
def capPre (c : Bytes) : Nat := le c 8 4

/-- The enabled channels, in order. -/
def capChannels (c : Bytes) : List Nat := (List.range 16).filter fun i => (le c 0x0E 2).testBit i

/-- A capture source word (R261). -/
def capSrcOk (img : Image) (w : Nat) : Bool :=
  if srcKind w = 4 then decide (w / 2 ^ 8 % 16 ≤ 9 ∧ w / 2 ^ 12 % 4096 = 0 ∧ w / 2 ^ 7 % 2 = 0)
  else srcOk img (pubSize img) w

/-- A capture source word has no reserved bit set, whether or not its channel is enabled (R28). -/
def capSrcBits (w : Nat) : Bool :=
  if srcKind w = 4 then decide (w / 2 ^ 12 % 4096 = 0 ∧ w / 2 ^ 7 % 2 = 0) else srcBits w

/-- A configuration in its ranges (Table 07.9). -/
def captureOk (img : Image) (c : Bytes) : Bool :=
  let t := capTrigger c
  decide (c.length = 88 ∧ 1 ≤ capRate c ∧ capRate c ≤ 1024 ∧ t ≤ 5 ∧ 16 ≤ capDepth c ∧ capDepth c ≤ 1048576
      ∧ capPre c < capDepth c ∧ le c 0x0E 2 ≠ 0)
    && (if t = 1 ∨ t = 2 then decide (capSel c ≤ 15) else if t = 4 then decide (capSel c ≤ 127) else capSel c == 0)
    && (if t = 3 then decide (le c 0x0C 2 ≤ 255) else le c 0x0C 2 == 0)
    && (if t = 1 ∨ t = 2 ∨ t = 5 then true else zeroAt c 0x10 8)
    && ((capChannels c).all fun i => capSrcOk img (le c (0x18 + 4 * i) 4))
    && (List.range 16).all fun i => capSrcBits (le c (0x18 + 4 * i) 4)

/-- CAPTURE_CONFIGURE (R260). -/
def execCaptureConfigure (r : Req) (data : Bytes) (s : State) : Host.Outcome State Fault Refusal :=
  .next <| hostCommand s r 0xB0000000 fun s =>
    let c := s.loops.cap
    if c.state = 1 ∨ c.state = 2 then refuse s r 0xB0000000 rfBusy
    else if !captureOk (theImage s) data then refuse s r 0xB0000000 rfRange
    else reply { s with loops := { s.loops with cap := { c with config := data } } } r 0xB0000000 stDone

/-- CAPTURE_ARM (R262): earlier data is discarded; rows start at the next row tick. -/
def execCaptureArm (r : Req) (s : State) : Host.Outcome State Fault Refusal :=
  .next <| hostCommand s r 0xB0010000 fun s =>
    let c := s.loops.cap
    let late := capTrigger c.config = 5 ∧
      le c.config 0x10 8 < s.time.tick + 1 + capPre c.config * capRate c.config
    if !captureOk (theImage s) c.config || decide late then refuse s r 0xB0010000 rfRange
    else reply { s with loops := { s.loops with
        cap := {
          config := c.config, rowConfig := c.config, state := 1, fromTick := s.time.tick + 1
          preAt := if capPre c.config = 0 then some s.time.tick else none } } } r 0xB0010000 stDone

/-- CAPTURE_FORCE_TRIGGER (R262): the next row once PRE rows are complete. -/
def execCaptureForceTrigger (r : Req) (s : State) : Host.Outcome State Fault Refusal :=
  .next <| hostCommand s r 0xB0010000 fun s =>
    if s.loops.cap.state = 1 then
      reply { s with loops := { s.loops with cap := { s.loops.cap with forced := true } } } r 0xB0010000 stDone
    else refuse s r 0xB0010000 rfMode

/-- CAPTURE_ABORT (R263): with cause 1. -/
def execCaptureAbort (r : Req) (s : State) : Host.Outcome State Fault Refusal :=
  .next <| hostCommand s r 0xB0010000 fun s =>
    if s.loops.cap.state = 1 ∨ s.loops.cap.state = 2 then abortCapture (reply s r 0xB0010000 stDone) 1
    else refuse s r 0xB0010000 rfMode

/-- The value that a row holds for a source word (R261); a quiet NaN from an I/O module that is not valid. -/
def captureVal (s : State) (w : Nat) : F64 :=
  match srcKind w with
  | 1 =>
    let i := w % 2 ^ 24
    match ioEntry (theImage s) i with
    | none => fNaN
    | some e =>
      let v := if e.output then (tget ({} : OutCell) s.crs.out i).value else (tget ({} : InCell) s.crs.inp i).value
      if entryValid s i e then rawF64 e.ty v else fNaN
  | 2 => solverElement (tget {} s.solver.s (w / 2 ^ 16 % 64)) (w % 2 ^ 16)
  | 3 => (loop s (w % 128)).u
  | 4 =>
    let m := loop2 s (w % 128)
    let q := w / 2 ^ 8 % 16
    if q = 8 then m.qt else if q = 9 then m.qs else m.q.getD q 0
  | _ => 0

/-- The trigger condition holds for the row of this tick (R262), once PRE rows are complete. -/
def captureTriggers (s : State) (sel : Option F64) : Bool :=
  let c := s.loops.cap
  let lvl := leF64 c.config 0x10
  let cross (a b : F64) : Bool := -- a before, b now: below, then not below
    match capTrigger c.config with
    | 1 => fLt a lvl && !fLt b lvl
    | _ => fLt lvl a && !fLt lvl b
  decide (capPre c.config ≤ c.rows.length) &&
    (c.forced ||
      (match capTrigger c.config with
       | 0 => true
       | 1 | 2 => (match c.prevSel, sel with
         | some a, some b => cross a b
         | _, _ => false)
       | 3 => c.evSeen
       | 4 => (match (injSt s (capSel c.config)).firstTick, c.preAt with
         | some k, some p => decide (p < k ∧ k ≤ s.time.tick)
         | _, _ => false)
       | _ => decide (le c.config 0x10 8 ≤ s.time.tick)))

/-- CAPTURE_ROW (R261, R262): at phase 90 µs of a row tick a row is taken; the trigger row gives EV144, the last EV145. -/
def execCaptureRow (s : State) : Host.Outcome State Fault Refusal :=
  .next <|
    let c := s.loops.cap
    let t := s.time.tick
    if (c.state ≠ 1 ∧ c.state ≠ 2) ∨ t < c.fromTick ∨ c.lastRow = some t ∨ t % capRate c.config ≠ 0 then s
    else
      let s := setPhase s 90000
      let chans := capChannels c.config
      let vals := chans.map fun i => captureVal s (le c.config (0x18 + 4 * i) 4)
      let sel := ((chans.zip vals).find? fun e => e.1 == capSel c.config).map (·.2)
      let trig := c.state == 1 && captureTriggers s sel
      let rows := c.rows ++ [(t, vals)]
      let after : Nat := if trig then 1 else if c.state = 2 then c.after + 1 else 0
      let state : Nat := if trig ∨ c.state = 2 then (if capDepth c.config - capPre c.config ≤ after then 3 else 2) else 1
      let rows := if state = 1 then rows.drop (rows.length - capPre c.config) else
        if trig then rows.drop (rows.length - (capPre c.config + 1)) else rows
      let s := { s with loops := { s.loops with cap := { c with
          state := state, rows := rows, after := after, trigTick := if trig then some t else c.trigTick
          prevSel := sel, lastRow := some t
          preAt := if c.preAt.isNone && decide (capPre c.config ≤ rows.length) then some t else c.preAt } } }
      let s := if trig then raise s 144 (w64 t) else s
      if state = 3 then raise s 145 [w32 rows.length] else s

end Sys2Proof.Machine
end

