-- ==== Sys2Proof/Machine/Exchange.lean ====
section
/-! DEFINITION. The exchange (chapter 05, R168 to R195): staging, activation, the swap, its reversal, and the commands that
drive them. -/

namespace Sys2Proof.Machine

/-! ### Bricks (R180, R181) -/

/-- What a brick of the new image becomes (Table 05.5), with its index in the old image. -/
inductive BrickMatch where
  | carried (old : Nat)
  | converted (old : Nat) (b : ConvBlock)
  | added
  deriving DecidableEq, Repr

/-- The conversion list entry of a type for a change of version (R181). -/
def convBlock (ni : Image) (typeId old new : Nat) : Option ConvBlock :=
  (convList ni).find? fun b => b.typeId == typeId && b.old == old && b.new == new

/-- Table 05.5 for one brick of the new image. -/
def matchBrick (oi ni : Image) (b : BrickInst) : BrickMatch :=
  match (bricks oi).find? fun e => e.2.brickId == b.brickId with
  | none => .added
  | some e =>
    match brickType oi e.2.type, brickType ni b.type with
    | some t, some u =>
      if t.typeId ≠ u.typeId then .added
      else if t.version = u.version then .carried e.1
      else match convBlock ni u.typeId t.version u.version with
        | some c => .converted e.1 c
        | none => .added
    | _, _ => .added

/-- The least and the greatest value of an integer or time type; BOOL holds 0 and 1. -/
def tyBounds (ty : Nat) : Int × Int :=
  let w := 8 * tyWidth ty
  if ty = 1 then (0, 1) else if tySigned ty then (-(2 ^ (w - 1) : Nat), (2 ^ (w - 1) : Nat) - 1) else (0, (2 ^ w : Nat) - 1)

/-- The value of an integer or time type. -/
def rawInt (ty : Nat) (v : W64) : Int :=
  if tySigned ty then (BitVec.ofNat (8 * tyWidth ty) v.toNat).toInt else v.toNat

/-- An integer in a type, clamped to its range; whether it was clamped. -/
def intRaw (ty : Nat) (i : Int) : W64 × Bool :=
  let (lo, hi) := tyBounds ty
  let j := max lo (min hi i)
  (BitVec.ofNat 64 (j % (2 ^ (8 * tyWidth ty) : Nat)).toNat, decide (j ≠ i))

/-- The count of a time type in another: TIME counts ms, LTIME ns, and LTIME to TIME truncates toward zero (R594). -/
def timeScaled (src dst : Nat) (i : Int) : Int :=
  if src = 0x10 ∧ dst = 0x11 then i * 1000000 else if src = 0x11 ∧ dst = 0x10 then i.tdiv 1000000 else i

/-- A finite or infinite value in a REAL type, clamped to its largest magnitude; NaN becomes 0 (NARROW, Table 05.6). -/
def realRaw (ty : Nat) (x : F64) : W64 × Bool :=
  if fIsNaN x then (0, false)
  else if ty = 0x0E then
    let y := f64To32 x
    if fIsFinite (f32To64 y) then (y.setWidth 64, false)
    else ((if fLt x 0 then 0xFF7FFFFF#64 else 0x7F7FFFFF#64), true)
  else (x, false)

/-- One element under one rule (Table 05.6); whether it saturated. -/
def convElement (r : ConvRule) (v : W64) : W64 × Bool :=
  match r.op with
  | 0 => (v, false)
  | 3 =>
    if r.dstTy = 0x0E then
      let i := rawInt r.srcTy v
      (BitVec.ofNat 64 (fPack 24 8 (decide (i < 0)) i.natAbs 0 false), false)
    else (fOfInt (rawInt r.srcTy v), false)
  | 4 =>
    let x := rawF64 r.srcTy v
    if fIsNaN x then (0, false)
    else if fIsFinite x then intRaw r.dstTy (fNearest x 0)
    else
      let (lo, hi) := tyBounds r.dstTy
      ((intRaw r.dstTy (if fLt x 0 then lo else hi)).1, true)
  | op =>
    if tyReal r.dstTy then
      let x := rawF64 r.srcTy v
      if op = 1 ∧ fIsNaN x then (rawOfF64 r.dstTy x, false) else realRaw r.dstTy x
    else intRaw r.dstTy (timeScaled r.srcTy r.dstTy (rawInt r.srcTy v))

/-- One rule applied to an instance's data; whether an element saturated. -/
def convRule (old : Bytes) (acc : Bytes × Bool) (r : ConvRule) : Bytes × Bool :=
  (List.range r.count).foldl (fun acc i =>
    let v : W64 := BitVec.ofNat 64 (le old (r.src + i * tyWidth r.srcTy) (tyWidth r.srcTy))
    let (x, sat) := convElement r v
    (writeAt acc.1 (r.dst + i * tyWidth r.dstTy) (toLe (tyWidth r.dstTy) x.toNat), acc.2 || sat)) acc

/-- A converted instance: its data, and the first rule that saturated (R181). -/
def convert (b : ConvBlock) (old init : Bytes) : Bytes × Option Nat :=
  b.rules.zipIdx.foldl (fun acc r =>
    let (d, sat) := convRule old (acc.1, false) r.1
    (d.take init.length, if sat && acc.2.isNone then some r.2 else acc.2)) (init, none)

/-! ### Channels of the I/O map -/

/-- What an entry reads of its channel: the digital input types are one reading; position, velocity and angle, a read-back
and a status are readings of their own. -/
def reading (e : IoEntry) : Nat := if e.kind = 2 ∨ e.kind = 3 then 1 else e.kind

/-- Two entries hold one channel with one type (R191). -/
def sameEntry (a b : IoEntry) : Bool := sameChannel a b && reading a == reading b && a.output == b.output && a.ty == b.ty

/-- The number in the new map of an entry of the old one. -/
def newEntry (oi ni : Image) (i : Nat) : Option Nat :=
  (ioEntry oi i).bind fun a => ((ioNum ni).find? fun e => sameEntry a e.2).map (·.1)

/-- A table by I/O map entry under the new map. -/
def remap {α : Type} (oi ni : Image) (t : Tab α) : Tab α :=
  t.foldl (fun acc e => match newEntry oi ni e.1 with
    | some j => tset acc j e.2
    | none => acc) []

/-- The entry is the channel itself, no read-back (kind 9), safety state (13) or status (14) beside it (Table 12.2). -/
def primary (e : IoEntry) : Bool := !(onboard e && [9, 13, 14].contains e.kind)

/-- Kind of a channel as an exchange may not change it (R169, check 5): input or output, and the analogue range; on the ring
and on CAN the entry's kind. -/
def chanKind (e : IoEntry) : Bool × Nat := (e.output, if !onboard e ∨ e.kind = 6 ∨ e.kind = 7 then e.kind else 0)

/-- Two entries lie on one channel, whatever its kind. -/
def onChannel (a b : IoEntry) : Bool :=
  a.ring == b.ring && a.can == b.can && a.module == b.module && a.chan == b.chan &&
    (onboard a || (a.filter == b.filter && (a.ty != 1 || b.ty != 1 || a.param == b.param)))

/-- No channel changes its kind (R169, check 5): a channel that both maps use keeps each kind that it had. -/
def kindsKept (oi ni : Image) : Bool :=
  ((ioMap oi).filter primary).all fun a =>
    let now := (ioMap ni).filter fun b => primary b && onChannel a b
    now.isEmpty || now.any fun b => chanKind b == chanKind a

/-! ### Staging (R169 to R172) -/

/-- Records of the types that Table 05.2 marks as fixed. -/
def fixedRecs (img : Image) : List (Nat × Nat × Bytes) :=
  (img.recs.filter fun r => [0x40, 0x80, 0x81, 0x82].contains r.type).map fun r => (r.type, r.inst, r.payload)

/-- Every brick type whose version changes has its conversion list entry (R169, check 6). -/
def conversionsListed (oi ni : Image) : Bool :=
  (recsOf ni 2).all fun e =>
    match brickType ni e.1 with
    | none => true
    | some u => (recsOf oi 2).all fun o =>
      match brickType oi o.1 with
      | none => true
      | some t => t.typeId != u.typeId || t.version == u.version || (convBlock ni u.typeId t.version u.version).isSome

/-- Bytes that the swap moves or converts (R175). -/
def bytesMoved (oi ni : Image) : Nat :=
  ((bricks ni).map fun e =>
    match matchBrick oi ni e.2 with
    | .carried o => if ((brickInst oi o).map (·.offset)) = some e.2.offset then 0 else e.2.len
    | .converted _ _ => e.2.len
    | .added => 0).sum

/-- Instances of the types of two images that differ, are added or are removed, of one record type. -/
def changedInsts (oi ni : Image) (t : Nat) : List Nat :=
  ((recsOf ni t).filter fun e => recOf oi t e.1 != some e.2).map (·.1)
    ++ ((recsOf oi t).filter fun e => (recOf ni t e.1).isNone).map (·.1)

/-- Solver contexts that an exchange changes: their record or their model parameters. -/
def changedSolver (oi ni : Image) : List Nat :=
  (List.range 64).filter fun c => recOf oi 0x30 c != recOf ni 0x30 c || recOf oi 0x31 c != recOf ni 0x31 c

/-- Bricks of the old image that the new one neither carries nor converts. -/
def removedBricks (oi ni : Image) : List Nat :=
  let kept := (bricks ni).filterMap fun e => match matchBrick oi ni e.2 with
    | .carried o => some o
    | .converted o _ => some o
    | .added => none
  ((bricks oi).map (·.1)).filter fun i => !kept.contains i

/-- The plan counts (R172). -/
def planCounts (oi ni : Image) (unwritten : Nat) : List Nat :=
  let ms := (bricks ni).map fun e => matchBrick oi ni e.2
  let n (f : BrickMatch → Bool) : Nat := (ms.filter f).length
  [n fun m => match m with | .carried _ => true | _ => false, n fun m => match m with | .converted _ _ => true | _ => false,
    n (· == .added), (removedBricks oi ni).length, unwritten, (changedInsts oi ni 0x20).length, (changedSolver oi ni).length,
    bytesMoved oi ni]

/-- Checks 2 to 8 of R169 on a staged image: the first REASON that applies, 0 for none. -/
def stageCheck (s : State) (ni : Image) (partner : Option Bytes) : Nat :=
  let oi := theImage s
  if hdrSequence ni.header ≤ hdrSequence oi.header then 2
  else if hdrNode ni.header ≠ hdrNode oi.header then 3
  else if !((fixedRecs oi).all fun r => (fixedRecs ni).contains r) || !((fixedRecs ni).all fun r => (fixedRecs oi).contains r) then 4
  else if !kindsKept oi ni then 5
  else if !conversionsListed oi ni then 6
  else if 262144 < bytesMoved oi ni then 7
  else if s.md.role ≠ .solo ∧ partner ≠ some (hdrDigest ni.header) then 8
  else 0

/-- The exchange command object (R168). -/
def exchObj : W32 := 0x02500000#32

/-- The answer codes of R78 for an exchange command, in their order: another exchange command is ACCEPTED and not
complete, the role, the mode or STATE; CHANGE has been answered before. -/
def exchRefusal (s : State) (modes : List Mode) (states : List Nat) : Option Nat :=
  if s.exch.state = 1 ∨ s.exch.origin.isSome then some rfBusy
  else if !inControl s then some rfRole
  else if !modes.contains s.md.mode ∨ !states.contains s.exch.state then some rfMode
  else none

/-- Tables that an exchange changes or adds, with their new payloads (R169, R189). -/
def changedTables (oi ni : Image) : List (Nat × Bytes) :=
  (tableNums ni).filterMap fun t => if tableRec oi t = tableRec ni t then none else (tableRec ni t).map fun p => (t, p)

/-- An update on table t is RUNNING. -/
def tableRuns (s : State) (t : Nat) : Bool :=
  s.tickets.any fun e => e.2.kind == 1 && e.2.index == t && e.2.status == 3

/-- The background buffers of these tables hold the staged image's tables, but for a table with a RUNNING update, whose
buffer staging waits for (R250). -/
def loadTables (s : State) (ts : List (Nat × Bytes)) : State :=
  { s with loops := { s.loops with t := s.loops.t.map fun e =>
      (e.1, { e.2 with stagedBg := e.2.stagedBg || ((ts.any fun t => t.1 == e.1) && !tableRuns s e.1) }) } }

/-- Staging loads the changed tables as soon as their buffers are free: with STAGE, and then at each tick boundary (R250). When in
the staging run a table is loaded is not stated (DESIGN CHOICE, assumption 95). -/
def stagingLoads (s : State) : State :=
  if s.exch.state ≠ 1 then s
  else match (fullCheck s (bank s (spareBank s)).bytes).image with
    | none => s
    | some ni => loadTables s (changedTables (theImage s) ni)

/-- EXCHANGE_STAGE (R168, R169): staging begins; on a session to the role address the standby stages too (R193). -/
def execExchangeStage (r : Req) (s : State) : Host.Outcome State Fault Refusal :=
  .next <| hostCommand s r exchObj fun s =>
    match exchRefusal s [.stop, .run, .hold, .degraded, .oasis] [0, 3, 5, 6, 7] with
    | some e => refuse s r exchObj e
    | none =>
      let s' := stagingLoads (reply { s with exch := { s.exch with
        state := 1, reason := 0, staged := none, stageOrigin := some (originOf s r), stageTick := s.time.tick
        unwrittenNew := [], unwrittenOld := [] } } r exchObj stAccepted)
      if s.md.role == .active && (sess s r.session).role then
        sendLink s' 5 48 (.forward (.exchange (hdrDigest (bankHeader (bank s (spareBank s)).bytes))))
      else s'

/-- Staging ends as STAGE_FAILED with a REASON (R169, R171). -/
def stageFailed (s : State) (reason : Nat) : State :=
  let o := s.exch.stageOrigin
  let s := dropStagedTables { s with exch := { s.exch with state := 3, reason := reason, stageOrigin := none } }
  completeOpt (raise s 106 [3, w32 reason]) o (Config.finalCode 0x0250 reason)

/-- Staging ends as STAGED with its plan (R169, R172). -/
def stageDone (s : State) (b : Nat) (ni : Image) (unwrittenNew unwrittenOld : List Nat) : State :=
  let o := s.exch.stageOrigin
  let s := loadTables s (changedTables (theImage s) ni)
  let s := { s with exch := { s.exch with
      state := 2, reason := 0, staged := some (b, ni), stageOrigin := none, unwrittenNew := unwrittenNew
      unwrittenOld := unwrittenOld, plan := planCounts (theImage s) ni unwrittenNew.length } }
  completeOpt (raise s 106 [2, 0]) o stDone

/-- STAGING_COMPLETE (R169 to R171): the checks decide STATE; EV106. While an update on a table that the exchange changes is
RUNNING, staging waits; at its bound of 32,000 ticks it ends with REASON 16 (R250). -/
def execStagingComplete (tablesLoaded : Bool) (partner : Option Bytes) (unwrittenNew unwrittenOld : List Nat) (at_ : Nat)
    (s : State) : Host.Outcome State Fault Refusal :=
  .next <|
    if s.exch.state ≠ 1 then s
    else
      let b := spareBank s
      let k := fullCheck s (bank s b).bytes
      -- a standby compares with the digest that its active has named (R193)
      let other := if inControl s then partner else s.exch.partnerDigest
      let e := k.image.elim 1 fun ni => stageCheck s ni other
      let held := k.image.elim false fun ni => (changedTables (theImage s) ni).any fun t => tableRuns s t.1
      if e = 0 ∧ tablesLoaded ∧ held ∧ s.time.tick < s.exch.stageTick + 32000 then s
      else
        let s := setPhase s at_
        let s := raiseSkipped (bankStatus s b (if s.kiln.keyPresent then k.reason else 13)) k.skipped
        match k.image with
        | some ni =>
          if e ≠ 0 then stageFailed s e
          else if !tablesLoaded || held then stageFailed s 16
          else stageDone s b ni unwrittenNew unwrittenOld
        | none => stageFailed s 1

/-- EXCHANGE_UNSTAGE (R168, R171): the plan ends. -/
def execExchangeUnstage (r : Req) (s : State) : Host.Outcome State Fault Refusal :=
  .next <| hostCommand s r exchObj fun s =>
    match exchRefusal s [.load, .stop, .sync, .track, .run, .hold, .degraded, .oasis, .halt] [2] with
    | some e => refuse s r exchObj e
    | none =>
      let s := dropStagedTables { s with exch := { s.exch with state := 0, reason := 0, staged := none } }
      reply s r exchObj stDone

/-- An image write that becomes RUNNING on the spare bank ends a staged plan (R171). -/
def unstageRewritten (s : State) : State :=
  if s.exch.state = 2 then
    let s := dropStagedTables { s with exch := { s.exch with state := 3, reason := 15, staged := none } }
    raise s 106 [3, 15]
  else s

/-- An exchange replaces or removes the region of a request (R172, R202). -/
def regionReplaced (oi ni : Image) (kind index : Nat) : Bool :=
  match kind with
  | 1 => tableRec oi index != tableRec ni index
  | 2 => (changedSolver oi ni).contains index
  | 3 => match brickInst ni index with
    | some b => (match matchBrick oi ni b with
      | .carried o => o != index
      | _ => true)
    | none => true
  | _ => false

/-- EXCHANGE_ACTIVATE (R168, R173): CHANGE at the next tick boundary. -/
def execExchangeActivate (r : Req) (s : State) : Host.Outcome State Fault Refusal :=
  .next <| hostCommand s r exchObj fun s =>
    match exchRefusal s [.stop, .run, .degraded] [2], s.exch.staged with
    | some e, _ => refuse s r exchObj e
    | none, none => refuse s r exchObj rfMode
    | none, some (_, ni) =>
      if s.tickets.any fun e => e.2.status == 3 && regionReplaced (theImage s) ni e.2.kind e.2.index then
        refuse { s with exch := { s.exch with reason := 16 } } r exchObj rfBusy
      else
        let o := originOf s r
        let s := reply s r exchObj stAccepted
        { s with
          exch := { s.exch with reason := 0, origin := some o }
          md := { s.md with trans := s.md.trans ++ [⟨6, .change, causeExchange, some o, 0⟩] } }

/-- The window opens at the entry tick (R173): scan A runs, or the wait for a quiet tick begins. -/
def openWindow (s : State) (before : Mode) : State :=
  let base := tget ({} : CourseSt) s.crs.c 0
  let o := s.exch.origin
  completeOpt { s with
    md := { s.md with beforeChange := before }
    exch := { s.exch with
      state := 4, phase := if base.state = 1 then 1 else 2, waitFrom := s.time.tick, scans := 0, swapped := false
      origin := none, rollback := none } } o stDone

/-! ### The swap (R175, R180 to R191) -/

/-- Instance data after the swap (R180, R181), with EV117 for each brick in which a rule saturated. A brick that the swap
writes shows what it has written. -/
def swapData (s : State) (oi ni : Image) : State :=
  let put (acc : State) (i : Nat) (d shown : Bytes) : State :=
    { acc with crs := { acc.crs with data := tset acc.crs.data i d, shown := tset acc.crs.shown i shown } }
  (bricks ni).foldl (fun (acc : State) e =>
    match matchBrick oi ni e.2 with
    | .carried o => put acc e.1 (brickData s o) (shownData s o)
    | .converted o b =>
      let (d, sat) := convert b (brickData s o) e.2.init
      let acc := put acc e.1 d d
      (match sat with
      | some r => raise acc 117 [w32 e.1, w32 r]
      | none => acc)
    | .added => acc) { s with crs := { s.crs with data := [], shown := [] } }

/-- Everything that is kept by I/O map entry follows the new map. -/
def swapIo (s : State) (oi ni : Image) : State :=
  let pairs {α : Type} (l : List (Nat × α)) : List (Nat × α) := l.filterMap fun e => (newEntry oi ni e.1).map fun j => (j, e.2)
  { s with
    crs := { s.crs with
      inp := remap oi ni s.crs.inp, live := remap oi ni s.crs.live, out := remap oi ni s.crs.out
      committed := remap oi ni s.crs.committed, held := remap oi ni s.crs.held
      outLate := pairs s.crs.outLate }
    field := { s.field with terminal := remap oi ni s.field.terminal }
    ring := { s.ring with counts := remap oi ni s.ring.counts }
    loops := { s.loops with loaded := remap oi ni s.loops.loaded, override := pairs s.loops.override }
    mortar := { s.mortar with outputs := pairs s.mortar.outputs } }

/-- A loop context that starts afresh in an exchange (R187): in its configured loop mode, bumpless from the present output. -/
def loopAdded (s : State) (d : LoopDef) (u : Option F64) : LoopSt :=
  let x := rampStart (theImage s) d (loopStart d)
  let out := d.dst.bind fun i => (ioEntry (theImage s) i).bind fun e =>
    (tfind s.crs.out i).bind fun c => if c.released then some (rawF64 e.ty c.value) else none
  { x with u := (u.orElse fun _ => out).getD x.u }

/-- The loop contexts after the swap to image `ni`, which is in force already (R187). `keptL` and `keptM` hold the states of
contexts as they stood before the swap that a rollback reverses; in it integrators and filter states continue, those of
a context that the swap had removed included (R178). A context whose INT_EXP changes keeps the value of its integral. -/
def swapLoops (s : State) (oi ni : Image) (keptL : Tab LoopSt) (keptM : Tab LoopSt2) (back : Bool) : State :=
  let one (e : Nat × LoopDef) : LoopSt × LoopSt2 :=
    let (c, d) := e
    let x := loop s c
    let m := loop2 s c
    let ps := ((tfind keptM c).map (·.params)).getD d.params
    match loopDef oi c with
    | none =>
      match tfind keptL c, tfind keptM c with
      | some x, some m => (x, m)
      | _, _ => (loopAdded s d none, { params := d.params })
    | some o =>
      let x := { x with acc := accRescale o.intExp d.intExp x.acc }
      if !back && decide (o.period ≠ d.period ∨ o.offset ≠ d.offset ∨ o.outer ≠ d.outer) then
        ({ loopAdded s d (some x.u) with restart := true }, { params := ps, counters := m.counters, lastTick := m.lastTick, q := m.q })
      else if o.params ≠ d.params then (x, { m with dueAll := some ps })
      else (x, m)
  let all := (loopDefs ni).map fun e => (e.1, one e)
  { s with loops := { s.loops with
      l := all.foldl (fun t e => tset t e.1 e.2.1) []
      m := all.foldl (fun t e => tset t e.1 e.2.2) []
      inj := s.loops.inj.filter fun e => (loopDef ni e.1).isSome } }

/-- The tables after the swap (R189): a changed one waits for its context's first sample, or is taken at once when no
context names it; a removed one goes. `kept` holds the payloads of an earlier swap. -/
def swapTables (s : State) (oi ni : Image) (kept : Tab TableSt) : State :=
  let s := { s with
    loops := { s.loops with t := s.loops.t.filter fun e => (tableRec ni e.1).isSome }
    exch := { s.exch with tableSwaps := s.exch.tableSwaps.filter fun e => (tableRec ni e.1).isSome } }
  (changedTables oi ni).foldl (fun s e =>
    let (t, p) := e
    let p := ((tfind kept t).map (·.fore)).getD p
    let s := { s with exch := { s.exch with tableSwaps := s.exch.tableSwaps.filter fun q => q.1 != t } }
    if (tableSt s t).fore = p ∧ (tfind s.loops.t t).isSome then s
    else if (tableUser ni t).isSome then { s with exch := { s.exch with tableSwaps := s.exch.tableSwaps ++ [(t, p)] } }
    else swapTable s t p) s

/-- One solver context after the swap (R188). Its frame in flight stays on its old template in slot 64 + c. -/
def swapSolverOne (oi : Image) (keptS : Tab SolvSt) (keptJ : Tab SolvSt2) (s : State) (e : Nat × SolverDef) : State :=
  let (c, d) := e
  let ni := theImage s
  let (x0, m0) := solverStart ni c d
  match solverRec oi c with
  | none =>
    let x := (tfind keptS c).getD x0
    let m := ((tfind keptJ c).map fun m => { m with job := none, outcome := none, frame := none, unit := m0.unit }).getD m0
    setSolv2 (setSolv s c x) c m
  | some r =>
    let m := solv2 s c
    let fresh := recOf oi 0x31 c != recOf ni 0x31 c
    let p := match tfind keptJ c with
      | some k => (k.params, k.curves)
      | none => (m0.params, m0.curves)
    let m' := if fresh then { m with params := p.1, curves := p.2 } else m
    if some r = solverRec ni c then setSolv2 s c m'
    else
      let s := match m.frame with
        | none => s
        | some _ =>
          let s := { s with exch := { s.exch with oldFrames := (s.exch.oldFrames.filter fun o => o.1 != c) ++ [(c, r)] } }
          setSolv2 s (64 + c) { job := m.job, outcome := m.outcome, frame := m.frame, stale := m.stale, mortar := m.mortar, unit := m.unit }
      setSolv2 s c { m' with
        job := none, outcome := none, frame := none, stale := false, mortar := none, signature := m0.signature
        tagLast := [], tagStale := [], clamped := [] }

/-- The solver after the swap to the image in force (R188, R271): removed contexts and their frames go, added ones start,
and a new layout lays the tiles out again. -/
def swapSolver (s : State) (oi : Image) (keptS : Tab SolvSt) (keptJ : Tab SolvSt2) : State :=
  let ni := theImage s
  let gone (c : Nat) : Bool := (solverRec ni (c % 64)).isNone
  let s := { s with
    solver := { s.solver with
      s := s.solver.s.filter fun e => !gone e.1
      j := s.solver.j.filter fun e => !gone e.1 }
    exch := { s.exch with oldFrames := s.exch.oldFrames.filter fun o => !gone o.1 } }
  let ds := solverDefs ni
  let s := ds.foldl (swapSolverOne oi keptS keptJ) s
  let laid := gangLayout oi != gangLayout ni
  let s := if !laid then s else
    { s with solver := { s.solver with
        tiles := layoutTiles s
        j := s.solver.j.map fun e => match solverDef ni (e.1 % 64) with
          | some d => (e.1, { e.2 with unit := some d.home, job := e.2.job.map fun j => { j with unit := d.home, state := 1 } })
          | none => e } }
  let whole (d : SolverDef) : Bool := (unitList s).any fun u =>
    u.1 == d.home && (unitsOf (gangLayout ni)).any fun w => w.1 == u.1 && w.2 == u.2
  let broken := ds.filter fun e =>
    ((solverRec oi e.1).isNone || laid) && !whole e.2 || (solverRec oi e.1 != solverRec ni e.1 &&
      (solv2 s e.1).unit.elim true fun u => !(unitList s).any fun w => w.1 == u && sizeFits e.2 w.2)
  if broken.isEmpty then schedule s else rehome s broken

/-- The setting of an image with an index and type, if it has one. A setting whose TYPE changes under its INDEX is one removed
and one added: the spec is silent on it (DESIGN CHOICE, assumption 86). -/
def settingSame (img : Image) (d : SettingDef) : Option SettingDef :=
  (settingDefs img).find? fun e => e.index == d.index && e.type == d.type

/-- The settings after the swap (Table 03.10): values are kept by INDEX, an added setting takes its default, and a kept
value beyond the new limits is clamped with EV022. A bound parameter follows its clamped setting. -/
def swapSettings (s : State) (oi ni : Image) : State :=
  (settingDefs ni).foldl (fun (acc : State) d =>
    match settingSame oi d with
    | none => { acc with set := { acc.set with state := 1 } }
    | some o =>
      let v := settingValue s (o.index % 65536)
      let w := if !rawLe d.type d.min v then d.min else if !rawLe d.type v d.max then d.max else v
      let acc := { acc with set := { acc.set with values := tset acc.set.values (d.index % 65536) w } }
      if w = v then acc
      else
        let acc := { acc with set := { acc.set with state := 1 } }
        let acc := if d.bindCtx = 0xFF then acc else
          let m := loop2 acc d.bindCtx
          setLoop2 acc d.bindCtx { m with changes := m.changes ++ [(d.bindOffset, w, acc.time.tick)] }
        raise acc 22 ([w32 d.index] ++ w64 w.toNat)) { s with set := { s.set with values := [] } }

/-- The offset in the new instance of a variable of a converted one: a COPY or WIDEN rule that maps it to a target of its
own type (R191). -/
def convOffset (b : ConvBlock) (ty off : Nat) : Option Nat :=
  b.rules.findSome? fun r =>
    if r.op ≤ 1 ∧ r.srcTy = ty ∧ r.dstTy = ty ∧ r.src ≤ off ∧ (off - r.src) % tyWidth ty = 0 ∧ (off - r.src) / tyWidth ty < r.count then
      some (r.dst + (off - r.src)) else none

/-- The target of a mirage under the new image: brick and index; none when the mirage is suspended (R191). -/
def mirageTarget (oi ni : Image) (m : Mirage) : Option (Nat × Nat) :=
  if m.kind ≤ 1 then (newEntry oi ni m.index).map fun i => (m.brick, i)
  else
    (bricks ni).findSome? fun e =>
      let safe := (brickType ni e.2.type).elim false (·.safety)
      if safe then none
      else match matchBrick oi ni e.2 with
        | .carried o => if o = m.brick then some (e.1, m.index) else none
        | .converted o b => if o = m.brick then (convOffset b m.ty m.index).map fun i => (e.1, i) else none
        | .added => none

/-- The mirages after the swap (R191). -/
def swapMirages (oi ni : Image) (t : Tab Mirage) : Tab Mirage :=
  t.map fun e => match mirageTarget oi ni e.2 with
    | some (b, i) => (e.1, { e.2 with brick := b, index := i })
    | none => (e.1, { e.2 with suspended := true })

/-- The courses after the swap: those of the new course table; one that the exchange creates reports FIRST_SCAN in its
first activation (R182). What was forced was forced for the old program (R191). `kept` holds the states of an earlier swap. -/
def swapCourses (ni : Image) (t kept : Tab CourseSt) : Tab CourseSt :=
  (List.range 9).foldl (fun acc c =>
    if (courseDef ni c).isNone then acc
    else match tfind t c with
      | some x => tset acc c { x with state := 0, firstScan := false, takeoverScan := false, warned := false, forced := [] }
      | none => tset acc c ((tfind kept c).getD { firstDue := true })) []

/-- Requests on regions that an exchange replaces or removes are SUPERSEDED (R202). -/
def supersede (s : State) (oi ni : Image) : State :=
  s.tickets.foldl (fun s e =>
    if (e.2.status = 1 ∨ e.2.status = 2) ∧ regionReplaced oi ni e.2.kind e.2.index then ticketEnd s e.1 5 7 else s) s

/-- The panel takes the map of the image in force at its next frame pair; a panel without a map has none to wait for (R551). -/
def swapPanel (s : State) (oi ni : Image) : State :=
  let m := (recOf ni 0x60 0).getD []
  if recOf oi 0x60 0 = recOf ni 0x60 0 then s
  else if s.panel.driving then { s with panel2 := { s.panel2 with mapDue := some m } }
  else settle { s with
    panel2 := { s.panel2 with map := m, mapDue := none, unacked := [], acked := [] }
    panel := { s.panel with
      band := if m.isEmpty then 7 else mapDefaultBand m, bias := !m.isEmpty && mapBias m } }

/-- The bank of the running image reports RUNNING (R179). -/
def runBank (s : State) (b : Nat) : State :=
  let s := setBank s b { bank s b with running := true }
  setBank s (1 - b) { bank s (1 - b) with running := false }

/-- The swap to the staged program at tick s (R175, R179). -/
def exchSwap (s : State) : State :=
  match s.exch.staged with
  | none => s
  | some (b, ni) =>
    let oi := theImage s
    let old : OldVersion := {
      image := oi, bank := s.kiln.imageBank, data := s.crs.data, shown := s.crs.shown, mirages := s.crs.mirages, tables := s.loops.t
      loopsL := s.loops.l, loopsM := s.loops.m, solverS := s.solver.s, solverJ := s.solver.j, courses := s.crs.c
      settings := s.set.values, setState := s.set.state, setGeneration := s.set.generation, unwritten := s.exch.unwrittenOld }
    let added := ((bricks ni).filter fun e => matchBrick oi ni e.2 == .added).map (·.1)
    let s := swapData s oi ni
    let s := swapIo s oi ni
    let s := swapSettings s oi ni
    let s := { s with
      crs := { s.crs with
        mirages := swapMirages oi ni s.crs.mirages
        c := swapCourses ni s.crs.c [] }
      exch := { s.exch with
        swapped := true, switchTick := s.time.tick, added := added, orphans := s.exch.unwrittenNew, old := some old }
      kiln := { s.kiln with image := some ni, imageBank := b, oldImage := some oi } }
    let s := swapLoops s oi ni [] [] false
    let s := swapSolver s oi [] []
    let s := swapTables s oi ni []
    let s := swapPanel s oi ni
    let s := supersede (runBank (extendK7 s ni.header) b) oi ni
    raise s 107 (w64 s.time.tick ++ [w32 s.exch.orphans.length])

/-- Instance data after a rollback (R178): carried bricks keep their current data, every other returns to its data as it
stood at tick s. -/
def backData (s : State) (o : OldVersion) (cur : Image) : Tab Bytes :=
  let carried := (bricks cur).filterMap fun e => match matchBrick o.image cur e.2 with
    | .carried i => some (i, brickData s e.1)
    | _ => none
  carried.foldl (fun t e => tset t e.1 e.2) o.data

/-- A rollback (R178, R179, R192): activations of the new program are abandoned; an output that the swap has left without a
writer keeps its oasis value until its old writer releases. -/
def exchRollback (s : State) (reason : Nat) : State :=
  match s.exch.old with
  | none => s
  | some o =>
    let s := abandonCourses s
    let cur := theImage s
    let oi := o.image
    let orphans := o.unwritten ++ (s.exch.orphans.filterMap (newEntry cur oi)).filter fun n => !o.unwritten.contains n
    let data := backData s o cur
    let s := { s with crs := { s.crs with
      data := data, shown := data.foldl (fun t e => if (tfind o.data e.1).isSome then tset t e.1 e.2 else t) o.shown } }
    let s := swapIo s cur oi
    let s := { s with
      crs := { s.crs with mirages := o.mirages, c := swapCourses oi s.crs.c o.courses, setpoints := [], modeReqs := [] }
      set := { s.set with values := o.settings, state := o.setState, generation := o.setGeneration }
      kiln := { s.kiln with image := some oi, imageBank := o.bank, oldImage := none } }
    let s := swapLoops s cur oi o.loopsL o.loopsM true
    let s := swapSolver s cur o.solverS o.solverJ
    let s := swapTables s cur oi o.tables
    let s := runBank (swapPanel s cur oi) o.bank
    let s := dropStagedTables { s with exch := { s.exch with
      state := 6, reason := reason, phase := 0, swapped := false, backTick := some s.time.tick, staged := none, old := none, rollback := none
      added := [], orphans := orphans } }
    raise s 109 ([w32 reason] ++ w64 s.time.tick)

/-! ### The window (R173, R176 to R178) -/

/-- The window of an exchange is open on a module that decides it (R194). -/
def inWindow (s : State) : Bool := s.md.mode == .change && inControl s && s.exch.state == 4

/-- A happening of Table 05.4 in the window: abandon before the swap, roll back after it. -/
def changeFault (s : State) (reason : Nat) : State :=
  if !inWindow s then s
  else if !s.exch.swapped then leaveChange (exchAbandon s reason)
  else if s.exch.rollback.isSome then s
  else { s with exch := { s.exch with
      rollback := some (reason, if s.time.phase < 20000 then s.time.tick else s.time.tick + 1) } }

/-- A timed course's activation is in progress. -/
def timedBusy (s : State) : Bool := s.crs.c.any fun e => e.1 != 0 && e.2.state != 0

/-- MAX_SCAN of the running image. -/
def maxScan (s : State) : Nat := ((courseDef (theImage s) 0).map (·.maxScan)).getD 800

/-- The rollback that is due at this phase 20 µs (R178). -/
def rollbackDue (s : State) : State :=
  match s.exch.rollback with
  | some (reason, t) => if inWindow s && decide (t ≤ s.time.tick) then leaveChange (exchRollback s reason) else s
  | none => s

/-- No quiet tick within MAX_SCAN ticks of wait_from (R173). -/
def noQuietTick (s : State) : State :=
  if inWindow s && s.exch.phase == 2 && timedBusy s && decide (s.exch.waitFrom + maxScan s ≤ s.time.tick) then changeFault s 9 else s

/-- The window's steps at phase 20 µs, before the course dispatcher (R173). -/
def windowStep (s : State) : State :=
  let s := rollbackDue s
  if inWindow s && s.exch.phase == 2 && decide (s.exch.waitFrom ≤ s.time.tick) then
    if timedBusy s then noQuietTick s
    else
      let s := exchSwap s
      if s.md.beforeChange = .stop then leaveChange (exchComplete s) else { s with exch := { s.exch with phase := 3 } }
  else s

/-- EXCHANGE_NO_QUIET_TICK (R173). -/
def execExchangeNoQuietTick (s : State) : Host.Outcome State Fault Refusal := .next (noQuietTick (setPhase s 20000))

/-- EXCHANGE_ROLLBACK (R178). -/
def execExchangeRollback (s : State) : Host.Outcome State Fault Refusal := .next (rollbackDue (setPhase s 20000))

end Sys2Proof.Machine
end

