-- ==== Sys2Proof/Machine/Courses.lean ====
section
/-! DEFINITION. Courses (chapter 04, R127 to R156, R164 to R167): starts, the watch, the dispatcher, activation ends, traps,
breakpoints and course counters. -/

namespace Sys2Proof.Machine

/-- Courses run in this mode (Table 02.1); in a CHANGE entered from STOP none does (R173). -/
def coursesRun (s : State) : Bool := running s && !(s.md.mode == .change && s.md.beforeChange == .stop)

/-! ### Starts (R134 to R138) -/

/-- Core pair 1 runs the ready course of the lowest number (R135): it is RUNNING, the others READY or PREEMPTED. -/
def arbitrate (s : State) : State :=
  let ready := (s.crs.c.filter fun e => e.1 != 0 && e.2.state != 0).map (·.1)
  { s with crs := { s.crs with c := s.crs.c.map fun e =>
      if e.1 = 0 ∨ e.2.state = 0 then e else (e.1, { e.2 with state := if ready.head? = some e.1 then 1 else 2 }) } }

/-- The variable mirages that a course reads from an activation start on (R160). -/
def courseMirages (s : State) (c : Nat) : List (Nat × Nat × Bytes) :=
  (s.crs.mirages.filter fun e => e.2.kind == 2 && !e.2.suspended && (e.2.brick == 0 || brickCourse s e.2.brick == some c)).map
    fun e => (e.2.brick, e.2.index, toLe (tyWidth e.2.ty) e.2.value.toNat)

/-- Forced variables hold their mirage values (R160, R162). -/
def writeForced (s : State) (l : List (Nat × Nat × Bytes)) : State := l.foldl (fun s f => putData s f.1 f.2.1 f.2.2) s

/-- An instance-data update reaches its commit point (R196): the written block, DONE. -/
def commitInstance (s : State) (t : Nat) : State :=
  let x := ticket s t
  ticketEnd (putData s x.index 0 x.data) t 4 0

/-- The instance-data updates of a course's bricks that became RUNNING before this tick (R196, R200), in a pair on both
modules (R201). -/
def commitRegions (s : State) (c : Nat) : State :=
  s.tickets.foldl (fun s e =>
    if e.2.kind = 3 ∧ e.2.status = 3 ∧ regionHeld s e.1 ∧ e.2.runTick < s.time.tick ∧ brickCourse s e.2.index = some c then commitInstance s e.1 else s) s

/-- What the system bricks return of an activation's start (Table 04.7). -/
def sysCapture (s : State) (c : Nat) : SysSt :=
  let x := course s c
  { ns := s.time.ns, quality := timeQuality s, mode := modeCode s.md.mode, role := roleCode s.md.role
    injection := s.md.injection, mirages := !s.crs.mirages.isEmpty
    partner := if s.pair.report then (s.pair.status.map (·.mode)).getD 15 else 15
    counts := [x.lastTime, x.maxTime, x.overruns, x.skipped, x.div0, x.consec]
    setState := s.set.state, generation := s.set.generation, settings := s.set.values
    loops := s.loops.l, refused := (s.loops.m.filter fun e => e.2.courseRefused).map (·.1)
    solver := s.solver.s, queued := x.events.length }

/-- An activation starts at phase 20 µs on the input image of this tick (R134, R138). `elapsed` is what the watch of R144
counts already. -/
def startCourse (s : State) (c elapsed : Nat) : State :=
  let s := commitRegions s c
  let x := course s c
  let f := courseMirages s c
  let s := setCourse s c { x with
    state := if c = 0 then 1 else 2
    startTick := s.time.tick, image := s.crs.inp, sys := sysCapture s c, pos := 0
    firstScan := x.firstDue, takeoverScan := x.takeoverDue, warned := false, elapsed := elapsed, watchTick := s.time.tick
    activations := satAdd 64 x.activations 1, overran := false, forced := f, from_ := nowNs s, ranNs := 0 }
  let s := writeForced s f
  setCourse s c { course s c with globals := brickData s 0 }

/-! ### The watch (R144) and the dispatcher (R145) -/

/-- An OASIS reaction of a course fault (R150): every activation is abandoned. -/
def courseOasis (s : State) : State := oasisReaction (abandonCourses s)

/-- The base scan has run for n ticks at a phase 20 µs (R144): EV096 once when that reaches MAX_SCAN, EV097 and OASIS at four
times MAX_SCAN. A scan B may start beyond MAX_SCAN (R173). -/
def watchScan (s : State) (n : Nat) : State :=
  let x := course s 0
  let at1 := decide (maxScan s ≤ n) && !x.warned
  let s := setCourse s 0 { x with
    elapsed := n, watchTick := s.time.tick, warned := x.warned || at1
    overruns := if at1 then satAdd 32 x.overruns 1 else x.overruns }
  let s := if at1 then changeFault (raise s 96 ([0] ++ w64 x.startTick)) 10 else s
  if 4 * maxScan s ≤ n then courseOasis (raise s 97 ([0] ++ w64 x.startTick)) else s

/-- The watch of the base scan at a phase 20 µs, once in each tick (R144). A tick counts when the scan runs at its phase
20 µs, and not when it stands in HOLD there: the spec counts elapsed time without HOLD and compares it at these points only
(DESIGN CHOICE, assumption 83). -/
def baseWatch (s : State) : State :=
  let x := course s 0
  if x.state ≠ 1 ∨ x.watchTick = s.time.tick ∨ !coursesRun s then s else watchScan s (x.elapsed + 1)

/-- MAX_SCAN_REACHED (R144). -/
def execMaxScanReached (s : State) : Host.Outcome State Fault Refusal :=
  .next (if maxScan s ≤ (course s 0).elapsed + 1 ∧ (course s 0).warned = false then baseWatch (setPhase s 20000) else s)

/-- SCAN_WATCH_EXPIRY (R144). -/
def execScanWatchExpiry (s : State) : Host.Outcome State Fault Refusal :=
  .next (if 4 * maxScan s ≤ (course s 0).elapsed + 1 then baseWatch (setPhase s 20000) else s)

/-- A timed course is due at tick t (R134). -/
def courseDue (s : State) (c : Nat) : Bool :=
  (courseDef (theImage s) c).elim false fun d => s.time.tick % d.period == d.offset

/-- One overrun of a timed course (R145), once in each tick: EV098, and EV099 with OASIS at OVERRUN_LIMIT. -/
def overrun (s : State) (c : Nat) : State :=
  let x := course s c
  if x.watchTick = s.time.tick then s
  else
    let n := min (x.consec + 1) 255
    let s := setCourse s c { x with
      overruns := satAdd 32 x.overruns 1, skipped := satAdd 32 x.skipped 1, consec := n, overran := true
      watchTick := s.time.tick }
    let s := raise s 98 ([w32 c, w32 n] ++ w64 s.time.tick)
    let s := changeFault s 11
    if ((courseDef (theImage s) c).map (·.limit)).getD 8 ≤ n then courseOasis (raise s 99 [w32 c, w32 n]) else s

/-- OVERRUN_LIMIT_REACHED (R145): the overrun of a due course that still runs, and the last that its limit allows. -/
def execOverrunLimitReached (course_ : Nat) (s : State) : Host.Outcome State Fault Refusal :=
  .next <|
    let x := course s course_
    let lim := ((courseDef (theImage s) course_).map (·.limit)).getD 8
    if course_ ≠ 0 ∧ x.state ≠ 0 ∧ coursesRun s ∧ courseDue s course_ ∧ lim ≤ x.consec + 1 then
      overrun (setPhase s 20000) course_ else s

/-- The dispatcher of R145 at phase 20 µs. -/
def dispatch (s : State) : State :=
  arbitrate ((List.range 8).foldl (fun s i =>
    let c := i + 1
    if !coursesRun s || !courseDue s c then s
    else if (course s c).state ≠ 0 then overrun s c
    else startCourse s c 0) s)

/-- The base course starts a scan at a phase 20 µs strictly after the last one has ended (R137); not in HOLD, and not
between scan A and the swap (R174). Scan B's elapsed time counts from wait_from (R173). -/
def startBase (s : State) : State :=
  let x := course s 0
  let waits := s.md.mode == .change && s.exch.state == 4 && s.exch.phase == 2
  let frozen := s.md.mode == .hold || (s.md.mode == .track && s.mortar.activeMode == modeCode .hold)
  if !coursesRun s || frozen || waits || decide (x.state ≠ 0 ∨ (x.endLate = true ∧ x.endTick = s.time.tick))
      || (courseDef (theImage s) 0).isNone then s
  else
    let scanB := s.md.mode == .change && s.exch.state == 4 && s.exch.phase == 3
    let n := if scanB then s.time.tick - s.exch.waitFrom else 0
    let s := startCourse s 0 n
    if maxScan s ≤ n then watchScan s n else s

/-! ### Activation ends (R141, R146 to R149, R164, R165) -/

/-- The tick of the commit that carries what is released now (R42). -/
def commitTick (s : State) : Nat := if s.time.phase < 105000 then s.time.tick else s.time.tick + 1

/-- Released outputs enter the output image; a non-finite one keeps its earlier value (R141, R149). What is released in the
cycle of a commit's snapshot, or later in the tick, goes with the next commit (R42). -/
def releaseOutputs (s : State) (l : List (Nat × W64)) : State :=
  l.foldl (fun s e =>
    match ioEntry (theImage s) e.1 with
    | none => s
    | some d =>
      let v : W64 := BitVec.ofNat 64 (e.2.toNat % 256 ^ tyWidth d.ty)
      if !d.output || rawNonFinite d.ty v then s
      else if s.time.phase < 105000 then putOut s e.1 v
      else { s with crs := { s.crs with outLate := s.crs.outLate ++ [(e.1, v, commitTick s)] } }) s

/-- Outputs released too late for the last commit enter the output image for this one (R42). -/
def takeLate (s : State) : State :=
  let due := s.crs.outLate.filter fun e => decide (e.2.2 ≤ s.time.tick)
  due.foldl (fun s e => putOut s e.1 e.2.1)
    { s with crs := { s.crs with outLate := s.crs.outLate.filter fun e => decide (s.time.tick < e.2.2) } }

/-- The name of the first datum that R149 withholds: outputs, then set-points, then solver parameters. -/
def firstWithheld (s : State) (rel : Release) : Option W32 :=
  let o := (rel.outputs.find? fun e => ((ioEntry (theImage s) e.1).elim false fun d => rawNonFinite d.ty e.2)).map fun e =>
    Config.datumCode 0 e.1
  let sp := (rel.setpoints.find? fun e => !fIsFinite e.2).map fun e => Config.datumCode 1 e.1
  let p := (rel.params.find? fun e => !fIsFinite e.2.2).map fun e => Config.datumCode 2 (65536 * e.1 + e.2.1)
  (o.orElse fun _ => sp).orElse fun _ => p

/-- Released set-points, loop mode requests and solver parameters, with the commit that carries them (R141). -/
def releaseEngines (s : State) (c : Nat) (rel : Release) : State :=
  let t := commitTick s
  let sp := rel.setpoints.filter fun e => fIsFinite e.2 && (loopDef (theImage s) e.1).isSome
  let mr := rel.modeReqs.filter fun e => (loopDef (theImage s) e.1).isSome
  let s := { s with crs := { s.crs with
      setpoints := s.crs.setpoints ++ sp.map fun e => (e.1, e.2, t)
      modeReqs := s.crs.modeReqs ++ mr.map fun e => (e.1, e.2, t) } }
  rel.params.foldl (fun s e =>
    let p := modelParams (theImage s) e.1
    if fIsFinite e.2.2 ∧ (solverDef (theImage s) e.1).isSome ∧ mpCourseFrom p ≤ e.2.1 ∧ e.2.1 < mpCount p then
      let m := solv2 s e.1
      setSolv2 s e.1 { m with courseParams := m.courseParams ++ [(e.2.1, e.2.2, t)] }
    else if (solverDef (theImage s) e.1).isSome ∧ e.2.1 < mpCourseFrom p then
      let x := course s c
      setCourse s c { x with paramRefused := min (x.paramRefused + 1) (2 ^ 32 - 1) }
    else s) s

/-- Instance data of a course's bricks, and the globals that it writes, as its activation end shows them (Table 04.9). -/
def showData (s : State) (c : Nat) (globals : Bool) : State :=
  { s with crs := { s.crs with
    shown := (s.crs.data.filter fun e => (e.1 == 0 && globals) || brickCourse s e.1 == some c).foldl
      (fun t e => tset t e.1 e.2) s.crs.shown } }

/-- Released instance data of a course's bricks and of the globals; variables that are forced for the course keep their
mirage values (R140, R160, R162). -/
def releaseData (s : State) (c : Nat) (l : List (Nat × Nat × Bytes)) : State :=
  let len := ((brickInst (theImage s) 0).map (·.len)).getD 0
  let s := (l.filter fun e => e.1 == 0 && decide (e.2.1 + e.2.2.length ≤ len)).foldl
    (fun s e => putData s e.1 e.2.1 e.2.2) (ownData s c l)
  showData (writeForced s (course s c).forced) c (l.any fun e => e.1 == 0)

/-- The selected brick bytes of a course that its mortar set carries (R339, R340); instance 0 goes with every course. -/
def selectedData (s : State) (c : Nat) : List (Nat × Nat × Bytes) :=
  ((mortarSel (theImage s)).entries.filter fun e => e.1 == 0 || brickCourse s e.1 == some c).map fun e =>
    let d := brickData s e.1
    let r := selRange d.length e
    (e.1, r.1, slice d r.1 (r.2 - r.1))

/-- What the mirage list holds now at an entry, as the class 1 set carries it. -/
def mirageCmd (s : State) (i : Nat) : Option MirageCmd :=
  (tfind s.crs.mirages i).map fun m => ⟨m.kind, m.ty, m.brick, m.index, m.value, false, m.ty⟩

/-- Every request of a list that came before this tick reports DONE (R122, R163). -/
def reportDone (s : State) (l : List (Origin × Nat)) : State :=
  l.foldl (fun s e => if e.2 < s.time.tick then complete s e.1 stDone else s) s

/-- The class 1 set of a course with its number, which counts its releases (R343). -/
def sendSet (s : State) (c : Nat) (settings : List (Nat × W64)) (mirages : List (Nat × Option MirageCmd)) : State :=
  let n := tget 0 s.mortar.sentSets c + 1
  sendMortar { s with mortar := { s.mortar with sentSets := tset s.mortar.sentSets c n } }
    (.courseEnd c n (selectedData s c) settings mirages)

/-- A release in shadow, which the set of the active for the same activation meets, before or after it (R344). -/
def shadowRelease (s : State) (c : Nat) : State :=
  if s.md.role != .standby then s
  else { s with mortar := { s.mortar with setDue := match tfind s.mortar.setDue c with
      | some none => tdel s.mortar.setDue c
      | some (some _) => s.mortar.setDue
      | none => tset s.mortar.setDue c (some s.time.tick) } }

/-- The class 1 mortar set of an activation (R339). The base course's carries the mirages and the settings changed by
writes of earlier ticks, which then report DONE (R122, R163). -/
def sendCourseEnd (s : State) (c : Nat) : State :=
  if !partnerFollows s || s.md.role != .active then shadowRelease s c
  else if c ≠ 0 then sendSet s c [] []
  else
    let old (t : Nat) : Bool := decide (t < s.time.tick)
    let sets := (s.crs.settingChanged.filter fun e => old e.2.2).foldl (fun (t : Tab W64) e => tset t e.1 e.2.1) []
    let mir := (s.crs.mirageChanged.filter fun e => old e.2).map (·.1)
    let s1 := sendSet s 0 sets (mir.map fun i => (i, mirageCmd s i))
    let s1 := reportDone s1 (s.set.waiting.map fun w => (w.origin, w.tick))
    let s1 := reportDone s1 (s.crs.mirageWaits.map fun w => (w.origin, w.tick))
    { s1 with
      set := { s1.set with waiting := s1.set.waiting.filter fun w => !old w.tick }
      crs := { s1.crs with
        mirageWaits := s1.crs.mirageWaits.filter fun w => !old w.tick
        mirageChanged := s1.crs.mirageChanged.filter fun e => !old e.2
        settingChanged := s1.crs.settingChanged.filter fun e => !old e.2.2 } }

/-- A base scan's end moves the window on (R173): after scan A the wait, after scan B scan C, after scan C completion
unless a rollback is due. -/
def windowScanEnd (s : State) : State :=
  if !inWindow s || s.exch.rollback.isSome then s
  else
    let s := { s with exch := { s.exch with scans := s.exch.scans + 1 } }
    match s.exch.phase with
    | 1 => { s with exch := { s.exch with
        phase := 2, waitFrom := if s.time.phase < 20000 then s.time.tick else s.time.tick + 1 } }
    | 3 => { s with exch := { s.exch with phase := 4 } }
    | 4 => leaveChange (exchComplete s)
    | _ => s

/-- Bookkeeping of an activation's end (Table 04.9, R145): its execution time runs from start to end, preemption included,
without the time in HOLD. -/
def endCourse (s : State) (c : Nat) : State :=
  let x := endStretch s (course s c)
  let us := min (x.ranNs / 1000) 0xFFFFFFFF
  let s := setCourse s c { x with
    state := 0, firstScan := false, firstDue := false, takeoverScan := false, takeoverDue := false, trapped := false
    warned := false, consec := if x.overran then x.consec else 0
    lastTime := us, maxTime := max x.maxTime us
    endTick := s.time.tick, endLate := decide (20000 ≤ s.time.phase) }
  { s with exch := { s.exch with added := s.exch.added.filter fun i => brickCourse s i != some c } }

/-- COURSE_ACTIVATION_END (R141): everything that the activation has produced is released as one set. -/
def execCourseActivationEnd (course_ : Nat) (rel : Release) (at_ : Nat) (s : State) : Host.Outcome State Fault Refusal :=
  .next <|
    let c := course_
    if (course s c).state ≠ 1 ∨ !coursesRun s then s
    else
      let s := setPhase s at_
      let s := match firstWithheld s rel with
        | some d => raise s 105 [w32 c, w32 rel.nonFinite, d]
        | none => s
      let s := releaseDiv0 s c rel.div0
      let s := releaseOutputs s rel.outputs
      let s := releaseEngines s c rel
      let s := releaseData s c rel.data
      let s := releaseEvents s c rel.events
      let s := canRelease (eventsTaken s c rel.eventsRead) rel
      let s := endCourse s c
      let s := if c = 0 then { s with md := { s.md with oasisUntilScan := false } } else arbitrate s
      let s := sendCourseEnd s c
      sendChanges (panelNote (if c = 0 then windowScanEnd s else s))

/-- ORDER of a brick of course c; none for a brick of another one (R136). -/
def brickOrder (s : State) (c i : Nat) : Option Nat :=
  (brickInst (theImage s) i).bind fun b => if b.course = c then some b.order else none

/-- EXECUTION_TRAP (R147): the activation is abandoned; OASIS, but a rollback after the swap of an exchange (Table 05.4). The
brick is one that the activation can have come to (R136). -/
def execExecutionTrap (course_ brick offset at_ : Nat) (s : State) : Host.Outcome State Fault Refusal :=
  .next <|
    let c := course_
    if (course s c).state ≠ 1 ∨ !coursesRun s ∨ !((brickOrder s c brick).elim false fun o => decide ((course s c).pos ≤ o + 1)) then s
    else
      let s := leaveUndone (setPhase s at_) c
      let s := setCourse s c { endStretch s (course s c) with
        state := 0, firstScan := false, firstDue := false, takeoverScan := false, takeoverDue := false, warned := false
        trapped := true, endTick := s.time.tick, endLate := decide (20000 ≤ at_) }
      let s := raise (arbitrate s) 101 [w32 c, w32 brick, w32 offset]
      if inWindow s then
        if s.exch.swapped then changeFault s 12 else courseOasis (exchAbandon s 12)
      else courseOasis s

/-! ### Breakpoints (R152 to R155) -/

/-- The module enters HOLD at a breakpoint (Table 02.3, R154): in RUN, as ACTIVE only with HOLD_ON_ACTIVE. -/
def holds (s : State) : Bool := s.md.mode == .run && (s.md.role == .solo || (s.md.role == .active && holdOnActive s))

/-- BREAKPOINT_REACHED (R153): HOLD before the named brick, or a counted pass. A scan comes to its bricks in ascending ORDER
(R136). -/
def execBreakpointReached (brick : Nat) (at_ : Nat) (s : State) : Host.Outcome State Fault Refusal :=
  .next <|
    let x := course s 0
    match s.crs.bp.find? fun e => e.2.armed && e.2.brick == brick with
    | none => s
    | some (b, p) =>
      let o := (brickOrder s 0 brick).getD 0
      if x.state ≠ 1 ∨ !coursesRun s ∨ o < x.pos then s
      else
        let s := setCourse (setPhase s at_) 0 { x with pos := o + 1 }
        if holds s then
          let s := { s with crs := { s.crs with
            frozenAt := brick
            bp := s.crs.bp.map fun e =>
              if e.2.armed && e.2.brick == brick then (e.1, { e.2 with armed := false, reached := e.1 == b }) else e } }
          let s := raise (setCourse s 0 { endStretch s (course s 0) with state := 3 }) 100 [0, w32 b, w32 brick]
          changeMode s .hold causeBreakpoint
        else
          raise { s with crs := { s.crs with bp := tset s.crs.bp b { p with passes := p.passes + 1 } } } 37

/-- BREAKPOINT_WRITE (R152): read-only bits are ignored; an ARMED breakpoint is busy. -/
def execBreakpointWrite (r : Req) (bp : Nat) (value : W32) (s : State) : Host.Outcome State Fault Refusal :=
  .next <|
    let obj := w32 (0x02200000 + bp)
    hostCommand s r obj fun s =>
      let v := value.toNat
      let defined := value.getLsbD 31
      let brick := v % 65536
      if 15 < bp then refuse s r obj rfObject
      else if v / 65536 % 8192 ≠ 0 then refuse s r obj rfRange
      else if (tget ({} : BreakSt) s.crs.bp bp).armed then refuse s r obj rfBusy
      else if defined && brickCourse s brick != some 0 then refuse s r obj rfRange
      else
        let p := tget ({} : BreakSt) s.crs.bp bp
        reply { s with crs := { s.crs with bp := tset s.crs.bp bp { p with defined := defined, brick := brick } } } r obj stDone

/-- COURSE_COUNTER_CLEAR (R167): the clear acts at the next boundary. -/
def execCourseCounterClear (r : Req) (course_ : Nat) (value : W32) (s : State) : Host.Outcome State Fault Refusal :=
  .next <|
    let obj := w32 (0x02190000 + course_)
    hostCommand s r obj fun s =>
      if 8 < course_ then refuse s r obj rfObject
      else if (tfind s.crs.c course_).isNone then refuse s r obj rfImage
      else if 1 < value.toNat then refuse s r obj rfRange
      else
        let s := if value = 1 then setCourse s course_ { course s course_ with clearDue := true } else s
        reply s r obj stDone

end Sys2Proof.Machine
end

