-- ==== Sys2Proof/Machine/Kiln.lean ====
section
/-! DEFINITION. Start of the module (chapter 03): KILN, measurement, LOAD, choice of the image, the Image Key, background
re-measurement and attestation. -/

namespace Sys2Proof.Machine

/-! ### Entry to KILN (R65, R89) -/

/-- The state behind a clear of all memory: what stands in non-volatile stores, on the key and in the installation stays,
everything else has its value after start (R65, R89, R536, R102). -/
def cleared (s : State) : State :=
  let b := State.reset
  { b with
    pending := s.pending, free := s.free
    md := { b.md with powered := s.md.powered, slot := s.md.slot, role := if onTwin s then .standby else .solo }
    btn := s.btn
    kiln := { b.kiln with
      fw := s.kiln.fw, keyPresent := s.kiln.keyPresent
      bankA := { bytes := s.kiln.bankA.bytes, failReason := if s.kiln.keyPresent then 11 else 13 }
      bankB := { bytes := s.kiln.bankB.bytes, failReason := if s.kiln.keyPresent then 11 else 13 } }
    net := { b.net with
      lan := s.net.lan.map fun l => { up := l.up, speed := l.speed }, openings := s.net.openings, outbox := s.net.outbox }
    ev := { b.ev with
      key := s.ev.key, jseq := s.ev.jseq, startNo := s.ev.startNo, newest := s.ev.newest, keyRehearsed := s.ev.keyRehearsed }
    sec := { b.sec with
      identity := s.sec.identity, certs := s.sec.certs, life := s.sec.life, intruded := s.sec.intruded
      signers := s.sec.signers, authorities := s.sec.authorities, ev242Due := s.sec.ev242Due, unpowered := s.sec.unpowered
      lastWipe := s.sec.lastWipe }
    pair := { b.pair with partnerToken := s.pair.partnerToken }
    sup := s.sup }

/-- Entry to KILN by a reset (R65, R81): all LEDs are lit for 4,000 ticks. -/
def enterKiln (s : State) : State :=
  let c := cleared s
  { c with md := { c.md with fromPowerOn := false, lampTicks := 4000 } }

/-- The module without power (Table 02.2). -/
def powerOff (s : State) : State :=
  let c := cleared s
  { c with
    md := { c.md with powered := false }, btn := {}, pair := {}, sup := { inRange := s.sup.inRange }
    net := { c.net with lan := [{}, {}, {}] } }

/-- POWER_ON (R64, R577): the logic supply comes into range; the module enters KILN. An intrusion that came without power
acts before K0 is measured (R539). -/
def execPowerOn (slot : Nat) (feedA feedB : Bool) (s : State) : Host.Outcome State Fault Refusal :=
  .next <|
    if s.md.powered || !(feedA || feedB) then s
    else
      let c := cleared (powerOff s)
      let c := { c with
        md := { c.md with
          powered := true, slot := slot, role := if slot = 0 then .solo else .standby, fromPowerOn := true, lampTicks := 4000 }
        sup := { inRange := [feedA, feedB] } }
      match s.sec.unpowered with
      | none => c
      | some mesh =>
        let c := intrude { c with sec := { c.sec with unpowered := none } } mesh
        { c with sec := { c.sec with ev242Due := c.sec.ev242Due ++ [(mesh, false)] } }

/-- START_SUPPLY_LOSS (R93): in KILN or LOAD the start begins again at the entry to KILN. K0 reports the cause of the start
that was interrupted; the spec names none (DESIGN CHOICE, assumption 81). -/
def startAgain (s : State) : State :=
  let c := cleared s
  { c with md := { c.md with fromPowerOn := s.md.fromPowerOn } }

def execStartSupplyLoss (s : State) : Host.Outcome State Fault Refusal :=
  .next (if s.md.powered && (s.md.mode == .kiln || s.md.mode == .load) then startAgain s else s)

/-! ### Measurement (R94 to R96) -/

/-- Stage i is measured into its register (R95). -/
def measureStage (s : State) (i : Nat) (stage : Bytes) : State :=
  let m := sha384 stage
  let prev := if i = 0 then List.replicate 48 0 else s.kiln.k.getD (i - 1) []
  { s with kiln := { s.kiln with k := s.kiln.k.set i (sha384 (prev ++ m)), measured := tset s.kiln.measured i m } }

/-- Stages in order: each is measured, then verified; the first that fails takes the module to HALT (R94, R96). -/
def measureStages : List Nat → State → State
  | [], s => s
  | i :: is, s =>
    let f := tget ({} : FwStage) s.kiln.fw i
    let s := measureStage s i f.code
    if f.signed then measureStages is s else enterHalt s causeStart

/-- The module enters LOAD (R44, R87, R120, R570): ticks start, the event controller runs, and the journal position is
found. -/
def enterLoad (s : State) : State :=
  let again := s.ev.key.any fun b => b.startNo == s.ev.startNo
  let s := { s with
    md := { s.md with ticking := true }
    time := { s.time with loadTick := s.time.tick }
    ev := { s.ev with
      running := true, rehearsed := s.ev.keyRehearsed, ready := s.kiln.keyPresent
      startNo := if again then s.ev.startNo + 1 else s.ev.startNo } }
  let s := changeMode s .load causeStart
  let s := if s.btn.ev014Due then raise { s with btn := { s.btn with ev014Due := false } } 14 [] else s
  let s := s.sec.ev242Due.foldl (fun s e => raise s 242 (intrusionArgs e.1 e.2)) s
  let s := { s with sec := { s.sec with ev242Due := [] } }
  let r := if s.kiln.keyPresent then 11 else 13
  setBank (setBank s 0 { bank s 0 with failReason := r }) 1 { bank s 1 with failReason := r }

/-- Both clears and K0, K1 are done: the kiln loader measures K2 to K6, starts the controllers, and the module enters LOAD,
or SEALED when its life cycle is RETURN (R94, R575). -/
def kilnLoader (s : State) : State :=
  let s := measureStages [2, 3, 4, 5, 6] s
  if s.md.mode != .kiln then s
  else
    let s := { s with ring := { s.ring with forwarding := true } }
    if s.sec.life = 3 then changeMode s .sealed causeStart else enterLoad s

/-- SRAM_CLEAR_COMPLETE (R90, R91, R94): the boot ROM loads the identity key into bank 47 and measures K0 and K1. -/
def execSramClearComplete (s : State) : Host.Outcome State Fault Refusal :=
  .next <|
    if !s.md.powered || s.md.mode != .kiln || s.kiln.sramDone then s
    else
      let s := { s with
        kiln := { s.kiln with sramDone := true }, sec := { s.sec with loaded := !s.sec.identity.isEmpty } }
      let s := measureStage s 0 (Config.k0Report s.sec.life s.sec.intruded s.md.fromPowerOn s.md.slot)
      let s := measureStages [1] s
      if s.md.mode == .kiln && s.kiln.dramDone then kilnLoader s else s

/-- DRAM_CLEAR_COMPLETE (R90). -/
def execDramClearComplete (s : State) : Host.Outcome State Fault Refusal :=
  .next <|
    if !s.md.powered || s.md.mode != .kiln || s.kiln.dramDone then s
    else
      let s := { s with kiln := { s.kiln with dramDone := true } }
      if s.kiln.sramDone then kilnLoader s else s

/-- CLEAR_TIMEOUT (R92): a clear that has not reported completion within its bound takes the module to HALT. -/
def execClearTimeout (s : State) : Host.Outcome State Fault Refusal :=
  .next <|
    if s.md.powered && s.md.mode == .kiln && !(s.kiln.sramDone && s.kiln.dramDone) then enterHalt s causeSelf else s

/-! ### Choice of the image (R111) -/

/-- Bank selection begins again (R104, R116): nothing is tried, no image runs. -/
def restartSelection (s : State) : State :=
  let r := if s.kiln.keyPresent then 11 else 13
  let clear (x : BankSt) : BankSt := { x with valid := false, failReason := r, running := false, fallback := false }
  { s with kiln := { s.kiln with
      bankA := clear s.kiln.bankA, bankB := clear s.kiln.bankB, headersRead := false, trying := none, other := none
      firstFailed := false, selected := none, applied := false, differs := false, image := none } }

/-- BANK_HEADERS_READ (R111): EV003 for a bank that is not erased and fails at its header; the bank with the higher SEQUENCE
is tried first, A of equals; without any, and without an Image Key, EV001. -/
def execBankHeadersRead (at_ : Nat) (s : State) : Host.Outcome State Fault Refusal :=
  .next <|
    if s.md.mode != .load || s.kiln.headersRead then s
    else if !s.kiln.keyPresent then
      raise { setPhase s at_ with kiln := { (setPhase s at_).kiln with headersRead := true } } 1
    else
      let s := readHeaders (setPhase s at_)
      let s := { s with kiln := { s.kiln with headersRead := true } }
      let bad := (List.range 2).filter fun b => (bank s b).failReason != 11
      let s := bad.foldl (fun s b =>
        if (bank s b).failReason = 9 then s else raise s 3 [w32 b, w32 (bank s b).failReason]) s
      let seq (b : Nat) : Nat := hdrSequence (bankHeader (bank s b).bytes)
      match (List.range 2).filter fun b => (bank s b).failReason == 11 with
      | [] => raise s 1 []
      | [b] => { s with kiln := { s.kiln with trying := some b, other := none } }
      | _ =>
        let first := if seq 0 < seq 1 then 1 else 0
        { s with kiln := { s.kiln with trying := some first, other := some (1 - first) } }

/-- BANK_FULL_CHECK_COMPLETE (R110, R111): the tried bank is valid and selected, or it fails and the other one is tried. -/
def execBankFullCheckComplete (at_ : Nat) (s : State) : Host.Outcome State Fault Refusal :=
  .next <|
    match s.kiln.trying with
    | none => s
    | some b =>
      if s.md.mode != .load || !s.kiln.keyPresent then s
      else
        let s := setPhase s at_
        let r := fullCheck s (bank s b).bytes
        let s := bankStatus (raiseSkipped s r.skipped) b r.reason
        match r.image with
        | some img =>
          let fb := s.kiln.firstFailed
          let s := setBank s b { bank s b with running := true, fallback := fb }
          let s := { s with kiln := { s.kiln with trying := none, other := none, selected := some (b, img) } }
          if fb then raise s 2 [] else s
        | none =>
          let s := if s.kiln.firstFailed then s else raise s 3 [w32 b, w32 r.reason]
          let o := s.kiln.other
          let s := { s with kiln := { s.kiln with trying := o, other := none, firstFailed := o.isSome } }
          if o.isSome then s else raise s 1 []

/-- IMAGE_APPLIED (R112). -/
def execImageApplied (at_ : Nat) (s : State) : Host.Outcome State Fault Refusal :=
  .next <|
    match s.kiln.selected with
    | none => s
    | some (b, img) => if s.md.mode == .load then applyImage (setPhase s at_) b img else s

/-- ACQ_WAIT_EXPIRY (R492): ACQ_WAIT has passed since the entry to LOAD. -/
def execAcqWaitExpiry (at_ : Nat) (s : State) : Host.Outcome State Fault Refusal :=
  .next <|
    let img := (s.kiln.selected.map (·.2)).getD (theImage s)
    if s.md.mode == .load && decide (s.time.loadTick + 8 * (netCfg img).acqWait ≤ s.time.tick) then
      let s := setPhase s at_
      { s with time := { s.time with waitOver := true } }
    else s

/-! ### The Image Key (R104) -/

/-- Image writes in progress report FAILED with a REASON (R104, R197). -/
def failImageWrites (s : State) (reason : Nat) : State :=
  s.tickets.foldl (fun s e =>
    if e.2.kind = 4 ∧ (e.2.status = 1 ∨ e.2.status = 2 ∨ e.2.status = 3) then ticketEnd s e.1 7 reason else s) s

/-- IMAGE_KEY_REMOVED (R104, R572): EV017; image writes report FAILED with REASON 6; both banks report 13. A block being
written is lost (R570). -/
def execImageKeyRemoved (at_ : Nat) (s : State) : Host.Outcome State Fault Refusal :=
  .next <|
    if !s.kiln.keyPresent then s
    else
      let gone (x : BankSt) : BankSt := { x with bytes := [], valid := false, writing := false, failReason := 13 }
      let s := { s with
        kiln := { s.kiln with
          keyPresent := false, follow := none, bankA := gone s.kiln.bankA, bankB := gone s.kiln.bankB, headersRead := false, trying := none
          other := none, firstFailed := false }
        ev := { s.ev with key := [], startNo := 0, newest := 0, keyRehearsed := none, writing := false, ready := false } }
      if !s.md.powered || !s.ev.running then s
      else
        let s := failImageWrites (raise (setPhase s at_) 17 []) 6
        s

/-- The journal of an inserted key: the position behind its highest JSEQ, 0 on an erased key (R570). -/
def keyJournal (s : State) (key : KeyContent) : State :=
  { s with ev := { s.ev with
      key := key.journal.map fun j => { jseq := j }
      jseq := (key.journal.foldl max 0) + (if key.journal.isEmpty then 0 else 1)
      startNo := key.starts + 1, newest := key.newestStamp, keyRehearsed := key.rehearsal, dropped := false
      ready := s.ev.running, writing := s.ev.running && !s.ev.held.isEmpty } }

/-- IMAGE_KEY_INSERTED (R104): both headers are read again and reported; in LOAD bank selection begins again; a running
module keeps its image. SEALED and a module before LOAD do not read the key (R574). A key that cannot be read is as an absent
one: beside the KEY LED, which shows both alike (Table 02.6), the spec says nothing of it (DESIGN CHOICE, assumption 89). -/
def execImageKeyInserted (key : KeyContent) (at_ : Nat) (s : State) : Host.Outcome State Fault Refusal :=
  .next <|
    if s.kiln.keyPresent || !key.readable then s
    else
      let put (x : BankSt) (b : Bytes) : BankSt := { x with bytes := b.take bankMax, failReason := 11 }
      let s := keyJournal { s with kiln := { s.kiln with
        keyPresent := true, bankA := put s.kiln.bankA key.bankA, bankB := put s.kiln.bankB key.bankB } } key
      if !s.md.powered || !s.ev.running || s.md.mode == .sealed then s
      else
        let s := setPhase s at_
        if s.md.mode = .load then
          restartSelection { s with ev := { s.ev with rehearsed := key.rehearsal } }
        else readHeaders s

/-! ### Background re-measurement (R98) and attestation (R99, R100) -/

/-- KILN_REMEASURE_COMPLETE (R98): a result that differs from kiln's measurement raises EV004, abdication cause 6. -/
def execKilnRemeasureComplete (stage : Nat) (code : Bytes) (at_ : Nat) (s : State) : Host.Outcome State Fault Refusal :=
  .next <|
    if s.md.powered && (s.md.mode == .load || (evaluates s.md.mode && s.md.mode != .oasis))
        && decide (2 ≤ stage ∧ stage ≤ 6) && tfind s.kiln.measured stage != some (sha384 code) then
      abdicate (raise (setPhase s at_) 4 []) 6
    else s

/-- Object of the nonce. -/
def nonceObj : W32 := 0xC0010000#32

/-- A nonce is accepted (R99): it replaces the session's earlier one and discards its quote. -/
def nonceAccept (s : State) (session : Nat) (nonce : Bytes) : State :=
  { s with kiln := { s.kiln with
      quotes := (s.kiln.quotes.filter fun q => q.session != session) ++ [⟨session, nonce, none, false⟩] } }

/-- ATTESTATION_NONCE (R99): 32 bytes written to 0xC001_0000. -/
def execAttestationNonce (r : Req) (nonce : Bytes) (s : State) : Host.Outcome State Fault Refusal :=
  .next <| hostWrite s r nonceObj fun s =>
    if nonce.length ≠ 32 then refuse s r nonceObj rfRange
    else reply (nonceAccept s r.session nonce) r nonceObj stDone

/-- Bytes 0x000 to 0x1EF of a quote at a tick boundary (Table 03.2). NODE reads 0 while no image is selected: the address
comes with the image, and the spec names none before it (DESIGN CHOICE, assumption 88). -/
def quoteBody (s : State) (nonce : Bytes) : Bytes :=
  let img := (runningImage s).map (·.2)
  toLe 2 1 ++ toLe 2 592 ++ toLe 2 (img.elim 0 fun i => hdrNode i.header) ++ toLe 1 (modeCode s.md.mode)
    ++ toLe 1 (roleCode s.md.role) ++ toLe 1 s.sec.life ++ toLe 1 (((runningImage s).map (·.1)).getD 0xFF)
    ++ List.replicate 6 0 ++ toLe 8 s.time.tick ++ nonce
    ++ toLe 8 (img.elim 0 fun i => hdrSequence i.header) ++ (img.elim (List.replicate 48 0) fun i => hdrDigest i.header)
    ++ s.kiln.k.flatten

/-- At a boundary every nonce accepted before it is captured (R99). -/
def captureQuotes (s : State) : State :=
  { s with kiln := { s.kiln with
      quotes := s.kiln.quotes.map fun q =>
        if q.captured.isSome then q else { q with captured := some (quoteBody s q.nonce) } } }

/-- A captured quote with its signature by the identity key (R100): r and s, 48 bytes each, big-endian. -/
def quoteBytes (s : State) (body : Bytes) : Bytes :=
  let g := Config.quoteSignature s.sec.identity body
  body ++ (toLe 48 g.1.toNat).reverse ++ (toLe 48 g.2.toNat).reverse

/-- QUOTE_READY (R99): the quote of a session becomes readable; EV016. -/
def execQuoteReady (session : Nat) (at_ : Nat) (s : State) : Host.Outcome State Fault Refusal :=
  .next <|
    if !s.sec.loaded || !(s.md.mode != .halt || s.md.mgmtAlive)
        || !(s.kiln.quotes.any fun q => q.session == session && q.captured.isSome && !q.ready) then s
    else
      let s := { s with kiln := { s.kiln with
        quotes := s.kiln.quotes.map fun q =>
          if q.session == session && q.captured.isSome then { q with ready := true } else q } }
      raise (setPhase s at_) 16 []

end Sys2Proof.Machine
end

