-- ==== Sys2Proof/Machine/Regions.lean ====
section
/-! DEFINITION. Region updates (R196 to R202), image writes (R114 to R117) and what the active forwards to its standby. -/

namespace Sys2Proof.Machine

/-! ### Tickets (R198) -/

/-- The next FREE or finished ticket after the one last assigned. -/
def nextTicket (s : State) : Option Nat :=
  ((List.range 256).map fun i => (s.lastTicket + 1 + i) % 256).find? fun t =>
    (ticket s t).status == 0 || decide (4 ≤ (ticket s t).status)

/-- The fields of a region request lie in their ranges (R198, Table 05.7). -/
def regionCmdOk (c : RegionCmd) : Bool :=
  !c.reserved && c.op == 1 && (match c.kind with
    | 1 => decide (c.index ≤ 63)
    | 2 => decide (c.index ≤ 63)
    | 3 => decide (c.index ≤ 65535)
    | 4 => c.index == 0
    | _ => false)

/-- REGION_UPDATE_REQUEST (R198, R202). In LOAD only kind 4 is served (Table 16.2); a STANDBY takes image writes alone. -/
def execRegionUpdateRequest (r : Req) (cmd : RegionCmd) (s : State) : Host.Outcome State Fault Refusal :=
  .next <|
    let obj := 0xE0000000#32
    hostCommand s r obj fun s =>
      if s.md.mode == .load && cmd.kind != 4 then refuse s r obj rfMode
      else if !regionCmdOk cmd then refuse s r obj rfRange
      else if !inControl s && cmd.kind != 4 then refuse s r obj rfRole
      else match nextTicket s with
        | none => refuse s r obj rfFull
        | some t =>
          let x := sess s r.session
          let s := setTicket s t {
            status := 1, kind := cmd.kind, index := cmd.index, length := cmd.length, crc := cmd.crc, origin := some (originOf s r)
            lastData := s.time.tick, role := x.role, complete := cmd.length == 0 }
          let s := sendMortar { setSess s r.session { x with ticket := t } with lastTicket := t } (.region t 1 cmd.kind cmd.index 0)
          reply s r obj stAccepted

/-- REGION_DATA_WRITE (R198, R510): the payload is added to the data already received, up to LENGTH. -/
def execRegionDataWrite (r : Req) (ticket_ : Nat) (data : Bytes) (s : State) : Host.Outcome State Fault Refusal :=
  .next <|
    let obj := w32 (0xE0020000 + ticket_)
    hostWrite s r obj fun s =>
      let x := ticket s ticket_
      if 255 < ticket_ then refuse s r obj rfObject
      else if x.status ≠ 1 ∨ x.complete ∨ x.length < x.data.length + data.length then refuse s r obj rfRange
      else
        let d := x.data ++ data
        reply (setTicket s ticket_ { x with data := d, lastData := s.time.tick, complete := d.length == x.length }) r obj stDone

/-! ### The check of complete data (R197, R200, R246, R276) -/

/-- A table payload against the table in force (R246): the first REASON that applies. -/
def tableUpdateFault (s : State) (t : Nat) (p : Bytes) : Nat :=
  match tableRec (theImage s) t with
  | none => 4
  | some _ =>
    let q := (tableSt s t).fore
    if !tableOk (theImage s) p false || slice p 0 4 != slice q 0 4 || slice p 6 14 != slice q 6 14 then 2 else 0

/-- A solver parameter block against what is in force (R276). -/
def solverUpdateFault (s : State) (c : Nat) (p : Bytes) : Nat :=
  if (solverDef (theImage s) c).isNone then 4
  else
    let m := solv2 s c
    let q := modelParams (theImage s) c
    let cs := mpCurveList p
    if !modelParamsOk p || mpCount p != m.params.length || mpCourseFrom p != mpCourseFrom q || mpCurves p != m.curves.length
        || cs.map List.length != m.curves.map List.length then 2 else 0

/-- An instance-data block (R200). -/
def instanceFault (s : State) (i : Nat) (d : Bytes) : Nat :=
  match brickInst (theImage s) i with
  | none => 4
  | some b =>
    if (brickType (theImage s) b.type).elim false (·.safety) then 3 else if d.length ≠ b.len then 2 else 0

/-- The REASON for which complete data fails; 0 when it passes (R197). -/
def regionFault (s : State) (x : TicketSt) : Nat :=
  if crc32c x.data ≠ x.crc then 1
  else match x.kind with
    | 1 => tableUpdateFault s x.index x.data
    | 2 => solverUpdateFault s x.index x.data
    | 3 => instanceFault s x.index x.data
    | _ => if s.kiln.keyPresent then 0 else 6

/-- Header bytes of an erased bank (R115). -/
def erasedHeader : Bytes := List.replicate 256 0xFF

/-- Steps 1 and 2 of R115: the spare bank's header is erased and its body written; the bank reports FAIL_REASON 10, and a plan
staged on it ends (R171). -/
def eraseSpare (s : State) (data : Bytes) : State :=
  let b := spareBank s
  unstageRewritten (setBank s b { bank s b with
    bytes := (erasedHeader ++ data.drop 256).take bankMax, valid := false, failReason := 10, writing := true })

/-- A write that is interrupted leaves its bank invalid (R115): it reports what its header, still erased, gives. -/
def dropSpare (s : State) : State :=
  (List.range 2).foldl (fun s b =>
    if (bank s b).writing then
      setBank s b { bank s b with
        writing := false, failReason := if s.kiln.keyPresent then headerCheck s (bankHeader (bank s b).bytes) else 13 }
    else s) { s with kiln := { s.kiln with follow := none } }

/-- An update becomes RUNNING (R197): a table rebuild begins (R247), a solver block waits for its snapshot (R276), an image
write erases the spare bank's header and writes the body (R115, R171). The active forwards the data (R201, R117). -/
def startRegion (s : State) (t : Nat) : State :=
  let x := ticket s t
  let s := setTicket s t { x with status := 3, runTick := s.time.tick }
  let s := sendMortar s (.region t 3 x.kind x.index 0)
  let s := if s.md.role == .active && (x.kind != 4 || x.role) then
    sendLink s 5 x.data.length (.forward (if x.kind = 4 then .image x.data else .region t x.kind x.index x.data)) else s
  match x.kind with
  | 1 => setTable s x.index { tableSt s x.index with
      back := some x.data, rebuilding := true, localDone := false, partnerDone := false, completeTick := none, ticket := some t }
  | 2 => setSolv2 s x.index { solv2 s x.index with update := some (t, x.data) }
  | 4 => eraseSpare s x.data
  | _ => s

/-- Requests of a region with a status, other than t. -/
def regionWith (s : State) (t status : Nat) : List Nat :=
  let x := ticket s t
  (s.tickets.filter fun e => e.1 != t && e.2.kind == x.kind && e.2.index == x.index && e.2.status == status).map (·.1)

/-- A region can take a new RUNNING update: none runs, and no exchange holds its background buffer (R197, R250). -/
def regionFree (s : State) (t : Nat) : Bool :=
  let x := ticket s t
  (regionWith s t 3).isEmpty && !(x.kind == 1 && (tableSt s x.index).stagedBg)

/-- REGION_DATA_CHECKED (R197): FAILED, RUNNING at once, or PENDING in place of an earlier PENDING request. -/
def execRegionDataChecked (ticket_ : Nat) (at_ : Nat) (s : State) : Host.Outcome State Fault Refusal :=
  .next <|
    let x := ticket s ticket_
    if x.status ≠ 1 ∨ !x.complete then s
    else
      let s := setPhase s at_
      let e := regionFault s x
      if e ≠ 0 then ticketEnd s ticket_ 7 e
      else if regionFree s ticket_ then startRegion s ticket_
      else
        let s := (regionWith s ticket_ 2).foldl (fun s q => ticketEnd s q 5 0) s
        sendMortar (setTicket s ticket_ { x with status := 2 }) (.region ticket_ 2 x.kind x.index 0)

/-- REGION_PENDING_START (R197): at the boundary after the running update has ended. -/
def execRegionPendingStart (ticket_ : Nat) (s : State) : Host.Outcome State Fault Refusal :=
  .next <|
    if (ticket s ticket_).status = 2 ∧ regionFree s ticket_ then startRegion (setPhase s 0) ticket_ else s

/-- What a request that ends without its effect leaves behind: a table's background buffer is discarded (R249), a solver
block is dropped, an image write leaves the spare bank invalid (R115). -/
def dropRegion (s : State) (x : TicketSt) : State :=
  if x.status ≠ 3 then s
  else match x.kind with
    | 1 => setTable s x.index { tableSt s x.index with
        back := none, rebuilding := false, overdue := false, localDone := false, partnerDone := false, completeTick := none, ticket := none }
    | 2 => setSolv2 s x.index { solv2 s x.index with update := none }
    | 4 => dropSpare s
    | _ => s

/-- REGION_CANCEL (R199). -/
def execRegionCancel (r : Req) (ticket_ : Nat) (value : W32) (s : State) : Host.Outcome State Fault Refusal :=
  .next <|
    let obj := w32 (0xE0040000 + ticket_)
    hostWrite s r obj fun s =>
      let x := ticket s ticket_
      if 255 < ticket_ then refuse s r obj rfObject
      else if 1 < value.toNat then refuse s r obj rfRange
      else if value = 0 then reply s r obj stDone
      else if x.status = 0 ∨ 4 ≤ x.status ∨ x.committed then refuse s r obj rfBusy
      else ticketEnd (dropRegion (reply s r obj stDone) x) ticket_ 6 0

/-- REGION_DATA_TIMEOUT (R198): no data for 80,000 ticks. -/
def execRegionDataTimeout (ticket_ : Nat) (at_ : Nat) (s : State) : Host.Outcome State Fault Refusal :=
  .next <|
    let x := ticket s ticket_
    if x.status = 1 ∧ !x.complete ∧ x.lastData + 80000 ≤ s.time.tick then ticketEnd (setPhase s at_) ticket_ 6 8 else s

/-! ### Image writes (R115 to R117) -/

/-- Steps 3 to 5 of R115 for written data: the FAIL_REASON, 0 when the bank has passed, and whether step 4 has written the header.
Step 3 checks the body (checks 6 to 8); a header that breaks checks 1 to 5 fails in step 5. R116 does not say where SEQUENCE is
compared: here last, and the header is not written where it is not greater (DESIGN CHOICE, assumption 91). -/
def writtenCheck (s : State) (data : Bytes) : Nat × Bool :=
  let h := bankHeader data
  let k := bodyCheck h (data.drop 256)
  if k.reason ≠ 0 then (k.reason, false)
  else
    let r := headerCheck s h
    if r ≠ 0 then (r, true)
    else if (runningImage s).elim false fun e => decide (hdrSequence h ≤ hdrSequence e.2.header) then (12, false)
    else (0, true)

/-- The FAIL_REASON of a written bank (R115, R116). -/
def writtenReason (s : State) (data : Bytes) : Nat := (writtenCheck s data).1

/-- Steps 3 to 5 of R115 on the spare bank. -/
def finishBank (s : State) (data : Bytes) : State × Nat :=
  let b := spareBank s
  let s := raiseSkipped s (bodyCheck (bankHeader data) (data.drop 256)).skipped
  let e := writtenReason s data
  (setBank s b { bank s b with
    bytes := (if (writtenCheck s data).2 then data else erasedHeader ++ data.drop 256).take bankMax
    valid := e == 0, failReason := e, writing := false, fallback := false, running := false }, e)

/-- A write to the role address passes only when the standby's bank has passed too (R117): what the command brings of it, or
what the standby has reported. -/
def partnerBank (s : State) (x : TicketSt) (partnerPassed : Option Bool) : Bool :=
  !x.role || s.md.role != .active || partnerPassed.getD x.partnerDone

/-- IMAGE_WRITE_COMPLETE (R115 to R117): DONE only when this bank and, for a write to the role address, the standby's have
passed; after DONE in LOAD, bank selection restarts. A STANDBY that writes for its active reports its result. -/
def execImageWriteComplete (partnerPassed : Option Bool) (at_ : Nat) (s : State) : Host.Outcome State Fault Refusal :=
  .next <|
    match s.kiln.follow with
    | some data =>
      let (s, e) := finishBank { setPhase s at_ with kiln := { (setPhase s at_).kiln with follow := none } } data
      linkMortar s (.imageResult (e == 0))
    | none =>
      match s.tickets.find? fun e => e.2.kind == 4 && e.2.status == 3 && e.2.complete with
      | none => s
      | some (t, x) =>
        let s := setPhase s at_
        let (s, e) := finishBank (setTicket s t { x with committed := true }) x.data
        if e ≠ 0 ∨ !partnerBank s x partnerPassed then ticketEnd s t 7 6
        else
          let s := ticketEnd s t 4 0
          if s.md.mode = .load then restartSelection s else s

/-! ### What the standby receives (R201, R117, R193) -/

/-- The active has reached the commit point of an update that still runs here: it holds on this module too, whatever becomes
of the active (R201). A table that waits for its sample is complete with it. -/
def commitFollowed (s : State) (t : Nat) : State :=
  let x := ticket s t
  let s := setTicket s t { x with committed := true }
  if x.kind = 1 then
    let y := tableSt s x.index
    setTable s x.index { y with completeTick := y.completeTick <|> some (s.time.tick - 1) }
  else s

/-- The standby follows a region status of its active (R201): an end without effect drops what it has begun. -/
def followRegion (s : State) (t status kind index reason : Nat) : State :=
  let x := ticket s t
  if x.status = status ∧ x.kind = kind ∧ x.index = index then s
  else if x.status = 3 ∧ status = 4 then commitFollowed s t
  else
    let s := if 5 ≤ status then dropRegion s x else s
    setTicket s t { x with status := status, kind := kind, index := index, reason := reason, origin := none, runTick := s.time.tick }

/-- FORWARDING_RECEIVE (R201): a region update runs on the standby's own copy; an image is written to its spare bank; an
exchange is staged. -/
def execForwardingReceive (f : Forward) (at_ : Nat) (s : State) : Host.Outcome State Fault Refusal :=
  .next <|
    if s.md.role != .standby || !(s.md.mode == .load || evaluates s.md.mode) then s
    else
      let s := setPhase s at_
      match f with
      | .region t kind index data =>
        let s := startRegion (setTicket s t { status := 3, kind := kind, index := index, length := data.length, data := data, complete := true }) t
        if kind = 2 ∨ kind = 3 then linkMortar s (.regionReady t) else s
      | .image data =>
        if s.kiln.keyPresent then eraseSpare { s with kiln := { s.kiln with follow := some data } } data
        else linkMortar s (.imageResult false)
      | .exchange digest => { s with exch := { s.exch with
          state := 1, reason := 0, staged := none, stageTick := s.time.tick, partnerDigest := some digest } }

end Sys2Proof.Machine
end

