-- ==== Sys2Proof/Machine/Events.lean ====
section
/-! DEFINITION. The event controller's release (R565 to R568), event records for the host (R525) and the fault journal
(R569 to R572). -/

namespace Sys2Proof.Machine

/-! ### Release (R566) -/

/-- A record enters a list in order of its stamp, then of its EV number; equal ones keep their order of arrival. -/
def recInsert (r : EvRec) : List EvRec → List EvRec
  | [] => [r]
  | x :: l => if r.stamp < x.stamp ∨ (r.stamp = x.stamp ∧ r.ev < x.ev) then r :: x :: l else x :: recInsert r l

/-- Class of a record: of its source; a failed staging is of class W (Table 05.9). -/
def recClass (s : State) (r : EvRec) : Nat := if r.ev = 106 ∧ r.arg.headD 0 = 3 then 1 else evClass s r.ev

/-- A record goes to the journal (R565). -/
def journaled (s : State) (ev cls : Nat) : Bool :=
  cls != 0 || (routing (theImage s) ev).testBit 9 || [8, 21, 49, 107, 108, 238, 245, 247].contains ev

/-- One course's queue takes a record if the routing word w names the course; a full queue of 64 counts it (R164). -/
def queueEvent (w : Nat) (r : EvRec) (course : Nat) (x : CourseSt) : CourseSt :=
  if w.testBit course then
    (if x.events.length < 64 then { x with events := x.events ++ [r] } else { x with suppressed := satAdd 32 x.suppressed 1 })
  else x

/-- A released record enters the queues of the courses that its routing word names (R164). -/
def toCourses (s : State) (r : EvRec) : State :=
  let w := routing (theImage s) r.ev
  { s with crs := { s.crs with c := s.crs.c.map fun e => (e.1, queueEvent w r e.1 e.2) } }

/-- One record is numbered, stored and routed; beyond 64 stored records of its source within 8,000 ticks it is only
counted, unless it is of class F (R565, R567). -/
def releaseOne (s : State) (r : EvRec) : State :=
  let cls := recClass s r
  let x := tget ({} : SrcSt) s.ev.src r.ev
  let win := x.window.filter fun t => decide (s.time.tick < t + 8000)
  let count := { x with count := satAdd 32 x.count 1, last := r.stamp, window := win }
  if cls ≠ 3 ∧ 64 ≤ win.length then { s with ev := { s.ev with src := tset s.ev.src r.ev count } }
  else
    let r := { r with seq := BitVec.ofNat 32 s.ev.next, cls := cls }
    let b := s.ev.buffer ++ [r]
    let j := journaled s r.ev cls
    toCourses { s with ev := { s.ev with
      src := tset s.ev.src r.ev { count with window := win ++ [s.time.tick] }
      buffer := if 4096 < b.length then b.drop 1 else b
      next := s.ev.next + 1
      unacked := if 2 ≤ cls then s.ev.unacked ++ [(s.ev.next, r.ev, cls, s.time.tick)] else s.ev.unacked
      open_ := if j then s.ev.open_ ++ [r] else s.ev.open_
      openTick := if j && s.ev.open_.isEmpty then s.time.tick else s.ev.openTick } } r

/-- The records received in the last tick are released in their order (R566). -/
def releaseEventRecs (s : State) : State :=
  let l := s.ev.intake.foldl (fun l r => recInsert r l) []
  l.foldl releaseOne { s with ev := { s.ev with intake := [] } }

/-! ### Records for the host (R525) -/

/-- Sixteen bytes of arguments (R568). -/
def argBytes (l : List W32) : Bytes := (List.range 4).flatMap fun i => toLe 4 (l.getD i 0).toNat

/-- A record in the layout of Table 16.6; ACKED when it is of class A or F and no longer unacknowledged. -/
def recBytes (s : State) (r : EvRec) : Bytes :=
  let acked := decide (2 ≤ r.cls) && !s.ev.unacked.any fun u => u.1 == r.seq.toNat
  toLe 8 r.stamp ++ toLe 4 r.seq.toNat ++ toLe 1 r.ev ++ toLe 1 r.cls ++ toLe 1 ((if acked then 1 else 0) + 2 * r.quality)
    ++ [0] ++ argBytes r.arg

/-- EVENT_RECORDS_READ (R525): up to 32 records from the session's read position, which advances. -/
def execEventRecordsRead (r : Req) (s : State) : Host.Outcome State Fault Refusal :=
  .next <| hostRead s r 0xA0020000 fun s =>
    let x := sess s r.session
    let l := (s.ev.buffer.filter fun e => decide (x.evPos ≤ e.seq.toNat)).take 32
    let pos := (l.getLast?.map fun e => e.seq.toNat + 1).getD x.evPos
    reply (setSess s r.session { x with evPos := pos }) r 0xA0020000 stDone (l.flatMap (recBytes s))

/-- An acknowledgement covers every record of class A and F released at a boundary before its application boundary
(R596). -/
def ackRecords (s : State) (boundary : Nat) : State :=
  { s with ev := { s.ev with unacked := s.ev.unacked.filter fun u => decide (boundary ≤ u.2.2.2) } }

/-! ### The fault journal (R569 to R573) -/

/-- A closed block waits for the key. Without a key at most 64 are held: a further one drops the oldest (R572). -/
def holdBlock (s : State) (b : JBlock) : State :=
  let l := s.ev.held ++ [b]
  if s.kiln.keyPresent ∨ l.length ≤ 64 then
    { s with ev := { s.ev with held := l, writing := s.ev.writing || (s.kiln.keyPresent && s.ev.ready) } }
  else
    let lost := s.ev.lost + (s.ev.held.head?.map fun b => b.recs.length).getD 0
    let first := !s.ev.dropped
    let s := { s with ev := { s.ev with held := l.drop 1, lost := lost, gap := true, gapDue := true, dropped := true } }
    if first then raise s 20 [w32 lost] else s

/-- The open block is due to close (R571): full, 8,000 ticks old, or with a record of class F. -/
def blockDue (s : State) : Bool :=
  !s.ev.open_.isEmpty && (decide (126 ≤ s.ev.open_.length ∨ s.ev.openTick + 8000 ≤ s.time.tick) || s.ev.open_.any fun r => r.cls == 3)

/-- The open block closes with up to 126 records; the others open the next one. -/
def closeBlock (s : State) : State :=
  let b : JBlock := { recs := s.ev.open_.take 126 }
  holdBlock { s with ev := { s.ev with open_ := s.ev.open_.drop 126, openTick := s.time.tick } } b

/-- The journal runs in every mode from LOAD to HALT (R571). -/
def journals (s : State) : Bool := s.ev.running && s.md.mode != .sealed && s.md.mode != .kiln

/-- JOURNAL_BLOCK_CLOSE (R571). -/
def execJournalBlockClose (at_ : Nat) (s : State) : Host.Outcome State Fault Refusal :=
  .next (if journals s && blockDue s then closeBlock (setPhase s at_) else s)

/-- A block as it stands on the key: JSEQ, GAP and LOST, START_NO (Table 19.3). -/
def stampBlock (s : State) (b : JBlock) : JBlock :=
  { b with jseq := s.ev.jseq, serial := Config.serialNumber, gap := s.ev.gapDue, lost := s.ev.lost, startNo := s.ev.startNo }

/-- The 4,096 bytes of a block on the key (Table 19.3). -/
def blockBytes (s : State) (b : JBlock) : Bytes :=
  let recs := b.recs.flatMap (recBytes s)
  let head := toLe 4 0x4A524E4C ++ toLe 2 1 ++ toLe 2 b.recs.length ++ toLe 8 b.jseq ++ padTo 16 b.serial ++ toLe 4 b.startNo
    ++ toLe 4 ((if b.ret then 1 else 0) + (if b.gap then 2 else 0)) ++ toLe 4 b.lost ++ List.replicate 16 0
  padTo 4096 (head ++ toLe 4 (crc32c (head ++ recs)).toNat ++ recs)

/-- The blocks of the key without the one in the place of a JSEQ: each journal bank is a ring of 1,024 blocks (R569), and a write
first erases its sector (R570). -/
def eraseBlock (l : List JBlock) (jseq : Nat) : List JBlock := l.filter fun b => b.jseq % 2048 != jseq % 2048

/-- A block stands on the key (R570): the next takes the next JSEQ. -/
def putBlock (s : State) (b : JBlock) : State :=
  let b := stampBlock s b
  { s with ev := { s.ev with
      key := eraseBlock s.ev.key s.ev.jseq ++ [b], jseq := s.ev.jseq + 1, gapDue := false, lost := 0
      newest := b.recs.foldl (fun m r => max m r.stamp) s.ev.newest
      keyRehearsed := b.recs.foldl (fun m r => if r.ev = 49 then some r.stamp else m) s.ev.keyRehearsed } }

/-- JOURNAL_WRITE_COMPLETE (R570, R571): the block's read-back passed, or it is written again as the next JSEQ with EV018. -/
def execJournalWriteComplete (readBackOk : Bool) (at_ : Nat) (s : State) : Host.Outcome State Fault Refusal :=
  .next <|
    match s.ev.held with
    | [] => s
    | b :: l =>
      if !s.ev.writing || !s.kiln.keyPresent then s
      else
        let s := setPhase s at_
        if readBackOk then
          let s := putBlock s b
          { s with ev := { s.ev with held := l, writing := !l.isEmpty } }
        else raise { s with ev := { s.ev with key := eraseBlock s.ev.key s.ev.jseq, jseq := s.ev.jseq + 1 } } 18 (w64 s.ev.jseq)

/-- Blocks of up to 126 records each; the last has RETURN set, and there is at least one (R573). -/
def closingBlocks : Nat → List EvRec → List JBlock
  | 0, l => [{ recs := l, ret := true }]
  | n + 1, l => if l.length ≤ 126 then [{ recs := l, ret := true }] else { recs := l.take 126 } :: closingBlocks n (l.drop 126)

/-- Held blocks and a closing block are written at once, when a key is present (R573, step 2). -/
def closeJournal (s : State) : State :=
  let s := releaseEventRecs s
  if !s.kiln.keyPresent then s
  else
    let bs := s.ev.held ++ closingBlocks s.ev.open_.length s.ev.open_
    let s := bs.foldl putBlock s
    { s with ev := { s.ev with held := [], open_ := [], writing := false } }

end Sys2Proof.Machine
end

