-- ==== Sys2Proof/Machine/Modes.lean ====
section
/-! DEFINITION. Mode commands from the host (R76 to R79, Table 02.5), acknowledgement (R84, R596), reset requests (R85),
the ACK/RESET button (R82 to R88) and the return of a module (R573). -/

namespace Sys2Proof.Machine

/-- The mode command object (R77). -/
def modeObj : W32 := 0x02010000#32

/-- A mode command is ACCEPTED and not complete (R78). -/
def cmdBusy (s : State) : Bool := s.md.cmd.isSome || s.md.swapCmd.isSome || s.ev.prepare.isSome

/-- What a mode command is refused with, beside the codes that every request shares (R78): the first that applies of busy
(unless it is exempt: from CHANGE under R68, from a command outstanding), role, image and mode. -/
structure ModeGate where
  inChange : Bool := false
  whileBusy : Bool := false
  busy : State → Bool := fun _ => false
  role : State → Bool := fun _ => false
  image : State → Bool := fun _ => false
  mode : State → Bool := fun _ => false

/-- A mode command (R77, R78). -/
def modeCommand (r : Req) (g : ModeGate) (k : State → State) (s : State) : State :=
  hostWrite s r modeObj fun s =>
    if (!g.inChange && s.md.mode == .change) || (!g.whileBusy && cmdBusy s) || g.busy s then refuse s r modeObj rfBusy
    else if g.role s then refuse s r modeObj rfRole
    else if g.image s then refuse s r modeObj rfImage
    else if g.mode s then refuse s r modeObj rfMode
    else k s

/-- A command that completes at a transition of the next boundary: ACCEPTED (R64, R78). -/
def acceptTransition (r : Req) (code : Nat) (dest : Mode) (s : State) : State :=
  let o := originOf s r
  let s := reply s r modeObj stAccepted
  { s with md := { s.md with cmd := some ⟨code, o⟩, trans := s.md.trans ++ [⟨6, dest, causeHost, some o, code⟩] } }

/-- The role STANDBY refuses the command (R79). -/
def standbyRole (s : State) : Bool := !inControl s

/-- MODE_START (R64): STOP to RUN at the next boundary. -/
def execModeStart (r : Req) (s : State) : Host.Outcome State Fault Refusal :=
  .next <| modeCommand r { role := standbyRole, mode := fun s => s.md.mode != .stop } (acceptTransition r 1 .run) s

/-- MODE_STOP (R64). -/
def execModeStop (r : Req) (s : State) : Host.Outcome State Fault Refusal :=
  .next <| modeCommand r
    { role := standbyRole, mode := fun s => !(List.contains [Mode.run, .hold, .degraded] s.md.mode) }
    (acceptTransition r 2 .stop) s

/-- MODE_CONTINUE (R155): HOLD to RUN. -/
def execModeContinue (r : Req) (s : State) : Host.Outcome State Fault Refusal :=
  .next <| modeCommand r { role := standbyRole, mode := fun s => s.md.mode != .hold } (acceptTransition r 3 .run) s

/-! ### Injection attribute and breakpoints -/

/-- INJECTION_ON (R73). -/
def execInjectionOn (r : Req) (s : State) : Host.Outcome State Fault Refusal :=
  .next <| modeCommand r { role := standbyRole, mode := fun s => !injectionMode s.md.mode }
    (fun s => reply { s with md := { s.md with injection := true } } r modeObj stDone) s

/-- INJECTION_OFF (R73): in every mode, and while another command is outstanding. -/
def execInjectionOff (r : Req) (s : State) : Host.Outcome State Fault Refusal :=
  .next <| modeCommand r { inChange := true, whileBusy := true }
    (fun s => reply (injectionSetOff s) r modeObj stDone) s

/-- Every breakpoint's ARMED field. -/
def armAll (s : State) (f : BreakSt → Bool) : State :=
  { s with crs := { s.crs with bp := s.crs.bp.map fun e => (e.1, { e.2 with armed := f e.2 }) } }

/-- ARM_BREAKPOINTS (R153): every DEFINED breakpoint is armed; in RUN, as ACTIVE only with HOLD_ON_ACTIVE. -/
def execArmBreakpoints (r : Req) (s : State) : Host.Outcome State Fault Refusal :=
  .next <| modeCommand r
    { role := standbyRole, image := fun s => s.md.role == .active && !holdOnActive s, mode := fun s => s.md.mode != .run }
    (fun s => reply (armAll s fun b => b.armed || b.defined) r modeObj stDone) s

/-- DISARM_BREAKPOINTS (R68): in every mode. -/
def execDisarmBreakpoints (r : Req) (s : State) : Host.Outcome State Fault Refusal :=
  .next <| modeCommand r { inChange := true }
    (fun s => reply (armAll s fun _ => false) r modeObj stDone) s

/-! ### Acknowledgement (R84, R596) -/

/-- A cause that keeps the module in OASIS is present: a fault of the field controller's
watchdog, which lasts until KILN (R429), or a latched compare fault (R370). An expired DEGRADED countdown is counted as no
cause of its own: the spec does not say whether it is one (DESIGN CHOICE, assumption 77). -/
def oasisCause (s : State) : Bool :=
  s.field.fault || s.safe.compareFault

/-- Modes in which an acknowledgement counts (R84). -/
def acknowledges (s : State) : Bool := !(List.contains [Mode.kiln, .load, .sealed] s.md.mode)

/-- An acknowledgement at its application boundary on a SOLO or ACTIVE module (R84, R596); `reset`: it is a press that is
a safety reset too (R392). OASIS without a cause goes to STOP (Table 02.2). -/
def applyAck (s : State) (reset : Bool) : State :=
  if !acknowledges s then s
  else
    let s := panelAck (ackRecords s s.time.tick)
    let s := sendMortar s (.ack s.time.tick reset)
    if s.md.mode == .oasis && !oasisCause s then changeMode s .stop causeButton else s

/-- A host ACKNOWLEDGE, or one that a standby has forwarded, waits for its application boundary (R84); among the commands of
a tick it keeps its place in the order of acceptance (R67). -/
def acceptAck (s : State) : State :=
  { s with md := { s.md with trans := s.md.trans ++ [⟨6, .stop, causeHost, none, 4⟩] } }

/-- A STANDBY's acknowledgement goes to its active in the next mortar frame (R84). -/
def forwardAck (s : State) : State := if partnerLive s && !linkLost s then linkMortar s .ackForward else s

/-- MODE_ACKNOWLEDGE (R84): applied at the first boundary after acceptance; a STANDBY forwards it. -/
def execModeAcknowledge (r : Req) (s : State) : Host.Outcome State Fault Refusal :=
  .next <| modeCommand r { inChange := true, whileBusy := true, mode := fun s => !acknowledges s }
    (fun s =>
      let s := if inControl s then acceptAck s else forwardAck s
      reply s r modeObj stDone) s

/-! ### Role swap and reset request (R69, R85) -/

/-- Modes of the ACTIVE in which R69 permits a swap. -/
def swapMode (m : Mode) : Bool := List.contains [Mode.stop, .run, .degraded, .oasis] m

/-- A role swap is accepted: at the first boundary that lies at least 2 ticks later (R69). -/
def acceptSwap (s : State) (reset : Bool) (cmd : Option Origin) : State :=
  let at_ := if s.time.phase = 0 then s.time.tick + 2 else s.time.tick + 3
  { s with md := { s.md with
      swapAt := some (s.md.swapAt.getD at_), swapReset := s.md.swapReset || reset
      swapCmd := if cmd.isSome then cmd else s.md.swapCmd } }

/-- MODE_ROLE_SWAP (R69, R78). -/
def execModeRoleSwap (r : Req) (s : State) : Host.Outcome State Fault Refusal :=
  .next <| modeCommand r
    { busy := fun s => s.md.swapAt.isSome, role := fun s => s.md.role != .active
      mode := fun s => !(swapMode s.md.mode && partnerTracks s) }
    (fun s =>
      let o := originOf s r
      acceptSwap (reply s r modeObj stAccepted) false (some o)) s

/-- Outcomes of Table 02.8. -/
inductive ResetOutcome where
  | refused | kiln | swap
  deriving DecidableEq, Repr

/-- What a reset request leads to (Table 02.8). -/
def resetOutcome (s : State) : ResetOutcome :=
  if List.contains [Mode.kiln, .load, .sealed] s.md.mode then .refused
  else
    match s.md.role with
    | .standby => .kiln
    | .solo => if List.contains [Mode.stop, .oasis, .halt] s.md.mode then .kiln else .refused
    | .active => if swapMode s.md.mode && partnerTracks s then .swap else .refused

/-- KILN follows at the second boundary after the request (Table 02.8). -/
def resetToKiln (s : State) : State := { s with md := { s.md with resetAt := some (s.time.tick + 2) } }

/-- MODE_RESET (R85). -/
def execModeReset (r : Req) (s : State) : Host.Outcome State Fault Refusal :=
  .next <| modeCommand r { mode := fun s => resetOutcome s == .refused }
    (fun s =>
      let o := originOf s r
      let out := resetOutcome s
      let s := reply s r modeObj stAccepted
      let s := { s with md := { s.md with cmd := some ⟨5, o⟩ } }
      if out = .swap then acceptSwap s true none else resetToKiln s) s

/-! ### The return of a module (R573) -/

/-- Modes and roles from which SEALED is entered (Table 02.2). -/
def returnAllowed (s : State) : Bool :=
  match s.md.role with
  | .standby => !(List.contains [Mode.kiln, .load, .sealed] s.md.mode)
  | .solo => List.contains [Mode.stop, .oasis, .halt] s.md.mode
  | .active => false

/-- PREPARE_RETURN (R573): ACCEPTED, and waits 240,000 ticks for the confirming press. -/
def execPrepareReturn (r : Req) (s : State) : Host.Outcome State Fault Refusal :=
  .next <| modeCommand r { role := fun s => s.md.role == .active, mode := fun s => !returnAllowed s }
    (fun s =>
      let o := originOf s r
      let s := reply s r modeObj stAccepted
      { s with ev := { s.ev with prepare := some (o, s.time.tick + 240000) } }) s

/-- PREPARE_RETURN_TIMEOUT (R573). -/
def execPrepareReturnTimeout (s : State) : Host.Outcome State Fault Refusal :=
  .next <|
    match s.ev.prepare with
    | some (o, d) =>
      if d < s.time.tick then complete { s with ev := { s.ev with prepare := none } } o rfAccess else s
    | none => s

/-- SEALED (R574): outputs and permits are dropped, the token line is released, the plant network is not answered. -/
def enterSealed (s : State) : State :=
  let s := dropTransitions (voidSwap s)
  let s := dropOutputs (changeMode s .sealed causeHost)
  let s := endSessions s fun _ x => x.iface == 0
  settle { s with md := { s.md with token := false } }

/-- The confirming press (R573): EV021, the journal closed with EV247 in it, bank 47 and the enrolled keys wiped, RETURN
recorded, SEALED. A module that has since come to a role or mode from which SEALED is not entered refuses. -/
def confirmReturn (s : State) : State :=
  match s.ev.prepare with
  | none => s
  | some (o, d) =>
    if d < s.time.tick then s
    else
      let s := { s with ev := { s.ev with prepare := none } }
      if !returnAllowed s then complete s o (if s.md.role == .active then rfRole else rfMode)
      else
        let s := raise s 21 [w32 o.session]
        let s := raise s 247 [w32 s.sec.life, 3]
        let s := closeJournal s
        let s := complete s o stDone
        let s := wipeBank { s with sec := { s.sec with signers := [], authorities := [], life := 3 } } 1
        enterSealed s

/-! ### The button (R82 to R88) -/

/-- One sample of the button (R82). A contact found open at power-on gives the first debounced state. -/
def sampleButton (s : State) (closed : Bool) : State :=
  let b := s.btn
  let run := if b.samples ≠ 0 ∧ closed = b.raw then b.run + 1 else 1
  let level := if b.level.isNone && !closed && decide (81 ≤ run) then some false else b.level
  { s with btn := { b with samples := b.samples + 1, raw := closed, run := run, level := level } }

/-- The button is declared stuck (R86, R87): EV014, in a start before LOAD once the event controller runs. -/
def declareStuck (s : State) : State :=
  if s.btn.stuck then s
  else
    let s := { s with btn := { s.btn with stuck := true } }
    if s.ev.running then raise s 14 else { s with btn := { s.btn with ev014Due := true } }

/-- A closing is stamped at the first of 81 samples that read it (R82); as the first debounced state after power-on it is
stuck (R87). -/
def closeButton (s : State) : State :=
  let first := s.btn.level.isNone
  let s := { s with btn := { s.btn with level := some true, closedAt := s.btn.samples - s.btn.run } }
  if first then declareStuck s else s

/-- A closing lasts through 81 samples and is not yet the debounced state (R82). -/
def closingDue (s : State) : Bool := s.md.powered && s.btn.raw && decide (81 ≤ s.btn.run) && s.btn.level != some true

/-- BUTTON_CLOSING_RECOGNISED (R82). -/
def execButtonClosingRecognised (s : State) : Host.Outcome State Fault Refusal :=
  .next (if closingDue s then closeButton (setPhase s 0) else s)

/-- BUTTON_STUCK (R86, R87): the closure has reached 64,001 ticks, or is the first debounced state after power-on. -/
def execButtonStuck (s : State) : Host.Outcome State Fault Refusal :=
  .next <|
    if closingDue s && s.btn.level.isNone then closeButton (setPhase s 0)
    else if s.md.powered && s.btn.level == some true && s.btn.raw && decide (s.btn.closedAt + 64001 < s.btn.samples) then
      declareStuck (setPhase s 0)
    else s

/-- BUTTON_STUCK_END (R86): the debounced state has stayed open for 8,000 ticks from its opening stamp. -/
def execButtonStuckEnd (s : State) : Host.Outcome State Fault Refusal :=
  .next <|
    if s.md.powered && s.btn.stuck && s.btn.level == some false && decide (s.btn.openedAt + 8000 < s.btn.samples) then
      raise { setPhase s 0 with btn := { s.btn with stuck := false } } 15
    else s

/-- An acknowledge-class press (R84, R392, R541, R573). -/
def pressAck (s : State) : State :=
  let s := if !acknowledges s then s
    else
      let s := raise s 11
      if inControl s then
        let reset := (safeGen (theImage s)).resetSrc == 0
        let s := applyAck s reset
        if reset && evaluates s.md.mode then seeReset s 0 (s.time.tick + 1) else s
      else forwardAck s
  confirmReturn (confirmEnrol s)

/-- A press of 2 s to 8 s (R85): EV012 when honoured, EV013 when refused. -/
def pressReset (s : State) : State :=
  match resetOutcome s with
  | .refused => raise s 13
  | .kiln => resetToKiln (raise s 12)
  | .swap => acceptSwap (raise s 12) true none

/-- A press of d ticks acts by its class (Table 02.7). -/
def press (s : State) (d : Nat) : State :=
  if d < 400 then s else if d < 16000 then pressAck s else if d ≤ 64000 then pressReset s else declareStuck s

/-- BUTTON_RELEASE_RECOGNISED (R82, R83): the opening is stamped; the release of a stuck button performs no action. -/
def execButtonReleaseRecognised (s : State) : Host.Outcome State Fault Refusal :=
  .next <|
    if !s.md.powered || s.btn.raw || decide (s.btn.run < 81) || s.btn.level != some true then s
    else
      let s := setPhase s 0
      let opened := s.btn.samples - s.btn.run
      let s := { s with btn := { s.btn with level := some false, openedAt := opened } }
      sendChanges (if s.btn.stuck then s else press s (opened - s.btn.closedAt))

end Sys2Proof.Machine
end

