-- ==== Sys2Proof/Machine/Time.lean ====
section
/-! DEFINITION. Vessel time (chapter 15): the PTP servo, jumps, slews and steps (R486 to R497), LAN links, PRP peers and
gratuitous ARP (R481 to R485). -/

namespace Sys2Proof.Machine

/-! ### Setting vessel time -/

/-- A number moved by a jump. -/
def moved (d : Int) (n : Nat) : Nat := ((n : Int) + d).toNat

/-- Timeouts and ages that are kept as ticks move with a jump of the tick counter, so that what has elapsed stays what it
was; the DEGRADED expiry and the other instants in vessel time that time something move with vessel time (R496). -/
def shiftTime (s : State) (dt dn : Int) : State :=
  let t := moved dt
  let n := moved dn
  let g := moved (dt * tickNs)
  { s with
    md := { s.md with swapAt := s.md.swapAt.map t, resetAt := s.md.resetAt.map t }
    set := { s.set with waiting := s.set.waiting.map fun w => { w with tick := t w.tick } }
    crs := { s.crs with
      c := s.crs.c.map fun e => (e.1, { e.2 with
        startTick := t e.2.startTick, watchTick := t e.2.watchTick, endTick := t e.2.endTick
        busy := e.2.busy.map fun b => (g b.1, g b.2), from_ := g e.2.from_ })
      outLate := s.crs.outLate.map fun e => (e.1, e.2.1, t e.2.2)
      mirageWaits := s.crs.mirageWaits.map fun w => { w with tick := t w.tick }
      mirageChanged := s.crs.mirageChanged.map fun e => (e.1, t e.2)
      settingChanged := s.crs.settingChanged.map fun e => (e.1, e.2.1, t e.2.2)
      setpoints := s.crs.setpoints.map fun e => (e.1, e.2.1, t e.2.2)
      modeReqs := s.crs.modeReqs.map fun e => (e.1, e.2.1, t e.2.2) }
    exch := { s.exch with stageTick := t s.exch.stageTick, waitFrom := t s.exch.waitFrom }
    tickets := s.tickets.map fun e => (e.1, { e.2 with lastData := t e.2.lastData, runTick := t e.2.runTick })
    loops := { s.loops with
      m := s.loops.m.map fun e => (e.1, { e.2 with
        lastTick := t e.2.lastTick, applyAt := e.2.applyAt.map t, doneTick := e.2.doneTick.map t
        changes := e.2.changes.map fun c => (c.1, c.2.1, t c.2.2)
        hostReq := e.2.hostReq.map fun q => (q.1, t q.2.1, q.2.2) })
      t := s.loops.t.map fun e => (e.1, { e.2 with completeTick := e.2.completeTick.map t }) }
    solver := { s.solver with
      j := s.solver.j.map fun e => (e.1, { e.2 with
        courseParams := e.2.courseParams.map fun c => (c.1, c.2.1, t c.2.2)
        job := e.2.job.map fun j => { j with released := g j.released, ranFrom := g j.ranFrom } })
      busyFrom := s.solver.busyFrom.map fun e => (e.1, g e.2)
      busy := s.solver.busy.map fun e => (e.1, e.2.map fun b => (g b.1, g b.2)) }
    pair := { s.pair with
      lanes := s.pair.lanes.map fun l => { l with lastTick := t l.lastTick }
      statusTick := t s.pair.statusTick, watchFrom := s.pair.watchFrom.map t, overdueAt := s.pair.overdueAt.map t
      syncTick := t s.pair.syncTick, shadowTick := s.pair.shadowTick.map t, detected := s.pair.detected.map t }
    mortar := { s.mortar with
      cascade := s.mortar.cascade.map fun e => (t e.1, e.2)
      setDue := s.mortar.setDue.map fun e => (e.1, e.2.map t)
      awaited := s.mortar.awaited.map fun e => (e.1, t e.2) }
    safe := { s.safe with
      evalTick := s.safe.evalTick.map t, expiry := s.safe.expiry.map n
      resetSeen := s.safe.resetSeen.map fun e => (e.1, t e.2)
      si := s.safe.si.map fun e => (e.1, { e.2 with since := e.2.since.map t })
      axis := s.safe.axis.map fun e => (e.1, { e.2 with ts := t e.2.ts })
      conn := s.safe.conn.map fun e => (e.1, { e.2 with lastTick := t e.2.lastTick, since := e.2.since.map t }) }
    field := { s.field with
      lastRefresh := t s.field.lastRefresh, overlap := s.field.overlap.map t
      ch := s.field.ch.map fun e => (e.1, { e.2 with offTick := t e.2.offTick, retryTick := e.2.retryTick.map t }) }
    can := { s.can with slot := s.can.slot.map fun e => (e.1, { e.2 with endNs := n e.2.endNs, tick := t e.2.tick }) }
    time := { s.time with loadTick := t s.time.loadTick, holdFrom := t s.time.holdFrom, slewFrom := n s.time.slewFrom }
    net := { s.net with
      arp := s.net.arp.map t
      laneOut := s.net.laneOut.map fun o => { o with
        freeAt := moved (dt * tickNs * 5 / 16) o.freeAt, queue := o.queue.map fun x => { x with tick := t x.tick } }
      sess := s.net.sess.map fun e => (e.1, { e.2 with
        lastTick := t e.2.lastTick, subs := e.2.subs.map fun b => { b with lastTick := t b.lastTick } }) }
    ev := { s.ev with
      openTick := t s.ev.openTick, prepare := s.ev.prepare.map fun e => (e.1, t e.2)
      unacked := s.ev.unacked.map fun u => (u.1, u.2.1, u.2.2.1, t u.2.2.2)
      src := s.ev.src.map fun e => (e.1, { e.2 with window := e.2.window.map t }) }
    sec := { s.sec with
      envFrom := s.sec.envFrom.map t, lastEv240 := s.sec.lastEv240.map fun e => (e.1, t e.2)
      enrol := s.sec.enrol.map fun e => { e with deadline := t e.deadline } }
    panel := { s.panel with lampUntil := s.panel.lampUntil.map t }
    panel2 := { s.panel2 with
      pairAt := g s.panel2.pairAt, releasedAt := s.panel2.releasedAt.map t
      hist := s.panel2.hist.map fun e => (n e.1, e.2) } }

/-- Vessel time is set: the tick whose number is the time in ticks is the present one (R20); `boundary` is the vessel time
at its boundary. -/
def setClock (s : State) (boundary phase : Nat) : State :=
  let tick := boundary / tickNs
  let s := shiftTime s ((tick : Int) - s.time.tick) ((boundary : Int) - s.time.ns)
  { s with time := { s.time with tick := tick, ns := boundary, frac := 0, phase := phase } }

/-- Vessel time is set inside a tick: the tick grid is that of the new time (R492, R497). -/
def setInstant (s : State) (now : Nat) : State := setClock s (now / tickNs * tickNs) (now % tickNs)

/-! ### The servo (R491, R494) -/

/-- Network configuration: of the running image, in LOAD of the one selected. -/
def netNow (s : State) : NetCfg := netCfg ((s.kiln.selected.map (·.2)).getD (theImage s))

/-- One of the counters of a LAN port (Table 15.10). -/
def lanCount (s : State) (port i : Nat) : State :=
  let l := s.net.lan.getD port {}
  { s with net := { s.net with lan := lset s.net.lan port { l with counters := bump l.counters i } } }

/-- An offset as two argument words. -/
def wOffset (i : Int) : List W32 := w64 (BitVec.ofInt 64 i).toNat

/-- The servo enters HOLDOVER: EV233 with its cause (no coding is stated). -/
def enterHoldover (s : State) (why : Nat) : State :=
  if s.time.servo = 2 then s
  else
    raise { s with time := { s.time with
      servo := 2, holdFrom := s.time.tick, goodRun := 0
      announced := if s.time.everLocked then 7 else 248 } } 233 [Config.argCode 233 why]

/-- A jump, or a master change that is refused (R494): holdover, the source is ignored, JUMP, EV234. -/
def ptpJump (s : State) (port : Nat) (gm : W64) (offset : Int) : State :=
  let s := lanCount (enterHoldover s 1) (port - 1) 4
  raise { s with time := { s.time with
    jump := true, refused := offset, ignored := some gm, rejected := false, badRun := 0, port := 0, goodRun := 0 } } 234
    (wOffset offset ++ w64 gm.toNat)

/-- A measurement beyond JUMP_NS: discarded and counted; the fourth in a row of one source is a jump. -/
def ptpOutlier (s : State) (port : Nat) (gm : W64) (offset : Int) : State :=
  let n := if s.time.badGm = gm then s.time.badRun + 1 else 1
  let s := { s with time := { s.time with badRun := n, badGm := gm } }
  if 4 ≤ n then ptpJump s port gm offset else lanCount s (port - 1) 3

/-- The servo reaches LOCKED at 16 consecutive measurements within 100 ns (R491). -/
def ptpLock (s : State) (port : Nat) (offset : Int) : State :=
  if 16 ≤ s.time.goodRun ∧ s.time.servo ≠ 1 then
    raise { s with time := { s.time with servo := 1, everLocked := true } } 232 (w32 port :: wOffset offset)
  else s

/-- Half the difference of the ingress and egress constants of a LAN port at its speed (Table 15.4). -/
def phyOffset (speed : Nat) : Int := if speed = 2 then (312 - 176) / 2 else (418 - 244) / 2

/-- The offset from the master by corrected stamps (R489, R38), from that by the stamps as the MAC took them: an ingress stamp is
lessened and an egress stamp raised by the constants of Table 15.4, each stamp is lessened by the 10 ns of C19, and the asymmetry
lengthens the way from the master (IEEE 1588-2019; DEDUCED, assumption 96). -/
def ptpOffset (s : State) (port : Nat) (raw : Int) : Int :=
  let c := netNow s
  raw - phyOffset (s.net.lan.getD (port - 1) {}).speed - 10 - (if port = 1 then c.asymA else c.asymB)

/-- A measurement within JUMP_NS feeds the servo; a new grandmaster is a master change that is accepted, and so is another one
than the source that is ignored (R494; DEDUCED, assumption 101). -/
def ptpAccept (s : State) (port : Nat) (gm : W64) (cls steps : Nat) (offset : Int) : State :=
  let change := s.time.gm ≠ gm ∨ s.time.ignored.isSome
  let s := if change then
    raise { s with time := { s.time with jump := false, ignored := none, goodRun := 0 } } 235 (w64 gm.toNat) else s
  let s := { s with time := { s.time with
    port := port, slavePort := port, gm := gm, gmClass := cls, steps := steps, offset := offset
    badRun := if s.time.badGm = gm then 0 else s.time.badRun
    goodRun := if offset.natAbs ≤ 100 then s.time.goodRun + 1 else 0 } }
  let s := ptpLock s port offset
  if s.time.servo = 1 then { s with time := { s.time with announced := cls } } else s

/-- Vessel time when a slew was accepted and now (EV238). -/
def oldNew (old new : Nat) : List W32 := w64 old ++ w64 new

/-- A slew ends with the offset within 100 ns (R495): EV238, the source is accepted, the servo goes on toward LOCKED. -/
def slewDone (s : State) : State :=
  let o := s.time.slewOrigin
  let src := s.time.ignored.getD s.time.gm
  let s := { s with time := { s.time with
    servo := if s.time.everLocked then 2 else 0, slewLeft := 0, slewOrigin := none, jump := false, ignored := none, gm := src
    goodRun := 0, badRun := 0 } }
  completeOpt (raise s 238 (oldNew s.time.slewFrom (vtime s))) o stDone

/-- The slew in a tick boundary (R495): it starts at the first one after acceptance, and each tick from there removes
12.5 ns at 100 ppm. -/
def slewTick (s : State) : State :=
  if s.time.servo ≠ 3 then s
  else if s.time.tick ≤ s.time.slewFrom / tickNs + 1 ∧ s.time.slewLeft ≠ 0 then s
  else
    let n : Int := s.time.slewRate
    let left := if s.time.slewLeft.natAbs ≤ s.time.slewRate then 0
      else if 0 < s.time.slewLeft then s.time.slewLeft - n else s.time.slewLeft + n
    let s := { s with time := { s.time with slewLeft := left } }
    if left = 0 then slewDone s else s

/-- Which measurement speaks for the best master (R488): the slave port's; of one master on both ports LAN A's; on the
passive port another master only if it is better, by clockClass and then by identity. -/
def ptpSelects (s : State) (port : Nat) (gm : W64) (cls : Nat) : Bool :=
  s.time.port == 0 || s.time.port == port ||
    (if s.time.gm = gm then port == 1 else decide (cls < s.time.gmClass ∨ (cls = s.time.gmClass ∧ gm.toNat < s.time.gm.toNat)))

/-- In LOAD the fourth measurement of a master sets vessel time (R492). -/
def ptpInLoad (s : State) (port : Nat) (gm : W64) (cls steps : Nat) (offset : Int) : State :=
  let n := (((s.time.seen.filter fun e => e.1 == gm).map fun e => e.2.2).foldl (· + ·) 0) + 1
  let s := { s with time := { s.time with seen := s.time.seen ++ [(gm, port, 1)] } }
  if n < 4 then s
  else
    let s := setInstant s ((vtime s : Int) - offset).toNat
    { s with time := { s.time with set := true, port := port, slavePort := port, gm := gm, gmClass := cls, steps := steps, offset := 0 } }

/-- The phase takeover of R488: a port that replaces the slave port must agree with the last offset within JUMP_NS. With a FREE
servo any master is a jump, whatever its offset (R44, R492), at its fourth measurement as every jump (R494; DESIGN CHOICE,
assumption 97). -/
def ptpFeeds (s : State) (port : Nat) (gm : W64) (cls steps : Nat) (offset : Int) : State :=
  let j := (netNow s).jumpNs
  let apart := decide (s.time.slavePort ≠ 0 ∧ s.time.slavePort ≠ port ∧ s.time.gm = gm ∧ j < (offset - s.time.offset).natAbs)
  if s.time.servo == 4 || j < offset.natAbs || apart then ptpOutlier s port gm offset else ptpAccept s port gm cls steps offset

/-- PTP_MEASUREMENT (R488 to R497): the operand is the offset by the stamps as the MAC took them (R489). A standby that follows
its active monitors only (R497). -/
def execPtpMeasurement (port : Nat) (gm : W64) (cls steps : Nat) (raw : Int) (at_ : Nat) (s : State) :
    Host.Outcome State Fault Refusal :=
  .next <|
    if !s.md.powered || (netNow s).profile = 0 || !(s.md.mode == .load || evaluates s.md.mode)
        || !(port == 1 || port == 2) || !(s.net.lan.getD (port - 1) {}).up then s
    else
      let offset := ptpOffset s port raw
      let s := setPhase s at_
      if s.md.mode = .load ∧ !s.time.set then ptpInLoad s port gm cls steps offset
      else if s.md.role = .standby then
        if ptpSelects s port gm cls then
          { s with time := { s.time with
            monitor := some offset, port := port, gm := gm, gmClass := cls, steps := steps, offset := offset } }
        else s
      else if s.time.servo = 3 ∧ s.time.ignored = some gm then
        let s := { s with time := { s.time with offset := offset } }
        if offset.natAbs ≤ 100 then slewDone { s with time := { s.time with port := port, gmClass := cls, steps := steps } }
        else s
      else if s.time.ignored = some gm || !ptpSelects s port gm cls then s
      else ptpFeeds s port gm cls steps offset

/-- ANNOUNCE_TIMEOUT (R491): the slave port has lost its master. -/
def execAnnounceTimeout (at_ : Nat) (s : State) : Host.Outcome State Fault Refusal :=
  .next <|
    if !s.md.powered || !(s.md.mode == .load || evaluates s.md.mode) || s.time.port == 0 then s
    else
      let s := { setPhase s at_ with time := { (setPhase s at_).time with port := 0 } }
      if s.md.role != .standby && (s.time.servo == 0 || s.time.servo == 1) then enterHoldover s 0 else s

/-- HOLDOVER_CLOCK_CLASS_CHANGE (R487): after 1 h (28,800,000 ticks) in holdover a boundary clock announces clockClass
248. -/
def execHoldoverClockClassChange (at_ : Nat) (s : State) : Host.Outcome State Fault Refusal :=
  .next <|
    if s.md.powered && s.time.servo == 2 && (netNow s).clock == 1
        && decide (s.time.holdFrom + 28800000 ≤ s.time.tick) then
      { setPhase s at_ with time := { (setPhase s at_).time with announced := 248 } }
    else s

/-! ### Time commands (R495, R496) -/

/-- The time command object. -/
def timeObj : W32 := 0x60020000#32

/-- A time command is ACCEPTED and not complete (R78). -/
def timeBusy (s : State) : Bool := s.time.stepDue.isSome || s.time.slewOrigin.isSome

/-- A time command (R495): the first code of R78 that applies; HALT_SLEW ends the slew that is outstanding. -/
def timeCommand (r : Req) (whileBusy : Bool) (mode range : State → Bool) (k : State → State) (s : State) : State :=
  hostCommand s r timeObj fun s =>
    if !whileBusy && timeBusy s then refuse s r timeObj rfBusy
    else if !inControl s then refuse s r timeObj rfRole
    else if mode s then refuse s r timeObj rfMode
    else if range s then refuse s r timeObj rfRange
    else k s

/-- JUMP is set or the servo is FREE. -/
def timeOpen (s : State) : Bool := s.time.jump || s.time.servo == 4

/-- TIME_SLEW (R495). -/
def execTimeSlew (r : Req) (rate : Nat) (s : State) : Host.Outcome State Fault Refusal :=
  .next <| timeCommand r false (fun s => !(evaluates s.md.mode && timeOpen s)) (fun _ => rate == 0 || decide (100 < rate))
    (fun s =>
      let o := originOf s r
      let s := reply s r timeObj stAccepted
      { s with time := { s.time with
        servo := 3, jump := false, slewLeft := 8 * s.time.refused, slewRate := rate, slewFrom := vtime s
        slewOrigin := some o, goodRun := 0 } }) s

/-- TIME_STEP (R496): accepted in STOP; at the next boundary. A standby follows (R497). -/
def execTimeStep (r : Req) (s : State) : Host.Outcome State Fault Refusal :=
  .next <| timeCommand r false (fun s => !(s.md.mode == .stop && timeOpen s)) (fun _ => false)
    (fun s =>
      let o := originOf s r
      let s := sendMortar (reply s r timeObj stAccepted) (.step s.time.refused)
      { s with time := { s.time with stepDue := some (s.time.refused, some o) } }) s

/-- TIME_REJECT (R495): JUMP is cleared, the source stays ignored. -/
def execTimeReject (r : Req) (s : State) : Host.Outcome State Fault Refusal :=
  .next <| timeCommand r false (fun s => !s.time.jump) (fun _ => false)
    (fun s => reply { s with time := { s.time with jump := false, rejected := true } } r timeObj stDone) s

/-- HALT_SLEW (R495): holdover goes on from the time reached, JUMP is set again for what is left. -/
def execHaltSlew (r : Req) (s : State) : Host.Outcome State Fault Refusal :=
  .next <| timeCommand r true (fun s => s.time.servo != 3) (fun _ => false)
    (fun s =>
      let o := s.time.slewOrigin
      let s := { s with time := { s.time with
        servo := 2, jump := true, refused := s.time.slewLeft / 8, slewLeft := 0, slewOrigin := none
        holdFrom := s.time.tick } }
      reply (completeOpt s o (Config.finalCode 0x6002 0)) r timeObj stDone) s

/-- A step that is due takes place at this boundary, in STOP only (R496): EV238; a module that has left STOP refuses it. A standby
steps with its active (R497). -/
def stepTime (s : State) : State :=
  match s.time.stepDue with
  | none => s
  | some (off, o) =>
    let s := { s with time := { s.time with stepDue := none } }
    if inControl s && s.md.mode != .stop then completeOpt s o rfMode
    else
      let old : Nat := s.time.ns
      let s := setClock s ((old : Int) - off).toNat 0
      let s := if inControl s then
        { s with time := { s.time with
          jump := false, gm := s.time.ignored.getD s.time.gm, ignored := none, goodRun := 0
          servo := if s.time.everLocked then 2 else 0 } } else s
      completeOpt (raise s 238 (oldNew old s.time.ns)) o stDone

/-! ### LAN links, PRP, ARP (R481 to R485) -/

/-- LAN_LINK_DOWN (R485): EV236; with both LANs down, plant sessions end and PTP enters holdover. -/
def execLanLinkDown (port at_ : Nat) (s : State) : Host.Outcome State Fault Refusal :=
  .next <|
    let l := s.net.lan.getD port {}
    if !s.md.powered || decide (2 < port) || !l.up then s
    else
      let s := setPhase s at_
      let s := { s with net := { s.net with lan := lset s.net.lan port { l with up := false, speed := 0 } } }
      let s := raise s 236 [w32 port]
      if (s.net.lan.getD 0 {}).up || (s.net.lan.getD 1 {}).up || port = 2 then s
      else
        let s := endSessions s fun _ x => x.iface == 0
        let s := { s with time := { s.time with port := 0 } }
        if s.md.role != .standby && (s.time.servo == 0 || s.time.servo == 1) && decide ((netNow s).profile ≠ 0) then
          enterHoldover s 2 else s

/-- LAN_LINK_UP (R485): EV237. -/
def execLanLinkUp (port speed at_ : Nat) (s : State) : Host.Outcome State Fault Refusal :=
  .next <|
    let l := s.net.lan.getD port {}
    if !s.md.powered || decide (2 < port) || l.up then s
    else
      let s := setPhase s at_
      raise { s with net := { s.net with lan := lset s.net.lan port { l with up := true, speed := speed } } } 237
        [w32 port, w32 speed]

/-- A gratuitous ARP announcement on both LANs (R484). -/
def sendArp (s : State) : State := send s (.arp (netNow s).ipRole)

/-- The module starts to answer on the role address by a takeover (R484): the announcement and its two repeats at 1 s. -/
def announceRole (s : State) : State :=
  let s := sendArp s
  { s with net := { s.net with arp := [s.time.tick + 8000, s.time.tick + 16000] } }

/-- GRATUITOUS_ARP_REPEAT (R484). -/
def execGratuitousArpRepeat (at_ : Nat) (s : State) : Host.Outcome State Fault Refusal :=
  .next <|
    match s.net.arp with
    | [] => s
    | t :: l =>
      if s.time.tick < t ∨ !s.md.powered then s
      else
        let s := { setPhase s at_ with net := { s.net with arp := l } }
        if s.net.roleAddr then sendArp s else { s with net := { s.net with arp := [] } }

/-- The module's own PRP supervision frames: every 2 s on both LANs (R481), at every 16,000th tick: the phase of the period is not
stated (DESIGN CHOICE, assumption 102). -/
def prpTick (s : State) : State :=
  if s.time.tick % 16000 ≠ 0 ∨ !s.ev.running ∨ !ifaceAnswers s 0 then s
  else [0, 1].foldl (fun s k =>
    if (s.net.lan.getD k {}).up then lanCount (send s (.prpSupervision k)) k 1 else s) s

/-- PRP_SUPERVISION_FRAME (R481): the peer is recorded for the LAN. -/
def execPrpSupervisionFrame (lan peer at_ : Nat) (s : State) : Host.Outcome State Fault Refusal :=
  .next <|
    let l := s.net.lan.getD lan {}
    if !s.md.powered || decide (1 < lan) || !l.up || !s.ev.running then s
    else
      let s := lanCount (setPhase s at_) lan 0
      let l := s.net.lan.getD lan {}
      if l.peers.contains peer then s
      else { s with net := { s.net with lan := lset s.net.lan lan { l with peers := l.peers ++ [peer] } } }

end Sys2Proof.Machine
end

