-- ==== Sys2Proof/Machine/Mortar.lean ====
section
/-! DEFINITION. Mortar as the standby receives and applies it (R234, R286, R339 to R344, R193, R194). -/

namespace Sys2Proof.Machine

/-- A STANDBY that receives mortar (R339). -/
def follows (s : State) : Bool := s.md.role == .standby && List.contains [Mode.sync, .track, .change] s.md.mode

/-- A STANDBY that shadows its active: TRACK, or CHANGE in step with it (Table 02.3). -/
def shadows (s : State) : Bool := s.md.role == .standby && List.contains [Mode.track, .change] s.md.mode

/-- The Cerhar link of this module is served: on a twin base, from LOAD on, except in SEALED (R334, R574). -/
def linkServed (s : State) : Bool :=
  s.md.powered && onTwin s && s.md.ticking && !(List.contains [Mode.kiln, .sealed] s.md.mode)

/-- One of the counters of 0x7004_0000. -/
def pairCount (s : State) (i : Nat) : State := { s with pair := { s.pair with counters := bump s.pair.counters i } }

/-! ### Class 0: the tick frame (R234, R342) -/

/-- The loop state of one context as the tick mortar carries it (R234). -/
def takeLoop (s : State) (q : LoopMortar) : State :=
  if (loopDef (theImage s) q.ctx).isNone then s
  else
    let x := loop s q.ctx
    let m := loop2 s q.ctx
    let s := setLoop s q.ctx { x with
      acc := q.acc, d := q.d, sPrev := q.sPrev, e := q.e, u := q.u, v := q.v, sat := q.sat, satHeld := q.satHeld
      heldE := q.heldE, rampPrev := q.rampPrev, rampTarget := q.rampTarget, rampJ := q.rampJ, consecMiss := q.consecMiss
      consecPvBad := q.consecPvBad, restart := false }
    setLoop2 s q.ctx { m with lastTick := q.lastTick, counters := q.counters, sampled := true, bumpless := m.bumpless && !x.restart }

/-- The standby swaps to the staged program (R194): shadow activations are abandoned, and those that the active started at
tick s are restarted on the new program. -/
def followSwap (s : State) : State :=
  let s := exchSwap s
  if s.md.mode != .change then s
  else
    let s := abandonCourses { s with exch := { s.exch with phase := 3 } }
    startBase (dispatch s)

/-- A tick frame that closes is applied as a whole; one that does not is discarded and counted (R342). -/
def takeTick (s : State) (f : TickMortar) : State :=
  if !f.closes then pairCount s 5
  else
    let s := f.loops.foldl takeLoop s
    let s := setStale { s with mortar := { s.mortar with
      tick := some f, outputs := f.outputs
      loops := f.loops.foldl (fun t q => tset t q.ctx q) s.mortar.loops } } 0 0
    if f.exch = 1 ∧ s.exch.state = 4 ∧ !s.exch.swapped then followSwap s
    else if f.exch = 2 ∧ s.exch.state = 4 ∧ s.exch.swapped then
      let s := exchRollback s 0
      if s.md.mode = .change then startBase (dispatch s) else s
    else s

/-- MORTAR_TICK_FRAME_RECEIVE (R342). -/
def execMortarTickFrameReceive (f : TickMortar) (s : State) : Host.Outcome State Fault Refusal :=
  .next <|
    if !linkServed s || s.pair.noCommon then s
    else if follows s then takeTick (setPhase s 105000) f
    else if inControl s && f.closes then
      -- after a role swap the old active's frames still tell the ledger (R557)
      ledgerTake { s with mortar := { s.mortar with tick := some f } }
    else s

/-! ### Classes 1 and 3: applied at the boundary after they are complete (R339) -/

/-- A mortared set of brick bytes stands for the takeover (Table 10.7). -/
def keepSet (l : List (Nat × Nat × Bytes)) (e : Nat × Nat × Bytes) : List (Nat × Nat × Bytes) :=
  (l.filter fun o => !(o.1 == e.1 && o.2.1 == e.2.1)) ++ [e]

/-- A set that is applied meets the release in shadow (R344), and the course's next number is the one after it. -/
def setApplied (s : State) (c release : Nat) : State :=
  { s with mortar := { s.mortar with
      nextSet := tset s.mortar.nextSet c (release + 1)
      setDue := match tfind s.mortar.setDue c with
        | some (some _) => tdel s.mortar.setDue c
        | _ => if shadows s then tset s.mortar.setDue c none else s.mortar.setDue } }

/-- A class 1 set (R339): brick bytes, and in the base course's set the settings and mirages changed. -/
def takeCourseEnd (s : State) (c release : Nat) (data : List (Nat × Nat × Bytes)) (settings : List (Nat × W64))
    (mirages : List (Nat × Option MirageCmd)) : State :=
  let s := data.foldl (fun s e => putData s e.1 e.2.1 e.2.2) s
  let put (t : Tab Mirage) (e : Nat × Option MirageCmd) : Tab Mirage :=
    match e.2 with
    | none => tdel t e.1
    | some q => tset t e.1 { kind := q.kind, ty := q.ty, brick := q.brick, index := q.index, value := q.value }
  setApplied { s with
    mortar := { s.mortar with courseData := data.foldl keepSet s.mortar.courseData }
    set := { s.set with values := settings.foldl (fun t e => tset t e.1 e.2) s.set.values }
    crs := { s.crs with mirages := mirages.foldl put s.crs.mirages } } c release

/-- The window of the active has opened (R193): the standby enters CHANGE at the same boundary. -/
def followOpen (s : State) (before : Mode) : State :=
  openWindow (if s.md.mode = .track then changeMode s .change causeExchange else s) before

/-- The window of the active has ended with a STATE of Table 05.3 (R194). -/
def followEnd (s : State) (state : Nat) : State :=
  let s :=
    if state = 5 then exchComplete (if s.exch.swapped then s else exchSwap s)
    else
      let s := if s.exch.swapped then exchRollback s 0 else s
      let s : State := { s with exch := { s.exch with
          state := state, phase := 0, staged := if state = 2 then s.exch.staged else none, old := none, rollback := none } }
      if state = 2 then s else dropStagedTables s
  if s.md.mode = .change then changeMode s .track causeExchange else s

/-- The mode of the active with its exchange STATE and PHASE (R66, R72, R193): what a change of mode does to courses, loop
engine and solver happens to the shadow as well. -/
def followMode (s : State) (m state phase : Nat) : State :=
  let old := modeOfCode s.mortar.activeMode
  let new := modeOfCode m
  let s := { s with
    mortar := { s.mortar with activeMode := m, exch := (state, phase) }
    md := { s.md with beforeChange := if new = .change ∧ old ≠ .change then old else s.md.beforeChange } }
  let s := if s.exch.state = 4 ∧ state ≠ 4 then followEnd s state
    else if s.exch.state = 2 ∧ state = 4 then followOpen s old else s
  let s := if s.md.mode = .change ∧ state ≠ 4 then changeMode s .track causeExchange else s
  let s := if s.exch.state = 4 ∧ phase ≠ 0 then { s with exch := { s.exch with phase := phase } } else s
  if old = new ∨ !shadows s then s else enterEffects s old new

/-- A region of the bulk copy (R361) stands on this module as a DONE update of its own. -/
def takeContent (s : State) (kind index : Nat) (data : Bytes) : State :=
  let s := keepUpdate s kind index data
  match kind with
  | 1 => setTable s index { tableSt s index with fore := data }
  | 2 => setSolv2 s index (blockApplied (solv2 s index) data)
  | _ => putData s index 0 data

/-- One class 1 or 3 frame at its boundary (Table 10.3). -/
def applyMortar (s : State) (m : Mortar) : State :=
  match m with
  | .courseEnd c n data settings mirages => takeCourseEnd s c n data settings mirages
  | .mode m state phase => followMode s m state phase
  | .settings st g => { s with set := { s.set with state := st, generation := g } }
  | .loop c mode manual =>
    let x := loop s c
    let s := if x.mode = mode then s else setLoop2 s c { loop2 s c with bumpless := false }
    setLoop s c { x with mode := mode, manual := manual }
  | .loopParams c ps => setLoop2 s c { loop2 s c with params := ps, due := [], dueAll := none }
  | .expiry t => { s with safe := { s.safe with
      expiry := t, expired := s.safe.expired && t.isSome, notices := if t.isSome then s.safe.notices else 0 } }
  | .ack b _ => panelAck (ackRecords s b)
  | .pixels u a => { s with panel2 := { s.panel2 with unacked := u, acked := a } }
  | .untrusted u => { s with panel := { s.panel with untrusted := u } }
  | .region t st k i r => followRegion s t st k i r
  | .launch p l => setPort s p { port s p with
      launch := l.zipIdx.map fun e => { req := e.1, time := e.1.launch.getD 0, launch := true, order := e.2 } }
  | .content k i d => takeContent s k i d
  | .swap t => { s with md := { s.md with swapAt := t } }
  | .rehearsal t => { s with pair := { s.pair with
      partnerDays := t.elim 0xFFFF fun t => min ((vtime s - t) / (86400 * 10 ^ 9)) 0xFFFE } }
  | .role _ | .outcome _ | .ackForward | .tableReady _ | .regionReady _ | .imageResult _ | .step _ => s

/-- One frame of the queue: applied, or kept because an earlier set of its course has not come (R343); a set that a later
one has overtaken is nothing new. -/
def applyQueued (acc : State × List Mortar) (m : Mortar) : State × List Mortar :=
  match m with
  | .courseEnd c n _ _ _ =>
    let next := (tfind acc.1.mortar.nextSet c).getD n
    if n = next then (applyMortar acc.1 m, acc.2) else if n < next then acc else (acc.1, acc.2 ++ [m])
  | _ => (applyMortar acc.1 m, acc.2)

/-- The queue in order of completion; sets that waited for an earlier one follow it (R343). -/
def applyQueue (s : State) : State :=
  let q := s.mortar.queue
  let r := q.foldl (fun acc _ => acc.2.foldl applyQueued (acc.1, [])) (s, q)
  { r.1 with mortar := { r.1.mortar with queue := r.2 } }

/-- In SYNC the standby runs no frame of its own: the active's publications stand, each from its frame's end (R286, R361). -/
def adoptOutcomes (s : State) : State :=
  if s.md.role != .standby || s.md.mode != .sync then s
  else (solverDefs (theImage s)).foldl (fun s e =>
    let m := solv2 s e.1
    match m.mortar with
    | none => s
    | some q =>
      if s.time.tick < q.frame + e.2.period then s
      else
        let s := setSolv s e.1 (publishMortar e.2 (solv s e.1) q m.fallbackVals).1
        setSolv2 s e.1 { m with
          report := some (q.frame, q.outcome), counters := q.counters, warm := q.warm, mortar := none, mortarLate := false }) s

/-- At a tick boundary the standby applies what was complete before it (R339); a shadow reaction of its own takes it to
SYNC unless the active is in OASIS too (R72). -/
def mortarBoundary (s : State) : State :=
  let s := if follows s then adoptOutcomes (applyQueue s) else { s with mortar := { s.mortar with queue := [] } }
  let due := s.mortar.shadowFault
  let s := { s with mortar := { s.mortar with shadowFault := false } }
  if due && shadows s && s.mortar.activeMode != modeCode .oasis then toSync s causeReaction else s

/-- A class 2 frame: the outcome waits for its frame's end (R286); one that comes after its tick is counted (R344). -/
def takeOutcome (s : State) (o : OutcomeMortar) : State :=
  let k := if (solv2 s (64 + o.ctx)).frame = some o.frame then 64 + o.ctx else o.ctx
  match solverDef (theImage s) o.ctx with
  | none => s
  | some d =>
    let m := solv2 s k
    if m.mortar.elim false fun q => decide (o.frame < q.frame) then s
    else setSolv2 s k { m with mortar := some o, mortarLate := decide (o.frame + d.period < s.time.tick + 2) }

/-- The other module's buffer of a rebuild is complete (R247). -/
def partnerTable (s : State) (t : Nat) : State :=
  if (tableSt s t).rebuilding then tableCompletes (setTable s t { tableSt s t with partnerDone := true }) t else s

/-- A frame that the standby receives. A table is complete with the active's buffer and its own, so that both modules swap at
the same sample (R247, R248). A press that is a safety reset acts in the tick after its application boundary
(R84, R392); a STEP acts at the boundary of the active's (R497). -/
def standbyReceive (s : State) (m : Mortar) : State :=
  let queued (s : State) : State := { s with mortar := { s.mortar with queue := s.mortar.queue ++ [m] } }
  match m with
  | .outcome o => takeOutcome s o
  | .step off => { s with time := { s.time with stepDue := some (off, none) } }
  | .tableReady t => partnerTable s t
  | .ack b reset => queued (if reset && evaluates s.md.mode then seeReset s 0 (b + 1) else s)
  | _ => queued s

/-- A frame that a module in control receives from its standby (R84, R201, R247). -/
def activeReceive (s : State) (m : Mortar) : State :=
  match m with
  | .ackForward => if acknowledges s then acceptAck s else s
  | .tableReady t => partnerTable s t
  | .regionReady t =>
    if (ticket s t).status = 3 then setTicket s t { ticket s t with partnerDone := true, runTick := s.time.tick } else s
  | .imageResult p =>
    match s.tickets.find? fun e => e.2.kind == 4 && e.2.status == 3 with
    | some (t, x) => setTicket s t { x with partnerDone := p }
    | none => s
  | _ => s

/-- The mortar class of a frame (Table 10.3). -/
def mortarClass : Mortar → Nat
  | .courseEnd _ _ _ _ _ => 1
  | .outcome _ => 2
  | _ => 3

/-- A frame of a class has come: of those that failed their CRC the oldest of that class has (R343, R344). -/
def frameCame (s : State) (cls : Nat) : State :=
  match s.mortar.awaited.find? fun e => e.1 == cls with
  | some e => { s with mortar := { s.mortar with awaited := s.mortar.awaited.erase e } }
  | none => s

/-- MORTAR_FRAME_RECEIVE (R343): a frame that fails its CRC is counted and comes again; a complete one is taken. -/
def execMortarFrameReceive (crcOk : Bool) (m : Mortar) (at_ : Nat) (s : State) : Host.Outcome State Fault Refusal :=
  .next <|
    if !linkServed s || s.pair.noCommon then s
    else
      let s := setPhase s at_
      if !crcOk then
        let s := pairCount s 6
        { s with mortar := { s.mortar with awaited := s.mortar.awaited ++ [(mortarClass m, s.time.tick)] } }
      else
        let s := frameCame s (mortarClass m)
        if follows s then standbyReceive s m
        else if inControl s then sendChanges (activeReceive s m)
        else s

/-- Limit of a mortar class's staleness (Table 10.4). -/
def staleLimit (s : State) (cls : Nat) : Nat :=
  let q := mortarSel (theImage s)
  [q.staleTick, q.staleCourse, q.staleSolver, q.staleChange].getD cls 0

/-- Ticks since the oldest of some instants. -/
def sinceOldest (s : State) (l : List Nat) : Nat := l.foldl (fun n t => max n (min (s.time.tick - t) 65535)) 0

/-- At a tick boundary a standby measures the staleness of its mortar (R342, R344): of class 0 in ticks without a frame; of
class 1 from the oldest release whose set has not been applied; of class 3 from the oldest frame that failed and has not come
again. Class 2 is counted at the ends of its frames. -/
def staleTickBoundary (s : State) : State :=
  if !follows s then s
  else
    let got := s.mortar.tick.elim false fun f => decide (s.time.tick ≤ f.tick + 1)
    let failed (cls : Nat) : List Nat := (s.mortar.awaited.filter fun e => e.1 == cls).map (·.2)
    let s := setStale s 0 (if got then 0 else min (s.pair.stale.getD 0 0 + 1) 65535)
    let s := setStale s 1 (sinceOldest s (s.mortar.setDue.filterMap (·.2) ++ failed 1))
    setStale s 3 (sinceOldest s (failed 3))

/-- MORTAR_STALE (R344): the staleness of a class is beyond its limit: EV044, and TRACK is left for SYNC. -/
def execMortarStale (cls : Nat) (at_ : Nat) (s : State) : Host.Outcome State Fault Refusal :=
  .next <|
    if !linkServed s || !shadows s || decide (3 < cls) || decide (s.pair.stale.getD cls 0 ≤ staleLimit s cls) then s
    else
      let s := setPhase s at_
      toSync (raise s 44 [w32 cls, w32 (s.pair.stale.getD cls 0)]) causePair

end Sys2Proof.Machine
end

