-- ==== Sys2Proof/Machine/Settings.lean ====
section
/-! DEFINITION. Settings (R119 to R125): writes, declarations and what they do at a tick boundary. -/

namespace Sys2Proof.Machine

/-- Objects of setting values and of the declaration (R121, R123). -/
def settingObj (i : Nat) : W32 := 0x90100000 + w32 i
def declObj : W32 := 0x90010000#32

/-- The code with which a settings write is refused; none when it is accepted (R121, R510). -/
def settingCheck (s : State) (i : Nat) (data : Bytes) : Option Nat :=
  match settingByLow (theImage s) i with
  | none => some rfObject
  | some d =>
    match loopGate s with
    | some x => some x
    | none =>
      let v : W64 := BitVec.ofNat 64 (le data 0 8)
      if data.length ≠ 8 ∨ !rawFits d.type v ∨ rawNonFinite d.type v then some rfRange
      else if !rawLe d.type d.min v ∨ !rawLe d.type v d.max then some rfRange
      else none

/-- An accepted settings write (R121 to R123, R227): the value is in force from the next boundary; a bound parameter
changes with it; with a partner in TRACK it waits for the class 1 mortar frame. The answer is whether it is DONE. -/
def settingAccept (s : State) (o : Origin) (i : Nat) (data : Bytes) : State × Bool :=
  let v : W64 := BitVec.ofNat 64 (le data 0 8)
  let t := s.time.tick
  let waits := partnerTracks s
  let mark (d : Decl) : Decl := { d with written := true }
  let s := { s with
    set := { s.set with
      next := s.set.next ++ [(i, v)], state := 1, written := satAdd 16 s.set.written 1
      waiting := if waits then s.set.waiting ++ [⟨o, i, t⟩] else s.set.waiting
      held := s.set.held.map mark, done := s.set.done.map mark }
    crs := { s.crs with
      settingChanged := if waits then s.crs.settingChanged ++ [(i, v, t)] else s.crs.settingChanged } }
  let s := match settingByLow (theImage s) i with
    | none => s
    | some d =>
      if d.bindCtx = 0xFF then s
      else
        let m := loop2 s d.bindCtx
        setLoop2 s d.bindCtx { m with changes := m.changes ++ [(d.bindOffset, v, t)] }
  (s, !waits)

/-- SETTING_WRITE (R121, R122). -/
def execSettingWrite (r : Req) (index : Nat) (data : Bytes) (s : State) : Host.Outcome State Fault Refusal :=
  .next <| hostCommand s r (settingObj index) fun s =>
    match settingCheck s index data with
    | some x => refuse s r (settingObj index) x
    | none =>
      let (s, done) := settingAccept s (originOf s r) index data
      reply s r (settingObj index) (if done then stDone else stAccepted)

/-! ### Declarations (R123) -/

/-- The settings write is one of the declaration's session. -/
def sameSession (a b : Origin) : Bool := a.session == b.session && a.opening == b.opening

/-- A declaration still waits for a write of its session. -/
def declWaits (s : State) (d : Decl) : Bool :=
  s.set.waiting.any fun w => sameSession w.origin d.origin && d.waits.contains w.origin.seq

/-- A declaration completes (R123): EV006; GENERATION and STATE follow at the next boundary. -/
def declComplete (s : State) (d : Decl) : State := raise { s with set := { s.set with done := s.set.done ++ [d] } } 6

/-- The code with which a declaration is refused (R123). -/
def declCheck (s : State) (generation : W32) : Option Nat :=
  match loopGate s with
  | some x => some x
  | none => if generation = 0 then some rfRange else none

/-- A declaration that its session replaces never completes: REFUSED_BUSY (R123). -/
def replaceHeld (s : State) (o : Origin) : State :=
  let old := s.set.held.filter fun d => sameSession d.origin o
  let s := { s with set := { s.set with held := s.set.held.filter fun d => !sameSession d.origin o } }
  old.foldl (fun s d => complete s d.origin rfBusy) s

/-- An accepted declaration (R123): held while earlier writes of its session have not reported DONE. The answer is whether
it is DONE. -/
def declAccept (s : State) (o : Origin) (generation : W32) : State × Bool :=
  let s := replaceHeld s o
  let ws := (s.set.waiting.filter fun w => sameSession w.origin o).map fun w => w.origin.seq
  let d : Decl := ⟨o, generation, ws, false⟩
  if ws.isEmpty then (declComplete s d, true)
  else ({ s with set := { s.set with held := s.set.held ++ [d] } }, false)

/-- SETTINGS_COMPLETE (R123). -/
def execSettingsComplete (r : Req) (generation : W32) (s : State) : Host.Outcome State Fault Refusal :=
  .next <| hostCommand s r declObj fun s =>
    match declCheck s generation with
    | some x => refuse s r declObj x
    | none =>
      let (s, done) := declAccept s (originOf s r) generation
      reply s r declObj (if done then stDone else stAccepted)

/-- SETTINGS_DECLARATION_DONE (R123): the held declaration of a session completes once its earlier writes report DONE. -/
def execSettingsDeclarationDone (session : Nat) (s : State) : Host.Outcome State Fault Refusal :=
  .next <|
    match s.set.held.find? fun d => d.origin.session == session && !declWaits s d with
    | none => s
    | some d =>
      let s := { s with set := { s.set with held := s.set.held.erase d } }
      complete (declComplete s d) d.origin stDone

/-- Settings at a tick boundary (R121, R123): accepted values come into force, completed declarations set GENERATION and
STATE. -/
def settingsBoundary (s : State) : State :=
  let values := s.set.next.foldl (fun (t : Tab W64) e => tset t e.1 e.2) s.set.values
  let (st, g) := s.set.done.foldl (fun (_ : Nat × W32) d => (if d.written then 1 else 2, d.generation))
    (s.set.state, s.set.generation)
  { s with set := { s.set with values := values, next := [], done := [], state := st, generation := g } }

/-- Without a partner in TRACK nothing waits for a mortar frame: what waited reports DONE (R122, R163). -/
def waitsAlone (s : State) : State :=
  if partnerTracks s || (s.set.waiting.isEmpty && s.crs.mirageWaits.isEmpty) then s
  else
    let os := s.set.waiting.map (·.origin) ++ s.crs.mirageWaits.map (·.origin)
    let s := { s with
      set := { s.set with waiting := [] }
      crs := { s.crs with mirageWaits := [], mirageChanged := [], settingChanged := [] } }
    os.foldl (fun s o => complete s o stDone) s

end Sys2Proof.Machine
end

