-- ==== Sys2Proof/Machine/Pair.lean ====
section
/-! DEFINITION. The pair (chapter 10): partner reports, the Cerhar link, abdication detected, takeover, role swap, rehearsal,
and a pair's forming. -/

namespace Sys2Proof.Machine

/-- The partner's slot (Table 10.1). -/
def partnerSlot (s : State) : Nat := 3 - s.md.slot

/-! ### Partner reports (R59, R61, R334, R354) -/

/-- Whole days since this module's last rehearsal, 0xFFFF without a record (R359). -/
def ownDays (s : State) : Nat :=
  match s.ev.rehearsed with
  | none => 0xFFFF
  | some t => min ((vtime s - t) / (86400 * 10 ^ 9)) 0xFFFE

/-- The STATUS frame of this tick (R334), on both lanes: the token lines as the module has sampled them. -/
def sendStatus (s : State) : State :=
  if !linkServed s then s
  else sendLink s 1 (min (Config.frameBytes 1) frameMax) (.status {
    tick := s.time.tick, mode := modeCode s.md.mode, role := roleCode s.md.role
    ownToken := s.pair.ownToken, otherToken := s.pair.partnerToken, cause := s.pair.cause
    tiles := w32 (tileWord s), staleness := s.pair.stale, rehearsalDays := ownDays s
    digest := hdrDigest (theImage s).header })

/-- The partner first reports SYNC: a SOLO module becomes ACTIVE at the next boundary, EV034 (R61). -/
def firstSync (s : State) : State :=
  let solo := s.md.role == .solo || s.pair.roleDue == some .solo
  if solo && s.md.token && s.md.mode != .halt && s.pair.roleDue != some .active then
    raise { s with pair := { s.pair with roleDue := if s.md.role = .active then none else some .active } } 34
  else s

/-- The abdication cause that a STATUS frame carries, for the record of the last abdication seen (Table 10.13). -/
def seeCause (s : State) (f : StatusFrame) : State :=
  let before := (s.pair.status.map (·.cause)).getD 0
  if s.md.role == .standby && f.cause ≠ 0 && before = 0 && s.pair.abdicate.isNone then
    { s with pair := { s.pair with lastAbd := (s.time.tick, f.cause, partnerSlot s) } }
  else s

/-- A frame that reports the partner holding the token with no cause, between the detection of its release and the end of
the tick of the takeover, makes the takeover one of the wiring row: at the second, EV040 and WIRING_FAULT (Table 10.9). -/
def wiringFrame (s : State) : State :=
  let n := s.pair.wiringFrames + 1
  let s := { s with pair := { s.pair with wiringFrames := n } }
  if n = 2 ∧ s.pair.detected.isNone then
    raise { s with pair := { s.pair with wiringFault := true } } 40 [w32 (partnerSlot s)]
  else s

/-- The window in which the wiring row of Table 10.9 counts reports of a held token: from the detection to the end of the
tick of the takeover. -/
def wiringWindow (s : State) : Bool := s.pair.detected.isSome || s.pair.watchFrom == some s.time.tick

/-- STATUS_FRAME_RECEIVE (R334): the partner report; two tokens held at once are a token conflict (R354). -/
def execStatusFrameReceive (lane : Nat) (f : StatusFrame) (at_ : Nat) (s : State) : Host.Outcome State Fault Refusal :=
  .next <|
    if !linkServed s || decide (1 < lane) then s
    else
      let s := seeCause (setPhase s at_) f
      let l := s.pair.lanes.getD lane {}
      let shadow := decide (f.mode = 3 ∨ f.mode = 4)
      let s := { s with pair := { s.pair with
        lanes := lset s.pair.lanes lane { l with lastTick := s.time.tick, state := if l.state = 0 then 1 else l.state }
        status := some f, statusTick := s.time.tick, report := true, partnerDays := f.rehearsalDays
        shadowTick := if shadow then some s.time.tick else s.pair.shadowTick } }
      let s := if shadow then firstSync s else s
      if f.ownToken && wiringWindow s then (if f.cause = 0 then wiringFrame s else s)
      else if f.ownToken && s.md.token then abdicate (raise s 52) 7
      else s

/-- A report of SYNC or TRACK that is 8 ticks old lapses (R59): an ACTIVE module becomes SOLO at the next boundary, EV033. -/
def shadowLapse (s : State) : State :=
  let lapsed := s.pair.shadowTick.elim true fun t => decide (t + 8 ≤ s.time.tick)
  if !lapsed then s
  else
    let s := { s with pair := { s.pair with shadowTick := none } }
    let active := s.md.role == .active || s.pair.roleDue == some .active
    if active && s.pair.roleDue != some .solo && s.md.mode != .halt then
      raise { s with pair := { s.pair with roleDue := if s.md.role = .active then some .solo else none } } 33
    else s

/-- PARTNER_REPORT_LAPSE (R61). -/
def execPartnerReportLapse (s : State) : Host.Outcome State Fault Refusal :=
  .next <|
    if !linkServed s then s
    else
      let s := if s.pair.statusTick + 8 ≤ s.time.tick then { s with pair := { s.pair with report := false } } else s
      sendChanges (shadowLapse s)

/-- At a tick boundary the role that is due is taken (R61); the mode stays. SYNC as SOLO resolves to OASIS (Table 02.3),
which the transition that waits brings: EV010. A module of a twin base in HALT is STANDBY while its partner is live (R59). -/
def roleBoundary (s : State) : State :=
  let due := s.pair.roleDue
  let s := { s with pair := { s.pair with roleDue := none } }
  if !onTwin s then s
  else if s.md.mode = .halt then { s with md := { s.md with role := haltRole s } }
  else match due with
    | some .active => settle { s with md := { s.md with role := .active } }
    | some .solo =>
      let new := s.md.role == .standby
      let s := settle { s with md := { s.md with role := .solo, token := true } }
      let s := if s.md.mode = .sync then
        let mir := !s.crs.mirages.isEmpty
        raiseCombo s .sync .oasis .solo .solo false false mir mir else s
      if new then announceRole s else s
    | _ => s

/-! ### Abdication of the partner (R351, R353) -/

/-- ABDICATE_FRAME_RECEIVE (R351). -/
def execAbdicateFrameReceive (cause : Nat) (at_ : Nat) (s : State) : Host.Outcome State Fault Refusal :=
  .next <|
    if !linkServed s then s
    else
      let s := setPhase s at_
      let seen := if s.md.role = .standby then (s.time.tick, cause, partnerSlot s) else s.pair.lastAbd
      { s with pair := { s.pair with abdicate := some cause, lastAbd := seen } }

/-- What the samples of R335 tell at an instant: the partner's line released at this sample, and for the two-sample path at
the one before it too. The sample of phase 62.5 µs is the command's own; the state holds the ones before it. -/
def lineReleased (s : State) (oneSample : Bool) (at_ : Nat) : Bool :=
  let before := if at_ < 62500 then s.pair.partnerHalf else s.pair.partnerToken
  (62500 ≤ at_ || !s.pair.partnerToken) && (if oneSample then s.pair.abdicate.isSome else !before)

/-- ABDICATION_DETECTED (R351, R353): in TRACK the takeover follows at the next boundary; in SYNC, OASIS as SOLO. The ledger
continues from here (R556). -/
def execAbdicationDetected (oneSample : Bool) (at_ : Nat) (s : State) : Host.Outcome State Fault Refusal :=
  .next <|
    if !linkServed s || !follows s || s.pair.detected.isSome || !lineReleased s oneSample at_ then s
    else
      let s := setPhase s at_
      let cause := s.pair.abdicate.getD ((s.pair.status.map (·.cause)).getD 0)
      let s := ledgerCarry { s with
        pair := { s.pair with
          partnerToken := false, oneSample := oneSample, wiringFrames := 0
          lastAbd := if s.pair.abdicate.isSome then s.pair.lastAbd
            else (s.time.tick, if cause = 0 then 8 else cause, partnerSlot s) }
        md := { s.md with swapAt := none } }
      if shadows s then { s with pair := { s.pair with detected := some s.time.tick } }
      else { s with
        pair := { s.pair with roleDue := some .solo }
        md := { s.md with trans := s.md.trans ++ [⟨3, .oasis, causePair, none, 0⟩] } }

/-! ### Takeover (R345, R346, R352, Table 10.7) -/

/-- Brick data: selected ranges as last mortared, all else INIT (Table 10.7), or as a DONE update has left it (R201). -/
def takeoverData (s : State) : State :=
  let s := (s.pair.updated.filter fun e => e.1 == 3).foldl (fun s e => putData s e.2.1 0 e.2.2)
    { s with crs := { s.crs with data := [] } }
  s.mortar.courseData.foldl (fun s e => putData s e.1 e.2.1 e.2.2) s

/-- The output image is that of the last complete tick frame (Table 10.7). -/
def takeoverOutputs (s : State) : State :=
  let put (t : Tab OutCell) (e : Nat × W64) : Tab OutCell :=
    let off := (ioEntry (theImage s) e.1).elim false fun d => offValue d == e.2
    tset t e.1 ⟨e.2, (tget ({} : OutCell) t e.1).released || !off⟩
  { s with crs := { s.crs with
      out := s.mortar.outputs.foldl put s.crs.out
      committed := s.mortar.outputs.foldl (fun t e => tset t e.1 e.2) s.crs.committed } }

/-- Region updates that are not DONE report FAILED with REASON 5; those that were DONE on the active hold (R201). -/
def failTickets (s : State) : State :=
  s.tickets.foldl (fun s e =>
    if e.2.status = 1 ∨ e.2.status = 2 ∨ (e.2.status = 3 ∧ !e.2.committed) then ticketEnd (dropRegion s e.2) e.1 7 5 else s) s

/-- The new module's servo (R497): LOCKED when its monitored offset lies within JUMP_NS, else HOLDOVER with JUMP; FREE
without a measurement. -/
def takeoverServo (s : State) : State :=
  match s.time.monitor with
  | none => { s with time := { s.time with servo := 4 } }
  | some o =>
    if o.natAbs ≤ (netNow s).jumpNs then { s with time := { s.time with servo := 1, everLocked := true } }
    else
      let s := enterHoldover s 3
      raise { s with time := { s.time with jump := true, refused := o, ignored := some s.time.gm, rejected := false } } 234
        (wOffset o ++ w64 s.time.gm.toNat)

/-- Courses at a takeover (R346): no activation is in progress, and each course's first one is TAKEOVER_FIRST_SCAN. -/
def takeoverCourses (s : State) : State :=
  let s := abandonCourses s
  { s with crs := { s.crs with c := s.crs.c.map fun e => (e.1, { e.2 with takeoverDue := true, endLate := false }) } }

/-- The window of an exchange at a takeover (R195): abandoned before the swap; after it, the next base scan decides. -/
def takeoverWindow (s : State) : State :=
  if s.exch.state ≠ 4 then s
  else if s.exch.swapped then { s with exch := { s.exch with phase := 4 } }
  else exchAbandon s 13

/-- The mode after a takeover (R66). -/
def takeoverMode (s : State) : Mode :=
  match modeOfCode s.mortar.activeMode with
  | .hold => .run
  | .change => if s.exch.state = 4 ∧ s.exch.swapped then .change else s.md.beforeChange
  | m => m

/-- The module takes control at a boundary: outputs, CAN, role address, the watch for latent faults (R358, R476, R484). -/
def takeControl (s : State) (takeover : Bool) : State :=
  let s := settle (if takeover then s else ledgerTake s)
  let s := canTake s takeover
  let s := if takeover then announceRole s else s
  takeoverServo { s with
    pair := { s.pair with watchFrom := some s.time.tick, watchFault := false, rehearsing := !takeover }
    mortar := { s.mortar with sent := {}, queue := [], shadowFault := false } }

/-- TAKEOVER (R352) at the first boundary after the detection. -/
def execTakeover (s : State) : Host.Outcome State Fault Refusal :=
  .next <|
    if !linkServed s || !shadows s || !(s.pair.detected.elim false fun t => decide (t < s.time.tick)) then s
    else
      let s := setPhase s 0
      let wiring := decide (2 ≤ s.pair.wiringFrames)
      let held := s.mortar.activeMode = modeCode .hold
      let s := raise s 39 [Config.detectionPathCode s.pair.oneSample, w32 (s.pair.abdicate.getD 0)]
      let s := { s with
        md := { s.md with role := .solo, token := true, swapAt := none }
        pair := { s.pair with
          ownToken := true, detected := none, abdicate := none, counters := bump s.pair.counters 0
          wiringFault := s.pair.wiringFault || wiring } }
      let s := if wiring then raise s 40 [w32 (partnerSlot s)] else s
      let s := takeoverWindow (injectionSetOff s)
      let s := if held then raise s 36 else s
      let s := takeoverCourses s
      let s := s.mortar.loops.foldl (fun s e => takeLoop s e.2) s
      let s := failTickets (takeoverOutputs (takeoverData s))
      let s := changeMode s (takeoverMode s) causePair
      sendStatus (takeControl s true)

/-! ### Role swap (R69, R355, R357) -/

/-- A pending swap whose conditions do not hold at its tick does not take place; its command, or the reset request that
made it, reports REFUSED_MODE (R67, R69). -/
def refuseSwap (s : State) : State :=
  let reset := s.md.swapReset
  let s := voidSwap s
  if !reset then s
  else
    let o := s.md.cmd.map (·.origin)
    completeOpt { s with md := { s.md with cmd := none } } o rfMode

/-- The old ACTIVE at the swap tick: STANDBY in SYNC (R69); its sessions to the role address end (R79). -/
def swapAway (s : State) : State :=
  let cmd := s.md.swapCmd
  let reset := s.md.swapReset
  let mode := s.md.mode
  let s := endSessions s fun _ x => x.role
  let s := dropWaits (settingsRoleLost (failTickets s))
  let s := canYield s
  let s := { s with
    panel2 := { s.panel2 with releasing := s.panel.driving }
    md := { s.md with role := .standby, token := false, swapAt := none, swapReset := false, swapCmd := none }
    mortar := { s.mortar with activeMode := modeCode mode, loops := [], courseData := [], outputs := [], tick := none }
    field := { s.field with overlap := some s.time.tick }
    pair := { s.pair with counters := bump s.pair.counters 2, watchFrom := none, shadowTick := none, roleDue := none } }
  let s := settle (toSync s causePair)
  let s := completeOpt s cmd stDone
  if reset then { s with md := { s.md with resetAt := some (s.time.tick + 2) } } else s

/-- The new ACTIVE at the swap tick: it keeps the mode of the old one (R69). -/
def swapIn (s : State) : State :=
  let s := { s with
    md := { s.md with role := .active, token := true, swapAt := none }
    field := { s.field with overlap := some s.time.tick }
    pair := { s.pair with counters := bump s.pair.counters 2, shadowTick := some s.time.tick, roleDue := none } }
  takeControl (changeMode (failTickets (injectionSetOff s)) (modeOfCode s.mortar.activeMode) causePair) false

/-- ROLE_SWAP_TICK (R357). -/
def execRoleSwapTick (s : State) : Host.Outcome State Fault Refusal :=
  .next <|
    if !linkServed s || !(s.md.swapAt.elim false fun t => decide (t ≤ s.time.tick)) then s
    else
      let s := setPhase s 0
      match s.md.role with
      | .active => sendChanges (if swapMode s.md.mode && partnerTracks s then swapAway s else refuseSwap s)
      | .standby => if s.md.mode = .track then swapIn s else { s with md := { s.md with swapAt := none } }
      | .solo => sendChanges (refuseSwap s)

/-! ### Latent faults and rehearsal (R358, R359) -/

/-- LATENT_FAULT_WINDOW_END (R358, R359): 8,000 ticks driven without an EV047 complete the rehearsal that a role swap was, EV049. -/
def execLatentFaultWindowEnd (s : State) : Host.Outcome State Fault Refusal :=
  .next <|
    match s.pair.watchFrom with
    | none => s
    | some t =>
      if s.time.tick < t + 8000 then s
      else
        let ok := drives s && s.pair.rehearsing && !s.pair.watchFault
        let s := { s with pair := { s.pair with watchFrom := none, watchFault := false } }
        if ok then
          raise { s with ev := { s.ev with rehearsed := some (vtime s) } } 49 [Config.argCode 49 0]
        else s

/-- REHEARSAL_OVERDUE (R359): the ACTIVE raises EV048 once per day. -/
def execRehearsalOverdue (s : State) : Host.Outcome State Fault Refusal :=
  .next <|
    let lim := (mortarSel (theImage s)).rehearsalDays
    let days := if lim < ownDays s then ownDays s else s.pair.partnerDays
    let again := s.pair.overdueAt.elim true fun t => decide (t + 691200000 ≤ s.time.tick)
    if s.md.role == .active && lim != 0 && decide (lim < days) && again then
      raise { s with pair := { s.pair with overdueAt := some s.time.tick } } 48 [w32 days]
    else s

/-! ### The Cerhar link (R338, R364) -/

/-- A lane goes down (R338): EV042, and what waits on it moves to the other; with both lanes down the link is lost: EV041, and
a STANDBY in TRACK goes to SYNC. -/
def laneLost (s : State) (lane : Nat) : State :=
  let l := s.pair.lanes.getD lane {}
  let s := pairCount { s with pair := { s.pair with lanes := lset s.pair.lanes lane { l with state := 0, run := 0 } } } 4
  let s := laneMove (raise s 42 [w32 lane]) lane
  if !linkLost s then s
  else
    let last := s.pair.lanes.foldl (fun m l => max m l.lastTick) 0
    let s := raise (pairCount s 3) 41 (w64 last)
    let s := { s with pair := { s.pair with bulk := none } }
    if shadows s then toSync s causePair else s

/-- LANE_DOWN (R338): the receiver of a lane has lost lock. -/
def execLaneDown (lane at_ : Nat) (s : State) : Host.Outcome State Fault Refusal :=
  .next <|
    if !linkServed s || decide (1 < lane) || (s.pair.lanes.getD lane {}).state != 2 then s else laneLost (setPhase s at_) lane

/-- A lane at a tick boundary (R338): the ticks in a row that have delivered a frame are counted, and a lane that has delivered
none for 4 ticks is down. -/
def laneTick (s : State) (lane : Nat) : State :=
  let l := s.pair.lanes.getD lane {}
  let run := if l.lastTick + 1 = s.time.tick then l.run + 1 else if l.lastTick = s.time.tick then l.run else 0
  let s := { s with pair := { s.pair with lanes := lset s.pair.lanes lane { l with run := run } } }
  if l.state = 2 ∧ l.lastTick + 4 < s.time.tick then laneLost s lane else s

/-- Both lanes at a tick boundary. -/
def lanesTick (s : State) : State := if linkServed s then laneTick (laneTick s 0) 1 else s

/-- LANE_UP (R338, R364): a lane that has delivered valid frames in 80 ticks in a row is up, EV043; with the first, the link,
and the module sends the versions that it supports. -/
def execLaneUp (lane at_ : Nat) (s : State) : Host.Outcome State Fault Refusal :=
  .next <|
    let l := s.pair.lanes.getD lane {}
    if !linkServed s || decide (1 < lane) || l.state == 2 || decide (l.run < 80) then s
    else
      let down := linkLost s
      let s := setPhase s at_
      let s := raise { s with pair := { s.pair with
          lanes := lset s.pair.lanes lane { l with state := 2, lastTick := s.time.tick } } } 43 [w32 lane]
      if down then sendLink s 1 (min (Config.frameBytes 7) frameMax) (.versions Config.lvRange Config.mfList) else s

/-- The highest of the mortar formats that both support (R364). -/
def commonMf (theirs : List (Nat × Nat)) : Option (Nat × Nat) :=
  (Config.mfList.filter theirs.contains).foldl (fun m x => match m with
    | none => some x
    | some y => if y.1 < x.1 ∨ (y.1 = x.1 ∧ y.2 < x.2) then some x else some y) none

/-- LINK_UP_NEGOTIATION (R364): the highest versions that both support, EV051; without any the link carries only STATUS
frames, and the module that is in LOAD stays there with EV050. -/
def execLinkUpNegotiation (lvLow lvHigh : Nat) (mf : List (Nat × Nat)) (missing : W32) (at_ : Nat) (s : State) :
    Host.Outcome State Fault Refusal :=
  .next <|
    if !linkServed s then s
    else
      let s := setPhase s at_
      let (ol, oh) := Config.lvRange
      let lv := min oh lvHigh
      match commonMf mf with
      | some m =>
        if max ol lvLow ≤ lv then
          raise { s with pair := { s.pair with lv := lv, mf := m, missing := missing, noCommon := false } } 51
            [w32 lv, w32 (256 * m.1 + m.2), missing]
        else noVersions s ol oh
      | none => noVersions s ol oh
where
  noVersions (s : State) (ol oh : Nat) : State :=
    let s := { s with pair := { s.pair with noCommon := true, lv := 0, mf := (0, 0), missing := 0 } }
    if s.md.mode = .load then raise s 50 [w32 ol, w32 oh, w32 lvLow, w32 lvHigh] else s

/-! ### Forming (R360 to R362, R497) -/

/-- A publication with its warm-start data, as the bulk copy carries it (R361). -/
def bulkOutcome (s : State) (c : Nat) : OutcomeMortar :=
  let x := solv s c
  let m := solv2 s c
  { ctx := c, frame := x.frameTick, outcome := (m.report.map (·.2)).getD (heldOutcome x.status x.cause)
    consecHeld := x.consecHeld, freshCount := x.freshCount, fallback := x.fallback, staleTags := x.staleTags, age := x.age
    goodX := x.goodX, goodMult := x.goodMult, goodObjective := x.goodObjective, goodTick := x.goodTick
    counters := m.counters, warm := m.warm }

/-- A course's set in the bulk copy: its last one, with that one's number. -/
def bulkSet (s : State) (c : Nat) (settings : List (Nat × W64)) (mirages : List (Nat × Option MirageCmd)) : Mortar :=
  .courseEnd c (tget 0 s.mortar.sentSets c) (selectedData s c) settings mirages

/-- The courses of the image, the base course last. -/
def imageCourses (s : State) : List Nat := (((recsOf (theImage s) 4).map (·.1)).filter (· != 0)) ++ [0]

/-- The active's part of the bulk copy (R361), at order 6: all class 3 state, every course's selected data, settings and
mirages, every publication with its warm-start data, and what region updates have changed since LOAD. -/
def sendBulk (s : State) : State :=
  let put := sendMortarAt 6
  let s := sendItems 6 { s with mortar := { s.mortar with sent := {} } }
  let s := put s (.pixels s.panel2.unacked s.panel2.acked)
  let s := put s (.untrusted s.panel.untrusted)
  let s := s.tickets.foldl (fun s e => put s (.region e.1 e.2.status e.2.kind e.2.index e.2.reason)) s
  let s := (solverDefs (theImage s)).foldl (fun s e => put s (.outcome (bulkOutcome s e.1))) s
  let s := s.pair.updated.foldl (fun s e => put s (.content e.1 e.2.1 e.2.2)) s
  (imageCourses s).foldl (fun s c => put s (bulkSet s c (if c = 0 then s.set.values else [])
    (if c = 0 then s.crs.mirages.map fun e => (e.1, mirageCmd s e.1) else []))) s

/-- The standby's tick counter and time become the active's (R497), from the last STATUS frame and what has passed since. -/
def followClock (s : State) : State :=
  match s.pair.status with
  | none => s
  | some f => setClock s ((f.tick + (s.time.tick - s.pair.statusTick)) * tickNs) s.time.phase

/-- BULK_COPY_START (R361): the active raises EV045 and sends; the standby, at the start of SYNC, takes the active's time. -/
def execBulkCopyStart (bytes : Nat) (at_ : Nat) (s : State) : Host.Outcome State Fault Refusal :=
  .next <|
    if !linkServed s || linkLost s || s.pair.noCommon then s
    else if s.md.role = .active ∧ partnerIn s [.sync] then
      let s := raise (setPhase s at_) 45 [w32 bytes]
      sendBulk { s with pair := { s.pair with bulk := some bytes } }
    else if s.md.role = .standby ∧ s.md.mode = .sync then
      let s := followClock (setPhase s at_)
      { s with
        pair := { s.pair with bulk := some bytes }
        mortar := { s.mortar with
          activeMode := (s.pair.status.map (·.mode)).getD s.mortar.activeMode
          nextSet := [], setDue := [], awaited := [] } }
    else s

/-- Every part of the bulk copy has arrived (R361, R362): a tick frame, the set of each course, each publication. -/
def bulkArrived (s : State) : Bool :=
  s.pair.bulk.isSome && s.mortar.tick.isSome && ((imageCourses s).all fun c => (tfind s.mortar.nextSet c).isSome)
    && (solverDefs (theImage s)).all fun e => (solv2 s e.1).mortar.isSome || (solv2 s e.1).report.isSome

/-- TRACK_REACHED (R362): every bulk part has arrived and every class is current; EV046. -/
def execTrackReached (at_ : Nat) (s : State) : Host.Outcome State Fault Refusal :=
  .next <|
    let current := (List.range 4).all fun k => decide (s.pair.stale.getD k 0 ≤ staleLimit s k)
    if !linkServed s || linkLost s || s.md.role != .standby || s.md.mode != .sync || !bulkArrived s || !current then s
    else
      let s := setPhase s at_
      let ticks := s.time.tick - s.pair.syncTick
      let s := changeMode { s with pair := { s.pair with bulk := none } } .track causePair
      let s := if s.exch.state = 4 then changeMode s .change causeExchange else s
      raise s 46 [w32 ticks]

/-! ### Firmware (R365) -/

/-- FIRMWARE_LOAD (R365): over the service port; the stage is stored, and the module restarts where Table 02.2 lets it enter
KILN. Elsewhere the stage serves from the next start on (DESIGN CHOICE, assumption 78). -/
def execFirmwareLoad (stage : Nat) (code : Bytes) (signed : Bool) (version : W32) (s : State) :
    Host.Outcome State Fault Refusal :=
  .next <|
    if !s.md.powered || !ifaceAnswers s 1 || !(s.net.lan.getD 2 {}).up || decide (stage = 0 ∨ 6 < stage) then s
    else
      let s := { s with kiln := { s.kiln with fw := tset s.kiln.fw stage ⟨code, signed, version⟩ } }
      if resetOutcome s = .kiln then enterKiln s else s

end Sys2Proof.Machine
end

