-- ==== Sys2Proof/Machine/Commit.lean ====
section
/-! DEFINITION. The output commit of phase 105 µs (R42): the layers of R31 and R161, oasis values (R427, R595), the
terminals of the onboard outputs (R428), ring and CAN outputs, and what changes hands at a role swap (R357). -/

namespace Sys2Proof.Machine

/-! ### The layers of an output (R31, R161) -/

/-- The program's value of output n at this commit; none where an oasis value stands in its place: in a mode of oasis
values, before the first base scan after START has ended (R142), before the first release (R595), without a writer after an
exchange (R183). -/
def programValue (s : State) (n : Nat) : Option W64 :=
  let c := tget ({} : OutCell) s.crs.out n
  if oasisNow s n || !c.released then none else some c.value

/-- The output mirage on output n: it reaches terminals in the modes whose outputs come from the program (R161). -/
def mirageValue (s : State) (n : Nat) : Option W64 :=
  if programMode s then
    (s.crs.mirages.find? fun e => e.2.kind == 1 && e.2.index == n && !e.2.suspended).map (·.2.value)
  else none

/-- The safety override of output n (R49, R386), as a raw value of its type. Of two axes that override one output, the
lower-numbered one's value stands: the spec neither forbids the pair nor says which wins (DESIGN CHOICE, assumption 80). -/
def overrideValue (s : State) (n : Nat) (e : IoEntry) : Option W64 :=
  ((overrides s).find? fun o => o.1 == n).map fun o => if tyReal e.ty then rawOfF64 e.ty o.2 else Config.loopRaw e.ty o.2

/-- What the commit applies to an output: the safety override, else the mirage, else the program's value, else the oasis
value. -/
def commitValue (s : State) (n : Nat) (e : IoEntry) : Applied :=
  match overrideValue s n e, mirageValue s n, programValue s n with
  | some v, _, _ => .value v
  | none, some v, _ => .value v
  | none, none, some v => .value v
  | none, none, none => oasisApplied s n e

/-- Every output with what the commit applies to it. -/
def commitValues (s : State) : List (Nat × IoEntry × Applied) :=
  ((ioNum (theImage s)).filter fun e => e.2.output).map fun e => (e.1, e.2, commitValue s e.1 e.2)

/-! ### What the rest of the module keeps of a commit -/

/-- The commit as courses, loops and solver see it: values applied, program values for a later hold, contexts overridden,
and what waits for a commit (R42, R45, R219, R284, R286). -/
def keepCommit (s : State) (vals : List (Nat × IoEntry × Applied)) : State :=
  let s := { s with
    crs := { s.crs with
      committed := vals.foldl (fun t v => tset t v.1 (appliedRaw v.2.1 v.2.2)) s.crs.committed
      held := vals.foldl (fun t v => (programValue s v.1).elim t fun x => tset t v.1 x) s.crs.held }
    loops := { s.loops with override := overrides s } }
  sendOutcomes (keepFallbacks (markOverrides s))

/-! ### The terminals (R428) -/

/-- What the field controller puts on an onboard output's terminal: 0 or 1 of a digital output, the commanded current of
an analogue one (R420). A digital output that is off does not switch on while its field feed is low (R411). -/
def terminalValue (s : State) (n : Nat) (e : IoEntry) (a : Applied) : W64 :=
  match kkOf e with
  | none => 0
  | some kk =>
    if s.field.fault then 0
    else match trimTarget s kk with
      | some i => i
      | none =>
        let c := chan s kk
        if s.field.silence then tget 0 s.field.terminal n
        else if c.tripped || c.latched then 0
        else match driveTarget e a with
          | none => 0
          | some t =>
            if e.kind = 8 then trimmed (theImage s) kk t
            else if feedLow s kk && tget 0 s.field.terminal n == 0 then 0 else 1

/-- A refresh that reaches the field controller in STOP ends logic silence (R429). -/
def endSilence (s : State) : State :=
  if s.field.silence && s.md.mode == .stop then
    { s with field := { s.field with silence := false, ch := s.field.ch.map fun e => (e.1, { e.2 with silence := false }) } }
  else s

/-- At the swap tick the new active closes its digital switches at the values of the old active's last commit (R357). -/
def overlapValue (s : State) (n : Nat) (e : IoEntry) (a : Applied) : Applied :=
  if s.field.overlap = some s.time.tick ∧ e.kind ≠ 8 then
    ((s.mortar.outputs.find? fun o => o.1 == n).map fun o => Applied.value o.2).getD a
  else a

/-- The onboard outputs at a commit of a module that drives them: one refresh of the field controller (R42, R429). -/
def driveOnboard (s : State) (vals : List (Nat × IoEntry × Applied)) : State :=
  let s := endSilence s
  let outs := (vals.filter fun v => onboard v.2.1).map fun v => (v.1, v.2.1, overlapValue s v.1 v.2.1 v.2.2)
  let term := outs.foldl (fun t v => tset t v.1 (terminalValue s v.1 v.2.1 v.2.2)) s.field.terminal
  let s := outs.foldl (fun s v => commitChan s v.2.1 v.2.2) s
  { s with field := { s.field with
      terminal := term, refreshed := true, lastRefresh := s.time.tick
      overlap := s.field.overlap.filter fun t => t == s.time.tick } }

/-- A module that drives nothing releases every stage (R331); the old active of a role swap keeps its digital outputs until
the commit of the tick after the swap (R357). -/
def releaseOnboard (s : State) : State :=
  if s.field.overlap = some s.time.tick ∧ !inControl s then
    let digital (n : Nat) : Bool := (ioEntry (theImage s) n).elim false fun e => e.kind != 8
    { s with field := { s.field with
        terminal := s.field.terminal.filter fun e => digital e.1
        ch := s.field.ch.map fun e => (e.1, { e.2 with targets := if e.1 < 0x30 then e.2.targets else [] }) } }
  else releaseStages { s with field := { s.field with terminal := [], refreshed := false, overlap := none } }

/-! ### The tick frame (R342) -/

/-- Mortar bytes of the closing segment (Table 10.6): frame overhead, the onboard output image, every ring output I/O module,
and the annunciator's ledger where a map is present. -/
def tickBytes (s : State) : Nat :=
  ((stations (theImage s)).flatMap (·.mods)).foldl (fun n m => if m.outBytes = 0 then n else n + 8 + m.outBytes)
    (64 + 96 + if s.panel2.map.isEmpty then 0 else 1920)

/-- What the tick frame of this tick carries (Table 10.3). -/
def tickFrame (s : State) (outputs : List (Nat × W64)) : TickMortar :=
  let due := (loopDefs (theImage s)).filter fun e => (loop2 s e.1).sampled && (loop2 s e.1).lastTick == s.time.tick
  { tick := s.time.tick, loops := due.map fun e => loopMortar s e.1, outputs := outputs, ledger := ledgerNow s
    band := s.panel.band, bias := s.panel.bias, panel := panelPosition s
    exch := if s.exch.swapped && s.exch.switchTick == s.time.tick then 1
      else if s.exch.state == 6 && s.exch.backTick == some s.time.tick then 2 else 0
    closes := true }

/-- The output image, the ledger and the closing segment of the tick frame leave before phase 105 µs (R39, R342). After a role
swap the old active tells its ledger until it has released the panel (R557). -/
def sendTick (s : State) (outputs : List (Nat × W64)) : State :=
  let old := s.md.role == .standby && onTwin s && (s.panel2.releasing || s.panel2.releasedAt == some s.time.tick)
  if sendsTick s then sendLink s 3 (tickBytes s) (.tickMortar (tickFrame s outputs))
  else if old then sendLink s 3 (tickBytes s) (.tickMortar { tickFrame s [] with loops := [] })
  else s

/-- The commit is taken: by a module that drives, and by a standby in shadow (R42, R72). -/
def commits (s : State) : Bool := drives s || s.md.mode == .track || s.md.mode == .change

/-- OUTPUT_COMMIT (R42). -/
def execOutputCommit (s : State) : Host.Outcome State Fault Refusal :=
  .next <|
    if !s.md.powered || !s.md.ticking then s
    else
      let s := takeLate (setPhase s 105000)
      let vals := if commits s then commitValues s else []
      let raws := vals.map fun v => (v.1, v.2.1, appliedRaw v.2.1 v.2.2)
      let s := if commits s then keepCommit s vals else s
      let s := { s with safe := { s.safe with permits := if drives s then permitContainers s else [] } }
      let s := if drives s then canSlotQueue (ringQueue (driveOnboard s vals) raws) raws else releaseOnboard s
      sendChanges (sendTick s (raws.map fun v => (v.1, v.2.2)))

end Sys2Proof.Machine
end

