-- ==== Sys2Proof/Machine/Field.lean ====
section
/-! DEFINITION. The commands of the onboard field channels (chapter 12). -/

namespace Sys2Proof.Machine

/-- The kind 4 entry of a digital output. -/
def doEntry (s : State) (kk : Nat) : Option IoEntry := (ioByKind (theImage s) kk [4]).map (·.2)

/-- The field controller serves its channels in every mode from LOAD onward (R405). -/
def fieldRuns (s : State) : Bool := s.md.powered && s.md.mode != .kiln

/-- One event stamp enters the buffer in the order of stamps, equal stamps by channel (R406). -/
def soeInsert (r : SoeRec) : List SoeRec → List SoeRec
  | [] => [r]
  | x :: l => if r.time < x.time ∨ (r.time = x.time ∧ r.channel < x.channel) then r :: x :: l else x :: soeInsert r l

/-- A change of filtered state is stamped: minus the 10 ns of C20 (R38), minus FILTER and minus the typical stage delay, to whole
µs (R405). -/
def stampOf (e : IoEntry) (changedNs : Nat) : Nat := (changedNs - 10 - e.filter * 1000 - 1500) / 1000 * 1000

/-- The oldest record is overwritten when the buffer is full; EV206 at the first one that an open session has not read. -/
def soePush (s : State) (r : SoeRec) : State :=
  let b := soeInsert r s.field.soe
  if b.length ≤ 8192 then { s with field := { s.field with soe := b, soeSeq := s.field.soeSeq + 1 } }
  else
    let unread := match b with
      | x :: _ => s.net.sess.any fun e => e.2.open_ && decide (e.2.soePos ≤ x.seq.toNat)
      | [] => false
    let b := b.drop 1
    let first := unread && !s.field.soeLost
    let s := { s with field := { s.field with
        soe := b, soeSeq := s.field.soeSeq + 1, soeLost := s.field.soeLost || unread } }
    if first then raise s 206 [(b[0]?).elim 0 (·.seq)] else s

/-- DIGITAL_INPUT_CHANGE (R404, R405): the filtered state of an input changes at a vessel time; with SOE = 1 the change is
stamped. -/
def execDigitalInputChange (channel : Nat) (level : Bool) (changedNs : Nat) (s : State) :
    Host.Outcome State Fault Refusal :=
  .next <|
    match ioByKind (theImage s) channel [1, 2, 3] with
    | none => s
    | some (_, e) =>
      if !fieldRuns s || (chan s channel).level == level then s
      else
        let s := setChan s channel { chan s channel with level := level }
        if e.flags.testBit 0 then
          soePush s ⟨stampOf e changedNs, channel, level, timeQuality s, w32 s.field.soeSeq⟩
        else s

/-- The bytes of an event stamp record (Table 12.6). -/
def soeBytes (r : SoeRec) : Bytes :=
  toLe 8 r.time ++ toLe 1 r.channel ++ [if r.edge then 1 else 0] ++ toLe 1 r.quality ++ [0] ++ toLe 4 r.seq.toNat

/-- SOE_READ (R406): up to 64 records from the session's read position, which advances. -/
def execSoeRead (r : Req) (s : State) : Host.Outcome State Fault Refusal :=
  .next <| hostRead s r 0x30100000 fun s =>
    let x := sess s r.session
    let out := (s.field.soe.filter fun e => decide (x.soePos ≤ e.seq.toNat)).take 64
    let pos := out.foldl (fun n e => max n (e.seq.toNat + 1)) x.soePos
    let s := reply s r 0x30100000 stDone (out.flatMap soeBytes)
    let s := setSess s r.session { sess s r.session with soePos := pos }
    { s with field := { s.field with soeLost := false } }

/-- The digital output carries a load: its newest commit demands on and no protection holds it off. -/
def doOn (s : State) (kk : Nat) : Bool :=
  let c := chan s kk
  !c.tripped && !c.latched && (match c.targets with
    | some _ :: _ => true
    | _ => false)

/-- A digital output is switched off by its protection (R407, R408): retry or latch by its LATCH flag. -/
def protectOff (s : State) (kk : Nat) (e : IoEntry) : State :=
  let c := chan s kk
  setChan s kk { c with
    tripped := true, latched := c.latched || e.flags.testBit 3, offTick := s.time.tick, retryTick := none }

/-- OUTPUT_OVERLOAD (R407): the output is switched off; on the first switch-off OVERLOAD is set and EV192 raised. -/
def execOutputOverload (channel : Nat) (at_ : Nat) (s : State) : Host.Outcome State Fault Refusal :=
  .next <|
    match doEntry s channel with
    | none => s
    | some e =>
      if !doOn s channel then s
      else
        let s := setPhase s at_
        let first := !(chan s channel).overload
        let s := protectOff s channel e
        let c := chan s channel
        let s := setChan s channel { c with overload := true, counters := bump c.counters 0 }
        if first then raise s 192 [w32 channel, if e.flags.testBit 3 then 1 else 0] else s

/-- OUTPUT_OVERTEMP (R407): the output is switched off; on the first switch-off OVERTEMP is set and EV195 raised. -/
def execOutputOvertemp (channel : Nat) (at_ : Nat) (s : State) : Host.Outcome State Fault Refusal :=
  .next <|
    match doEntry s channel with
    | none => s
    | some e =>
      if !doOn s channel then s
      else
        let s := setPhase s at_
        let first := !(chan s channel).overtemp
        let s := protectOff s channel e
        let s := setChan s channel { chan s channel with overtemp := true }
        if first then raise s 195 [w32 channel] else s

/-- OUTPUT_RETRY (R408): at the first commit at least PARAM ticks after the switch-off, the output switches on again when
the commit still demands on and the junction has cooled. -/
def execOutputRetry (channel : Nat) (cooled : Bool) (s : State) : Host.Outcome State Fault Refusal :=
  .next <|
    match doEntry s channel with
    | none => s
    | some e =>
      let c := chan s channel
      let demanded := match c.targets with
        | some _ :: _ => true
        | _ => false
      if c.tripped && !c.latched && cooled && demanded && decide (c.offTick + e.param ≤ s.time.tick) then
        setChan s channel { c with
          tripped := false, overtemp := false, retries := min (c.retries + 1) 255
          retryTick := if c.overload then some s.time.tick else none }
      else s

/-- CHANNEL_CLEAR, a write to 0x3002_00kk (R408, R413, Table 12.14): clears LATCHED, READBACK and EXT_DRIVE whose
conditions have ended, and RETRIES. -/
def execChannelClear (r : Req) (kk : Nat) (value : W32) (s : State) : Host.Outcome State Fault Refusal :=
  .next <|
    let obj : W32 := 0x30020000 + w32 kk
    hostCommand s r obj fun s =>
      if 0x49 < kk then refuse s r obj rfObject
      else if 1 < value.toNat then refuse s r obj rfRange
      else if chanClass s kk = 0 then refuse s r obj rfImage
      else
        let s := if value.toNat = 1 then
          let c := chan s kk
          let ok := (chanRun s kk).readbackOk
          setRun (setChan s kk { c with
            latched := false, tripped := c.tripped && !c.latched, retries := 0
            readback := c.readback && !ok, extDrive := c.extDrive && !ok }) kk
            { chanRun s kk with readback := if ok then 0 else (chanRun s kk).readback }
          else s
        reply s r obj stDone

/-- GROUP_OVERCURRENT (R409): after 80 latches above 4.2 A the outputs named, the highest current first, are switched off
and latched, one EV193 for the occurrence. -/
def execGroupOvercurrent (group : Nat) (channels : List Nat) (at_ : Nat) (s : State) :
    Host.Outcome State Fault Refusal :=
  .next <|
    let cs := channels.filter fun k => groupOf k == group && (doEntry s k).isSome && doOn s k
    if (groupSt s group).overRun < 80 ∨ cs.isEmpty then s
    else
      let s := setPhase s at_
      let s := cs.foldl (fun s k => setChan s k { chan s k with
        tripped := true, latched := true, offTick := s.time.tick, retryTick := none }) s
      let s := setGroup s group { groupSt s group with overRun := 0 }
      raise s 193 [w32 group, w32 (cs.foldl (fun m k => m + 2 ^ (k % 8)) 0)]

/-- OPEN_WIRE (R410): a condition that has lasted 80 latches sets or clears OPEN_WIRE; setting it raises EV194. -/
def execOpenWire (channel : Nat) (open_ : Bool) (s : State) : Host.Outcome State Fault Refusal :=
  .next <|
    let c := chan s channel
    let r := chanRun s channel
    if (doEntry s channel).isNone || c.openWire == open_ then s
    else if open_ then
      if r.open_ < 80 then s
      else
        let s := setChan s channel { c with openWire := true, counters := bump c.counters 1 }
        raise s 194 [w32 channel, if doOn s channel then 1 else 0]
    else if r.closed < 80 then s else setChan s channel { c with openWire := false }

/-- FIELD_FEED_LOW (R411): at the first latch after the comparator found a fall, FEED_LOW is set and EV198 raised. -/
def execFieldFeedLow (group : Nat) (s : State) : Host.Outcome State Fault Refusal :=
  .next <|
    let g := groupSt s group
    if group < 1 ∨ 6 < group ∨ !g.fell ∨ g.low ∨ !fieldRuns s then s
    else raise (setGroup s group { g with low := true, fell := false, good := 0 }) 198 (w32 group :: wF64 g.volts)

/-- The inputs of a group are valid again from this tick on, with the levels of its latch (R401). -/
def groupValid (s : State) (group : Nat) : State :=
  let refresh := fun (e : Nat × ChanSt) =>
    if groupOf e.1 = group ∧ (ioByKind (theImage s) e.1 [4]).isNone then
      (e.1, { e.2 with lastValid := if s.field.fault then e.2.lastValid else some (if e.2.level then 1 else 0) })
    else e
  { s with field := { s.field with ch := s.field.ch.map refresh } }

/-- FIELD_FEED_RESTORED (R411): 80 consecutive latches above 17.5 V without a further fall. -/
def execFieldFeedRestored (group : Nat) (s : State) : Host.Outcome State Fault Refusal :=
  .next <|
    let g := groupSt s group
    if !g.low ∨ g.good < 80 then s
    else raise (groupValid (setGroup s group { g with low := false }) group) 199 [w32 group]

/-- A fault found within 8,000 ticks of taking control is latent: EV047 (R358). -/
def latentFault (s : State) (kk : Nat) : State :=
  match s.pair.watchFrom with
  | some t => if s.time.tick < t + 8000 then raise { s with pair := { s.pair with watchFault := true } } 47 [w32 kk] else s
  | none => s

/-- READBACK_FAILURE (R413): three consecutive failed checks set READBACK with EV196, or, for a digital output that is
committed off and reads on, EXT_DRIVE with EV197. -/
def execReadbackFailure (kk : Nat) (s : State) : Host.Outcome State Fault Refusal :=
  .next <|
    let c := chan s kk
    if (chanRun s kk).readback < 3 then s
    else
      let off := decide (kk < 0x30) && (match c.targets with
        | some _ :: _ => false
        | _ => true)
      if off then
        if c.extDrive then s
        else latentFault (raise (setChan s kk { c with extDrive := true }) 197 [w32 kk]) kk
      else if c.readback then s
      else
        let t := (aoTarget c).getD 0
        let s := setChan s kk { c with readback := true, counters := bump c.counters 2 }
        latentFault (raise s 196 (w32 kk :: wF64 t ++ wF64 c.measured)) kk

/-- ANALOGUE_UNDER_RANGE (R416): four consecutive latches below LIM_LO. -/
def execAnalogueUnderRange (ai : Nat) (s : State) : Host.Outcome State Fault Refusal :=
  .next <|
    let kk := 0x30 + ai
    let c := chan s kk
    if 15 < ai ∨ (chanRun s kk).under < 4 ∨ c.under then s
    else raise (setChan s kk { c with under := true }) 200 (w32 kk :: wF64 c.measured)

/-- ANALOGUE_OVER_RANGE (R416): four consecutive latches above LIM_HI or at the supply's current limit. -/
def execAnalogueOverRange (ai : Nat) (s : State) : Host.Outcome State Fault Refusal :=
  .next <|
    let kk := 0x30 + ai
    let c := chan s kk
    if 15 < ai ∨ (chanRun s kk).above < 4 ∨ c.above then s
    else raise (setChan s kk { c with above := true }) 201 (w32 kk :: wF64 c.measured)

/-- ANALOGUE_RANGE_CLEAR (R416): 80 consecutive latches back inside by 0.1 mA clear UNDER or OVER; the input is valid again from
this tick on, with the reading of its latch. -/
def execAnalogueRangeClear (ai : Nat) (s : State) : Host.Outcome State Fault Refusal :=
  .next <|
    let kk := 0x30 + ai
    let c := chan s kk
    let r := chanRun s kk
    let u := c.under && decide (80 ≤ r.good)
    let o := c.above && decide (80 ≤ r.goodOver)
    if 15 < ai ∨ !(u || o) then s
    else
      let c := { c with under := c.under && !u, above := c.above && !o }
      let now := (ioByKind (theImage s) kk [6, 7]).map fun e => aiValue e.2 c.measured
      let c := { c with lastValid := if c.under || c.above || s.field.fault then c.lastValid else now.orElse fun _ => c.lastValid }
      raise (setChan s kk c) 202 [w32 kk]

/-- COMPLIANCE_LOST (R422): the current fell short of the target by more than 0.1 % of span at four consecutive latches. -/
def execComplianceLost (ao : Nat) (s : State) : Host.Outcome State Fault Refusal :=
  .next <|
    let kk := 0x40 + ao
    let c := chan s kk
    if 7 < ao ∨ (chanRun s kk).lost < 4 ∨ c.compliance then s
    else
      let s := setChan s kk { c with compliance := true, counters := bump c.counters 3 }
      raise s 203 (w32 kk :: wF64 ((aoTarget c).getD 0) ++ wF64 c.measured)

/-- COMPLIANCE_REGAINED (R422): within 0.01 % of span with at least 0.5 V of margin at 80 consecutive latches. -/
def execComplianceRegained (ao : Nat) (s : State) : Host.Outcome State Fault Refusal :=
  .next <|
    let kk := 0x40 + ao
    let c := chan s kk
    if 7 < ao ∨ !c.compliance ∨ (chanRun s kk).regained < 80 then s
    else raise (setChan s kk { c with compliance := false }) 204 [w32 kk]

/-- POSITION_SIGNAL_FAULT (R425): a signal fault at the latch sets SIGNAL; the channels of the input are BAD. -/
def execPositionSignalFault (pos : Nat) (s : State) : Host.Outcome State Fault Refusal :=
  .next <|
    let kk := 0x48 + pos
    let c := chan s kk
    let r := chanRun s kk
    if 1 < pos ∨ r.fault = 0 ∨ c.signal then s
    else
      let s := setChan s kk { c with signal := true }
      let s := { s with loops := { s.loops with posGood := lset s.loops.posGood pos 0 } }
      raise s 207 [w32 pos, w32 r.fault]

/-- POSITION_SIGNAL_CLEAR (R425): eight consecutive latches without a fault. The input is valid again from this tick on, with
the count of its latch; VELOCITY follows W ticks later (R235, R236). -/
def execPositionSignalClear (pos : Nat) (s : State) : Host.Outcome State Fault Refusal :=
  .next <|
    let kk := 0x48 + pos
    let c := chan s kk
    if 1 < pos ∨ !c.signal ∨ (chanRun s kk).clean < 8 then s
    else
      let s := setChan s kk { c with
        signal := false, lastValid := if s.field.fault then c.lastValid else some c.measured }
      { s with loops := { s.loops with posGood := lset s.loops.posGood pos (if s.field.fault then 0 else 1) } }

/-- Number and entry of every onboard output. -/
def onboardOutputs (s : State) : List (Nat × IoEntry) := (ioNum (theImage s)).filter fun e => onboard e.2 && e.2.output

/-- Drive of a terminal by its oasis value under logic silence: hold keeps the last refreshed value (R429). -/
def silenceTerminal (s : State) (n : Nat) (e : IoEntry) : W64 :=
  let img := theImage s
  match oasisOf img n with
  | (1, _) => 1
  | (2, _) => tget 0 s.field.terminal n
  | (3, v) => (kkOf e).elim 0 fun kk => trimmed img kk (aoMilliamps e v)
  | _ => 0

/-- LOGIC_SILENCE (R429): a gap of T_SILENCE since the last refresh; every onboard output takes its oasis value, SILENCE
is set, EV205 with cause 1, and the module enters OASIS. A refresh exactly T_SILENCE after the last one is in time. -/
def execLogicSilence (at_ : Nat) (s : State) : Host.Outcome State Fault Refusal :=
  .next <|
    if !(drives s) || !s.field.refreshed || s.field.silence ||
        decide ((s.time.tick - s.field.lastRefresh) * tickNs + at_ < tSilence (theImage s) * tickNs + 105000) then s
    else
      let s := setPhase s at_
      let outs := onboardOutputs s
      let term := outs.foldl (fun t e => tset t e.1 (silenceTerminal s e.1 e.2)) s.field.terminal
      let s := outs.foldl (fun s e => (kkOf e.2).elim s fun kk => setChan s kk { chan s kk with silence := true }) s
      let s := { s with field := { s.field with silence := true, cause := 1, terminal := term } }
      oasisReaction (raise s 205 [1])

/-- FIELD_CONTROLLER_WATCHDOG (R429): every output off, M1 to M11 not valid, EV205 with cause 2, OASIS; the fault lasts
until the next KILN. -/
def execFieldControllerWatchdog (at_ : Nat) (s : State) : Host.Outcome State Fault Refusal :=
  .next <|
    if !(drives s) || !s.field.refreshed || s.field.fault then s
    else
      let s := setPhase s at_
      let s := releaseStages { s with field := { s.field with
        fault := true, cause := 2, terminal := s.field.terminal.map fun e => (e.1, 0) } }
      oasisReaction (raise s 205 [2])

/-- TRIM_MODE_WRITE, a write to 0x3021_0000 (R421): only on a SOLO or ACTIVE module in STOP; in force
from the next tick boundary. -/
def execTrimModeWrite (r : Req) (mask : Byte) (s : State) : Host.Outcome State Fault Refusal :=
  .next <| hostCommand s r 0x30210000 fun s =>
    if !inControl s || s.md.mode != .stop then refuse s r 0x30210000 rfMode
    else reply { s with field := { s.field with trimMaskNext := some mask } } r 0x30210000 stDone

/-- TRIM_CURRENT_WRITE, a write to 0x3020_00aa (R421): 0 to 24 mA, in force from the next tick boundary. -/
def execTrimCurrentWrite (r : Req) (ao : Nat) (value : F64) (s : State) : Host.Outcome State Fault Refusal :=
  .next <|
    let obj : W32 := 0x30200000 + w32 ao
    hostCommand s r obj fun s =>
      if 7 < ao then refuse s r obj rfObject
      else if chanClass s (0x40 + ao) = 0 then refuse s r obj rfImage
      else if !(fLe 0 value && fLe value (fOfInt 24)) then refuse s r obj rfRange
      else reply { s with field := { s.field with trimNext := s.field.trimNext ++ [(ao, value)] } } r obj stDone

end Sys2Proof.Machine
end

