-- ==== Sys2Proof/Machine/Mirages.lean ====
section
/-! DEFINITION. Mirages (R157 to R163): PLACE, RELEASE and RELEASE_ALL. -/

namespace Sys2Proof.Machine

/-- The mirage command object (R159). -/
def mirageObj : W32 := 0x02300000#32

/-- A channel that no mirage may force (R158): safety inputs and permit outputs (M10), position inputs (M11), and an
input that rides in the module of a ring safety connection. -/
def safetyChannel (s : State) (e : IoEntry) : Bool :=
  (onboard e && decide (e.module = 10 ∨ e.module = 11)) ||
    (e.ring && !e.output && (connDefs (theImage s)).any fun c => c.2.station == e.module && c.2.module == e.chan)

/-- A brick whose type has SAFETY = 1 (R158). -/
def safetyBrick (s : State) (i : Nat) : Bool :=
  ((brickInst (theImage s) i).bind fun b => brickType (theImage s) b.type).elim false (·.safety)

/-- The target of a mirage command is a datum of its KIND with its TYPE (Table 04.6): the code that refuses it. -/
def targetFault (s : State) (c : MirageCmd) : Option Nat :=
  if c.kind ≤ 1 then
    match ioEntry (theImage s) c.index with
    | none => some rfRange
    | some e =>
      if c.brick ≠ 0 ∨ e.output ≠ (c.kind == 1) then some rfRange
      else if safetyChannel s e then some rfSafety
      else if e.ty ≠ c.ty ∨ rawNonFinite c.ty c.value then some rfRange
      else none
  else if c.kind = 2 then
    match brickInst (theImage s) c.brick with
    | none => some rfRange
    | some b =>
      if safetyBrick s c.brick then some rfSafety
      else if tyWidth c.ty = 0 ∨ b.len < c.index + tyWidth c.ty ∨ c.declared ≠ c.ty then some rfRange
      else none
  else some rfRange

/-- The entry of the mirage on a target. -/
def mirageAt (s : State) (kind brick index : Nat) : Option Nat :=
  (s.crs.mirages.find? fun e => e.2.kind == kind && e.2.brick == brick && e.2.index == index).map (·.1)

/-- The lowest free entry of the mirage list (R159). -/
def freeMirage (s : State) : Option Nat := (List.range 512).find? fun i => (tfind s.crs.mirages i).isNone

/-- The entry that a PLACE takes, or the code that refuses it (R157 to R159). Of several codes that apply the first of this
order answers: the VALUE's RANGE, the target's RANGE, SAFETY, the TYPE's RANGE, FULL; the spec gives none (DESIGN CHOICE,
assumption 84). -/
def placeCheck (s : State) (c : MirageCmd) : Except Nat Nat :=
  if c.reserved || !rawFits c.ty c.value then .error rfRange
  else match targetFault s c with
    | some x => .error x
    | none =>
      match mirageAt s c.kind c.brick c.index with
      | some i => .ok i
      | none => match freeMirage s with
        | some i => .ok i
        | none => .error rfFull

/-- Arguments of EV102 and EV103 (R162). -/
def mirageArgs (kind brick index : Nat) (w2 w3 : W32) : List W32 := [w32 (kind + 65536 * brick), w32 index, w2, w3]

/-- An injection whose output comes under a mirage stops with cause 10 (Table 07.7). -/
def mirageStops (s : State) (c : MirageCmd) : State :=
  if c.kind ≠ 1 then s
  else ((loopDefs (theImage s)).filter fun e => e.2.dst == some c.index).foldl (fun s e => stopInjection s e.1 10) s

/-- A mirage command answers: with a partner in TRACK it waits for the class 1 mortar frame that carries the changed
entries (R163). -/
def mirageReply (s : State) (r : Req) (entries : List Nat) : State :=
  if partnerTracks s then
    let t := s.time.tick
    let o := originOf s r
    reply { s with crs := { s.crs with
      mirageWaits := s.crs.mirageWaits ++ [⟨o, t⟩]
      mirageChanged := s.crs.mirageChanged ++ entries.map fun i => (i, t) } } r mirageObj stAccepted
  else reply s r mirageObj stDone

/-- A mirage command is served in the modes and roles of R74. -/
def mirageCommand (r : Req) (k : State → State) (s : State) : State :=
  hostCommand s r mirageObj fun s =>
    match loopGate s with
    | some x => refuse s r mirageObj x
    | none => k s

/-- MIRAGE_PLACE (R157): EV102. -/
def execMiragePlace (r : Req) (cmd : MirageCmd) (s : State) : Host.Outcome State Fault Refusal :=
  .next <| mirageCommand r (fun s =>
    match placeCheck s cmd with
    | .error x => refuse s r mirageObj x
    | .ok i =>
      let m : Mirage := { kind := cmd.kind, ty := cmd.ty, brick := cmd.brick, index := cmd.index, value := cmd.value }
      let s := { s with crs := { s.crs with mirages := tset s.crs.mirages i m } }
      let v := w64 cmd.value.toNat
      let s := raise s 102 (mirageArgs cmd.kind cmd.brick cmd.index (v.getD 0 0) (v.getD 1 0))
      mirageReply (mirageStops s cmd) r [i]) s

/-- MIRAGE_RELEASE (R162): EV103 with a count of 1. -/
def execMirageRelease (r : Req) (cmd : MirageCmd) (s : State) : Host.Outcome State Fault Refusal :=
  .next <| mirageCommand r (fun s =>
    match if cmd.reserved then none else mirageAt s cmd.kind cmd.brick cmd.index with
    | none => refuse s r mirageObj rfRange
    | some i =>
      let s := { s with crs := { s.crs with mirages := tdel s.crs.mirages i } }
      mirageReply (raise s 103 (mirageArgs cmd.kind cmd.brick cmd.index 1 0)) r [i]) s

/-- MIRAGE_RELEASE_ALL (R162): one EV103 with the number released. -/
def execMirageReleaseAll (r : Req) (s : State) : Host.Outcome State Fault Refusal :=
  .next <| mirageCommand r (fun s =>
    let entries := s.crs.mirages.map (·.1)
    let s := { s with crs := { s.crs with mirages := [] } }
    mirageReply (raise s 103 (mirageArgs 0xFF 0 0 (w32 entries.length) 0)) r entries) s

end Sys2Proof.Machine
end

