-- ==== Sys2Proof/Machine/Objects.lean ====
section
/-! DEFINITION. Host objects (chapter 16): the directory of identifiers with their access (Table 16.1 and the owners'
tables), and the content of the objects that change only at tick boundaries. -/

namespace Sys2Proof.Machine

/-- Access of an object (Table 00.8): read-only, write-only, read and write, write a command and read its state, or a name
that neither operation serves. -/
inductive Access where
  | ro | wo | rw | w1 | named
  deriving DecidableEq, Repr

/-- Subclass and index of an object (R508). -/
def objSub (obj : W32) : Nat := obj.toNat / 2 ^ 16 % 256
def objIndex (obj : W32) : Nat := obj.toNat % 2 ^ 16

/-- An access, if the index lies within a bound. -/
def below (n i : Nat) (a : Access) : Option Access := if i < n then some a else none

/-- The objects of classes 0x01 and 0x02. -/
def access02 (c sub i : Nat) : Option Access :=
  match c, sub with
  | 0x01, 0x00 => if [0x00, 0x10, 0x20, 0x30, 0x40, 0x41].contains i then some .ro else none
  | 0x01, 0x10 =>
    if [0x00, 0x01, 0x10, 0x11, 0x20, 0x21].contains i then some .ro else if 0x30 ≤ i ∧ i ≤ 0x33 then some .rw else none
  | 0x02, 0x00 => below 1 i .ro
  | 0x02, 0x01 => below 1 i .wo
  | 0x02, 0x19 => below 9 i .w1
  | 0x02, 0x20 => below 16 i .rw
  | 0x02, 0x30 => below 1 i .wo
  | 0x02, 0x31 => below 512 i .ro
  | 0x02, 0x32 => below 1 i .ro
  | 0x02, 0x40 => some .ro
  | 0x02, 0x50 => below 1 i .wo
  | 0x02, _ => if 0x10 ≤ sub ∧ sub ≤ 0x18 then below 9 i .ro else if 0x51 ≤ sub ∧ sub ≤ 0x53 then below 1 i .ro else none
  | _, _ => none

/-- The objects of classes 0x10, 0x20 and 0x30. -/
def access30 (c sub i : Nat) : Option Access :=
  match c, sub with
  | 0x10, 0x01 => below 128 i .wo
  | 0x10, 0x03 => below 128 i .rw
  | 0x10, 0x04 => below 128 i .w1
  | 0x10, 0x10 => below 1 i .ro
  | 0x10, 0x30 => below 128 i .wo
  | 0x10, _ =>
    if [0x00, 0x02, 0x05, 0x06, 0x07, 0x31, 0x32].contains sub then below 128 i .ro
    else if 0x20 ≤ sub ∧ sub ≤ 0x23 then below 64 i .ro else none
  | 0x20, 0x03 => below 1 i .ro
  | 0x20, 0x04 => below 4 i .ro
  | 0x20, _ => if sub ≤ 0x07 then below 64 i .ro else none
  | 0x30, 0x02 => below 0x4A i .w1
  | 0x30, 0x03 => if 1 ≤ i ∧ i ≤ 6 then some .ro else none
  | 0x30, 0x20 => below 8 i .rw
  | 0x30, 0x21 => below 1 i .rw
  | 0x30, _ =>
    if [0x00, 0x01, 0x04].contains sub then below 0x4A i .ro else if [0x10, 0x11, 0x30].contains sub then below 1 i .ro else none
  | _, _ => none

/-- The objects of classes 0x40 to 0x80. -/
def access80 (c sub i : Nat) : Option Access :=
  match c, sub with
  | 0x40, 0x01 => below 1 i .ro
  | 0x40, _ => if sub ≤ 4 then below 64 i .ro else none
  | 0x50, 0x01 => below 4 i .wo
  | 0x50, 0x10 => below 128 i .ro
  | 0x50, 0x11 => below 64 i .ro
  | 0x50, _ => if sub ≤ 3 then below 4 i .ro else none
  | 0x60, 0x02 => below 1 i .wo
  | 0x60, 0x10 => below 3 i .ro
  | 0x60, 0x11 => below 3 i .ro
  | 0x60, _ => if sub ≤ 4 then below 1 i .ro else none
  | 0x70, _ => if sub ≤ 7 then below 1 i .ro else none
  | 0x80, 0x01 => below 8 i .ro
  | 0x80, 0x02 => below 4 i .ro
  | 0x80, 0x03 => below 32 i .ro
  | 0x80, 0x05 => below 4 i .ro
  | 0x80, _ => if sub ≤ 6 then below 1 i .ro else none
  | _, _ => none

/-- The objects of classes 0x90 to 0xE0. -/
def accessE0 (c sub i : Nat) : Option Access :=
  match c, sub with
  | 0x90, 0x00 => below 1 i .ro
  | 0x90, 0x01 => below 1 i .wo
  | 0x90, 0x02 => below 1 i .ro
  | 0x90, 0x10 => some .rw
  | 0xA0, 0x00 => below 2 i .ro
  | 0xA0, 0x01 => below 256 i .ro
  | 0xA0, 0x10 => below 1 i .named
  | 0xA0, _ => if sub ≤ 3 then below 1 i .ro else none
  | 0xB0, 0x00 => below 1 i .rw
  | 0xB0, 0x01 => below 1 i .wo
  | 0xB0, _ => if 2 ≤ sub ∧ sub ≤ 4 then below 1 i .ro else if 0x10 ≤ sub ∧ sub ≤ 0x1F then below 0x2000 i .ro else none
  | 0xC0, 0x00 => below 8 i .ro
  | 0xC0, 0x01 => below 1 i .wo
  | 0xC0, 0x02 => below 1 i .ro
  | 0xC0, 0x03 => if i = 0 then some .ro else if 0x10 ≤ i ∧ i ≤ 0x13 then some .rw else none
  | 0xD0, 0x01 => below 120 i .ro
  | 0xD0, 0x05 => below 1 i .wo
  | 0xD0, _ => if sub ≤ 4 then below 1 i .ro else none
  | 0xE0, 0x00 => below 1 i .wo
  | 0xE0, 0x01 => below 1 i .ro
  | 0xE0, 0x02 => below 256 i .wo
  | 0xE0, 0x03 => below 256 i .ro
  | 0xE0, 0x04 => below 256 i .w1
  | _, _ => none

/-- The access of an object; none when Table 16.1 or its owner does not list it (R508). -/
def objAccess (obj : W32) : Option Access :=
  let c := objClass obj
  let sub := objSub obj
  let i := objIndex obj
  if c ≤ 0x02 then access02 c sub i
  else if c ≤ 0x30 then access30 c sub i
  else if c ≤ 0x80 then access80 c sub i
  else accessE0 c sub i

/-! ### Status objects (R76, R166, R231, R251, R300, R355, R395, R431, R455, R478, R505, R560) -/

/-- A 32-bit object. -/
def word32 (n : Nat) : Bytes := toLe 4 n

/-- 0x0200_0000 (Table 02.4). -/
def modeStatus (s : State) : Nat :=
  modeCode s.md.prevMode * 2 ^ 24 + bit s.btn.stuck 19 + bit s.md.token 18 + bit (!s.crs.mirages.isEmpty) 17 +
    bit s.md.injection 16 + roleCode s.md.role * 2 ^ 12 +
    (if s.pair.report then (s.pair.status.map (·.mode)).getD 15 % 16 else 15) * 2 ^ 8 + modeCode s.md.mode

/-- 0x1000_00cc (Table 06.8). -/
def loopStatus (s : State) (c : Nat) : Nat :=
  if (loopDef (theImage s) c).isNone then 7
  else
    let x := loop s c
    min x.consecMiss 255 * 2 ^ 24 + min x.consecPvBad 255 * 2 ^ 16 + bit x.stepped 14 + bit (x.satHeld != 0) 13 +
      bit x.overridden 12 + bit x.tracking 11 + bit x.fallenBack 10 + x.sat % 4 * 2 ^ 8 + bit x.pvBad 7 + bit x.spHeld 6 +
      (if running s then x.mode else 5)

/-- 0x1020_00tt (Table 07.3). -/
def tableStatus (s : State) (t : Nat) : Nat :=
  if (tableRec (theImage s) t).isNone then 0
  else
    let x := tableSt s t
    x.generation % 65536 * 2 ^ 16 + bit x.outOfRange 12 + bit x.termOff 11 + bit x.overdue 10 + bit x.stagedBg 9 +
      bit x.rebuilding 8 + tabKind x.fore % 4

/-- 0x2000_00cc (Table 08.14). -/
def solverStatus (s : State) (c : Nat) : Nat :=
  match solverDef (theImage s) c with
  | none => 3 * 2 ^ 10
  | some d =>
    let m := solv2 s c
    let u := m.unit.getD d.home
    let g := ((s.solver.tiles.getD u ⟨true, false, 0, 0, 1⟩).gang)
    (((m.job.or (solv2 s (64 + c)).job).map (·.state)).getD 0) * 2 ^ 16 + bit m.unit.isNone 12 + (if g = 4 then 2 else if g = 2 then 1 else 0) * 2 ^ 10 +
      u % 4 * 2 ^ 8 + d.cls % 4

/-- 0x4000_00ss (Table 13.6). -/
def stationStatus (s : State) (n : Nat) : Nat :=
  let x := stn s n
  let hop (h speed : Nat) : Nat := if s.ring.hopsDown.contains h then 0 else speed % 4
  x.position % 256 * 2 ^ 24 + hop x.position x.hopB * 2 ^ 18 + hop (x.position - 1) x.hopA * 2 ^ 16 + bit x.late 12 +
    bit x.heldOut 11 + bit x.mismatch 10 + bit x.undeclared 9 + bit ((stationDef (theImage s) n).elim false (·.optional)) 8 + x.state % 8

/-- 0x5000_000p (Table 14.10). -/
def portStatus (s : State) (p : Nat) : Nat :=
  let x := port s p
  min x.rxErr 255 * 2 ^ 24 + min x.txErr 255 * 2 ^ 16 + min x.fifo.length 127 * 2 ^ 9 + min x.launch.length 63 * 2 ^ 3 + x.state % 8

/-- 0x6000_0000 (Table 15.9). -/
def timeStatus (s : State) : Nat :=
  s.time.gmClass % 256 * 2 ^ 24 + s.time.steps % 256 * 2 ^ 16 + s.time.port % 4 * 2 ^ 8 +
    bit (s.md.role == .standby && (s.md.mode == .sync || s.md.mode == .track)) 7 + bit s.time.jump 6 +
    s.time.servo % 8 * 2 ^ 2 + timeQuality s

/-- PAIR_STATE (Table 10.11). -/
def pairState (s : State) : Nat :=
  if !onTwin s then 0
  else if linkLost s then 5
  else if !s.pair.report then 1
  else match (s.pair.status.map fun f => modeOfCode f.mode).getD .halt with
    | .load | .sync => 2
    | .track => 3
    | .halt => 4
    | _ => if s.md.role == .standby then (if s.md.mode == .track || s.md.mode == .change then 3 else 2) else 2

/-- 0x7000_0000 (Table 10.11). -/
def pairStatus (s : State) : Nat :=
  let q := mortarSel (theImage s)
  let lim := [q.staleTick, q.staleCourse, q.staleSolver, q.staleChange]
  (List.range 4).foldl (fun n k => n + bit (decide (lim.getD k 0 < s.pair.stale.getD k 0)) (20 + k)) 0 +
    bit s.pair.wiringFault 16 + pairState s * 2 ^ 8 + s.md.slot % 4

/-- 0x8000_0000 (Table 11.8). -/
def safetyStatus (s : State) : Nat :=
  s.safe.loss % 16 * 2 ^ 8 + bit s.safe.pairMismatch 6 + bit s.safe.compareFault 5 + bit s.safe.expiry.isSome 4 +
    bit s.safe.chB 1 + bit s.safe.chA 0

/-- 0x8001_000i (Table 11.9). -/
def inputStatus (s : State) (i : Nat) : Nat :=
  match siDef (theImage s) i with
  | none => 0
  | some d =>
    let x := siSt s i
    let (a, b) := siView s i
    min (if leadB s then x.discB else x.disc) 65535 * 2 ^ 16 + bit x.lostB 11 + bit x.lostA 10 + bit x.discFault 8 +
      bit (x.discFault || x.waiting) 5 + bit x.demand 4 + bit b 3 + bit a 2 + d.mode % 4

/-- 0x8002_000j (Table 11.10). -/
def axisStatus (s : State) (j : Nat) : Nat :=
  match axisDef (theImage s) j with
  | none => 0
  | some d =>
    let x := axSt s j
    x.cause % 16 * 2 ^ 24 + bit x.xchk 16 + bit x.pfaultB 11 + bit x.pfaultA 10 +
      bit (x.xchk || x.pfaultA || x.pfaultB || (x.state == 3 && d.manual && !x.released)) 9 + bit x.overriding 8 + x.state % 8

/-- 0x8003_00kk (R396). -/
def connStatus (s : State) (k : Nat) : Nat :=
  match connDef (theImage s) k with
  | none => 0
  | some d =>
    let x := connSt s k
    x.counter % 65536 * 2 ^ 16 + bit x.expired 3 + bit x.valid 2 + d.kind % 4

/-- 0x8004_0000: seconds left to the DEGRADED expiry (R396). -/
def expirySeconds (s : State) : Nat := (expiryLeft s).elim 0xFFFFFFFF fun ns => ns / 10 ^ 9

/-- 0x8005_000j (R396). -/
def axisValues (s : State) (j : Nat) : Bytes :=
  let x := axSt s j
  let drive : F64 := match axisDef (theImage s) j with
    | some d => if d.conn = 0xFF then Config.noDriveSpeed j else (connSt s d.conn).data
    | none => Config.noDriveSpeed j
  let b := leadB s
  [if b then x.vB else x.v, x.env, drive, if b then x.v0B else x.v0].flatMap fun v => toLe 8 v.toNat

/-- 0xD000_0000 (Table 18.7). -/
def panelStatus (s : State) : Nat :=
  let p := s.panel
  p.crackCause % 16 * 2 ^ 16 + bit p.lampUntil.isSome 10 + bit (decide (0 < p.comp)) 9 + bit p.ntcFault 8 + bit p.marginal 7 +
    bit p.untrusted 6 + bit p.bias 5 + bit p.driving 4 + p.band % 8

/-- The objects that change only at tick boundaries (R76, R231, R251, R300, R366, R395, R431, R455, R478, R505, R560). -/
def boundaryObjs : List W32 :=
  let row (base n : Nat) : List W32 := (List.range n).map fun i => BitVec.ofNat 32 (base + i)
  [0x02000000#32] ++ row 0x10000000 128 ++ row 0x10200000 64 ++ row 0x20000000 64 ++ row 0x30000000 0x4A ++ row 0x40000000 64 ++
    row 0x50000000 4 ++ [0x60000000#32, 0x70000000#32, 0x80000000#32] ++ row 0x80010000 8 ++ row 0x80020000 4 ++
    row 0x80030000 32 ++ [0x80040000#32] ++ row 0x80050000 4 ++ [0x80060000#32, 0xD0000000#32]

/-- The content of an object that changes only at tick boundaries, of at most 1,024 bytes: the objects that can be
subscribed (R520); none for every other object. -/
def boundaryObject (s : State) (obj : W32) : Option Bytes :=
  let i := objIndex obj
  if objAccess obj != some .ro then none
  else
    match objClass obj, objSub obj with
    | 0x02, 0x00 => some (word32 (modeStatus s))
    | 0x10, 0x00 => some (word32 (loopStatus s i))
    | 0x10, 0x20 => some (word32 (tableStatus s i))
    | 0x20, 0x00 => some (word32 (solverStatus s i))
    | 0x30, 0x00 => some (word32 (chanStatus s i))
    | 0x40, 0x00 => some (word32 (stationStatus s i))
    | 0x50, 0x00 => some (word32 (portStatus s i))
    | 0x60, 0x00 => some (word32 (timeStatus s))
    | 0x70, 0x00 => some (word32 (pairStatus s))
    | 0x80, 0x00 => some (word32 (safetyStatus s))
    | 0x80, 0x01 => some (word32 (inputStatus s i))
    | 0x80, 0x02 => some (word32 (axisStatus s i))
    | 0x80, 0x03 => some (word32 (connStatus s i))
    | 0x80, 0x04 => some (word32 (expirySeconds s))
    | 0x80, 0x05 => some (axisValues s i)
    | 0x80, 0x06 => some (s.safe.counters.flatMap word32)
    | 0xD0, 0x00 => some (word32 (panelStatus s))
    | _, _ => none

end Sys2Proof.Machine
end

