-- ==== Sys2Proof/Machine/Host.lean ====
section
/-! DEFINITION. Sessions (R498 to R504), event streams, subscriptions and batches (R520 to R526), and writes to objects
without a row of their own (R508 to R511). -/

namespace Sys2Proof.Machine

/-! ### Sessions (R498, R501, R502) -/

/-- Session number of an answer to an OPEN that opens none (the model's own). -/
def noSession : Nat := 9

/-- The LAN port whose counters an interface moves: the first LAN that is up, or the service port; none for USB. -/
def ifacePort (s : State) (iface : Nat) : Option Nat :=
  if iface = 1 then some 2 else if iface = 0 then some (if (s.net.lan.getD 0 {}).up then 0 else 1) else none

/-- An OPEN that is refused: EV239 with its cause (0 generation, 1 count, 2 authentication; no coding is stated), and the
port's counter of sessions refused. A failed authentication ends before any message. -/
def refuseSession (s : State) (iface : Nat) (seq : W32) (cause status : Nat) : State :=
  let s := raise s 239 [Config.argCode 239 cause]
  let s := match ifacePort s iface with
    | some p => lanCount s p 5
    | none => s
  if cause = 2 then s else send s (.response noSession seq status [])

/-- The interface can carry a session: it answers in this mode and its link is up; the role address only for the module that
holds the role (R484). An intruded module, and one whose bank 47 is wiped, open none (R538, R539), but SEALED does (R574). -/
def canOpen (s : State) (iface : Nat) (role : Bool) : Bool :=
  s.md.powered && ifaceAnswers s iface && (!role || (iface == 0 && s.net.roleAddr)) && !s.sec.intruded &&
    (s.sec.loaded || s.md.mode == .sealed) && s.sec.envFrom.isNone &&
    (match iface with
      | 0 => (s.net.lan.getD 0 {}).up || (s.net.lan.getD 1 {}).up
      | 1 => (s.net.lan.getD 2 {}).up
      | _ => iface == 2)

/-- The host is authenticated (R498): by a certificate under an enrolled vessel authority; none is required in SEALED, nor
over USB in PROVISIONED, where no other interface takes sessions (R541, R574). -/
def authenticated (s : State) (iface : Nat) (authority : Option Nat) : Bool :=
  if s.md.mode = .sealed then true
  else if s.sec.life = 1 then iface == 2
  else authority.elim false fun a => (authoritiesIn s).any fun e => e.1 == a

/-- The index of a new session (R501): the lowest free one of 0 to 7, or 8 on USB. -/
def freeSession (s : State) (iface : Nat) : Option Nat :=
  if iface = 2 then (if (sess s 8).open_ then none else some 8)
  else (List.range 8).find? fun i => !(sess s i).open_

/-- The highest generation from MIN_GEN to MAX_GEN that the module serves (R501, R519): 1 to 3. -/
def commonGen (minGen maxGen : Nat) : Option Nat :=
  let g := min maxGen 3
  if 1 ≤ g ∧ minGen ≤ g then some g else none

/-- SESSION_OPEN (R501). -/
def execSessionOpen (iface : Nat) (role : Bool) (minGen maxGen : Nat) (authority : Option Nat) (seq : W32) (at_ : Nat)
    (s : State) : Host.Outcome State Fault Refusal :=
  .next <|
    if !canOpen s iface role then s
    else
      let s := setPhase s at_
      if !authenticated s iface authority then refuseSession s iface seq 2 rfAccess
      else match commonGen minGen maxGen, freeSession s iface with
        | none, _ => refuseSession s iface seq 0 rfVersion
        | some _, none => refuseSession s iface seq 1 rfFull
        | some g, some i =>
          let s := { s with net := { s.net with openings := s.net.openings + 1 } }
          let s := setSess s i {
            open_ := true, opening := s.net.openings, gen := g, iface := iface, role := role, authority := authority
            lastTick := s.time.tick, soePos := ((s.field.soe.head?.map fun r => r.seq.toNat).getD s.field.soeSeq) }
          send s (.response i seq stDone
            (toLe 1 g ++ toLe 1 i ++ toLe 2 (hdrNode (theImage s).header) ++ toLe 1 s.md.slot ++ [0, 0, 0]))

/-- SESSION_CLOSE (R502). -/
def execSessionClose (r : Req) (s : State) : Host.Outcome State Fault Refusal :=
  .next <| withSession s r fun s => endSessions (reply s r 0 stDone) fun i _ => i == r.session

/-- SESSION_IDLE_TIMEOUT (R502): no message for IDLE_S seconds. -/
def execSessionIdleTimeout (session : Nat) (s : State) : Host.Outcome State Fault Refusal :=
  .next <|
    let x := sess s session
    if x.open_ && decide (x.lastTick + 8000 * (netNow s).idleS ≤ s.time.tick) then
      endSessions s fun i _ => i == session
    else s

/-- An operation other than a write: the session's generation must have it, and the mode must serve its object (R500,
R516). -/
def hostOperation (s : State) (r : Req) (gen : Nat) (obj : W32) (k : State → State) : State :=
  withSession s r fun s =>
    if (sess s r.session).gen < gen then reply s r obj rfVersion
    else if !modeServes s obj then reply s r obj rfMode
    else k s

/-! ### Event streams (R526) -/

/-- The object that identifies stream NOTIFYs. -/
def streamObj : W32 := 0xA0100000#32

/-- SEQ of the oldest record held (R525). -/
def oldestSeq (s : State) : Nat := (s.ev.buffer.head?.map fun e => e.seq.toNat).getD s.ev.next

/-- STREAM_EVENTS (R526). -/
def execStreamEvents (r : Req) (op : Nat) (mask : Byte) (fromSeq : W32) (s : State) : Host.Outcome State Fault Refusal :=
  .next <| hostOperation s r 2 streamObj fun s =>
    let x := sess s r.session
    if 1 < op ∨ 15 < mask.toNat then reply s r streamObj rfRange
    else if op = 0 then reply (setSess s r.session { x with stream := none }) r streamObj stDone
    else
      let pos := if fromSeq = 0xFFFFFFFF#32 then s.ev.next else max fromSeq.toNat (oldestSeq s)
      reply (setSess s r.session { x with stream := some (mask, pos) }) r streamObj stDone

/-- A list in pieces of at most 64; `n` bounds their number. -/
def pieces64 {α : Type} : Nat → List α → List (List α)
  | 0, _ => []
  | n + 1, l => if l.isEmpty then [] else l.take 64 :: pieces64 n (l.drop 64)

/-- The records that a session's stream has not carried are sent, up to 64 in a NOTIFY (R526). -/
def streamBoundary (s : State) (i : Nat) : State :=
  let x := sess s i
  match x.stream with
  | none => s
  | some (mask, pos) =>
    let l := s.ev.buffer.filter fun e => decide (pos ≤ e.seq.toNat) && mask.getLsbD e.cls
    let s := setSess s i { x with stream := some (mask, max pos s.ev.next) }
    (pieces64 64 l).foldl (fun s p => send s (.stream i p)) s

/-! ### Subscriptions (R520 to R522) -/

/-- SUBSCRIBE (R520). -/
def execSubscribe (r : Req) (object : W32) (action minTicks : Nat) (s : State) : Host.Outcome State Fault Refusal :=
  .next <| hostOperation s r 3 object fun s =>
    let x := sess s r.session
    let others := x.subs.filter fun b => b.object != object
    if (objAccess object).isNone then reply s r object rfObject
    else if action = 0 then reply (setSess s r.session { x with subs := others }) r object stDone
    else if action ≠ 1 ∨ minTicks < 1 ∨ 8000 < minTicks ∨ (boundaryObject s object).isNone then reply s r object rfRange
    else match x.subs.find? fun b => b.object == object with
      | some _ =>
        let put (b : SubSt) : SubSt := if b.object = object then { b with minTicks := minTicks } else b
        reply (setSess s r.session { x with subs := x.subs.map put }) r object stDone
      | none =>
        if 64 ≤ x.subs.length then reply s r object rfFull
        else reply (setSess s r.session { x with subs := x.subs ++ [⟨object, minTicks, none, 0, none, 0⟩] }) r object stDone

/-- One subscription at a boundary: what it sends, and what it becomes. A change is a difference from the newest content
that was sent or waits to be sent; a waiting NOTIFY is replaced by a newer change (R521). -/
def subBoundary (tick : Nat) (now : Option Bytes) (b : SubSt) : SubSt × Option (Nat × Nat × Bytes) :=
  match now with
  | none => (b, none)
  | some c =>
    let newest := if b.unsent.isSome then b.unsent.map (·.2) else b.content
    let b := if newest = some c then b
      else { b with unsent := some (tick, c), skipped := if b.unsent.isSome then b.skipped + 1 else b.skipped }
    match b.unsent with
    | none => (b, none)
    | some (t, d) =>
      if b.content.isSome && decide (tick < b.lastTick + b.minTicks) then (b, none)
      else ({ b with content := some d, lastTick := tick, unsent := none, skipped := 0 }, some (t, b.skipped, d))

/-- The subscriptions of a session at a boundary. -/
def subsBoundary (s : State) (i : Nat) : State :=
  let x := sess s i
  let l := x.subs.map fun b =>
    (b.object, subBoundary s.time.tick (if modeServes s b.object then boundaryObject s b.object else none) b)
  let s := setSess s i { x with subs := l.map fun e => e.2.1 }
  l.foldl (fun s e =>
    match e.2.2 with
    | some (t, k, d) => send s (.notify i e.1 t k d)
    | none => s) s

/-- What every open session is sent at a boundary: subscriptions first, then its stream. -/
def sessionsBoundary (s : State) : State :=
  ((s.net.sess.filter fun e => e.2.open_).map (·.1)).foldl (fun s i => streamBoundary (subsBoundary s i) i) s

/-! ### Batches (R523, R524) -/

/-- What an entry of a batch writes. -/
inductive BatchItem where
  | loopMode (c mode : Nat)
  | manual (c : Nat) (v : F64)
  | apply (c : Nat) (v : W32)
  | setting (i : Nat) (d : Bytes)
  | decl (g : W32)
  | none_
  deriving DecidableEq, Repr

/-- An entry's item; none_ for an object that may not be an entry, and for data that its object does not take. -/
def batchItem (e : BatchEntry) : BatchItem :=
  let c := objIndex e.object
  let n := e.data.length
  match objClass e.object, objSub e.object with
  | 0x10, 0x01 =>
    let k := le e.data 0 2
    if n = 2 ∧ 1 ≤ k ∧ k ≤ 5 then .loopMode c (k - 1) else .none_
  | 0x10, 0x03 => if n = 8 then .manual c (BitVec.ofNat 64 (le e.data 0 8)) else .none_
  | 0x10, 0x04 => if n = 4 then .apply c (BitVec.ofNat 32 (le e.data 0 4)) else .none_
  | 0x90, 0x01 => if n = 4 ∧ c = 0 then .decl (BitVec.ofNat 32 (le e.data 0 4)) else .none_
  | 0x90, 0x10 => .setting c e.data
  | _, _ => .none_

/-- The code with which an entry is refused by its owner; none when it is accepted. -/
def batchCheck (s : State) (e : BatchEntry) : Option Nat :=
  match batchItem e with
  | .loopMode c m => loopModeCheck s c m
  | .manual c _ => manualCheck s c
  | .apply c v => applyCheck s c v
  | .setting i d => settingCheck s i d
  | .decl g => declCheck s g
  | .none_ => some rfRange

/-- One accepted entry takes its effect; the number counts the entries that complete later. -/
def batchOne (r : Req) (acc : State × Nat) (e : BatchEntry) : State × Nat :=
  let (s, n) := acc
  match batchItem e with
  | .loopMode c m => (loopModeAccept s r c m, n + 1)
  | .manual c v => (manualAccept s c v, n)
  | .apply c v => (applyAccept s c v, n)
  | .setting i d => let (s, done) := settingAccept s (originOf s r) i d; (s, if done then n else n + 1)
  | .decl g => let (s, done) := declAccept s (originOf s r) g; (s, if done then n else n + 1)
  | .none_ => (s, n)

/-- The first entry of a batch that is refused: its position and its code. -/
def batchRefusal (s : State) : List BatchEntry → Nat → Option (Nat × Nat)
  | [], _ => none
  | e :: l, i =>
    match batchCheck s e with
    | some x => some (i, x)
    | none => batchRefusal s l (i + 1)

/-- BATCH_WRITE (R523, R524). -/
def execBatchWrite (r : Req) (entries : List BatchEntry) (s : State) : Host.Outcome State Fault Refusal :=
  .next <| withSession s r fun s =>
    if (sess s r.session).gen < 3 then refuse s r 0 rfVersion
    else if !modeServes s 0x10010000#32 then refuse s r 0 rfMode
    else if s.md.mode = .change then refuse s r 0 rfBusy
    else if entries.length < 1 ∨ 32 < entries.length then refuse s r 0 rfRange
    else match batchRefusal s entries 0 with
      | some (i, x) => raise (reply s r 0 x (toLe 2 i)) 9 [w32 x]
      | none =>
        let (s, n) := entries.foldl (batchOne r) (s, 0)
        let s := entries.foldl (fun s e => wrote s e.object) s
        let o := originOf s r
        sendChanges (if n = 0 then reply s r 0 stDone
          else reply { s with net := { s.net with batches := ⟨o, n⟩ :: s.net.batches } } r 0 stAccepted)

end Sys2Proof.Machine
end

