-- ==== Sys2Proof/Machine/ObjectWrite.lean ====
section
/-! DEFINITION. OBJECT_WRITE (R511): a WRITE as it stands in a message, an object and its bytes. A write of the form that a
row of its own names is that row's command; every other write is refused with the code that its form or its object gives. -/

namespace Sys2Proof.Machine

/-- The value of a payload, little-endian (R510). -/
def payload (d : Bytes) : Nat := le d 0 d.length

/-- A write that is refused with a code once its mode and generation are served. -/
def refuseWrite (r : Req) (obj : W32) (code : Nat) (s : State) : Host.Outcome State Fault Refusal :=
  .next (hostWrite s r obj fun s => refuse s r obj code)

/-- A command object of 16 bits whose bits 15:8 are reserved (R28, R510): its code goes to k. -/
def code16 (r : Req) (obj : W32) (d : Bytes) (s : State)
    (k : Nat → Host.Outcome State Fault Refusal) : Host.Outcome State Fault Refusal :=
  if d.length ≠ 2 ∨ 256 ≤ payload d then refuseWrite r obj rfRange s else k (payload d)

/-- A mode command by its code (Table 02.5); an unlisted one is refused with REFUSED_MODE, after BUSY (R78). -/
def writeMode (r : Req) (code : Nat) (s : State) : Host.Outcome State Fault Refusal :=
  match code with
  | 1 => execModeStart r s
  | 2 => execModeStop r s
  | 3 => execModeContinue r s
  | 4 => execModeAcknowledge r s
  | 5 => execModeReset r s
  | 6 => execModeRoleSwap r s
  | 7 => execInjectionOn r s
  | 8 => execInjectionOff r s
  | 9 => execArmBreakpoints r s
  | 10 => execDisarmBreakpoints r s
  | 11 => execPrepareReturn r s
  | _ => .next (modeCommand r { mode := fun _ => true } (fun s => s) s)

/-- The mirage command of 24 bytes (Table 04.6). -/
def writeMirage (r : Req) (d : Bytes) (s : State) : Host.Outcome State Fault Refusal :=
  let cmd : MirageCmd := {
    kind := le d 1 1, ty := le d 2 1, brick := le d 8 2, index := le d 0x0C 4, value := BitVec.ofNat 64 (le d 0x10 8)
    reserved := !(zeroAt d 3 5 && zeroAt d 0x0A 2) }
  if d.length ≠ 24 then refuseWrite r mirageObj rfRange s
  else match le d 0 1 with
    | 1 => execMiragePlace r cmd s
    | 2 => execMirageRelease r cmd s
    | 3 => if cmd.reserved then refuseWrite r mirageObj rfRange s else execMirageReleaseAll r s
    | _ => refuseWrite r mirageObj rfRange s

/-- An exchange command by its code (Table 05.1). -/
def writeExchange (r : Req) (code : Nat) (s : State) : Host.Outcome State Fault Refusal :=
  match code with
  | 1 => execExchangeStage r s
  | 2 => execExchangeActivate r s
  | 3 => execExchangeUnstage r s
  | _ => .next (hostCommand s r exchObj fun s =>
      refuse s r exchObj (if s.exch.state = 1 ∨ s.exch.origin.isSome then rfBusy else rfMode))

/-- A loop mode request by its code (Table 06.7). -/
def writeLoopMode (r : Req) (c code : Nat) (s : State) : Host.Outcome State Fault Refusal :=
  match code with
  | 1 => execLoopModeManual r c s
  | 2 => execLoopModeAuto r c s
  | 3 => execLoopModeCascade r c s
  | 4 => execLoopModeExternal r c s
  | 5 => execLoopModeHold r c s
  | _ => refuseWrite r (0x10010000#32 + w32 c) rfRange s

/-- The injection command of 64 bytes (Table 07.6). -/
def writeInjection (r : Req) (c : Nat) (d : Bytes) (s : State) : Host.Outcome State Fault Refusal :=
  let cmd : InjCmd := {
    signal := le d 1 1, point := le d 2 1, order := le d 3 1, hold := le d 4 2, startTick := le d 8 8, duration := le d 0x10 4
    msPeriod := le d 0x14 4, amplitude := leF64 d 0x18, f0 := leF64 d 0x20, f1 := leF64 d 0x28
    msHarm := BitVec.ofNat 32 (le d 0x30 4), seed := BitVec.ofNat 32 (le d 0x34 4)
    reserved := !(zeroAt d 6 2 && zeroAt d 0x38 8) }
  let obj := 0x10300000#32 + w32 c
  if d.length ≠ 64 then refuseWrite r obj rfRange s
  else match le d 0 1 with
    | 1 => execInjectionStart r c cmd s
    | 2 => if cmd.reserved then refuseWrite r obj rfRange s else execInjectionStop r c s
    | _ => refuseWrite r obj rfRange s

/-- A CAN port command by its code (R474). -/
def writePort (r : Req) (p code : Nat) (s : State) : Host.Outcome State Fault Refusal :=
  match code with
  | 1 => execCanRecover r p s
  | 2 => execFlushFifo r p s
  | 3 => execFlushLaunch r p s
  | 4 => execFlushAll r p s
  | _ => .next (hostPort r p code s)

/-- A time command: its code in bits 7:0, RATE in bits 15:8 (R495, Table 15.5). RATE is a field of SLEW alone, reserved for
the others. -/
def writeTime (r : Req) (d : Bytes) (s : State) : Host.Outcome State Fault Refusal :=
  let code := le d 0 1
  let rate := le d 1 1
  if d.length ≠ 2 then refuseWrite r timeObj rfRange s
  else if code ≠ 1 ∧ rate ≠ 0 then refuseWrite r timeObj rfRange s
  else match code with
    | 1 => execTimeSlew r rate s
    | 2 => execTimeStep r s
    | 3 => execTimeReject r s
    | 4 => execHaltSlew r s
    | _ => .next (hostCommand s r timeObj fun s => refuse s r timeObj (if timeBusy s then rfBusy else rfMode))

/-- A capture command by its code (R262). -/
def writeCapture (r : Req) (code : Nat) (s : State) : Host.Outcome State Fault Refusal :=
  match code with
  | 1 => execCaptureArm r s
  | 2 => execCaptureForceTrigger r s
  | 3 => execCaptureAbort r s
  | _ => refuseWrite r 0xB0010000 rfRange s

/-- The region request of 16 bytes (R198). -/
def writeRegion (r : Req) (d : Bytes) (s : State) : Host.Outcome State Fault Refusal :=
  if d.length ≠ 16 then refuseWrite r 0xE0000000 rfRange s
  else execRegionUpdateRequest r {
    kind := le d 0 1, op := le d 1 1, index := le d 4 4, length := le d 8 4, crc := BitVec.ofNat 32 (le d 0x0C 4)
    reserved := !zeroAt d 2 2 } s

/-- A write of exactly n bytes, its value to k (R510). -/
def sized (r : Req) (obj : W32) (n : Nat) (d : Bytes) (s : State)
    (k : Nat → Host.Outcome State Fault Refusal) : Host.Outcome State Fault Refusal :=
  if d.length ≠ n then refuseWrite r obj rfRange s else k (payload d)

/-- The writable objects of classes 0x01 to 0x10. -/
def writeLow (r : Req) (obj : W32) (d : Bytes) (s : State) : Host.Outcome State Fault Refusal :=
  let i := objIndex obj
  match objClass obj, objSub obj with
  | 0x01, _ => execSignerEnrol r (i - 0x30) d s
  | 0x02, 0x01 => code16 r obj d s fun c => writeMode r c s
  | 0x02, 0x19 => sized r obj 4 d s fun v => execCourseCounterClear r i (w32 v) s
  | 0x02, 0x20 => sized r obj 4 d s fun v => execBreakpointWrite r i (w32 v) s
  | 0x02, 0x30 => writeMirage r d s
  | 0x02, _ => code16 r obj d s fun c => writeExchange r c s
  | 0x10, 0x01 => code16 r obj d s fun c => writeLoopMode r i c s
  | 0x10, 0x03 => sized r obj 8 d s fun v => execManualValueWrite r i (BitVec.ofNat 64 v) s
  | 0x10, 0x04 => sized r obj 4 d s fun v => execApply r i (w32 v) s
  | _, _ => writeInjection r i d s

/-- The writable objects of classes 0x30 to 0xE0. -/
def writeHigh (r : Req) (obj : W32) (d : Bytes) (s : State) : Host.Outcome State Fault Refusal :=
  let i := objIndex obj
  match objClass obj, objSub obj with
  | 0x30, 0x02 => sized r obj 4 d s fun v => execChannelClear r i (w32 v) s
  | 0x30, 0x20 => sized r obj 8 d s fun v => execTrimCurrentWrite r i (BitVec.ofNat 64 v) s
  | 0x30, _ => sized r obj 1 d s fun v => execTrimModeWrite r (BitVec.ofNat 8 v) s
  | 0x50, _ => code16 r obj d s fun c => writePort r i c s
  | 0x60, _ => writeTime r d s
  | 0x90, 0x01 => sized r obj 4 d s fun v => execSettingsComplete r (w32 v) s
  | 0x90, _ => execSettingWrite r i d s
  | 0xB0, 0x00 => execCaptureConfigure r d s
  | 0xB0, _ => code16 r obj d s fun c => writeCapture r c s
  | 0xC0, 0x01 => execAttestationNonce r d s
  | 0xC0, _ => execAuthorityEnrol r (i - 0x10) d s
  | 0xD0, _ => code16 r obj d s fun c => if c = 1 then execLampTest r s else refuseWrite r obj rfRange s
  | 0xE0, 0x00 => writeRegion r d s
  | 0xE0, 0x02 => execRegionDataWrite r i d s
  | _, _ => sized r obj 4 d s fun v => execRegionCancel r i (w32 v) s

/-- OBJECT_WRITE (R508, R511): an identifier that no table lists is refused with REFUSED_OBJECT, a read-only object with
REFUSED_ACCESS. -/
def execObjectWrite (r : Req) (object : W32) (data : Bytes) (s : State) : Host.Outcome State Fault Refusal :=
  match objAccess object with
  | none => refuseWrite r object rfObject s
  | some .ro | some .named => refuseWrite r object rfAccess s
  | some _ => if objClass object ≤ 0x10 then writeLow r object data s else writeHigh r object data s

end Sys2Proof.Machine
end

