-- ==== Sys2Proof/Machine/Supply.lean ====
section
/-! DEFINITION. Supply, clocks, lockstep and die temperature (R35, R93, R347, R577, R578, R590). -/

namespace Sys2Proof.Machine

/-- No logic feed is in its band. -/
def noFeed (s : State) : Bool := s.sup.inRange.all fun b => !b

/-- LOGIC_FEED_LOW (R577): a feed leaves its band; EV252 with the feed and its voltage. -/
def execLogicFeedLow (feed : Nat) (volts : F64) (at_ : Nat) (s : State) : Host.Outcome State Fault Refusal :=
  .next <|
    if !s.md.powered || !(s.sup.inRange.getD feed false) then s
    else
      raise { setPhase s at_ with sup := { s.sup with inRange := lset s.sup.inRange feed false } } 252 (w32 feed :: wF64 volts)

/-- LOGIC_FEED_RESTORED (R577): EV253. -/
def execLogicFeedRestored (feed : Nat) (at_ : Nat) (s : State) : Host.Outcome State Fault Refusal :=
  .next <|
    if !s.md.powered || s.sup.inRange.getD feed true then s
    else raise { setPhase s at_ with sup := { s.sup with inRange := lset s.sup.inRange feed true } } 253 [w32 feed]

/-- SUPPLY_MONITOR_FAULT (R347 cause 4, R578): with both feeds low the module switches its rails off 5 ms (40 ticks)
later; in KILN or LOAD the start begins again instead (R93). -/
def execSupplyMonitorFault (at_ : Nat) (s : State) : Host.Outcome State Fault Refusal :=
  .next <|
    if !s.md.powered then s
    else if noFeed s && (s.md.mode == .kiln || s.md.mode == .load) then startAgain s
    else
      let t := s.time.tick
      let s := abdicate (setPhase s at_) 4
      if noFeed s && s.sup.railsOffAt.isNone then { s with sup := { s.sup with railsOffAt := some (t + 40) } } else s

/-- INTERNAL_RAILS_OFF (R578): 5 ms after the fault, whether or not the feeds have returned, the module is without power. -/
def execInternalRailsOff (s : State) : Host.Outcome State Fault Refusal :=
  .next <|
    match s.sup.railsOffAt with
    | none => s
    | some t => if s.md.powered && (!s.md.ticking || decide (t ≤ s.time.tick)) then powerOff s else s

/-- CLOCK_MONITOR_FAULT (R35): abdication cause 3. A failed RING clock (domain 8) breaks the ring at the module (R435). -/
def execClockMonitorFault (domain : Nat) (at_ : Nat) (s : State) : Host.Outcome State Fault Refusal :=
  .next <|
    if !s.md.powered || decide (12 < domain) then s
    else
      let s := setPhase s at_
      let s := if domain = 8 then { s with ring := { s.ring with forwarding := false } } else s
      abdicate s 3

/-- LOCKSTEP_MISMATCH (R347): abdication cause 1; a mismatch of the management pair (2) leaves it unable to act (R349). -/
def execLockstepMismatch (pair : Nat) (at_ : Nat) (s : State) : Host.Outcome State Fault Refusal :=
  .next <|
    if !s.md.powered || decide (2 < pair) then s
    else
      let s := setPhase s at_
      abdicate { s with md := { s.md with mgmtAlive := s.md.mgmtAlive && pair != 2 } } 1

/-- DIE_TEMPERATURE_WARNING (R590): EV254 at +100 °C, EV255 when it falls back below +95 °C. -/
def execDieTemperatureWarning (celsius : Int) (at_ : Nat) (s : State) : Host.Outcome State Fault Refusal :=
  .next <|
    if !s.md.powered then s
    else if !s.sup.hot && decide (100 ≤ celsius) then
      raise { setPhase s at_ with sup := { s.sup with hot := true } } 254 []
    else if s.sup.hot && decide (celsius < 95) then
      raise { setPhase s at_ with sup := { s.sup with hot := false } } 255 []
    else s

end Sys2Proof.Machine
end

