-- ==== Sys2Proof/Machine/Reads.lean ====
section
/-! DEFINITION. The content of every readable host object (chapter 16 and the owners' tables) and the outcome of a READ
(R508 to R518). The table of commands has no row for a READ without effect: these functions say what one returns. -/

namespace Sys2Proof.Machine

/-- A 64-bit object, a binary64 and a list of 32-bit counters. -/
def word64 (n : Nat) : Bytes := toLe 8 n
def bytes64 (x : F64) : Bytes := toLe 8 x.toNat
def words32 (l : List Nat) : Bytes := l.flatMap word32

/-! ### Classes 0x01 and 0x02 -/

/-- "SVG-PSC88-A" (Table 16.3). -/
def partNumber : Bytes := [0x53, 0x56, 0x47, 0x2D, 0x50, 0x53, 0x43, 0x38, 0x38, 0x2D, 0x41]

/-- Version word of the firmware stage (Table 16.3): MAJOR, MINOR, PATCH in this order. -/
def stageVersion (s : State) (k : Nat) : Bytes := word32 ((tget {} s.kiln.fw k).version.toNat)

/-- 0x0100_0040 (Table 17.8). -/
def securityStatus (s : State) : Nat :=
  s.sec.lastWipe % 16 * 2 ^ 8 + (s.sec.signers.filter fun e => !e.2.key.isEmpty).length % 8 * 2 ^ 4 +
    (s.sec.authorities.filter fun e => !e.2.isEmpty).length % 8 * 2 + bit s.sec.intruded 0

/-- 0x0110_000b (Table 03.8). -/
def bankWord (x : BankSt) : Nat :=
  x.failReason % 256 * 2 ^ 16 + bit x.writing 3 + bit x.fallback 2 + bit x.running 1 + bit x.valid 0

/-- A bank's status as it is reported: without an Image Key it is not valid, not written, and its FAIL_REASON is 13 (R104). -/
def bankReport (s : State) (b : Nat) : BankSt :=
  if s.kiln.keyPresent then bank s b else { bank s b with valid := false, writing := false, failReason := 13 }

/-- SEQUENCE of a bank as its header holds it (R113); without an Image Key there is none to return. -/
def bankSequence (s : State) (b : Nat) : Nat :=
  if s.kiln.keyPresent then hdrSequence (bankHeader (bank s b).bytes) else (Config.absentBankWord b).toNat

/-- The header's FLAGS word (R106), likewise; its reserved bits 31:4 and 2 read 0 (R27, Table 03.5). -/
def bankFlags (s : State) (b : Nat) : Nat :=
  let w := if s.kiln.keyPresent then hdrFlags (bankHeader (bank s b).bytes) else (Config.absentBankWord (2 + b)).toNat
  w % 4 + w / 8 % 2 * 8

/-- Image-signer slot (Table 17.7): the endorsement of the write is not kept and reads as 0. -/
def signerBytes (x : SignerSt) : Bytes :=
  padTo 120 (word64 x.id.toNat ++ padTo 32 x.key ++ word32 (if x.key.isEmpty then 0 else 1))

/-- Class 0x01 (Tables 16.3, 03.8, 17.7, 17.8). -/
def content01 (s : State) (gen sub i : Nat) : Option Bytes :=
  match sub, i with
  | 0x00, 0x00 => some (padTo 64 (padTo 16 partNumber ++ padTo 16 Config.serialNumber ++ toLe 2 Config.hardwareRevision
      ++ toLe 2 (hdrNode (theImage s).header) ++ toLe 1 s.md.slot ++ toLe 1 s.sec.life))
  | 0x00, 0x10 => some (padTo 32 (word32 Config.bootRomVersion.toNat ++ (List.range 6).flatMap fun k => stageVersion s (k + 1)))
  | 0x00, 0x20 => some (padTo 16 (toLe 2 2 ++ [0, 0] ++ toLe 2 1 ++ toLe 2 7 ++ toLe 2 2 ++ toLe 2 3))
  | 0x00, 0x30 => some (padTo 8 ([0x07] ++ toLe 1 gen ++ toLe 1 Config.lvRange.1 ++ toLe 1 Config.lvRange.2))
  | 0x00, 0x40 => some (word32 (securityStatus s))
  | 0x00, 0x41 => some (words32 s.sec.counters)
  | 0x10, _ =>
    if i < 2 then some (word32 (bankWord (bankReport s i)))
    else if i = 0x10 ∨ i = 0x11 then some (word64 (bankSequence s (i - 0x10)))
    else if i = 0x20 ∨ i = 0x21 then some (word32 (bankFlags s (i - 0x20)))
    else if 0x30 ≤ i ∧ i ≤ 0x33 then some (signerBytes (tget {} s.sec.signers (i - 0x30)))
    else none
  | _, _ => none

/-- 0x0210_000c (Table 04.8). -/
def courseStatus (s : State) (c : Nat) : Nat :=
  let x := course s c
  (if c = 0 then 0 else x.consec % 256 * 2 ^ 16) + bit (c == 0 && x.warned) 5 + bit x.trapped 4 + x.state % 4 * 4 +
    bit x.firstScan 1 + bit (courseDef (theImage s) c).isSome 0

/-- LOAD of Table 04.9: execution time in the last 8,000 ticks as a share of them, in units of 0.01 %, rounded down: the spec
names no rounding (DESIGN CHOICE, assumption 85). -/
def courseLoad (s : State) (x : CourseSt) : Nat :=
  let l := nowNs s - 8000 * tickNs
  ((endStretch s x).busy.map fun b => b.2 - max b.1 l).sum / 100000

/-- 0x0220_000b (Table 04.5). -/
def breakWord (x : BreakSt) : Nat := bit x.defined 31 + bit x.armed 30 + bit x.reached 29 + x.brick % 65536

/-- A mirage list entry (Table 04.6); all zeros for a free one. -/
def mirageBytes (m : Option Mirage) : Bytes :=
  match m with
  | none => List.replicate 24 0
  | some m => toLe 1 1 ++ toLe 1 m.kind ++ toLe 1 m.ty ++ List.replicate 5 0 ++ toLe 2 m.brick ++ [0, 0] ++ toLe 4 m.index
      ++ word64 m.value.toNat

/-- 0x0251_0000 (Table 05.3). -/
def exchangeStatus (s : State) : Nat := s.exch.reason % 256 * 2 ^ 16 + s.exch.phase % 16 * 2 ^ 8 + s.exch.state % 16

/-- Class 0x02 (Tables 02.4, 04.5, 04.6, 04.8, 04.9, 05.3). -/
def content02 (s : State) (sub i : Nat) : Option Bytes :=
  let x := course s i
  match sub with
  | 0x00 => some (word32 (modeStatus s))
  | 0x10 => some (word32 (courseStatus s i))
  | 0x11 => some (word32 x.lastTime)
  | 0x12 => some (word32 x.maxTime)
  | 0x13 => some (word64 x.activations)
  | 0x14 => some (word32 x.overruns)
  | 0x15 => some (word32 x.skipped)
  | 0x16 => some (word32 x.div0)
  | 0x17 => some (word32 x.suppressed)
  | 0x18 => some (word32 (courseLoad s x))
  | 0x19 => some (word32 (bit x.clearDue 0))
  | 0x20 => some (word32 (breakWord (tget {} s.crs.bp i)))
  | 0x31 => some (mirageBytes (tfind s.crs.mirages i))
  | 0x32 => some (toLe 2 s.crs.mirages.length)
  | 0x40 => some (shownData s i)
  | 0x51 => some (word32 (exchangeStatus s))
  | 0x52 => some (word64 s.exch.switchTick)
  | 0x53 => some (words32 s.exch.plan)
  | _ => none

/-! ### Classes 0x10 and 0xB0 -/

/-- 0x1031_00cc (Table 07.7). -/
def injectionStatus (x : InjSt) : Nat :=
  x.cause % 256 * 2 ^ 24 + (x.cmd.elim 0 fun c => c.signal % 16 * 2 ^ 12 + c.point % 4 * 2 ^ 8) + x.state % 8

/-- Class 0x10 (Tables 06.8, 06.9, 07.3, 07.7). -/
def content10 (s : State) (sub i : Nat) : Option Bytes :=
  let m := loop2 s i
  let t := tableSt s i
  match sub with
  | 0x00 => some (word32 (loopStatus s i))
  | 0x02 => some (m.q.flatMap bytes64)
  | 0x03 => some (bytes64 (loop s i).manual)
  | 0x04 => some (word32 (bit m.applyAt.isSome 0))
  | 0x05 => some (words32 m.counters)
  | 0x06 => some (padTo 128 (m.params.flatMap bytes64))
  | 0x07 => some (word64 m.lastTick)
  | 0x10 => some (word32 (s.loops.laneLoad.getD 1 0 % 65536 * 65536 + s.loops.laneLoad.getD 0 0 % 65536))
  | 0x20 => some (word32 (tableStatus s i))
  | 0x21 => some t.fore
  | 0x22 => some (word64 t.swapTick)
  | 0x23 => some (word32 t.duration)
  | 0x31 => some (word32 (injectionStatus (injSt s i)))
  | 0x32 => some (word32 (injSt s i).n)
  | _ => none

/-- 0xB002_0000 (Table 07.10). -/
def captureStatus (x : CaptureSt) : Nat := x.rows.length % 2 ^ 24 * 2 ^ 8 + x.cause % 16 * 2 ^ 4 + x.state % 8

/-- Position of capture channel c among the enabled ones, if it is enabled (Table 07.9). -/
def captureSlot (x : CaptureSt) (c : Nat) : Option Nat :=
  let mask := le x.rowConfig 0x0E 2
  if mask.testBit c then some ((List.range c).filter fun k => mask.testBit k).length else none

/-- Block b of the export of channel c (R265): rows beyond ROWS, and every row of a channel that is not enabled, read as
quiet NaN. -/
def captureExport (x : CaptureSt) (c b : Nat) : Bytes :=
  (List.range 128).flatMap fun r => bytes64 <|
    match captureSlot x c, x.rows[128 * b + r]? with
    | some k, some row => row.2.getD k fNaN
    | _, _ => fNaN

/-- Class 0xB0 (R260 to R265). -/
def contentB0 (s : State) (sub i : Nat) : Option Bytes :=
  let x := s.loops.cap
  match sub with
  | 0x00 => some (padTo 88 x.config)
  | 0x02 => some (word32 (captureStatus x))
  | 0x03 => some (word64 (x.trigTick.getD 0))
  | 0x04 => some (word64 ((x.rows.head?.map (·.1)).getD 0))
  | _ => if 0x10 ≤ sub ∧ sub ≤ 0x1F ∧ (x.state = 3 ∨ x.state = 4) then some (captureExport x (sub - 0x10) i) else none

/-! ### Class 0x20 -/

/-- PUB_STATUS (Table 08.10). -/
def pubStatus (x : SolvSt) : Nat :=
  min x.consecHeld 255 * 2 ^ 24 + min x.age 255 * 2 ^ 16 + x.cause % 16 * 2 ^ 12 + x.status % 16 * 2 ^ 8 + bit x.staleTags 2 +
    bit x.fallback 1 + bit x.held 0

/-- The publication of a context (Table 08.9). -/
def publicationBytes (s : State) (c : Nat) : Bytes :=
  let x := solv s c
  match solverDef (theImage s) c with
  | none => padTo 32 (word64 0 ++ word64 0 ++ word32 (pubStatus x))
  | some d =>
    let rows := d.nEq + d.nIneq
    word64 x.frameTick ++ word64 (if x.solved then x.solvedTick else 0) ++ word32 (pubStatus x) ++ toLe 2 d.n ++ toLe 2 rows
      ++ bytes64 (x.objective.getD fNaN) ++ ((List.range d.n).flatMap fun j => bytes64 (x.x.getD j 0))
      ++ ((List.range rows).flatMap fun r => bytes64 (x.mult.elim fNaN fun l => l.getD r 0))

/-- 0x2004_000t: planned density of the unit, and its largest busy share (Table 08.16), in units of 0.01 %, rounded down. -/
def unitLoad (s : State) (t : Nat) : Nat :=
  match (unitList s).find? fun u => u.1 == t with
  | none => 0
  | some u =>
    let d := planned s u.1 u.2
    d.1 * 10000 / d.2 % 65536 * 65536 + tget 0 s.solver.busyPeak t / 100000 % 65536

/-- Parameters in force in the layout of Table 08.6. -/
def modelBytes (s : State) (c : Nat) : Bytes :=
  let m := solv2 s c
  let from_ := ((recOf (theImage s) 0x31 c).map mpCourseFrom).getD 0
  toLe 2 m.params.length ++ toLe 2 from_ ++ toLe 2 m.curves.length ++ [0, 0] ++ m.params.flatMap bytes64 ++ m.curves.flatten

/-- The numerics report (Table 09.4). -/
def reportBytes (s : State) (c : Nat) : Bytes :=
  match (solv2 s c).report with
  | none => word64 0 ++ toLe 1 (solv s c).status ++ List.replicate 55 0
  | some (f, o) =>
    -- a frame without a job reports STATUS alone; a held one has no cause of Table 09.2
    if !o.job then word64 f ++ toLe 1 o.status ++ List.replicate 55 0
    else word64 f ++ toLe 1 o.status ++ toLe 1 (if o.status = 6 then 0 else o.cause) ++ toLe 1 o.start ++ toLe 1 o.retry ++ toLe 2 o.changes ++ toLe 2 o.changesP1
      ++ toLe 1 o.refine ++ [0, 0, 0] ++ word32 o.replaced ++ word32 o.firstReplaced.toNat ++ word32 o.mapped.toNat
      ++ bytes64 (o.residual.getD fNaN) ++ bytes64 o.tau ++ bytes64 o.violation ++ word64 o.signature.toNat

/-- Class 0x20 (Tables 08.6, 08.9, 08.14 to 08.16, 09.4). -/
def content20 (s : State) (sub i : Nat) : Option Bytes :=
  match sub with
  | 0x00 => some (word32 (solverStatus s i))
  | 0x01 => some (publicationBytes s i)
  | 0x02 => some (words32 (solv2 s i).counters)
  | 0x03 => some (word32 (tileWord s))
  | 0x04 => some (word32 (unitLoad s i))
  | 0x05 => some (modelBytes s i)
  | 0x06 => some (word64 (solv2 s i).lastSnap)
  | 0x07 => some (reportBytes s i)
  | _ => none

/-! ### Classes 0x30 to 0x80 -/

/-- SEQ of the oldest and of the newest record of a buffer (Tables 12.14, 16.7); 0 while it is empty. -/
def seqPair (l : List W32) : Nat := (l.head?.getD 0).toNat + (l.getLast?.getD 0).toNat * 2 ^ 32

/-- Class 0x30 (Tables 12.13, 12.14). -/
def content30 (s : State) (sub i : Nat) : Option Bytes :=
  match sub with
  | 0x00 => some (word32 (chanStatus s i))
  | 0x01 => some (bytes64 (chan s i).measured)
  | 0x02 => some (word32 0)
  | 0x03 => some (bytes64 (groupSt s i).volts ++ bytes64 (groupSt s i).amps)
  | 0x04 => some (words32 (chan s i).counters)
  | 0x11 => some (word64 (seqPair (s.field.soe.map (·.seq))))
  | 0x20 => some (bytes64 (tget 0 s.field.trim i))
  | 0x21 => some (toLe 1 s.field.trimMask.toNat)
  | 0x30 => some (word32 (s.field.cause % 16 * 2 ^ 4 + bit s.field.silence 0))
  | _ => none

/-- Class 0x40 (Tables 13.6, 13.7). -/
def content40 (s : State) (sub i : Nat) : Option Bytes :=
  let x := stn s i
  let mask (p : RModSt → Bool) : Nat := ((List.range 16).map fun m => bit (p (tget {} x.mods m)) m).sum
  match sub with
  | 0x00 => some (word32 (stationStatus s i))
  | 0x01 => some (word32 (s.ring.openHop % 256 * 2 ^ 16 + (s.ring.st.filter fun e => e.2.state == 3).length % 256 * 2 ^ 8 +
      bit (onTwin s) 1 + bit s.ring.opened 0))
  | 0x02 => some (words32 (x.counters.set 3 (Config.lateOutputs i s.time.tick).toNat))
  | 0x03 => some (word32 (mask (·.valid) * 65536 + mask (·.present)))
  | 0x04 => some (word64 x.sample)
  | _ => none

/-- A CAN frame record (Table 14.7); all zeros where there is none. -/
def canBytes (r : Option CanRec) : Bytes :=
  match r with
  | none => List.replicate 88 0
  | some r => padTo 88 (word64 r.stamp.ns ++ toLe 2 r.stamp.frac.toNat ++ toLe 1 r.port
      ++ toLe 1 (r.flags.toNat % 32 + r.stamp.quality % 4 * 32) ++ toLe 1 r.dlc ++ toLe 1 r.data.length ++ [0, 0]
      ++ word32 r.ident.toNat ++ word32 0 ++ r.data)

/-- Class 0x50 (Tables 14.10, 14.11). -/
def content50 (s : State) (sub i : Nat) : Option Bytes :=
  match sub with
  | 0x00 => some (word32 (portStatus s i))
  | 0x02 => some (words32 (port s i).counters)
  | 0x03 => some (word32 (port s i).dropped)
  | 0x10 => some (canBytes (tfind s.can.last i))
  | 0x11 => some (canBytes (tget {} s.can.slot i).last)
  | _ => none

/-- A signed 64-bit number. -/
def int64 (i : Int) : Bytes := toLe 8 (BitVec.ofInt 64 i).toNat

/-- Class 0x60 (Tables 15.9, 15.10). -/
def content60 (s : State) (sub i : Nat) : Option Bytes :=
  let held := if s.time.servo = 2 then s.time.tick - s.time.holdFrom else 0
  match sub with
  | 0x00 => some (word32 (timeStatus s))
  | 0x01 => some (bytes64 (fOfInt s.time.offset) ++ bytes64 (Config.pathDelay s.time.tick)
      ++ bytes64 (Config.frequencyCorrection s.time.tick) ++ bytes64 (fOfRat held 8000))
  | 0x03 => some (word64 s.time.ns ++ toLe 2 s.time.frac.toNat ++ [0, 0] ++ word32 s.time.tick)
  | 0x04 => some (word64 s.time.gm.toNat ++ int64 s.time.refused)
  | 0x10 =>
    let x := s.net.lan.getD i {}
    some (word32 (min x.peers.length 31 * 2 ^ 3 + (if x.up then x.speed % 4 else 0) * 2 + bit x.up 0))
  | 0x11 => some (words32 (s.net.lan.getD i {}).counters)
  | _ => none

/-- Class 0x70 (Tables 10.11 to 10.13). -/
def content70 (s : State) (sub : Nat) : Option Bytes :=
  let p := s.pair
  match sub with
  | 0x00 => some (word32 (pairStatus s))
  | 0x01 => some ((List.range 4).flatMap fun k => toLe 2 (min (p.stale.getD k 0) 65535))
  | 0x02 => some (word32 (p.lv % 256 * 2 ^ 24 + p.mf.1 % 256 * 2 ^ 16 + p.mf.2 % 256 * 2 ^ 8 +
      (p.lanes.getD 1 {}).state % 4 * 4 + (p.lanes.getD 0 {}).state % 4))
  | 0x03 => some (word32 (p.partnerDays % 65536 * 65536 + ownDays s))
  | 0x04 => some (words32 p.counters)
  | 0x05 => some (word32 (p.status.elim 0 fun f => f.tiles.toNat))
  | 0x06 => some (word32 ((mortarSel (theImage s)).worstTick % 65536 * 65536 + min p.largest 65535))
  | 0x07 => some (padTo 16 (word64 p.lastAbd.1 ++ toLe 1 p.lastAbd.2.1 ++ toLe 1 p.lastAbd.2.2))
  | _ => none

/-- Class 0x80 (Tables 11.8 to 11.10, R396). -/
def content80 (s : State) (sub i : Nat) : Option Bytes :=
  match sub with
  | 0x00 => some (word32 (safetyStatus s))
  | 0x01 => some (word32 (inputStatus s i))
  | 0x02 => some (word32 (axisStatus s i))
  | 0x03 => some (word32 (connStatus s i))
  | 0x04 => some (word32 (expirySeconds s))
  | 0x05 => some (axisValues s i)
  | 0x06 => some (words32 s.safe.counters)
  | _ => none

/-! ### Classes 0x90 to 0xE0 -/

/-- Class 0x90 (Table 03.9, R121, R124). -/
def content90 (s : State) (sub i : Nat) : Option Bytes :=
  match sub with
  | 0x00 => some (word32 (s.set.written % 65536 * 2 ^ 4 + s.set.state % 4))
  | 0x02 => some (word32 s.set.generation.toNat)
  | 0x10 => (settingByLow (theImage s) i).map fun _ => word64 (settingValue s i).toNat
  | _ => none

/-- Event status 0xA000_0000 (Table 16.8). -/
def eventStatus (s : State) (x : SessSt) : Nat :=
  let n (c : Nat) : Nat := min (s.ev.unacked.filter fun u => u.2.2.1 == c).length 255
  n 3 * 2 ^ 24 + n 2 * 2 ^ 16 + bit x.stream.isSome 0

/-- Journal status 0xA000_0001 (Table 19.4). -/
def journalStatus (s : State) : Nat :=
  min s.ev.held.length 64 * 2 ^ 16 + bit s.ev.gap 3 + bit (!s.kiln.keyPresent) 2 + bit s.ev.writing 1 + bit s.ev.ready 0

/-- Class 0xA0 (Tables 16.7, 16.8, 19.4). -/
def contentA0 (s : State) (x : SessSt) (sub i : Nat) : Option Bytes :=
  match sub with
  | 0x00 => some (word32 (if i = 0 then eventStatus s x else journalStatus s))
  | 0x01 =>
    let e := tget {} s.ev.src i
    some (word32 e.count ++ word32 (bit (s.ev.unacked.any fun u => u.2.1 == i) 0) ++ word64 e.last)
  | 0x03 => some (word64 (seqPair (s.ev.buffer.map (·.seq))))
  | _ => none

/-- Class 0xC0 (R99 to R101, R540): a quote that is not ready has no content yet. -/
def contentC0 (s : State) (session sub i : Nat) : Option Bytes :=
  match sub with
  | 0x00 => some (s.kiln.k.getD i [])
  | 0x02 => ((s.kiln.quotes.find? fun q => q.session == session && q.ready).bind (·.captured)).map (quoteBytes s)
  | 0x03 => if i = 0 then some s.sec.certs else some (tget [] s.sec.authorities (i - 0x10))
  | _ => none

/-- One ledger in 4 µV·s (Table 18.8), a signed 16-bit number. -/
def ledgerWord (s : State) (p : Nat) : Bytes := toLe 2 (BitVec.ofInt 16 (inUnits (tget 0 s.panel.ledger p) / ledgerUnit)).toNat

/-- Class 0xD0 (Tables 18.7, 18.8). -/
def contentD0 (s : State) (sub i : Nat) : Option Bytes :=
  let p := s.panel
  match sub with
  | 0x00 => some (word32 (panelStatus s))
  | 0x01 => some ((List.range 8).flatMap fun c => ledgerWord s (8 * i + c))
  | 0x02 => some ((List.range 120).map fun b => BitVec.ofNat 8 ((List.range 8).map fun c => bit (p.shown.contains (8 * b + c)) c).sum)
  | 0x03 => some (bytes64 (fDiv (fOfInt p.temp) (fOfInt 10)) ++ bytes64 (fOfInt p.ohms) ++ bytes64 (Config.vopMeasured s.time.tick))
  | 0x04 => some (words32 s.panel2.counters)
  | _ => none

/-- 0xE003_tttt (Table 05.8). -/
def ticketBytes (x : TicketSt) : Bytes :=
  word64 (x.index % 2 ^ 32 * 2 ^ 32 + x.reason % 256 * 2 ^ 24 + x.kind % 256 * 2 ^ 16 + x.status % 16)

/-- Class 0xE0 (R198, Table 05.8). -/
def contentE0 (s : State) (x : SessSt) (sub i : Nat) : Option Bytes :=
  match sub with
  | 0x01 => some (toLe 2 x.ticket)
  | 0x03 => some (ticketBytes (ticket s i))
  | 0x04 => some (word32 0)
  | _ => none

/-- The content of an object as the state has it, for a session; none where it has none to return now. 0xA002_0000 and 0x3010_0000, whose reading
moves a position, are EVENT_RECORDS_READ and SOE_READ. -/
def objectContent (s : State) (session : Nat) (obj : W32) : Option Bytes :=
  let x := sess s session
  let sub := objSub obj
  let i := objIndex obj
  match objClass obj with
  | 0x01 => content01 s x.gen sub i
  | 0x02 => content02 s sub i
  | 0x10 => content10 s sub i
  | 0x20 => content20 s sub i
  | 0x30 => content30 s sub i
  | 0x40 => content40 s sub i
  | 0x50 => content50 s sub i
  | 0x60 => content60 s sub i
  | 0x70 => content70 s sub
  | 0x80 => content80 s sub i
  | 0x90 => content90 s sub i
  | 0xA0 => contentA0 s x sub i
  | 0xB0 => contentB0 s sub i
  | 0xC0 => contentC0 s session sub i
  | 0xD0 => contentD0 s sub i
  | 0xE0 => contentE0 s x sub i
  | _ => none

/-- A write to an object can change what another one reads (R513). -/
def showsIn (written obj : W32) : Bool :=
  written == obj ||
    (let sub := objSub obj
     match objClass written, objSub written with
     | 0x02, 0x01 => objClass obj == 0x02 && sub == 0x20
     | 0x02, 0x30 => objClass obj == 0x02 && (sub == 0x31 || sub == 0x32)
     | 0x02, 0x50 => objClass obj == 0x02 && (sub == 0x51 || sub == 0x52 || sub == 0x53)
     | 0x10, 0x30 => objClass obj == 0x10 && (sub == 0x31 || sub == 0x32) && objIndex obj == objIndex written
     | 0x60, 0x02 => objClass obj == 0x60 && sub == 0x04
     | 0x90, _ => objClass obj == 0x90 && (sub == 0x00 || sub == 0x02)
     | 0xB0, 0x01 => objClass obj == 0xB0 && (sub == 0x02 || sub == 0x03 || sub == 0x04)
     | 0xE0, _ => objClass obj == 0xE0 && (sub == 0x01 || sub == 0x03)
     | _, _ => false)

/-- The objects whose content a host write can change, with a session where the content is a session's. -/
def writtenObjs (s : State) : List (Nat × W32) :=
  let row (base : Nat) (l : List Nat) : List (Nat × W32) := l.map fun i => (0, BitVec.ofNat 32 (base + i))
  row 0x01100030 (List.range 4) ++ row 0x02190000 (List.range 9) ++ row 0x02200000 (List.range 16)
    ++ row 0x02310000 (s.crs.mirages.map (·.1)) ++ row 0x02320000 [0] ++ row 0x02510000 [0] ++ row 0x02520000 [0]
    ++ row 0x02530000 [0] ++ row 0x10030000 (s.loops.l.map (·.1)) ++ row 0x10040000 (s.loops.m.map (·.1))
    ++ row 0x10310000 (s.loops.inj.map (·.1)) ++ row 0x10320000 (s.loops.inj.map (·.1)) ++ row 0x60040000 [0]
    ++ row 0x90000000 [0] ++ row 0x90020000 [0]
    ++ row 0x90100000 ((settingDefs (theImage s)).map fun d => d.index % 65536)
    ++ row 0xB0000000 [0] ++ row 0xB0020000 [0] ++ row 0xB0030000 [0] ++ row 0xB0040000 [0]
    ++ row 0xC0030010 (List.range 4) ++ (s.net.sess.map fun e => (e.1, 0xE0010000#32)) ++ row 0xE0030000 (s.tickets.map (·.1))

/-- Their contents at a boundary (R513). -/
def writtenNow (s : State) : Tab Bytes :=
  (writtenObjs s).filterMap fun e => (objectContent s e.1 e.2).map fun b => (e.1 * 2 ^ 32 + e.2.toNat, b)

/-- What an entry of a list reads that was not there at the last boundary. -/
def absentEntry (obj : W32) : Option Bytes :=
  match objClass obj, objSub obj with
  | 0x02, 0x31 => some (mirageBytes none)
  | 0xE0, 0x03 => some (ticketBytes {})
  | _, _ => none

/-- What a READ returns of an object: one that changes only at tick boundaries as it stood at the last boundary, and one that a
host has written since then as it stood there too (R513). -/
def objectRead (s : State) (session : Nat) (obj : W32) : Option Bytes :=
  match tfind s.net.objects obj.toNat with
  | some b => some b
  | none =>
    if s.net.touched.any fun w => showsIn w obj then
      let key := (if obj = 0xE0010000#32 then session else 0) * 2 ^ 32 + obj.toNat
      ((tfind s.net.before key).or (absentEntry obj)).or (objectContent s session obj)
    else objectContent s session obj

/-! ### A READ (R508 to R518) -/

/-- What a READ of OFFSET and COUNT answers: the STATUS of Table 15.8 and the bytes. A quote not ready is BUSY (R99); the
export of a capture is read in DONE and ABORTED only (R265). -/
def readObject (s : State) (session : Nat) (obj : W32) (offset count : Nat) : Nat × Bytes :=
  let gen := (sess s session).gen
  if gen < objGen obj then (rfVersion, [])
  else if !modeServes s obj then (rfMode, [])
  else match objAccess obj with
    | none => (rfObject, [])
    | some .wo => (rfAccess, [])
    | some .named => (rfAccess, [])
    | some _ =>
      match objectRead s session obj with
      | none => (if objClass obj = 0xC0 then stBusy else if objClass obj = 0x90 then rfObject else rfMode, [])
      | some b =>
        if gen = 1 ∧ 1024 < b.length then (rfVersion, [])
        else if b.length ≤ offset ∨ 65536 < count then (rfRange, [])
        else (stDone, (b.drop offset).take (if count = 0 then 65536 else count))

end Sys2Proof.Machine
end

