-- ==== Sys2Proof/Machine/Tick.lean ====
section
/-! DEFINITION. The two phase points at which a tick's work begins: TICK_BOUNDARY (phase 0 µs) and INPUT_IMAGE_COMPLETE
(phase 20 µs) of Table 01.5 (R39, R40, R47). -/

namespace Sys2Proof.Machine

/-! ### The time base (R20, R44) -/

/-- The next tick begins: its number times 125,000 ns is the vessel time (R20). -/
def advance (s : State) : State :=
  let t := (s.time.tick + 1) % 2 ^ 64
  { s with time := { s.time with tick := t, ns := t * tickNs, frac := 0, phase := 0 } }

/-- One tick of the LED test of R81 passes. -/
def lampTick (s : State) : State := { s with md := { s.md with lampTicks := s.md.lampTicks - 1 } }

/-! ### The latch of phase 0 µs (R40) -/

/-- Both token lines as sampled at phase 0 µs, and at phase 62.5 µs of the tick before (R335); a partner's line that rises
ends an ABDICATE frame's effect (R351). -/
def latchToken (s : State) (l : Latch) : State :=
  if !onTwin s then s
  else { s with pair := { s.pair with
      partnerToken := l.partnerToken, ownToken := l.ownToken, partnerHalf := l.partnerHalf, ownHalf := l.ownHalf
      abdicate := if l.partnerToken && !s.pair.partnerToken then none else s.pair.abdicate } }

/-- Everything that is latched at a tick boundary. -/
def latchAll (s : State) (l : Latch) : State :=
  let s := if fieldRuns s then latchField s l else s
  let s := if evaluates s.md.mode then canSlotImage s else s
  latchToken (sampleButton s l.button) l

/-! ### Mode transitions of the boundary (R64, R67) -/

/-- Table 02.2 has the transition from the module's mode: a command's from the modes that accept it (START from STOP, CONTINUE
from HOLD), the return from CHANGE, DEGRADED to RUN once repaired, and reactions. -/
def transAllowed (s : State) (t : Trans) : Bool :=
  let m := s.md.mode
  match t.dest with
  | .run => if t.code = 1 then m == .stop else if t.code = 3 then m == .hold
      else if t.cause = causeExchange then m == .change else m == .degraded
  | .stop => if t.code = 2 then [Mode.run, .hold, .degraded].contains m else m == .change
  | .change => [Mode.stop, .run, .degraded].contains m
  | .degraded => m == .change
  | .oasis => [Mode.stop, .run, .hold, .change, .degraded, .sync].contains m
  | _ => false

/-- The command that a transition completes is no longer outstanding (R78). -/
def cmdEnds (s : State) (o : Option Origin) : State :=
  if s.md.cmd.elim false fun c => some c.origin == o then { s with md := { s.md with cmd := none } } else s

/-- One transition at the boundary: taken, or discarded with REFUSED_MODE for its command (R67); an acknowledgement is
applied in its place (R84). -/
def takeTrans (s : State) (t : Trans) : State :=
  let s := cmdEnds s t.origin
  if t.code = 4 then applyAck s false
  else if !inControl s || !transAllowed s t then
    let s := if t.dest = .change then { s with exch := { s.exch with origin := none } } else s
    completeOpt s t.origin rfMode
  else
    let before := s.md.mode
    let s := if t.dest = .oasis ∧ before = .change then exchEnd s 14 else s
    let s := changeMode s t.dest t.cause
    if t.dest = .change then openWindow s before else completeOpt s t.origin stDone

/-- The transitions that wait, in the order of R67; equal ranks keep their order of arrival. -/
def transOrder (l : List Trans) : List Trans :=
  (List.range 9).flatMap fun r => l.filter fun t => t.rank == r

/-- Every transition that waits for the boundary. -/
def takeTransitions (s : State) : State :=
  let l := transOrder s.md.trans
  l.foldl takeTrans { s with md := { s.md with trans := [] } }

/-- A takeover is due at this boundary (R352). -/
def takeoverDue (s : State) : Bool := shadows s && s.pair.detected.elim false fun t => decide (t < s.time.tick)

/-- An honoured reset request that is discarded reports REFUSED_MODE (R67). -/
def resetDrop (s : State) : State :=
  let o := s.md.cmd.map (·.origin)
  completeOpt { s with md := { s.md with resetAt := none, cmd := none } } o rfMode

/-- An honoured reset request at its boundary (Table 02.8). A takeover at the same boundary comes first (R67): the request
stands only where the mode that the takeover brings permits it. -/
def resetBoundary (s : State) : State :=
  match s.md.resetAt with
  | none => s
  | some t =>
    if s.time.tick < t then s
    else if takeoverDue s then
      if [Mode.stop, .oasis].contains (takeoverMode s) then { s with md := { s.md with resetAt := some (s.time.tick + 1) } }
      else resetDrop s
    else if resetOutcome s = .kiln then
      let o := s.md.cmd.map (·.origin)
      enterKiln (completeOpt { s with md := { s.md with cmd := none } } o stDone)
    else resetDrop s

/-! ### Leaving LOAD (Table 02.2, R60, R112, R120, R360, R492) -/

/-- A module that leaves LOAD without a master starts vessel time from the later of BUILT and the newest stamp in its fault
journal, on the next whole tick; its servo is FREE (R492). -/
def startClock (s : State) : State :=
  if s.time.set then s
  else
    let t := max (hdrBuilt (theImage s).header) s.ev.newest
    let s := setClock s ((t + tickNs - 1) / tickNs * tickNs) 0
    { s with time := { s.time with servo := 4 } }

/-- The module may leave LOAD: the image is applied, vessel time is set or no longer waited for, and the pair has found a
common version (R112, R364, R492). -/
def loadDone (s : State) : Bool :=
  let c := netNow s
  s.md.mode == .load && s.kiln.applied && !s.pair.noCommon &&
    (s.time.set || s.time.waitOver || c.profile == 0 || decide (s.time.loadTick + 8 * c.acqWait ≤ s.time.tick))

/-- For the first W ticks after LOAD a VELOCITY is not valid (R236): what was latched before does not count. -/
def restartVelocity (s : State) : State :=
  { s with
    loops := { s.loops with posGood := s.loops.posGood.map (min 1) }
    ring := { s.ring with counts := [] } }

/-- LOAD ends: as SOLO in STOP or RUN with the token claimed, or as STANDBY in SYNC when the image digest is the partner's;
a different one keeps the module in LOAD with EV035. -/
def leaveLoad (s : State) : State :=
  if !loadDone s then s
  else if !onTwin s || !s.pair.partnerToken then
    let s := raise (startClock s) 5
    let s := restartVelocity { s with md := { s.md with role := .solo, token := onTwin s } }
    changeMode s (if startsInRun s then .run else .stop) causeStart
  else match s.pair.status with
    | none => s
    | some f =>
      if !s.pair.report then s
      else if f.digest ≠ hdrDigest (theImage s).header then
        if s.kiln.differs then s else raise { s with kiln := { s.kiln with differs := true } } 35
      else
        let s := raise (startClock s) 5
        toSync (restartVelocity { s with md := { s.md with role := .standby } }) causeStart

/-! ### What takes effect at a boundary -/

/-- Counter clears of courses, and the end of the window of LOAD (R167, Table 04.9): a stretch that ended before it goes. -/
def coursesBoundary (s : State) : State :=
  { s with crs := { s.crs with c := s.crs.c.map fun e =>
      let x := e.2
      let x := if x.clearDue then
        { x with clearDue := false, maxTime := 0, activations := 0, overruns := 0, skipped := 0, div0 := 0, suppressed := 0 }
        else x
      (e.1, { x with busy := x.busy.filter fun b => decide (s.time.tick * tickNs < b.2 + 8000 * tickNs) }) } }

/-- The trim mode and the trim currents written in the last tick are in force (R421). -/
def trimBoundary (s : State) : State :=
  { s with field := { s.field with
      trimMask := s.field.trimMaskNext.getD s.field.trimMask, trimMaskNext := none
      trim := s.field.trimNext.foldl (fun t e => tset t e.1 e.2) s.field.trim, trimNext := [] } }

/-- Instance-data updates whose brick belongs to no course that starts reach their commit point at the boundary: the global
variables, and every brick while courses do not run (R196). -/
def regionsBoundary (s : State) : State :=
  s.tickets.foldl (fun s e =>
    let x := ticket s e.1
    if x.kind = 3 ∧ x.status = 3 ∧ regionHeld s e.1 ∧ x.runTick < s.time.tick ∧ (x.index = 0 ∨ !coursesRun s) then commitInstance s e.1 else s) s

/-- Tables at the boundary: a rebuild that waited for a partner that has gone is complete; a table that no context names
swaps here (R247, R248). -/
def tablesBoundary (s : State) : State :=
  (s.loops.t.map (·.1)).foldl (fun s t =>
    let s := tableCompletes s t
    if (tableUser (theImage s) t).isNone then tableDue s t else s) s

/-- The input mirages that this tick's image takes (R160, R162). -/
def miragesBoundary (s : State) : State :=
  { s with crs := { s.crs with
      imageMirages := (s.crs.mirages.filter fun e => e.2.kind == 0 && !e.2.suspended).map (·.2) } }

/-! ### The standby's comparison (R332) -/

/-- One onboard output as the standby reads it, against what the active committed: the check of R413 on the active's drive
targets; EV053 at the third disagreement in a row. -/
def compareOne (l : Latch) (f : TickMortar) (s : State) (o : Nat × IoEntry) : State :=
  match kkOf o.2, f.outputs.find? fun v => v.1 == o.1 with
  | some kk, some v =>
    let a : Applied := if v.2 = offValue o.2 then .off else .value v.2
    let ts := (driveTarget o.2 a :: tget [] s.mortar.targets kk).take 4
    let s := { s with mortar := { s.mortar with targets := tset s.mortar.targets kk ts } }
    let view := setChan s kk { chan s kk with targets := ts }
    let r := if o.2.kind = 8 then aoCheck view kk (l.ao.getD (kk - 0x40) 0) else doCheck view kk (l.dv.getD kk 0)
    match r with
    | none => s
    | some ok =>
      let n := if ok then 0 else tget 0 s.mortar.runs kk + 1
      let s := { s with mortar := { s.mortar with runs := tset s.mortar.runs kk n } }
      if n = 3 then raise (pairCount s 7) 53 [w32 kk] else s
  | _, _ => s

/-- A run of disagreements ends where there is nothing to compare. -/
def compareNone (s : State) : State := { s with mortar := { s.mortar with targets := [], runs := [] } }

/-- The comparison of a STANDBY in TRACK with the values committed in the previous tick; without that tick's frame there is
nothing to compare. -/
def compareOutputs (s : State) (l : Latch) : State :=
  if s.md.role != .standby || s.md.mode != .track then compareNone s
  else match s.mortar.tick with
    | some f => if f.tick + 1 = s.time.tick then (onboardOutputs s).foldl (compareOne l f) s else compareNone s
    | none => compareNone s

/-! ### TICK_BOUNDARY -/

/-- The objects that change only at tick boundaries, and those that hosts write, are read anew (R76, R513). -/
def objectsBoundary (s : State) : State :=
  { s with net := { s.net with
      objects := boundaryObjs.filterMap fun o => (boundaryObject s o).map fun b => (o.toNat, b)
      before := writtenNow s, touched := [] } }

/-- The block's own happenings of a boundary, in order: time, the release of the last tick's events, latch, role, mode and
acknowledgement, and what waits for the boundary. -/
def boundary (s : State) (l : Latch) : State :=
  let s := releaseEventRecs (advance s)
  let s := latchAll (lampTick (slewTick (stepTime (prpTick s)))) l
  let s := lanesTick (staleTickBoundary (roleBoundary (linkTick s)))
  let s := resetBoundary (takeTransitions s)
  if s.md.mode = .kiln then s
  else
    let s := waitsAlone (settingsBoundary (mortarBoundary s))
    let s := trimBoundary (coursesBoundary (paramsVisible s))
    let s := schedule (miragesBoundary (stagingLoads (tablesBoundary (regionsBoundary s))))
    let s := compareOutputs (ringLaunch (captureQuotes (latchSafety (leaveLoad s) l))) l
    let s := if takeoverDue s then s else sendStatus s
    sendChanges (sessionsBoundary (objectsBoundary (panelNote s)))

/-- One period of the management core's own timer, before the tick counter runs (R81, R82): the LED test and the button. A
HALT that was entered from KILN reads the token lines (R59), and an honoured reset request enters KILN (R88). -/
def coreTick (s : State) (l : Latch) : State :=
  let s := lampTick (sampleButton s l.button)
  if s.md.mode ≠ .halt then s
  else
    let s := objectsBoundary (roleBoundary (latchToken s l))
    if s.md.resetAt.isNone then s
    else if resetOutcome s = .kiln then
      let o := s.md.cmd.map (·.origin)
      enterKiln (completeOpt { s with md := { s.md with cmd := none } } o stDone)
    else resetDrop s

/-- TICK_BOUNDARY (R39). -/
def execTickBoundary (latch : Latch) (s : State) : Host.Outcome State Fault Refusal :=
  .next <|
    if !s.md.powered then s
    else if !s.md.ticking then coreTick s latch
    else boundary s latch

/-! ### INPUT_IMAGE_COMPLETE (R45, R47, R138) -/

/-- The input image of a tick serves: LOAD, and every mode in which the safety channels evaluate. -/
def imaged (s : State) : Bool := s.md.powered && s.md.ticking && (s.md.mode == .load || evaluates s.md.mode)

/-- Position counts of the ring enter their histories (R235). -/
def ringHistories (s : State) : State :=
  ((ioNum (theImage s)).filter fun e => e.2.ring && !e.2.output && decide (22 ≤ e.2.kind ∧ e.2.kind ≤ 24)).foldl
    (fun s e => ringHistory s e.1 e.2) s

/-- The cell of one input of the I/O map, as the channels give it. -/
def liveCell (s : State) (i : Nat) (e : IoEntry) : InCell :=
  if e.ring then ringCell s e (tget [] s.ring.counts i) else if e.can then canCell s e else onboardCell s e

/-- The input image of this tick (R401), and over it the input mirages, which are valid (R160). -/
def buildImage (s : State) : State :=
  let live := ((ioNum (theImage s)).filter fun e => !e.2.output).foldl
    (fun t e => tset t e.1 (keepCell (tget ({} : InCell) s.crs.live e.1) (liveCell s e.1 e.2))) []
  let inp := s.crs.imageMirages.foldl (fun (t : Tab InCell) m =>
    if (tfind t m.index).isSome then tset t m.index ⟨m.value, true, s.time.tick⟩ else t) live
  { s with crs := { s.crs with live := live, inp := inp } }

/-- The deadline events of a window of 8,000 ticks make a cascade (R348). -/
def cascadeIn (l : List (Nat × Nat)) (from_ : Nat) : Bool :=
  let w := l.filter fun e => decide (from_ ≤ e.1 ∧ e.1 < from_ + 8000)
  decide (16 ≤ w.length) && (w.any fun e => e.2 == 128) && w.any fun e => e.2 == 160

/-- The deadline-fault cascade (R348), at phase 20 µs: abdication cause 5. Events that came later in the tick before are
judged here, in the window that ended with it. -/
def cascade (s : State) : State :=
  let t := s.time.tick
  let l := s.mortar.cascade.filter fun e => decide (t ≤ e.1 + 8000)
  let s := { s with mortar := { s.mortar with cascade := l } }
  if (8000 ≤ t && cascadeIn l (t - 8000)) || cascadeIn l (t - 7999) then abdicate s 5 else s

/-- INPUT_IMAGE_COMPLETE (R47): the image is whole, the loop engine loads, the window of an exchange steps, due courses and
the base scan start. -/
def execInputImageComplete (s : State) : Host.Outcome State Fault Refusal :=
  .next <|
    if !imaged s then s
    else
      let s := applyLateFrames (setPhase s 20000)
      let s := reportOpen (buildImage (ringHistories s))
      let s := baseWatch (loopsLoad s)
      let s := startBase (dispatch (windowStep s))
      sendChanges (panelNote (cascade s))

end Sys2Proof.Machine
end

