-- ==== Sys2Proof/Machine/Dispatch.lean ====
section
/-! DEFINITION. One arm for each command of the opcode table; its meaning, one direct call. -/

namespace Sys2Proof.Machine

/-- The effect of one command on everything but the queue (one arm per row of the opcode table). -/
def exec (i : Instr) (s : State) : Host.Outcome State Fault Refusal :=
  match i with
  | .powerOn slot feedA feedB => Sys2Proof.Machine.execPowerOn slot feedA feedB s
  | .sramClearComplete => Sys2Proof.Machine.execSramClearComplete s
  | .dramClearComplete => Sys2Proof.Machine.execDramClearComplete s
  | .clearTimeout => Sys2Proof.Machine.execClearTimeout s
  | .startSupplyLoss => Sys2Proof.Machine.execStartSupplyLoss s
  | .bankHeadersRead at_ => Sys2Proof.Machine.execBankHeadersRead at_ s
  | .bankFullCheckComplete at_ => Sys2Proof.Machine.execBankFullCheckComplete at_ s
  | .imageApplied at_ => Sys2Proof.Machine.execImageApplied at_ s
  | .acqWaitExpiry at_ => Sys2Proof.Machine.execAcqWaitExpiry at_ s
  | .imageKeyRemoved at_ => Sys2Proof.Machine.execImageKeyRemoved at_ s
  | .imageKeyInserted key at_ => Sys2Proof.Machine.execImageKeyInserted key at_ s
  | .kilnRemeasureComplete stage code at_ => Sys2Proof.Machine.execKilnRemeasureComplete stage code at_ s
  | .tickBoundary latch => Sys2Proof.Machine.execTickBoundary latch s
  | .inputImageComplete => Sys2Proof.Machine.execInputImageComplete s
  | .overrunLimitReached course => Sys2Proof.Machine.execOverrunLimitReached course s
  | .maxScanReached => Sys2Proof.Machine.execMaxScanReached s
  | .scanWatchExpiry => Sys2Proof.Machine.execScanWatchExpiry s
  | .courseActivationEnd course rel at_ => Sys2Proof.Machine.execCourseActivationEnd course rel at_ s
  | .executionTrap course brick offset at_ => Sys2Proof.Machine.execExecutionTrap course brick offset at_ s
  | .breakpointReached brick at_ => Sys2Proof.Machine.execBreakpointReached brick at_ s
  | .loopSample ctx at_ => Sys2Proof.Machine.execLoopSample ctx at_ s
  | .loopDeadline lane => Sys2Proof.Machine.execLoopDeadline lane s
  | .outputCommit => Sys2Proof.Machine.execOutputCommit s
  | .modeStart r => Sys2Proof.Machine.execModeStart r s
  | .modeStop r => Sys2Proof.Machine.execModeStop r s
  | .modeContinue r => Sys2Proof.Machine.execModeContinue r s
  | .modeAcknowledge r => Sys2Proof.Machine.execModeAcknowledge r s
  | .modeReset r => Sys2Proof.Machine.execModeReset r s
  | .modeRoleSwap r => Sys2Proof.Machine.execModeRoleSwap r s
  | .roleSwapTick => Sys2Proof.Machine.execRoleSwapTick s
  | .injectionOn r => Sys2Proof.Machine.execInjectionOn r s
  | .injectionOff r => Sys2Proof.Machine.execInjectionOff r s
  | .armBreakpoints r => Sys2Proof.Machine.execArmBreakpoints r s
  | .disarmBreakpoints r => Sys2Proof.Machine.execDisarmBreakpoints r s
  | .prepareReturn r => Sys2Proof.Machine.execPrepareReturn r s
  | .prepareReturnTimeout => Sys2Proof.Machine.execPrepareReturnTimeout s
  | .buttonClosingRecognised => Sys2Proof.Machine.execButtonClosingRecognised s
  | .buttonReleaseRecognised => Sys2Proof.Machine.execButtonReleaseRecognised s
  | .buttonStuck => Sys2Proof.Machine.execButtonStuck s
  | .buttonStuckEnd => Sys2Proof.Machine.execButtonStuckEnd s
  | .settingWrite r index data => Sys2Proof.Machine.execSettingWrite r index data s
  | .settingsComplete r generation => Sys2Proof.Machine.execSettingsComplete r generation s
  | .settingsDeclarationDone session => Sys2Proof.Machine.execSettingsDeclarationDone session s
  | .attestationNonce r nonce => Sys2Proof.Machine.execAttestationNonce r nonce s
  | .quoteReady session at_ => Sys2Proof.Machine.execQuoteReady session at_ s
  | .breakpointWrite r bp value => Sys2Proof.Machine.execBreakpointWrite r bp value s
  | .miragePlace r cmd => Sys2Proof.Machine.execMiragePlace r cmd s
  | .mirageRelease r cmd => Sys2Proof.Machine.execMirageRelease r cmd s
  | .mirageReleaseAll r => Sys2Proof.Machine.execMirageReleaseAll r s
  | .courseCounterClear r course value => Sys2Proof.Machine.execCourseCounterClear r course value s
  | .exchangeStage r => Sys2Proof.Machine.execExchangeStage r s
  | .stagingComplete tablesLoaded partner unwrittenNew unwrittenOld at_ => Sys2Proof.Machine.execStagingComplete tablesLoaded partner unwrittenNew unwrittenOld at_ s
  | .exchangeActivate r => Sys2Proof.Machine.execExchangeActivate r s
  | .exchangeUnstage r => Sys2Proof.Machine.execExchangeUnstage r s
  | .exchangeNoQuietTick => Sys2Proof.Machine.execExchangeNoQuietTick s
  | .exchangeRollback => Sys2Proof.Machine.execExchangeRollback s
  | .regionUpdateRequest r cmd => Sys2Proof.Machine.execRegionUpdateRequest r cmd s
  | .regionDataWrite r ticket data => Sys2Proof.Machine.execRegionDataWrite r ticket data s
  | .regionDataChecked ticket at_ => Sys2Proof.Machine.execRegionDataChecked ticket at_ s
  | .regionPendingStart ticket => Sys2Proof.Machine.execRegionPendingStart ticket s
  | .regionCancel r ticket value => Sys2Proof.Machine.execRegionCancel r ticket value s
  | .regionDataTimeout ticket at_ => Sys2Proof.Machine.execRegionDataTimeout ticket at_ s
  | .imageWriteComplete partnerPassed at_ => Sys2Proof.Machine.execImageWriteComplete partnerPassed at_ s
  | .loopModeManual r ctx => Sys2Proof.Machine.execLoopModeManual r ctx s
  | .loopModeAuto r ctx => Sys2Proof.Machine.execLoopModeAuto r ctx s
  | .loopModeCascade r ctx => Sys2Proof.Machine.execLoopModeCascade r ctx s
  | .loopModeExternal r ctx => Sys2Proof.Machine.execLoopModeExternal r ctx s
  | .loopModeHold r ctx => Sys2Proof.Machine.execLoopModeHold r ctx s
  | .manualValueWrite r ctx value => Sys2Proof.Machine.execManualValueWrite r ctx value s
  | .apply r ctx value => Sys2Proof.Machine.execApply r ctx value s
  | .tableRebuildComplete table at_ => Sys2Proof.Machine.execTableRebuildComplete table at_ s
  | .rebuildOverdue table => Sys2Proof.Machine.execRebuildOverdue table s
  | .injectionStart r ctx cmd => Sys2Proof.Machine.execInjectionStart r ctx cmd s
  | .injectionStop r ctx => Sys2Proof.Machine.execInjectionStop r ctx s
  | .captureConfigure r data => Sys2Proof.Machine.execCaptureConfigure r data s
  | .captureArm r => Sys2Proof.Machine.execCaptureArm r s
  | .captureForceTrigger r => Sys2Proof.Machine.execCaptureForceTrigger r s
  | .captureAbort r => Sys2Proof.Machine.execCaptureAbort r s
  | .captureRow => Sys2Proof.Machine.execCaptureRow s
  | .solverFrameStart ctx => Sys2Proof.Machine.execSolverFrameStart ctx s
  | .solverJobEnd ctx at_ => Sys2Proof.Machine.execSolverJobEnd ctx at_ s
  | .solverJobDeadline ctx => Sys2Proof.Machine.execSolverJobDeadline ctx s
  | .solverPublish ctx => Sys2Proof.Machine.execSolverPublish ctx s
  | .tileOffline tile cause at_ => Sys2Proof.Machine.execTileOffline tile cause at_ s
  | .tileSelfTest tile passed at_ => Sys2Proof.Machine.execTileSelfTest tile passed at_ s
  | .statusFrameReceive lane f at_ => Sys2Proof.Machine.execStatusFrameReceive lane f at_ s
  | .partnerReportLapse => Sys2Proof.Machine.execPartnerReportLapse s
  | .abdicateFrameReceive cause at_ => Sys2Proof.Machine.execAbdicateFrameReceive cause at_ s
  | .abdicationDetected oneSample at_ => Sys2Proof.Machine.execAbdicationDetected oneSample at_ s
  | .takeover => Sys2Proof.Machine.execTakeover s
  | .latentFaultWindowEnd => Sys2Proof.Machine.execLatentFaultWindowEnd s
  | .rehearsalOverdue => Sys2Proof.Machine.execRehearsalOverdue s
  | .lockstepMismatch pair at_ => Sys2Proof.Machine.execLockstepMismatch pair at_ s
  | .uncorrectableEccError bank word at_ => Sys2Proof.Machine.execUncorrectableEccError bank word at_ s
  | .singleBitCorrection bank word at_ => Sys2Proof.Machine.execSingleBitCorrection bank word at_ s
  | .scrubPass bank corrected at_ => Sys2Proof.Machine.execScrubPass bank corrected at_ s
  | .clockMonitorFault domain at_ => Sys2Proof.Machine.execClockMonitorFault domain at_ s
  | .supplyMonitorFault at_ => Sys2Proof.Machine.execSupplyMonitorFault at_ s
  | .internalRailsOff => Sys2Proof.Machine.execInternalRailsOff s
  | .logicFeedLow feed volts at_ => Sys2Proof.Machine.execLogicFeedLow feed volts at_ s
  | .logicFeedRestored feed at_ => Sys2Proof.Machine.execLogicFeedRestored feed at_ s
  | .laneDown lane at_ => Sys2Proof.Machine.execLaneDown lane at_ s
  | .laneUp lane at_ => Sys2Proof.Machine.execLaneUp lane at_ s
  | .linkUpNegotiation lvLow lvHigh mf missing at_ => Sys2Proof.Machine.execLinkUpNegotiation lvLow lvHigh mf missing at_ s
  | .mortarTickFrameReceive f => Sys2Proof.Machine.execMortarTickFrameReceive f s
  | .mortarFrameReceive crcOk m at_ => Sys2Proof.Machine.execMortarFrameReceive crcOk m at_ s
  | .mortarStale cls at_ => Sys2Proof.Machine.execMortarStale cls at_ s
  | .bulkCopyStart bytes at_ => Sys2Proof.Machine.execBulkCopyStart bytes at_ s
  | .trackReached at_ => Sys2Proof.Machine.execTrackReached at_ s
  | .safetyDecision lossA lossB dataA dataB => Sys2Proof.Machine.execSafetyDecision lossA lossB dataA dataB s
  | .partnerAxisStateReceive axes => Sys2Proof.Machine.execPartnerAxisStateReceive axes s
  | .testPulse input channel readsClosed at_ => Sys2Proof.Machine.execTestPulse input channel readsClosed at_ s
  | .permitOffPulse axis switch below on at_ => Sys2Proof.Machine.execPermitOffPulse axis switch below on at_ s
  | .safetyReset source at_ => Sys2Proof.Machine.execSafetyReset source at_ s
  | .ringSafetyWatchdog conn => Sys2Proof.Machine.execRingSafetyWatchdog conn s
  | .degradedExpiryNear at_ => Sys2Proof.Machine.execDegradedExpiryNear at_ s
  | .degradedExpiry at_ => Sys2Proof.Machine.execDegradedExpiry at_ s
  | .digitalInputChange channel level changedNs => Sys2Proof.Machine.execDigitalInputChange channel level changedNs s
  | .soeRead r => Sys2Proof.Machine.execSoeRead r s
  | .outputOverload channel at_ => Sys2Proof.Machine.execOutputOverload channel at_ s
  | .outputOvertemp channel at_ => Sys2Proof.Machine.execOutputOvertemp channel at_ s
  | .outputRetry channel cooled => Sys2Proof.Machine.execOutputRetry channel cooled s
  | .channelClear r kk value => Sys2Proof.Machine.execChannelClear r kk value s
  | .groupOvercurrent group channels at_ => Sys2Proof.Machine.execGroupOvercurrent group channels at_ s
  | .openWire channel open_ => Sys2Proof.Machine.execOpenWire channel open_ s
  | .fieldFeedLow group => Sys2Proof.Machine.execFieldFeedLow group s
  | .fieldFeedRestored group => Sys2Proof.Machine.execFieldFeedRestored group s
  | .readbackFailure kk => Sys2Proof.Machine.execReadbackFailure kk s
  | .analogueUnderRange ai => Sys2Proof.Machine.execAnalogueUnderRange ai s
  | .analogueOverRange ai => Sys2Proof.Machine.execAnalogueOverRange ai s
  | .analogueRangeClear ai => Sys2Proof.Machine.execAnalogueRangeClear ai s
  | .complianceLost ao => Sys2Proof.Machine.execComplianceLost ao s
  | .complianceRegained ao => Sys2Proof.Machine.execComplianceRegained ao s
  | .positionSignalFault pos => Sys2Proof.Machine.execPositionSignalFault pos s
  | .positionSignalClear pos => Sys2Proof.Machine.execPositionSignalClear pos s
  | .logicSilence at_ => Sys2Proof.Machine.execLogicSilence at_ s
  | .fieldControllerWatchdog at_ => Sys2Proof.Machine.execFieldControllerWatchdog at_ s
  | .trimModeWrite r mask => Sys2Proof.Machine.execTrimModeWrite r mask s
  | .trimCurrentWrite r ao value => Sys2Proof.Machine.execTrimCurrentWrite r ao value s
  | .ringInputFrameReceive f => Sys2Proof.Machine.execRingInputFrameReceive f s
  | .ringCycleMissed station => Sys2Proof.Machine.execRingCycleMissed station s
  | .ringClosed => Sys2Proof.Machine.execRingClosed s
  | .ringLinkUp answers at_ => Sys2Proof.Machine.execRingLinkUp answers at_ s
  | .stationJoin station => Sys2Proof.Machine.execStationJoin station s
  | .hopSpeedNegotiated hop bothGen2 gigabit at_ => Sys2Proof.Machine.execHopSpeedNegotiated hop bothGen2 gigabit at_ s
  | .canFrameReceived f at_ => Sys2Proof.Machine.execCanFrameReceived f at_ s
  | .canReceiveSlotTimeout slot => Sys2Proof.Machine.execCanReceiveSlotTimeout slot s
  | .sysCanCancel handle at_ => Sys2Proof.Machine.execSysCanCancel handle at_ s
  | .canSelectionPoint port at_ => Sys2Proof.Machine.execCanSelectionPoint port at_ s
  | .canTransmitEnd port result stampNs stampFrac at_ => Sys2Proof.Machine.execCanTransmitEnd port result stampNs stampFrac at_ s
  | .canLaunchLate port at_ => Sys2Proof.Machine.execCanLaunchLate port at_ s
  | .canRecover r port => Sys2Proof.Machine.execCanRecover r port s
  | .canRecoveryComplete port at_ => Sys2Proof.Machine.execCanRecoveryComplete port at_ s
  | .flushFifo r port => Sys2Proof.Machine.execFlushFifo r port s
  | .flushLaunch r port => Sys2Proof.Machine.execFlushLaunch r port s
  | .flushAll r port => Sys2Proof.Machine.execFlushAll r port s
  | .lanLinkDown port at_ => Sys2Proof.Machine.execLanLinkDown port at_ s
  | .lanLinkUp port speed at_ => Sys2Proof.Machine.execLanLinkUp port speed at_ s
  | .ptpMeasurement port gm cls steps offset at_ => Sys2Proof.Machine.execPtpMeasurement port gm cls steps offset at_ s
  | .announceTimeout at_ => Sys2Proof.Machine.execAnnounceTimeout at_ s
  | .timeSlew r rate => Sys2Proof.Machine.execTimeSlew r rate s
  | .timeStep r => Sys2Proof.Machine.execTimeStep r s
  | .timeReject r => Sys2Proof.Machine.execTimeReject r s
  | .haltSlew r => Sys2Proof.Machine.execHaltSlew r s
  | .sessionOpen iface role minGen maxGen authority seq at_ => Sys2Proof.Machine.execSessionOpen iface role minGen maxGen authority seq at_ s
  | .sessionClose r => Sys2Proof.Machine.execSessionClose r s
  | .sessionIdleTimeout session => Sys2Proof.Machine.execSessionIdleTimeout session s
  | .streamEvents r op mask fromSeq => Sys2Proof.Machine.execStreamEvents r op mask fromSeq s
  | .subscribe r object action minTicks => Sys2Proof.Machine.execSubscribe r object action minTicks s
  | .batchWrite r entries => Sys2Proof.Machine.execBatchWrite r entries s
  | .eventRecordsRead r => Sys2Proof.Machine.execEventRecordsRead r s
  | .objectWrite r object data => Sys2Proof.Machine.execObjectWrite r object data s
  | .intrusion mesh at_ => Sys2Proof.Machine.execIntrusion mesh at_ s
  | .environmentalWipe cause at_ => Sys2Proof.Machine.execEnvironmentalWipe cause at_ s
  | .identityKeyReload at_ => Sys2Proof.Machine.execIdentityKeyReload at_ s
  | .signerEnrol r slot data => Sys2Proof.Machine.execSignerEnrol r slot data s
  | .authorityEnrol r slot cert => Sys2Proof.Machine.execAuthorityEnrol r slot cert s
  | .enrolmentTimeout => Sys2Proof.Machine.execEnrolmentTimeout s
  | .framePairBoundary at_ => Sys2Proof.Machine.execFramePairBoundary at_ s
  | .ntcRead deciC at_ => Sys2Proof.Machine.execNtcRead deciC at_ s
  | .crackLoopMeasure ohms mv at_ => Sys2Proof.Machine.execCrackLoopMeasure ohms mv at_ s
  | .lampTest r => Sys2Proof.Machine.execLampTest r s
  | .journalBlockClose at_ => Sys2Proof.Machine.execJournalBlockClose at_ s
  | .journalWriteComplete readBackOk at_ => Sys2Proof.Machine.execJournalWriteComplete readBackOk at_ s
  | .dieTemperatureWarning celsius at_ => Sys2Proof.Machine.execDieTemperatureWarning celsius at_ s
  | .canBusError port rise at_ => Sys2Proof.Machine.execCanBusError port rise at_ s
  | .forwardingReceive f at_ => Sys2Proof.Machine.execForwardingReceive f at_ s
  | .firmwareLoad stage code signed version => Sys2Proof.Machine.execFirmwareLoad stage code signed version s
  | .gratuitousArpRepeat at_ => Sys2Proof.Machine.execGratuitousArpRepeat at_ s
  | .holdoverClockClassChange at_ => Sys2Proof.Machine.execHoldoverClockClassChange at_ s
  | .prpSupervisionFrame lan peer at_ => Sys2Proof.Machine.execPrpSupervisionFrame lan peer at_ s

end Sys2Proof.Machine
end

