-- ==== Sys2Proof/Safety.lean ====
section
/-! DEFINITION. The terms in which claims about the block are stated: when a request is served, what an answer and an event
record are, which components of the state a command may change, and the invariants that every step keeps. -/

namespace Sys2Proof.Machine

/-! ### Requests, answers and event records -/

/-- A request arrives: its session is open, the interface answers in this mode, and a session to the role address is served
by the unit that holds the role (R79, R484, R515). -/
def arrives (s : State) (r : Req) : Bool :=
  s.md.powered && (sess s r.session).open_ && ifaceAnswers s (sess s r.session).iface &&
    (!(sess s r.session).role || inControl s)

/-- A write request reaches the owner of its object: the generation and the mode serve it (R516, R517, R574). -/
def served (s : State) (r : Req) (obj : W32) : Bool :=
  arrives s r && decide (objGen obj ≤ (sess s r.session).gen) && modeServes s obj && s.md.mode != .sealed

/-- The same for a host command, which CHANGE refuses (R68). -/
def servedOutside (s : State) (r : Req) (obj : W32) : Bool := served s r obj && s.md.mode != .change

/-- A read request reaches the owner of its object (R516, R517). -/
def servedRead (s : State) (r : Req) (obj : W32) : Bool :=
  arrives s r && decide (objGen obj ≤ (sess s r.session).gen) && modeServes s obj

/-- The state at the instant of a request: its phase, and the message noted for the idle time of its session (R502, R512). -/
def touch (s : State) (r : Req) : State :=
  setSess (setPhase s r.at_) r.session { sess s r.session with lastTick := s.time.tick }

/-- The one answer to a request is a response with this STATUS and payload; behind it only mortar has left the module
(R499, R511). -/
def answers (s t : State) (r : Req) (status : Nat) (payload : Bytes := []) : Prop :=
  ∃ ms : List Mortar,
    t.net.outbox = ms.map OutMsg.mortar ++ OutMsg.response r.session r.seq status payload :: s.net.outbox

/-- The answer to a request that has ended others before it: their completions have left ahead of the response. -/
def answersLast (s t : State) (r : Req) (status : Nat) (payload : Bytes := []) : Prop :=
  ∃ (ms : List Mortar) (before : List OutMsg),
    t.net.outbox = ms.map OutMsg.mortar ++ OutMsg.response r.session r.seq status payload :: (before ++ s.net.outbox)

/-- The request is answered ACCEPTED and its completion is outstanding (R514). -/
def acceptedFor (s t : State) (r : Req) (obj : W32) : Prop :=
  answers s t r stAccepted ∧
    (sess t r.session).waiting = (sess s r.session).waiting ++ [(r.seq, obj)]

/-- A request that was answered ACCEPTED is the one that its session waits for under its SEQ, and the session is the one
that it came on, of a generation that knows completions (R504, R514); no batch carries it (R524). -/
def isOutstanding (s : State) (o : Origin) (obj : W32) : Bool :=
  s.net.batches.all (fun b => b.origin != o) && (sess s o.session).open_ && (sess s o.session).opening == o.opening &&
    decide (2 ≤ (sess s o.session).gen) && (sess s o.session).waiting.contains (o.seq, obj) &&
    (sess s o.session).waiting.all fun w => w.1 != o.seq || w == (o.seq, obj)

/-- Mode state once a mode command waits for the transition that completes it (R64, R78): its code of Table 02.5 and the
mode it leads to. -/
def awaiting (s : State) (r : Req) (code : Nat) (dest : Mode) : ModeSt :=
  { s.md with
    cmd := some ⟨code, originOf s r⟩, trans := s.md.trans ++ [⟨6, dest, causeHost, some (originOf s r), code⟩] }

/-- The event controller's state once these events, each an event and its arguments, are handed in at a phase of the tick
(R50, R566); before LOAD it takes nothing (R87). -/
def recorded (s : State) (phase : Nat) (evs : List (Nat × List W32)) : EventSt :=
  if s.ev.running then
    { s.ev with intake := s.ev.intake ++ evs.map fun e =>
        { stamp := s.time.ns + phase, ev := e.1, arg := e.2.take 4, quality := timeQuality s } }
  else s.ev

/-! ### Parts of the state -/

/-- The loop engine beside the capture's note that its event has come, which every event may set (R262). -/
def loopsCore (l : LoopsSt) : LoopsSt := { l with cap := { l.cap with evSeen := false } }

/-- Mortar state beside the count of deadline events, which every event may raise (R348), and beside the record of what has
been sent, which every host command may renew (R339). -/
def mortarCore (m : MortarSt) : MortarSt := { m with cascade := [], sent := {} }

/-- The event controller beside its intake of the present tick, which every event raises (R566). -/
def evCore (e : EventSt) : EventSt := { e with intake := [] }

/-- Time beside the phase of the present instant, which every command sets that says when it happens (R19, R50). -/
def timeCore (t : TimeSt) : TimeSt := { t with phase := 0 }

/-! ### What a command may change -/

/-- The parts of the state. -/
inductive Part where
  /-- the queue of waiting commands -/
  | pending
  /-- mode, role and attributes (chapter 02) -/
  | md
  /-- the button (R82) -/
  | btn
  /-- start, firmware, banks and image (chapter 03) -/
  | kiln
  /-- settings (R119 to R125) -/
  | set
  /-- courses, bricks, images, mirages (chapter 04) -/
  | crs
  /-- the program exchange (chapter 05) -/
  | exch
  /-- region tickets (R196) -/
  | tickets
  /-- the last ticket given (R196) -/
  | lastTicket
  /-- loop contexts, tables, injections, capture (chapters 06, 07) -/
  | loops
  /-- solver contexts and tiles (chapters 08, 09) -/
  | solver
  /-- the partner and the lanes (chapter 10) -/
  | pair
  /-- what mortar has brought (chapter 10) -/
  | mortar
  /-- safety channels (chapter 11) -/
  | safe
  /-- onboard I/O (chapter 12) -/
  | field
  /-- the field ring (chapter 13) -/
  | ring
  /-- CAN ports (chapter 14) -/
  | can
  /-- vessel time, servo and LANs (chapter 15) -/
  | time
  /-- sessions and messages (chapter 16) -/
  | net
  /-- event records (chapter 20) -/
  | ev
  /-- event records taken in this tick (R566) -/
  | intake
  /-- keys, memories and life cycle (chapter 17) -/
  | sec
  /-- the annunciator (chapter 18) -/
  | panel
  /-- panel frames and temperatures (chapter 18) -/
  | panel2
  /-- supplies (chapter 19) -/
  | sup
  /-- the count of open choices taken -/
  | free
  deriving DecidableEq, Repr

/-- A part is the same in two states. What every event record or every host request may touch is left to the parts that
those are: see `loopsCore`, `mortarCore`, `evCore` and `timeCore`. -/
def same (p : Part) (s t : State) : Prop :=
  match p with
  | .pending => t.pending = s.pending
  | .md => t.md = s.md
  | .btn => t.btn = s.btn
  | .kiln => t.kiln = s.kiln
  | .set => t.set = s.set
  | .crs => t.crs = s.crs
  | .exch => t.exch = s.exch
  | .tickets => t.tickets = s.tickets
  | .lastTicket => t.lastTicket = s.lastTicket
  | .loops => loopsCore t.loops = loopsCore s.loops
  | .solver => t.solver = s.solver
  | .pair => t.pair = s.pair
  | .mortar => mortarCore t.mortar = mortarCore s.mortar
  | .safe => t.safe = s.safe
  | .field => t.field = s.field
  | .ring => t.ring = s.ring
  | .can => t.can = s.can
  | .time => timeCore t.time = timeCore s.time
  | .net => t.net = s.net
  | .ev => evCore t.ev = evCore s.ev
  | .intake => t.ev.intake = s.ev.intake
  | .sec => t.sec = s.sec
  | .panel => t.panel = s.panel
  | .panel2 => t.panel2 = s.panel2
  | .sup => t.sup = s.sup
  | .free => t.free = s.free

/-- The parts that a command may change; it leaves every other part (the rules of its chapter). -/
def mayChange : Instr → List Part
  | .powerOn _ _ _ => [.md, .btn, .kiln, .set, .crs, .exch, .tickets, .lastTicket, .loops, .solver, .pair, .mortar,
      .safe, .field, .ring, .can, .time, .net, .ev, .intake, .sec, .panel, .panel2, .sup]
  | .sramClearComplete => [.md, .btn, .kiln, .set, .crs, .exch, .tickets, .loops, .solver, .pair, .safe, .field,
      .ring, .can, .time, .net, .ev, .intake, .sec, .panel, .panel2, .free]
  | .dramClearComplete => [.md, .btn, .kiln, .set, .crs, .exch, .tickets, .loops, .solver, .pair, .safe, .field,
      .ring, .can, .time, .net, .ev, .intake, .sec, .panel, .panel2, .free]
  | .clearTimeout => [.md, .kiln, .set, .crs, .exch, .tickets, .loops, .solver, .pair, .safe, .field, .ring, .can,
      .net, .intake, .panel, .panel2, .free]
  | .startSupplyLoss => [.md, .btn, .kiln, .set, .crs, .exch, .tickets, .lastTicket, .loops, .solver, .pair, .mortar,
      .safe, .field, .ring, .can, .time, .net, .ev, .intake, .sec, .panel, .panel2, .sup]
  | .bankHeadersRead _ => [.kiln, .intake]
  | .bankFullCheckComplete _ => [.kiln, .intake]
  | .imageApplied _ => [.kiln, .set, .crs, .exch, .loops, .solver, .safe, .ring, .can, .net, .intake, .panel, .panel2]
  | .acqWaitExpiry _ => [.time]
  | .imageKeyRemoved _ => [.kiln, .tickets, .pair, .net, .ev, .intake]
  | .imageKeyInserted _ _ => [.kiln, .ev]
  | .kilnRemeasureComplete _ _ _ => [.md, .kiln, .set, .crs, .exch, .tickets, .loops, .solver, .pair, .safe, .field,
      .ring, .can, .net, .intake, .panel, .panel2, .free]
  | .tickBoundary _ => [.md, .btn, .kiln, .set, .crs, .exch, .tickets, .lastTicket, .loops, .solver, .pair, .mortar,
      .safe, .field, .ring, .can, .time, .net, .ev, .intake, .sec, .panel, .panel2, .sup, .free]
  | .inputImageComplete => [.md, .kiln, .set, .crs, .exch, .tickets, .loops, .solver, .pair, .mortar, .safe, .field,
      .ring, .can, .net, .intake, .panel, .panel2, .free]
  | .overrunLimitReached _ => [.md, .kiln, .crs, .exch, .loops, .solver, .pair, .mortar, .safe, .field, .can, .net,
      .intake, .panel, .panel2, .free]
  | .maxScanReached => [.md, .kiln, .crs, .exch, .loops, .solver, .pair, .mortar, .safe, .field, .can, .net, .intake,
      .panel, .panel2, .free]
  | .scanWatchExpiry => [.md, .kiln, .crs, .exch, .loops, .solver, .pair, .mortar, .safe, .field, .can, .net, .intake,
      .panel, .panel2, .free]
  | .courseActivationEnd _ _ _ => [.md, .kiln, .set, .crs, .exch, .loops, .solver, .pair, .mortar, .can, .net,
      .intake, .panel2]
  | .executionTrap _ _ _ _ => [.md, .kiln, .crs, .exch, .loops, .solver, .pair, .mortar, .safe, .field, .can, .net,
      .intake, .panel, .panel2, .free]
  | .breakpointReached _ _ => [.md, .crs, .exch, .loops, .solver, .safe, .field, .can, .net, .intake, .panel, .panel2,
      .free]
  | .loopSample _ _ => [.crs, .exch, .tickets, .loops, .pair, .net, .intake]
  | .loopDeadline _ => [.loops, .net, .intake]
  | .outputCommit => [.crs, .exch, .loops, .solver, .safe, .field, .ring, .can, .net, .intake]
  | .modeStart _ => [.md, .net, .intake]
  | .modeStop _ => [.md, .net, .intake]
  | .modeContinue _ => [.md, .net, .intake]
  | .modeAcknowledge _ => [.md, .net, .intake]
  | .modeReset _ => [.md, .net, .intake]
  | .modeRoleSwap _ => [.md, .net, .intake]
  | .roleSwapTick => [.md, .kiln, .set, .crs, .exch, .tickets, .loops, .solver, .pair, .mortar, .safe, .field, .can,
      .time, .net, .intake, .panel, .panel2, .free]
  | .injectionOn _ => [.md, .net, .intake]
  | .injectionOff _ => [.md, .loops, .net, .intake]
  | .armBreakpoints _ => [.crs, .net, .intake]
  | .disarmBreakpoints _ => [.crs, .net, .intake]
  | .prepareReturn _ => [.net, .ev, .intake]
  | .prepareReturnTimeout => [.net, .ev]
  | .buttonClosingRecognised => [.btn, .intake]
  | .buttonReleaseRecognised => [.md, .btn, .kiln, .crs, .exch, .tickets, .loops, .solver, .pair, .safe, .field,
      .ring, .can, .net, .ev, .intake, .sec, .panel, .panel2, .free]
  | .buttonStuck => [.btn, .intake]
  | .buttonStuckEnd => [.btn, .intake]
  | .settingWrite _ _ _ => [.set, .crs, .loops, .net, .intake]
  | .settingsComplete _ _ => [.set, .net, .intake]
  | .settingsDeclarationDone _ => [.set, .net, .intake]
  | .attestationNonce _ _ => [.kiln, .net, .intake]
  | .quoteReady _ _ => [.kiln, .intake]
  | .breakpointWrite _ _ _ => [.crs, .net, .intake]
  | .miragePlace _ _ => [.crs, .loops, .net, .intake]
  | .mirageRelease _ _ => [.crs, .net, .intake]
  | .mirageReleaseAll _ => [.crs, .net, .intake]
  | .courseCounterClear _ _ _ => [.crs, .net, .intake]
  | .exchangeStage _ => [.exch, .loops, .net, .intake]
  | .stagingComplete _ _ _ _ _ => [.kiln, .exch, .loops, .net, .intake]
  | .exchangeActivate _ => [.md, .exch, .net, .intake]
  | .exchangeUnstage _ => [.exch, .loops, .net, .intake]
  | .exchangeNoQuietTick => [.md, .exch, .loops, .intake]
  | .exchangeRollback => [.md, .kiln, .set, .crs, .exch, .tickets, .loops, .solver, .pair, .mortar, .field, .ring,
      .can, .net, .intake, .panel, .panel2, .free]
  | .regionUpdateRequest _ _ => [.tickets, .lastTicket, .net, .intake]
  | .regionDataWrite _ _ _ => [.tickets, .net, .intake]
  | .regionDataChecked _ _ => [.kiln, .exch, .tickets, .loops, .solver, .pair, .net, .intake]
  | .regionPendingStart _ => [.kiln, .exch, .tickets, .loops, .solver, .net, .intake]
  | .regionCancel _ _ _ => [.kiln, .tickets, .loops, .solver, .pair, .net, .intake]
  | .regionDataTimeout _ _ => [.tickets, .pair, .net, .intake]
  | .imageWriteComplete _ _ => [.kiln, .tickets, .pair, .net, .intake]
  | .loopModeManual _ _ => [.loops, .net, .intake]
  | .loopModeAuto _ _ => [.loops, .net, .intake]
  | .loopModeCascade _ _ => [.loops, .net, .intake]
  | .loopModeExternal _ _ => [.loops, .net, .intake]
  | .loopModeHold _ _ => [.loops, .net, .intake]
  | .manualValueWrite _ _ _ => [.loops, .net, .intake]
  | .apply _ _ _ => [.loops, .net, .intake]
  | .tableRebuildComplete _ _ => [.tickets, .loops, .pair, .net, .intake]
  | .rebuildOverdue _ => [.loops, .intake]
  | .injectionStart _ _ _ => [.loops, .net, .intake]
  | .injectionStop _ _ => [.loops, .net, .intake]
  | .captureConfigure _ _ => [.loops, .net, .intake]
  | .captureArm _ => [.loops, .net, .intake]
  | .captureForceTrigger _ => [.loops, .net, .intake]
  | .captureAbort _ => [.loops, .net, .intake]
  | .captureRow => [.loops, .intake]
  | .solverFrameStart _ => [.tickets, .solver, .pair, .net, .intake]
  | .solverJobEnd _ _ => [.solver, .intake]
  | .solverJobDeadline _ => [.solver, .intake]
  | .solverPublish _ => [.exch, .solver, .pair, .intake]
  | .tileOffline _ _ _ => [.solver, .intake]
  | .tileSelfTest _ _ _ => [.solver, .intake]
  | .statusFrameReceive _ _ _ => [.md, .kiln, .set, .crs, .exch, .tickets, .loops, .solver, .pair, .safe, .field,
      .ring, .can, .net, .intake, .panel, .panel2, .free]
  | .partnerReportLapse => [.pair, .net, .intake]
  | .abdicateFrameReceive _ _ => [.md, .kiln, .set, .crs, .exch, .tickets, .loops, .solver, .pair, .safe, .field,
      .ring, .can, .net, .intake, .panel, .panel2, .free]
  | .abdicationDetected _ _ => [.md, .pair, .panel]
  | .takeover => [.md, .kiln, .set, .crs, .exch, .tickets, .loops, .solver, .pair, .mortar, .safe, .field, .ring,
      .can, .time, .net, .intake, .panel, .panel2, .free]
  | .latentFaultWindowEnd => [.pair, .ev, .intake]
  | .rehearsalOverdue => [.pair, .intake]
  | .lockstepMismatch _ _ => [.md, .kiln, .set, .crs, .exch, .tickets, .loops, .solver, .pair, .safe, .field, .ring,
      .can, .net, .intake, .panel, .panel2, .free]
  | .uncorrectableEccError _ _ _ => [.md, .kiln, .set, .crs, .exch, .tickets, .loops, .solver, .pair, .safe, .field,
      .ring, .can, .net, .intake, .sec, .panel, .panel2, .free]
  | .singleBitCorrection _ _ _ => [.intake, .sec]
  | .scrubPass _ _ _ => [.intake, .sec]
  | .clockMonitorFault _ _ => [.md, .kiln, .set, .crs, .exch, .tickets, .loops, .solver, .pair, .safe, .field, .ring,
      .can, .net, .intake, .panel, .panel2, .free]
  | .supplyMonitorFault _ => [.md, .btn, .kiln, .set, .crs, .exch, .tickets, .lastTicket, .loops, .solver, .pair,
      .mortar, .safe, .field, .ring, .can, .time, .net, .ev, .intake, .sec, .panel, .panel2, .sup, .free]
  | .internalRailsOff => [.md, .btn, .kiln, .set, .crs, .exch, .tickets, .lastTicket, .loops, .solver, .pair, .mortar,
      .safe, .field, .ring, .can, .time, .net, .ev, .intake, .sec, .panel, .panel2, .sup]
  | .logicFeedLow _ _ _ => [.intake, .sup]
  | .logicFeedRestored _ _ => [.intake, .sup]
  | .laneDown _ _ => [.md, .crs, .exch, .loops, .solver, .pair, .mortar, .safe, .field, .can, .net, .intake, .panel,
      .panel2, .free]
  | .laneUp _ _ => [.pair, .net, .intake]
  | .linkUpNegotiation _ _ _ _ _ => [.pair, .intake]
  | .mortarTickFrameReceive _ => [.md, .kiln, .set, .crs, .exch, .tickets, .loops, .solver, .pair, .mortar, .safe,
      .field, .ring, .can, .net, .intake, .panel, .panel2, .free]
  | .mortarFrameReceive _ _ _ => [.md, .tickets, .loops, .solver, .pair, .mortar, .safe, .time, .net]
  | .mortarStale _ _ => [.md, .crs, .exch, .loops, .solver, .pair, .mortar, .safe, .field, .can, .net, .intake,
      .panel, .panel2, .free]
  | .bulkCopyStart _ _ => [.md, .set, .crs, .exch, .tickets, .loops, .solver, .pair, .mortar, .safe, .field, .can,
      .time, .net, .ev, .intake, .sec, .panel, .panel2]
  | .trackReached _ => [.md, .crs, .exch, .loops, .solver, .pair, .safe, .field, .can, .net, .intake, .panel, .panel2,
      .free]
  | .safetyDecision _ _ _ _ => [.md, .kiln, .crs, .exch, .loops, .solver, .pair, .mortar, .safe, .field, .can, .net,
      .intake, .panel, .panel2, .free]
  | .partnerAxisStateReceive _ => [.safe]
  | .testPulse _ _ _ _ => [.md, .kiln, .crs, .exch, .loops, .solver, .pair, .safe, .field, .can, .net, .intake,
      .panel, .panel2, .free]
  | .permitOffPulse _ _ _ _ _ => [.safe, .intake]
  | .safetyReset _ _ => [.md, .safe, .intake]
  | .ringSafetyWatchdog _ => [.safe, .intake]
  | .degradedExpiryNear _ => [.safe, .intake]
  | .degradedExpiry _ => [.safe, .intake]
  | .digitalInputChange _ _ _ => [.field, .intake]
  | .soeRead _ => [.field, .net]
  | .outputOverload _ _ => [.field, .intake]
  | .outputOvertemp _ _ => [.field, .intake]
  | .outputRetry _ _ => [.field]
  | .channelClear _ _ _ => [.field, .net, .intake]
  | .groupOvercurrent _ _ _ => [.field, .intake]
  | .openWire _ _ => [.field, .intake]
  | .fieldFeedLow _ => [.field, .intake]
  | .fieldFeedRestored _ => [.field, .intake]
  | .readbackFailure _ => [.pair, .field, .intake]
  | .analogueUnderRange _ => [.field, .intake]
  | .analogueOverRange _ => [.field, .intake]
  | .analogueRangeClear _ => [.field, .intake]
  | .complianceLost _ => [.field, .intake]
  | .complianceRegained _ => [.field, .intake]
  | .positionSignalFault _ => [.loops, .field, .intake]
  | .positionSignalClear _ => [.loops, .field]
  | .logicSilence _ => [.md, .kiln, .crs, .exch, .loops, .solver, .pair, .mortar, .safe, .field, .can, .net, .intake,
      .panel, .panel2, .free]
  | .fieldControllerWatchdog _ => [.md, .kiln, .crs, .exch, .loops, .solver, .pair, .mortar, .safe, .field, .can,
      .net, .intake, .panel, .panel2, .free]
  | .trimModeWrite _ _ => [.field, .net, .intake]
  | .trimCurrentWrite _ _ _ => [.field, .net, .intake]
  | .ringInputFrameReceive _ => [.safe, .ring, .intake, .free]
  | .ringCycleMissed _ => [.ring, .intake]
  | .ringClosed => [.ring, .intake]
  | .ringLinkUp _ _ => [.ring, .net, .intake]
  | .stationJoin _ => [.ring, .intake]
  | .hopSpeedNegotiated _ _ _ _ => [.ring, .intake]
  | .canFrameReceived _ _ => [.can, .intake, .free]
  | .canReceiveSlotTimeout _ => [.can]
  | .sysCanCancel _ _ => [.can]
  | .canSelectionPoint _ _ => [.can, .intake]
  | .canTransmitEnd _ _ _ _ _ => [.can, .intake]
  | .canLaunchLate _ _ => [.can, .intake]
  | .canRecover _ _ => [.can, .net, .intake]
  | .canRecoveryComplete _ _ => [.can, .intake]
  | .flushFifo _ _ => [.can, .net, .intake]
  | .flushLaunch _ _ => [.can, .net, .intake]
  | .flushAll _ _ => [.can, .net, .intake]
  | .lanLinkDown _ _ => [.kiln, .tickets, .pair, .time, .net, .intake]
  | .lanLinkUp _ _ _ => [.net, .intake]
  | .ptpMeasurement _ _ _ _ _ _ => [.md, .set, .crs, .exch, .tickets, .loops, .solver, .pair, .mortar, .safe, .field,
      .can, .time, .net, .ev, .intake, .sec, .panel, .panel2]
  | .announceTimeout _ => [.time, .intake]
  | .timeSlew _ _ => [.time, .net, .intake]
  | .timeStep _ => [.time, .net, .intake]
  | .timeReject _ => [.time, .net, .intake]
  | .haltSlew _ => [.time, .net, .intake]
  | .sessionOpen _ _ _ _ _ _ _ => [.net, .intake]
  | .sessionClose _ => [.kiln, .tickets, .pair, .net, .intake]
  | .sessionIdleTimeout _ => [.kiln, .tickets, .pair, .net, .intake]
  | .streamEvents _ _ _ _ => [.net]
  | .subscribe _ _ _ _ => [.net]
  | .batchWrite _ _ => [.set, .crs, .loops, .net, .intake]
  | .eventRecordsRead _ => [.net]
  | .objectWrite _ _ _ => [.md, .kiln, .set, .crs, .exch, .tickets, .lastTicket, .loops, .solver, .pair, .field, .can,
      .time, .net, .ev, .intake, .sec, .panel]
  | .intrusion _ _ => [.kiln, .tickets, .pair, .net, .intake, .sec]
  | .environmentalWipe _ _ => [.kiln, .tickets, .pair, .net, .intake, .sec]
  | .identityKeyReload _ => [.intake, .sec]
  | .signerEnrol _ _ _ => [.net, .intake, .sec]
  | .authorityEnrol _ _ _ => [.net, .intake, .sec]
  | .enrolmentTimeout => [.net, .intake, .sec]
  | .framePairBoundary _ => [.intake, .panel, .panel2]
  | .ntcRead _ _ => [.intake, .panel, .panel2]
  | .crackLoopMeasure _ _ _ => [.net, .intake, .panel, .panel2]
  | .lampTest _ => [.net, .intake, .panel]
  | .journalBlockClose _ => [.ev, .intake]
  | .journalWriteComplete _ _ => [.ev, .intake]
  | .dieTemperatureWarning _ _ => [.intake, .sup]
  | .canBusError _ _ _ => [.can, .intake]
  | .forwardingReceive _ _ => [.kiln, .exch, .tickets, .loops, .solver, .net, .intake]
  | .firmwareLoad _ _ _ _ => [.md, .btn, .kiln, .set, .crs, .exch, .tickets, .lastTicket, .loops, .solver, .pair,
      .mortar, .safe, .field, .ring, .can, .time, .net, .ev, .intake, .sec, .panel, .panel2, .sup]
  | .gratuitousArpRepeat _ => [.net]
  | .holdoverClockClassChange _ => [.time]
  | .prpSupervisionFrame _ _ _ => [.net]

/-! ### Invariants -/

/-- The injection attribute is set in RUN and DEGRADED alone (R73). -/
abbrev injectionInMode (s : State) : Prop := s.md.injection = true → s.md.mode = .run ∨ s.md.mode = .degraded

/-- Outside the modes in which the safety channels evaluate, and in SYNC, every axis switch is open (R380, Table 02.1). -/
abbrev switchesInMode (s : State) : Prop :=
  (evaluates s.md.mode && s.md.mode != .sync) = false → ∀ e ∈ s.safe.axis, e.2.swA = false ∧ e.2.swB = false

/-- The event buffer holds at most 4,096 records (R525, R565). -/
abbrev bufferFits (s : State) : Prop := s.ev.buffer.length ≤ 4096

/-! ### Terms of single statements -/

/-- The opening of the button is recognised (R82): the contact has read open through 81 samples after a closing. -/
def releaseDue (s : State) : Bool :=
  s.md.powered && !s.btn.raw && decide (81 ≤ s.btn.run) && s.btn.level == some true

/-- The button once its opening is recognised, stamped at the first of the 81 samples (R82). -/
def released (s : State) : ButtonSt := { s.btn with level := some false, openedAt := s.btn.samples - s.btn.run }

/-- Duration of the press in ticks, from stamp to stamp (R83). -/
def pressTicks (s : State) : Nat := s.btn.samples - s.btn.run - s.btn.closedAt

/-- Kiln registers once stage i with this content has been measured into them (R95). -/
def measuredInto (k : List Bytes) (i : Nat) (stage : Bytes) : List Bytes :=
  k.set i (sha384 ((if i = 0 then List.replicate 48 0 else k.getD (i - 1) []) ++ sha384 stage))

/-- The kiln registers after the firmware stages i of a list, as stored, are measured in order (R94, R95). -/
def stagesInto (s : State) (is : List Nat) (k : List Bytes) : List Bytes :=
  is.foldl (fun k i => measuredInto k i (tget ({} : FwStage) s.kiln.fw i).code) k

/-- A stage passes its signature check (R96). -/
def stagePasses (s : State) (i : Nat) : Bool := (tget ({} : FwStage) s.kiln.fw i).signed

/-- What the entry to KILN leaves of the volatile parts of the state (R65, R89, R93). -/
def atKilnEntry (t : State) : Prop :=
  t.md.mode = .kiln ∧ t.md.token = false ∧ t.md.ticking = false ∧ t.kiln.sramDone = false ∧ t.kiln.dramDone = false ∧
  t.kiln.k = List.replicate 8 (List.replicate 48 0) ∧ t.kiln.image = none ∧ t.set = {} ∧ t.crs = {} ∧ t.exch = {} ∧
  t.tickets = [] ∧ t.loops = {} ∧ t.solver = {} ∧ t.mortar = {} ∧ t.safe = {} ∧ t.field = {} ∧ t.ring = {} ∧
  t.can = {} ∧ t.time = {} ∧ t.net.sess = [] ∧ t.ev.running = false ∧ t.ev.buffer = [] ∧ t.sec.loaded = false ∧
  t.panel = {} ∧ t.panel2 = {}

/-- FAIL_REASON of a bank's header, 0 when checks 1 to 5 pass (R110, R597). -/
def headerReason (s : State) (b : Nat) : Nat := headerCheck s (bankHeader (bank s b).bytes)

/-- SEQUENCE in a bank's header (Table 03.4). -/
def bankSeqNo (s : State) (b : Nat) : Nat := hdrSequence (bankHeader (bank s b).bytes)

/-- EV003 of a header read: one for each bank that fails there and is not erased (R111). -/
def headerEvents (s : State) : List (Nat × List W32) :=
  ((List.range 2).filter fun b => headerReason s b != 0 && headerReason s b != 9).map fun b =>
    (3, [w32 b, w32 (headerReason s b)])

/-- K7 once the header of an image is measured into it (R97, R112). -/
def headerInto (k : List Bytes) (header : Bytes) : List Bytes :=
  k.set 7 (sha384 ((if (k.getD 7 []).all (· == 0) then k.getD 6 [] else k.getD 7 []) ++ sha384 header))

/-- The value of a settings write (R121). -/
def writtenValue (data : Bytes) : W64 := BitVec.ofNat 64 (le data 0 8)

/-- The settings state once a write has been accepted (R121 to R123): the values in force do not change yet. -/
def settingTaken (s : State) (i : Nat) (data : Bytes) : SettingsSt :=
  { s.set with
    next := s.set.next ++ [(i, writtenValue data)], state := 1, written := satAdd 16 s.set.written 1
    held := s.set.held.map fun d => { d with written := true }
    done := s.set.done.map fun d => { d with written := true } }

/-- A mirage command is answered (R163): DONE, or with a partner in TRACK ACCEPTED, and the request and the changed entries
wait for the class 1 frame. -/
def mirageAnswered (s t : State) (r : Req) (entries : List Nat) : Prop :=
  (partnerTracks s = false → answers s t r stDone ∧ t.crs.mirageWaits = s.crs.mirageWaits) ∧
  (partnerTracks s = true → acceptedFor s t r mirageObj ∧ t.crs.mirageWaits = s.crs.mirageWaits ++ [⟨originOf s r, s.time.tick⟩] ∧
    t.crs.mirageChanged = s.crs.mirageChanged ++ entries.map fun i => (i, s.time.tick))

/-- The mirage that a PLACE sets. -/
def placed (c : MirageCmd) : Mirage :=
  { kind := c.kind, ty := c.ty, brick := c.brick, index := c.index, value := c.value }

/-- A fault of a course takes a unit in control from RUN, HOLD or DEGRADED to OASIS outside an exchange (R150). -/
def faultable (s : State) : Bool :=
  inControl s && coursesRun s && [Mode.run, .hold, .degraded].contains s.md.mode

/-- OASIS entered with every activation abandoned and nothing released (R141, R150). -/
def faulted (s t : State) : Prop :=
  t.md.mode = .oasis ∧ t.md.prevMode = s.md.mode ∧ (∀ c, (course t c).state = 0) ∧ t.crs.out = s.crs.out ∧
    t.crs.outLate = s.crs.outLate ∧ t.crs.setpoints = s.crs.setpoints ∧ t.crs.modeReqs = s.crs.modeReqs ∧
    ∀ i, brickCourse s i = none → brickData t i = brickData s i

/-- Execution time in µs of an activation that ends at a phase of this tick (Table 04.9). -/
def executionUs (s : State) (c n : Nat) : Nat :=
  min (((course s c).ranNs + (s.time.tick * 125000 + n - (course s c).from_)) / 1000) 0xFFFFFFFF

/-- An output value as its type holds it. -/
def asWritten (d : IoEntry) (v : W64) : W64 := BitVec.ofNat 64 (v.toNat % 256 ^ tyWidth d.ty)

/-- The tick of the commit that carries what is released at a phase of this tick (R42). -/
def carriedBy (s : State) (n : Nat) : Nat := if n < 105000 then s.time.tick else s.time.tick + 1

/-- The answer stands among mortar messages (R499, R511). -/
def answeredAmid (s t : State) (r : Req) (status : Nat) : Prop :=
  ∃ ms ns : List Mortar, t.net.outbox =
    ms.map OutMsg.mortar ++ OutMsg.response r.session r.seq status [] :: (ns.map OutMsg.mortar ++ s.net.outbox)

/-- An update is RUNNING on a table that the spare bank's image changes (R250). -/
def tablesHeld (s : State) : Bool :=
  (fullCheck s (bank s (spareBank s)).bytes).image.elim false fun ni =>
    (changedTables (theImage s) ni).any fun t => tableRuns s t.1

/-- The REASON with which the staging of the spare bank ends (R169, Table 05.3); 0 staged. -/
def stageReason (s : State) (loaded : Bool) (partner : Option Bytes) : Nat :=
  match (fullCheck s (bank s (spareBank s)).bytes).image with
  | none => 1
  | some ni =>
    if stageCheck s ni (if inControl s then partner else s.exch.partnerDigest) ≠ 0 then
      stageCheck s ni (if inControl s then partner else s.exch.partnerDigest)
    else if loaded && !tablesHeld s then 0 else 16

/-- The spare bank once written data has been checked on it (R115, R116): the header is there only after the body's checks. -/
def writtenBank (s t : State) (d : Bytes) : Prop :=
  (bank t (spareBank s)).bytes = (if (writtenCheck s d).2 then d else erasedHeader ++ d.drop 256).take bankMax ∧
  (bank t (spareBank s)).valid = (writtenReason s d == 0) ∧ (bank t (spareBank s)).failReason = writtenReason s d

/-- Nothing but the law decides the next sample of a context: AUTO, no request, fallback, transfer, parameter set,
injection, table, cascade or tracked output, and a valid process value (Table 06.6). -/
def plainAuto (s : State) (c : Nat) (d : LoopDef) : Bool :=
  (loop s c).mode == 1 && (loop2 s c).hostReq.isEmpty && (loop2 s c).courseReq.isNone && !(loop s c).restart &&
    !(loop2 s c).bumpless && (loop2 s c).due.isEmpty && (loop2 s c).dueAll.isNone && (injSt s c).cmd.isNone &&
    d.table == 0xFFFF && d.outer == 0xFF && (innerOf (theImage s) c).isNone && !d.spCourse &&
    decide ((loop s c).consecMiss < d.missLimit ∧ (loop s c).consecPvBad < d.pvbadLimit) &&
    (trackOf s c d).isNone && (srcVal s d.lane d.pvSrc).2

/-- The time h of a sample in seconds (R209, R220): from the last completed one. -/
def sampleH (s : State) (c : Nat) (d : LoopDef) : F64 :=
  windowSecs (if (loop2 s c).sampled then s.time.tick - (loop2 s c).lastTick else d.period)

/-- The clamped set-point of a sample in AUTO (R226). -/
def autoR (s : State) (c : Nat) (d : LoopDef) : F64 :=
  fClamp (prm (loop2 s c).params pSPMIN) (prm (loop2 s c).params pSPMAX) (localSp s d (loop2 s c))

/-- P, s and the derivative of a sample in AUTO (R208, R209). -/
def autoPd (s : State) (c : Nat) (d : LoopDef) : F64 × F64 × F64 :=
  lawPd (loop2 s c).params (loop s c) (autoR s c d) (srcVal s d.lane d.pvSrc).1 (sampleH s c d)

/-- The unlimited output of a sample in AUTO: P + I + D + F (R209, R210, R211). -/
def autoV (s : State) (c : Nat) (d : LoopDef) : F64 :=
  sumV (autoPd s c d).1 (accVal d.intExp (integrate d (loop2 s c).params (loop s c) 0 (sampleH s c d)))
    (fMul (prm (loop2 s c).params pKD) (autoPd s c d).2.2)
    (fFma (prm (loop2 s c).params pKFF0) (srcVal s d.lane d.ff0).1
      (fFma (prm (loop2 s c).params pKFF1) (srcVal s d.lane d.ff1).1 0))

/-- The limited output of a sample in AUTO (R212). -/
def autoU (s : State) (c : Nat) (d : LoopDef) : F64 :=
  lawLimit (loop2 s c).params (loop s c).u (sampleH s c d) (autoV s c d)

/-- A loop mode request with a code of Table 06.7 waits at its context, and nothing else of the engine changes (R224). -/
def loopRequested (s t : State) (r : Req) (c code : Nat) : Prop :=
  acceptedFor s t r (0x10010000 + w32 c) ∧ t.md = s.md ∧ (∀ j, loop t j = loop s j) ∧
    loop2 t c = { loop2 s c with hostReq := (loop2 s c).hostReq ++ [(code, s.time.tick, originOf s r)] } ∧
    ∀ j, j ≠ c → loop2 t j = loop2 s j

/-- The row of this tick: the value of each enabled channel, in order (R261). -/
def captureRowNow (s : State) : List F64 :=
  (capChannels s.loops.cap.config).map fun i => captureVal s (le s.loops.cap.config (0x18 + 4 * i) 4)

/-- The value of the trigger's channel in a row, if it is enabled (R262). -/
def captureSel (s : State) : Option F64 :=
  (((capChannels s.loops.cap.config).zip (captureRowNow s)).find? fun e => e.1 == capSel s.loops.cap.config).map (·.2)

/-- A row is due at phase 90 µs of this tick (R261). -/
def rowDue (s : State) : Bool :=
  (s.loops.cap.state == 1 || s.loops.cap.state == 2) && decide (s.loops.cap.fromTick ≤ s.time.tick) &&
    s.loops.cap.lastRow != some s.time.tick && decide (s.time.tick % capRate s.loops.cap.config = 0)

/-- The snapshot values of a context's tags (R278, Table 08.8). -/
def tagValues (s : State) (p : Bytes) : List F64 := (solverTags (solverOf p) p).map fun q => (tagValue s q.1).1

/-- Every tag of a context is valid at its snapshot, and no region update or course parameter enters there (R276, R279). -/
def plainSnapshot (s : State) (c : Nat) (p : Bytes) : Bool :=
  (solverTags (solverOf p) p).all (fun q => (tagValue s q.1).2) && (solv2 s c).update.isNone && (solv2 s c).courseParams.isEmpty

/-- A frame of context c starts in this tick (R277). -/
def frameDue (s : State) (c : Nat) (p : Bytes) : Bool :=
  running s && s.time.tick % (solverOf p).period == (solverOf p).offset && (solv2 s c).frame != some s.time.tick

/-- The job in a slot at a phase of this tick, once a preemption that is due has been made (R288). -/
def jobAt (s : State) (ctx n : Nat) : Option JobSt := (solv2 (schedule (setPhase s n)) ctx).job

/-- EV168 for the curves whose argument is clamped now and was not before (R275). -/
def clampEvents (s : State) (c : Nat) (j : JobSt) : List (Nat × List W32) :=
  ((clampedCurves (solverOf j.record) j.record ⟨j.snap.tags, j.snap.params, j.snap.curves⟩).filter fun k =>
    !(solv2 s c).clamped.contains k).map fun k => (168, [w32 c, w32 k])

/-- EV176 to EV180 for the conditions that an outcome enters (R329). -/
def conditionEvents (s : State) (c : Nat) (o : Outcome9) : List (Nat × List W32) :=
  (([(176, [w32 c, w32 o.replaced, o.firstReplaced]), (177, [w32 c, w32 o.retry]), (178, [w32 c, w32 o.cause]),
      (179, [w32 c, w32 o.cause, o.firstReplaced]), (180, [w32 c, w32 o.cause] ++ wF64 o.violation)].zip
    (jobConditions o)).zipIdx.filter fun e => e.1.2 && !(solv2 s c).conditions.getD e.2 false).map fun e => e.1.1

/-- The frame of context c ends: its context is configured, the solver runs, and the frame-end tick has come (R283). -/
def frameEnds (s : State) (c : Nat) (d : SolverDef) (f : Nat) : Bool :=
  decide (c < 64) && solverDef (theImage s) c == some d && (solv2 s c).frame == some f && running s &&
    decide (f + d.period ≤ s.time.tick) && (solv2 s c).job.isNone

/-- A frame's outcome decides alone: the module is no standby that has the active's (R286). -/
def ownOutcome (s : State) (c f : Nat) (o : Outcome9) : Bool :=
  (s.md.role != .standby || (solv2 s c).mortar.isNone) && (solv2 s c).outcome == some (f, o)

/-- A frame that waits for the boundary and does nothing before: not an outcome, a time step, a table's completion or a safety
reset (R339). -/
def waitsForBoundary : Mortar → Bool
  | .outcome _ | .step _ | .tableReady _ | .ack _ true => false
  | _ => true

/-- The first copy of a cycle of a running station, a sound input frame in a mode that reads the ring (R442, R446). -/
def newCycle (s : State) (f : RingFrame) (d : StationDef) : Bool :=
  s.ring.forwarding && (s.md.mode == .load || evaluates s.md.mode) && frameSound f && f.rtype == 2 &&
    stationDef (theImage s) f.station == some d &&
    (stn s f.station).state == 3 && cycleTick d f.tick &&
    (stn s f.station).lastCycle.elim true fun n => decide (n < f.tick)

/-- A module block says that its module is present without fault or mismatch (R446). -/
def blockGood (b : Nat × Byte × Bytes) : Bool := b.2.1.getLsbD 0 && !b.2.1.getLsbD 1 && !b.2.1.getLsbD 2

/-- The module reads the ring's DISCOVER answers: it holds the token, or is SOLO on a single base, with an image (R448, R451). -/
def discovers (s : State) : Bool :=
  s.ring.forwarding && s.kiln.image.isSome && ringMaster s && (s.md.mode == .load || evaluates s.md.mode)

/-- The entries of a port's launch list that a test finds late and that are not on the bus (R468). -/
def lateEntries (s : State) (p : Nat) (late : TxEntry → Bool) : List TxEntry :=
  (port s p).launch.filter fun e => late e && !isOnBus (port s p) e

/-- The entry offered at a selection point: the due head of the launch list, else the head of the FIFO (R466). -/
def offered (s : State) (p n : Nat) : Option TxEntry :=
  ((port s p).launch.head?.filter fun e => decide (e.time ≤ s.time.ns + n)).or (port s p).fifo.head?

/-- The entry stands in neither list of its port. -/
def entryGone (t : State) (p : Nat) (e : TxEntry) : Prop :=
  ∀ a ∈ (port t p).fifo ++ (port t p).launch, a.order ≠ e.order

/-- What a handle reads (R477). -/
def handleReads (t : State) (h : Nat) : HandleSt := tget ⟨0, none, 0⟩ t.can.handle h

/-- A measurement of a port counts: PTP is configured, the module runs, the port's link is up (R486, R488). -/
def ptpRuns (s : State) (p : Nat) : Bool :=
  s.md.powered && decide ((netNow s).profile ≠ 0) && (s.md.mode == .load || evaluates s.md.mode) && (p == 1 || p == 2) &&
    (s.net.lan.getD (p - 1) {}).up

/-- It is a measurement of the best master, whose source is not ignored, in a module that keeps its own time (R488, R497). -/
def ptpCounts (s : State) (p : Nat) (gm : W64) (cls : Nat) : Bool :=
  ptpRuns s p && (s.md.mode != .load || s.time.set) && s.md.role != .standby && s.time.ignored != some gm &&
    ptpSelects s p gm cls

/-- The offset lies beyond JUMP_NS, a port that replaces the slave port differs from its last offset by more, or the servo is
FREE (R44, R488, R494; the last for a jump at the fourth measurement, assumption 97). -/
def ptpBeyond (s : State) (p : Nat) (gm : W64) (o : Int) : Bool :=
  s.time.servo == 4 || decide ((netNow s).jumpNs < o.natAbs) ||
    decide (s.time.slavePort ≠ 0 ∧ s.time.slavePort ≠ p ∧ s.time.gm = gm ∧ (netNow s).jumpNs < (o - s.time.offset).natAbs)

/-- The master of a measurement that is accepted is a change: another grandmaster, or another than the one that is ignored
(R494, assumption 101). -/
def ptpChange (s : State) (gm : W64) : Bool := decide (s.time.gm ≠ gm) || s.time.ignored.isSome

/-- The consecutive measurements within 100 ns with the present one; a master change starts them anew (R491, R494). -/
def ptpGood (s : State) (gm : W64) (o : Int) : Nat :=
  if o.natAbs ≤ 100 then (if ptpChange s gm then 0 else s.time.goodRun) + 1 else 0

/-- The consecutive measurements of one source beyond JUMP_NS with the present one (R494). -/
def ptpBad (s : State) (gm : W64) : Nat := if s.time.badGm = gm then s.time.badRun + 1 else 1

/-- The state with the servo in another state, in which its events are stamped (R491). -/
def servoAs (s : State) (x : Nat) : State := { s with time := { s.time with servo := x } }

/-- A time command may be decided: served, in control, none outstanding (R78, R495). -/
def timeServed (s : State) (r : Req) : Bool := servedOutside s r timeObj && inControl s

/-- A request of a session of at least this generation, in a mode that serves its object (R500, R516). -/
def operates (s : State) (r : Req) (g : Nat) (obj : W32) : Bool :=
  arrives s r && decide (g ≤ (sess s r.session).gen) && modeServes s obj

/-- A batch of a size that may be checked, outside CHANGE (R68, R523). -/
def batchServed (s : State) (r : Req) (l : List BatchEntry) : Bool :=
  operates s r 3 0x10010000#32 && s.md.mode != .change && decide (1 ≤ l.length ∧ l.length ≤ 32)

/-- The entry writes a manual value (R225). -/
def isManual (e : BatchEntry) : Bool :=
  match batchItem e with
  | .manual _ _ => true
  | _ => false

/-- The manual value of a context after the entries that write it, in their order (R524). -/
def lastManual (c : Nat) (l : List BatchEntry) (v : F64) : F64 :=
  l.foldl (fun v e => match batchItem e with
    | .manual k w => if k = c then w else v
    | _ => v) v

/-- The module has abdicated on a cause at a phase of the tick (R349): HALT, terminals, permits, ring outputs and token line
dropped; behind the events given, EV032 is raised with the cause; the ABDICATE frame has left if the management pair can
act. -/
def abdicated (s t : State) (cause phase : Nat) (first : List (Nat × List W32)) : Prop :=
  t.md.mode = .halt ∧ t.md.token = false ∧ t.field.terminal = [] ∧ t.safe.permits = [] ∧
  (∀ e ∈ t.safe.axis, e.2.swA = false ∧ e.2.swB = false) ∧
  (∀ e ∈ t.ring.st, e.2.queued = [] ∧ e.2.launched = []) ∧ t.pair.cause = cause ∧
  (recorded s phase first).intake <+: t.ev.intake ∧
  (s.ev.running = true → ∃ e ∈ t.ev.intake.drop (recorded s phase first).intake.length,
    e.ev = 32 ∧ e.arg = [w32 cause] ∧ e.stamp = s.time.ns + phase) ∧
  (t.md.mgmtAlive = true → onTwin s = true → s.ev.running = true → .abdicate cause ∈ t.net.outbox)

/-- A module that can abdicate: with power, and neither in HALT nor in SEALED. -/
def canAbdicate (s : State) : Bool := s.md.powered && s.md.mode != .halt && s.md.mode != .sealed

/-- A counter of the bank's kind of memory: 0 SRAM, 1 DRAM (Table 17.8). -/
def memoryKind (b : Nat) : Nat := if b < 48 then 0 else 1

/-- Bank 47 has been wiped (R538): it does not hold the identity key, the cause is kept, and every session has ended. -/
def bankWiped (t : State) (cause : Nat) : Prop := t.sec.loaded = false ∧ t.sec.lastWipe = cause ∧ t.net.sess = []

/-- The panel is driven, or its drive is about to start, and not being released (R555, R557). -/
def panelPair (s : State) : Bool := (s.panel.driving || s.panel.starting) && !s.panel2.releasing

/-- A reading that calls for the next higher band (R547). -/
def callsUp (s : State) (x : Int) : Bool :=
  decide ((bandDef s.panel2.map (s.panel.decided.getD s.panel.band)).upper ≤ x) &&
    decide (s.panel.decided.getD s.panel.band < 4)

/-- A reading that calls for the next lower band (R547). -/
def callsDown (s : State) (x : Int) : Bool :=
  decide (0 < s.panel.decided.getD s.panel.band) &&
    decide (x < (bandDef s.panel2.map (s.panel.decided.getD s.panel.band - 1)).upper - 20)

/-- The number of consecutive crack loop readings with the present outcome (R558). -/
def loopRunNow (s : State) (k : Nat) : Nat := if s.panel.loopKind = k then s.panel.loopRun + 1 else 1

end Sys2Proof.Machine
end

