-- ==== Sys2Proof/Certificates/Slice0/Obligations.lean ====
section
/-! DEFINITION. The statements about the block, in the order of the spec's chapters. -/

open Sys2Proof Sys2Proof.Machine

/-- A step takes the command at the front of the queue (02_modes_and_button.md, R54, R56): The step of a state whose
queue begins with a command is the effect of that command on the state with the queue's rest; with an empty queue the
block idles (the model's choice, log entry 1). -/
def Obligations.StepRunsTheFrontCommand : Prop :=
  (∀ (s : State) (c : Instr) (l : List Instr), s.pending = c :: l → step s = exec c { s with pending := l }) ∧
  (∀ s : State, s.pending = [] → step s = .next s)

/-- Every command has a next state in every state (16_host_objects.md, R503, R511): No command ends in a fault or a
refusal, in any state: where the spec refuses a request the module answers so, and goes on. -/
def Obligations.NoCommandStops : Prop :=
∀ (c : Instr) (s : State), ∃ t, exec c s = .next t

/-- The state at reset (R73, R380, R525): At reset the module is without power, its queue is empty, no injection is
on, every axis switch is open and the event buffer is empty. -/
def Obligations.ResetMeetsTheInvariants : Prop :=
injectionInMode State.reset ∧ switchesInMode State.reset ∧ bufferFits State.reset ∧ State.reset.pending = [] ∧
  State.reset.md.powered = false ∧ State.reset.md.token = false ∧ State.reset.ev.running = false

/-- A step keeps the injection attribute to RUN and DEGRADED (R73): Whatever command runs, a module whose injection
attribute is set is in RUN or DEGRADED after it if it was so before: every change of mode resolves the attribute. -/
def Obligations.InjectionOnlyInItsModes : Prop :=
∀ s t : State, injectionInMode s → step s = .next t → injectionInMode t

/-- A step keeps the axis switches to the modes that evaluate (R380, R349): Whatever command runs, in a mode in which
the safety channels do not evaluate, and in SYNC, every switch of every axis is open after it if it was so before. -/
def Obligations.AxisSwitchesOnlyInTheirModes : Prop :=
∀ s t : State, switchesInMode s → step s = .next t → switchesInMode t

/-- A step keeps at most 4,096 event records (R525, R565): Whatever command runs, the event buffer holds at most 4,096
records after it if it did before: a new record displaces the oldest one. -/
def Obligations.EventBufferStaysBounded : Prop :=
∀ s t : State, bufferFits s → step s = .next t → bufferFits t

/-- A command changes only the parts of the state that its chapter gives it (95_what_each_step_holds.md,
02_modes_and_button.md, 04_bricks_and_courses.md, 06_loop_engine.md, 08_solver_problems.md, 10_pair_redundancy.md,
11_safe_stop.md, 12_field_channels.md, 14_can_ports.md, 15_plant_network_time.md, 16_host_objects.md): For every
command, every part of the state that is not among the parts listed for it is unchanged: mode state, settings,
courses, loops, solver, mortar, safety, field, ring, CAN, time, sessions, events, keys, panel, supplies and the queue
of waiting commands. -/
def Obligations.FrameOfCommands : Prop :=
∀ (c : Instr) (s t : State) (p : Part), exec c s = .next t → p ∉ mayChange c → same p s t

/-- START, STOP and CONTINUE are accepted and the transition waits for the next boundary (R64, R68, R78): In the modes
in which Table 02.5 accepts it, a served mode command of a SOLO or ACTIVE module is answered ACCEPTED, is the one mode
command outstanding, and its transition to RUN or STOP joins those that wait for the next tick boundary. -/
def Obligations.TransitionCommandsAreAccepted : Prop :=
  (∀ (s : State) (r : Req), servedOutside s r modeObj = true → cmdBusy s = false → inControl s = true →
    s.md.mode = .stop →
    ∃ t, exec (.modeStart r) s = .next t ∧ acceptedFor s t r modeObj ∧ t.md = awaiting s r 1 .run) ∧
  (∀ (s : State) (r : Req), servedOutside s r modeObj = true → cmdBusy s = false → inControl s = true →
    (s.md.mode = .run ∨ s.md.mode = .hold ∨ s.md.mode = .degraded) →
    ∃ t, exec (.modeStop r) s = .next t ∧ acceptedFor s t r modeObj ∧ t.md = awaiting s r 2 .stop) ∧
  (∀ (s : State) (r : Req), servedOutside s r modeObj = true → cmdBusy s = false → inControl s = true →
    s.md.mode = .hold →
    ∃ t, exec (.modeContinue r) s = .next t ∧ acceptedFor s t r modeObj ∧ t.md = awaiting s r 3 .run)

/-- ACKNOWLEDGE, RESET and ROLE_SWAP commands (R69, R78, R84, R85): A host acknowledgement of a unit in control waits
for the first boundary; a STANDBY's goes to its active in a mortar frame. An accepted reset request that leads to KILN
enters it at the second boundary from now; one that leads to a role swap, and a ROLE_SWAP command, are due at the
first boundary at least 2 ticks later. -/
def Obligations.AcknowledgeResetAndRoleSwapCommands : Prop :=
  (∀ (s : State) (r : Req), served s r modeObj = true → acknowledges s = true → inControl s = true →
    ∃ t, exec (.modeAcknowledge r) s = .next t ∧ answers s t r stDone ∧
      t.md = { s.md with trans := s.md.trans ++ [⟨6, .stop, causeHost, none, 4⟩] }) ∧
  (∀ (s : State) (r : Req), served s r modeObj = true → acknowledges s = true → inControl s = false →
    partnerLive s = true → linkLost s = false →
    ∃ t, exec (.modeAcknowledge r) s = .next t ∧ t.md = s.md ∧
      t.net.outbox = .response r.session r.seq stDone [] :: .mortar .ackForward :: s.net.outbox) ∧
  (∀ (s : State) (r : Req), servedOutside s r modeObj = true → cmdBusy s = false → resetOutcome s = .kiln →
    ∃ t, exec (.modeReset r) s = .next t ∧ acceptedFor s t r modeObj ∧
      t.md = { s.md with cmd := some ⟨5, originOf s r⟩, resetAt := some (s.time.tick + 2) }) ∧
  (∀ (s : State) (r : Req), servedOutside s r modeObj = true → cmdBusy s = false → s.md.swapAt = none →
    resetOutcome s = .swap →
    ∃ t, exec (.modeReset r) s = .next t ∧ acceptedFor s t r modeObj ∧
      t.md = { s.md with
        cmd := some ⟨5, originOf s r⟩, swapReset := true
        swapAt := some (if r.at_ = 0 then s.time.tick + 2 else s.time.tick + 3) }) ∧
  (∀ (s : State) (r : Req), servedOutside s r modeObj = true → cmdBusy s = false → s.md.swapAt = none →
    s.md.role = .active → swapMode s.md.mode = true → partnerTracks s = true →
    ∃ t, exec (.modeRoleSwap r) s = .next t ∧ acceptedFor s t r modeObj ∧
      t.md = { s.md with
        swapAt := some (if r.at_ = 0 then s.time.tick + 2 else s.time.tick + 3), swapCmd := some (originOf s r) })

/-- The injection attribute and the breakpoint arming commands (R68, R73, R153, R257): INJECTION_ON sets the attribute
in RUN and DEGRADED; INJECTION_OFF clears it and stops every injection that runs with cause 11. ARM_BREAKPOINTS arms
every defined breakpoint and DISARM_BREAKPOINTS disarms all. -/
def Obligations.InjectionAndBreakpointCommands : Prop :=
  (∀ (s : State) (r : Req), servedOutside s r modeObj = true → cmdBusy s = false → inControl s = true →
    (s.md.mode = .run ∨ s.md.mode = .degraded) →
    ∃ t, exec (.injectionOn r) s = .next t ∧ answers s t r stDone ∧ t.md = { s.md with injection := true }) ∧
  (∀ (s : State) (r : Req), served s r modeObj = true →
    ∃ t, exec (.injectionOff r) s = .next t ∧ t.md = { s.md with injection := false } ∧
      (∃ (ms : List Mortar) (between : List OutMsg), t.net.outbox =
        ms.map .mortar ++ .response r.session r.seq stDone [] :: (between ++ s.net.outbox)) ∧
      ∀ c, ((tget {} s.loops.inj c).state = 1 ∨ (tget {} s.loops.inj c).state = 2) →
        (tget {} t.loops.inj c).state = 4 ∧ (tget {} t.loops.inj c).cause = 11) ∧
  (∀ (s : State) (r : Req), servedOutside s r modeObj = true → cmdBusy s = false → inControl s = true →
    s.md.mode = .run → (s.md.role = .active → holdOnActive s = true) →
    ∃ t, exec (.armBreakpoints r) s = .next t ∧ answers s t r stDone ∧
      t.crs = { s.crs with bp := s.crs.bp.map fun e => (e.1, { e.2 with armed := e.2.armed || e.2.defined }) }) ∧
  (∀ (s : State) (r : Req), served s r modeObj = true → cmdBusy s = false →
    ∃ t, exec (.disarmBreakpoints r) s = .next t ∧ answers s t r stDone ∧
      t.crs = { s.crs with bp := s.crs.bp.map fun e => (e.1, { e.2 with armed := false }) })

/-- PREPARE_RETURN waits 30 s for the press (R514, R573): An accepted PREPARE_RETURN changes no mode and waits until
240,000 ticks later; when that tick has passed without the press, it completes with REFUSED_ACCESS and nothing else
changes. -/
def Obligations.PrepareReturnWaitsForThePress : Prop :=
  (∀ (s : State) (r : Req), servedOutside s r modeObj = true → cmdBusy s = false → s.md.role ≠ .active →
    returnAllowed s = true →
    ∃ t, exec (.prepareReturn r) s = .next t ∧ acceptedFor s t r modeObj ∧ t.md = s.md ∧
      t.ev = { s.ev with prepare := some (originOf s r, s.time.tick + 240000) }) ∧
  (∀ (s : State) (o : Origin) (d : Nat) (obj : W32), s.ev.prepare = some (o, d) → d < s.time.tick →
    isOutstanding s o obj = true →
    ∃ t, exec .prepareReturnTimeout s = .next t ∧ t.ev = { s.ev with prepare := none } ∧ t.md = s.md ∧
      t.net.outbox = .completion o.session o.seq obj rfAccess :: s.net.outbox)

/-- The button's edges are stamped, and a button held too long is stuck (R82, R86, R87): A closing recognised after 81
closed samples is stamped at the first of them. A button closed for more than 64,001 samples is declared stuck with
EV014, at once when it is found closed at power-on, and EV015 ends that after 8,000 samples open. -/
def Obligations.ButtonEdgesAreStampedAndStuckIsDeclared : Prop :=
  (∀ s : State, closingDue s = true → s.btn.level ≠ none →
    ∃ t, exec .buttonClosingRecognised s = .next t ∧ t.ev = s.ev ∧
      t.btn = { s.btn with level := some true, closedAt := s.btn.samples - s.btn.run }) ∧
  (∀ s : State, s.md.powered = true → s.btn.level = some true → s.btn.raw = true → s.btn.stuck = false →
    s.btn.closedAt + 64001 < s.btn.samples → s.ev.running = true →
    ∃ t, exec .buttonStuck s = .next t ∧ t.btn = { s.btn with stuck := true } ∧ t.ev = recorded s 0 [(14, [])]) ∧
  (∀ s : State, closingDue s = true → s.btn.level = none → s.btn.stuck = false → s.ev.running = false →
    ∃ t, exec .buttonStuck s = .next t ∧ t.ev = s.ev ∧
      t.btn = { s.btn with
        level := some true, closedAt := s.btn.samples - s.btn.run, stuck := true, ev014Due := true }) ∧
  (∀ s : State, s.md.powered = true → s.btn.stuck = true → s.btn.level = some false →
    s.btn.openedAt + 8000 < s.btn.samples →
    ∃ t, exec .buttonStuckEnd s = .next t ∧ t.btn = { s.btn with stuck := false } ∧ t.md = s.md ∧
      t.ev = recorded s 0 [(15, [])])

/-- A released press acts by the class of its duration (R82, R83, R84, R85, R86): The opening is stamped at the first
of its 81 samples. A press below 400 ticks, and the release of a stuck button, do nothing. A press of 400 to 15,999
ticks acknowledges (EV011), and takes OASIS without a cause to STOP. A press of 16,000 to 64,000 ticks is a reset
request, refused with EV013 or honoured with EV012. -/
def Obligations.ReleasedPressActsByItsClass : Prop :=
  (∀ s : State, releaseDue s = true → s.btn.stuck = true ∨ pressTicks s < 400 →
    ∃ t, exec .buttonReleaseRecognised s = .next t ∧ t.btn = released s ∧ t.md = s.md ∧ t.ev = s.ev) ∧
  (∀ s : State, releaseDue s = true → s.btn.stuck = false → 400 ≤ pressTicks s → pressTicks s < 16000 →
    acknowledges s = true → inControl s = true → s.ev.prepare = none → s.sec.enrol = none → s.md.mode ≠ .oasis →
    s.panel.untrusted = false →
    ∃ t, exec .buttonReleaseRecognised s = .next t ∧ t.btn = released s ∧ t.md = s.md ∧
      t.ev = { recorded s 0 [(11, [])] with
        unacked := s.ev.unacked.filter fun u => decide (s.time.tick ≤ u.2.2.2) }) ∧
  (∀ s : State, releaseDue s = true → s.btn.stuck = false → 400 ≤ pressTicks s → pressTicks s < 16000 →
    inControl s = true → s.ev.prepare = none → s.sec.enrol = none → s.md.mode = .oasis → oasisCause s = false →
    ∃ t, exec .buttonReleaseRecognised s = .next t ∧ t.btn = released s ∧ t.md.mode = .stop ∧
      t.md.prevMode = .oasis) ∧
  (∀ s : State, releaseDue s = true → s.btn.stuck = false → 16000 ≤ pressTicks s → pressTicks s ≤ 64000 →
    ∃ t, exec .buttonReleaseRecognised s = .next t ∧ t.btn = released s ∧
      (resetOutcome s = .refused → t.md = s.md ∧ t.ev = recorded s 0 [(13, [])]) ∧
      (resetOutcome s = .kiln →
        t.md = { s.md with resetAt := some (s.time.tick + 2) } ∧ t.ev = recorded s 0 [(12, [])]) ∧
      (resetOutcome s = .swap → s.md.swapAt = none →
        t.md = { s.md with swapAt := some (s.time.tick + 2), swapReset := true } ∧ t.ev = recorded s 0 [(12, [])]))

/-- A STANDBY in TRACK follows its active into OASIS and stays in TRACK (R72): When a STANDBY in TRACK has been sent
its active's mode OASIS, the boundary that applies the frame makes OASIS the mode that it shadows, so that its
courses, loop engine and solver run no more, and leaves it a STANDBY in TRACK, even if a fault of its own in that tick
would have taken an active into OASIS. -/
def Obligations.StandbyFollowsIntoOasis : Prop :=
∀ (s : State) (x ph n : Nat), linkServed s = true → s.pair.noCommon = false → s.md.role = .standby → s.md.mode = .track →
    s.mortar.queue = [] → s.exch.state ≠ 4 → x ≠ 4 →
    ∃ t, exec (.mortarFrameReceive true (.mode (modeCode .oasis) x ph) n) s = .next t ∧ t.md = s.md ∧
      (mortarBoundary t).md.mode = .track ∧ (mortarBoundary t).md.role = .standby ∧
      (mortarBoundary t).mortar.activeMode = modeCode .oasis ∧ running (mortarBoundary t) = false

/-- Power-on, the two clears and the measurement of K0 to K6 (R64, R90, R92, R94, R95, R96, R575): Power-on enters
KILN with every memory cleared, and an intrusion that came without power has erased the keys. When the SRAM clear
completes, K0 and K1 are measured; when the DRAM clear completes after it, K2 to K6 are, each chained to the one
before, and the module enters LOAD, or SEALED in the life cycle RETURN. The first stage that fails its signature check
is measured and leads to HALT, and so does a clear that exceeds its bound. -/
def Obligations.StartMeasuresEveryStage : Prop :=
  (∀ (s : State) (slot : Nat) (fa fb : Bool), s.md.powered = false → (fa || fb) = true →
    ∃ t, exec (.powerOn slot fa fb) s = .next t ∧ atKilnEntry t ∧ t.md.powered = true ∧ t.md.slot = slot ∧
      t.md.role = (if slot = 0 then .solo else .standby) ∧ t.md.lampTicks = 4000 ∧ t.sup.inRange = [fa, fb] ∧
      (s.sec.unpowered = none → t.sec.identity = s.sec.identity ∧ t.sec.signers = s.sec.signers ∧
        t.sec.authorities = s.sec.authorities) ∧
      (s.sec.unpowered ≠ none → t.sec.identity = [] ∧ t.sec.signers = [] ∧ t.sec.authorities = [] ∧
        t.sec.intruded = true)) ∧
  (∀ s : State, s.md.powered = true → s.md.mode = .kiln → s.kiln.sramDone = false → s.kiln.dramDone = false →
    stagePasses s 1 = true →
    ∃ t, exec .sramClearComplete s = .next t ∧ t.md = s.md ∧ t.kiln.sramDone = true ∧
      t.sec.loaded = (!s.sec.identity.isEmpty) ∧
      t.kiln.k = stagesInto s [1] (measuredInto s.kiln.k 0
        (Config.k0Report s.sec.life s.sec.intruded s.md.fromPowerOn s.md.slot))) ∧
  (∀ s : State, s.md.powered = true → s.md.mode = .kiln → s.kiln.sramDone = true → s.kiln.dramDone = false →
    (∀ i ∈ [2, 3, 4, 5, 6], stagePasses s i = true) →
    ∃ t, exec .dramClearComplete s = .next t ∧ t.kiln.dramDone = true ∧
      t.kiln.k = stagesInto s [2, 3, 4, 5, 6] s.kiln.k ∧
      (s.sec.life = 3 → t.md.mode = .sealed) ∧
      (s.sec.life ≠ 3 → t.md.mode = .load ∧ t.md.prevMode = .kiln ∧ t.ev.running = true ∧ t.md.ticking = true)) ∧
  (∀ (s : State) (j : Nat), s.md.powered = true → s.md.mode = .kiln → s.kiln.sramDone = true → s.kiln.dramDone = false →
    j ∈ [2, 3, 4, 5, 6] → (∀ i ∈ [2, 3, 4, 5, 6], i < j → stagePasses s i = true) → stagePasses s j = false →
    ∃ t, exec .dramClearComplete s = .next t ∧ t.md.mode = .halt ∧
      t.kiln.k = stagesInto s ([2, 3, 4, 5, 6].take (j - 1)) s.kiln.k) ∧
  (∀ s : State, s.md.powered = true → s.md.mode = .kiln → (s.kiln.sramDone && s.kiln.dramDone) = false →
    ∃ t, exec .clearTimeout s = .next t ∧ t.md.mode = .halt ∧ t.kiln = { s.kiln with quotes := t.kiln.quotes })

/-- A supply loss in KILN or LOAD restarts the start at the entry to KILN (R93): In KILN and in LOAD,
START_SUPPLY_LOSS leaves the powered module as at the entry to KILN, with what non-volatile stores hold unchanged; the
supply monitor's fault with no feed in range does the same there. -/
def Obligations.SupplyLossDuringStartBeginsAgain : Prop :=
  (∀ s : State, s.md.powered = true → s.md.mode = .kiln ∨ s.md.mode = .load →
    ∃ t, exec .startSupplyLoss s = .next t ∧ atKilnEntry t ∧ t.md.powered = true ∧ t.kiln.fw = s.kiln.fw ∧
      t.sec.identity = s.sec.identity) ∧
  (∀ (s : State) (n : Nat), s.md.powered = true → s.md.mode = .kiln ∨ s.md.mode = .load → noFeed s = true →
    ∃ t, exec (.supplyMonitorFault n) s = .next t ∧ exec .startSupplyLoss s = .next t)

/-- The bank with the higher SEQUENCE is tried first, and the other one falls back (R104, R110, R111): Reading the
headers reports each bank, raises EV003 for a bank that fails there and is not erased, and tries the bank with the
higher SEQUENCE, A of equals; with none, or without a key, EV001. A bank that passes its full check is selected, as a
fall-back with EV002 after a failed first one; a bank that fails it raises EV003 as the first and leaves the other to
be tried, or EV001. -/
def Obligations.ImageIsChosenBySequence : Prop :=
  (∀ (s : State) (n : Nat), s.md.mode = .load → s.kiln.headersRead = false → s.kiln.keyPresent = true →
    ∃ t, exec (.bankHeadersRead n) s = .next t ∧ t.kiln.headersRead = true ∧ t.md = s.md ∧
      (∀ b, b < 2 → bank t b = { bank s b with
        valid := false, failReason := if headerReason s b = 0 then 11 else headerReason s b }) ∧
      (headerReason s 0 = 0 → headerReason s 1 = 0 →
        t.kiln.trying = some (if bankSeqNo s 0 < bankSeqNo s 1 then 1 else 0) ∧
        t.kiln.other = some (if bankSeqNo s 0 < bankSeqNo s 1 then 0 else 1)) ∧
      (headerReason s 0 = 0 → headerReason s 1 ≠ 0 → t.kiln.trying = some 0 ∧ t.kiln.other = none) ∧
      (headerReason s 0 ≠ 0 → headerReason s 1 = 0 → t.kiln.trying = some 1 ∧ t.kiln.other = none) ∧
      t.ev = recorded s n (headerEvents s ++
        if headerReason s 0 ≠ 0 ∧ headerReason s 1 ≠ 0 then [(1, [])] else [])) ∧
  (∀ (s : State) (n : Nat), s.md.mode = .load → s.kiln.headersRead = false → s.kiln.keyPresent = false →
    ∃ t, exec (.bankHeadersRead n) s = .next t ∧ t.kiln = { s.kiln with headersRead := true } ∧ t.md = s.md ∧
      t.ev = recorded s n [(1, [])]) ∧
  (∀ (s : State) (b n : Nat), s.md.mode = .load → s.kiln.keyPresent = true → s.kiln.trying = some b →
    ∃ t, exec (.bankFullCheckComplete n) s = .next t ∧ t.md = s.md ∧ t.kiln.other = none ∧
      (bank t b).failReason = (fullCheck s (bank s b).bytes).reason ∧
      (∀ img, (fullCheck s (bank s b).bytes).image = some img →
        t.kiln.selected = some (b, img) ∧ t.kiln.trying = none ∧ (bank t b).running = true ∧
        (bank t b).fallback = s.kiln.firstFailed ∧
        t.ev = recorded s n (((fullCheck s (bank s b).bytes).skipped.map fun ty => (19, [w32 ty])) ++
          if s.kiln.firstFailed then [(2, [])] else [])) ∧
      ((fullCheck s (bank s b).bytes).image = none →
        t.kiln.selected = s.kiln.selected ∧ t.kiln.trying = s.kiln.other ∧
        t.kiln.firstFailed = s.kiln.other.isSome ∧
        t.ev = recorded s n (((fullCheck s (bank s b).bytes).skipped.map fun ty => (19, [w32 ty])) ++
          (if s.kiln.firstFailed then [] else [(3, [w32 b, w32 (fullCheck s (bank s b).bytes).reason])]) ++
          if s.kiln.other = none then [(1, [])] else [])))

/-- A selected image is measured into K7 and applied (R97, R112, R120, R492): K7 is extended with the header of the
selected image, which becomes the running one; no setting is written, no exchange, instance data, mirage, output or
scan of an earlier program remains, and every loop context has the parameters of a record of its number. The end of
the acquisition wait is noted and changes nothing else. -/
def Obligations.ImageIsMeasuredAndApplied : Prop :=
  (∀ (s : State) (b n : Nat) (img : Image), s.md.mode = .load → s.kiln.selected = some (b, img) →
    ∃ t, exec (.imageApplied n) s = .next t ∧ t.md = s.md ∧
      t.kiln = { s.kiln with
        k := headerInto s.kiln.k img.header, image := some img, imageBank := b, oldImage := none, selected := none
        applied := true, differs := false } ∧
      t.set = {} ∧ t.exch = {} ∧ t.crs.data = [] ∧ t.crs.mirages = [] ∧ t.crs.out = [] ∧ (∀ c, course t c = {}) ∧
      ∀ e ∈ t.loops.m, ∃ d ∈ loopDefs img, d.1 = e.1 ∧ e.2.params = d.2.params) ∧
  (∀ (s : State) (n : Nat), s.md.mode = .load →
    s.time.loadTick + 8 * (netCfg ((s.kiln.selected.map (·.2)).getD (theImage s))).acqWait ≤ s.time.tick →
    ∃ t, exec (.acqWaitExpiry n) s = .next t ∧ t = { s with time := { s.time with waitOver := true, phase := n } })

/-- The Image Key's removal and insertion, and the background measurement (R98, R104, R570): Removal raises EV017,
leaves no bank content (FAIL_REASON 13), fails image writes with REASON 6 and keeps the running image. Insertion of a
key that can be read gives both banks its content, as far as a bank holds it, and reads their headers; in LOAD bank
selection begins again, elsewhere the image stays. A stage whose re-measurement differs from kiln's raises EV004 and
is abdication cause 6; an equal one changes nothing. -/
def Obligations.KeyRemovalAndInsertionLeaveTheRunningImage : Prop :=
  (∀ (s : State) (n : Nat), s.md.powered = true → s.ev.running = true → s.kiln.keyPresent = true →
    ∃ t, exec (.imageKeyRemoved n) s = .next t ∧ t.md = s.md ∧ t.kiln.keyPresent = false ∧ t.kiln.image = s.kiln.image ∧
      t.kiln.k = s.kiln.k ∧ t.ev.key = [] ∧
      (∀ b, b < 2 → bank t b = { bank s b with bytes := [], valid := false, writing := false, failReason := 13 }) ∧
      (recorded s n [(17, [])]).intake <+: t.ev.intake ∧
      ∀ e ∈ s.tickets, e.2.kind = 4 → (e.2.status = 1 ∨ e.2.status = 2 ∨ e.2.status = 3) →
        (ticket t e.1).status = 7 ∧ (ticket t e.1).reason = 6) ∧
  (∀ (s : State) (key : KeyContent) (n : Nat), s.md.powered = true → s.ev.running = true → s.kiln.keyPresent = false → key.readable = true →
    s.md.mode ≠ .load → s.md.mode ≠ .sealed →
    ∃ t, exec (.imageKeyInserted key n) s = .next t ∧ t.md = s.md ∧ t.kiln.keyPresent = true ∧
      t.kiln.image = s.kiln.image ∧ t.kiln.k = s.kiln.k ∧ (bank t 0).bytes = key.bankA.take bankMax ∧ (bank t 1).bytes = key.bankB.take bankMax ∧
      (∀ b, b < 2 → (bank t b).failReason = if headerReason t b = 0 then 11 else headerReason t b) ∧
      (∀ b, b < 2 → (bank t b).running = (bank s b).running ∧ (bank t b).fallback = (bank s b).fallback) ∧
      t.ev.key.map (·.jseq) = key.journal ∧ (∀ j ∈ key.journal, j < t.ev.jseq) ∧ t.ev.startNo = key.starts + 1) ∧
  (∀ (s : State) (key : KeyContent) (n : Nat), s.md.powered = true → s.ev.running = true → s.kiln.keyPresent = false → key.readable = true →
    s.md.mode = .load →
    ∃ t, exec (.imageKeyInserted key n) s = .next t ∧ t.md = s.md ∧ t.kiln.keyPresent = true ∧
      (bank t 0).bytes = key.bankA.take bankMax ∧ (bank t 1).bytes = key.bankB.take bankMax ∧ t.kiln.headersRead = false ∧
      t.kiln.trying = none ∧ t.kiln.selected = none ∧ t.kiln.image = none) ∧
  (∀ (s : State) (i : Nat) (code : Bytes) (n : Nat), canAbdicate s = true → s.md.mode = .load ∨ evaluates s.md.mode = true →
    s.md.mode ≠ .oasis → 2 ≤ i → i ≤ 6 → tfind s.kiln.measured i ≠ some (sha384 code) →
    ∃ t, exec (.kilnRemeasureComplete i code n) s = .next t ∧ abdicated s t 6 n [(4, [])] ∧ t.kiln.k = s.kiln.k) ∧
  (∀ (s : State) (i : Nat) (code : Bytes) (n : Nat), tfind s.kiln.measured i = some (sha384 code) →
    ∃ t, exec (.kilnRemeasureComplete i code n) s = .next t ∧ t = s)

/-- Attestation nonces and quotes (R99, R100): A 32-byte nonce is answered DONE and replaces the session's nonce and
quote. A captured quote becomes readable with EV016, and no other session's does. -/
def Obligations.QuotesAreServedPerSession : Prop :=
  (∀ (s : State) (r : Req) (nonce : Bytes), served s r nonceObj = true → nonce.length = 32 →
    ∃ t, exec (.attestationNonce r nonce) s = .next t ∧ answers s t r stDone ∧ t.md = s.md ∧
      t.kiln = { s.kiln with
        quotes := (s.kiln.quotes.filter fun q => q.session != r.session) ++ [⟨r.session, nonce, none, false⟩] }) ∧
  (∀ (s : State) (i n : Nat), s.sec.loaded = true → (s.md.mode = .halt → s.md.mgmtAlive = true) →
    (∃ q ∈ s.kiln.quotes, q.session = i ∧ q.captured ≠ none ∧ q.ready = false) →
    ∃ t, exec (.quoteReady i n) s = .next t ∧ t.md = s.md ∧ t.ev = recorded s n [(16, [])] ∧
      t.kiln = { s.kiln with quotes := s.kiln.quotes.map fun q =>
        if q.session = i ∧ q.captured ≠ none then { q with ready := true } else q })

/-- Settings writes and the settings-complete declaration (R121, R122, R123, R124, R227): An accepted write joins the
values in force from the next boundary, sets STATE to PARTIAL and counts; a bound parameter's change joins its loop.
Without a partner in TRACK it reports DONE, with one ACCEPTED, and waits. A declaration completes at once with EV006
when no earlier write of its session waits, and is held otherwise; a held one completes when they have reported. -/
def Obligations.SettingsWritesAndDeclarations : Prop :=
  (∀ (s : State) (r : Req) (i : Nat) (data : Bytes), servedOutside s r (settingObj i) = true →
    settingCheck s i data = none → partnerTracks s = false →
    ∃ t, exec (.settingWrite r i data) s = .next t ∧ answers s t r stDone ∧ t.md = s.md ∧ t.set = settingTaken s i data ∧
      (∀ d, settingByLow (theImage s) i = some d → d.bindCtx = 0xFF → t.loops = s.loops) ∧
      (∀ d, settingByLow (theImage s) i = some d → d.bindCtx ≠ 0xFF → (loop2 t d.bindCtx).changes =
        (loop2 s d.bindCtx).changes ++ [(d.bindOffset, writtenValue data, s.time.tick)])) ∧
  (∀ (s : State) (r : Req) (i : Nat) (data : Bytes), servedOutside s r (settingObj i) = true →
    settingCheck s i data = none → partnerTracks s = true →
    ∃ t, exec (.settingWrite r i data) s = .next t ∧ acceptedFor s t r (settingObj i) ∧ t.md = s.md ∧
      t.set = { settingTaken s i data with waiting := s.set.waiting ++ [⟨originOf s r, i, s.time.tick⟩] } ∧
      (∀ d, settingByLow (theImage s) i = some d → d.bindCtx = 0xFF → t.loops = s.loops) ∧
      (∀ d, settingByLow (theImage s) i = some d → d.bindCtx ≠ 0xFF → (loop2 t d.bindCtx).changes =
        (loop2 s d.bindCtx).changes ++ [(d.bindOffset, writtenValue data, s.time.tick)])) ∧
  (∀ (s : State) (r : Req) (g : W32), servedOutside s r declObj = true → declCheck s g = none →
    (∀ d ∈ s.set.held, sameSession d.origin (originOf s r) = false) →
    (∀ w ∈ s.set.waiting, sameSession w.origin (originOf s r) = false) →
    ∃ t, exec (.settingsComplete r g) s = .next t ∧ answers s t r stDone ∧ t.md = s.md ∧
      t.set = { s.set with done := s.set.done ++ [⟨originOf s r, g, [], false⟩] } ∧
      t.ev = recorded s r.at_ [(6, [])]) ∧
  (∀ (s : State) (r : Req) (g : W32), servedOutside s r declObj = true → declCheck s g = none →
    (∀ d ∈ s.set.held, sameSession d.origin (originOf s r) = false) →
    (∃ w ∈ s.set.waiting, sameSession w.origin (originOf s r) = true) →
    ∃ t, exec (.settingsComplete r g) s = .next t ∧ acceptedFor s t r declObj ∧ t.md = s.md ∧ t.ev = s.ev ∧
      t.set = { s.set with held := s.set.held ++ [⟨originOf s r, g,
        (s.set.waiting.filter fun w => sameSession w.origin (originOf s r)).map fun w => w.origin.seq, false⟩] }) ∧
  (∀ (s : State) (i : Nat) (d : Decl), (s.set.held.find? fun d => d.origin.session == i && !declWaits s d) = some d →
    isOutstanding s d.origin declObj = true →
    ∃ t, exec (.settingsDeclarationDone i) s = .next t ∧ t.md = s.md ∧
      t.set = { s.set with held := s.set.held.erase d, done := s.set.done ++ [d] } ∧
      t.net.outbox = .completion d.origin.session d.origin.seq declObj stDone :: s.net.outbox ∧
      t.ev = recorded s s.time.phase [(6, [])])

/-- PLACE, RELEASE and RELEASE_ALL of mirages (R157, R159, R162, R163): A PLACE that no check refuses sets the mirage
at the entry it already has, or at the lowest free one, and raises EV102; RELEASE takes that entry away and
RELEASE_ALL every one, each with EV103. The answer is DONE, or ACCEPTED with a partner in TRACK, when the request
waits for its mortar frame. The mirages on other entries stay. A PLACE on a loop's output stops the injection that
runs in that loop with cause 10. -/
def Obligations.MiragesForceAndRelease : Prop :=
  (∀ (s : State) (r : Req) (c : MirageCmd) (i : Nat), servedOutside s r mirageObj = true → loopGate s = none →
    placeCheck s c = .ok i → c.kind ≠ 1 →
    ∃ t, exec (.miragePlace r c) s = .next t ∧ mirageAnswered s t r [i] ∧ t.md = s.md ∧
      t.crs.mirages = tset s.crs.mirages i (placed c) ∧
      t.ev = recorded s r.at_ [(102, [w32 (c.kind + 65536 * c.brick), w32 c.index, w32 (c.value.toNat % 2 ^ 32),
        w32 (c.value.toNat / 2 ^ 32)])]) ∧
  (∀ (s : State) (r : Req) (c : MirageCmd) (i : Nat), servedOutside s r mirageObj = true → loopGate s = none →
    placeCheck s c = .ok i → c.kind = 1 →
    ∃ t, exec (.miragePlace r c) s = .next t ∧ t.md = s.md ∧ t.crs.mirages = tset s.crs.mirages i (placed c) ∧
      answersLast s t r (if partnerTracks s = true then stAccepted else stDone) ∧
      (recorded s r.at_ [(102, [w32 (c.kind + 65536 * c.brick), w32 c.index, w32 (c.value.toNat % 2 ^ 32),
        w32 (c.value.toNat / 2 ^ 32)])]).intake <+: t.ev.intake ∧
      ∀ e d, (e, d) ∈ loopDefs (theImage s) → d.dst = some c.index → (tget {} s.loops.inj e).state = 2 →
        (tget {} t.loops.inj e).state = 4 ∧ (tget {} t.loops.inj e).cause = 10) ∧
  (∀ (s : State) (r : Req) (c : MirageCmd) (i : Nat), servedOutside s r mirageObj = true → loopGate s = none →
    c.reserved = false → mirageAt s c.kind c.brick c.index = some i →
    ∃ t, exec (.mirageRelease r c) s = .next t ∧ mirageAnswered s t r [i] ∧ t.md = s.md ∧
      t.crs.mirages = tdel s.crs.mirages i ∧
      t.ev = recorded s r.at_ [(103, [w32 (c.kind + 65536 * c.brick), w32 c.index, 1, 0])]) ∧
  (∀ (s : State) (r : Req), servedOutside s r mirageObj = true → loopGate s = none →
    ∃ t, exec (.mirageReleaseAll r) s = .next t ∧ mirageAnswered s t r (s.crs.mirages.map (·.1)) ∧ t.md = s.md ∧
      t.crs.mirages = [] ∧ t.ev = recorded s r.at_ [(103, [0xFF, 0, w32 s.crs.mirages.length, 0])])

/-- A tick boundary is the next tick of vessel time, and settings come into force (R20, R39, R44, R59, R88, R121,
R123): On a ticking module with no time step and no reset due, outside KILN and LOAD, the boundary is the next tick,
whose number times 125,000 ns is the vessel time. On a unit in control the settings accepted in the last tick are in
force, and the last completed declaration has set GENERATION, and STATE to COMPLETE unless a write followed it. Before
the tick counter runs only the button and the LED test are served, and in HALT the partner line, which decides the
role, and an honoured reset, which leads to KILN. -/
def Obligations.TimeAdvancesAtTheBoundary : Prop :=
  (∀ (s : State) (l : Latch), s.md.powered = true → s.md.ticking = true → s.md.mode ≠ .kiln → s.md.mode ≠ .load →
    s.time.stepDue = none → s.md.resetAt = none →
    ∃ t, exec (.tickBoundary l) s = .next t ∧ t.time.tick = (s.time.tick + 1) % 2 ^ 64 ∧
      t.time.ns = (s.time.tick + 1) % 2 ^ 64 * 125000 ∧ t.time.phase = 0 ∧ t.btn.samples = s.btn.samples + 1 ∧
      (inControl s = true → s.md.mode ≠ .halt → t.set.next = [] ∧ t.set.done = [] ∧
        t.set.values = s.set.next.foldl (fun v e => tset v e.1 e.2) s.set.values ∧
        t.set.generation = (s.set.done.getLast?.elim s.set.generation (·.generation)) ∧
        t.set.state = (s.set.done.getLast?.elim s.set.state fun d => if d.written then 1 else 2))) ∧
  (∀ (s : State) (l : Latch), s.md.powered = true → s.md.ticking = false → s.md.mode ≠ .halt →
    ∃ t, exec (.tickBoundary l) s = .next t ∧ t = { s with
      md := { s.md with lampTicks := s.md.lampTicks - 1 }
      btn := { s.btn with
        samples := s.btn.samples + 1, raw := l.button
        run := if 0 < s.btn.samples ∧ s.btn.raw = l.button then s.btn.run + 1 else 1
        level := t.btn.level } }) ∧
  (∀ (s : State) (l : Latch), s.md.powered = true → s.md.ticking = false → s.md.mode = .halt → s.md.resetAt = none →
    ∃ t, exec (.tickBoundary l) s = .next t ∧ t.md.mode = .halt ∧ t.btn.samples = s.btn.samples + 1 ∧ t.time = s.time ∧
      t.md.role = (if onTwin s = false then s.md.role else if l.partnerToken || s.pair.report then .standby else .solo)) ∧
  (∀ (s : State) (l : Latch), s.md.powered = true → s.md.ticking = false → s.md.mode = .halt → s.md.resetAt ≠ none →
    onTwin s = false → s.md.role = .solo →
    ∃ t, exec (.tickBoundary l) s = .next t ∧ t.md.mode = .kiln ∧ t.md.powered = true ∧ t.md.resetAt = none)

/-- At phase 20 µs the input image is whole, and the base scan starts on it (R45, R47, R138, R160, R401): Where no
course runs, every onboard input's cell is the channel's value with its validity, an invalid one keeping the last
valid value, and an input under a mirage has the mirage's value and is valid. In RUN without a due timed course an
idle base course starts its scan on this tick's image. -/
def Obligations.InputImageIsWhole : Prop :=
  (∀ s : State, imaged s = true → coursesRun s = false → s.md.mode ≠ .change → s.mortar.cascade = [] →
    ∃ t, exec .inputImageComplete s = .next t ∧ t.md = s.md ∧ t.time.phase = 20000 ∧
      (∀ i e, ioEntry (theImage s) i = some e → e.output = false → onboard e = true →
        (∀ m ∈ s.crs.imageMirages, m.index ≠ i) →
        tget {} t.crs.inp i = keepCell (tget {} s.crs.live i) (onboardCell s e)) ∧
      (∀ m e, m ∈ s.crs.imageMirages → (∀ n ∈ s.crs.imageMirages, n.index = m.index → n = m) →
        ioEntry (theImage s) m.index = some e → e.output = false →
        tget {} t.crs.inp m.index = ⟨m.value, true, s.time.tick⟩)) ∧
  (∀ s : State, imaged s = true → coursesRun s = true → s.md.mode = .run → s.mortar.cascade = [] → inWindow s = false →
    (∀ c, c < 9 → courseDue s c = true → c = 0) → (courseDef (theImage s) 0).isSome = true → (course s 0).state = 0 →
    0 < maxScan s →
    ((course s 0).endLate = true → (course s 0).endTick ≠ s.time.tick) →
    ∃ t, exec .inputImageComplete s = .next t ∧ t.md = s.md ∧ (course t 0).state = 1 ∧
      (course t 0).startTick = s.time.tick ∧ (course t 0).elapsed = 0 ∧ (course t 0).firstScan = (course s 0).firstDue ∧
      (course t 0).image = t.crs.inp)

/-- The commit of phase 105 µs applies each output's highest layer (R31, R42, R142, R161, R427, R595): On a module
that drives, every output is committed: the safety override, else a mirage in a mode whose outputs come from the
program, else the program value released by phase 105 µs, or after it in an earlier tick, else the oasis value; the
field controller is refreshed in this tick. A module that does not drive and is in no overlap has no terminal driven.
-/
def Obligations.CommitAppliesTheLayers : Prop :=
  (∀ s : State, s.md.powered = true → s.md.ticking = true → drives s = true →
    ∃ t, exec .outputCommit s = .next t ∧ t.md = s.md ∧ t.time.phase = 105000 ∧ t.field.refreshed = true ∧
      t.field.lastRefresh = s.time.tick ∧
      ∀ n e, ioEntry (theImage s) n = some e → e.output = true →
        (∀ v, overrideValue s n e = some v → tget 0 t.crs.committed n = v) ∧
        (∀ v, overrideValue s n e = none → mirageValue s n = some v → tget 0 t.crs.committed n = v) ∧
        (∀ v, overrideValue s n e = none → mirageValue s n = none → programValue (takeLate s) n = some v →
          tget 0 t.crs.committed n = v) ∧
        (overrideValue s n e = none → mirageValue s n = none → programValue (takeLate s) n = none →
          tget 0 t.crs.committed n = appliedRaw e (oasisApplied (takeLate s) n e))) ∧
  (∀ s : State, s.md.powered = true → s.md.ticking = true → drives s = false → s.field.overlap = none →
    ∃ t, exec .outputCommit s = .next t ∧ t.md = s.md ∧ t.field.terminal = [] ∧ t.safe.permits = [] ∧
      ∀ e ∈ t.field.ch, e.2.targets = [])

/-- MAX_SCAN, OVERRUN_LIMIT and execution traps (R144, R145, R147, R150): The base scan that reaches MAX_SCAN is
counted and raises EV096 once; at four times MAX_SCAN EV097 and OASIS follow. The overrun that reaches OVERRUN_LIMIT
raises EV098 and EV099 and leads to OASIS, and so does a trap with EV101; no output, set-point, mode request or global
that the activations had produced is released. -/
def Obligations.CourseWatchesAndTraps : Prop :=
  (∀ s : State, coursesRun s = true → inWindow s = false → (course s 0).state = 1 → (course s 0).watchTick ≠ s.time.tick →
    (course s 0).warned = false → (course s 0).elapsed + 1 = maxScan s →
    ∃ t, exec .maxScanReached s = .next t ∧ t.md = s.md ∧
      course t 0 = { course s 0 with
        elapsed := maxScan s, watchTick := s.time.tick, warned := true, overruns := satAdd 32 (course s 0).overruns 1 } ∧
      t.ev = recorded s 20000 [(96, [0] ++ w64 (course s 0).startTick)]) ∧
  (∀ s : State, faultable s = true → (course s 0).state = 1 → (course s 0).watchTick ≠ s.time.tick →
    (course s 0).elapsed + 1 = 4 * maxScan s →
    ∃ t, exec .scanWatchExpiry s = .next t ∧ faulted s t ∧
      (recorded s 20000 ((if (course s 0).warned then [] else [(96, [0] ++ w64 (course s 0).startTick)]) ++
        [(97, [0] ++ w64 (course s 0).startTick)])).intake <+: t.ev.intake) ∧
  (∀ (s : State) (c : Nat), faultable s = true → c ≠ 0 → (course s c).state ≠ 0 → courseDue s c = true →
    (course s c).watchTick ≠ s.time.tick →
    ((courseDef (theImage s) c).map (·.limit)).getD 8 ≤ min ((course s c).consec + 1) 255 →
    ∃ t, exec (.overrunLimitReached c) s = .next t ∧ faulted s t ∧
      (course t c).overruns = satAdd 32 (course s c).overruns 1 ∧
      (course t c).skipped = satAdd 32 (course s c).skipped 1 ∧
      (course t c).consec = min ((course s c).consec + 1) 255 ∧
      (recorded s 20000 [(98, [w32 c, w32 (min ((course s c).consec + 1) 255)] ++ w64 s.time.tick),
        (99, [w32 c, w32 (min ((course s c).consec + 1) 255)])]).intake <+: t.ev.intake) ∧
  (∀ (s : State) (c brick off n o : Nat), faultable s = true → (course s c).state = 1 →
    brickOrder s c brick = some o → (course s c).pos ≤ o + 1 →
    ∃ t, exec (.executionTrap c brick off n) s = .next t ∧ faulted s t ∧ (course t c).trapped = true ∧
      (s.ev.running = true → ∃ e ∈ t.ev.intake.drop s.ev.intake.length,
        e.ev = 101 ∧ e.arg = [w32 c, w32 brick, w32 off] ∧ e.stamp = s.time.ns + n))

/-- An activation's end releases its outputs, set-points and mode requests as one set (R141, R142, R145, R149): Before
phase 105 µs each output that the activation wrote with a finite value holds that value and is released; later in the
tick it waits for the commit of the next tick. Every other output keeps its cell; set-points and mode requests follow
in order with their commit; the course is idle with its execution time, in whole microseconds, noted and its run of
overruns ended unless it overran. The first base scan after entry to RUN ends the oasis values. -/
def Obligations.ActivationEndReleasesOneSet : Prop :=
∀ (s : State) (c : Nat) (rel : Release) (n : Nat), (course s c).state = 1 → coursesRun s = true →
    ∃ t, exec (.courseActivationEnd c rel n) s = .next t ∧ (course t c).state = 0 ∧
      (course t c).lastTime = executionUs s c n ∧ (course t c).maxTime = max (course s c).maxTime (executionUs s c n) ∧
      (course t c).consec = (if (course s c).overran then (course s c).consec else 0) ∧
      (c = 0 → t.md.oasisUntilScan = false) ∧ (c ≠ 0 → t.md = s.md) ∧
      (∀ i v d, (i, v) ∈ rel.outputs → (∀ w, (i, w) ∈ rel.outputs → w = v) → ioEntry (theImage s) i = some d →
        d.output = true → rawNonFinite d.ty (asWritten d v) = false →
        if n < 105000 then tget {} t.crs.out i = ⟨asWritten d v, true⟩
        else (i, asWritten d v, s.time.tick + 1) ∈ t.crs.outLate) ∧
      (105000 ≤ n → t.crs.out = s.crs.out) ∧
      (∀ i, (∀ v, (i, v) ∉ rel.outputs) → tget {} t.crs.out i = tget {} s.crs.out i) ∧
      t.crs.setpoints = s.crs.setpoints ++ ((rel.setpoints.filter fun e =>
        fIsFinite e.2 && (loopDef (theImage s) e.1).isSome).map fun e =>
          (e.1, e.2, carriedBy s n)) ∧
      t.crs.modeReqs = s.crs.modeReqs ++ ((rel.modeReqs.filter fun e => (loopDef (theImage s) e.1).isSome).map fun e =>
        (e.1, e.2, carriedBy s n))

/-- Breakpoints and the course counters' clear (R152, R153, R154, R167): An armed breakpoint that may hold freezes the
base course before its brick, is disarmed and marked as reached with EV100, and takes RUN to HOLD; one that may not is
counted, stays armed and raises EV037. A write sets DEFINED and the brick of an unarmed breakpoint; a counter clear is
noted for the next boundary. -/
def Obligations.BreakpointsFreezeOrPass : Prop :=
  (∀ (s : State) (brick n b : Nat) (p : BreakSt),
    (s.crs.bp.find? fun e => e.2.armed && e.2.brick == brick) = some (b, p) → (course s 0).state = 1 →
    (course s 0).pos ≤ (brickOrder s 0 brick).getD 0 → coursesRun s = true → holds s = true →
    ∃ t, exec (.breakpointReached brick n) s = .next t ∧ t.md.mode = .hold ∧ t.md.prevMode = .run ∧
      (course t 0).state = 3 ∧ t.crs.frozenAt = brick ∧
      t.crs.bp = s.crs.bp.map (fun e => if e.2.armed && e.2.brick == brick then
        (e.1, { e.2 with armed := false, reached := e.1 == b }) else e) ∧
      (recorded s n [(100, [0, w32 b, w32 brick])]).intake <+: t.ev.intake) ∧
  (∀ (s : State) (brick n b : Nat) (p : BreakSt),
    (s.crs.bp.find? fun e => e.2.armed && e.2.brick == brick) = some (b, p) → (course s 0).state = 1 →
    (course s 0).pos ≤ (brickOrder s 0 brick).getD 0 → coursesRun s = true → holds s = false →
    ∃ t, exec (.breakpointReached brick n) s = .next t ∧ t.md = s.md ∧ t.ev = recorded s n [(37, [])] ∧
      t.crs = { s.crs with
        bp := tset s.crs.bp b { p with passes := p.passes + 1 }
        c := tset s.crs.c 0 { course s 0 with pos := (brickOrder s 0 brick).getD 0 + 1 } }) ∧
  (∀ (s : State) (r : Req) (b : Nat) (v : W32), servedOutside s r (w32 (0x02200000 + b)) = true → b ≤ 15 →
    v.toNat / 65536 % 8192 = 0 → (tget ({} : BreakSt) s.crs.bp b).armed = false →
    (v.toNat / 2 ^ 31 = 1 → brickCourse s (v.toNat % 65536) = some 0) →
    ∃ t, exec (.breakpointWrite r b v) s = .next t ∧ answers s t r stDone ∧ t.md = s.md ∧ t.crs = { s.crs with
      bp := tset s.crs.bp b { tget ({} : BreakSt) s.crs.bp b with
        defined := v.toNat / 2 ^ 31 == 1, brick := v.toNat % 65536 } }) ∧
  (∀ (s : State) (r : Req) (c : Nat), servedOutside s r (w32 (0x02190000 + c)) = true → c ≤ 8 →
    (tfind s.crs.c c).isSome = true →
    ∃ t, exec (.courseCounterClear r c 1) s = .next t ∧ answers s t r stDone ∧ t.md = s.md ∧
      t.crs = { s.crs with c := tset s.crs.c c { course s c with clearDue := true } })

/-- STAGE, its end, ACTIVATE and UNSTAGE (R168, R169, R170, R171, R173, R250): A STAGE that Table 05.1 accepts is
answered ACCEPTED with STATE STAGING; towards an active's standby the digest follows. Its end sets STATE STAGED with
the spare bank's image and the plan, or STAGE_FAILED with the first REASON that applies, with EV106; while an update
runs on a table that the image changes, that end waits up to 32,000 ticks. ACTIVATE waits for the transition to CHANGE
at the next boundary; UNSTAGE ends the plan and frees the background tables. -/
def Obligations.ExchangeIsStagedAndActivated : Prop :=
  (∀ (s : State) (r : Req), servedOutside s r exchObj = true →
    exchRefusal s [.stop, .run, .hold, .degraded, .oasis] [0, 3, 5, 6, 7] = none →
    (s.md.role = .active → (sess s r.session).role = false) →
    ∃ t, exec (.exchangeStage r) s = .next t ∧ acceptedFor s t r exchObj ∧ t.md = s.md ∧ t.exch = { s.exch with
      state := 1, reason := 0, staged := none, stageOrigin := some (originOf s r), stageTick := s.time.tick
      unwrittenNew := [], unwrittenOld := [] }) ∧
  (∀ (s : State) (r : Req), servedOutside s r exchObj = true →
    exchRefusal s [.stop, .run, .hold, .degraded, .oasis] [0, 3, 5, 6, 7] = none → s.md.role = .active →
    (sess s r.session).role = true →
    ∃ t, exec (.exchangeStage r) s = .next t ∧ t.md = s.md ∧ t.exch.state = 1 ∧ t.exch.reason = 0 ∧
      ∃ ms : List Mortar, t.net.outbox = ms.map OutMsg.mortar ++
        .forward (.exchange (hdrDigest (bankHeader (bank s (spareBank s)).bytes))) ::
        .response r.session r.seq stAccepted [] :: s.net.outbox) ∧
  (∀ (s : State) (loaded : Bool) (partner : Option Bytes) (a b : List Nat) (n : Nat), s.exch.state = 1 →
    (tablesHeld s = true → s.exch.stageTick + 32000 ≤ s.time.tick) →
    ∃ t, exec (.stagingComplete loaded partner a b n) s = .next t ∧ t.md = s.md ∧ t.exch.stageOrigin = none ∧
      t.exch.reason = stageReason s loaded partner ∧
      (bank t (spareBank s)).failReason =
        (if s.kiln.keyPresent then (fullCheck s (bank s (spareBank s)).bytes).reason else 13) ∧
      (stageReason s loaded partner ≠ 0 → t.exch.state = 3) ∧
      (stageReason s loaded partner = 0 → t.exch.state = 2 ∧ t.exch.unwrittenNew = a ∧ t.exch.unwrittenOld = b ∧
        ∃ ni, (fullCheck s (bank s (spareBank s)).bytes).image = some ni ∧ t.exch.staged = some (spareBank s, ni) ∧
          t.exch.plan = planCounts (theImage s) ni a.length) ∧
      t.ev = recorded s n (((fullCheck s (bank s (spareBank s)).bytes).skipped.map fun ty => (19, [w32 ty])) ++
        [(106, [w32 t.exch.state, w32 t.exch.reason])])) ∧
  (∀ (s : State) (r : Req) (b : Nat) (ni : Image), servedOutside s r exchObj = true →
    exchRefusal s [.stop, .run, .degraded] [2] = none → s.exch.staged = some (b, ni) →
    (∀ e ∈ s.tickets, e.2.status = 3 → regionReplaced (theImage s) ni e.2.kind e.2.index = false) →
    ∃ t, exec (.exchangeActivate r) s = .next t ∧ acceptedFor s t r exchObj ∧
      t.exch = { s.exch with reason := 0, origin := some (originOf s r) } ∧
      t.md = { s.md with trans := s.md.trans ++ [⟨6, .change, causeExchange, some (originOf s r), 0⟩] }) ∧
  (∀ (s : State) (r : Req), servedOutside s r exchObj = true →
    exchRefusal s [.load, .stop, .sync, .track, .run, .hold, .degraded, .oasis, .halt] [2] = none →
    ∃ t, exec (.exchangeUnstage r) s = .next t ∧ answers s t r stDone ∧ t.md = s.md ∧
      t.exch = { s.exch with state := 0, reason := 0, staged := none } ∧
      t.loops.t = s.loops.t.map fun e => (e.1, { e.2 with stagedBg := false }))

/-- An exchange is abandoned without a quiet tick, and rolled back after a fault (R173, R176, R178): When no quiet
tick comes within MAX_SCAN ticks of wait_from, the exchange is ABANDONED with REASON 9 and EV110 and the module
returns to the mode before CHANGE. A rollback that is due brings back the old image, its bank, settings, mirages and
the data of every brick that is not carried, reports ROLLED_BACK with its REASON and EV109, and returns. -/
def Obligations.WindowEndsWithoutQuietTickOrByRollback : Prop :=
  (∀ s : State, inWindow s = true → s.exch.phase = 2 → s.exch.swapped = false → timedBusy s = true →
    s.exch.waitFrom + maxScan s ≤ s.time.tick →
    ∃ t, exec .exchangeNoQuietTick s = .next t ∧ t.exch.state = 7 ∧ t.exch.reason = 9 ∧ t.exch.staged = none ∧
      t.kiln = s.kiln ∧ t.crs = s.crs ∧ t.ev = recorded s 20000 [(110, [9])] ∧
      t.md = { s.md with trans := s.md.trans ++ [⟨7, s.md.beforeChange, causeExchange, none, 0⟩] }) ∧
  (∀ (s : State) (reason d : Nat) (o : OldVersion), inWindow s = true → s.exch.rollback = some (reason, d) →
    d ≤ s.time.tick → s.exch.old = some o →
    ∃ t, exec .exchangeRollback s = .next t ∧ t.kiln.image = some o.image ∧ t.kiln.imageBank = o.bank ∧
      t.exch.state = 6 ∧ t.exch.reason = reason ∧ t.exch.rollback = none ∧ t.exch.swapped = false ∧
      t.crs.mirages = o.mirages ∧ t.set.values = o.settings ∧ t.set.generation = o.setGeneration ∧
      (∀ i, (∀ e ∈ bricks (theImage s), matchBrick o.image (theImage s) e.2 ≠ .carried i) →
        tfind t.crs.data i = tfind o.data i) ∧
      (s.ev.running = true → ∃ e ∈ t.ev.intake, e.ev = 109 ∧ e.stamp = s.time.ns + 20000) ∧
      t.md = { s.md with trans := s.md.trans ++ [⟨7, s.md.beforeChange, causeExchange, none, 0⟩] })

/-- Region requests, their data, cancel and timeout (R197, R198, R199, R514): A request in range takes the next free
ticket, ACCEPTED; data that is written joins it up to LENGTH. CANCEL before the commit point ends it CANCELLED, and
80,000 ticks without data end it CANCELLED with REASON 8, each with EV114. -/
def Obligations.RegionRequestsAndTheirData : Prop :=
  (∀ (s : State) (r : Req) (c : RegionCmd) (k : Nat), servedOutside s r 0xE0000000#32 = true → regionCmdOk c = true →
    (inControl s = true ∨ c.kind = 4) → (s.md.mode = .load → c.kind = 4) → nextTicket s = some k →
    ∃ t, exec (.regionUpdateRequest r c) s = .next t ∧ answeredAmid s t r stAccepted ∧ t.md = s.md ∧
      t.lastTicket = k ∧ (sess t r.session).ticket = k ∧
      (sess t r.session).waiting = (sess s r.session).waiting ++ [(r.seq, 0xE0000000#32)] ∧
      ticket t k = {
        status := 1, kind := c.kind, index := c.index, length := c.length, crc := c.crc
        origin := some (originOf s r), lastData := s.time.tick, role := (sess s r.session).role
        complete := c.length == 0 } ∧
      ∀ j, j ≠ k → ticket t j = ticket s j) ∧
  (∀ (s : State) (r : Req) (k : Nat) (d : Bytes), served s r (w32 (0xE0020000 + k)) = true → k ≤ 255 →
    (ticket s k).status = 1 → (ticket s k).complete = false → (ticket s k).data.length + d.length ≤ (ticket s k).length →
    ∃ t, exec (.regionDataWrite r k d) s = .next t ∧ answers s t r stDone ∧ t.md = s.md ∧
      ticket t k = { ticket s k with
        data := (ticket s k).data ++ d, lastData := s.time.tick
        complete := (ticket s k).data.length + d.length == (ticket s k).length } ∧
      ∀ j, j ≠ k → ticket t j = ticket s j) ∧
  (∀ (s : State) (r : Req) (k : Nat), served s r (w32 (0xE0040000 + k)) = true → k ≤ 255 →
    1 ≤ (ticket s k).status → (ticket s k).status ≤ 3 → (ticket s k).committed = false →
    ∃ t, exec (.regionCancel r k 1) s = .next t ∧ t.md = s.md ∧ (ticket t k).status = 6 ∧ (ticket t k).reason = 0 ∧
      (ticket t k).data = [] ∧ t.ev = recorded s r.at_ [(114, [w32 k, 6])] ∧
      .response r.session r.seq stDone [] ∈ t.net.outbox) ∧
  (∀ (s : State) (k n : Nat), (ticket s k).status = 1 → (ticket s k).complete = false →
    (ticket s k).lastData + 80000 ≤ s.time.tick →
    ∃ t, exec (.regionDataTimeout k n) s = .next t ∧ t.md = s.md ∧ (ticket t k).status = 6 ∧ (ticket t k).reason = 8 ∧
      t.ev = recorded s n [(114, [w32 k, 6])])

/-- The check of complete data, pending updates, image writes and forwarding (R115, R116, R117, R193, R197, R201):
Complete data that fails its check ends FAILED with its REASON and EV113. Data that passes runs at once when its
region is free; else it becomes PENDING and supersedes an earlier PENDING one, to run when the region is free. A
written bank gets the REASON of its full check, with its header only where the body's checks pass, and ends DONE or
FAILED with REASON 6; after DONE in LOAD the choice begins again. A standby runs or writes what its active forwards,
erasing its own spare bank first, and reports what it has or that the bank has passed. -/
def Obligations.RegionUpdatesRunOneAtATime : Prop :=
  (∀ (s : State) (k n : Nat), (ticket s k).status = 1 → (ticket s k).complete = true →
    ∃ t, exec (.regionDataChecked k n) s = .next t ∧ t.md = s.md ∧
      (regionFault s (ticket s k) ≠ 0 → (ticket t k).status = 7 ∧ (ticket t k).reason = regionFault s (ticket s k) ∧
        t.ev = recorded s n [(113, [w32 k, w32 (regionFault s (ticket s k))])]) ∧
      (regionFault s (ticket s k) = 0 → regionFree s k = true →
        (ticket t k).status = 3 ∧ (ticket t k).runTick = s.time.tick) ∧
      (regionFault s (ticket s k) = 0 → regionFree s k = false →
        (ticket t k).status = 2 ∧ ∀ q ∈ regionWith s k 2, (ticket t q).status = 5)) ∧
  (∀ (s : State) (k : Nat), (ticket s k).status = 2 → regionFree s k = true →
    ∃ t, exec (.regionPendingStart k) s = .next t ∧ t.md = s.md ∧ (ticket t k).status = 3 ∧
      (ticket t k).runTick = s.time.tick ∧ ∀ j, j ≠ k → ticket t j = ticket s j) ∧
  (∀ (s : State) (p : Option Bool) (n k : Nat) (x : TicketSt), s.kiln.follow = none →
    (s.tickets.find? fun e => e.2.kind == 4 && e.2.status == 3 && e.2.complete) = some (k, x) →
    ∃ t, exec (.imageWriteComplete p n) s = .next t ∧ t.md = s.md ∧
      (writtenReason s x.data = 0 → partnerBank s x p = true → (ticket t k).status = 4 ∧
        (s.md.mode = .load → t.kiln.headersRead = false ∧ t.kiln.trying = none) ∧
        (s.md.mode ≠ .load → writtenBank s t x.data)) ∧
      (writtenReason s x.data ≠ 0 → (ticket t k).status = 7 ∧ (ticket t k).reason = 6 ∧ writtenBank s t x.data) ∧
      (writtenReason s x.data = 0 → partnerBank s x p = false →
        (ticket t k).status = 7 ∧ (ticket t k).reason = 6 ∧ writtenBank s t x.data)) ∧
  (∀ (s : State) (p : Option Bool) (n : Nat) (d : Bytes), s.kiln.follow = some d →
    ∃ t, exec (.imageWriteComplete p n) s = .next t ∧ t.md = s.md ∧ t.kiln.follow = none ∧ writtenBank s t d ∧
      .mortar (.imageResult (writtenReason s d == 0)) ∈ t.net.outbox) ∧
  (∀ (s : State) (k kind i : Nat) (d : Bytes) (n : Nat), s.md.role = .standby → s.md.mode = .load ∨ evaluates s.md.mode = true →
    ∃ t, exec (.forwardingReceive (.region k kind i d) n) s = .next t ∧ t.md = s.md ∧ (ticket t k).status = 3 ∧
      (ticket t k).kind = kind ∧ (ticket t k).index = i ∧ (ticket t k).data = d ∧ (ticket t k).runTick = s.time.tick ∧
      (kind = 2 ∨ kind = 3 → .mortar (.regionReady k) ∈ t.net.outbox)) ∧
  (∀ (s : State) (d : Bytes) (n : Nat), s.md.role = .standby → s.md.mode = .load ∨ evaluates s.md.mode = true →
    s.kiln.keyPresent = true →
    ∃ t, exec (.forwardingReceive (.image d) n) s = .next t ∧ t.md = s.md ∧ t.kiln.follow = some d ∧
      (bank t (spareBank s)).failReason = 10 ∧ (bank t (spareBank s)).valid = false ∧
      (bank t (spareBank s)).bytes = (erasedHeader ++ d.drop 256).take bankMax) ∧
  (∀ (s : State) (d : Bytes) (n : Nat), s.md.role = .standby → s.md.mode = .load ∨ evaluates s.md.mode = true →
    s.kiln.keyPresent = false →
    ∃ t, exec (.forwardingReceive (.image d) n) s = .next t ∧ t.md = s.md ∧ t.kiln = s.kiln ∧
      .mortar (.imageResult false) ∈ t.net.outbox) ∧
  (∀ (s : State) (g : Bytes) (n : Nat), s.md.role = .standby → s.md.mode = .load ∨ evaluates s.md.mode = true →
    ∃ t, exec (.forwardingReceive (.exchange g) n) s = .next t ∧ t = { s with
      time := { s.time with phase := n }
      exch := { s.exch with
        state := 1, reason := 0, staged := none, stageTick := s.time.tick, partnerDigest := some g } })

/-- A sample in AUTO applies the law, and a context that is not done by phase 90 µs misses its sample (R208, R209,
R210, R211, R212, R220): A single context in AUTO with a valid process value, no table, no transfer, no new
parameters, nothing to track and nothing injected sets P, integral, derivative filter, unlimited and limited output by
the law of R209 to R212, publishes the output and leaves every other context. At phase 90 µs each due context of the
lane that is not done counts a missed sample and keeps its output and law state; EV128 names the first and their
number. -/
def Obligations.LoopSampleFollowsTheLaw : Prop :=
  (∀ (s : State) (c n : Nat) (d : LoopDef), loopDef (theImage s) c = some d → running s = true → 30000 ≤ n → n < 90000 →
    (laneLeft s d.lane).head? = some c → plainAuto s c d = true →
    ∃ t, exec (.loopSample c n) s = .next t ∧ t.md = s.md ∧ (loop t c).u = autoU s c d ∧ (loop t c).v = autoV s c d ∧
      (loop t c).sat = satOf (autoU s c d) (autoV s c d) ∧
      (loop t c).acc = integrate d (loop2 s c).params (loop s c) 0 (sampleH s c d) ∧
      (loop t c).e = fSub (autoR s c d) (srcVal s d.lane d.pvSrc).1 ∧ (loop t c).sPrev = (autoPd s c d).2.1 ∧
      (loop t c).d = (autoPd s c d).2.2 ∧ (loop t c).consecMiss = 0 ∧ (loop t c).consecPvBad = 0 ∧
      (loop2 t c).lastTick = s.time.tick ∧ (loop2 t c).doneTick = some s.time.tick ∧
      (∀ j, j ≠ c → loop t j = loop s j ∧ loop2 t j = loop2 s j) ∧
      (∀ o e, d.dst = some o → ioEntry (theImage s) o = some e → tyReal e.ty = true →
        tget {} t.crs.out o = ⟨rawOfF64 e.ty (autoU s c d), true⟩)) ∧
  (∀ (s : State) (lane c : Nat) (l : List Nat), running s = true → laneLeft s lane = c :: l → (c :: l).Nodup →
    ∃ t, exec (.loopDeadline lane) s = .next t ∧ t.md = s.md ∧
      (∀ j ∈ c :: l, (loop t j).consecMiss = min ((loop s j).consecMiss + 1) 255 ∧ (loop t j).u = (loop s j).u ∧
        (loop t j).acc = (loop s j).acc ∧ (loop t j).mode = (loop s j).mode ∧
        (loop2 t j).doneTick = some s.time.tick ∧ (loop2 t j).lastTick = (loop2 s j).lastTick ∧
        ((injSt s j).state = 2 → (injSt t j).state = 4 ∧ (injSt t j).cause = 5)) ∧
      (∀ j, j ∉ c :: l → loop t j = loop s j ∧ loop2 t j = loop2 s j) ∧ t.crs.out = s.crs.out ∧
      (recorded s 90000 [(128, [w32 lane, w32 c, w32 (l.length + 1)])]).intake <+: t.ev.intake)

/-- Loop mode requests, the manual value and APPLY (R224, R225, R228, R514): A loop mode request that R224 accepts is
ACCEPTED and joins the context's requests with the tick of acceptance; mode and output do not change before a sample.
A manual value is kept for the next sample, in MANUAL alone. APPLY notes its tick, from whose next boundary the gated
changes are due. -/
def Obligations.LoopRequestsWaitForASample : Prop :=
  (∀ (s : State) (r : Req) (c : Nat), servedOutside s r (0x10010000 + w32 c) = true → loopModeCheck s c 0 = none →
    ∃ t, exec (.loopModeManual r c) s = .next t ∧ loopRequested s t r c 0) ∧
  (∀ (s : State) (r : Req) (c : Nat), servedOutside s r (0x10010000 + w32 c) = true → loopModeCheck s c 1 = none →
    ∃ t, exec (.loopModeAuto r c) s = .next t ∧ loopRequested s t r c 1) ∧
  (∀ (s : State) (r : Req) (c : Nat), servedOutside s r (0x10010000 + w32 c) = true → loopModeCheck s c 2 = none →
    ∃ t, exec (.loopModeCascade r c) s = .next t ∧ loopRequested s t r c 2) ∧
  (∀ (s : State) (r : Req) (c : Nat), servedOutside s r (0x10010000 + w32 c) = true → loopModeCheck s c 3 = none →
    ∃ t, exec (.loopModeExternal r c) s = .next t ∧ loopRequested s t r c 3) ∧
  (∀ (s : State) (r : Req) (c : Nat), servedOutside s r (0x10010000 + w32 c) = true → loopModeCheck s c 4 = none →
    ∃ t, exec (.loopModeHold r c) s = .next t ∧ loopRequested s t r c 4) ∧
  (∀ (s : State) (r : Req) (c : Nat) (v : F64), servedOutside s r (0x10030000 + w32 c) = true → manualCheck s c = none →
    ∃ t, exec (.manualValueWrite r c v) s = .next t ∧ answers s t r stDone ∧ t.md = s.md ∧
      loop t c = { loop s c with manual := v } ∧ (∀ j, j ≠ c → loop t j = loop s j) ∧ t.loops.m = s.loops.m) ∧
  (∀ (s : State) (r : Req) (c : Nat), servedOutside s r (0x10040000 + w32 c) = true → applyCheck s c 1 = none →
    ∃ t, exec (.apply r c 1) s = .next t ∧ answers s t r stDone ∧ t.md = s.md ∧ t.loops.l = s.loops.l ∧
      loop2 t c = { loop2 s c with applyAt := some s.time.tick } ∧ ∀ j, j ≠ c → loop2 t j = loop2 s j)

/-- The end of a table rebuild, and one past its bound (R247, R248, R249): A local rebuild with finite points is done;
without a partner to wait for it is complete in this tick, with one the partner is told. The foreground stays. A point
that is not finite discards the buffer and fails the update with REASON 2. A rebuild past its bound is marked overdue
once, with EV137. -/
def Obligations.TablesAreRebuiltInTheBackground : Prop :=
  (∀ (s : State) (k n : Nat) (b : Bytes), (tableSt s k).back = some b → (tableSt s k).rebuilding = true →
    (tableSt s k).localDone = false → (tableSt s k).completeTick = none → tabPointsFinite b = true →
    ∃ t, exec (.tableRebuildComplete k n) s = .next t ∧ t.md = s.md ∧ (tableSt t k).localDone = true ∧
      (tableSt t k).fore = (tableSt s k).fore ∧ (tableSt t k).back = some b ∧
      (tablePartner s = false → (tableSt t k).completeTick = some s.time.tick ∧ t.net = s.net) ∧
      (tablePartner s = true → t.net.outbox = .mortar (.tableReady k) :: s.net.outbox ∧
        ((tableSt s k).partnerDone = false → (tableSt t k).completeTick = none))) ∧
  (∀ (s : State) (k n : Nat) (b : Bytes) (q : Nat), (tableSt s k).back = some b → (tableSt s k).rebuilding = true →
    (tableSt s k).localDone = false → tabPointsFinite b = false → (tableSt s k).ticket = some q →
    ∃ t, exec (.tableRebuildComplete k n) s = .next t ∧ t.md = s.md ∧ (tableSt t k).back = none ∧
      (tableSt t k).rebuilding = false ∧ (tableSt t k).fore = (tableSt s k).fore ∧ (ticket t q).status = 7 ∧
      (ticket t q).reason = 2) ∧
  (∀ (s : State) (k q : Nat), (tableSt s k).ticket = some q → (tableSt s k).rebuilding = true →
    (tableSt s k).completeTick = none → (tableSt s k).overdue = false →
    (ticket s q).runTick + tabBound (tableSt s k).fore ≤ s.time.tick →
    ∃ t, exec (.rebuildOverdue k) s = .next t ∧ t.md = s.md ∧ tableSt t k = { tableSt s k with overdue := true } ∧
      t.ev = recorded s s.time.phase [(137, [w32 k, w32 q])])

/-- Test injections and the capture unit's commands (R255, R256, R257, R260, R262, R263): A START that R255 accepts
waits for its first sample with its start tick and register seed; STOP ends an injection with cause 2 and EV142.
CONFIGURE stores a valid configuration while nothing is captured; ARM discards earlier data; a forced trigger is noted
while ARMED; ABORT ends with cause 1 and EV146. -/
def Obligations.InjectionAndCaptureCommands : Prop :=
  (∀ (s : State) (r : Req) (c : Nat) (q : InjCmd), servedOutside s r (0x10300000 + w32 c) = true →
    injStartCheck s c q = none →
    ∃ t, exec (.injectionStart r c q) s = .next t ∧ acceptedFor s t r (0x10300000 + w32 c) ∧ t.md = s.md ∧
      (∀ j, loop t j = loop s j) ∧ (injSt t c).state = 1 ∧
      (injSt t c).cmd = some { q with startTick := if q.startTick = 0 then s.time.tick + 1 else q.startTick } ∧
      (injSt t c).prbs = (if q.seed = 0 then 2 ^ q.order - 1 else q.seed.toNat % 2 ^ q.order) ∧ (injSt t c).n = 0 ∧
      ∀ j, j ≠ c → injSt t j = injSt s j) ∧
  (∀ (s : State) (r : Req) (c : Nat), servedOutside s r (0x10300000 + w32 c) = true →
    (loopDef (theImage s) c).isSome = true → ((injSt s c).state = 1 ∨ (injSt s c).state = 2) →
    ∃ t, exec (.injectionStop r c) s = .next t ∧ t.md = s.md ∧ (∀ j, loop t j = loop s j) ∧ (injSt t c).state = 4 ∧
      (injSt t c).cause = 2 ∧ t.ev = recorded s r.at_ [(142, [w32 c, 2])] ∧
      .response r.session r.seq stDone [] ∈ t.net.outbox) ∧
  (∀ (s : State) (r : Req) (d : Bytes), servedOutside s r 0xB0000000#32 = true → s.loops.cap.state ≠ 1 →
    s.loops.cap.state ≠ 2 → captureOk (theImage s) d = true →
    ∃ t, exec (.captureConfigure r d) s = .next t ∧ answers s t r stDone ∧ t.md = s.md ∧
      t.loops = { s.loops with cap := { s.loops.cap with config := d } }) ∧
  (∀ (s : State) (r : Req), servedOutside s r 0xB0010000#32 = true → captureOk (theImage s) s.loops.cap.config = true →
    (capTrigger s.loops.cap.config = 5 →
      s.time.tick + 1 + capPre s.loops.cap.config * capRate s.loops.cap.config ≤ le s.loops.cap.config 0x10 8) →
    ∃ t, exec (.captureArm r) s = .next t ∧ answers s t r stDone ∧ t.md = s.md ∧ t.loops = { s.loops with
      cap := {
        config := s.loops.cap.config, rowConfig := s.loops.cap.config, state := 1, fromTick := s.time.tick + 1
        preAt := if capPre s.loops.cap.config = 0 then some s.time.tick else none } }) ∧
  (∀ (s : State) (r : Req), servedOutside s r 0xB0010000#32 = true → s.loops.cap.state = 1 →
    ∃ t, exec (.captureForceTrigger r) s = .next t ∧ answers s t r stDone ∧ t.md = s.md ∧
      t.loops = { s.loops with cap := { s.loops.cap with forced := true } }) ∧
  (∀ (s : State) (r : Req), servedOutside s r 0xB0010000#32 = true → (s.loops.cap.state = 1 ∨ s.loops.cap.state = 2) →
    ∃ t, exec (.captureAbort r) s = .next t ∧ answers s t r stDone ∧ t.md = s.md ∧ t.loops.cap.state = 4 ∧
      t.loops.cap.cause = 1 ∧ t.loops.cap.rows = s.loops.cap.rows ∧ t.ev = recorded s r.at_ [(146, [1])])

/-- A capture keeps PRE rows, marks its trigger row and ends at DEPTH (R261, R262): At phase 90 µs of a row tick a row
of the enabled channels is taken. While ARMED without its trigger only the last PRE rows stay; the trigger row gives
EV144 and TRIGGERED; the capture is COMPLETE with EV145 once DEPTH rows stand, at its trigger row where that is the
last. -/
def Obligations.CaptureTakesRowsAroundItsTrigger : Prop :=
  (∀ s : State, rowDue s = true → s.loops.cap.state = 1 → captureTriggers s (captureSel s) = false →
    ∃ t, exec .captureRow s = .next t ∧ t.md = s.md ∧ t.ev = s.ev ∧ t.loops.cap.state = 1 ∧
      t.loops.cap.lastRow = some s.time.tick ∧ t.loops.cap.rows = (s.loops.cap.rows ++ [(s.time.tick, captureRowNow s)]).drop
        (s.loops.cap.rows.length + 1 - capPre s.loops.cap.config)) ∧
  (∀ s : State, rowDue s = true → s.loops.cap.state = 1 → captureTriggers s (captureSel s) = true →
    2 ≤ capDepth s.loops.cap.config - capPre s.loops.cap.config →
    ∃ t, exec .captureRow s = .next t ∧ t.md = s.md ∧ t.loops.cap.state = 2 ∧ t.loops.cap.trigTick = some s.time.tick ∧
      t.loops.cap.rows.getLast? = some (s.time.tick, captureRowNow s) ∧ t.ev = recorded s 90000 [(144, w64 s.time.tick)]) ∧
  (∀ s : State, rowDue s = true → s.loops.cap.state = 1 → captureTriggers s (captureSel s) = true →
    capDepth s.loops.cap.config - capPre s.loops.cap.config ≤ 1 →
    ∃ t, exec .captureRow s = .next t ∧ t.md = s.md ∧ t.loops.cap.state = 3 ∧ t.loops.cap.trigTick = some s.time.tick ∧
      t.loops.cap.rows.getLast? = some (s.time.tick, captureRowNow s) ∧
      t.ev = recorded s 90000 [(144, w64 s.time.tick), (145, [w32 t.loops.cap.rows.length])]) ∧
  (∀ s : State, rowDue s = true → s.loops.cap.state = 2 →
    capDepth s.loops.cap.config - capPre s.loops.cap.config ≤ s.loops.cap.after + 1 →
    ∃ t, exec .captureRow s = .next t ∧ t.md = s.md ∧ t.loops.cap.state = 3 ∧
      t.loops.cap.rows = s.loops.cap.rows ++ [(s.time.tick, captureRowNow s)] ∧
      t.ev = recorded s 90000 [(145, [w32 (s.loops.cap.rows.length + 1)])])

/-- A frame's snapshot and job, the job's end, and a job that is late (R276, R277, R278, R279, R280, R281, R287, R289,
R297, R322, R329): At its frame start a context takes the values of its tags and releases a job for them whose
deadline is two ticks before the frame end; without a unit, or with an invalid required tag, the frame is held with
EV163. A running job that ends before its deadline gives its outcome, its warm-start data if fresh, and the events
whose conditions it enters; an entry that is not finite holds the frame. A job at its deadline is LATE with EV160. No
publication changes. -/
def Obligations.SolverFramesAndJobs : Prop :=
  (∀ (s : State) (c : Nat) (p : Bytes) (u : Nat), solverRec (theImage s) c = some p → frameDue s c p = true →
    plainSnapshot s c p = true → (solv2 s c).unit = some u →
    ∃ t, exec (.solverFrameStart c) s = .next t ∧ t.md = s.md ∧ t.solver.s = s.solver.s ∧
      (solv2 t c).frame = some s.time.tick ∧ (solv2 t c).lastSnap = s.time.tick ∧ (solv2 t c).outcome = none ∧
      (solv2 t c).job.map (·.snap) =
        some ⟨s.time.tick, tagValues s p, (solv2 s c).params, (solv2 s c).curves⟩ ∧
      (solv2 t c).job.map (·.deadline) = some (s.time.tick + (solverOf p).period - 2) ∧
      (solv2 t c).job.map (·.unit) = some u ∧ (solv2 t c).job.map (·.record) = some p ∧
      (solv2 t c).job.map (·.warm) = some (solv2 s c).warm) ∧
  (∀ (s : State) (c : Nat) (p : Bytes), solverRec (theImage s) c = some p → frameDue s c p = true →
    plainSnapshot s c p = true → (solv2 s c).unit = none →
    ∃ t, exec (.solverFrameStart c) s = .next t ∧ t.md = s.md ∧ t.solver.s = s.solver.s ∧
      (solv2 t c).frame = some s.time.tick ∧ (solv2 t c).job = none ∧
      (solv2 t c).outcome = some (s.time.tick, heldOutcome 6 4) ∧ t.ev = recorded s 20000 [(163, [w32 c, 4])]) ∧
  (∀ (s : State) (c : Nat) (p : Bytes) (u i : Nat) (q : Nat × Bool), solverRec (theImage s) c = some p →
    frameDue s c p = true → (solv2 s c).update = none → (solv2 s c).courseParams = [] → (solv2 s c).unit = some u →
    (solverTags (solverOf p) p)[i]? = some q → q.2 = true → (tagValue s q.1).2 = false →
    (∀ e ∈ (solverTags (solverOf p) p).zipIdx, e.2 ≠ i → (tagValue s e.1.1).2 = true) →
    ∃ t, exec (.solverFrameStart c) s = .next t ∧ t.md = s.md ∧ t.solver.s = s.solver.s ∧
      (solv2 t c).frame = some s.time.tick ∧ (solv2 t c).job = none ∧
      (solv2 t c).outcome = some (s.time.tick, heldOutcome 6 2) ∧ t.ev = recorded s 20000 [(163, [w32 c, 2, w32 i])]) ∧
  (∀ (s : State) (ctx n : Nat) (j : JobSt) (o : Outcome9), jobAt s ctx n = some j → j.state = 2 →
    s.time.tick < j.deadline → runJob j = .outcome o →
    ∃ t, exec (.solverJobEnd ctx n) s = .next t ∧ t.md = s.md ∧ t.solver.s = s.solver.s ∧ (solv2 t ctx).job = none ∧
      (solv2 t ctx).outcome = some (j.snap.frame, o) ∧
      (solv2 t (ctx % 64)).warm = (if o.fresh then some (warmOf j.record o) else (solv2 s (ctx % 64)).warm) ∧
      (solv2 t (ctx % 64)).conditions = jobConditions o ∧
      t.ev = recorded s n (clampEvents s (ctx % 64) j ++ conditionEvents s (ctx % 64) o)) ∧
  (∀ (s : State) (ctx n : Nat) (j : JobSt) (k : Nat), jobAt s ctx n = some j → j.state = 2 →
    s.time.tick < j.deadline → runJob j = .invalid k →
    ∃ t, exec (.solverJobEnd ctx n) s = .next t ∧ t.md = s.md ∧ t.solver.s = s.solver.s ∧ (solv2 t ctx).job = none ∧
      (solv2 t ctx).outcome = some (j.snap.frame, jobReport j { status := 6, cause := 3 }) ∧
      (solv2 t (ctx % 64)).warm = (solv2 s (ctx % 64)).warm ∧
      t.ev = recorded s n (clampEvents s (ctx % 64) j ++ [(163, [w32 (ctx % 64), 3, Config.datumCode (ctx % 64) k])])) ∧
  (∀ (s : State) (ctx : Nat) (j : JobSt), (solv2 s ctx).job = some j → j.deadline ≤ s.time.tick →
    ∃ t, exec (.solverJobDeadline ctx) s = .next t ∧ t.md = s.md ∧ t.solver.s = s.solver.s ∧ (solv2 t ctx).job = none ∧
      (solv2 t ctx).outcome.map (fun e => (e.1, e.2.status, e.2.cause, e.2.fresh)) = some (j.snap.frame, 5, 0, false) ∧
      (solv2 t (ctx % 64)).warm = (solv2 s (ctx % 64)).warm ∧
      t.ev = recorded s s.time.phase
        [(160, [w32 (ctx % 64)] ++ w64 j.snap.frame ++ [Config.argCode 160 0])])

/-- What a frame end publishes: fresh, held, fallback, or the active's outcome on a standby (R283, R284, R286): A
fresh outcome publishes its own values; another one holds the last good values and counts; HELD_LIMIT of them start
the fallback with EV161, whose values come from the fallback brick, an element that is not finite from the last good
values; RECOVER fresh outcomes end it with EV162. A standby publishes what the active's outcome of that frame says, in
fallback with its own fallback values. -/
def Obligations.SolverPublishesAtTheFrameEnd : Prop :=
  (∀ (s : State) (c : Nat) (d : SolverDef) (f : Nat) (o : Outcome9), frameEnds s c d f = true → ownOutcome s c f o = true →
    o.fresh = true → (solv s c).fallback = false → 1 ≤ d.heldLimit →
    ∃ t, exec (.solverPublish c) s = .next t ∧ t.md = s.md ∧ t.ev = s.ev ∧ (solv t c).frameTick = f ∧
      (solv t c).solvedTick = f ∧ (solv t c).status = o.status ∧ (solv t c).consecHeld = 0 ∧ (solv t c).age = 0 ∧
      (solv t c).fallback = false ∧ (solv t c).held = false ∧ (solv t c).x = o.x ∧ (solv t c).goodX = o.x ∧
      (solv t c).mult = some o.mult ∧ (solv t c).objective = some o.objective ∧ (solv2 t c).frame = none ∧
      ∀ j, j ≠ c → solv t j = solv s j) ∧
  (∀ (s : State) (c : Nat) (d : SolverDef) (f : Nat) (o : Outcome9), frameEnds s c d f = true → ownOutcome s c f o = true →
    o.fresh = false → (solv s c).fallback = false →
    (d.fbBrick = 0xFFFF ∨ (solv s c).consecHeld + 1 < d.heldLimit) →
    ∃ t, exec (.solverPublish c) s = .next t ∧ t.md = s.md ∧ (solv t c).frameTick = f ∧
      (solv t c).solvedTick = (solv s c).goodTick ∧ (solv t c).status = o.status ∧
      (solv t c).consecHeld = min ((solv s c).consecHeld + 1) 255 ∧ (solv t c).age = min ((solv s c).age + 1) 255 ∧
      (1 ≤ d.recover → (solv t c).fallback = false ∧ (solv t c).held = true ∧ (solv t c).x = (solv s c).goodX) ∧
      (solv t c).goodX = (solv s c).goodX ∧
      t.ev = recorded s s.time.phase
        (if d.fbBrick = 0xFFFF ∧ (solv s c).consecHeld < d.heldLimit ∧ d.heldLimit ≤ (solv s c).consecHeld + 1
          then [(161, [w32 c])] else [])) ∧
  (∀ (s : State) (c : Nat) (d : SolverDef) (f : Nat) (o : Outcome9), frameEnds s c d f = true → ownOutcome s c f o = true →
    o.fresh = false → (solv s c).fallback = false → d.fbBrick ≠ 0xFFFF → d.heldLimit ≤ (solv s c).consecHeld + 1 →
    1 ≤ d.recover →
    ∃ t, exec (.solverPublish c) s = .next t ∧ t.md = s.md ∧ (solv t c).frameTick = f ∧
      (solv t c).status = o.status ∧ (solv t c).fallback = true ∧ (solv t c).held = false ∧ (solv t c).mult = none ∧
      (solv t c).objective = none ∧ (solv t c).x.length = d.n ∧
      (∀ i, i < d.n → (solv t c).x.getD i 0 =
        if fIsFinite ((solv2 s c).fallbackVals.getD i 0) then (solv2 s c).fallbackVals.getD i 0
        else (solv s c).goodX.getD i 0) ∧
      (recorded s s.time.phase [(161, [w32 c] ++
        (((List.range d.n).find? fun i => !fIsFinite ((solv2 s c).fallbackVals.getD i 0)).map w32).toList)]) = t.ev) ∧
  (∀ (s : State) (c : Nat) (d : SolverDef) (f : Nat) (o : Outcome9), frameEnds s c d f = true → ownOutcome s c f o = true →
    o.fresh = true → (solv s c).fallback = true → 1 ≤ d.heldLimit →
    ∃ t, exec (.solverPublish c) s = .next t ∧ t.md = s.md ∧ (solv t c).goodX = o.x ∧ (solv t c).consecHeld = 0 ∧
      (solv t c).fallback = !decide (d.recover ≤ (solv s c).freshCount + 1) ∧
      (d.recover ≤ (solv s c).freshCount + 1 → (solv t c).x = o.x ∧ (solv t c).held = false ∧
        t.ev = recorded s s.time.phase [(162, [w32 c])]) ∧
      ((solv s c).freshCount + 1 < d.recover → (solv t c).mult = none ∧ t.ev = s.ev)) ∧
  (∀ (s : State) (c : Nat) (d : SolverDef) (f : Nat) (q : OutcomeMortar), frameEnds s c d f = true → s.md.role = .standby →
    (solv2 s c).mortar = some q → q.frame = f → q.fallback = false → (solv s c).fallback = false →
    (d.fbBrick ≠ 0xFFFF ∨ q.consecHeld < d.heldLimit) →
    ∃ t, exec (.solverPublish c) s = .next t ∧ t.md = s.md ∧ t.ev = s.ev ∧ (solv t c).frameTick = f ∧
      (solv t c).solvedTick = q.goodTick ∧ (solv t c).status = q.outcome.status ∧ (solv t c).held = !q.outcome.fresh ∧
      (solv t c).consecHeld = q.consecHeld ∧ (solv t c).age = q.age ∧ (solv t c).fallback = false ∧
      (solv t c).x = q.goodX ∧ (solv t c).goodX = q.goodX ∧ (solv t c).mult = q.goodMult ∧
      (solv t c).objective = q.goodObjective ∧ (solv2 t c).warm = q.warm) ∧
  (∀ (s : State) (c : Nat) (d : SolverDef) (f : Nat) (q : OutcomeMortar), frameEnds s c d f = true → s.md.role = .standby →
    (solv2 s c).mortar = some q → q.frame = f → q.fallback = true →
    ∃ t, exec (.solverPublish c) s = .next t ∧ t.md = s.md ∧ (solv t c).frameTick = f ∧ (solv t c).status = q.outcome.status ∧
      (solv t c).fallback = true ∧ (solv t c).held = false ∧ (solv t c).mult = none ∧ (solv t c).objective = none ∧
      (solv t c).goodX = q.goodX ∧ (solv t c).x.length = d.n ∧
      ∀ i, i < d.n → (solv t c).x.getD i 0 =
        if fIsFinite ((solv2 s c).fallbackVals.getD i 0) then (solv2 s c).fallbackVals.getD i 0 else q.goodX.getD i 0)

/-- A tile goes offline, its unit shrinks, and its contexts are re-homed (R294, R295, R296, R297): A lost tile is
offline and failed with its cause, and EV165 is raised; a gang of two leaves a single tile, a gang of four a gang of
two and a single tile; tiles of other units stay. Every context of the unit is suspended or on a remaining unit that
holds its size; other contexts stay. A self-test stamps its tick, and one that fails takes the tile offline with cause
1. -/
def Obligations.LostTilesShrinkTheirUnits : Prop :=
  (∀ (s : State) (i cause n : Nat) (x : TileSt), s.md.powered = true → s.ev.running = true →
    s.solver.tiles[i]? = some x → x.online = true → i < 4 →
    ∃ t, exec (.tileOffline i cause n) s = .next t ∧ t.md = s.md ∧ t.solver.s = s.solver.s ∧
      t.solver.tiles[i]? = some { x with online := false, failed := true, cause := cause, gang := 0 } ∧
      (∀ k y, k ≠ i → s.solver.tiles[k]? = some y → t.solver.tiles[k]? = some (
        if y.gang = 0 ∨ y.unit ≠ x.unit then y
        else if x.gang = 4 ∧ k / 2 ≠ i / 2 then { y with unit := 2 - i / 2 * 2, gang := 2 }
        else { y with unit := k, gang := 1 })) ∧
      (recorded s n [(165, [w32 i, w32 cause])]).intake <+: t.ev.intake ∧
      (∀ c, c < 64 → (solv2 s c).unit ≠ some x.unit → (solv2 t c).unit = (solv2 s c).unit) ∧
      (∀ e ∈ solverDefs (theImage s), (solv2 s e.1).unit = some x.unit → (solv2 t e.1).unit = none ∨
        ∃ d ∈ solverDefs (theImage s), d.1 = e.1 ∧ ∃ u ∈ unitList t, sizeFits d.2 u.2 = true ∧ (solv2 t e.1).unit = some u.1)) ∧
  (∀ (s : State) (i n : Nat), s.md.powered = true → s.ev.running = true →
    ∃ t, exec (.tileSelfTest i true n) s = .next t ∧ t.md = s.md ∧ t.ev = s.ev ∧
      t.solver = { s.solver with tested := lset s.solver.tested i s.time.tick }) ∧
  (∀ (s : State) (i n : Nat) (x : TileSt), s.md.powered = true → s.ev.running = true →
    s.solver.tiles[i]? = some x → x.online = true → i < 4 →
    ∃ t, exec (.tileSelfTest i false n) s = .next t ∧
      exec (.tileOffline i 1 n) { s with solver := { s.solver with tested := lset s.solver.tested i s.time.tick } } = .next t ∧
      t.solver.tiles[i]? = some { x with online := false, failed := true, cause := 1, gang := 0 })

/-- STATUS frames of the partner, and the lapse of its report (R59, R61, R334, R354): A STATUS frame becomes the
partner report. The first one of a partner in SYNC or TRACK makes a SOLO module with the token ACTIVE at the next
boundary, with EV034; a report of that kind 8 ticks old makes an ACTIVE module SOLO at the next boundary, with EV033.
A frame that reports the partner's token held, while the own one is and no abdication is under way, is a token
conflict: EV052, and abdication with cause 7. -/
def Obligations.PartnerReportsDecideTheRole : Prop :=
  (∀ (s : State) (lane : Nat) (f : StatusFrame) (n : Nat), linkServed s = true → lane ≤ 1 → f.mode ≠ 3 → f.mode ≠ 4 →
    f.ownToken = false →
    ∃ t, exec (.statusFrameReceive lane f n) s = .next t ∧ t.md = s.md ∧ t.ev = s.ev ∧ t.pair.status = some f ∧
      t.pair.statusTick = s.time.tick ∧ t.pair.report = true ∧ t.pair.partnerDays = f.rehearsalDays ∧
      t.pair.shadowTick = s.pair.shadowTick ∧ t.pair.roleDue = s.pair.roleDue ∧
      t.pair.lanes = lset s.pair.lanes lane { (s.pair.lanes.getD lane {}) with
        lastTick := s.time.tick
        state := if (s.pair.lanes.getD lane {}).state = 0 then 1 else (s.pair.lanes.getD lane {}).state }) ∧
  (∀ (s : State) (lane : Nat) (f : StatusFrame) (n : Nat), linkServed s = true → lane ≤ 1 → (f.mode = 3 ∨ f.mode = 4) →
    f.ownToken = false → s.md.role = .solo → s.md.token = true → s.md.mode ≠ .halt → s.pair.roleDue ≠ some .active →
    ∃ t, exec (.statusFrameReceive lane f n) s = .next t ∧ t.md = s.md ∧ t.pair.status = some f ∧
      t.pair.shadowTick = some s.time.tick ∧ t.pair.roleDue = some .active ∧ t.ev = recorded s n [(34, [])]) ∧
  (∀ (s : State) (lane : Nat) (f : StatusFrame) (n : Nat), linkServed s = true → lane ≤ 1 → f.ownToken = true →
    wiringWindow s = false → s.md.token = true → s.md.mode ≠ .halt →
    ∃ t, exec (.statusFrameReceive lane f n) s = .next t ∧ abdicated s t 7 n [] ∧
      (s.ev.running = true → ∃ e ∈ t.ev.intake.drop s.ev.intake.length,
        e.ev = 52 ∧ e.arg = [] ∧ e.stamp = s.time.ns + n)) ∧
  (∀ (s : State) (k : Nat), linkServed s = true → s.pair.shadowTick = some k → k + 8 ≤ s.time.tick → s.md.role = .active →
    s.md.mode ≠ .halt → s.pair.roleDue ≠ some .solo →
    ∃ t, exec .partnerReportLapse s = .next t ∧ t.md = s.md ∧ t.pair.shadowTick = none ∧ t.pair.roleDue = some .solo ∧
      t.ev = recorded s s.time.phase [(33, [])])

/-- What a standby does when its active abdicates (R61, R66, R346, R351, R352, R353, R556): An ABDICATE frame is
noted. Detected in TRACK or in CHANGE, an abdication leads to the takeover at the next boundary; detected in SYNC, to
OASIS as SOLO. At the takeover the standby is SOLO with the token, injection off, in the active's mode, HOLD becoming
RUN with EV036, and CHANGE before the swap the mode that it was entered from; EV039 comes first and the count of
takeovers rises. A module whose condition does not hold changes nothing. -/
def Obligations.AbdicationLeadsToTakeover : Prop :=
  (∀ (s : State) (cause n : Nat), linkServed s = true →
    ∃ t, exec (.abdicateFrameReceive cause n) s = .next t ∧ t.md = s.md ∧ t.ev = s.ev ∧ t.pair = { s.pair with
      abdicate := some cause
      lastAbd := if s.md.role = .standby then (s.time.tick, cause, partnerSlot s) else s.pair.lastAbd }) ∧
  (∀ (s : State) (one : Bool) (n : Nat), linkServed s = true → shadows s = true → s.pair.detected = none →
    lineReleased s one n = true →
    ∃ t, exec (.abdicationDetected one n) s = .next t ∧ t.md = { s.md with swapAt := none } ∧ t.ev = s.ev ∧
      t.crs = s.crs ∧ t.pair.detected = some s.time.tick ∧ t.pair.partnerToken = false ∧ t.pair.roleDue = s.pair.roleDue) ∧
  (∀ (s : State) (one : Bool) (n : Nat), linkServed s = true → s.md.role = .standby → s.md.mode = .sync →
    s.pair.detected = none → lineReleased s one n = true →
    ∃ t, exec (.abdicationDetected one n) s = .next t ∧ t.ev = s.ev ∧ t.pair.detected = none ∧
      t.pair.roleDue = some .solo ∧
      t.md = { s.md with swapAt := none, trans := s.md.trans ++ [⟨3, .oasis, causePair, none, 0⟩] }) ∧
  (∀ (s : State) (k : Nat), linkServed s = true → shadows s = true → s.pair.detected = some k → k < s.time.tick →
    [Mode.stop, .run, .change, .degraded, .oasis].contains (takeoverMode s) = true →
    ∃ t, exec .takeover s = .next t ∧ t.md.role = .solo ∧ t.md.token = true ∧ t.md.injection = false ∧
      t.md.swapAt = none ∧
      t.md.mode = (if modeOfCode s.mortar.activeMode = .hold then .run
        else if modeOfCode s.mortar.activeMode ≠ .change then modeOfCode s.mortar.activeMode
        else if s.exch.state = 4 ∧ s.exch.swapped = true then .change else s.md.beforeChange) ∧
      t.pair.detected = none ∧ t.pair.abdicate = none ∧ t.pair.watchFrom = some s.time.tick ∧
      t.pair.counters = bump s.pair.counters 0 ∧
      (s.ev.running = true → modeOfCode s.mortar.activeMode = .hold → s.mortar.activeMode ≤ 11 →
        ∃ e ∈ t.ev.intake.drop s.ev.intake.length, e.ev = 36) ∧
      (recorded s 0 [(39, [Config.detectionPathCode s.pair.oneSample, w32 (s.pair.abdicate.getD 0)])]).intake <+:
        t.ev.intake) ∧
  (∀ s : State, (∀ k, s.pair.detected = some k → s.time.tick ≤ k) → exec .takeover s = .next s)

/-- A role swap at its tick (R69, R355, R357): At the swap tick an ACTIVE whose partner still tracks, in a mode that
may swap, is STANDBY in SYNC without the token; a STANDBY in TRACK is ACTIVE with the token in the active's mode,
injection off. An ACTIVE whose partner no longer tracks keeps role, mode and token, and no swap is pending. -/
def Obligations.RolesSwapAtTheirTick : Prop :=
  (∀ (s : State) (k : Nat), linkServed s = true → s.md.swapAt = some k → k ≤ s.time.tick → s.md.role = .active →
    swapMode s.md.mode = true → partnerTracks s = true →
    ∃ t, exec .roleSwapTick s = .next t ∧ t.md.role = .standby ∧ t.md.mode = .sync ∧ t.md.token = false ∧
      t.md.injection = false ∧ t.md.swapAt = none ∧ t.pair.watchFrom = none ∧
      t.md.resetAt = (if s.md.swapReset then some (s.time.tick + 2) else s.md.resetAt)) ∧
  (∀ (s : State) (k : Nat), linkServed s = true → s.md.swapAt = some k → k ≤ s.time.tick → s.md.role = .standby →
    s.md.mode = .track → swapMode (modeOfCode s.mortar.activeMode) = true →
    ∃ t, exec .roleSwapTick s = .next t ∧ t.md.role = .active ∧ t.md.mode = modeOfCode s.mortar.activeMode ∧
      t.md.token = true ∧ t.md.injection = false ∧ t.md.swapAt = none ∧ t.pair.watchFrom = some s.time.tick) ∧
  (∀ (s : State) (k : Nat), linkServed s = true → s.md.swapAt = some k → k ≤ s.time.tick → s.md.role = .active →
    (swapMode s.md.mode && partnerTracks s) = false →
    ∃ t, exec .roleSwapTick s = .next t ∧ t.md.role = .active ∧ t.md.mode = s.md.mode ∧ t.md.token = s.md.token ∧
      t.md.swapAt = none ∧ t.crs = s.crs ∧ t.ev = s.ev)

/-- Rehearsals, the lanes of the link, versions, the bulk copy, TRACK and firmware (R338, R358, R359, R361, R362,
R364, R365): 8,000 ticks driven after a role swap without a latent fault complete a rehearsal with EV049; an ACTIVE
beyond its interval raises EV048 once a day. A lane that falls raises EV042, the last one EV041 as well; a lane that
has delivered frames in 80 ticks in a row rises with EV043, and with the first one the versions are sent. The highest
common versions are taken with EV051. The active's bulk copy raises EV045; a STANDBY whose copy is complete and
current enters TRACK with EV046. A firmware stage is stored, and the module restarts where Table 02.2 lets it enter
KILN (elsewhere not, the model's choice, log entry 78). -/
def Obligations.RehearsalsLanesAndForming : Prop :=
  (∀ (s : State) (k : Nat), s.pair.watchFrom = some k → k + 8000 ≤ s.time.tick → drives s = true → s.pair.watchFault = false →
    s.pair.rehearsing = true →
    ∃ t, exec .latentFaultWindowEnd s = .next t ∧ t.md = s.md ∧ t.pair = { s.pair with watchFrom := none } ∧
      t.ev.rehearsed = some (vtime s) ∧ t.ev.intake = (recorded s s.time.phase [(49, [Config.argCode 49 0])]).intake) ∧
  (∀ s : State, s.md.role = .active → (mortarSel (theImage s)).rehearsalDays ≠ 0 →
    (mortarSel (theImage s)).rehearsalDays < ownDays s → s.pair.overdueAt = none →
    ∃ t, exec .rehearsalOverdue s = .next t ∧ t.md = s.md ∧ t.pair = { s.pair with overdueAt := some s.time.tick } ∧
      t.ev = recorded s s.time.phase [(48, [w32 (ownDays s)])]) ∧
  (∀ (s : State) (lane n : Nat), linkServed s = true → lane ≤ 1 → (s.pair.lanes.getD lane {}).state = 2 →
    (s.pair.lanes.getD (1 - lane) {}).state = 2 → s.pair.lanes.length = 2 →
    ∃ t, exec (.laneDown lane n) s = .next t ∧ t.md = s.md ∧ (t.pair.lanes.getD lane {}).state = 0 ∧
      (t.pair.lanes.getD (1 - lane) {}).state = 2 ∧ t.pair.counters = bump s.pair.counters 4 ∧
      t.ev = recorded s n [(42, [w32 lane])]) ∧
  (∀ (s : State) (lane n : Nat), linkServed s = true → lane ≤ 1 → (s.pair.lanes.getD lane {}).state = 2 →
    (s.pair.lanes.getD (1 - lane) {}).state ≠ 2 → s.pair.lanes.length = 2 →
    ∃ t, exec (.laneDown lane n) s = .next t ∧ (t.pair.lanes.getD lane {}).state = 0 ∧ t.pair.bulk = none ∧
      t.md.mode = (if shadows s then .sync else s.md.mode) ∧
      (recorded s n [(42, [w32 lane]), (41, w64 (max (s.pair.lanes.getD 0 {}).lastTick
        (s.pair.lanes.getD 1 {}).lastTick))]).intake <+: t.ev.intake) ∧
  (∀ (s : State) (lane n : Nat), linkServed s = true → lane ≤ 1 → (s.pair.lanes.getD lane {}).state ≠ 2 →
    80 ≤ (s.pair.lanes.getD lane {}).run →
    ∃ t, exec (.laneUp lane n) s = .next t ∧ t.md = s.md ∧ t.pair.lanes = lset s.pair.lanes lane
      { (s.pair.lanes.getD lane {}) with state := 2, lastTick := s.time.tick } ∧
      t.ev = recorded s n [(43, [w32 lane])] ∧
      t.net.outbox = (if linkLost s then [OutMsg.versions Config.lvRange Config.mfList] else []) ++ s.net.outbox) ∧
  (∀ (s : State) (lo hi : Nat) (mf : List (Nat × Nat)) (miss : W32) (n : Nat), linkServed s = true →
    ∃ t, exec (.linkUpNegotiation lo hi mf miss n) s = .next t ∧ t.md = s.md ∧
      (∀ m, commonMf mf = some m → max Config.lvRange.1 lo ≤ min Config.lvRange.2 hi →
        t.pair = { s.pair with lv := min Config.lvRange.2 hi, mf := m, missing := miss, noCommon := false } ∧
          t.ev = recorded s n [(51, [w32 (min Config.lvRange.2 hi), w32 (256 * m.1 + m.2), miss])]) ∧
      (commonMf mf = none ∨ min Config.lvRange.2 hi < max Config.lvRange.1 lo →
        t.pair = { s.pair with lv := 0, mf := (0, 0), missing := 0, noCommon := true } ∧
          t.ev = (if s.md.mode = .load then
            recorded s n [(50, [w32 Config.lvRange.1, w32 Config.lvRange.2, w32 lo, w32 hi])] else s.ev))) ∧
  (∀ (s : State) (bytes n : Nat), linkServed s = true → linkLost s = false → s.pair.noCommon = false → s.md.role = .active →
    partnerIn s [.sync] = true →
    ∃ t, exec (.bulkCopyStart bytes n) s = .next t ∧ t.md = s.md ∧ t.pair.bulk = some bytes ∧
      t.ev = recorded s n [(45, [w32 bytes])]) ∧
  (∀ (s : State) (bytes n : Nat) (f : StatusFrame), linkServed s = true → linkLost s = false → s.pair.noCommon = false →
    s.md.role = .standby → s.md.mode = .sync → s.pair.status = some f →
    ∃ t, exec (.bulkCopyStart bytes n) s = .next t ∧ t.md.mode = .sync ∧ t.md.role = .standby ∧
      t.pair.bulk = some bytes ∧ t.mortar.activeMode = f.mode ∧ t.time.tick = f.tick + (s.time.tick - s.pair.statusTick)) ∧
  (∀ (s : State) (n : Nat), linkServed s = true → linkLost s = false → s.md.role = .standby → s.md.mode = .sync →
    bulkArrived s = true → (∀ k ∈ [0, 1, 2, 3], s.pair.stale.getD k 0 ≤ staleLimit s k) → s.exch.state ≠ 4 →
    ∃ t, exec (.trackReached n) s = .next t ∧ t.md.mode = .track ∧ t.md.prevMode = .sync ∧ t.md.role = .standby ∧
      t.pair.bulk = none ∧ t.ev.intake.getLast?.map (fun e => (e.ev, e.arg)) =
        (if s.ev.running then some (46, [w32 (s.time.tick - s.pair.syncTick)])
          else s.ev.intake.getLast?.map fun e => (e.ev, e.arg))) ∧
  (∀ (s : State) (stage : Nat) (code : Bytes) (signed : Bool) (v : W32), s.md.powered = true → ifaceAnswers s 1 = true →
    (s.net.lan.getD 2 {}).up = true → 1 ≤ stage → stage ≤ 6 →
    ∃ t, exec (.firmwareLoad stage code signed v) s = .next t ∧ t.kiln.fw = tset s.kiln.fw stage ⟨code, signed, v⟩ ∧
      (resetOutcome s = .kiln → atKilnEntry t) ∧ (resetOutcome s ≠ .kiln → t.md = s.md))

/-- Tick frames, other mortar frames and stale classes (R234, R247, R286, R339, R342, R343, R344): A tick frame that
closes is taken as a whole by a STANDBY: outputs and the loop states of configured contexts, which are applied at
once; one that does not close is only counted. A frame of another class that is complete waits for the boundary, one
that fails its CRC is counted and awaited again. A class beyond its staleness limit raises EV044 and takes a STANDBY
to SYNC. -/
def Obligations.MortarIsTakenAndApplied : Prop :=
  (∀ (s : State) (f : TickMortar), linkServed s = true → follows s = true → s.pair.noCommon = false → f.closes = true →
    f.exch = 0 → (f.loops.map (·.ctx)).Nodup →
    ∃ t, exec (.mortarTickFrameReceive f) s = .next t ∧ t.md = s.md ∧ t.ev = s.ev ∧ t.mortar.tick = some f ∧
      t.mortar.outputs = f.outputs ∧ t.crs = s.crs ∧ t.pair.stale = lset s.pair.stale 0 0 ∧
      (∀ q ∈ f.loops, (loopDef (theImage s) q.ctx).isSome = true → (loop t q.ctx).acc = q.acc ∧ (loop t q.ctx).u = q.u ∧
        (loop t q.ctx).d = q.d ∧ (loop t q.ctx).e = q.e ∧ (loop t q.ctx).restart = false ∧
        (loop2 t q.ctx).lastTick = q.lastTick) ∧
      ∀ c, c ∉ f.loops.map (·.ctx) → loop t c = loop s c ∧ loop2 t c = loop2 s c) ∧
  (∀ (s : State) (f : TickMortar), linkServed s = true → follows s = true → s.pair.noCommon = false → f.closes = false →
    ∃ t, exec (.mortarTickFrameReceive f) s = .next t ∧ t.md = s.md ∧ t.mortar = s.mortar ∧ t.loops = s.loops ∧
      t.pair = { s.pair with counters := bump s.pair.counters 5 }) ∧
  (∀ (s : State) (m : Mortar) (n : Nat), linkServed s = true → follows s = true → s.pair.noCommon = false →
    waitsForBoundary m = true →
    ∃ t, exec (.mortarFrameReceive true m n) s = .next t ∧ t.md = s.md ∧ t.ev = s.ev ∧
      t.mortar = { (frameCame s (mortarClass m)).mortar with queue := s.mortar.queue ++ [m] } ∧ t.set = s.set ∧ t.crs = s.crs ∧ t.loops = s.loops) ∧
  (∀ (s : State) (m : Mortar) (n : Nat), linkServed s = true → s.pair.noCommon = false →
    ∃ t, exec (.mortarFrameReceive false m n) s = .next t ∧ t.md = s.md ∧
      t.mortar = { s.mortar with awaited := s.mortar.awaited ++ [(mortarClass m, s.time.tick)] } ∧
      t.pair = { s.pair with counters := bump s.pair.counters 6 }) ∧
  (∀ (s : State) (cls n : Nat), linkServed s = true → shadows s = true → cls ≤ 3 →
    staleLimit s cls < s.pair.stale.getD cls 0 →
    ∃ t, exec (.mortarStale cls n) s = .next t ∧ t.md.mode = .sync ∧ t.md.role = .standby ∧
      (recorded s n [(44, [w32 cls, w32 (s.pair.stale.getD cls 0)])]).intake <+: t.ev.intake)

/-- The decision of phase 35 µs: demands, losses and permits of every axis (R370, R371, R372, R380, R385, R393, R394):
After a decision each permit switch is on exactly for an axis that is PERMITTED or in SS1, in a mode that evaluates
and is not SYNC; a compare fault leaves every axis in STO; an axis without demand and fault, of RESTART 0 and without
partner data, is not in STO. An open input demands, and takes an axis of FUNC 1 that it demands from PERMITTED to STO.
The first loss of a safety channel takes the unit in control from RUN to DEGRADED (to OASIS with a compare fault or
after the expiry) and sets the expiry. One decision a tick. -/
def Obligations.SafetyDecisionSetsEveryPermit : Prop :=
  (∀ (s : State) (la lb : Nat) (da db : Bool), evaluates s.md.mode = true → s.safe.evalTick ≠ some s.time.tick →
    ∃ t, exec (.safetyDecision la lb da db) s = .next t ∧ t.safe.evalTick = some s.time.tick ∧
      theImage t = theImage s ∧
      ∀ e ∈ axisDefs (theImage s),
        (axSt t e.1).swA = (evaluates t.md.mode && t.md.mode != .sync &&
          ((axSt t e.1).state == 1 || (axSt t e.1).state == 2)) ∧
        (axSt t e.1).swB = (axSt t e.1).swA ∧ (t.safe.compareFault = true → (axSt t e.1).state = 3) ∧
        (axisDemand t e.1 e.2 = none → axisFault t e.1 = false → e.2.manual = false → (axSt s e.1).partner = none →
          (axSt s e.1).state ∈ [1, 2, 3] → (axSt t e.1).state = 1 ∨ (axSt t e.1).state = 2)) ∧
  (∀ (s : State) (la lb : Nat) (da db : Bool) (i : Nat) (d : SiDef) (j : Nat) (ax : AxisDef), evaluates s.md.mode = true →
    s.safe.evalTick ≠ some s.time.tick → (i, d) ∈ siDefs (theImage s) → (j, ax) ∈ axisDefs (theImage s) →
    s.safe.chA = true → la = 0 → da = true → (siSt s i).lostA = false → (siSt s i).a = false ∨ (siSt s i).b = false →
    (siSt s i).lostB = false → ax.ss1 = false → ax.demand.testBit i = true → (axSt s j).state = 1 →
    ∃ t, exec (.safetyDecision la lb da db) s = .next t ∧ (siSt t i).demand = true ∧ (axSt t j).state = 3 ∧
      (axSt t j).swA = false ∧ (axSt t j).swB = false) ∧
  (∀ (s : State) (la lb : Nat) (da db : Bool), s.md.mode = .run → inControl s = true → s.safe.evalTick ≠ some s.time.tick →
    s.safe.chA = true → la ≠ 0 →
    ∃ t, exec (.safetyDecision la lb da db) s = .next t ∧ t.safe.chA = false ∧
      t.safe.loss = (if s.safe.loss = 0 then 1 else s.safe.loss) ∧ (t.md.mode = .degraded ∨ t.md.mode = .oasis) ∧
      (t.safe.compareFault = false → s.safe.expired = false → t.md.mode = .degraded) ∧
      t.safe.expiry = some (s.safe.expiry.getD (s.time.ns + 35000 + degHours (theImage s) * 3600 * 10 ^ 9))) ∧
  (∀ (s : State) (la lb : Nat) (da db : Bool), s.safe.evalTick = some s.time.tick ∨ evaluates s.md.mode = false →
    exec (.safetyDecision la lb da db) s = .next s)

/-- Partner states, test pulses, permit read-back, safety reset, watchdog and countdown (R374, R376, R381, R383, R389,
R392, R393, R394, R396): The partner's axis states wait for the next decision. A used channel that reads closed in its
test pulse is lost with EV070; a lost one that passes eight pulses is restored with EV081. A permit switch that reads
wrong is faulty with EV071. A safety reset raises EV080, releases axes in STO, clears permit faults whose switch reads
below 5 V, and without a loss ends the countdown, DEGRADED returning to RUN. A connection's watchdog, the warnings and
the expiry raise EV077, EV078 and EV079. -/
def Obligations.SafetyTestsResetsAndTimeouts : Prop :=
  (∀ (s : State) (axes : List (Nat × Nat × F64)), onTwin s = true → evaluates s.md.mode = true →
    ∃ t, exec (.partnerAxisStateReceive axes) s = .next t ∧ t.md = s.md ∧ t.ev = s.ev ∧
      ∀ j, axSt t j = (if j < axes.length ∧ (axisDef (theImage s) j).isSome then
        { axSt s j with partner := some (axes.getD j (0, 0, 0)) } else axSt s j)) ∧
  (∀ (s : State) (i c n : Nat) (d : SiDef), siDef (theImage s) i = some d → evaluates s.md.mode = true → d.mode ≠ 3 → c ≤ 1 →
    pulseDue s i c = true → (if c = 0 then (siSt s i).lostA else (siSt s i).lostB) = false →
    ∃ t, exec (.testPulse i c true n) s = .next t ∧ (siSt t i).lostA = ((siSt s i).lostA || c == 0) ∧
      (siSt t i).lostB = ((siSt s i).lostB || c == 1) ∧ t.safe.loss = (if s.safe.loss = 0 then 3 else s.safe.loss) ∧
      (inControl s = true → s.md.mode = .run → t.md.mode = .degraded) ∧
      (recorded s n [(70, [w32 i, w32 c])]).intake <+: t.ev.intake) ∧
  (∀ (s : State) (i c n : Nat) (d : SiDef), siDef (theImage s) i = some d → evaluates s.md.mode = true → d.mode ≠ 3 → c ≤ 1 →
    pulseDue s i c = true → (if c = 0 then (siSt s i).lostA else (siSt s i).lostB) = true → (siSt s i).restored = false →
    ∃ t, exec (.testPulse i c false n) s = .next t ∧ t.md = s.md ∧ siSt t i = { siSt s i with
      passes := (siSt s i).passes + 1, restored := decide (8 ≤ (siSt s i).passes + 1) } ∧
      t.ev = (if 8 ≤ (siSt s i).passes + 1 then recorded s n [(81, [w32 i, w32 c])] else s.ev)) ∧
  (∀ (s : State) (j w : Nat) (below on : Bool) (n : Nat), (axisDef (theImage s) j).isSome = true →
    evaluates s.md.mode = true → w ≤ 1 → (if w = 0 then (axSt s j).pfaultA else (axSt s j).pfaultB) = false →
    (!below || ((if w = 0 then (axSt s j).swA else (axSt s j).swB) && !on)) = true →
    ∃ t, exec (.permitOffPulse j w below on n) s = .next t ∧ t.md = s.md ∧
      (if w = 0 then (axSt t j).pfaultA else (axSt t j).pfaultB) = true ∧ (axSt t j).state = (axSt s j).state ∧
      t.safe.counters = bump s.safe.counters 5 ∧ t.ev = recorded s n [(71, [w32 j, w32 w])]) ∧
  (∀ (s : State) (src n k : Nat), s.safe.resetSeen = some (src, k) → k ≤ s.time.tick → evaluates s.md.mode = true →
    ∃ t, exec (.safetyReset src n) s = .next t ∧ t.safe.resetSeen = none ∧ t.md.mode = s.md.mode ∧
      (recorded s n [(80, [w32 src])]).intake <+: t.ev.intake ∧
      (∀ e ∈ axisDefs (theImage s), (axSt t e.1).released = ((axSt s e.1).released || (axSt s e.1).state == 3) ∧
        (axSt t e.1).pfaultA = ((axSt s e.1).pfaultA && !(axSt s e.1).belowA) ∧
        (axSt t e.1).pfaultB = ((axSt s e.1).pfaultB && !(axSt s e.1).belowB) ∧
        (axSt t e.1).state = (axSt s e.1).state) ∧
      (lossFree t = true → s.safe.expiry ≠ none → t.safe.expiry = none ∧ t.safe.expired = false ∧ t.safe.loss = 0 ∧
        t.md = (if s.md.mode = .degraded then
          { s.md with trans := s.md.trans ++ [⟨7, .run, causeSafety, none, 0⟩] } else s.md)) ∧
      (lossFree t = false → t.safe.expiry = s.safe.expiry ∧ t.md = s.md)) ∧
  (∀ (s : State) (k : Nat) (d : ConnDef), connDef (theImage s) k = some d → evaluates s.md.mode = true → d.kind ≠ 3 →
    (connSt s k).expired = false → (connSt s k).lastTick + d.wd ≤ s.time.tick →
    ∃ t, exec (.ringSafetyWatchdog k) s = .next t ∧ t.md = s.md ∧
      connSt t k = { connSt s k with expired := true, valid := false } ∧ t.safe.counters = bump s.safe.counters 7 ∧
      t.ev = recorded s s.time.phase [(77, [w32 k])]) ∧
  (∀ (s : State) (n x : Nat), s.safe.expiry = some x → evaluates s.md.mode = true → s.safe.expired = false →
    x - (s.time.ns + n) ≤ 3600 * 10 ^ 9 →
    s.safe.notices < (if x - (s.time.ns + n) ≤ 600 * 10 ^ 9 then 2 else 1) →
    ∃ t, exec (.degradedExpiryNear n) s = .next t ∧ t.md = s.md ∧ t.safe = { s.safe with
      notices := if x - (s.time.ns + n) ≤ 600 * 10 ^ 9 then 2 else 1 } ∧
      t.ev = recorded s n [(78, [w32 ((x - (s.time.ns + n)) / 10 ^ 9)])]) ∧
  (∀ (s : State) (n x : Nat), s.safe.expiry = some x → evaluates s.md.mode = true → s.safe.expired = false →
    x ≤ s.time.ns + n →
    ∃ t, exec (.degradedExpiry n) s = .next t ∧ t.md = s.md ∧ t.safe = { s.safe with expired := true } ∧
      t.ev = recorded s n [(79, [])])

/-- Digital input changes, the event stamps, analogue ranges and position signals (R404, R405, R406, R416, R425): A
change of an input's filtered state is taken, and with SOE stamped minus 10 ns, FILTER and the stage delay into the
buffer; a read answers up to 64 records from the session's position, which moves past them. Runs of latches outside
the limits set UNDER and OVER with EV200 and EV201, runs inside clear them with EV202; a position fault sets SIGNAL
with EV207, eight clean latches clear it; the cleared input is valid again with the reading of its latch. -/
def Obligations.InputsAreStampedAndJudged : Prop :=
  (∀ (s : State) (kk : Nat) (v : Bool) (ns n : Nat) (e : IoEntry), ioByKind (theImage s) kk [1, 2, 3] = some (n, e) →
    fieldRuns s = true → (chan s kk).level ≠ v → s.field.soe.length < 8192 →
    ∃ t, exec (.digitalInputChange kk v ns) s = .next t ∧ t.md = s.md ∧ t.ev = s.ev ∧
      chan t kk = { chan s kk with level := v } ∧ (∀ k, k ≠ kk → chan t k = chan s k) ∧
      t.field.soe = (if e.flags.testBit 0 then
        soeInsert ⟨(ns - 10 - e.filter * 1000 - 1500) / 1000 * 1000, kk, v, timeQuality s, w32 s.field.soeSeq⟩ s.field.soe
        else s.field.soe)) ∧
  (∀ (s : State) (r : Req), servedRead s r 0x30100000#32 = true →
    ∃ t, exec (.soeRead r) s = .next t ∧ t.md = s.md ∧ t.ev = s.ev ∧ t.field = { s.field with soeLost := false } ∧
      answers s t r stDone
        (((s.field.soe.filter fun e => decide ((sess s r.session).soePos ≤ e.seq.toNat)).take 64).flatMap soeBytes) ∧
      ∀ e ∈ (s.field.soe.filter fun e => decide ((sess s r.session).soePos ≤ e.seq.toNat)).take 64,
        e.seq.toNat < (sess t r.session).soePos) ∧
  (∀ (s : State) (a : Nat), a ≤ 15 → 4 ≤ (chanRun s (0x30 + a)).under → (chan s (0x30 + a)).under = false →
    ∃ t, exec (.analogueUnderRange a) s = .next t ∧ t.md = s.md ∧
      chan t (0x30 + a) = { chan s (0x30 + a) with under := true } ∧
      t.ev = recorded s s.time.phase [(200, w32 (0x30 + a) :: wF64 (chan s (0x30 + a)).measured)]) ∧
  (∀ (s : State) (a : Nat), a ≤ 15 → 4 ≤ (chanRun s (0x30 + a)).above → (chan s (0x30 + a)).above = false →
    ∃ t, exec (.analogueOverRange a) s = .next t ∧ t.md = s.md ∧
      chan t (0x30 + a) = { chan s (0x30 + a) with above := true } ∧
      t.ev = recorded s s.time.phase [(201, w32 (0x30 + a) :: wF64 (chan s (0x30 + a)).measured)]) ∧
  (∀ (s : State) (a : Nat), a ≤ 15 →
    ((chan s (0x30 + a)).under && decide (80 ≤ (chanRun s (0x30 + a)).good) ||
      (chan s (0x30 + a)).above && decide (80 ≤ (chanRun s (0x30 + a)).goodOver)) = true →
    ∃ t, exec (.analogueRangeClear a) s = .next t ∧ t.md = s.md ∧ chan t (0x30 + a) = { chan s (0x30 + a) with
      under := (chan s (0x30 + a)).under && !decide (80 ≤ (chanRun s (0x30 + a)).good)
      above := (chan s (0x30 + a)).above && !decide (80 ≤ (chanRun s (0x30 + a)).goodOver)
      lastValid := (chan t (0x30 + a)).lastValid } ∧
      (∀ n e, ioByKind (theImage s) (0x30 + a) [6, 7] = some (n, e) → chanBad t (0x30 + a) = false →
        (chan t (0x30 + a)).lastValid = some (aiValue e (chan s (0x30 + a)).measured)) ∧
      t.ev = recorded s s.time.phase [(202, [w32 (0x30 + a)])]) ∧
  (∀ (s : State) (p : Nat), p ≤ 1 → (chanRun s (0x48 + p)).fault ≠ 0 → (chan s (0x48 + p)).signal = false →
    ∃ t, exec (.positionSignalFault p) s = .next t ∧ t.md = s.md ∧
      chan t (0x48 + p) = { chan s (0x48 + p) with signal := true } ∧ t.loops.posGood = lset s.loops.posGood p 0 ∧
      t.ev = recorded s s.time.phase [(207, [w32 p, w32 (chanRun s (0x48 + p)).fault])]) ∧
  (∀ (s : State) (p : Nat), p ≤ 1 → s.field.fault = false → 8 ≤ (chanRun s (0x48 + p)).clean → (chan s (0x48 + p)).signal = true →
    ∃ t, exec (.positionSignalClear p) s = .next t ∧ t.md = s.md ∧ t.ev = s.ev ∧
      t.loops.posGood = lset s.loops.posGood p 1 ∧
      chan t (0x48 + p) = { chan s (0x48 + p) with signal := false, lastValid := some (chan s (0x48 + p)).measured })

/-- Protection, retries, groups, feeds and read-back of the onboard outputs (R407, R408, R409, R410, R411, R413, R422,
R358): An overloaded or hot output is switched off, latched by its LATCH flag, with EV192 or EV195 the first time; a
retry switches it on after PARAM ticks; a host clears LATCHED and RETRIES. A group above its limit for 80 latches
loses the outputs named, with one EV193. Open wire, feed, read-back, external drive and compliance conditions set and
clear their bits with EV194, EV196 to EV199, EV203 and EV204. No other channel changes. -/
def Obligations.OutputsAreProtectedAndReadBack : Prop :=
  (∀ (s : State) (kk n : Nat) (e : IoEntry), doEntry s kk = some e → doOn s kk = true →
    ∃ t, exec (.outputOverload kk n) s = .next t ∧ t.md = s.md ∧ chan t kk = { chan s kk with
      tripped := true, latched := (chan s kk).latched || e.flags.testBit 3, offTick := s.time.tick, retryTick := none
      overload := true, counters := bump (chan s kk).counters 0 } ∧ (∀ k, k ≠ kk → chan t k = chan s k) ∧
      t.ev = (if (chan s kk).overload then s.ev
        else recorded s n [(192, [w32 kk, if e.flags.testBit 3 then 1 else 0])])) ∧
  (∀ (s : State) (kk n : Nat) (e : IoEntry), doEntry s kk = some e → doOn s kk = true →
    ∃ t, exec (.outputOvertemp kk n) s = .next t ∧ t.md = s.md ∧ chan t kk = { chan s kk with
      tripped := true, latched := (chan s kk).latched || e.flags.testBit 3, offTick := s.time.tick, retryTick := none
      overtemp := true } ∧ (∀ k, k ≠ kk → chan t k = chan s k) ∧
      t.ev = (if (chan s kk).overtemp then s.ev else recorded s n [(195, [w32 kk])])) ∧
  (∀ (s : State) (kk : Nat) (e : IoEntry), doEntry s kk = some e → (chan s kk).tripped = true → (chan s kk).latched = false →
    ((chan s kk).targets.getD 0 none).isSome = true → (chan s kk).offTick + e.param ≤ s.time.tick →
    ∃ t, exec (.outputRetry kk true) s = .next t ∧ t.md = s.md ∧ t.ev = s.ev ∧ chan t kk = { chan s kk with
      tripped := false, overtemp := false, retries := min ((chan s kk).retries + 1) 255
      retryTick := if (chan s kk).overload then some s.time.tick else none } ∧ ∀ k, k ≠ kk → chan t k = chan s k) ∧
  (∀ (s : State) (r : Req) (kk : Nat), servedOutside s r (0x30020000 + w32 kk) = true → kk ≤ 0x49 → chanClass s kk ≠ 0 →
    ∃ t, exec (.channelClear r kk 1) s = .next t ∧ answers s t r stDone ∧ t.md = s.md ∧ t.ev = s.ev ∧
      chan t kk = { chan s kk with
        latched := false, tripped := (chan s kk).tripped && !(chan s kk).latched, retries := 0
        readback := (chan s kk).readback && !(chanRun s kk).readbackOk
        extDrive := (chan s kk).extDrive && !(chanRun s kk).readbackOk } ∧ ∀ k, k ≠ kk → chan t k = chan s k) ∧
  (∀ (s : State) (g : Nat) (cs : List Nat) (n : Nat), 80 ≤ (groupSt s g).overRun →
    (cs.filter fun k => groupOf k == g && (doEntry s k).isSome && doOn s k) ≠ [] →
    ∃ t, exec (.groupOvercurrent g cs n) s = .next t ∧ t.md = s.md ∧ (groupSt t g).overRun = 0 ∧
      (∀ k, chan t k = (if k ∈ cs ∧ groupOf k = g ∧ (doEntry s k).isSome ∧ doOn s k then { chan s k with
        tripped := true, latched := true, offTick := s.time.tick, retryTick := none } else chan s k)) ∧
      t.ev = recorded s n [(193, [w32 g, w32 ((cs.filter fun k =>
        groupOf k == g && (doEntry s k).isSome && doOn s k).foldl (fun m k => m + 2 ^ (k % 8)) 0)])]) ∧
  (∀ (s : State) (kk : Nat), (doEntry s kk).isSome = true → (chan s kk).openWire = false → 80 ≤ (chanRun s kk).open_ →
    ∃ t, exec (.openWire kk true) s = .next t ∧ t.md = s.md ∧ chan t kk = { chan s kk with
      openWire := true, counters := bump (chan s kk).counters 1 } ∧
      t.ev = recorded s s.time.phase [(194, [w32 kk, if doOn s kk then 1 else 0])]) ∧
  (∀ (s : State) (kk : Nat), (doEntry s kk).isSome = true → (chan s kk).openWire = true → 80 ≤ (chanRun s kk).closed →
    ∃ t, exec (.openWire kk false) s = .next t ∧ t.md = s.md ∧ t.ev = s.ev ∧
      chan t kk = { chan s kk with openWire := false }) ∧
  (∀ (s : State) (g : Nat), 1 ≤ g → g ≤ 6 → (groupSt s g).fell = true → (groupSt s g).low = false → fieldRuns s = true →
    ∃ t, exec (.fieldFeedLow g) s = .next t ∧ t.md = s.md ∧
      groupSt t g = { groupSt s g with low := true, fell := false, good := 0 } ∧
      t.ev = recorded s s.time.phase [(198, w32 g :: wF64 (groupSt s g).volts)]) ∧
  (∀ (s : State) (g : Nat), (groupSt s g).low = true → 80 ≤ (groupSt s g).good →
    ∃ t, exec (.fieldFeedRestored g) s = .next t ∧ t.md = s.md ∧ groupSt t g = { groupSt s g with low := false } ∧
      t.ev = recorded s s.time.phase [(199, [w32 g])]) ∧
  (∀ (s : State) (kk : Nat), 3 ≤ (chanRun s kk).readback →
    (0x30 ≤ kk ∨ ((chan s kk).targets.getD 0 none).isSome = true) → (chan s kk).readback = false →
    s.pair.watchFrom = none →
    ∃ t, exec (.readbackFailure kk) s = .next t ∧ t.md = s.md ∧ chan t kk = { chan s kk with
      readback := true, counters := bump (chan s kk).counters 2 } ∧
      t.ev = recorded s s.time.phase
        [(196, w32 kk :: wF64 ((aoTarget (chan s kk)).getD 0) ++ wF64 (chan s kk).measured)]) ∧
  (∀ (s : State) (kk k : Nat), 3 ≤ (chanRun s kk).readback → kk < 0x30 → (chan s kk).targets.getD 0 none = none →
    (chan s kk).extDrive = false → s.pair.watchFrom = some k → s.time.tick < k + 8000 →
    ∃ t, exec (.readbackFailure kk) s = .next t ∧ t.md = s.md ∧ chan t kk = { chan s kk with extDrive := true } ∧
      t.pair = { s.pair with watchFault := true } ∧ t.ev = recorded s s.time.phase [(197, [w32 kk]), (47, [w32 kk])]) ∧
  (∀ (s : State) (a : Nat), a ≤ 7 → 4 ≤ (chanRun s (0x40 + a)).lost → (chan s (0x40 + a)).compliance = false →
    ∃ t, exec (.complianceLost a) s = .next t ∧ t.md = s.md ∧ chan t (0x40 + a) = { chan s (0x40 + a) with
      compliance := true, counters := bump (chan s (0x40 + a)).counters 3 } ∧
      t.ev = recorded s s.time.phase [(203, w32 (0x40 + a) :: wF64 ((aoTarget (chan s (0x40 + a))).getD 0) ++
        wF64 (chan s (0x40 + a)).measured)]) ∧
  (∀ (s : State) (a : Nat), a ≤ 7 → 80 ≤ (chanRun s (0x40 + a)).regained → (chan s (0x40 + a)).compliance = true →
    ∃ t, exec (.complianceRegained a) s = .next t ∧ t.md = s.md ∧
      chan t (0x40 + a) = { chan s (0x40 + a) with compliance := false } ∧
      t.ev = recorded s s.time.phase [(204, [w32 (0x40 + a)])])

/-- Logic silence, the field controller watchdog and trim mode (R420, R421, R427, R429): After a gap of T_SILENCE
every onboard output has its oasis value and SILENCE, with EV205 of cause 1; the watchdog of the field controller
switches every output off, with cause 2; either takes a unit in control from STOP, RUN, HOLD and DEGRADED to OASIS. In
STOP a host sets the trim mask and trim currents for the next boundary. -/
def Obligations.SilenceWatchdogAndTrim : Prop :=
  (∀ (s : State) (n : Nat), drives s = true → s.field.refreshed = true → s.field.silence = false →
    tSilence (theImage s) * tickNs + 105000 ≤ (s.time.tick - s.field.lastRefresh) * tickNs + n →
    ∃ t, exec (.logicSilence n) s = .next t ∧ t.field.silence = true ∧ t.field.cause = 1 ∧
      (∀ e ∈ onboardOutputs s, tget 0 t.field.terminal e.1 = silenceTerminal s e.1 e.2 ∧
        ∀ kk, kkOf e.2 = some kk → (chan t kk).silence = true) ∧
      (s.md.mode ∈ [.stop, .run, .hold, .degraded] → t.md.mode = .oasis) ∧
      (recorded s n [(205, [1])]).intake <+: t.ev.intake) ∧
  (∀ (s : State) (n : Nat), drives s = true → s.field.refreshed = true → s.field.fault = false →
    ∃ t, exec (.fieldControllerWatchdog n) s = .next t ∧ t.field.fault = true ∧ t.field.cause = 2 ∧
      t.field.terminal = s.field.terminal.map (fun e => (e.1, 0)) ∧ (∀ kk, (chan t kk).targets = []) ∧
      (s.md.mode ∈ [.stop, .run, .hold, .degraded] → t.md.mode = .oasis) ∧
      (recorded s n [(205, [2])]).intake <+: t.ev.intake) ∧
  (∀ (s : State) (r : Req) (mask : Byte), servedOutside s r 0x30210000#32 = true → inControl s = true → s.md.mode = .stop →
    ∃ t, exec (.trimModeWrite r mask) s = .next t ∧ answers s t r stDone ∧ t.md = s.md ∧
      t.field = { s.field with trimMaskNext := some mask }) ∧
  (∀ (s : State) (r : Req) (a : Nat) (v : F64), servedOutside s r (0x30200000 + w32 a) = true → a ≤ 7 →
    chanClass s (0x40 + a) ≠ 0 → (fLe 0 v && fLe v (fOfInt 24)) = true →
    ∃ t, exec (.trimCurrentWrite r a v) s = .next t ∧ answers s t r stDone ∧ t.md = s.md ∧
      t.field = { s.field with trimNext := s.field.trimNext ++ [(a, v)] })

/-- Ring input cycles, missed cycles, DISCOVER, joining stations and hops (R436, R437, R442, R445, R451, R452, R453,
R454): The first copy of a sound cycle that arrives by phase 20 µs brings its modules' data with its sample tick, a
module absent, with FAULT or mismatched keeping its data and losing validity; a later copy waits for the next image as
a late cycle with EV215, without safety containers. A faulty frame is counted for the station it names. A second
missed cycle in a row makes the station LOST. DISCOVER answers, joining and hop speeds set the station states of R451,
R452 and R436. -/
def Obligations.RingCyclesJoinsAndHops : Prop :=
  (∀ (s : State) (f : RingFrame) (d : StationDef), newCycle s f d = true → f.tick = s.time.tick → f.at_ ≤ 20000 →
    ∃ t, exec (.ringInputFrameReceive f) s = .next t ∧ t.md = s.md ∧ (∀ k, k ≠ f.station → stn t k = stn s k) ∧
      (stn t f.station).lastCycle = some f.tick ∧ (stn t f.station).missed = 0 ∧ (stn t f.station).sample = f.tick ∧
      (stn t f.station).late = false ∧ (stn t f.station).heldOut = f.sstatus.getLsbD 2 ∧
      (∀ m ∈ d.mods, f.modules.find? (fun b => b.1 == m.module) = none →
        (tget {} (stn t f.station).mods m.module).valid = false ∧
        (tget {} (stn t f.station).mods m.module).data = (tget {} (stn s f.station).mods m.module).data) ∧
      ∀ m ∈ d.mods, ∀ b, f.modules.find? (fun b => b.1 == m.module) = some b →
        (tget {} (stn t f.station).mods m.module).valid = blockGood b ∧
        (blockGood b = true → (tget {} (stn t f.station).mods m.module).data = b.2.2 ∧
          (tget {} (stn t f.station).mods m.module).sample = f.tick) ∧
        (blockGood b = false →
          (tget {} (stn t f.station).mods m.module).data = (tget {} (stn s f.station).mods m.module).data)) ∧
  (∀ (s : State) (f : RingFrame) (d : StationDef), newCycle s f d = true → f.tick = s.time.tick → 20000 < f.at_ →
    ∃ t, exec (.ringInputFrameReceive f) s = .next t ∧ t.md = s.md ∧ t.safe = s.safe ∧
      stn t f.station = { stn s f.station with
        lastCycle := some f.tick, missed := 0, sample := f.tick, late := true, heldOut := f.sstatus.getLsbD 2
        counters := bump (stn s f.station).counters 0, pendingFrame := some (f.tick, f.modules) } ∧
      t.ev = recorded s f.at_ ((if (stn s f.station).late then [] else [(215, [w32 f.station, w32 f.at_])]) ++
        if f.sstatus.getLsbD 2 && !(stn s f.station).heldOut then [(219, [w32 f.station])] else [])) ∧
  (∀ (s : State) (f : RingFrame), s.ring.forwarding = true → (s.md.mode == .load || evaluates s.md.mode) = true →
    (stationDef (theImage s) f.station).isSome = true → frameSound f = false →
    ∃ t, exec (.ringInputFrameReceive f) s = .next t ∧ t.md = s.md ∧ t.ev = s.ev ∧
      (∀ k, k ≠ f.station → stn t k = stn s k) ∧
      stn t f.station = { stn s f.station with counters := bump (stn s f.station).counters 4 }) ∧
  (∀ (s : State) (k : Nat) (d : StationDef), stationDef (theImage s) k = some d → (stn s k).state = 3 →
    1 ≤ s.time.tick → cycleTick d (s.time.tick - 1) = true →
    ((stn s k).lastCycle.elim true fun n => decide (n < s.time.tick - 1)) = true →
    ∃ t, exec (.ringCycleMissed k) s = .next t ∧ t.md = s.md ∧ (∀ j, j ≠ k → stn t j = stn s j) ∧
      (stn t k).missed = (stn s k).missed + 1 ∧ (stn t k).counters = bump (stn s k).counters 1 ∧
      ((stn s k).missed = 0 → (stn t k).state = 3 ∧ (stn t k).mods = (stn s k).mods ∧ t.ev = s.ev) ∧
      (1 ≤ (stn s k).missed → (stn t k).state = 4 ∧ (∀ e ∈ (stn t k).mods, e.2.valid = false) ∧
        t.ev = recorded s 20000 [(if d.optional then 209 else 208, [w32 k])])) ∧
  (∀ s : State, s.ring.opened = true → s.ring.hopsDown = [] →
    ∃ t, exec .ringClosed s = .next t ∧ t.md = s.md ∧
      t.ring = { s.ring with opened := false, openHop := 0xFF, hopsTold := [] } ∧
      t.ev = recorded s s.time.phase [(214, [])]) ∧
  (∀ (s : State) (a : Discovered) (n : Nat) (d : StationDef), discovers s = true →
    stationDef (theImage s) a.station = some d → a.ident = d.ident →
    ∃ t, exec (.ringLinkUp [a] n) s = .next t ∧ t.md = s.md ∧ t.ev = s.ev ∧ stn t a.station = { stn s a.station with
        position := a.position, hopA := tget 0 s.ring.speed (a.position - 1), hopB := tget 0 s.ring.speed a.position
        mismatch := false, undeclared := false, digest := some (ringDigest (theImage s))
        state := if a.digest = ringDigest (theImage s) ∧ (stn s a.station).state = 3 then 3 else 2 } ∧
      t.net.outbox = (if a.digest = ringDigest (theImage s) then [] else
        [.ringConfig a.station (ringDigest (theImage s)) (stationBytes ((recOf (theImage s) 0x80 0).getD []) a.station
          (le ((recOf (theImage s) 0x80 0).getD []) 0 2) 16) (stationOasis (theImage s) a.station)]) ++
        .ringDiscover :: s.net.outbox) ∧
  (∀ (s : State) (a : Discovered) (n : Nat), discovers s = true → stationDef (theImage s) a.station = none →
    ∃ t, exec (.ringLinkUp [a] n) s = .next t ∧ t.md = s.md ∧ t.net.outbox = .ringDiscover :: s.net.outbox ∧
      stn t a.station = { stn s a.station with
        undeclared := true, position := a.position, state := 5
        hopA := tget 0 s.ring.speed (a.position - 1), hopB := tget 0 s.ring.speed a.position } ∧
      t.ev = recorded s n [(211, [w32 a.station])]) ∧
  (∀ (s : State) (a b : Discovered) (n : Nat), discovers s = true → (stationDef (theImage s) a.station).isSome = true →
    a.station = b.station →
    ∃ t, exec (.ringLinkUp [a, b] n) s = .next t ∧ t.md = s.md ∧ t.net.outbox = .ringDiscover :: s.net.outbox ∧
      stn t a.station = { stn s a.station with
        mismatch := true, position := b.position, state := 5
        hopA := tget 0 s.ring.speed (b.position - 1), hopB := tget 0 s.ring.speed b.position } ∧
      t.ev = recorded s n [(212, [w32 a.station, a.ident]), (212, [w32 b.station, b.ident])]) ∧
  (∀ (s : State) (k : Nat) (d : StationDef), stationDef (theImage s) k = some d → (stn s k).state = 2 →
    cycleTick d s.time.tick = true →
    ∃ t, exec (.stationJoin k) s = .next t ∧ t.md = s.md ∧ (∀ j, j ≠ k → stn t j = stn s j) ∧
      stn t k = { stn s k with state := 3, missed := 0, late := false, lastCycle := none, pendingFrame := none } ∧
      t.ev = (if s.md.mode = .load then s.ev else
        recorded s s.time.phase [(210, [w32 k, w32 (stn s k).position])])) ∧
  (∀ (s : State) (h : Nat) (gen2 gigabit : Bool) (n : Nat), s.ring.forwarding = true →
    ∃ t, exec (.hopSpeedNegotiated h gen2 gigabit n) s = .next t ∧ t.md = s.md ∧
      tget 0 t.ring.speed h = (if gen2 && gigabit then 2 else 1) ∧ h ∉ t.ring.hopsDown ∧
      (∀ j, j ≠ h → tget 0 t.ring.speed j = tget 0 s.ring.speed j ∧ (j ∈ t.ring.hopsDown ↔ j ∈ s.ring.hopsDown)) ∧
      t.ev = (if gen2 && !gigabit then recorded s n [(220, [w32 h])] else s.ev))

/-- CAN receive filters, transmit lists, cancel, error states and port commands (R462, R463, R464, R465, R466, R468,
R469, R470, R472, R473, R474, R477): The first matching filter takes a frame into its queue or slot. At a selection
point the due launch entry, else the FIFO head, goes on the bus; its end gives DONE with its stamp, a retry in its
place, a dropped or a cancelled frame. Cancels act as R469 says. Entries not started by their launch time plus
LATE_LIMIT leave with EV227. Errors move a controller to error-passive and bus-off; RECOVER and the flushes are the
port commands of R474. -/
def Obligations.CanFramesListsAndErrors : Prop :=
  (∀ (s : State) (f : CanFrame) (n k : Nat) (d : FilterDef), canListens s f.port = true →
    (filterDefs (theImage s)).find? (fun e => filterTakes e.2 f) = some (k, d) → d.slot = false →
    ∃ t l, exec (.canFrameReceived f n) s = .next t ∧ t.md = s.md ∧ tfind t.can.last k = some (frameRec s f) ∧ t.can.slot = s.can.slot ∧
      ((tget [] s.can.q k).length < d.depth → tget [] t.can.q k = tget [] s.can.q k ++ [frameRec s f] ∧
        (port t f.port).counters = bump (port s f.port).counters 1) ∧
      (d.depth ≤ (tget [] s.can.q k).length → t.can.q = s.can.q ∧
        (port t f.port).counters = bump (bump (port s f.port).counters 1) 3) ∧
      t.ev = recorded s n (l ++ if (tget [] s.can.q k).length < d.depth ∨ k ∈ s.can.qFull then [] else [(229, [w32 k])])) ∧
  (∀ (s : State) (f : CanFrame) (n k : Nat) (d : FilterDef), canListens s f.port = true →
    (filterDefs (theImage s)).find? (fun e => filterTakes e.2 f) = some (k, d) → d.slot = true →
    ∃ t, exec (.canFrameReceived f n) s = .next t ∧ t.md = s.md ∧ t.can.q = s.can.q ∧
      slotSt t d.dest = { slotSt s d.dest with last := some (frameRec s f), endNs := f.endNs, tick := s.time.tick } ∧
      (port t f.port).counters = bump (port s f.port).counters 1) ∧
  (∀ (s : State) (f : CanFrame) (n : Nat), canListens s f.port = true →
    (∀ e ∈ filterDefs (theImage s), filterTakes e.2 f = false) →
    ∃ t, exec (.canFrameReceived f n) s = .next t ∧ t.md = s.md ∧ t.can.q = s.can.q ∧ t.can.slot = s.can.slot ∧
      (port t f.port).counters = bump (bump (port s f.port).counters 1) 2) ∧
  (∀ (s : State) (k : Nat) (d : SlotDef), slotDef (theImage s) k = some d → d.tx = false →
    (slotSt s k).tick + d.period ≤ s.time.tick →
    ∃ t, exec (.canReceiveSlotTimeout k) s = .next t ∧ t.md = s.md ∧ t.ev = s.ev ∧
      slotSt t k = { slotSt s k with valid := false } ∧ ∀ j, j ≠ k → slotSt t j = slotSt s j) ∧
  (∀ (s : State) (h n p : Nat) (e : TxEntry), s.can.cancels.contains h = true → findEntry s h = some (p, e) →
    ∃ t, exec (.sysCanCancel h n) s = .next t ∧ t.md = s.md ∧ t.ev = s.ev ∧
      (isOnBus (port s p) e = true → (port t p).cancelOnBus = true ∧ (port t p).fifo = (port s p).fifo ∧
        (port t p).launch = (port s p).launch ∧ t.can.handle = s.can.handle) ∧
      (isOnBus (port s p) e = false → entryGone t p e ∧ (handleReads t h).state = 4 ∧ (handleReads t h).cancel = 1 ∧
        (port t p).counters = bump (port s p).counters 5)) ∧
  (∀ (s : State) (h n : Nat), s.can.cancels.contains h = true → findEntry s h = none →
    ∃ t, exec (.sysCanCancel h n) s = .next t ∧ t.md = s.md ∧ t.ev = s.ev ∧ t.can.p = s.can.p ∧
      handleReads t h = { handleReads s h with cancel := 3 }) ∧
  (∀ (s : State) (p n : Nat) (e : TxEntry), canSends s = true → (port s p).state ∈ [1, 2] → (port s p).onBus = none →
    lateEntries s p (isLate (setPhase s n) p) = [] → offered s p n = some e →
    ∃ t, exec (.canSelectionPoint p n) s = .next t ∧ t.md = s.md ∧ t.ev = s.ev ∧
      port t p = { port s p with onBus := some e, cancelOnBus := false } ∧
      (e.slot = none → (handleReads t e.req.handle).state = 2)) ∧
  (∀ (s : State) (p n : Nat), lateEntries s p (limitCome (setPhase s n) p) ≠ [] →
    ∃ t, exec (.canLaunchLate p n) s = .next t ∧ t.md = s.md ∧
      (port t p).launch = (port s p).launch.filter (fun e => !(limitCome (setPhase s n) p e && !isOnBus (port s p) e)) ∧
      (port t p).fifo = (port s p).fifo ∧
      (port t p).counters = bump (port s p).counters 4 (lateEntries s p (limitCome (setPhase s n) p)).length ∧
      (∀ e ∈ lateEntries s p (limitCome (setPhase s n) p), e.slot = none → (handleReads t e.req.handle).state = 5) ∧
      ((∀ e ∈ s.ev.intake, e.ev = 227 → e.arg.headD 0 ≠ w32 p) →
        t.ev = recorded s n [(227, [w32 p, w32 (lateEntries s p (limitCome (setPhase s n) p)).length])])) ∧
  (∀ (s : State) (p n : Nat), canSends s = true → (port s p).state ∈ [1, 2] → (port s p).onBus = none →
    ∃ t, exec (.canSelectionPoint p n) s = .next t ∧ t.md = s.md ∧ (port t p).fifo = (port s p).fifo ∧
      (port t p).launch = (port s p).launch.filter (fun e => !(isLate (setPhase s n) p e && !isOnBus (port s p) e)) ∧
      (lateEntries s p (isLate (setPhase s n) p) ≠ [] →
        (port t p).counters = bump (port s p).counters 4 (lateEntries s p (isLate (setPhase s n) p)).length)) ∧
  (∀ (s : State) (p ns : Nat) (frac : W16) (n : Nat) (e : TxEntry), (port s p).onBus = some e →
    ∃ t, exec (.canTransmitEnd p 0 ns frac n) s = .next t ∧ t.md = s.md ∧ (port t p).onBus = none ∧ entryGone t p e ∧
      (port t p).txErr = (if (port s p).state = 5 then (port s p).txErr else (port s p).txErr - 1) ∧
      (port t p).counters = (if (port s p).cancelOnBus then bump (bump (port s p).counters 0) 6
        else bump (port s p).counters 0) ∧
      (e.slot = none → (handleReads t e.req.handle).state = 3 ∧
        (handleReads t e.req.handle).stamp = some (canTxStamp s ns frac) ∧
        ((port s p).cancelOnBus = true → (handleReads t e.req.handle).cancel = 2)) ∧
      (∀ k, e.slot = some k →
        (slotSt t k).last = some ⟨canTxStamp s ns frac, p, e.req.flags &&& 0x1F, e.req.dlc, e.req.ident, e.req.data⟩)) ∧
  (∀ (s : State) (p ns : Nat) (frac : W16) (n : Nat) (e : TxEntry), (port s p).onBus = some e →
    ∃ t, exec (.canTransmitEnd p 1 ns frac n) s = .next t ∧ t.md = s.md ∧ (port t p).onBus = none ∧
      (port t p).state = (port s p).state ∧ (port t p).txErr = (port s p).txErr ∧
      (if (port s p).cancelOnBus then entryGone t p e ∧ t.ev = s.ev ∧
          (port t p).counters = bump (port s p).counters 5 ∧ (handleReads t e.req.handle).cancel = 1 ∧
          (e.slot = none → (handleReads t e.req.handle).state = 4)
        else if canSends s then (port t p).fifo = (port s p).fifo ∧ (port t p).launch = (port s p).launch ∧ t.ev = s.ev ∧
          (e.slot = none → (handleReads t e.req.handle).state = 1)
        else entryGone t p e ∧ (port t p).dropped = satAdd 32 (port s p).dropped 1 ∧
          (e.slot = none → (handleReads t e.req.handle).state = 6) ∧ t.ev = recorded s n [(230, [w32 p, 1])])) ∧
  (∀ (s : State) (p ns : Nat) (frac : W16) (n : Nat) (e : TxEntry), (port s p).onBus = some e →
    (port s p).state ∈ [1, 2] → (port s p).cancelOnBus = false → canSends s = true →
    ∃ t, exec (.canTransmitEnd p 2 ns frac n) s = .next t ∧ t.md = s.md ∧ (port t p).onBus = none ∧
      (port t p).fifo = (port s p).fifo ∧ (port t p).launch = (port s p).launch ∧
      (port t p).txErr = (port s p).txErr + 8 ∧ (e.slot = none → (handleReads t e.req.handle).state = 1) ∧
      (256 ≤ (port s p).txErr + 8 → (port t p).state = 3 ∧ (port t p).counters = bump (port s p).counters 7 ∧
        t.ev = recorded s n [(225, [w32 p, e.req.ident])]) ∧
      ((port s p).txErr + 8 < 256 → 128 ≤ (port s p).txErr + 8 → (port s p).state = 1 → (port t p).state = 2 ∧
        t.ev = recorded s n [(224, [w32 p, w32 ((port s p).txErr + 8), w32 (port s p).rxErr])])) ∧
  (∀ (s : State) (p k n : Nat), (port s p).state ∈ [1, 2] →
    ∃ t, exec (.canBusError p k n) s = .next t ∧ t.md = s.md ∧ (port t p).rxErr = (port s p).rxErr + k ∧
      (port t p).txErr = (port s p).txErr ∧ (∀ j, j ≠ p → port t j = port s j) ∧
      (128 ≤ (port s p).rxErr + k → (port t p).state = 2 ∧ t.ev = (if (port s p).state = 2 then s.ev else
        recorded s n [(224, [w32 p, w32 (port s p).txErr, w32 ((port s p).rxErr + k)])]))) ∧
  (∀ (s : State) (r : Req) (p : Nat), servedOutside s r (portObj p) = true → portGate s p = none → (port s p).state = 3 →
    ∃ t, exec (.canRecover r p) s = .next t ∧ answers s t r stDone ∧ t.md = s.md ∧ t.ev = s.ev ∧
      port t p = { port s p with state := 4 } ∧ ∀ j, j ≠ p → port t j = port s j) ∧
  (∀ (s : State) (p n : Nat), (port s p).state = 4 →
    ∃ t, exec (.canRecoveryComplete p n) s = .next t ∧ t.md = s.md ∧
      port t p = { port s p with state := 1, txErr := 0, rxErr := 0 } ∧ (∀ j, j ≠ p → port t j = port s j) ∧
      t.ev = recorded s n [(226, [w32 p])]) ∧
  (∀ (s : State) (r : Req) (p : Nat), servedOutside s r (portObj p) = true → portGate s p = none →
    (∃ t, exec (.flushFifo r p) s = .next t ∧ answers s t r stDone ∧ t.md = s.md ∧ t.ev = s.ev ∧ port t p = { port s p with
        fifo := (port s p).fifo.filter (isOnBus (port s p)), fifoFull := false } ∧
        ∀ e ∈ (port s p).fifo, e.slot = none → isOnBus (port s p) e = false → (handleReads t e.req.handle).state = 6) ∧
    (∃ t, exec (.flushLaunch r p) s = .next t ∧ answers s t r stDone ∧ t.md = s.md ∧ t.ev = s.ev ∧
      port t p = { port s p with launch := (port s p).launch.filter (isOnBus (port s p)), listFull := false } ∧
        ∀ e ∈ (port s p).launch, e.slot = none → isOnBus (port s p) e = false → (handleReads t e.req.handle).state = 6) ∧
    (∃ t, exec (.flushAll r p) s = .next t ∧ answers s t r stDone ∧ t.md = s.md ∧ t.ev = s.ev ∧ port t p = { port s p with
        fifo := (port s p).fifo.filter (isOnBus (port s p)), launch := (port s p).launch.filter (isOnBus (port s p))
        fifoFull := false, listFull := false } ∧
        ∀ e ∈ (port s p).fifo ++ (port s p).launch, e.slot = none → isOnBus (port s p) e = false →
          (handleReads t e.req.handle).state = 6))

/-- PTP measurements, jumps and time commands, LAN links, PRP peers and ARP repeats (R481, R484, R485, R487, R488,
R489, R491, R492, R494, R495, R496, R497): The offset by corrected stamps counts. Within JUMP_NS, with a servo that is
not FREE, a measurement feeds the servo, a new grandmaster with EV235, the lock with EV232; any other is discarded,
the fourth in a row is a jump with HOLDOVER, JUMP and EV234. In LOAD the fourth of a master sets time; a standby
monitors. Loss of the master is HOLDOVER with EV233. SLEW, STEP, REJECT and HALT_SLEW act as Table 15.5 says. Links
raise EV236 and EV237. -/
def Obligations.TimeFollowsItsMaster : Prop :=
  (∀ (s : State) (p : Nat) (gm : W64) (cls steps : Nat) (raw o : Int) (n : Nat), o = ptpOffset s p raw →
    ptpCounts s p gm cls = true → ptpBeyond s p gm o = false →
    ∃ t, exec (.ptpMeasurement p gm cls steps raw n) s = .next t ∧ t.md = s.md ∧ t.net = s.net ∧
      t.time.tick = s.time.tick ∧ t.time.ns = s.time.ns ∧ t.time.port = p ∧ t.time.gm = gm ∧ t.time.gmClass = cls ∧
      t.time.steps = steps ∧ t.time.offset = o ∧ t.time.goodRun = ptpGood s gm o ∧
      t.time.slavePort = p ∧ t.time.servo = (if 16 ≤ ptpGood s gm o then 1 else s.time.servo) ∧
      (ptpChange s gm = true → t.time.jump = false ∧ t.time.ignored = none) ∧
      t.ev = (if ptpChange s gm then recorded s n [(235, w64 gm.toNat)]
        else if 16 ≤ ptpGood s gm o ∧ s.time.servo ≠ 1 then recorded (servoAs s 1) n [(232, w32 p :: wOffset o)]
        else s.ev)) ∧
  (∀ (s : State) (p : Nat) (gm : W64) (cls steps : Nat) (raw : Int) (n : Nat), ptpCounts s p gm cls = true →
    ptpBeyond s p gm (ptpOffset s p raw) = true → ptpBad s gm < 4 →
    ∃ t, exec (.ptpMeasurement p gm cls steps raw n) s = .next t ∧ t.md = s.md ∧ t.ev = s.ev ∧
      t.time = { s.time with phase := n, badRun := ptpBad s gm, badGm := gm } ∧
      (t.net.lan.getD (p - 1) {}).counters = bump (s.net.lan.getD (p - 1) {}).counters 3) ∧
  (∀ (s : State) (p : Nat) (gm : W64) (cls steps : Nat) (raw o : Int) (n : Nat), o = ptpOffset s p raw →
    ptpCounts s p gm cls = true → ptpBeyond s p gm o = true → 4 ≤ ptpBad s gm →
    ∃ t, exec (.ptpMeasurement p gm cls steps raw n) s = .next t ∧ t.md = s.md ∧ t.time.servo = 2 ∧ t.time.jump = true ∧
      t.time.refused = o ∧ t.time.ignored = some gm ∧ t.time.tick = s.time.tick ∧ t.time.ns = s.time.ns ∧
      (t.net.lan.getD (p - 1) {}).counters = bump (s.net.lan.getD (p - 1) {}).counters 4 ∧
      t.ev = recorded (servoAs s 2) n ((if s.time.servo = 2 then [] else [(233, [Config.argCode 233 1])]) ++
        [(234, wOffset o ++ w64 gm.toNat)])) ∧
  (∀ (s : State) (p : Nat) (gm : W64) (cls steps : Nat) (raw o : Int) (n : Nat), o = ptpOffset s p raw →
    ptpRuns s p = true → s.md.mode = .load → s.time.set = false →
    ∃ t, exec (.ptpMeasurement p gm cls steps raw n) s = .next t ∧ t.md.mode = .load ∧ t.ev.intake = s.ev.intake ∧
      (if 3 ≤ ((s.time.seen.filter fun e => e.1 == gm).map fun e => e.2.2).sum then
        t.time.set = true ∧ t.time.gm = gm ∧ t.time.port = p ∧ t.time.tick = t.time.ns / tickNs ∧
          t.time.ns + t.time.phase = ((s.time.ns + n : Nat) - o : Int).toNat
        else t.time = { s.time with phase := n, seen := s.time.seen ++ [(gm, p, 1)] })) ∧
  (∀ (s : State) (p : Nat) (gm : W64) (cls steps : Nat) (raw o : Int) (n : Nat), o = ptpOffset s p raw →
    ptpRuns s p = true → s.md.role = .standby → s.md.mode ≠ .load → ptpSelects s p gm cls = true →
    ∃ t, exec (.ptpMeasurement p gm cls steps raw n) s = .next t ∧ t.md = s.md ∧ t.ev = s.ev ∧ t.time = { s.time with
      phase := n, monitor := some o, port := p, gm := gm, gmClass := cls, steps := steps, offset := o }) ∧
  (∀ (s : State) (n : Nat), s.md.powered = true → s.md.mode = .load ∨ evaluates s.md.mode = true → s.time.port ≠ 0 →
    ∃ t, exec (.announceTimeout n) s = .next t ∧ t.md = s.md ∧ t.time.port = 0 ∧ t.time.ns = s.time.ns ∧
      (s.md.role ≠ .standby → s.time.servo ∈ [0, 1] → t.time.servo = 2 ∧ t.time.holdFrom = s.time.tick ∧
        t.ev = recorded (servoAs s 2) n [(233, [Config.argCode 233 0])]) ∧
      (s.md.role = .standby ∨ s.time.servo ∉ [0, 1] → t.time.servo = s.time.servo ∧ t.ev = s.ev)) ∧
  (∀ (s : State) (n : Nat), s.md.powered = true → s.time.servo = 2 → (netNow s).clock = 1 →
    s.time.holdFrom + 28800000 ≤ s.time.tick →
    ∃ t, exec (.holdoverClockClassChange n) s = .next t ∧ t.md = s.md ∧ t.ev = s.ev ∧
      t.time = { s.time with phase := n, announced := 248 }) ∧
  (∀ (s : State) (r : Req) (rate : Nat), timeServed s r = true → timeBusy s = false → timeOpen s = true →
    evaluates s.md.mode = true → 1 ≤ rate → rate ≤ 100 →
    ∃ t, exec (.timeSlew r rate) s = .next t ∧ acceptedFor s t r timeObj ∧ t.md = s.md ∧ t.ev = s.ev ∧
      t.time = { s.time with
        phase := r.at_, servo := 3, jump := false, slewLeft := 8 * s.time.refused, slewRate := rate
        slewFrom := s.time.ns + r.at_, slewOrigin := some (originOf s r), goodRun := 0 }) ∧
  (∀ (s : State) (r : Req), timeServed s r = true → timeBusy s = false → timeOpen s = true → s.md.mode = .stop →
    ∃ t, exec (.timeStep r) s = .next t ∧ acceptedFor s t r timeObj ∧ t.md = s.md ∧ t.ev = s.ev ∧
      t.time = { s.time with phase := r.at_, stepDue := some (s.time.refused, some (originOf s r)) } ∧
      (s.md.role = .active → OutMsg.mortar (.step s.time.refused) ∈ t.net.outbox)) ∧
  (∀ (s : State) (r : Req), timeServed s r = true → timeBusy s = false → s.time.jump = true →
    ∃ t, exec (.timeReject r) s = .next t ∧ answers s t r stDone ∧ t.md = s.md ∧ t.ev = s.ev ∧
      t.time = { s.time with phase := r.at_, jump := false, rejected := true }) ∧
  (∀ (s : State) (r : Req), timeServed s r = true → s.time.servo = 3 →
    ∃ (t : State) (ms : List Mortar) (u : List OutMsg), exec (.haltSlew r) s = .next t ∧ t.md = s.md ∧ t.ev = s.ev ∧
      t.time = { s.time with
        phase := r.at_, servo := 2, jump := true, refused := s.time.slewLeft / 8, slewLeft := 0, slewOrigin := none
        holdFrom := s.time.tick } ∧
      t.net.outbox = ms.map OutMsg.mortar ++ OutMsg.response r.session r.seq stDone [] :: (u ++ s.net.outbox) ∧
      (∀ o, s.time.slewOrigin = some o → isOutstanding s o timeObj = true →
        u = [OutMsg.completion o.session o.seq timeObj (Config.finalCode 0x6002 0)])) ∧
  (∀ (s : State) (p n : Nat), s.md.powered = true → p ≤ 2 → (s.net.lan.getD p {}).up = true →
    ∃ t, exec (.lanLinkDown p n) s = .next t ∧ t.md = s.md ∧ (t.net.lan.getD p {}).up = false ∧
      (∀ q, q ≠ p → t.net.lan.getD q {} = s.net.lan.getD q {}) ∧ (recorded s n [(236, [w32 p])]).intake <+: t.ev.intake ∧
      (p = 2 ∨ (s.net.lan.getD (1 - p) {}).up = true → t.net.sess = s.net.sess ∧ t.time = { s.time with phase := n } ∧
        t.ev = recorded s n [(236, [w32 p])]) ∧
      (p < 2 → (s.net.lan.getD (1 - p) {}).up = false → (∀ e ∈ t.net.sess, e.2.iface ≠ 0) ∧ t.time.port = 0 ∧
        (s.md.role ≠ .standby → s.time.servo ∈ [0, 1] → (netNow s).profile ≠ 0 → t.time.servo = 2))) ∧
  (∀ (s : State) (p v n : Nat), s.md.powered = true → p ≤ 2 → p < s.net.lan.length → (s.net.lan.getD p {}).up = false →
    ∃ t, exec (.lanLinkUp p v n) s = .next t ∧ t.md = s.md ∧
      t.net.lan.getD p {} = { s.net.lan.getD p {} with up := true, speed := v } ∧
      (∀ q, q ≠ p → t.net.lan.getD q {} = s.net.lan.getD q {}) ∧ t.ev = recorded s n [(237, [w32 p, w32 v])]) ∧
  (∀ (s : State) (k : Nat) (l : List Nat) (n : Nat), s.md.powered = true → s.net.arp = k :: l → k ≤ s.time.tick →
    s.net.roleAddr = true →
    ∃ t, exec (.gratuitousArpRepeat n) s = .next t ∧ t.md = s.md ∧ t.ev = s.ev ∧
      t.net = { s.net with arp := l, outbox := .arp (netNow s).ipRole :: s.net.outbox }) ∧
  (∀ (s : State) (p m n : Nat), s.md.powered = true → s.ev.running = true → p ≤ 1 → (s.net.lan.getD p {}).up = true →
    ∃ t, exec (.prpSupervisionFrame p m n) s = .next t ∧ t.md = s.md ∧ t.ev = s.ev ∧
      m ∈ (t.net.lan.getD p {}).peers ∧ (∀ x, x ≠ m → (x ∈ (t.net.lan.getD p {}).peers ↔
        x ∈ (s.net.lan.getD p {}).peers)) ∧
      (t.net.lan.getD p {}).counters = bump (s.net.lan.getD p {}).counters 0)

/-- Sessions, object writes, subscriptions, event streams and reads, batches (R28, R484, R501, R502, R508, R510, R511,
R520, R523, R524, R525, R526): OPEN takes the lowest free index and the highest common generation, or is refused with
EV239; CLOSE and the idle timeout end a session. STREAM_EVENTS, SUBSCRIBE and the event read set the session's stream,
subscriptions and read position. A batch is refused as a whole with the first refused entry's code and index, or
applied in entry order. A write is refused for its object, access or size, or is its row's command. -/
def Obligations.SessionsAnswerTheirHosts : Prop :=
  (∀ (s : State) (iface : Nat) (role : Bool) (lo hi : Nat) (au : Option Nat) (q : W32) (n g i : Nat),
    canOpen s iface role = true →
    authenticated s iface au = true → commonGen lo hi = some g → freeSession s iface = some i →
    ∃ t, exec (.sessionOpen iface role lo hi au q n) s = .next t ∧ t.md = s.md ∧ t.ev = s.ev ∧
      (sess t i).open_ = true ∧ (sess t i).gen = g ∧ (sess t i).iface = iface ∧ (sess t i).role = role ∧
      (sess t i).waiting = [] ∧ (sess t i).subs = [] ∧ (sess t i).stream = none ∧ (sess t i).lastTick = s.time.tick ∧
      (∀ k, k ≠ i → sess t k = sess s k) ∧
      t.net.outbox = .response i q stDone (toLe 1 g ++ toLe 1 i ++ toLe 2 (hdrNode (theImage s).header) ++
        toLe 1 s.md.slot ++ [0, 0, 0]) :: s.net.outbox) ∧
  (∀ (s : State) (iface : Nat) (role : Bool) (lo hi : Nat) (au : Option Nat) (q : W32) (n : Nat),
    canOpen s iface role = true → authenticated s iface au = true → commonGen lo hi = none ∨ freeSession s iface = none →
    ∃ t, exec (.sessionOpen iface role lo hi au q n) s = .next t ∧ t.md = s.md ∧ t.net.sess = s.net.sess ∧
      t.net.outbox = .response noSession q (if commonGen lo hi = none then rfVersion else rfFull) [] :: s.net.outbox ∧
      t.ev = recorded s n [(239, [Config.argCode 239 (if commonGen lo hi = none then 0 else 1)])]) ∧
  (∀ (s : State) (r : Req), arrives s r = true →
    ∃ (t : State) (u : List OutMsg), exec (.sessionClose r) s = .next t ∧ t.md = s.md ∧ (sess t r.session).open_ = false ∧
      (∀ k, k ≠ r.session → { sess t k with waiting := (sess s k).waiting } = sess s k) ∧
      t.net.outbox = u ++ OutMsg.response r.session r.seq stDone [] :: s.net.outbox) ∧
  (∀ (s : State) (k : Nat), (sess s k).open_ = true → (sess s k).lastTick + 8000 * (netNow s).idleS ≤ s.time.tick →
    ∃ t, exec (.sessionIdleTimeout k) s = .next t ∧ t.md = s.md ∧ (sess t k).open_ = false ∧
      ∀ j, j ≠ k → { sess t j with waiting := (sess s j).waiting } = sess s j) ∧
  (∀ (s : State) (r : Req) (m : Byte) (q : W32), operates s r 2 streamObj = true → m.toNat ≤ 15 →
    (∃ t, exec (.streamEvents r 1 m q) s = .next t ∧ answers s t r stDone ∧ t.md = s.md ∧ t.ev = s.ev ∧
      (sess t r.session).stream = some (m, if q = 0xFFFFFFFF#32 then s.ev.next else max q.toNat (oldestSeq s)) ∧
      (sess t r.session).evPos = (sess s r.session).evPos ∧ (sess t r.session).subs = (sess s r.session).subs) ∧
    (∃ t, exec (.streamEvents r 0 m q) s = .next t ∧ answers s t r stDone ∧ t.md = s.md ∧ t.ev = s.ev ∧
      (sess t r.session).stream = none ∧ (sess t r.session).evPos = (sess s r.session).evPos)) ∧
  (∀ (s : State) (r : Req) (obj : W32) (n : Nat), operates s r 3 obj = true → (boundaryObject (touch s r) obj).isSome = true →
    (objAccess obj).isSome = true → 1 ≤ n → n ≤ 8000 →
    ((sess s r.session).subs.any fun b => b.object == obj) = true ∨ (sess s r.session).subs.length < 64 →
    (∃ t, exec (.subscribe r obj 1 n) s = .next t ∧ answers s t r stDone ∧ t.md = s.md ∧ t.ev = s.ev ∧
      (sess t r.session).subs = (if (sess s r.session).subs.any (fun b => b.object == obj) then
        (sess s r.session).subs.map fun b => if b.object = obj then { b with minTicks := n } else b
        else (sess s r.session).subs ++ [{ object := obj, minTicks := n }])) ∧
    (∃ t, exec (.subscribe r obj 0 n) s = .next t ∧ answers s t r stDone ∧ t.md = s.md ∧ t.ev = s.ev ∧
      (sess t r.session).subs = (sess s r.session).subs.filter fun b => b.object != obj)) ∧
  (∀ (s : State) (r : Req), servedRead s r 0xA0020000#32 = true →
    ∃ t, exec (.eventRecordsRead r) s = .next t ∧ t.md = s.md ∧ t.ev = s.ev ∧
      answers s t r stDone (((s.ev.buffer.filter fun e =>
        decide ((sess s r.session).evPos ≤ e.seq.toNat)).take 32).flatMap (recBytes s)) ∧
      (sess t r.session).stream = (sess s r.session).stream ∧
      ∀ e, ((s.ev.buffer.filter fun e => decide ((sess s r.session).evPos ≤ e.seq.toNat)).take 32).getLast? = some e →
        (sess t r.session).evPos = e.seq.toNat + 1) ∧
  (∀ (s : State) (r : Req) (l : List BatchEntry) (i x : Nat), batchServed s r l = true →
    batchRefusal (touch s r) l 0 = some (i, x) →
    ∃ t, exec (.batchWrite r l) s = .next t ∧ answers s t r x (toLe 2 i) ∧ t.md = s.md ∧ t.loops = s.loops ∧
      t.set = s.set ∧ t.crs = s.crs ∧ t.net.batches = s.net.batches ∧ t.ev = recorded s r.at_ [(9, [w32 x])]) ∧
  (∀ (s : State) (r : Req) (l : List BatchEntry), batchServed s r l = true → batchRefusal (touch s r) l 0 = none →
    l.all isManual = true →
    ∃ t, exec (.batchWrite r l) s = .next t ∧ answers s t r stDone ∧ t.md = s.md ∧ t.ev = s.ev ∧ t.set = s.set ∧
      ∀ c, loop t c = { loop s c with manual := lastManual c l (loop s c).manual }) ∧
  (∀ (s : State) (r : Req) (e : BatchEntry) (c m : Nat), batchServed s r [e] = true → batchRefusal (touch s r) [e] 0 = none →
    batchItem e = .loopMode c m →
    ∃ t, exec (.batchWrite r [e]) s = .next t ∧ acceptedFor s t r 0 ∧ t.md = s.md ∧ t.ev = s.ev ∧
      t.net.batches = ⟨originOf s r, 1⟩ :: s.net.batches ∧
      (loop2 t c).hostReq = (loop2 s c).hostReq ++ [(m, s.time.tick, originOf s r)]) ∧
  (∀ (s : State) (r : Req) (obj : W32) (d : Bytes), served s r obj = true → objAccess obj ∈ [none, some .ro, some .named] →
    ∃ t, exec (.objectWrite r obj d) s = .next t ∧
      answers s t r (if objAccess obj = none then rfObject else rfAccess) ∧ t.md = s.md ∧
      t.ev = recorded s r.at_ [(9, [w32 (if objAccess obj = none then rfObject else rfAccess)])] ∧
      t.loops = s.loops ∧ t.set = s.set ∧ t.crs = s.crs ∧ t.field = s.field ∧ t.can = s.can) ∧
  (∀ (s : State) (r : Req) (c : Nat) (d : Bytes), servedOutside s r (0x10030000#32 + w32 c) = true → c ≤ 127 →
    d.length = 8 → manualCheck (touch s r) c = none →
    ∃ t, exec (.objectWrite r (0x10030000#32 + w32 c) d) s = .next t ∧ answers s t r stDone ∧ t.md = s.md ∧ t.ev = s.ev ∧
      loop t c = { loop s c with manual := BitVec.ofNat 64 (le d 0 8) } ∧ 0x10030000#32 + w32 c ∈ t.net.touched ∧
      exec (.manualValueWrite r c (BitVec.ofNat 64 (le d 0 8))) s = .next t) ∧
  (∀ (s : State) (r : Req) (d : Bytes), served s r 0x02010000#32 = true → d.length ≠ 2 ∨ 256 ≤ le d 0 2 →
    ∃ t, exec (.objectWrite r 0x02010000#32 d) s = .next t ∧ answers s t r rfRange ∧ t.md = s.md ∧
      t.ev = recorded s r.at_ [(9, [w32 rfRange])] ∧ t.loops = s.loops ∧ t.crs = s.crs)

/-- The faults of Table 10.8 that a unit detects in itself end in HALT with everything dropped (R35, R347, R349, R532,
R577, R578): A lockstep mismatch (cause 1), an uncorrectable error outside bank 47 (cause 2, after EV241), a clock
monitor fault (cause 3) and a supply monitor fault (cause 4) put a powered module that is not in HALT or SEALED into
HALT: terminals, permits and ring outputs dropped, token released, EV032 with the cause, and the ABDICATE frame of a
module on a twin base while its management pair can act. A supply monitor fault with no feed in range switches the
rails off 40 ticks later. -/
def Obligations.AbdicationHaltsTheModule : Prop :=
  (∀ (s : State) (pair n : Nat), canAbdicate s = true → pair ≤ 2 →
    ∃ t, exec (.lockstepMismatch pair n) s = .next t ∧ abdicated s t 1 n [] ∧
      t.md.mgmtAlive = (s.md.mgmtAlive && pair != 2)) ∧
  (∀ (s : State) (b word n : Nat), canAbdicate s = true → b ≤ 48 → b ≠ 47 →
    ∃ t, exec (.uncorrectableEccError b word n) s = .next t ∧ abdicated s t 2 n [(241, [bankArg b, w32 word])]) ∧
  (∀ (s : State) (domain n : Nat), canAbdicate s = true → domain ≤ 12 →
    ∃ t, exec (.clockMonitorFault domain n) s = .next t ∧ abdicated s t 3 n [] ∧
      t.ring.forwarding = (s.ring.forwarding && domain != 8)) ∧
  (∀ (s : State) (n : Nat), canAbdicate s = true → (noFeed s = true → s.md.mode ≠ .kiln ∧ s.md.mode ≠ .load) →
    ∃ t, exec (.supplyMonitorFault n) s = .next t ∧ abdicated s t 4 n [] ∧
      (noFeed s = true → s.sup.railsOffAt = none → t.sup.railsOffAt = some (s.time.tick + 40)) ∧
      (noFeed s = false → t.sup = s.sup))

/-- Feeds, internal rails and die temperature (R577, R578, R590): A feed that leaves its band is no longer in range
(EV252 with its number and voltage) and is again when it returns (EV253). When the rails' tick has come the module is
without power, and what is not held in non-volatile stores is as before a power-on. EV254 marks a die at or above +100
°C, EV255 its fall below +95 °C. -/
def Obligations.SupplyAndTemperature : Prop :=
  (∀ (s : State) (feed : Nat) (v : F64) (n : Nat), s.md.powered = true → s.sup.inRange.getD feed false = true →
    ∃ t, exec (.logicFeedLow feed v n) s = .next t ∧ t.md = s.md ∧
      t.sup = { s.sup with inRange := lset s.sup.inRange feed false } ∧
      t.ev = recorded s n [(252, w32 feed :: wF64 v)]) ∧
  (∀ (s : State) (feed n : Nat), s.md.powered = true → s.sup.inRange.getD feed true = false →
    ∃ t, exec (.logicFeedRestored feed n) s = .next t ∧ t.md = s.md ∧
      t.sup = { s.sup with inRange := lset s.sup.inRange feed true } ∧ t.ev = recorded s n [(253, [w32 feed])]) ∧
  (∀ (s : State) (d : Nat), s.md.powered = true → s.sup.railsOffAt = some d → (s.md.ticking = true → d ≤ s.time.tick) →
    ∃ t, exec .internalRailsOff s = .next t ∧ atKilnEntry t ∧ t.md.powered = false ∧ t.btn = {} ∧ t.pair = {} ∧
      t.sup = { inRange := s.sup.inRange } ∧ t.kiln.fw = s.kiln.fw ∧ t.sec.identity = s.sec.identity ∧
      t.ev.key = s.ev.key) ∧
  (∀ (s : State) (c : Int) (n : Nat), s.md.powered = true → s.sup.hot = false → 100 ≤ c →
    ∃ t, exec (.dieTemperatureWarning c n) s = .next t ∧ t.md = s.md ∧ t.sup = { s.sup with hot := true } ∧
      t.ev = recorded s n [(254, [])]) ∧
  (∀ (s : State) (c : Int) (n : Nat), s.md.powered = true → s.sup.hot = true → c < 95 →
    ∃ t, exec (.dieTemperatureWarning c n) s = .next t ∧ t.md = s.md ∧ t.sup = { s.sup with hot := false } ∧
      t.ev = recorded s n [(255, [])])

/-- Corrected memory errors (R532, R533, R542): A corrected error counts for its kind of memory and its bank and
raises EV240 with bank and word, unless the bank's last EV240 lies less than 8,000 ticks back. A whole scrub pass is
noted with its tick, and the errors it found follow the same rule. -/
def Obligations.MemoryErrorsAreCountedPerBank : Prop :=
  (∀ (s : State) (b word n : Nat), s.md.powered = true → b ≤ 48 →
    ∃ t, exec (.singleBitCorrection b word n) s = .next t ∧ t.md = s.md ∧
      tget 0 t.sec.corrections b = min (tget 0 s.sec.corrections b + 1) (2 ^ 32 - 1) ∧
      (∀ j, j ≠ b → tget 0 t.sec.corrections j = tget 0 s.sec.corrections j) ∧
      t.sec.counters = (secCount s (memoryKind b)).sec.counters ∧
      t.ev = if (tfind s.sec.lastEv240 b).any (fun d => decide (s.time.tick < d + 8000)) then s.ev
        else recorded s n [(240, [bankArg b, w32 word])]) ∧
  (∀ (s : State) (b : Nat) (words : List Nat) (n : Nat), s.md.powered = true → b ≤ 48 →
    ∃ t, exec (.scrubPass b words n) s = .next t ∧ t.md = s.md ∧
      t.sec.scrubbed = tset s.sec.scrubbed b s.time.tick ∧
      (words = [] → t.sec.corrections = s.sec.corrections) ∧
      (words ≠ [] → tget 0 t.sec.corrections b = min (tget 0 s.sec.corrections b + words.length) (2 ^ 32 - 1)))

/-- Environmental wipes, intrusions and the reload of the identity key (R532, R538, R539, R542): An environmental wipe
(causes 4 to 7, EV243) and an uncorrectable error in bank 47 (cause 7) take the identity key out of bank 47, end every
session, and keep the key store. An intrusion erases identity key, image signers and authorities and sets the latch,
with EV242; without power it waits for the next power-on. The identity key returns with EV244 8,000 ticks after the
condition's last presence. -/
def Obligations.SecureBankIsWiped : Prop :=
  (∀ (s : State) (cause n : Nat), s.md.powered = true → 4 ≤ cause → cause ≤ 7 →
    ∃ t, exec (.environmentalWipe cause n) s = .next t ∧ bankWiped t cause ∧ t.md = s.md ∧
      t.sec.identity = s.sec.identity ∧ t.sec.envFrom = some s.time.tick ∧
      (recorded s n [(243, [w32 cause])]).intake <+: t.ev.intake) ∧
  (∀ (s : State) (word n : Nat), s.md.powered = true →
    ∃ t, exec (.uncorrectableEccError 47 word n) s = .next t ∧ bankWiped t 7 ∧ t.md = s.md ∧
      t.sec.identity = s.sec.identity ∧ (recorded s n [(243, [w32 7])]).intake <+: t.ev.intake) ∧
  (∀ (s : State) (mesh : Bool) (n : Nat), s.md.powered = true →
    ∃ t, exec (.intrusion mesh n) s = .next t ∧ bankWiped t (if mesh then 3 else 2) ∧ t.md = s.md ∧
      t.sec.identity = [] ∧ t.sec.signers = [] ∧ t.sec.authorities = [] ∧ t.sec.intruded = true ∧
      (s.ev.running = false → t.sec.ev242Due = s.sec.ev242Due ++ [(mesh, true)]) ∧
      (s.ev.running = true → ∃ e ∈ t.ev.intake, e.ev = 242 ∧ e.stamp = s.time.ns + n)) ∧
  (∀ (s : State) (mesh : Bool) (n : Nat), s.md.powered = false → s.sec.unpowered = none →
    ∃ t, exec (.intrusion mesh n) s = .next t ∧ t = { s with sec := { s.sec with unpowered := some mesh } }) ∧
  (∀ (s : State) (d n : Nat), s.md.powered = true → s.sec.envFrom = some d → d + 8000 ≤ s.time.tick →
    ∃ t, exec (.identityKeyReload n) s = .next t ∧ t.md = s.md ∧ t.ev = recorded s n [(244, [])] ∧
      t.sec = { s.sec with envFrom := none, loaded := !s.sec.identity.isEmpty })

/-- Enrolments wait 30 s for the press (R514, R540, R541, R542): An enrolment write that the rules of R541 do not
refuse is answered ACCEPTED and waits until 240,000 ticks later; nothing is stored before a press. When that tick has
passed, it completes with REFUSED_ACCESS, EV246 is raised, and nothing is stored. -/
def Obligations.EnrolmentWaitsForThePress : Prop :=
  (∀ (s : State) (r : Req) (slot : Nat) (d : Bytes), servedOutside s r (w32 (0x01100030 + slot)) = true → slot ≤ 3 →
    enrolRefusal (touch s r) r true slot d = none →
    ∃ t, exec (.signerEnrol r slot d) s = .next t ∧ acceptedFor s t r (w32 (0x01100030 + slot)) ∧ t.md = s.md ∧
      t.sec = { s.sec with enrol := some ⟨originOf s r, true, slot, d, s.time.tick + 240000⟩ }) ∧
  (∀ (s : State) (r : Req) (slot : Nat) (d : Bytes), servedOutside s r (w32 (0xC0030010 + slot)) = true → slot ≤ 3 →
    enrolRefusal (touch s r) r false slot d = none →
    ∃ t, exec (.authorityEnrol r slot d) s = .next t ∧ acceptedFor s t r (w32 (0xC0030010 + slot)) ∧ t.md = s.md ∧
      t.sec = { s.sec with enrol := some ⟨originOf s r, false, slot, d, s.time.tick + 240000⟩ }) ∧
  (∀ (s : State) (e : EnrolSt) (obj : W32), s.sec.enrol = some e → e.deadline < s.time.tick →
    isOutstanding s e.origin obj = true →
    ∃ t, exec .enrolmentTimeout s = .next t ∧ t.md = s.md ∧ t.sec = { s.sec with enrol := none } ∧
      t.net.outbox = .completion e.origin.session e.origin.seq obj rfAccess :: s.net.outbox ∧
      t.ev = recorded s s.time.phase [(246, [w32 e.slot])])

/-- The annunciator's frame pairs, temperature, crack loop and lamp test, and the fault journal's blocks (R547, R553,
R554, R555, R558, R559, R561, R569, R570, R571, R572): A frame-pair boundary releases the panel, or takes band and
bias in force, decides the pixels and starts a pair with them, or inserts compensation frames, corrects the ledger by
them and then shows the pixels decided before. Three readings move the band with EV251; a reading out of range is an
NTC fault with EV250. Three crack loop readings make the panel MARGINAL or UNTRUSTED. A due journal block closes; a
written one takes the next JSEQ, a failed read-back skips one with EV018. -/
def Obligations.PanelAndJournalRecordConditions : Prop :=
  (∀ (s : State) (n : Nat), panelPair s = true → s.panel.comp = 0 → s.panel2.mapDue = none → s.panel2.map ≠ [] →
    compFrames (bandDef s.panel2.map (s.panel.decided.getD s.panel.band)) s.panel.ledger = 0 →
    ∃ t, exec (.framePairBoundary n) s = .next t ∧ t.md = s.md ∧ t.ev = s.ev ∧
      t.panel2 = { s.panel2 with pairAt := s.time.tick * tickNs + n } ∧
      t.panel.driving = true ∧ t.panel.starting = false ∧ t.panel.inPair = true ∧ t.panel.comp = 0 ∧
      t.panel.ledger = s.panel.ledger ∧ t.panel.band = s.panel.decided.getD s.panel.band ∧ t.panel.decided = none ∧
      t.panel.bias = mapBias s.panel2.map ∧ t.panel.shown = litPixels t ∧ t.panel.lampDue = false ∧
      (s.panel.lampDue = true → t.panel.lampUntil = some (s.time.tick + 16000))) ∧
  (∀ (s : State) (n : Nat), panelPair s = true → s.panel.comp = 0 → s.panel2.mapDue = none → s.panel2.map ≠ [] →
    0 < compFrames (bandDef s.panel2.map (s.panel.decided.getD s.panel.band)) s.panel.ledger →
    ∃ t, exec (.framePairBoundary n) s = .next t ∧ t.md = s.md ∧ t.ev = s.ev ∧ t.panel.inPair = false ∧
      t.panel.shown = [] ∧ t.panel2.next = decidePixels (setPhase s n) ∧ t.panel.driving = true ∧
      t.panel.ledger = s.panel.ledger ∧ t.panel.band = s.panel.decided.getD s.panel.band ∧
      t.panel.comp = compFrames (bandDef s.panel2.map (s.panel.decided.getD s.panel.band)) s.panel.ledger) ∧
  (∀ (s : State) (n : Nat), panelPair s = true → s.panel.comp ≠ 0 →
    ∃ t, exec (.framePairBoundary n) s = .next t ∧ t.md = s.md ∧ t.panel.inPair = true ∧ t.panel.comp = 0 ∧
      t.panel.ledger = compensated (bandDef s.panel2.map s.panel.band) s.panel.comp s.panel.ledger ∧
      t.panel.shown = s.panel2.next ∧ t.panel2.counters = bump s.panel2.counters 1 s.panel.comp ∧
      t.ev = (if ledgerWithin ledgerAlarm t.panel.ledger then s.ev else recorded s n [(250, [3])])) ∧
  (∀ (s : State) (n : Nat), s.panel.driving = true → s.panel2.releasing = true →
    ∃ t, exec (.framePairBoundary n) s = .next t ∧ t.md = s.md ∧ t.ev = s.ev ∧ t.panel2.releasing = false ∧ t.panel2.releasedAt = some s.time.tick ∧
      t.panel = { s.panel with
        driving := false, inPair := false, comp := 0, shown := [], lampUntil := none, lampDue := false }) ∧
  (∀ (s : State) (x : Int) (n : Nat), panelServed s = true → -500 ≤ x → x ≤ 1000 → callsUp s x = true →
    callsDown s x = false →
    ∃ t, exec (.ntcRead x n) s = .next t ∧ t.md = s.md ∧ t.panel.band = s.panel.band ∧ t.panel.temp = x ∧
      t.panel.ntcFault = false ∧ t.panel.fall = 0 ∧
      (s.panel.rise < 2 → t.panel.rise = s.panel.rise + 1 ∧ t.panel.decided = s.panel.decided ∧ t.ev = s.ev) ∧
      (2 ≤ s.panel.rise → t.panel.rise = 0 ∧ t.panel.decided = some (s.panel.decided.getD s.panel.band + 1) ∧
        t.ev = recorded s n [(251, [w32 (s.panel.decided.getD s.panel.band),
          w32 (s.panel.decided.getD s.panel.band + 1)] ++ wF64 (fDiv (fOfInt x) (fOfInt 10)))])) ∧
  (∀ (s : State) (x : Int) (n : Nat), panelServed s = true → -500 ≤ x → x ≤ 1000 → callsUp s x = false →
    callsDown s x = true →
    ∃ t, exec (.ntcRead x n) s = .next t ∧ t.md = s.md ∧ t.panel.band = s.panel.band ∧ t.panel.temp = x ∧
      t.panel.ntcFault = false ∧ t.panel.rise = 0 ∧
      (s.panel.fall < 2 → t.panel.fall = s.panel.fall + 1 ∧ t.panel.decided = s.panel.decided ∧ t.ev = s.ev) ∧
      (2 ≤ s.panel.fall → t.panel.fall = 0 ∧ t.panel.decided = some (s.panel.decided.getD s.panel.band - 1) ∧
        t.ev = recorded s n [(251, [w32 (s.panel.decided.getD s.panel.band),
          w32 (s.panel.decided.getD s.panel.band - 1)] ++ wF64 (fDiv (fOfInt x) (fOfInt 10)))])) ∧
  (∀ (s : State) (x : Int) (n : Nat), panelServed s = true → x < -500 ∨ 1000 < x →
    ∃ t, exec (.ntcRead x n) s = .next t ∧ t.md = s.md ∧
      t.panel = { s.panel with ntcFault := true, rise := 0, fall := 0 } ∧
      t.ev = (if s.panel.ntcFault then s.ev else recorded s n [(250, [2])])) ∧
  (∀ (s : State) (ohms mv n : Nat), s.panel.driving = true →
    ∃ t, exec (.crackLoopMeasure ohms mv n) s = .next t ∧ t.md = s.md ∧ t.panel.ohms = ohms ∧
      t.panel.loopKind = loopOutcome ohms mv ∧ t.panel.loopRun = loopRunNow s (loopOutcome ohms mv) ∧
      t.panel.validRun = (if loopOutcome ohms mv = 0 then s.panel.validRun + 1 else 0) ∧
      (loopRunNow s (loopOutcome ohms mv) < 3 → t.ev = s.ev ∧ t.panel.marginal = s.panel.marginal ∧
        t.panel.untrusted = s.panel.untrusted) ∧
      (3 ≤ loopRunNow s (loopOutcome ohms mv) → loopOutcome ohms mv ≤ 1 → t.panel.untrusted = s.panel.untrusted ∧
        t.panel.marginal = decide (loopOutcome ohms mv = 1) ∧
        t.ev = (if loopOutcome ohms mv = 1 ∧ s.panel.marginal = false then recorded s n [(250, [1])] else s.ev)) ∧
      (3 ≤ loopRunNow s (loopOutcome ohms mv) → 2 ≤ loopOutcome ohms mv → (s.panel.untrusted && s.panel.crackCause == loopOutcome ohms mv - 1) = false →
        t.panel.untrusted = true ∧ t.panel.marginal = false ∧
        t.panel.crackCause = loopOutcome ohms mv - 1 ∧
        t.ev = recorded s n [(248, w32 (loopOutcome ohms mv - 1) :: wF64 (fOfInt ohms))])) ∧
  (∀ (s : State) (r : Req), servedOutside s r 0xD0050000#32 = true → inControl s = true → s.panel.driving = true →
    ∃ t, exec (.lampTest r) s = .next t ∧ answers s t r stDone ∧ t.md = s.md ∧ t.ev = s.ev ∧
      t.panel = { s.panel with lampDue := true }) ∧
  (∀ (s : State) (n : Nat), journals s = true → blockDue s = true → s.kiln.keyPresent = true ∨ s.ev.held.length < 64 →
    ∃ t, exec (.journalBlockClose n) s = .next t ∧ t.md = s.md ∧
      t.ev.held = s.ev.held ++ [{ recs := s.ev.open_.take 126 }] ∧ t.ev.open_ = s.ev.open_.drop 126 ∧
      t.ev.intake = s.ev.intake ∧ t.ev.lost = s.ev.lost ∧ t.ev.key = s.ev.key ∧ t.ev.jseq = s.ev.jseq) ∧
  (∀ (s : State) (n : Nat), journals s = true → blockDue s = true → s.kiln.keyPresent = false → s.ev.held.length = 64 →
    ∃ t, exec (.journalBlockClose n) s = .next t ∧ t.md = s.md ∧
      t.ev.held = s.ev.held.drop 1 ++ [{ recs := s.ev.open_.take 126 }] ∧ t.ev.gapDue = true ∧
      t.ev.lost = s.ev.lost + (s.ev.held.headD {}).recs.length ∧
      t.ev.intake = (if s.ev.dropped then s.ev.intake else (recorded s n [(20, [w32 t.ev.lost])]).intake)) ∧
  (∀ (s : State) (n : Nat) (b : JBlock) (l : List JBlock), s.ev.held = b :: l → s.ev.writing = true →
    s.kiln.keyPresent = true →
    (∃ t, exec (.journalWriteComplete true n) s = .next t ∧ t.md = s.md ∧ t.ev.held = l ∧ t.ev.jseq = s.ev.jseq + 1 ∧
      t.ev.writing = !l.isEmpty ∧ t.ev.gapDue = false ∧ t.ev.lost = 0 ∧ t.ev.intake = s.ev.intake ∧
      t.ev.key = eraseBlock s.ev.key s.ev.jseq ++ [{ b with
        jseq := s.ev.jseq, serial := Config.serialNumber, gap := s.ev.gapDue, lost := s.ev.lost, startNo := s.ev.startNo }]) ∧
    (∃ t, exec (.journalWriteComplete false n) s = .next t ∧ t.md = s.md ∧ t.ev.held = b :: l ∧
      t.ev.key = eraseBlock s.ev.key s.ev.jseq ∧
      t.ev.jseq = s.ev.jseq + 1 ∧ t.ev.intake = (recorded s n [(18, w64 s.ev.jseq)]).intake))
end

