-- ==== Sys2Proof/Laws/Ops.lean ====
section
/-! SUPPORT. What the shared operations do: one lemma each, to cite instead of unfolding them. -/

namespace Sys2Proof.Machine

/-! ### Tables -/

@[simp] theorem tget_tset_self {α : Type} (d : α) (t : Tab α) (k : Nat) (v : α) : tget d (tset t k v) k = v := by
  induction t with
  | nil => simp [tset, tget]
  | cons e t ih => grind [tset, tget]

theorem tget_tset_ne {α : Type} (d : α) (t : Tab α) (k j : Nat) (v : α) (h : j ≠ k) :
    tget d (tset t k v) j = tget d t j := by
  induction t with
  | nil => grind [tset, tget]
  | cons e t ih => grind [tset, tget]

/-! ### Events -/

@[simp] theorem raiseAt_loops (s : State) (st ev : Nat) (arg : List W32) :
    (raiseAt s st ev arg).loops.l = s.loops.l ∧ (raiseAt s st ev arg).loops.m = s.loops.m ∧
    (raiseAt s st ev arg).loops.t = s.loops.t ∧ (raiseAt s st ev arg).loops.inj = s.loops.inj ∧
    (raiseAt s st ev arg).loops.laneLoad = s.loops.laneLoad ∧ (raiseAt s st ev arg).loops.laneNow = s.loops.laneNow ∧
    (raiseAt s st ev arg).loops.loaded = s.loops.loaded ∧ (raiseAt s st ev arg).loops.pos = s.loops.pos ∧
    (raiseAt s st ev arg).loops.cap.state = s.loops.cap.state ∧
    (raiseAt s st ev arg).loops.cap.cause = s.loops.cap.cause ∧
    (raiseAt s st ev arg).loops.cap.config = s.loops.cap.config ∧
    (raiseAt s st ev arg).loops.cap.rows = s.loops.cap.rows ∧ (raiseAt s st ev arg).time = s.time := by
  unfold raiseAt
  dsimp only
  (repeat' split) <;> simp

/-- An event is noted by the event controller with the vessel time and quality of its detection, and nothing else of the
controller changes (R50, R566). -/
@[simp] theorem raiseAt_ev (s : State) (st ev : Nat) (arg : List W32) : (raiseAt s st ev arg).ev =
    if s.ev.running then
      { s.ev with intake := s.ev.intake ++ [{ stamp := st, ev := ev, arg := arg.take 4, quality := timeQuality s }] }
    else s.ev := by
  unfold raiseAt
  dsimp only
  (repeat' split) <;> simp_all

@[simp] theorem raise_loops (s : State) (ev : Nat) (arg : List W32) :
    (raise s ev arg).loops.l = s.loops.l ∧ (raise s ev arg).loops.m = s.loops.m ∧
    (raise s ev arg).loops.t = s.loops.t ∧ (raise s ev arg).loops.inj = s.loops.inj ∧
    (raise s ev arg).loops.laneLoad = s.loops.laneLoad ∧ (raise s ev arg).loops.laneNow = s.loops.laneNow ∧
    (raise s ev arg).loops.loaded = s.loops.loaded ∧ (raise s ev arg).loops.pos = s.loops.pos ∧
    (raise s ev arg).loops.cap.state = s.loops.cap.state ∧ (raise s ev arg).loops.cap.cause = s.loops.cap.cause ∧
    (raise s ev arg).loops.cap.config = s.loops.cap.config ∧ (raise s ev arg).loops.cap.rows = s.loops.cap.rows ∧
    (raise s ev arg).time = s.time := raiseAt_loops s (vtime s) ev arg

@[simp] theorem raise_ev (s : State) (ev : Nat) (arg : List W32) :
    (raise s ev arg).ev = recorded s s.time.phase [(ev, arg)] := by
  simp [raise, recorded, vtime]

@[simp] theorem evCore_intake (e : EventSt) (l : List EvRec) : evCore { e with intake := l } = evCore e := rfl

@[simp] theorem evCore_recorded (s : State) (ph : Nat) (evs : List (Nat × List W32)) :
    evCore (recorded s ph evs) = evCore s.ev := by
  unfold recorded
  split <;> rfl

@[simp] theorem recorded_fields (s : State) (ph : Nat) (evs : List (Nat × List W32)) :
    (recorded s ph evs).running = s.ev.running ∧ (recorded s ph evs).buffer = s.ev.buffer ∧
    (recorded s ph evs).next = s.ev.next ∧ (recorded s ph evs).unacked = s.ev.unacked ∧
    (recorded s ph evs).src = s.ev.src ∧ (recorded s ph evs).open_ = s.ev.open_ ∧
    (recorded s ph evs).openTick = s.ev.openTick ∧ (recorded s ph evs).held = s.ev.held ∧
    (recorded s ph evs).writing = s.ev.writing ∧ (recorded s ph evs).ready = s.ev.ready ∧
    (recorded s ph evs).gap = s.ev.gap ∧ (recorded s ph evs).gapDue = s.ev.gapDue ∧
    (recorded s ph evs).lost = s.ev.lost ∧ (recorded s ph evs).dropped = s.ev.dropped ∧
    (recorded s ph evs).jseq = s.ev.jseq ∧ (recorded s ph evs).startNo = s.ev.startNo ∧
    (recorded s ph evs).key = s.ev.key ∧ (recorded s ph evs).newest = s.ev.newest ∧
    (recorded s ph evs).keyRehearsed = s.ev.keyRehearsed ∧ (recorded s ph evs).rehearsed = s.ev.rehearsed ∧
    (recorded s ph evs).prepare = s.ev.prepare := by
  unfold recorded
  split <;> simp

/-! ### Messages -/

@[simp] theorem sess_setSess_self (s : State) (i : Nat) (x : SessSt) : sess (setSess s i x) i = x := by
  simp [sess, setSess]

/-- The net part with messages sent on the Cerhar link, and the lanes that carry them (R336, R337, R341). -/
def linkNet (n : NetSt) (ms : List OutMsg) (lo : List LaneOut) (lf : List LinkFrame) (k : Nat) : NetSt :=
  { n with outbox := ms ++ n.outbox, laneOut := lo, linkFrames := lf, mortarSent := k }

/-- A lane that runs changes nothing but what it carries. -/
theorem linkRun_eq (s : State) (lane : Nat) : ∃ lo lf, linkRun s lane =
    { s with net := linkNet s.net [] lo lf s.net.mortarSent } := ⟨_, _, rfl⟩

theorem lanePut_eq (s : State) (lane order bytes : Nat) : ∃ lo lf, lanePut s lane order bytes =
    { s with net := linkNet s.net [] lo lf s.net.mortarSent } := ⟨_, _, rfl⟩

theorem lanePuts_eq (order bytes : Nat) (l : List Nat) (s : State) : ∃ lo lf,
    l.foldl (fun s k => lanePut s k order bytes) s = { s with net := linkNet s.net [] lo lf s.net.mortarSent } := by
  induction l generalizing s with
  | nil => exact ⟨s.net.laneOut, s.net.linkFrames, rfl⟩
  | cons k l ih =>
    obtain ⟨lo1, lf1, h1⟩ := lanePut_eq s k order bytes
    obtain ⟨lo2, lf2, h2⟩ := ih (lanePut s k order bytes)
    exact ⟨lo2, lf2, by rw [List.foldl_cons, h2, h1]; rfl⟩

/-- A message on the link: it leaves, and the lanes carry it (R336). -/
theorem sendLink_eq (s : State) (order bytes : Nat) (m : OutMsg) : ∃ lo lf k, sendLink s order bytes m =
    { s with net := linkNet s.net [m] lo lf k } := by
  unfold sendLink
  obtain ⟨lo, lf, h⟩ := lanePuts_eq order bytes (lanesFor _ order) _
  exact ⟨lo, lf, _, by rw [h]; rfl⟩

/-- Sending mortar: at most one mortar message leaves, and the lanes carry it. -/
theorem sendMortarAt_eq (order : Nat) (s : State) (m : Mortar) : ∃ (ms : List Mortar) (lo : List LaneOut)
    (lf : List LinkFrame) (k : Nat), sendMortarAt order s m = { s with net := linkNet s.net (ms.map .mortar) lo lf k } := by
  unfold sendMortarAt
  split
  · obtain ⟨lo, lf, k, h⟩ := sendLink_eq s order (mortarBytes m) (.mortar m)
    exact ⟨[m], lo, lf, k, h⟩
  · exact ⟨[], s.net.laneOut, s.net.linkFrames, s.net.mortarSent, rfl⟩

@[simp] theorem sendMortar_ev (s : State) (m : Mortar) : (sendMortar s m).ev = s.ev := by
  obtain ⟨ms, lo, lf, k, h⟩ := sendMortarAt_eq 4 s m
  rw [sendMortar, h]

/-- `t` differs from `s` in mortar messages sent, in what the lanes carry, and in what the module keeps of them. -/
def MortarSent (s t : State) : Prop :=
  ∃ (ms : List Mortar) (lo : List LaneOut) (lf : List LinkFrame) (k : Nat) (n : ChangeSent), t =
    { s with net := linkNet s.net (ms.map .mortar) lo lf k, mortar := { s.mortar with sent := n } }

theorem MortarSent.refl (s : State) : MortarSent s s :=
  ⟨[], s.net.laneOut, s.net.linkFrames, s.net.mortarSent, s.mortar.sent, rfl⟩

theorem MortarSent.sent {s t : State} (h : MortarSent s t) (order : Nat) (m : Mortar) :
    MortarSent s (sendMortarAt order t m) := by
  obtain ⟨a, lo, lf, k, n, rfl⟩ := h
  obtain ⟨b, lo', lf', k', h'⟩ := sendMortarAt_eq order
    { s with net := linkNet s.net (a.map .mortar) lo lf k, mortar := { s.mortar with sent := n } } m
  exact ⟨b ++ a, lo', lf', k', n, by rw [h']; simp [linkNet]⟩

theorem MortarSent.one {s t : State} (h : MortarSent s t) (order : Nat) (b : Bool) (m : Mortar) :
    MortarSent s (if b = true then t else sendMortarAt order t m) := by
  split
  · exact h
  · exact h.sent order m

theorem MortarSent.tab {α : Type} [BEq α] {s t : State} (h : MortarSent s t) (order : Nat) (now sent : Tab α)
    (f : Nat → α → Mortar) : MortarSent s (sendTab order t now sent f) := by
  unfold sendTab
  induction now generalizing t with
  | nil => exact h
  | cons e l ih =>
    rw [List.foldl_cons]
    exact ih (h.one order _ _)

theorem MortarSent.kept {s t : State} (h : MortarSent s t) (n : ChangeSent) :
    MortarSent s { t with mortar := { t.mortar with sent := n } } := by
  obtain ⟨a, lo, lf, k, _, rfl⟩ := h
  exact ⟨a, lo, lf, k, n, rfl⟩

/-- What on-change mortar does: mortar messages leave, and the module keeps what it has sent (R339). -/
theorem sendItems_sent (order : Nat) (s : State) : MortarSent s (sendItems order s) := by
  refine MortarSent.kept (.tab (.tab (.tab ?_ _ _ _ _) _ _ _ _) _ _ _ _) _
  exact (((((((MortarSent.refl s).one _ _ _).one _ _ _).one _ _ _).one _ _ _).one _ _ _).one _ _ _)

theorem sendChanges_sent (s : State) : MortarSent s (sendChanges s) := by
  unfold sendChanges
  split
  · exact .refl s
  · exact sendItems_sent 4 s

/-! ### Requests -/

@[simp] theorem sess_touch (s : State) (r : Req) :
    sess (touch s r) r.session = { sess s r.session with lastTick := s.time.tick } := by
  simp [touch]

theorem touch_eq (s : State) (r : Req) : touch s r =
    { s with
      time := { s.time with phase := r.at_ }
      net := { s.net with sess := tset s.net.sess r.session { sess s r.session with lastTick := s.time.tick } } } := rfl

@[simp] theorem touch_pending (s : State) (r : Req) : (touch s r).pending = s.pending := rfl
@[simp] theorem touch_md (s : State) (r : Req) : (touch s r).md = s.md := rfl
@[simp] theorem touch_btn (s : State) (r : Req) : (touch s r).btn = s.btn := rfl
@[simp] theorem touch_kiln (s : State) (r : Req) : (touch s r).kiln = s.kiln := rfl
@[simp] theorem touch_set (s : State) (r : Req) : (touch s r).set = s.set := rfl
@[simp] theorem touch_crs (s : State) (r : Req) : (touch s r).crs = s.crs := rfl
@[simp] theorem touch_exch (s : State) (r : Req) : (touch s r).exch = s.exch := rfl
@[simp] theorem touch_tickets (s : State) (r : Req) : (touch s r).tickets = s.tickets := rfl
@[simp] theorem touch_lastTicket (s : State) (r : Req) : (touch s r).lastTicket = s.lastTicket := rfl
@[simp] theorem touch_loops (s : State) (r : Req) : (touch s r).loops = s.loops := rfl
@[simp] theorem touch_solver (s : State) (r : Req) : (touch s r).solver = s.solver := rfl
@[simp] theorem touch_pair (s : State) (r : Req) : (touch s r).pair = s.pair := rfl
@[simp] theorem touch_mortar (s : State) (r : Req) : (touch s r).mortar = s.mortar := rfl
@[simp] theorem touch_safe (s : State) (r : Req) : (touch s r).safe = s.safe := rfl
@[simp] theorem touch_field (s : State) (r : Req) : (touch s r).field = s.field := rfl
@[simp] theorem touch_ring (s : State) (r : Req) : (touch s r).ring = s.ring := rfl
@[simp] theorem touch_can (s : State) (r : Req) : (touch s r).can = s.can := rfl
@[simp] theorem touch_ev (s : State) (r : Req) : (touch s r).ev = s.ev := rfl
@[simp] theorem touch_sec (s : State) (r : Req) : (touch s r).sec = s.sec := rfl
@[simp] theorem touch_panel (s : State) (r : Req) : (touch s r).panel = s.panel := rfl
@[simp] theorem touch_panel2 (s : State) (r : Req) : (touch s r).panel2 = s.panel2 := rfl
@[simp] theorem touch_sup (s : State) (r : Req) : (touch s r).sup = s.sup := rfl
@[simp] theorem touch_free (s : State) (r : Req) : (touch s r).free = s.free := rfl
@[simp] theorem touch_tick (s : State) (r : Req) : (touch s r).time.tick = s.time.tick := rfl
@[simp] theorem touch_phase (s : State) (r : Req) : (touch s r).time.phase = r.at_ := rfl
@[simp] theorem touch_ns (s : State) (r : Req) : (touch s r).time.ns = s.time.ns := rfl
@[simp] theorem touch_outbox (s : State) (r : Req) : (touch s r).net.outbox = s.net.outbox := rfl
@[simp] theorem touch_batches (s : State) (r : Req) : (touch s r).net.batches = s.net.batches := rfl
@[simp] theorem touch_lan (s : State) (r : Req) : (touch s r).net.lan = s.net.lan := rfl
@[simp] theorem vtime_touch (s : State) (r : Req) : vtime (touch s r) = s.time.ns + r.at_ := rfl
@[simp] theorem inControl_touch (s : State) (r : Req) : inControl (touch s r) = inControl s := rfl
@[simp] theorem onTwin_touch (s : State) (r : Req) : onTwin (touch s r) = onTwin s := rfl
@[simp] theorem drives_touch (s : State) (r : Req) : drives (touch s r) = drives s := rfl
@[simp] theorem running_touch (s : State) (r : Req) : running (touch s r) = running s := rfl
@[simp] theorem partnerLive_touch (s : State) (r : Req) : partnerLive (touch s r) = partnerLive s := rfl
@[simp] theorem partnerTracks_touch (s : State) (r : Req) : partnerTracks (touch s r) = partnerTracks s := rfl
@[simp] theorem linkLost_touch (s : State) (r : Req) : linkLost (touch s r) = linkLost s := rfl
@[simp] theorem theImage_touch (s : State) (r : Req) : theImage (touch s r) = theImage s := rfl
@[simp] theorem timeQuality_touch (s : State) (r : Req) : timeQuality (touch s r) = timeQuality s := rfl
@[simp] theorem cmdBusy_touch (s : State) (r : Req) : cmdBusy (touch s r) = cmdBusy s := rfl
@[simp] theorem resetOutcome_touch (s : State) (r : Req) : resetOutcome (touch s r) = resetOutcome s := rfl
@[simp] theorem returnAllowed_touch (s : State) (r : Req) : returnAllowed (touch s r) = returnAllowed s := rfl
@[simp] theorem originOf_touch (s : State) (r : Req) : originOf (touch s r) r = originOf s r := by
  simp [originOf]
@[simp] theorem modeServes_touch (s : State) (r : Req) (o : W32) : modeServes (touch s r) o = modeServes s o := rfl

theorem withSession_arrives {s : State} {r : Req} (h : arrives s r = true) (k : State → State) :
    withSession s r k = k (touch s r) := by
  unfold withSession
  rw [if_pos (by simpa [arrives] using h)]
  rfl

theorem hostWrite_served {s : State} {r : Req} {o : W32} (h : served s r o = true) (k : State → State) :
    hostWrite s r o k = sendChanges (wrote (k (touch s r)) o) := by
  simp only [served, Bool.and_eq_true, decide_eq_true_eq, bne_iff_ne, ne_eq] at h
  obtain ⟨⟨⟨h1, h2⟩, h3⟩, h4⟩ := h
  rw [hostWrite, withSession_arrives h1]
  simp [h3, h4, Nat.not_lt.mpr h2]

theorem hostCommand_served {s : State} {r : Req} {o : W32} (h : servedOutside s r o = true) (k : State → State) :
    hostCommand s r o k = sendChanges (wrote (k (touch s r)) o) := by
  simp only [servedOutside, Bool.and_eq_true, bne_iff_ne, ne_eq] at h
  rw [hostCommand, hostWrite_served h.1]
  simp [h.2]

theorem hostRead_served {s : State} {r : Req} {o : W32} (h : servedRead s r o = true) (k : State → State) :
    hostRead s r o k = k (touch s r) := by
  simp only [servedRead, Bool.and_eq_true, decide_eq_true_eq] at h
  obtain ⟨⟨h1, h2⟩, h3⟩ := h
  rw [hostRead, withSession_arrives h1]
  simp [h3, Nat.not_lt.mpr h2]

/-- Behind a served command, mortar apart, stands exactly what its owner made of the touched state. -/
theorem answers_of_sent {s u t : State} {r : Req} {st : Nat} {p : Bytes} (h : MortarSent u t)
    (hu : u.net.outbox = .response r.session r.seq st p :: s.net.outbox) : answers s t r st p := by
  obtain ⟨ms, lo, lf, k, n, rfl⟩ := h
  exact ⟨ms, by rw [← hu]; rfl⟩

@[simp] theorem wrote_outbox (s : State) (o : W32) : (wrote s o).net.outbox = s.net.outbox := rfl

@[simp] theorem answers_sendChanges {s u : State} {r : Req} {st : Nat} {p : Bytes}
    (hu : u.net.outbox = .response r.session r.seq st p :: s.net.outbox) : answers s (sendChanges u) r st p :=
  answers_of_sent (sendChanges_sent u) hu

theorem sess_of_sent {u t : State} (h : MortarSent u t) (i : Nat) : sess t i = sess u i := by
  obtain ⟨ms, lo, lf, k, n, rfl⟩ := h
  rfl

@[simp] theorem sess_sendChanges (u : State) (i : Nat) : sess (sendChanges u) i = sess u i :=
  sess_of_sent (sendChanges_sent u) i

@[simp] theorem sendChanges_net (u : State) :
    (sendChanges u).net.sess = u.net.sess ∧ (sendChanges u).net.lan = u.net.lan ∧
    (sendChanges u).net.roleAddr = u.net.roleAddr ∧ (sendChanges u).net.arp = u.net.arp ∧
    (sendChanges u).net.openings = u.net.openings ∧ (sendChanges u).net.batches = u.net.batches ∧
    (sendChanges u).loops = u.loops ∧ (sendChanges u).time = u.time ∧ (sendChanges u).ev = u.ev ∧
    (sendChanges u).md = u.md := by
  obtain ⟨ms, lo, lf, k, n, h⟩ := sendChanges_sent u
  rw [h]
  simp [linkNet]

@[simp] theorem touch_sess (s : State) (r : Req) : (touch s r).net.sess =
    tset s.net.sess r.session { tget {} s.net.sess r.session with lastTick := s.time.tick } := rfl

/-- A mode command that no gate refuses is its owner's effect on the touched state (R78). -/
theorem modeCommand_pass {s : State} {r : Req} {g : ModeGate} (h : served s r modeObj = true)
    (hc : (!g.inChange && s.md.mode == .change) = false) (hw : (!g.whileBusy && cmdBusy s) = false)
    (h1 : g.busy (touch s r) = false) (h2 : g.role (touch s r) = false) (h3 : g.image (touch s r) = false)
    (h4 : g.mode (touch s r) = false) (k : State → State) :
    modeCommand r g k s = sendChanges (wrote (k (touch s r)) modeObj) := by
  rw [modeCommand, hostWrite_served h]
  simp only [touch_md, cmdBusy_touch, hc, hw, h1, h2, h3, h4, Bool.or_self, Bool.false_eq_true, if_false]

/-- What `reply` does to the outbox, and to the waiting requests of the session. -/
theorem reply_eq (s : State) (r : Req) (o : W32) (st : Nat) (p : Bytes) :
    reply s r o st p = { s with net := { s.net with
      outbox := .response r.session r.seq st p :: s.net.outbox
      sess := if st = stAccepted then
          tset s.net.sess r.session { sess s r.session with waiting := (sess s r.session).waiting ++ [(r.seq, o)] }
        else s.net.sess } } := by
  unfold reply
  dsimp only
  split <;> rfl

end Sys2Proof.Machine
end

