-- ==== Sys2Proof/Laws/Keeps.lean ====
section
/-! SUPPORT. What each operation leaves alone, part by part of the state: the names for "everything but …", and how a fold
and a choice keep a part. -/

namespace Sys2Proof.Machine

/-! ### Blocks of parts, and everything but some parts -/

abbrev BlkStart (s t : State) : Prop := t.pending = s.pending ∧ t.btn = s.btn ∧ t.kiln = s.kiln ∧ t.set = s.set ∧
    t.sec = s.sec ∧ t.sup = s.sup ∧ t.free = s.free
abbrev BlkProg (s t : State) : Prop := t.crs = s.crs ∧ t.exch = s.exch ∧ t.tickets = s.tickets ∧ t.lastTicket =
    s.lastTicket ∧ t.solver = s.solver
abbrev BlkPair (s t : State) : Prop := t.pair = s.pair ∧ mortarCore t.mortar = mortarCore s.mortar ∧ t.safe = s.safe
abbrev BlkIo (s t : State) : Prop := t.field = s.field ∧ t.ring = s.ring ∧ t.can = s.can ∧ t.panel = s.panel ∧
    t.panel2 = s.panel2
abbrev BlkRest (s t : State) : Prop := t.md = s.md ∧ loopsCore t.loops = loopsCore s.loops ∧ timeCore t.time =
    timeCore s.time ∧ t.net = s.net ∧ evCore t.ev = evCore s.ev ∧ t.ev.intake = s.ev.intake

abbrev But_none (s t : State) : Prop := BlkStart s t ∧ BlkProg s t ∧ BlkPair s t ∧ BlkIo s t ∧ BlkRest s t
abbrev But_btn (s t : State) : Prop := t.pending = s.pending ∧ t.kiln = s.kiln ∧ t.set = s.set ∧ t.sec = s.sec ∧ t.sup
    = s.sup ∧ t.free = s.free ∧ BlkProg s t ∧ BlkPair s t ∧ BlkIo s t ∧ BlkRest s t
abbrev But_btn_intake (s t : State) : Prop := t.pending = s.pending ∧ t.kiln = s.kiln ∧ t.set = s.set ∧ t.sec = s.sec
    ∧ t.sup = s.sup ∧ t.free = s.free ∧ BlkProg s t ∧ BlkPair s t ∧ BlkIo s t ∧ t.md = s.md ∧ loopsCore t.loops =
    loopsCore s.loops ∧ timeCore t.time = timeCore s.time ∧ t.net = s.net ∧ evCore t.ev = evCore s.ev
abbrev But_can (s t : State) : Prop := BlkStart s t ∧ BlkProg s t ∧ BlkPair s t ∧ t.field = s.field ∧ t.ring = s.ring
    ∧ t.panel = s.panel ∧ t.panel2 = s.panel2 ∧ BlkRest s t
abbrev But_can_intake (s t : State) : Prop := BlkStart s t ∧ BlkProg s t ∧ BlkPair s t ∧ t.field = s.field ∧ t.ring =
    s.ring ∧ t.panel = s.panel ∧ t.panel2 = s.panel2 ∧ t.md = s.md ∧ loopsCore t.loops = loopsCore s.loops ∧ timeCore
    t.time = timeCore s.time ∧ t.net = s.net ∧ evCore t.ev = evCore s.ev
abbrev But_can_intake_free (s t : State) : Prop := t.pending = s.pending ∧ t.btn = s.btn ∧ t.kiln = s.kiln ∧ t.set =
    s.set ∧ t.sec = s.sec ∧ t.sup = s.sup ∧ BlkProg s t ∧ BlkPair s t ∧ t.field = s.field ∧ t.ring = s.ring ∧ t.panel
    = s.panel ∧ t.panel2 = s.panel2 ∧ t.md = s.md ∧ loopsCore t.loops = loopsCore s.loops ∧ timeCore t.time = timeCore
    s.time ∧ t.net = s.net ∧ evCore t.ev = evCore s.ev
abbrev But_can_net_intake (s t : State) : Prop := BlkStart s t ∧ BlkProg s t ∧ BlkPair s t ∧ t.field = s.field ∧
    t.ring = s.ring ∧ t.panel = s.panel ∧ t.panel2 = s.panel2 ∧ t.md = s.md ∧ loopsCore t.loops = loopsCore s.loops ∧
    timeCore t.time = timeCore s.time ∧ evCore t.ev = evCore s.ev
abbrev But_can_net_panel_panel2 (s t : State) : Prop := BlkStart s t ∧ BlkProg s t ∧ BlkPair s t ∧ t.field = s.field ∧
    t.ring = s.ring ∧ t.md = s.md ∧ loopsCore t.loops = loopsCore s.loops ∧ timeCore t.time = timeCore s.time ∧ evCore
    t.ev = evCore s.ev ∧ t.ev.intake = s.ev.intake
abbrev But_crs (s t : State) : Prop := BlkStart s t ∧ t.exch = s.exch ∧ t.tickets = s.tickets ∧ t.lastTicket =
    s.lastTicket ∧ t.solver = s.solver ∧ BlkPair s t ∧ BlkIo s t ∧ BlkRest s t
abbrev But_crs_can_intake (s t : State) : Prop := BlkStart s t ∧ t.exch = s.exch ∧ t.tickets = s.tickets ∧
    t.lastTicket = s.lastTicket ∧ t.solver = s.solver ∧ BlkPair s t ∧ t.field = s.field ∧ t.ring = s.ring ∧ t.panel =
    s.panel ∧ t.panel2 = s.panel2 ∧ t.md = s.md ∧ loopsCore t.loops = loopsCore s.loops ∧ timeCore t.time = timeCore
    s.time ∧ t.net = s.net ∧ evCore t.ev = evCore s.ev
abbrev But_crs_can_intake_free (s t : State) : Prop := t.pending = s.pending ∧ t.btn = s.btn ∧ t.kiln = s.kiln ∧ t.set
    = s.set ∧ t.sec = s.sec ∧ t.sup = s.sup ∧ t.exch = s.exch ∧ t.tickets = s.tickets ∧ t.lastTicket = s.lastTicket ∧
    t.solver = s.solver ∧ BlkPair s t ∧ t.field = s.field ∧ t.ring = s.ring ∧ t.panel = s.panel ∧ t.panel2 = s.panel2
    ∧ t.md = s.md ∧ loopsCore t.loops = loopsCore s.loops ∧ timeCore t.time = timeCore s.time ∧ t.net = s.net ∧ evCore
    t.ev = evCore s.ev
abbrev But_crs_ev (s t : State) : Prop := BlkStart s t ∧ t.exch = s.exch ∧ t.tickets = s.tickets ∧ t.lastTicket =
    s.lastTicket ∧ t.solver = s.solver ∧ BlkPair s t ∧ BlkIo s t ∧ t.md = s.md ∧ loopsCore t.loops = loopsCore s.loops
    ∧ timeCore t.time = timeCore s.time ∧ t.net = s.net ∧ t.ev.intake = s.ev.intake
abbrev But_crs_ev_intake (s t : State) : Prop := BlkStart s t ∧ t.exch = s.exch ∧ t.tickets = s.tickets ∧ t.lastTicket
    = s.lastTicket ∧ t.solver = s.solver ∧ BlkPair s t ∧ BlkIo s t ∧ t.md = s.md ∧ loopsCore t.loops = loopsCore
    s.loops ∧ timeCore t.time = timeCore s.time ∧ t.net = s.net
abbrev But_crs_exch (s t : State) : Prop := BlkStart s t ∧ t.tickets = s.tickets ∧ t.lastTicket = s.lastTicket ∧
    t.solver = s.solver ∧ BlkPair s t ∧ BlkIo s t ∧ BlkRest s t
abbrev But_crs_exch_loops_net_intake (s t : State) : Prop := BlkStart s t ∧ t.tickets = s.tickets ∧ t.lastTicket =
    s.lastTicket ∧ t.solver = s.solver ∧ BlkPair s t ∧ BlkIo s t ∧ t.md = s.md ∧ timeCore t.time = timeCore s.time ∧
    evCore t.ev = evCore s.ev
abbrev But_crs_exch_loops_solver_safe_field_ring_can_net_intake (s t : State) : Prop := BlkStart s t ∧ t.tickets =
    s.tickets ∧ t.lastTicket = s.lastTicket ∧ t.pair = s.pair ∧ mortarCore t.mortar = mortarCore s.mortar ∧ t.panel =
    s.panel ∧ t.panel2 = s.panel2 ∧ t.md = s.md ∧ timeCore t.time = timeCore s.time ∧ evCore t.ev = evCore s.ev
abbrev But_crs_exch_tickets_loops_pair_net_intake (s t : State) : Prop := BlkStart s t ∧ t.lastTicket = s.lastTicket ∧
    t.solver = s.solver ∧ mortarCore t.mortar = mortarCore s.mortar ∧ t.safe = s.safe ∧ BlkIo s t ∧ t.md = s.md ∧
    timeCore t.time = timeCore s.time ∧ evCore t.ev = evCore s.ev
abbrev But_crs_intake (s t : State) : Prop := BlkStart s t ∧ t.exch = s.exch ∧ t.tickets = s.tickets ∧ t.lastTicket =
    s.lastTicket ∧ t.solver = s.solver ∧ BlkPair s t ∧ BlkIo s t ∧ t.md = s.md ∧ loopsCore t.loops = loopsCore s.loops
    ∧ timeCore t.time = timeCore s.time ∧ t.net = s.net ∧ evCore t.ev = evCore s.ev
abbrev But_crs_loops (s t : State) : Prop := BlkStart s t ∧ t.exch = s.exch ∧ t.tickets = s.tickets ∧ t.lastTicket =
    s.lastTicket ∧ t.solver = s.solver ∧ BlkPair s t ∧ BlkIo s t ∧ t.md = s.md ∧ timeCore t.time = timeCore s.time ∧
    t.net = s.net ∧ evCore t.ev = evCore s.ev ∧ t.ev.intake = s.ev.intake
abbrev But_crs_loops_mortar_field_ring (s t : State) : Prop := BlkStart s t ∧ t.exch = s.exch ∧ t.tickets = s.tickets
    ∧ t.lastTicket = s.lastTicket ∧ t.solver = s.solver ∧ t.pair = s.pair ∧ t.safe = s.safe ∧ t.can = s.can ∧ t.panel
    = s.panel ∧ t.panel2 = s.panel2 ∧ t.md = s.md ∧ timeCore t.time = timeCore s.time ∧ t.net = s.net ∧ evCore t.ev =
    evCore s.ev ∧ t.ev.intake = s.ev.intake
abbrev But_crs_loops_net (s t : State) : Prop := BlkStart s t ∧ t.exch = s.exch ∧ t.tickets = s.tickets ∧ t.lastTicket
    = s.lastTicket ∧ t.solver = s.solver ∧ BlkPair s t ∧ BlkIo s t ∧ t.md = s.md ∧ timeCore t.time = timeCore s.time ∧
    evCore t.ev = evCore s.ev ∧ t.ev.intake = s.ev.intake
abbrev But_crs_loops_net_intake (s t : State) : Prop := BlkStart s t ∧ t.exch = s.exch ∧ t.tickets = s.tickets ∧
    t.lastTicket = s.lastTicket ∧ t.solver = s.solver ∧ BlkPair s t ∧ BlkIo s t ∧ t.md = s.md ∧ timeCore t.time =
    timeCore s.time ∧ evCore t.ev = evCore s.ev
abbrev But_crs_loops_solver_pair (s t : State) : Prop := BlkStart s t ∧ t.exch = s.exch ∧ t.tickets = s.tickets ∧
    t.lastTicket = s.lastTicket ∧ mortarCore t.mortar = mortarCore s.mortar ∧ t.safe = s.safe ∧ BlkIo s t ∧ t.md =
    s.md ∧ timeCore t.time = timeCore s.time ∧ t.net = s.net ∧ evCore t.ev = evCore s.ev ∧ t.ev.intake = s.ev.intake
abbrev But_crs_loops_solver_safe_net_intake (s t : State) : Prop := BlkStart s t ∧ t.exch = s.exch ∧ t.tickets =
    s.tickets ∧ t.lastTicket = s.lastTicket ∧ t.pair = s.pair ∧ mortarCore t.mortar = mortarCore s.mortar ∧ BlkIo s t
    ∧ t.md = s.md ∧ timeCore t.time = timeCore s.time ∧ evCore t.ev = evCore s.ev
abbrev But_crs_net (s t : State) : Prop := BlkStart s t ∧ t.exch = s.exch ∧ t.tickets = s.tickets ∧ t.lastTicket =
    s.lastTicket ∧ t.solver = s.solver ∧ BlkPair s t ∧ BlkIo s t ∧ t.md = s.md ∧ loopsCore t.loops = loopsCore s.loops
    ∧ timeCore t.time = timeCore s.time ∧ evCore t.ev = evCore s.ev ∧ t.ev.intake = s.ev.intake
abbrev But_crs_net_intake (s t : State) : Prop := BlkStart s t ∧ t.exch = s.exch ∧ t.tickets = s.tickets ∧
    t.lastTicket = s.lastTicket ∧ t.solver = s.solver ∧ BlkPair s t ∧ BlkIo s t ∧ t.md = s.md ∧ loopsCore t.loops =
    loopsCore s.loops ∧ timeCore t.time = timeCore s.time ∧ evCore t.ev = evCore s.ev
abbrev But_crs_solver (s t : State) : Prop := BlkStart s t ∧ t.exch = s.exch ∧ t.tickets = s.tickets ∧ t.lastTicket =
    s.lastTicket ∧ BlkPair s t ∧ BlkIo s t ∧ BlkRest s t
abbrev But_crs_tickets_pair_net_intake (s t : State) : Prop := BlkStart s t ∧ t.exch = s.exch ∧ t.lastTicket =
    s.lastTicket ∧ t.solver = s.solver ∧ mortarCore t.mortar = mortarCore s.mortar ∧ t.safe = s.safe ∧ BlkIo s t ∧
    t.md = s.md ∧ loopsCore t.loops = loopsCore s.loops ∧ timeCore t.time = timeCore s.time ∧ evCore t.ev = evCore
    s.ev
abbrev But_ev (s t : State) : Prop := BlkStart s t ∧ BlkProg s t ∧ BlkPair s t ∧ BlkIo s t ∧ t.md = s.md ∧ loopsCore
    t.loops = loopsCore s.loops ∧ timeCore t.time = timeCore s.time ∧ t.net = s.net ∧ t.ev.intake = s.ev.intake
abbrev But_ev_intake (s t : State) : Prop := BlkStart s t ∧ BlkProg s t ∧ BlkPair s t ∧ BlkIo s t ∧ t.md = s.md ∧
    loopsCore t.loops = loopsCore s.loops ∧ timeCore t.time = timeCore s.time ∧ t.net = s.net
abbrev But_exch_loops_intake (s t : State) : Prop := BlkStart s t ∧ t.crs = s.crs ∧ t.tickets = s.tickets ∧
    t.lastTicket = s.lastTicket ∧ t.solver = s.solver ∧ BlkPair s t ∧ BlkIo s t ∧ t.md = s.md ∧ timeCore t.time =
    timeCore s.time ∧ t.net = s.net ∧ evCore t.ev = evCore s.ev
abbrev But_exch_loops_net_intake (s t : State) : Prop := BlkStart s t ∧ t.crs = s.crs ∧ t.tickets = s.tickets ∧
    t.lastTicket = s.lastTicket ∧ t.solver = s.solver ∧ BlkPair s t ∧ BlkIo s t ∧ t.md = s.md ∧ timeCore t.time =
    timeCore s.time ∧ evCore t.ev = evCore s.ev
abbrev But_exch_solver (s t : State) : Prop := BlkStart s t ∧ t.crs = s.crs ∧ t.tickets = s.tickets ∧ t.lastTicket =
    s.lastTicket ∧ BlkPair s t ∧ BlkIo s t ∧ BlkRest s t
abbrev But_exch_solver_intake (s t : State) : Prop := BlkStart s t ∧ t.crs = s.crs ∧ t.tickets = s.tickets ∧
    t.lastTicket = s.lastTicket ∧ BlkPair s t ∧ BlkIo s t ∧ t.md = s.md ∧ loopsCore t.loops = loopsCore s.loops ∧
    timeCore t.time = timeCore s.time ∧ t.net = s.net ∧ evCore t.ev = evCore s.ev
abbrev But_exch_solver_pair_intake (s t : State) : Prop := BlkStart s t ∧ t.crs = s.crs ∧ t.tickets = s.tickets ∧
    t.lastTicket = s.lastTicket ∧ mortarCore t.mortar = mortarCore s.mortar ∧ t.safe = s.safe ∧ BlkIo s t ∧ t.md =
    s.md ∧ loopsCore t.loops = loopsCore s.loops ∧ timeCore t.time = timeCore s.time ∧ t.net = s.net ∧ evCore t.ev =
    evCore s.ev
abbrev But_exch_tickets_loops_pair_net_intake (s t : State) : Prop := BlkStart s t ∧ t.crs = s.crs ∧ t.lastTicket =
    s.lastTicket ∧ t.solver = s.solver ∧ mortarCore t.mortar = mortarCore s.mortar ∧ t.safe = s.safe ∧ BlkIo s t ∧
    t.md = s.md ∧ timeCore t.time = timeCore s.time ∧ evCore t.ev = evCore s.ev
abbrev But_field (s t : State) : Prop := BlkStart s t ∧ BlkProg s t ∧ BlkPair s t ∧ t.ring = s.ring ∧ t.can = s.can ∧
    t.panel = s.panel ∧ t.panel2 = s.panel2 ∧ BlkRest s t
abbrev But_field_intake (s t : State) : Prop := BlkStart s t ∧ BlkProg s t ∧ BlkPair s t ∧ t.ring = s.ring ∧ t.can =
    s.can ∧ t.panel = s.panel ∧ t.panel2 = s.panel2 ∧ t.md = s.md ∧ loopsCore t.loops = loopsCore s.loops ∧ timeCore
    t.time = timeCore s.time ∧ t.net = s.net ∧ evCore t.ev = evCore s.ev
abbrev But_field_net (s t : State) : Prop := BlkStart s t ∧ BlkProg s t ∧ BlkPair s t ∧ t.ring = s.ring ∧ t.can =
    s.can ∧ t.panel = s.panel ∧ t.panel2 = s.panel2 ∧ t.md = s.md ∧ loopsCore t.loops = loopsCore s.loops ∧ timeCore
    t.time = timeCore s.time ∧ evCore t.ev = evCore s.ev ∧ t.ev.intake = s.ev.intake
abbrev But_field_net_intake (s t : State) : Prop := BlkStart s t ∧ BlkProg s t ∧ BlkPair s t ∧ t.ring = s.ring ∧ t.can
    = s.can ∧ t.panel = s.panel ∧ t.panel2 = s.panel2 ∧ t.md = s.md ∧ loopsCore t.loops = loopsCore s.loops ∧ timeCore
    t.time = timeCore s.time ∧ evCore t.ev = evCore s.ev
abbrev But_free (s t : State) : Prop := t.pending = s.pending ∧ t.btn = s.btn ∧ t.kiln = s.kiln ∧ t.set = s.set ∧
    t.sec = s.sec ∧ t.sup = s.sup ∧ BlkProg s t ∧ BlkPair s t ∧ BlkIo s t ∧ BlkRest s t
abbrev But_intake (s t : State) : Prop := BlkStart s t ∧ BlkProg s t ∧ BlkPair s t ∧ BlkIo s t ∧ t.md = s.md ∧
    loopsCore t.loops = loopsCore s.loops ∧ timeCore t.time = timeCore s.time ∧ t.net = s.net ∧ evCore t.ev = evCore
    s.ev
abbrev But_intake_panel_panel2 (s t : State) : Prop := BlkStart s t ∧ BlkProg s t ∧ BlkPair s t ∧ t.field = s.field ∧
    t.ring = s.ring ∧ t.can = s.can ∧ t.md = s.md ∧ loopsCore t.loops = loopsCore s.loops ∧ timeCore t.time = timeCore
    s.time ∧ t.net = s.net ∧ evCore t.ev = evCore s.ev
abbrev But_intake_sec (s t : State) : Prop := t.pending = s.pending ∧ t.btn = s.btn ∧ t.kiln = s.kiln ∧ t.set = s.set
    ∧ t.sup = s.sup ∧ t.free = s.free ∧ BlkProg s t ∧ BlkPair s t ∧ BlkIo s t ∧ t.md = s.md ∧ loopsCore t.loops =
    loopsCore s.loops ∧ timeCore t.time = timeCore s.time ∧ t.net = s.net ∧ evCore t.ev = evCore s.ev
abbrev But_intake_sup (s t : State) : Prop := t.pending = s.pending ∧ t.btn = s.btn ∧ t.kiln = s.kiln ∧ t.set = s.set
    ∧ t.sec = s.sec ∧ t.free = s.free ∧ BlkProg s t ∧ BlkPair s t ∧ BlkIo s t ∧ t.md = s.md ∧ loopsCore t.loops =
    loopsCore s.loops ∧ timeCore t.time = timeCore s.time ∧ t.net = s.net ∧ evCore t.ev = evCore s.ev
abbrev But_kiln (s t : State) : Prop := t.pending = s.pending ∧ t.btn = s.btn ∧ t.set = s.set ∧ t.sec = s.sec ∧ t.sup
    = s.sup ∧ t.free = s.free ∧ BlkProg s t ∧ BlkPair s t ∧ BlkIo s t ∧ BlkRest s t
abbrev But_kiln_crs_exch_loops_pair_intake (s t : State) : Prop := t.pending = s.pending ∧ t.btn = s.btn ∧ t.set =
    s.set ∧ t.sec = s.sec ∧ t.sup = s.sup ∧ t.free = s.free ∧ t.tickets = s.tickets ∧ t.lastTicket = s.lastTicket ∧
    t.solver = s.solver ∧ mortarCore t.mortar = mortarCore s.mortar ∧ t.safe = s.safe ∧ BlkIo s t ∧ t.md = s.md ∧
    timeCore t.time = timeCore s.time ∧ t.net = s.net ∧ evCore t.ev = evCore s.ev
abbrev But_kiln_ev (s t : State) : Prop := t.pending = s.pending ∧ t.btn = s.btn ∧ t.set = s.set ∧ t.sec = s.sec ∧
    t.sup = s.sup ∧ t.free = s.free ∧ BlkProg s t ∧ BlkPair s t ∧ BlkIo s t ∧ t.md = s.md ∧ loopsCore t.loops =
    loopsCore s.loops ∧ timeCore t.time = timeCore s.time ∧ t.net = s.net ∧ t.ev.intake = s.ev.intake
abbrev But_kiln_exch_loops_intake (s t : State) : Prop := t.pending = s.pending ∧ t.btn = s.btn ∧ t.set = s.set ∧
    t.sec = s.sec ∧ t.sup = s.sup ∧ t.free = s.free ∧ t.crs = s.crs ∧ t.tickets = s.tickets ∧ t.lastTicket =
    s.lastTicket ∧ t.solver = s.solver ∧ BlkPair s t ∧ BlkIo s t ∧ t.md = s.md ∧ timeCore t.time = timeCore s.time ∧
    t.net = s.net ∧ evCore t.ev = evCore s.ev
abbrev But_kiln_exch_loops_net_intake (s t : State) : Prop := t.pending = s.pending ∧ t.btn = s.btn ∧ t.set = s.set ∧
    t.sec = s.sec ∧ t.sup = s.sup ∧ t.free = s.free ∧ t.crs = s.crs ∧ t.tickets = s.tickets ∧ t.lastTicket =
    s.lastTicket ∧ t.solver = s.solver ∧ BlkPair s t ∧ BlkIo s t ∧ t.md = s.md ∧ timeCore t.time = timeCore s.time ∧
    evCore t.ev = evCore s.ev
abbrev But_kiln_exch_tickets_loops_solver_net_intake (s t : State) : Prop := t.pending = s.pending ∧ t.btn = s.btn ∧
    t.set = s.set ∧ t.sec = s.sec ∧ t.sup = s.sup ∧ t.free = s.free ∧ t.crs = s.crs ∧ t.lastTicket = s.lastTicket ∧
    BlkPair s t ∧ BlkIo s t ∧ t.md = s.md ∧ timeCore t.time = timeCore s.time ∧ evCore t.ev = evCore s.ev
abbrev But_kiln_exch_tickets_loops_solver_pair_net_intake (s t : State) : Prop := t.pending = s.pending ∧ t.btn =
    s.btn ∧ t.set = s.set ∧ t.sec = s.sec ∧ t.sup = s.sup ∧ t.free = s.free ∧ t.crs = s.crs ∧ t.lastTicket =
    s.lastTicket ∧ mortarCore t.mortar = mortarCore s.mortar ∧ t.safe = s.safe ∧ BlkIo s t ∧ t.md = s.md ∧ timeCore
    t.time = timeCore s.time ∧ evCore t.ev = evCore s.ev
abbrev But_kiln_intake (s t : State) : Prop := t.pending = s.pending ∧ t.btn = s.btn ∧ t.set = s.set ∧ t.sec = s.sec ∧
    t.sup = s.sup ∧ t.free = s.free ∧ BlkProg s t ∧ BlkPair s t ∧ BlkIo s t ∧ t.md = s.md ∧ loopsCore t.loops =
    loopsCore s.loops ∧ timeCore t.time = timeCore s.time ∧ t.net = s.net ∧ evCore t.ev = evCore s.ev
abbrev But_kiln_loops_solver (s t : State) : Prop := t.pending = s.pending ∧ t.btn = s.btn ∧ t.set = s.set ∧ t.sec =
    s.sec ∧ t.sup = s.sup ∧ t.free = s.free ∧ t.crs = s.crs ∧ t.exch = s.exch ∧ t.tickets = s.tickets ∧ t.lastTicket =
    s.lastTicket ∧ BlkPair s t ∧ BlkIo s t ∧ t.md = s.md ∧ timeCore t.time = timeCore s.time ∧ t.net = s.net ∧ evCore
    t.ev = evCore s.ev ∧ t.ev.intake = s.ev.intake
abbrev But_kiln_net_intake (s t : State) : Prop := t.pending = s.pending ∧ t.btn = s.btn ∧ t.set = s.set ∧ t.sec =
    s.sec ∧ t.sup = s.sup ∧ t.free = s.free ∧ BlkProg s t ∧ BlkPair s t ∧ BlkIo s t ∧ t.md = s.md ∧ loopsCore t.loops
    = loopsCore s.loops ∧ timeCore t.time = timeCore s.time ∧ evCore t.ev = evCore s.ev
abbrev But_kiln_set_crs_exch_loops_solver_safe_ring_can_net_intake_panel_panel2 (s t : State) : Prop := t.pending =
    s.pending ∧ t.btn = s.btn ∧ t.sec = s.sec ∧ t.sup = s.sup ∧ t.free = s.free ∧ t.tickets = s.tickets ∧ t.lastTicket
    = s.lastTicket ∧ t.pair = s.pair ∧ mortarCore t.mortar = mortarCore s.mortar ∧ t.field = s.field ∧ t.md = s.md ∧
    timeCore t.time = timeCore s.time ∧ evCore t.ev = evCore s.ev
abbrev But_kiln_set_crs_exch_tickets_loops_solver_pair_mortar_field_ring_can_net_intake_panel_panel2 (s t : State) :
    Prop := t.pending = s.pending ∧ t.btn = s.btn ∧ t.sec = s.sec ∧ t.sup = s.sup ∧ t.free = s.free ∧ t.lastTicket =
    s.lastTicket ∧ t.safe = s.safe ∧ t.md = s.md ∧ timeCore t.time = timeCore s.time ∧ evCore t.ev = evCore s.ev
abbrev But_kiln_set_crs_exch_tickets_loops_solver_pair_mortar_field_ring_can_net_intake_panel_panel2_free (s t :
    State) : Prop := t.pending = s.pending ∧ t.btn = s.btn ∧ t.sec = s.sec ∧ t.sup = s.sup ∧ t.lastTicket =
    s.lastTicket ∧ t.safe = s.safe ∧ t.md = s.md ∧ timeCore t.time = timeCore s.time ∧ evCore t.ev = evCore s.ev
abbrev But_kiln_set_crs_tickets_lastTicket_loops_solver_pair_field_can_time_net_intake_sec_panel (s t : State) : Prop
    := t.pending = s.pending ∧ t.btn = s.btn ∧ t.sup = s.sup ∧ t.free = s.free ∧ t.exch = s.exch ∧ mortarCore t.mortar
    = mortarCore s.mortar ∧ t.safe = s.safe ∧ t.ring = s.ring ∧ t.panel2 = s.panel2 ∧ t.md = s.md ∧ evCore t.ev =
    evCore s.ev
abbrev But_kiln_tickets_loops_solver (s t : State) : Prop := t.pending = s.pending ∧ t.btn = s.btn ∧ t.set = s.set ∧
    t.sec = s.sec ∧ t.sup = s.sup ∧ t.free = s.free ∧ t.crs = s.crs ∧ t.exch = s.exch ∧ t.lastTicket = s.lastTicket ∧
    BlkPair s t ∧ BlkIo s t ∧ t.md = s.md ∧ timeCore t.time = timeCore s.time ∧ t.net = s.net ∧ evCore t.ev = evCore
    s.ev ∧ t.ev.intake = s.ev.intake
abbrev But_kiln_tickets_loops_solver_pair_net_intake (s t : State) : Prop := t.pending = s.pending ∧ t.btn = s.btn ∧
    t.set = s.set ∧ t.sec = s.sec ∧ t.sup = s.sup ∧ t.free = s.free ∧ t.crs = s.crs ∧ t.exch = s.exch ∧ t.lastTicket =
    s.lastTicket ∧ mortarCore t.mortar = mortarCore s.mortar ∧ t.safe = s.safe ∧ BlkIo s t ∧ t.md = s.md ∧ timeCore
    t.time = timeCore s.time ∧ evCore t.ev = evCore s.ev
abbrev But_kiln_tickets_pair_net_ev_intake (s t : State) : Prop := t.pending = s.pending ∧ t.btn = s.btn ∧ t.set =
    s.set ∧ t.sec = s.sec ∧ t.sup = s.sup ∧ t.free = s.free ∧ t.crs = s.crs ∧ t.exch = s.exch ∧ t.lastTicket =
    s.lastTicket ∧ t.solver = s.solver ∧ mortarCore t.mortar = mortarCore s.mortar ∧ t.safe = s.safe ∧ BlkIo s t ∧
    t.md = s.md ∧ loopsCore t.loops = loopsCore s.loops ∧ timeCore t.time = timeCore s.time
abbrev But_kiln_tickets_pair_net_intake (s t : State) : Prop := t.pending = s.pending ∧ t.btn = s.btn ∧ t.set = s.set
    ∧ t.sec = s.sec ∧ t.sup = s.sup ∧ t.free = s.free ∧ t.crs = s.crs ∧ t.exch = s.exch ∧ t.lastTicket = s.lastTicket
    ∧ t.solver = s.solver ∧ mortarCore t.mortar = mortarCore s.mortar ∧ t.safe = s.safe ∧ BlkIo s t ∧ t.md = s.md ∧
    loopsCore t.loops = loopsCore s.loops ∧ timeCore t.time = timeCore s.time ∧ evCore t.ev = evCore s.ev
abbrev But_kiln_tickets_pair_net_intake_sec (s t : State) : Prop := t.pending = s.pending ∧ t.btn = s.btn ∧ t.set =
    s.set ∧ t.sup = s.sup ∧ t.free = s.free ∧ t.crs = s.crs ∧ t.exch = s.exch ∧ t.lastTicket = s.lastTicket ∧ t.solver
    = s.solver ∧ mortarCore t.mortar = mortarCore s.mortar ∧ t.safe = s.safe ∧ BlkIo s t ∧ t.md = s.md ∧ loopsCore
    t.loops = loopsCore s.loops ∧ timeCore t.time = timeCore s.time ∧ evCore t.ev = evCore s.ev
abbrev But_kiln_tickets_pair_time_net_intake (s t : State) : Prop := t.pending = s.pending ∧ t.btn = s.btn ∧ t.set =
    s.set ∧ t.sec = s.sec ∧ t.sup = s.sup ∧ t.free = s.free ∧ t.crs = s.crs ∧ t.exch = s.exch ∧ t.lastTicket =
    s.lastTicket ∧ t.solver = s.solver ∧ mortarCore t.mortar = mortarCore s.mortar ∧ t.safe = s.safe ∧ BlkIo s t ∧
    t.md = s.md ∧ loopsCore t.loops = loopsCore s.loops ∧ evCore t.ev = evCore s.ev
abbrev But_loops (s t : State) : Prop := BlkStart s t ∧ BlkProg s t ∧ BlkPair s t ∧ BlkIo s t ∧ t.md = s.md ∧ timeCore
    t.time = timeCore s.time ∧ t.net = s.net ∧ evCore t.ev = evCore s.ev ∧ t.ev.intake = s.ev.intake
abbrev But_loops_field (s t : State) : Prop := BlkStart s t ∧ BlkProg s t ∧ BlkPair s t ∧ t.ring = s.ring ∧ t.can =
    s.can ∧ t.panel = s.panel ∧ t.panel2 = s.panel2 ∧ t.md = s.md ∧ timeCore t.time = timeCore s.time ∧ t.net = s.net
    ∧ evCore t.ev = evCore s.ev ∧ t.ev.intake = s.ev.intake
abbrev But_loops_field_intake (s t : State) : Prop := BlkStart s t ∧ BlkProg s t ∧ BlkPair s t ∧ t.ring = s.ring ∧
    t.can = s.can ∧ t.panel = s.panel ∧ t.panel2 = s.panel2 ∧ t.md = s.md ∧ timeCore t.time = timeCore s.time ∧ t.net
    = s.net ∧ evCore t.ev = evCore s.ev
abbrev But_loops_intake (s t : State) : Prop := BlkStart s t ∧ BlkProg s t ∧ BlkPair s t ∧ BlkIo s t ∧ t.md = s.md ∧
    timeCore t.time = timeCore s.time ∧ t.net = s.net ∧ evCore t.ev = evCore s.ev
abbrev But_loops_net (s t : State) : Prop := BlkStart s t ∧ BlkProg s t ∧ BlkPair s t ∧ BlkIo s t ∧ t.md = s.md ∧
    timeCore t.time = timeCore s.time ∧ evCore t.ev = evCore s.ev ∧ t.ev.intake = s.ev.intake
abbrev But_loops_net_intake (s t : State) : Prop := BlkStart s t ∧ BlkProg s t ∧ BlkPair s t ∧ BlkIo s t ∧ t.md = s.md
    ∧ timeCore t.time = timeCore s.time ∧ evCore t.ev = evCore s.ev
abbrev But_loops_ring (s t : State) : Prop := BlkStart s t ∧ BlkProg s t ∧ BlkPair s t ∧ t.field = s.field ∧ t.can =
    s.can ∧ t.panel = s.panel ∧ t.panel2 = s.panel2 ∧ t.md = s.md ∧ timeCore t.time = timeCore s.time ∧ t.net = s.net
    ∧ evCore t.ev = evCore s.ev ∧ t.ev.intake = s.ev.intake
abbrev But_loops_solver_mortar_safe_time (s t : State) : Prop := BlkStart s t ∧ t.crs = s.crs ∧ t.exch = s.exch ∧
    t.tickets = s.tickets ∧ t.lastTicket = s.lastTicket ∧ t.pair = s.pair ∧ BlkIo s t ∧ t.md = s.md ∧ t.net = s.net ∧
    evCore t.ev = evCore s.ev ∧ t.ev.intake = s.ev.intake
abbrev But_md (s t : State) : Prop := BlkStart s t ∧ BlkProg s t ∧ BlkPair s t ∧ BlkIo s t ∧ loopsCore t.loops =
    loopsCore s.loops ∧ timeCore t.time = timeCore s.time ∧ t.net = s.net ∧ evCore t.ev = evCore s.ev ∧ t.ev.intake =
    s.ev.intake
abbrev But_md_btn_kiln_crs_exch_loops_solver_safe_field_can_time_net_ev_intake_sec_panel_panel2_free (s t : State) :
    Prop := t.pending = s.pending ∧ t.set = s.set ∧ t.sup = s.sup ∧ t.tickets = s.tickets ∧ t.lastTicket =
    s.lastTicket ∧ t.pair = s.pair ∧ mortarCore t.mortar = mortarCore s.mortar ∧ t.ring = s.ring
abbrev But_md_btn_kiln_crs_exch_tickets_loops_solver_pair_safe_field_ring_can_net_ev_intake_sec_panel_panel2_free (s t
    : State) : Prop := t.pending = s.pending ∧ t.set = s.set ∧ t.sup = s.sup ∧ t.lastTicket = s.lastTicket ∧
    mortarCore t.mortar = mortarCore s.mortar ∧ timeCore t.time = timeCore s.time
abbrev
    But_md_btn_kiln_set_crs_exch_tickets_lastTicket_loops_solver_pair_mortar_safe_field_ring_can_time_net_ev_intake_sec_panel_panel2_sup
    (s t : State) : Prop := t.pending = s.pending ∧ t.free = s.free
abbrev
    But_md_btn_kiln_set_crs_exch_tickets_lastTicket_loops_solver_pair_mortar_safe_field_ring_can_time_net_ev_intake_sec_panel_panel2_sup_free
    (s t : State) : Prop := t.pending = s.pending
abbrev But_md_btn_kiln_set_crs_exch_tickets_loops_solver_pair_safe_field_ring_can_net_intake_panel_panel2_free (s t :
    State) : Prop := t.pending = s.pending ∧ t.sec = s.sec ∧ t.sup = s.sup ∧ t.lastTicket = s.lastTicket ∧ mortarCore
    t.mortar = mortarCore s.mortar ∧ timeCore t.time = timeCore s.time ∧ evCore t.ev = evCore s.ev
abbrev
    But_md_btn_kiln_set_crs_exch_tickets_loops_solver_pair_safe_field_ring_can_time_net_ev_intake_sec_panel_panel2_free
    (s t : State) : Prop := t.pending = s.pending ∧ t.sup = s.sup ∧ t.lastTicket = s.lastTicket ∧ mortarCore t.mortar
    = mortarCore s.mortar
abbrev But_md_crs_exch_loops_net_ev_intake_sec (s t : State) : Prop := t.pending = s.pending ∧ t.btn = s.btn ∧ t.kiln
    = s.kiln ∧ t.set = s.set ∧ t.sup = s.sup ∧ t.free = s.free ∧ t.tickets = s.tickets ∧ t.lastTicket = s.lastTicket ∧
    t.solver = s.solver ∧ BlkPair s t ∧ BlkIo s t ∧ timeCore t.time = timeCore s.time
abbrev But_md_crs_exch_loops_solver_pair_mortar_safe_field_can_net_intake_panel_panel2_free (s t : State) : Prop :=
    t.pending = s.pending ∧ t.btn = s.btn ∧ t.kiln = s.kiln ∧ t.set = s.set ∧ t.sec = s.sec ∧ t.sup = s.sup ∧
    t.tickets = s.tickets ∧ t.lastTicket = s.lastTicket ∧ t.ring = s.ring ∧ timeCore t.time = timeCore s.time ∧ evCore
    t.ev = evCore s.ev
abbrev But_md_crs_exch_loops_solver_pair_safe_field_can_net_intake_panel_panel2_free (s t : State) : Prop := t.pending
    = s.pending ∧ t.btn = s.btn ∧ t.kiln = s.kiln ∧ t.set = s.set ∧ t.sec = s.sec ∧ t.sup = s.sup ∧ t.tickets =
    s.tickets ∧ t.lastTicket = s.lastTicket ∧ mortarCore t.mortar = mortarCore s.mortar ∧ t.ring = s.ring ∧ timeCore
    t.time = timeCore s.time ∧ evCore t.ev = evCore s.ev
abbrev But_md_crs_exch_loops_solver_safe_field_can_net_ev_intake_panel_panel2_free (s t : State) : Prop := t.pending =
    s.pending ∧ t.btn = s.btn ∧ t.kiln = s.kiln ∧ t.set = s.set ∧ t.sec = s.sec ∧ t.sup = s.sup ∧ t.tickets =
    s.tickets ∧ t.lastTicket = s.lastTicket ∧ t.pair = s.pair ∧ mortarCore t.mortar = mortarCore s.mortar ∧ t.ring =
    s.ring ∧ timeCore t.time = timeCore s.time
abbrev But_md_crs_exch_loops_solver_safe_field_can_net_intake_free (s t : State) : Prop := t.pending = s.pending ∧
    t.btn = s.btn ∧ t.kiln = s.kiln ∧ t.set = s.set ∧ t.sec = s.sec ∧ t.sup = s.sup ∧ t.tickets = s.tickets ∧
    t.lastTicket = s.lastTicket ∧ t.pair = s.pair ∧ mortarCore t.mortar = mortarCore s.mortar ∧ t.ring = s.ring ∧
    t.panel = s.panel ∧ t.panel2 = s.panel2 ∧ timeCore t.time = timeCore s.time ∧ evCore t.ev = evCore s.ev
abbrev But_md_crs_exch_loops_solver_safe_field_can_net_intake_panel_panel2_free (s t : State) : Prop := t.pending =
    s.pending ∧ t.btn = s.btn ∧ t.kiln = s.kiln ∧ t.set = s.set ∧ t.sec = s.sec ∧ t.sup = s.sup ∧ t.tickets =
    s.tickets ∧ t.lastTicket = s.lastTicket ∧ t.pair = s.pair ∧ mortarCore t.mortar = mortarCore s.mortar ∧ t.ring =
    s.ring ∧ timeCore t.time = timeCore s.time ∧ evCore t.ev = evCore s.ev
abbrev But_md_crs_loops_net_ev_intake (s t : State) : Prop := BlkStart s t ∧ t.exch = s.exch ∧ t.tickets = s.tickets ∧
    t.lastTicket = s.lastTicket ∧ t.solver = s.solver ∧ BlkPair s t ∧ BlkIo s t ∧ timeCore t.time = timeCore s.time
abbrev But_md_crs_loops_net_intake (s t : State) : Prop := BlkStart s t ∧ t.exch = s.exch ∧ t.tickets = s.tickets ∧
    t.lastTicket = s.lastTicket ∧ t.solver = s.solver ∧ BlkPair s t ∧ BlkIo s t ∧ timeCore t.time = timeCore s.time ∧
    evCore t.ev = evCore s.ev
abbrev But_md_exch_loops_intake (s t : State) : Prop := BlkStart s t ∧ t.crs = s.crs ∧ t.tickets = s.tickets ∧
    t.lastTicket = s.lastTicket ∧ t.solver = s.solver ∧ BlkPair s t ∧ BlkIo s t ∧ timeCore t.time = timeCore s.time ∧
    t.net = s.net ∧ evCore t.ev = evCore s.ev
abbrev But_md_exch_loops_net_intake (s t : State) : Prop := BlkStart s t ∧ t.crs = s.crs ∧ t.tickets = s.tickets ∧
    t.lastTicket = s.lastTicket ∧ t.solver = s.solver ∧ BlkPair s t ∧ BlkIo s t ∧ timeCore t.time = timeCore s.time ∧
    evCore t.ev = evCore s.ev
abbrev But_md_exch_net (s t : State) : Prop := BlkStart s t ∧ t.crs = s.crs ∧ t.tickets = s.tickets ∧ t.lastTicket =
    s.lastTicket ∧ t.solver = s.solver ∧ BlkPair s t ∧ BlkIo s t ∧ loopsCore t.loops = loopsCore s.loops ∧ timeCore
    t.time = timeCore s.time ∧ evCore t.ev = evCore s.ev ∧ t.ev.intake = s.ev.intake
abbrev But_md_exch_net_intake (s t : State) : Prop := BlkStart s t ∧ t.crs = s.crs ∧ t.tickets = s.tickets ∧
    t.lastTicket = s.lastTicket ∧ t.solver = s.solver ∧ BlkPair s t ∧ BlkIo s t ∧ loopsCore t.loops = loopsCore
    s.loops ∧ timeCore t.time = timeCore s.time ∧ evCore t.ev = evCore s.ev
abbrev But_md_intake (s t : State) : Prop := BlkStart s t ∧ BlkProg s t ∧ BlkPair s t ∧ BlkIo s t ∧ loopsCore t.loops
    = loopsCore s.loops ∧ timeCore t.time = timeCore s.time ∧ t.net = s.net ∧ evCore t.ev = evCore s.ev
abbrev But_md_kiln_crs_exch_loops_pair_intake (s t : State) : Prop := t.pending = s.pending ∧ t.btn = s.btn ∧ t.set =
    s.set ∧ t.sec = s.sec ∧ t.sup = s.sup ∧ t.free = s.free ∧ t.tickets = s.tickets ∧ t.lastTicket = s.lastTicket ∧
    t.solver = s.solver ∧ mortarCore t.mortar = mortarCore s.mortar ∧ t.safe = s.safe ∧ BlkIo s t ∧ timeCore t.time =
    timeCore s.time ∧ t.net = s.net ∧ evCore t.ev = evCore s.ev
abbrev But_md_kiln_crs_exch_loops_solver_pair_mortar_safe_field_can_net_intake_panel_panel2_free (s t : State) : Prop
    := t.pending = s.pending ∧ t.btn = s.btn ∧ t.set = s.set ∧ t.sec = s.sec ∧ t.sup = s.sup ∧ t.tickets = s.tickets ∧
    t.lastTicket = s.lastTicket ∧ t.ring = s.ring ∧ timeCore t.time = timeCore s.time ∧ evCore t.ev = evCore s.ev
abbrev But_md_kiln_crs_exch_loops_solver_pair_safe_field_can_net_ev_intake_panel_panel2_free (s t : State) : Prop :=
    t.pending = s.pending ∧ t.btn = s.btn ∧ t.set = s.set ∧ t.sec = s.sec ∧ t.sup = s.sup ∧ t.tickets = s.tickets ∧
    t.lastTicket = s.lastTicket ∧ mortarCore t.mortar = mortarCore s.mortar ∧ t.ring = s.ring ∧ timeCore t.time =
    timeCore s.time
abbrev But_md_kiln_crs_exch_loops_solver_pair_safe_field_can_net_intake_panel_panel2_free (s t : State) : Prop :=
    t.pending = s.pending ∧ t.btn = s.btn ∧ t.set = s.set ∧ t.sec = s.sec ∧ t.sup = s.sup ∧ t.tickets = s.tickets ∧
    t.lastTicket = s.lastTicket ∧ mortarCore t.mortar = mortarCore s.mortar ∧ t.ring = s.ring ∧ timeCore t.time =
    timeCore s.time ∧ evCore t.ev = evCore s.ev
abbrev But_md_kiln_crs_exch_tickets_loops_solver_pair_mortar_safe_field_can_net_intake_panel_panel2_free (s t : State)
    : Prop := t.pending = s.pending ∧ t.btn = s.btn ∧ t.set = s.set ∧ t.sec = s.sec ∧ t.sup = s.sup ∧ t.lastTicket =
    s.lastTicket ∧ t.ring = s.ring ∧ timeCore t.time = timeCore s.time ∧ evCore t.ev = evCore s.ev
abbrev But_md_kiln_crs_exch_tickets_loops_solver_pair_mortar_safe_field_can_time_net_intake_panel_panel2_free (s t :
    State) : Prop := t.pending = s.pending ∧ t.btn = s.btn ∧ t.set = s.set ∧ t.sec = s.sec ∧ t.sup = s.sup ∧
    t.lastTicket = s.lastTicket ∧ t.ring = s.ring ∧ evCore t.ev = evCore s.ev
abbrev But_md_kiln_crs_exch_tickets_loops_solver_pair_safe_field_ring_can_net_ev_intake_sec_panel_panel2_free (s t :
    State) : Prop := t.pending = s.pending ∧ t.btn = s.btn ∧ t.set = s.set ∧ t.sup = s.sup ∧ t.lastTicket =
    s.lastTicket ∧ mortarCore t.mortar = mortarCore s.mortar ∧ timeCore t.time = timeCore s.time
abbrev But_md_kiln_crs_exch_tickets_loops_solver_pair_safe_field_ring_can_net_intake_panel_panel2_free (s t : State) :
    Prop := t.pending = s.pending ∧ t.btn = s.btn ∧ t.set = s.set ∧ t.sec = s.sec ∧ t.sup = s.sup ∧ t.lastTicket =
    s.lastTicket ∧ mortarCore t.mortar = mortarCore s.mortar ∧ timeCore t.time = timeCore s.time ∧ evCore t.ev =
    evCore s.ev
abbrev But_md_kiln_set_crs_exch_loops_solver_pair_mortar_can_net_intake_panel2 (s t : State) : Prop := t.pending =
    s.pending ∧ t.btn = s.btn ∧ t.sec = s.sec ∧ t.sup = s.sup ∧ t.free = s.free ∧ t.tickets = s.tickets ∧ t.lastTicket
    = s.lastTicket ∧ t.safe = s.safe ∧ t.field = s.field ∧ t.ring = s.ring ∧ t.panel = s.panel ∧ timeCore t.time =
    timeCore s.time ∧ evCore t.ev = evCore s.ev
abbrev But_md_kiln_set_crs_exch_tickets_lastTicket_loops_solver_pair_field_can_time_net_ev_intake_sec_panel (s t :
    State) : Prop := t.pending = s.pending ∧ t.btn = s.btn ∧ t.sup = s.sup ∧ t.free = s.free ∧ mortarCore t.mortar =
    mortarCore s.mortar ∧ t.safe = s.safe ∧ t.ring = s.ring ∧ t.panel2 = s.panel2
abbrev But_md_kiln_set_crs_exch_tickets_loops_solver_pair_mortar_field_ring_can_net_intake_panel_panel2_free (s t :
    State) : Prop := t.pending = s.pending ∧ t.btn = s.btn ∧ t.sec = s.sec ∧ t.sup = s.sup ∧ t.lastTicket =
    s.lastTicket ∧ t.safe = s.safe ∧ timeCore t.time = timeCore s.time ∧ evCore t.ev = evCore s.ev
abbrev But_md_kiln_set_crs_exch_tickets_loops_solver_pair_mortar_safe_field_can_net_intake_panel_panel2_free (s t :
    State) : Prop := t.pending = s.pending ∧ t.btn = s.btn ∧ t.sec = s.sec ∧ t.sup = s.sup ∧ t.lastTicket =
    s.lastTicket ∧ t.ring = s.ring ∧ timeCore t.time = timeCore s.time ∧ evCore t.ev = evCore s.ev
abbrev But_md_kiln_set_crs_exch_tickets_loops_solver_pair_mortar_safe_field_can_time_net_intake_panel_panel2_free (s t
    : State) : Prop := t.pending = s.pending ∧ t.btn = s.btn ∧ t.sec = s.sec ∧ t.sup = s.sup ∧ t.lastTicket =
    s.lastTicket ∧ t.ring = s.ring ∧ evCore t.ev = evCore s.ev
abbrev But_md_kiln_set_crs_exch_tickets_loops_solver_pair_mortar_safe_field_ring_can_net_ev_intake_panel_panel2_free
    (s t : State) : Prop := t.pending = s.pending ∧ t.btn = s.btn ∧ t.sec = s.sec ∧ t.sup = s.sup ∧ t.lastTicket =
    s.lastTicket ∧ timeCore t.time = timeCore s.time
abbrev But_md_kiln_set_crs_exch_tickets_loops_solver_pair_mortar_safe_field_ring_can_net_intake_panel_panel2_free (s t
    : State) : Prop := t.pending = s.pending ∧ t.btn = s.btn ∧ t.sec = s.sec ∧ t.sup = s.sup ∧ t.lastTicket =
    s.lastTicket ∧ timeCore t.time = timeCore s.time ∧ evCore t.ev = evCore s.ev
abbrev
    But_md_kiln_set_crs_exch_tickets_loops_solver_pair_mortar_safe_field_ring_can_time_net_ev_intake_sec_panel_panel2_free
    (s t : State) : Prop := t.pending = s.pending ∧ t.btn = s.btn ∧ t.sup = s.sup ∧ t.lastTicket = s.lastTicket
abbrev But_md_kiln_set_crs_exch_tickets_loops_solver_pair_mortar_safe_field_ring_can_time_net_intake_panel_panel2_free
    (s t : State) : Prop := t.pending = s.pending ∧ t.btn = s.btn ∧ t.sec = s.sec ∧ t.sup = s.sup ∧ t.lastTicket =
    s.lastTicket ∧ evCore t.ev = evCore s.ev
abbrev But_md_kiln_set_crs_exch_tickets_loops_solver_pair_safe_field_ring_can_net_intake_panel_panel2_free (s t :
    State) : Prop := t.pending = s.pending ∧ t.btn = s.btn ∧ t.sec = s.sec ∧ t.sup = s.sup ∧ t.lastTicket =
    s.lastTicket ∧ mortarCore t.mortar = mortarCore s.mortar ∧ timeCore t.time = timeCore s.time ∧ evCore t.ev =
    evCore s.ev
abbrev But_md_kiln_set_crs_exch_tickets_loops_solver_pair_safe_field_ring_can_net_intake_sec_panel_panel2_free (s t :
    State) : Prop := t.pending = s.pending ∧ t.btn = s.btn ∧ t.sup = s.sup ∧ t.lastTicket = s.lastTicket ∧ mortarCore
    t.mortar = mortarCore s.mortar ∧ timeCore t.time = timeCore s.time ∧ evCore t.ev = evCore s.ev
abbrev But_md_loops_net_intake (s t : State) : Prop := BlkStart s t ∧ BlkProg s t ∧ BlkPair s t ∧ BlkIo s t ∧ timeCore
    t.time = timeCore s.time ∧ evCore t.ev = evCore s.ev
abbrev But_md_net (s t : State) : Prop := BlkStart s t ∧ BlkProg s t ∧ BlkPair s t ∧ BlkIo s t ∧ loopsCore t.loops =
    loopsCore s.loops ∧ timeCore t.time = timeCore s.time ∧ evCore t.ev = evCore s.ev ∧ t.ev.intake = s.ev.intake
abbrev But_md_net_intake (s t : State) : Prop := BlkStart s t ∧ BlkProg s t ∧ BlkPair s t ∧ BlkIo s t ∧ loopsCore
    t.loops = loopsCore s.loops ∧ timeCore t.time = timeCore s.time ∧ evCore t.ev = evCore s.ev
abbrev But_md_pair_can_net_intake_panel_panel2 (s t : State) : Prop := BlkStart s t ∧ BlkProg s t ∧ mortarCore
    t.mortar = mortarCore s.mortar ∧ t.safe = s.safe ∧ t.field = s.field ∧ t.ring = s.ring ∧ loopsCore t.loops =
    loopsCore s.loops ∧ timeCore t.time = timeCore s.time ∧ evCore t.ev = evCore s.ev
abbrev But_md_pair_panel (s t : State) : Prop := BlkStart s t ∧ BlkProg s t ∧ mortarCore t.mortar = mortarCore
    s.mortar ∧ t.safe = s.safe ∧ t.field = s.field ∧ t.ring = s.ring ∧ t.can = s.can ∧ t.panel2 = s.panel2 ∧ loopsCore
    t.loops = loopsCore s.loops ∧ timeCore t.time = timeCore s.time ∧ t.net = s.net ∧ evCore t.ev = evCore s.ev ∧
    t.ev.intake = s.ev.intake
abbrev But_md_safe_intake (s t : State) : Prop := BlkStart s t ∧ BlkProg s t ∧ t.pair = s.pair ∧ mortarCore t.mortar =
    mortarCore s.mortar ∧ BlkIo s t ∧ loopsCore t.loops = loopsCore s.loops ∧ timeCore t.time = timeCore s.time ∧
    t.net = s.net ∧ evCore t.ev = evCore s.ev
abbrev But_md_set_crs_exch_tickets_loops_solver_pair_mortar_safe_field_can_time_net_ev_intake_sec_panel_panel2 (s t :
    State) : Prop := t.pending = s.pending ∧ t.btn = s.btn ∧ t.kiln = s.kiln ∧ t.sup = s.sup ∧ t.free = s.free ∧
    t.lastTicket = s.lastTicket ∧ t.ring = s.ring
abbrev But_md_set_crs_exch_tickets_loops_solver_pair_mortar_safe_field_can_time_net_ev_sec_panel_panel2 (s t : State)
    : Prop := t.pending = s.pending ∧ t.btn = s.btn ∧ t.kiln = s.kiln ∧ t.sup = s.sup ∧ t.free = s.free ∧ t.lastTicket
    = s.lastTicket ∧ t.ring = s.ring ∧ t.ev.intake = s.ev.intake
abbrev But_md_tickets_loops (s t : State) : Prop := BlkStart s t ∧ t.crs = s.crs ∧ t.exch = s.exch ∧ t.lastTicket =
    s.lastTicket ∧ t.solver = s.solver ∧ BlkPair s t ∧ BlkIo s t ∧ timeCore t.time = timeCore s.time ∧ t.net = s.net ∧
    evCore t.ev = evCore s.ev ∧ t.ev.intake = s.ev.intake
abbrev But_md_tickets_loops_solver_pair_mortar_safe_time_net (s t : State) : Prop := BlkStart s t ∧ t.crs = s.crs ∧
    t.exch = s.exch ∧ t.lastTicket = s.lastTicket ∧ BlkIo s t ∧ evCore t.ev = evCore s.ev ∧ t.ev.intake = s.ev.intake
abbrev But_mortar (s t : State) : Prop := BlkStart s t ∧ BlkProg s t ∧ t.pair = s.pair ∧ t.safe = s.safe ∧ BlkIo s t ∧
    BlkRest s t
abbrev But_mortar_net (s t : State) : Prop := BlkStart s t ∧ BlkProg s t ∧ t.pair = s.pair ∧ t.safe = s.safe ∧ BlkIo s
    t ∧ t.md = s.md ∧ loopsCore t.loops = loopsCore s.loops ∧ timeCore t.time = timeCore s.time ∧ evCore t.ev = evCore
    s.ev ∧ t.ev.intake = s.ev.intake
abbrev But_net (s t : State) : Prop := BlkStart s t ∧ BlkProg s t ∧ BlkPair s t ∧ BlkIo s t ∧ t.md = s.md ∧ loopsCore
    t.loops = loopsCore s.loops ∧ timeCore t.time = timeCore s.time ∧ evCore t.ev = evCore s.ev ∧ t.ev.intake =
    s.ev.intake
abbrev But_net_ev (s t : State) : Prop := BlkStart s t ∧ BlkProg s t ∧ BlkPair s t ∧ BlkIo s t ∧ t.md = s.md ∧
    loopsCore t.loops = loopsCore s.loops ∧ timeCore t.time = timeCore s.time ∧ t.ev.intake = s.ev.intake
abbrev But_net_ev_intake (s t : State) : Prop := BlkStart s t ∧ BlkProg s t ∧ BlkPair s t ∧ BlkIo s t ∧ t.md = s.md ∧
    loopsCore t.loops = loopsCore s.loops ∧ timeCore t.time = timeCore s.time
abbrev But_net_intake (s t : State) : Prop := BlkStart s t ∧ BlkProg s t ∧ BlkPair s t ∧ BlkIo s t ∧ t.md = s.md ∧
    loopsCore t.loops = loopsCore s.loops ∧ timeCore t.time = timeCore s.time ∧ evCore t.ev = evCore s.ev
abbrev But_net_intake_panel (s t : State) : Prop := BlkStart s t ∧ BlkProg s t ∧ BlkPair s t ∧ t.field = s.field ∧
    t.ring = s.ring ∧ t.can = s.can ∧ t.panel2 = s.panel2 ∧ t.md = s.md ∧ loopsCore t.loops = loopsCore s.loops ∧
    timeCore t.time = timeCore s.time ∧ evCore t.ev = evCore s.ev
abbrev But_net_intake_panel_panel2 (s t : State) : Prop := BlkStart s t ∧ BlkProg s t ∧ BlkPair s t ∧ t.field =
    s.field ∧ t.ring = s.ring ∧ t.can = s.can ∧ t.md = s.md ∧ loopsCore t.loops = loopsCore s.loops ∧ timeCore t.time
    = timeCore s.time ∧ evCore t.ev = evCore s.ev
abbrev But_net_intake_sec (s t : State) : Prop := t.pending = s.pending ∧ t.btn = s.btn ∧ t.kiln = s.kiln ∧ t.set =
    s.set ∧ t.sup = s.sup ∧ t.free = s.free ∧ BlkProg s t ∧ BlkPair s t ∧ BlkIo s t ∧ t.md = s.md ∧ loopsCore t.loops
    = loopsCore s.loops ∧ timeCore t.time = timeCore s.time ∧ evCore t.ev = evCore s.ev
abbrev But_net_panel2 (s t : State) : Prop := BlkStart s t ∧ BlkProg s t ∧ BlkPair s t ∧ t.field = s.field ∧ t.ring =
    s.ring ∧ t.can = s.can ∧ t.panel = s.panel ∧ t.md = s.md ∧ loopsCore t.loops = loopsCore s.loops ∧ timeCore t.time
    = timeCore s.time ∧ evCore t.ev = evCore s.ev ∧ t.ev.intake = s.ev.intake
abbrev But_pair (s t : State) : Prop := BlkStart s t ∧ BlkProg s t ∧ mortarCore t.mortar = mortarCore s.mortar ∧
    t.safe = s.safe ∧ BlkIo s t ∧ BlkRest s t
abbrev But_pair_ev_intake (s t : State) : Prop := BlkStart s t ∧ BlkProg s t ∧ mortarCore t.mortar = mortarCore
    s.mortar ∧ t.safe = s.safe ∧ BlkIo s t ∧ t.md = s.md ∧ loopsCore t.loops = loopsCore s.loops ∧ timeCore t.time =
    timeCore s.time ∧ t.net = s.net
abbrev But_pair_field_intake (s t : State) : Prop := BlkStart s t ∧ BlkProg s t ∧ mortarCore t.mortar = mortarCore
    s.mortar ∧ t.safe = s.safe ∧ t.ring = s.ring ∧ t.can = s.can ∧ t.panel = s.panel ∧ t.panel2 = s.panel2 ∧ t.md =
    s.md ∧ loopsCore t.loops = loopsCore s.loops ∧ timeCore t.time = timeCore s.time ∧ t.net = s.net ∧ evCore t.ev =
    evCore s.ev
abbrev But_pair_intake (s t : State) : Prop := BlkStart s t ∧ BlkProg s t ∧ mortarCore t.mortar = mortarCore s.mortar
    ∧ t.safe = s.safe ∧ BlkIo s t ∧ t.md = s.md ∧ loopsCore t.loops = loopsCore s.loops ∧ timeCore t.time = timeCore
    s.time ∧ t.net = s.net ∧ evCore t.ev = evCore s.ev
abbrev But_pair_mortar_can_time_net_intake_panel_panel2 (s t : State) : Prop := BlkStart s t ∧ BlkProg s t ∧ t.safe =
    s.safe ∧ t.field = s.field ∧ t.ring = s.ring ∧ t.md = s.md ∧ loopsCore t.loops = loopsCore s.loops ∧ evCore t.ev =
    evCore s.ev
abbrev But_pair_mortar_field_intake (s t : State) : Prop := BlkStart s t ∧ BlkProg s t ∧ t.safe = s.safe ∧ t.ring =
    s.ring ∧ t.can = s.can ∧ t.panel = s.panel ∧ t.panel2 = s.panel2 ∧ t.md = s.md ∧ loopsCore t.loops = loopsCore
    s.loops ∧ timeCore t.time = timeCore s.time ∧ t.net = s.net ∧ evCore t.ev = evCore s.ev
abbrev But_pair_net (s t : State) : Prop := BlkStart s t ∧ BlkProg s t ∧ mortarCore t.mortar = mortarCore s.mortar ∧
    t.safe = s.safe ∧ BlkIo s t ∧ t.md = s.md ∧ loopsCore t.loops = loopsCore s.loops ∧ timeCore t.time = timeCore
    s.time ∧ evCore t.ev = evCore s.ev ∧ t.ev.intake = s.ev.intake
abbrev But_pair_net_intake (s t : State) : Prop := BlkStart s t ∧ BlkProg s t ∧ mortarCore t.mortar = mortarCore
    s.mortar ∧ t.safe = s.safe ∧ BlkIo s t ∧ t.md = s.md ∧ loopsCore t.loops = loopsCore s.loops ∧ timeCore t.time =
    timeCore s.time ∧ evCore t.ev = evCore s.ev
abbrev But_panel (s t : State) : Prop := BlkStart s t ∧ BlkProg s t ∧ BlkPair s t ∧ t.field = s.field ∧ t.ring =
    s.ring ∧ t.can = s.can ∧ t.panel2 = s.panel2 ∧ BlkRest s t
abbrev But_panel_panel2 (s t : State) : Prop := BlkStart s t ∧ BlkProg s t ∧ BlkPair s t ∧ t.field = s.field ∧ t.ring
    = s.ring ∧ t.can = s.can ∧ BlkRest s t
abbrev But_panel2 (s t : State) : Prop := BlkStart s t ∧ BlkProg s t ∧ BlkPair s t ∧ t.field = s.field ∧ t.ring =
    s.ring ∧ t.can = s.can ∧ t.panel = s.panel ∧ BlkRest s t
abbrev But_pending (s t : State) : Prop := t.btn = s.btn ∧ t.kiln = s.kiln ∧ t.set = s.set ∧ t.sec = s.sec ∧ t.sup =
    s.sup ∧ t.free = s.free ∧ BlkProg s t ∧ BlkPair s t ∧ BlkIo s t ∧ BlkRest s t
abbrev But_ring (s t : State) : Prop := BlkStart s t ∧ BlkProg s t ∧ BlkPair s t ∧ t.field = s.field ∧ t.can = s.can ∧
    t.panel = s.panel ∧ t.panel2 = s.panel2 ∧ BlkRest s t
abbrev But_ring_can_panel_panel2 (s t : State) : Prop := BlkStart s t ∧ BlkProg s t ∧ BlkPair s t ∧ t.field = s.field
    ∧ BlkRest s t
abbrev But_ring_intake (s t : State) : Prop := BlkStart s t ∧ BlkProg s t ∧ BlkPair s t ∧ t.field = s.field ∧ t.can =
    s.can ∧ t.panel = s.panel ∧ t.panel2 = s.panel2 ∧ t.md = s.md ∧ loopsCore t.loops = loopsCore s.loops ∧ timeCore
    t.time = timeCore s.time ∧ t.net = s.net ∧ evCore t.ev = evCore s.ev
abbrev But_ring_intake_free (s t : State) : Prop := t.pending = s.pending ∧ t.btn = s.btn ∧ t.kiln = s.kiln ∧ t.set =
    s.set ∧ t.sec = s.sec ∧ t.sup = s.sup ∧ BlkProg s t ∧ BlkPair s t ∧ t.field = s.field ∧ t.can = s.can ∧ t.panel =
    s.panel ∧ t.panel2 = s.panel2 ∧ t.md = s.md ∧ loopsCore t.loops = loopsCore s.loops ∧ timeCore t.time = timeCore
    s.time ∧ t.net = s.net ∧ evCore t.ev = evCore s.ev
abbrev But_ring_net_intake (s t : State) : Prop := BlkStart s t ∧ BlkProg s t ∧ BlkPair s t ∧ t.field = s.field ∧
    t.can = s.can ∧ t.panel = s.panel ∧ t.panel2 = s.panel2 ∧ t.md = s.md ∧ loopsCore t.loops = loopsCore s.loops ∧
    timeCore t.time = timeCore s.time ∧ evCore t.ev = evCore s.ev
abbrev But_safe (s t : State) : Prop := BlkStart s t ∧ BlkProg s t ∧ t.pair = s.pair ∧ mortarCore t.mortar =
    mortarCore s.mortar ∧ BlkIo s t ∧ BlkRest s t
abbrev But_safe_field_ring (s t : State) : Prop := BlkStart s t ∧ BlkProg s t ∧ t.pair = s.pair ∧ mortarCore t.mortar
    = mortarCore s.mortar ∧ t.can = s.can ∧ t.panel = s.panel ∧ t.panel2 = s.panel2 ∧ BlkRest s t
abbrev But_safe_intake (s t : State) : Prop := BlkStart s t ∧ BlkProg s t ∧ t.pair = s.pair ∧ mortarCore t.mortar =
    mortarCore s.mortar ∧ BlkIo s t ∧ t.md = s.md ∧ loopsCore t.loops = loopsCore s.loops ∧ timeCore t.time = timeCore
    s.time ∧ t.net = s.net ∧ evCore t.ev = evCore s.ev
abbrev But_safe_ring_intake_free (s t : State) : Prop := t.pending = s.pending ∧ t.btn = s.btn ∧ t.kiln = s.kiln ∧
    t.set = s.set ∧ t.sec = s.sec ∧ t.sup = s.sup ∧ BlkProg s t ∧ t.pair = s.pair ∧ mortarCore t.mortar = mortarCore
    s.mortar ∧ t.field = s.field ∧ t.can = s.can ∧ t.panel = s.panel ∧ t.panel2 = s.panel2 ∧ t.md = s.md ∧ loopsCore
    t.loops = loopsCore s.loops ∧ timeCore t.time = timeCore s.time ∧ t.net = s.net ∧ evCore t.ev = evCore s.ev
abbrev But_sec (s t : State) : Prop := t.pending = s.pending ∧ t.btn = s.btn ∧ t.kiln = s.kiln ∧ t.set = s.set ∧ t.sup
    = s.sup ∧ t.free = s.free ∧ BlkProg s t ∧ BlkPair s t ∧ BlkIo s t ∧ BlkRest s t
abbrev But_set (s t : State) : Prop := t.pending = s.pending ∧ t.btn = s.btn ∧ t.kiln = s.kiln ∧ t.sec = s.sec ∧ t.sup
    = s.sup ∧ t.free = s.free ∧ BlkProg s t ∧ BlkPair s t ∧ BlkIo s t ∧ BlkRest s t
abbrev But_set_crs_exch (s t : State) : Prop := t.pending = s.pending ∧ t.btn = s.btn ∧ t.kiln = s.kiln ∧ t.sec =
    s.sec ∧ t.sup = s.sup ∧ t.free = s.free ∧ t.tickets = s.tickets ∧ t.lastTicket = s.lastTicket ∧ t.solver =
    s.solver ∧ BlkPair s t ∧ BlkIo s t ∧ BlkRest s t
abbrev But_set_crs_loops (s t : State) : Prop := t.pending = s.pending ∧ t.btn = s.btn ∧ t.kiln = s.kiln ∧ t.sec =
    s.sec ∧ t.sup = s.sup ∧ t.free = s.free ∧ t.exch = s.exch ∧ t.tickets = s.tickets ∧ t.lastTicket = s.lastTicket ∧
    t.solver = s.solver ∧ BlkPair s t ∧ BlkIo s t ∧ t.md = s.md ∧ timeCore t.time = timeCore s.time ∧ t.net = s.net ∧
    evCore t.ev = evCore s.ev ∧ t.ev.intake = s.ev.intake
abbrev But_set_crs_loops_net_intake (s t : State) : Prop := t.pending = s.pending ∧ t.btn = s.btn ∧ t.kiln = s.kiln ∧
    t.sec = s.sec ∧ t.sup = s.sup ∧ t.free = s.free ∧ t.exch = s.exch ∧ t.tickets = s.tickets ∧ t.lastTicket =
    s.lastTicket ∧ t.solver = s.solver ∧ BlkPair s t ∧ BlkIo s t ∧ t.md = s.md ∧ timeCore t.time = timeCore s.time ∧
    evCore t.ev = evCore s.ev
abbrev But_set_crs_mortar (s t : State) : Prop := t.pending = s.pending ∧ t.btn = s.btn ∧ t.kiln = s.kiln ∧ t.sec =
    s.sec ∧ t.sup = s.sup ∧ t.free = s.free ∧ t.exch = s.exch ∧ t.tickets = s.tickets ∧ t.lastTicket = s.lastTicket ∧
    t.solver = s.solver ∧ t.pair = s.pair ∧ t.safe = s.safe ∧ BlkIo s t ∧ BlkRest s t
abbrev But_set_crs_mortar_net (s t : State) : Prop := t.pending = s.pending ∧ t.btn = s.btn ∧ t.kiln = s.kiln ∧ t.sec
    = s.sec ∧ t.sup = s.sup ∧ t.free = s.free ∧ t.exch = s.exch ∧ t.tickets = s.tickets ∧ t.lastTicket = s.lastTicket
    ∧ t.solver = s.solver ∧ t.pair = s.pair ∧ t.safe = s.safe ∧ BlkIo s t ∧ t.md = s.md ∧ loopsCore t.loops =
    loopsCore s.loops ∧ timeCore t.time = timeCore s.time ∧ evCore t.ev = evCore s.ev ∧ t.ev.intake = s.ev.intake
abbrev But_set_crs_net (s t : State) : Prop := t.pending = s.pending ∧ t.btn = s.btn ∧ t.kiln = s.kiln ∧ t.sec = s.sec
    ∧ t.sup = s.sup ∧ t.free = s.free ∧ t.exch = s.exch ∧ t.tickets = s.tickets ∧ t.lastTicket = s.lastTicket ∧
    t.solver = s.solver ∧ BlkPair s t ∧ BlkIo s t ∧ t.md = s.md ∧ loopsCore t.loops = loopsCore s.loops ∧ timeCore
    t.time = timeCore s.time ∧ evCore t.ev = evCore s.ev ∧ t.ev.intake = s.ev.intake
abbrev But_set_intake (s t : State) : Prop := t.pending = s.pending ∧ t.btn = s.btn ∧ t.kiln = s.kiln ∧ t.sec = s.sec
    ∧ t.sup = s.sup ∧ t.free = s.free ∧ BlkProg s t ∧ BlkPair s t ∧ BlkIo s t ∧ t.md = s.md ∧ loopsCore t.loops =
    loopsCore s.loops ∧ timeCore t.time = timeCore s.time ∧ t.net = s.net ∧ evCore t.ev = evCore s.ev
abbrev But_set_loops_intake (s t : State) : Prop := t.pending = s.pending ∧ t.btn = s.btn ∧ t.kiln = s.kiln ∧ t.sec =
    s.sec ∧ t.sup = s.sup ∧ t.free = s.free ∧ BlkProg s t ∧ BlkPair s t ∧ BlkIo s t ∧ t.md = s.md ∧ timeCore t.time =
    timeCore s.time ∧ t.net = s.net ∧ evCore t.ev = evCore s.ev
abbrev But_set_net (s t : State) : Prop := t.pending = s.pending ∧ t.btn = s.btn ∧ t.kiln = s.kiln ∧ t.sec = s.sec ∧
    t.sup = s.sup ∧ t.free = s.free ∧ BlkProg s t ∧ BlkPair s t ∧ BlkIo s t ∧ t.md = s.md ∧ loopsCore t.loops =
    loopsCore s.loops ∧ timeCore t.time = timeCore s.time ∧ evCore t.ev = evCore s.ev ∧ t.ev.intake = s.ev.intake
abbrev But_set_net_intake (s t : State) : Prop := t.pending = s.pending ∧ t.btn = s.btn ∧ t.kiln = s.kiln ∧ t.sec =
    s.sec ∧ t.sup = s.sup ∧ t.free = s.free ∧ BlkProg s t ∧ BlkPair s t ∧ BlkIo s t ∧ t.md = s.md ∧ loopsCore t.loops
    = loopsCore s.loops ∧ timeCore t.time = timeCore s.time ∧ evCore t.ev = evCore s.ev
abbrev But_solver (s t : State) : Prop := BlkStart s t ∧ t.crs = s.crs ∧ t.exch = s.exch ∧ t.tickets = s.tickets ∧
    t.lastTicket = s.lastTicket ∧ BlkPair s t ∧ BlkIo s t ∧ BlkRest s t
abbrev But_solver_ev (s t : State) : Prop := BlkStart s t ∧ t.crs = s.crs ∧ t.exch = s.exch ∧ t.tickets = s.tickets ∧
    t.lastTicket = s.lastTicket ∧ BlkPair s t ∧ BlkIo s t ∧ t.md = s.md ∧ loopsCore t.loops = loopsCore s.loops ∧
    timeCore t.time = timeCore s.time ∧ t.net = s.net ∧ t.ev.intake = s.ev.intake
abbrev But_solver_intake (s t : State) : Prop := BlkStart s t ∧ t.crs = s.crs ∧ t.exch = s.exch ∧ t.tickets =
    s.tickets ∧ t.lastTicket = s.lastTicket ∧ BlkPair s t ∧ BlkIo s t ∧ t.md = s.md ∧ loopsCore t.loops = loopsCore
    s.loops ∧ timeCore t.time = timeCore s.time ∧ t.net = s.net ∧ evCore t.ev = evCore s.ev
abbrev But_solver_net_intake (s t : State) : Prop := BlkStart s t ∧ t.crs = s.crs ∧ t.exch = s.exch ∧ t.tickets =
    s.tickets ∧ t.lastTicket = s.lastTicket ∧ BlkPair s t ∧ BlkIo s t ∧ t.md = s.md ∧ loopsCore t.loops = loopsCore
    s.loops ∧ timeCore t.time = timeCore s.time ∧ evCore t.ev = evCore s.ev
abbrev But_tickets (s t : State) : Prop := BlkStart s t ∧ t.crs = s.crs ∧ t.exch = s.exch ∧ t.lastTicket =
    s.lastTicket ∧ t.solver = s.solver ∧ BlkPair s t ∧ BlkIo s t ∧ BlkRest s t
abbrev But_tickets_lastTicket_net_intake (s t : State) : Prop := BlkStart s t ∧ t.crs = s.crs ∧ t.exch = s.exch ∧
    t.solver = s.solver ∧ BlkPair s t ∧ BlkIo s t ∧ t.md = s.md ∧ loopsCore t.loops = loopsCore s.loops ∧ timeCore
    t.time = timeCore s.time ∧ evCore t.ev = evCore s.ev
abbrev But_tickets_loops (s t : State) : Prop := BlkStart s t ∧ t.crs = s.crs ∧ t.exch = s.exch ∧ t.lastTicket =
    s.lastTicket ∧ t.solver = s.solver ∧ BlkPair s t ∧ BlkIo s t ∧ t.md = s.md ∧ timeCore t.time = timeCore s.time ∧
    t.net = s.net ∧ evCore t.ev = evCore s.ev ∧ t.ev.intake = s.ev.intake
abbrev But_tickets_loops_pair_net_intake (s t : State) : Prop := BlkStart s t ∧ t.crs = s.crs ∧ t.exch = s.exch ∧
    t.lastTicket = s.lastTicket ∧ t.solver = s.solver ∧ mortarCore t.mortar = mortarCore s.mortar ∧ t.safe = s.safe ∧
    BlkIo s t ∧ t.md = s.md ∧ timeCore t.time = timeCore s.time ∧ evCore t.ev = evCore s.ev
abbrev But_tickets_net_intake (s t : State) : Prop := BlkStart s t ∧ t.crs = s.crs ∧ t.exch = s.exch ∧ t.lastTicket =
    s.lastTicket ∧ t.solver = s.solver ∧ BlkPair s t ∧ BlkIo s t ∧ t.md = s.md ∧ loopsCore t.loops = loopsCore s.loops
    ∧ timeCore t.time = timeCore s.time ∧ evCore t.ev = evCore s.ev
abbrev But_tickets_pair_net_intake (s t : State) : Prop := BlkStart s t ∧ t.crs = s.crs ∧ t.exch = s.exch ∧
    t.lastTicket = s.lastTicket ∧ t.solver = s.solver ∧ mortarCore t.mortar = mortarCore s.mortar ∧ t.safe = s.safe ∧
    BlkIo s t ∧ t.md = s.md ∧ loopsCore t.loops = loopsCore s.loops ∧ timeCore t.time = timeCore s.time ∧ evCore t.ev
    = evCore s.ev
abbrev But_tickets_solver_pair_net_intake (s t : State) : Prop := BlkStart s t ∧ t.crs = s.crs ∧ t.exch = s.exch ∧
    t.lastTicket = s.lastTicket ∧ mortarCore t.mortar = mortarCore s.mortar ∧ t.safe = s.safe ∧ BlkIo s t ∧ t.md =
    s.md ∧ loopsCore t.loops = loopsCore s.loops ∧ timeCore t.time = timeCore s.time ∧ evCore t.ev = evCore s.ev
abbrev But_time (s t : State) : Prop := BlkStart s t ∧ BlkProg s t ∧ BlkPair s t ∧ BlkIo s t ∧ t.md = s.md ∧ loopsCore
    t.loops = loopsCore s.loops ∧ t.net = s.net ∧ evCore t.ev = evCore s.ev ∧ t.ev.intake = s.ev.intake
abbrev But_time_intake (s t : State) : Prop := BlkStart s t ∧ BlkProg s t ∧ BlkPair s t ∧ BlkIo s t ∧ t.md = s.md ∧
    loopsCore t.loops = loopsCore s.loops ∧ t.net = s.net ∧ evCore t.ev = evCore s.ev
abbrev But_time_net_intake (s t : State) : Prop := BlkStart s t ∧ BlkProg s t ∧ BlkPair s t ∧ BlkIo s t ∧ t.md = s.md
    ∧ loopsCore t.loops = loopsCore s.loops ∧ evCore t.ev = evCore s.ev

/-! ### Folds and choices -/

@[simp] theorem foldl_pending {α : Type} (l : List α) (g : State → α → State) (s : State)
    (h : ∀ u b, (g u b).pending = u.pending) : (l.foldl g s).pending = s.pending := by
  induction l generalizing s with
  | nil => rfl
  | cons b l ih => rw [List.foldl_cons, ih, h]

@[simp] theorem foldl_md {α : Type} (l : List α) (g : State → α → State) (s : State)
    (h : ∀ u b, (g u b).md = u.md) : (l.foldl g s).md = s.md := by
  induction l generalizing s with
  | nil => rfl
  | cons b l ih => rw [List.foldl_cons, ih, h]

@[simp] theorem foldl_btn {α : Type} (l : List α) (g : State → α → State) (s : State)
    (h : ∀ u b, (g u b).btn = u.btn) : (l.foldl g s).btn = s.btn := by
  induction l generalizing s with
  | nil => rfl
  | cons b l ih => rw [List.foldl_cons, ih, h]

@[simp] theorem foldl_kiln {α : Type} (l : List α) (g : State → α → State) (s : State)
    (h : ∀ u b, (g u b).kiln = u.kiln) : (l.foldl g s).kiln = s.kiln := by
  induction l generalizing s with
  | nil => rfl
  | cons b l ih => rw [List.foldl_cons, ih, h]

@[simp] theorem foldl_set {α : Type} (l : List α) (g : State → α → State) (s : State)
    (h : ∀ u b, (g u b).set = u.set) : (l.foldl g s).set = s.set := by
  induction l generalizing s with
  | nil => rfl
  | cons b l ih => rw [List.foldl_cons, ih, h]

@[simp] theorem foldl_crs {α : Type} (l : List α) (g : State → α → State) (s : State)
    (h : ∀ u b, (g u b).crs = u.crs) : (l.foldl g s).crs = s.crs := by
  induction l generalizing s with
  | nil => rfl
  | cons b l ih => rw [List.foldl_cons, ih, h]

@[simp] theorem foldl_exch {α : Type} (l : List α) (g : State → α → State) (s : State)
    (h : ∀ u b, (g u b).exch = u.exch) : (l.foldl g s).exch = s.exch := by
  induction l generalizing s with
  | nil => rfl
  | cons b l ih => rw [List.foldl_cons, ih, h]

@[simp] theorem foldl_tickets {α : Type} (l : List α) (g : State → α → State) (s : State)
    (h : ∀ u b, (g u b).tickets = u.tickets) : (l.foldl g s).tickets = s.tickets := by
  induction l generalizing s with
  | nil => rfl
  | cons b l ih => rw [List.foldl_cons, ih, h]

@[simp] theorem foldl_lastTicket {α : Type} (l : List α) (g : State → α → State) (s : State)
    (h : ∀ u b, (g u b).lastTicket = u.lastTicket) : (l.foldl g s).lastTicket = s.lastTicket := by
  induction l generalizing s with
  | nil => rfl
  | cons b l ih => rw [List.foldl_cons, ih, h]

@[simp] theorem foldl_loops {α : Type} (l : List α) (g : State → α → State) (s : State)
    (h : ∀ u b, loopsCore (g u b).loops = loopsCore u.loops) : loopsCore (l.foldl g s).loops = loopsCore s.loops := by
  induction l generalizing s with
  | nil => rfl
  | cons b l ih => rw [List.foldl_cons, ih, h]

@[simp] theorem foldl_solver {α : Type} (l : List α) (g : State → α → State) (s : State)
    (h : ∀ u b, (g u b).solver = u.solver) : (l.foldl g s).solver = s.solver := by
  induction l generalizing s with
  | nil => rfl
  | cons b l ih => rw [List.foldl_cons, ih, h]

@[simp] theorem foldl_pair {α : Type} (l : List α) (g : State → α → State) (s : State)
    (h : ∀ u b, (g u b).pair = u.pair) : (l.foldl g s).pair = s.pair := by
  induction l generalizing s with
  | nil => rfl
  | cons b l ih => rw [List.foldl_cons, ih, h]

@[simp] theorem foldl_mortar {α : Type} (l : List α) (g : State → α → State) (s : State)
    (h : ∀ u b, mortarCore (g u b).mortar = mortarCore u.mortar) : mortarCore (l.foldl g s).mortar = mortarCore s.mortar := by
  induction l generalizing s with
  | nil => rfl
  | cons b l ih => rw [List.foldl_cons, ih, h]

@[simp] theorem foldl_safe {α : Type} (l : List α) (g : State → α → State) (s : State)
    (h : ∀ u b, (g u b).safe = u.safe) : (l.foldl g s).safe = s.safe := by
  induction l generalizing s with
  | nil => rfl
  | cons b l ih => rw [List.foldl_cons, ih, h]

@[simp] theorem foldl_field {α : Type} (l : List α) (g : State → α → State) (s : State)
    (h : ∀ u b, (g u b).field = u.field) : (l.foldl g s).field = s.field := by
  induction l generalizing s with
  | nil => rfl
  | cons b l ih => rw [List.foldl_cons, ih, h]

@[simp] theorem foldl_ring {α : Type} (l : List α) (g : State → α → State) (s : State)
    (h : ∀ u b, (g u b).ring = u.ring) : (l.foldl g s).ring = s.ring := by
  induction l generalizing s with
  | nil => rfl
  | cons b l ih => rw [List.foldl_cons, ih, h]

@[simp] theorem foldl_can {α : Type} (l : List α) (g : State → α → State) (s : State)
    (h : ∀ u b, (g u b).can = u.can) : (l.foldl g s).can = s.can := by
  induction l generalizing s with
  | nil => rfl
  | cons b l ih => rw [List.foldl_cons, ih, h]

@[simp] theorem foldl_time {α : Type} (l : List α) (g : State → α → State) (s : State)
    (h : ∀ u b, timeCore (g u b).time = timeCore u.time) : timeCore (l.foldl g s).time = timeCore s.time := by
  induction l generalizing s with
  | nil => rfl
  | cons b l ih => rw [List.foldl_cons, ih, h]

@[simp] theorem foldl_net {α : Type} (l : List α) (g : State → α → State) (s : State)
    (h : ∀ u b, (g u b).net = u.net) : (l.foldl g s).net = s.net := by
  induction l generalizing s with
  | nil => rfl
  | cons b l ih => rw [List.foldl_cons, ih, h]

@[simp] theorem foldl_ev {α : Type} (l : List α) (g : State → α → State) (s : State)
    (h : ∀ u b, evCore (g u b).ev = evCore u.ev) : evCore (l.foldl g s).ev = evCore s.ev := by
  induction l generalizing s with
  | nil => rfl
  | cons b l ih => rw [List.foldl_cons, ih, h]

@[simp] theorem foldl_intake {α : Type} (l : List α) (g : State → α → State) (s : State)
    (h : ∀ u b, (g u b).ev.intake = u.ev.intake) : (l.foldl g s).ev.intake = s.ev.intake := by
  induction l generalizing s with
  | nil => rfl
  | cons b l ih => rw [List.foldl_cons, ih, h]

@[simp] theorem foldl_sec {α : Type} (l : List α) (g : State → α → State) (s : State)
    (h : ∀ u b, (g u b).sec = u.sec) : (l.foldl g s).sec = s.sec := by
  induction l generalizing s with
  | nil => rfl
  | cons b l ih => rw [List.foldl_cons, ih, h]

@[simp] theorem foldl_panel {α : Type} (l : List α) (g : State → α → State) (s : State)
    (h : ∀ u b, (g u b).panel = u.panel) : (l.foldl g s).panel = s.panel := by
  induction l generalizing s with
  | nil => rfl
  | cons b l ih => rw [List.foldl_cons, ih, h]

@[simp] theorem foldl_panel2 {α : Type} (l : List α) (g : State → α → State) (s : State)
    (h : ∀ u b, (g u b).panel2 = u.panel2) : (l.foldl g s).panel2 = s.panel2 := by
  induction l generalizing s with
  | nil => rfl
  | cons b l ih => rw [List.foldl_cons, ih, h]

@[simp] theorem foldl_sup {α : Type} (l : List α) (g : State → α → State) (s : State)
    (h : ∀ u b, (g u b).sup = u.sup) : (l.foldl g s).sup = s.sup := by
  induction l generalizing s with
  | nil => rfl
  | cons b l ih => rw [List.foldl_cons, ih, h]

@[simp] theorem foldl_free {α : Type} (l : List α) (g : State → α → State) (s : State)
    (h : ∀ u b, (g u b).free = u.free) : (l.foldl g s).free = s.free := by
  induction l generalizing s with
  | nil => rfl
  | cons b l ih => rw [List.foldl_cons, ih, h]

@[simp] theorem ite_pending (c : Prop) [Decidable c] (x y : State) :
    (if c then x else y).pending = if c then x.pending else y.pending := apply_ite _ _ _ _
@[simp] theorem ite_md (c : Prop) [Decidable c] (x y : State) :
    (if c then x else y).md = if c then x.md else y.md := apply_ite _ _ _ _
@[simp] theorem ite_btn (c : Prop) [Decidable c] (x y : State) :
    (if c then x else y).btn = if c then x.btn else y.btn := apply_ite _ _ _ _
@[simp] theorem ite_kiln (c : Prop) [Decidable c] (x y : State) :
    (if c then x else y).kiln = if c then x.kiln else y.kiln := apply_ite _ _ _ _
@[simp] theorem ite_set (c : Prop) [Decidable c] (x y : State) :
    (if c then x else y).set = if c then x.set else y.set := apply_ite _ _ _ _
@[simp] theorem ite_crs (c : Prop) [Decidable c] (x y : State) :
    (if c then x else y).crs = if c then x.crs else y.crs := apply_ite _ _ _ _
@[simp] theorem ite_exch (c : Prop) [Decidable c] (x y : State) :
    (if c then x else y).exch = if c then x.exch else y.exch := apply_ite _ _ _ _
@[simp] theorem ite_tickets (c : Prop) [Decidable c] (x y : State) :
    (if c then x else y).tickets = if c then x.tickets else y.tickets := apply_ite _ _ _ _
@[simp] theorem ite_lastTicket (c : Prop) [Decidable c] (x y : State) :
    (if c then x else y).lastTicket = if c then x.lastTicket else y.lastTicket := apply_ite _ _ _ _
@[simp] theorem ite_loops (c : Prop) [Decidable c] (x y : State) :
    (if c then x else y).loops = if c then x.loops else y.loops := apply_ite _ _ _ _
@[simp] theorem ite_solver (c : Prop) [Decidable c] (x y : State) :
    (if c then x else y).solver = if c then x.solver else y.solver := apply_ite _ _ _ _
@[simp] theorem ite_pair (c : Prop) [Decidable c] (x y : State) :
    (if c then x else y).pair = if c then x.pair else y.pair := apply_ite _ _ _ _
@[simp] theorem ite_mortar (c : Prop) [Decidable c] (x y : State) :
    (if c then x else y).mortar = if c then x.mortar else y.mortar := apply_ite _ _ _ _
@[simp] theorem ite_safe (c : Prop) [Decidable c] (x y : State) :
    (if c then x else y).safe = if c then x.safe else y.safe := apply_ite _ _ _ _
@[simp] theorem ite_field (c : Prop) [Decidable c] (x y : State) :
    (if c then x else y).field = if c then x.field else y.field := apply_ite _ _ _ _
@[simp] theorem ite_ring (c : Prop) [Decidable c] (x y : State) :
    (if c then x else y).ring = if c then x.ring else y.ring := apply_ite _ _ _ _
@[simp] theorem ite_can (c : Prop) [Decidable c] (x y : State) :
    (if c then x else y).can = if c then x.can else y.can := apply_ite _ _ _ _
@[simp] theorem ite_time (c : Prop) [Decidable c] (x y : State) :
    (if c then x else y).time = if c then x.time else y.time := apply_ite _ _ _ _
@[simp] theorem ite_net (c : Prop) [Decidable c] (x y : State) :
    (if c then x else y).net = if c then x.net else y.net := apply_ite _ _ _ _
@[simp] theorem ite_ev (c : Prop) [Decidable c] (x y : State) :
    (if c then x else y).ev = if c then x.ev else y.ev := apply_ite _ _ _ _
@[simp] theorem ite_sec (c : Prop) [Decidable c] (x y : State) :
    (if c then x else y).sec = if c then x.sec else y.sec := apply_ite _ _ _ _
@[simp] theorem ite_panel (c : Prop) [Decidable c] (x y : State) :
    (if c then x else y).panel = if c then x.panel else y.panel := apply_ite _ _ _ _
@[simp] theorem ite_panel2 (c : Prop) [Decidable c] (x y : State) :
    (if c then x else y).panel2 = if c then x.panel2 else y.panel2 := apply_ite _ _ _ _
@[simp] theorem ite_sup (c : Prop) [Decidable c] (x y : State) :
    (if c then x else y).sup = if c then x.sup else y.sup := apply_ite _ _ _ _
@[simp] theorem ite_free (c : Prop) [Decidable c] (x y : State) :
    (if c then x else y).free = if c then x.free else y.free := apply_ite _ _ _ _
@[simp] theorem ite_loopsCore (c : Prop) [Decidable c] (x y : LoopsSt) :
    loopsCore (if c then x else y) = if c then loopsCore x else loopsCore y := apply_ite _ _ _ _
@[simp] theorem ite_mortarCore (c : Prop) [Decidable c] (x y : MortarSt) :
    mortarCore (if c then x else y) = if c then mortarCore x else mortarCore y := apply_ite _ _ _ _
@[simp] theorem ite_timeCore (c : Prop) [Decidable c] (x y : TimeSt) :
    timeCore (if c then x else y) = if c then timeCore x else timeCore y := apply_ite _ _ _ _
@[simp] theorem ite_evCore (c : Prop) [Decidable c] (x y : EventSt) :
    evCore (if c then x else y) = if c then evCore x else evCore y := apply_ite _ _ _ _
@[simp] theorem ite_intake (c : Prop) [Decidable c] (x y : EventSt) :
    EventSt.intake (if c then x else y) = if c then EventSt.intake x else EventSt.intake y := apply_ite _ _ _ _

theorem foldl_inv {α : Type} {P : State → Prop} (l : List α) (g : State → α → State) (s : State) (h0 : P s)
    (h : ∀ u b, P u → P (g u b)) : P (l.foldl g s) := by
  induction l generalizing s with
  | nil => exact h0
  | cons b l ih => exact ih _ (h _ _ h0)

end Sys2Proof.Machine
end

