-- ==== Sys2Proof/Laws/KeepsOps.lean ====
section
/-! SUPPORT. What the operations of the shared operations and the field channels leave alone, one lemma each. -/

namespace Sys2Proof.Machine

@[simp] theorem setStale_keeps (s : State) (cls n : Nat) : But_pair s (setStale s cls n) := by
  simp only [But_pair, BlkStart, BlkProg, BlkIo, BlkRest]
  simp [setStale]

@[simp] theorem setPhase_keeps (s : State) (ph : Nat) : But_none s (setPhase s ph) := by
  simp [But_none, BlkStart, BlkProg, BlkPair, BlkIo, BlkRest, setPhase, timeCore]

@[simp] theorem mortarCore_sent (m : MortarSt) (n : ChangeSent) : mortarCore { m with sent := n } = mortarCore m := rfl
@[simp] theorem timeCore_phase (m : TimeSt) (n : Nat) : timeCore { m with phase := n } = timeCore m := rfl
@[simp] theorem raiseAt_keeps (s : State) (stamp ev : Nat) (arg : List W32) : But_intake s (raiseAt s stamp ev arg) := by
  simp only [But_intake, BlkStart, BlkProg, BlkPair, BlkIo]
  unfold raiseAt
  try dsimp only
  repeat' split
  all_goals simp [loopsCore, mortarCore, evCore]

@[simp] theorem raise_keeps (s : State) (ev : Nat) (arg : List W32) : But_intake s (raise s ev arg) := by
  simp only [But_intake, BlkStart, BlkProg, BlkPair, BlkIo]
  simp [raise]

@[simp] theorem takeFree_keeps (s : State) : But_free s (takeFree s).2 := by
  simp only [But_free, BlkProg, BlkPair, BlkIo, BlkRest]
  simp [takeFree]

@[simp] theorem setSess_keeps (s : State) (i : Nat) (x : SessSt) : But_net s (setSess s i x) := by
  simp only [But_net, BlkStart, BlkProg, BlkPair, BlkIo]
  simp [setSess]

@[simp] theorem send_keeps (s : State) (m : OutMsg) : But_net s (send s m) := by
  simp only [But_net, BlkStart, BlkProg, BlkPair, BlkIo]
  simp [send]

@[simp] theorem linkRun_keeps (s : State) (lane : Nat) : But_net s (linkRun s lane) := by
  simp only [But_net, BlkStart, BlkProg, BlkPair, BlkIo]
  simp [linkRun]

@[simp] theorem lanePut_keeps (s : State) (lane order bytes : Nat) : But_net s (lanePut s lane order bytes) := by
  simp only [But_net, BlkStart, BlkProg, BlkPair, BlkIo]
  simp [lanePut]

@[simp] theorem laneMove_keeps (s : State) (lane : Nat) : But_net s (laneMove s lane) := by
  simp only [But_net, BlkStart, BlkProg, BlkPair, BlkIo]
  simp [laneMove]

@[simp] theorem linkTick_keeps (s : State) : But_pair_net s (linkTick s) := by
  simp only [But_pair_net, BlkStart, BlkProg, BlkIo]
  simp [linkTick]

@[simp] theorem sendLink_keeps (s : State) (order bytes : Nat) (m : OutMsg) : But_net s (sendLink s order bytes m) :=
    by
  simp only [But_net, BlkStart, BlkProg, BlkPair, BlkIo]
  simp [sendLink]

@[simp] theorem linkMortar_keeps (s : State) (m : Mortar) : But_net s (linkMortar s m) := by
  simp only [But_net, BlkStart, BlkProg, BlkPair, BlkIo]
  simp [linkMortar]

@[simp] theorem sendMortarAt_keeps (order : Nat) (s : State) (m : Mortar) : But_net s (sendMortarAt order s m) := by
  simp only [But_net, BlkStart, BlkProg, BlkPair, BlkIo]
  simp [sendMortarAt]

@[simp] theorem sendMortar_keeps (s : State) (m : Mortar) : But_net s (sendMortar s m) := by
  simp only [But_net, BlkStart, BlkProg, BlkPair, BlkIo]
  simp [sendMortar]

@[simp] theorem sendTab_keeps {α : Type} [_i : BEq α] (order : Nat) (s : State) (now sent : Tab α) (f : Nat → α →
    Mortar) : But_net s (sendTab order s now sent f) := by
  simp only [But_net, BlkStart, BlkProg, BlkPair, BlkIo]
  simp [sendTab]

@[simp] theorem sendItems_keeps (order : Nat) (s : State) : But_net s (sendItems order s) := by
  simp only [But_net, BlkStart, BlkProg, BlkPair, BlkIo]
  simp [sendItems]

@[simp] theorem sendChanges_keeps (s : State) : But_net s (sendChanges s) := by
  simp only [But_net, BlkStart, BlkProg, BlkPair, BlkIo]
  unfold sendChanges
  try dsimp only
  split
  · simp
  · simp

@[simp] theorem reply_keeps (s : State) (r : Req) (obj : W32) (status : Nat) (payload : Bytes) : But_net s (reply s r
    obj status payload) := by
  simp only [But_net, BlkStart, BlkProg, BlkPair, BlkIo]
  simp [reply]

@[simp] theorem completeOne_keeps (s : State) (o : Origin) (status : Nat) : But_net s (completeOne s o status) := by
  simp only [But_net, BlkStart, BlkProg, BlkPair, BlkIo]
  unfold completeOne
  dsimp only
  (repeat' split) <;> simp

@[simp] theorem complete_keeps (s : State) (o : Origin) (status : Nat) : But_net s (complete s o status) := by
  simp only [But_net, BlkStart, BlkProg, BlkPair, BlkIo]
  unfold complete
  (repeat' split) <;> simp

@[simp] theorem completeOpt_keeps (s : State) (o : Option Origin) (status : Nat) : But_net s (completeOpt s o status)
    := by
  simp only [But_net, BlkStart, BlkProg, BlkPair, BlkIo]
  unfold completeOpt
  (repeat' split) <;> simp

@[simp] theorem refuse_keeps (s : State) (r : Req) (obj : W32) (status : Nat) : But_net_intake s (refuse s r obj
    status) := by
  simp only [But_net_intake, BlkStart, BlkProg, BlkPair, BlkIo]
  simp [refuse]

@[simp] theorem setTicket_keeps (s : State) (t : Nat) (x : TicketSt) : But_tickets s (setTicket s t x) := by
  simp only [But_tickets, BlkStart, BlkPair, BlkIo, BlkRest]
  simp [setTicket]

@[simp] theorem keepUpdate_keeps (s : State) (kind index : Nat) (data : Bytes) : But_pair s (keepUpdate s kind index
    data) := by
  simp only [But_pair, BlkStart, BlkProg, BlkIo, BlkRest]
  simp [keepUpdate]

@[simp] theorem ticketEnd_keeps (s : State) (t status reason : Nat) : But_tickets_pair_net_intake s (ticketEnd s t
    status reason) := by
  simp only [But_tickets_pair_net_intake, BlkStart, BlkIo]
  simp [ticketEnd]

@[simp] theorem endSessions_keeps (s : State) (p : Nat → SessSt → Bool) : But_kiln_tickets_pair_net_intake s
    (endSessions s p) := by
  simp only [But_kiln_tickets_pair_net_intake, BlkIo]
  simp [endSessions]

@[simp] theorem stopInjection_keeps (s : State) (ctx cause : Nat) : But_loops_net_intake s (stopInjection s ctx cause)
    := by
  simp only [But_loops_net_intake, BlkStart, BlkProg, BlkPair, BlkIo]
  simp [stopInjection]

@[simp] theorem stopInjections_keeps (s : State) (cause : Nat) : But_loops_net_intake s (stopInjections s cause) := by
  simp only [But_loops_net_intake, BlkStart, BlkProg, BlkPair, BlkIo]
  simp [stopInjections]

@[simp] theorem abortCapture_keeps (s : State) (cause : Nat) : But_loops_intake s (abortCapture s cause) := by
  simp only [But_loops_intake, BlkStart, BlkProg, BlkPair, BlkIo]
  simp [abortCapture]

@[simp] theorem setCourse_keeps (s : State) (c : Nat) (x : CourseSt) : But_crs s (setCourse s c x) := by
  simp only [But_crs, BlkStart, BlkPair, BlkIo, BlkRest]
  simp [setCourse]

@[simp] theorem putData_keeps (s : State) (brick off : Nat) (b : Bytes) : But_crs s (putData s brick off b) := by
  simp only [But_crs, BlkStart, BlkPair, BlkIo, BlkRest]
  simp [putData]

@[simp] theorem putOut_keeps (s : State) (n : Nat) (v : W64) : But_crs_exch s (putOut s n v) := by
  simp only [But_crs_exch, BlkStart, BlkPair, BlkIo, BlkRest]
  simp [putOut]

@[simp] theorem releaseEvents_keeps (s : State) (c : Nat) (l : List (Nat × W32 × Nat)) : But_crs_intake s
    (releaseEvents s c l) := by
  simp only [But_crs_intake, BlkStart, BlkPair, BlkIo]
  simp [releaseEvents]

@[simp] theorem releaseDiv0_keeps (s : State) (c : Nat) (l : List (Nat × Nat)) : But_crs_intake s (releaseDiv0 s c l)
    := by
  simp only [But_crs_intake, BlkStart, BlkPair, BlkIo]
  unfold releaseDiv0
  (repeat' split) <;> simp

@[simp] theorem canTaken_keeps (s : State) (l : List Nat) : But_can s (canTaken s l) := by
  simp only [But_can, BlkStart, BlkProg, BlkPair, BlkRest]
  simp [canTaken]

@[simp] theorem eventsTaken_keeps (s : State) (c n : Nat) : But_crs s (eventsTaken s c n) := by
  simp only [But_crs, BlkStart, BlkPair, BlkIo, BlkRest]
  simp [eventsTaken]

@[simp] theorem ownData_keeps (s : State) (c : Nat) (l : List (Nat × Nat × Bytes)) : But_crs s (ownData s c l) := by
  simp only [But_crs, BlkStart, BlkPair, BlkIo, BlkRest]
  simp [ownData]

@[simp] theorem leaveDone_keeps (s : State) (c : Nat) (done : Release) : But_crs_can_intake s (leaveDone s c done) :=
    by
  simp only [But_crs_can_intake, BlkStart, BlkPair]
  simp [leaveDone]

@[simp] theorem leaveUndone_keeps (s : State) (c : Nat) : But_crs_can_intake_free s (leaveUndone s c) := by
  simp only [But_crs_can_intake_free, BlkPair]
  simp [leaveUndone]

@[simp] theorem abandonOne_keeps (s : State) (c : Nat) : But_crs_can_intake_free s (abandonOne s c) := by
  simp only [But_crs_can_intake_free, BlkPair]
  simp [abandonOne]

@[simp] theorem abandonCourses_keeps (s : State) : But_crs_can_intake_free s (abandonCourses s) := by
  simp only [But_crs_can_intake_free, BlkPair]
  simp [abandonCourses]

@[simp] theorem stopLoops_keeps (s : State) : But_loops s (stopLoops s) := by
  simp only [But_loops, BlkStart, BlkProg, BlkPair, BlkIo]
  simp [stopLoops]

@[simp] theorem stopSolver_keeps (s : State) : But_exch_solver s (stopSolver s) := by
  simp only [But_exch_solver, BlkStart, BlkPair, BlkIo, BlkRest]
  simp [stopSolver]

@[simp] theorem setHandle_keeps (s : State) (h st : Nat) : But_can s (setHandle s h st) := by
  simp only [But_can, BlkStart, BlkProg, BlkPair, BlkRest]
  simp [setHandle]

@[simp] theorem setEntryHandle_keeps (s : State) (e : TxEntry) (st : Nat) : But_can s (setEntryHandle s e st) := by
  simp only [But_can, BlkStart, BlkProg, BlkPair, BlkRest]
  simp [setEntryHandle]

@[simp] theorem canDropWaiting_keeps (s : State) (port : Nat) (fifo launch : Bool) : But_can s (canDropWaiting s port
    fifo launch).1 := by
  simp only [But_can, BlkStart, BlkProg, BlkPair, BlkRest]
  simp [canDropWaiting]

@[simp] theorem canFlush_keeps (s : State) (port : Nat) : But_can_intake s (canFlush s port) := by
  simp only [But_can_intake, BlkStart, BlkProg, BlkPair]
  simp [canFlush]

@[simp] theorem canSettle_keeps (s : State) : But_can s (canSettle s) := by
  unfold canSettle
  try dsimp only
  show But_can _ _
  refine foldl_inv (P := But_can _) _ _ _ (by simp [But_can, BlkStart, BlkProg, BlkPair, BlkRest]) (fun u b hu => ?_)
  try dsimp only
  (repeat' split) <;> simp [But_can, BlkStart, BlkProg, BlkPair, BlkRest, hu]

@[simp] theorem panelSettle_keeps (s : State) : But_panel_panel2 s (panelSettle s) := by
  simp only [But_panel_panel2, BlkStart, BlkProg, BlkPair, BlkRest]
  simp [panelSettle]

@[simp] theorem roleAddrSettle_keeps (s : State) : But_net s (roleAddrSettle s) := by
  simp only [But_net, BlkStart, BlkProg, BlkPair, BlkIo]
  simp [roleAddrSettle]

@[simp] theorem settle_keeps (s : State) : But_can_net_panel_panel2 s (settle s) := by
  simp only [But_can_net_panel_panel2, BlkStart, BlkProg, BlkPair]
  simp [settle]

@[simp] theorem injectionSetOff_keeps (s : State) : But_md_loops_net_intake s (injectionSetOff s) := by
  simp only [But_md_loops_net_intake, BlkStart, BlkProg, BlkPair, BlkIo]
  simp [injectionSetOff]

@[simp] theorem raiseCombo_keeps (s : State) (m m' : Mode) (r r' : Role) (inj inj' mir mir' : Bool) : But_intake s
    (raiseCombo s m m' r r' inj inj' mir mir') := by
  simp only [But_intake, BlkStart, BlkProg, BlkPair, BlkIo]
  simp [raiseCombo]

@[simp] theorem resolve_keeps (s : State) (m : Mode) : But_md_crs_loops_net_intake s (resolve s m) := by
  simp only [But_md_crs_loops_net_intake, BlkStart, BlkPair, BlkIo]
  simp [resolve]

@[simp] theorem enterEffects_keeps (s : State) (old m : Mode) :
    But_md_crs_exch_loops_solver_safe_field_can_net_intake_free s (enterEffects s old m) := by
  simp only [But_md_crs_exch_loops_solver_safe_field_can_net_intake_free]
  simp [enterEffects]

@[simp] theorem changeMode_keeps (s : State) (m : Mode) (cause : Nat) :
    But_md_crs_exch_loops_solver_safe_field_can_net_intake_panel_panel2_free s (changeMode s m cause) := by
  simp only [But_md_crs_exch_loops_solver_safe_field_can_net_intake_panel_panel2_free]
  simp [changeMode]

@[simp] theorem voidSwap_keeps (s : State) : But_md_net s (voidSwap s) := by
  simp only [But_md_net, BlkStart, BlkProg, BlkPair, BlkIo]
  simp [voidSwap]

@[simp] theorem dropTransitions_keeps (s : State) : But_md_net s (dropTransitions s) := by
  simp only [But_md_net, BlkStart, BlkProg, BlkPair, BlkIo]
  simp [dropTransitions]

@[simp] theorem dropOutputs_keeps (s : State) : But_safe_field_ring s (dropOutputs s) := by
  simp only [But_safe_field_ring, BlkStart, BlkProg, BlkRest]
  simp [dropOutputs]

@[simp] theorem dropWaits_keeps (s : State) : But_crs_loops_net s (dropWaits s) := by
  simp only [But_crs_loops_net, BlkStart, BlkPair, BlkIo]
  simp [dropWaits]

@[simp] theorem settingsRoleLost_keeps (s : State) : But_set_crs_net s (settingsRoleLost s) := by
  simp only [But_set_crs_net, BlkPair, BlkIo]
  simp [settingsRoleLost]

@[simp] theorem enterHalt_keeps (s : State) (cause : Nat) :
    But_md_kiln_set_crs_exch_tickets_loops_solver_pair_safe_field_ring_can_net_intake_panel_panel2_free s (enterHalt s
    cause) := by
  simp only [But_md_kiln_set_crs_exch_tickets_loops_solver_pair_safe_field_ring_can_net_intake_panel_panel2_free]
  simp [enterHalt]

@[simp] theorem abdicate_keeps (s : State) (cause : Nat) :
    But_md_kiln_set_crs_exch_tickets_loops_solver_pair_safe_field_ring_can_net_intake_panel_panel2_free s (abdicate s
    cause) := by
  simp only [But_md_kiln_set_crs_exch_tickets_loops_solver_pair_safe_field_ring_can_net_intake_panel_panel2_free]
  simp [abdicate]

@[simp] theorem leaveChange_keeps (s : State) : But_md s (leaveChange s) := by
  simp only [But_md, BlkStart, BlkProg, BlkPair, BlkIo]
  simp [leaveChange]

@[simp] theorem dropStagedTables_keeps (s : State) : But_loops s (dropStagedTables s) := by
  simp only [But_loops, BlkStart, BlkProg, BlkPair, BlkIo]
  simp [dropStagedTables]

@[simp] theorem exchAbandon_keeps (s : State) (reason : Nat) : But_exch_loops_intake s (exchAbandon s reason) := by
  simp only [But_exch_loops_intake, BlkStart, BlkPair, BlkIo]
  simp [exchAbandon]

@[simp] theorem exchComplete_keeps (s : State) : But_kiln_crs_exch_loops_pair_intake s (exchComplete s) := by
  simp only [But_kiln_crs_exch_loops_pair_intake, BlkIo]
  simp [exchComplete]

@[simp] theorem exchEnd_keeps (s : State) (reason : Nat) : But_kiln_crs_exch_loops_pair_intake s (exchEnd s reason) :=
    by
  simp only [But_kiln_crs_exch_loops_pair_intake, BlkIo]
  simp [exchEnd]

@[simp] theorem toSync_keeps (s : State) (cause : Nat) :
    But_md_crs_exch_loops_solver_pair_mortar_safe_field_can_net_intake_panel_panel2_free s (toSync s cause) := by
  simp only [But_md_crs_exch_loops_solver_pair_mortar_safe_field_can_net_intake_panel_panel2_free]
  simp [toSync]

@[simp] theorem oasisReaction_keeps (s : State) :
    But_md_kiln_crs_exch_loops_solver_pair_mortar_safe_field_can_net_intake_panel_panel2_free s (oasisReaction s) :=
    by
  simp only [But_md_kiln_crs_exch_loops_solver_pair_mortar_safe_field_can_net_intake_panel_panel2_free]
  unfold oasisReaction
  (repeat' split) <;> simp

@[simp] theorem startCountdown_keeps (s : State) : But_safe s (startCountdown s) := by
  simp only [But_safe, BlkStart, BlkProg, BlkIo, BlkRest]
  simp [startCountdown]

@[simp] theorem degradedMode_keeps (s : State) :
    But_md_kiln_crs_exch_loops_solver_pair_safe_field_can_net_intake_panel_panel2_free s (degradedMode s) := by
  simp only [But_md_kiln_crs_exch_loops_solver_pair_safe_field_can_net_intake_panel_panel2_free]
  unfold degradedMode
  (repeat' split) <;> simp

@[simp] theorem degradedReaction_keeps (s : State) :
    But_md_kiln_crs_exch_loops_solver_pair_safe_field_can_net_intake_panel_panel2_free s (degradedReaction s) := by
  simp only [But_md_kiln_crs_exch_loops_solver_pair_safe_field_can_net_intake_panel_panel2_free]
  simp [degradedReaction]

@[simp] theorem withSession_keeps (s : State) (r : Req) (k : State → State) :
    ((∀ u, (k u).pending = u.pending) → (withSession s r k).pending = s.pending) ∧
    ((∀ u, (k u).md = u.md) → (withSession s r k).md = s.md) ∧
    ((∀ u, (k u).btn = u.btn) → (withSession s r k).btn = s.btn) ∧
    ((∀ u, (k u).kiln = u.kiln) → (withSession s r k).kiln = s.kiln) ∧
    ((∀ u, (k u).set = u.set) → (withSession s r k).set = s.set) ∧
    ((∀ u, (k u).crs = u.crs) → (withSession s r k).crs = s.crs) ∧
    ((∀ u, (k u).exch = u.exch) → (withSession s r k).exch = s.exch) ∧
    ((∀ u, (k u).tickets = u.tickets) → (withSession s r k).tickets = s.tickets) ∧
    ((∀ u, (k u).lastTicket = u.lastTicket) → (withSession s r k).lastTicket = s.lastTicket) ∧
    ((∀ u, loopsCore (k u).loops = loopsCore u.loops) → loopsCore (withSession s r k).loops = loopsCore s.loops) ∧
    ((∀ u, (k u).solver = u.solver) → (withSession s r k).solver = s.solver) ∧
    ((∀ u, (k u).pair = u.pair) → (withSession s r k).pair = s.pair) ∧
    ((∀ u, mortarCore (k u).mortar = mortarCore u.mortar) → mortarCore (withSession s r k).mortar = mortarCore s.mortar) ∧
    ((∀ u, (k u).safe = u.safe) → (withSession s r k).safe = s.safe) ∧
    ((∀ u, (k u).field = u.field) → (withSession s r k).field = s.field) ∧
    ((∀ u, (k u).ring = u.ring) → (withSession s r k).ring = s.ring) ∧
    ((∀ u, (k u).can = u.can) → (withSession s r k).can = s.can) ∧
    ((∀ u, timeCore (k u).time = timeCore u.time) → timeCore (withSession s r k).time = timeCore s.time) ∧
    ((∀ u, evCore (k u).ev = evCore u.ev) → evCore (withSession s r k).ev = evCore s.ev) ∧
    ((∀ u, (k u).ev.intake = u.ev.intake) → (withSession s r k).ev.intake = s.ev.intake) ∧
    ((∀ u, (k u).sec = u.sec) → (withSession s r k).sec = s.sec) ∧
    ((∀ u, (k u).panel = u.panel) → (withSession s r k).panel = s.panel) ∧
    ((∀ u, (k u).panel2 = u.panel2) → (withSession s r k).panel2 = s.panel2) ∧
    ((∀ u, (k u).sup = u.sup) → (withSession s r k).sup = s.sup) ∧
    ((∀ u, (k u).free = u.free) → (withSession s r k).free = s.free) := by
  unfold withSession
  (repeat' refine And.intro ?_ ?_) <;> intro hk <;> simp [hk]

@[simp] theorem wrote_keeps (s : State) (obj : W32) : But_net s (wrote s obj) := by
  simp only [But_net, BlkStart, BlkProg, BlkPair, BlkIo]
  simp [wrote]

@[simp] theorem hostWrite_keeps (s : State) (r : Req) (obj : W32) (k : State → State) :
    ((∀ u, (k u).pending = u.pending) → (hostWrite s r obj k).pending = s.pending) ∧
    ((∀ u, (k u).md = u.md) → (hostWrite s r obj k).md = s.md) ∧
    ((∀ u, (k u).btn = u.btn) → (hostWrite s r obj k).btn = s.btn) ∧
    ((∀ u, (k u).kiln = u.kiln) → (hostWrite s r obj k).kiln = s.kiln) ∧
    ((∀ u, (k u).set = u.set) → (hostWrite s r obj k).set = s.set) ∧
    ((∀ u, (k u).crs = u.crs) → (hostWrite s r obj k).crs = s.crs) ∧
    ((∀ u, (k u).exch = u.exch) → (hostWrite s r obj k).exch = s.exch) ∧
    ((∀ u, (k u).tickets = u.tickets) → (hostWrite s r obj k).tickets = s.tickets) ∧
    ((∀ u, (k u).lastTicket = u.lastTicket) → (hostWrite s r obj k).lastTicket = s.lastTicket) ∧
    ((∀ u, loopsCore (k u).loops = loopsCore u.loops) → loopsCore (hostWrite s r obj k).loops = loopsCore s.loops) ∧
    ((∀ u, (k u).solver = u.solver) → (hostWrite s r obj k).solver = s.solver) ∧
    ((∀ u, (k u).pair = u.pair) → (hostWrite s r obj k).pair = s.pair) ∧
    ((∀ u, mortarCore (k u).mortar = mortarCore u.mortar) → mortarCore (hostWrite s r obj k).mortar = mortarCore s.mortar) ∧
    ((∀ u, (k u).safe = u.safe) → (hostWrite s r obj k).safe = s.safe) ∧
    ((∀ u, (k u).field = u.field) → (hostWrite s r obj k).field = s.field) ∧
    ((∀ u, (k u).ring = u.ring) → (hostWrite s r obj k).ring = s.ring) ∧
    ((∀ u, (k u).can = u.can) → (hostWrite s r obj k).can = s.can) ∧
    ((∀ u, timeCore (k u).time = timeCore u.time) → timeCore (hostWrite s r obj k).time = timeCore s.time) ∧
    ((∀ u, evCore (k u).ev = evCore u.ev) → evCore (hostWrite s r obj k).ev = evCore s.ev) ∧
    ((∀ u, (k u).sec = u.sec) → (hostWrite s r obj k).sec = s.sec) ∧
    ((∀ u, (k u).panel = u.panel) → (hostWrite s r obj k).panel = s.panel) ∧
    ((∀ u, (k u).panel2 = u.panel2) → (hostWrite s r obj k).panel2 = s.panel2) ∧
    ((∀ u, (k u).sup = u.sup) → (hostWrite s r obj k).sup = s.sup) ∧
    ((∀ u, (k u).free = u.free) → (hostWrite s r obj k).free = s.free) := by
  unfold hostWrite
  (repeat' refine And.intro ?_ ?_) <;> intro hk <;> simp [hk]

@[simp] theorem hostCommand_keeps (s : State) (r : Req) (obj : W32) (k : State → State) :
    ((∀ u, (k u).pending = u.pending) → (hostCommand s r obj k).pending = s.pending) ∧
    ((∀ u, (k u).md = u.md) → (hostCommand s r obj k).md = s.md) ∧
    ((∀ u, (k u).btn = u.btn) → (hostCommand s r obj k).btn = s.btn) ∧
    ((∀ u, (k u).kiln = u.kiln) → (hostCommand s r obj k).kiln = s.kiln) ∧
    ((∀ u, (k u).set = u.set) → (hostCommand s r obj k).set = s.set) ∧
    ((∀ u, (k u).crs = u.crs) → (hostCommand s r obj k).crs = s.crs) ∧
    ((∀ u, (k u).exch = u.exch) → (hostCommand s r obj k).exch = s.exch) ∧
    ((∀ u, (k u).tickets = u.tickets) → (hostCommand s r obj k).tickets = s.tickets) ∧
    ((∀ u, (k u).lastTicket = u.lastTicket) → (hostCommand s r obj k).lastTicket = s.lastTicket) ∧
    ((∀ u, loopsCore (k u).loops = loopsCore u.loops) → loopsCore (hostCommand s r obj k).loops = loopsCore s.loops) ∧
    ((∀ u, (k u).solver = u.solver) → (hostCommand s r obj k).solver = s.solver) ∧
    ((∀ u, (k u).pair = u.pair) → (hostCommand s r obj k).pair = s.pair) ∧
    ((∀ u, mortarCore (k u).mortar = mortarCore u.mortar) → mortarCore (hostCommand s r obj k).mortar = mortarCore s.mortar) ∧
    ((∀ u, (k u).safe = u.safe) → (hostCommand s r obj k).safe = s.safe) ∧
    ((∀ u, (k u).field = u.field) → (hostCommand s r obj k).field = s.field) ∧
    ((∀ u, (k u).ring = u.ring) → (hostCommand s r obj k).ring = s.ring) ∧
    ((∀ u, (k u).can = u.can) → (hostCommand s r obj k).can = s.can) ∧
    ((∀ u, timeCore (k u).time = timeCore u.time) → timeCore (hostCommand s r obj k).time = timeCore s.time) ∧
    ((∀ u, evCore (k u).ev = evCore u.ev) → evCore (hostCommand s r obj k).ev = evCore s.ev) ∧
    ((∀ u, (k u).sec = u.sec) → (hostCommand s r obj k).sec = s.sec) ∧
    ((∀ u, (k u).panel = u.panel) → (hostCommand s r obj k).panel = s.panel) ∧
    ((∀ u, (k u).panel2 = u.panel2) → (hostCommand s r obj k).panel2 = s.panel2) ∧
    ((∀ u, (k u).sup = u.sup) → (hostCommand s r obj k).sup = s.sup) ∧
    ((∀ u, (k u).free = u.free) → (hostCommand s r obj k).free = s.free) := by
  unfold hostCommand
  (repeat' refine And.intro ?_ ?_) <;> intro hk <;> simp [hk]

@[simp] theorem hostRead_keeps (s : State) (r : Req) (obj : W32) (k : State → State) :
    ((∀ u, (k u).pending = u.pending) → (hostRead s r obj k).pending = s.pending) ∧
    ((∀ u, (k u).md = u.md) → (hostRead s r obj k).md = s.md) ∧
    ((∀ u, (k u).btn = u.btn) → (hostRead s r obj k).btn = s.btn) ∧
    ((∀ u, (k u).kiln = u.kiln) → (hostRead s r obj k).kiln = s.kiln) ∧
    ((∀ u, (k u).set = u.set) → (hostRead s r obj k).set = s.set) ∧
    ((∀ u, (k u).crs = u.crs) → (hostRead s r obj k).crs = s.crs) ∧
    ((∀ u, (k u).exch = u.exch) → (hostRead s r obj k).exch = s.exch) ∧
    ((∀ u, (k u).tickets = u.tickets) → (hostRead s r obj k).tickets = s.tickets) ∧
    ((∀ u, (k u).lastTicket = u.lastTicket) → (hostRead s r obj k).lastTicket = s.lastTicket) ∧
    ((∀ u, loopsCore (k u).loops = loopsCore u.loops) → loopsCore (hostRead s r obj k).loops = loopsCore s.loops) ∧
    ((∀ u, (k u).solver = u.solver) → (hostRead s r obj k).solver = s.solver) ∧
    ((∀ u, (k u).pair = u.pair) → (hostRead s r obj k).pair = s.pair) ∧
    ((∀ u, mortarCore (k u).mortar = mortarCore u.mortar) → mortarCore (hostRead s r obj k).mortar = mortarCore s.mortar) ∧
    ((∀ u, (k u).safe = u.safe) → (hostRead s r obj k).safe = s.safe) ∧
    ((∀ u, (k u).field = u.field) → (hostRead s r obj k).field = s.field) ∧
    ((∀ u, (k u).ring = u.ring) → (hostRead s r obj k).ring = s.ring) ∧
    ((∀ u, (k u).can = u.can) → (hostRead s r obj k).can = s.can) ∧
    ((∀ u, timeCore (k u).time = timeCore u.time) → timeCore (hostRead s r obj k).time = timeCore s.time) ∧
    ((∀ u, evCore (k u).ev = evCore u.ev) → evCore (hostRead s r obj k).ev = evCore s.ev) ∧
    ((∀ u, (k u).ev.intake = u.ev.intake) → (hostRead s r obj k).ev.intake = s.ev.intake) ∧
    ((∀ u, (k u).sec = u.sec) → (hostRead s r obj k).sec = s.sec) ∧
    ((∀ u, (k u).panel = u.panel) → (hostRead s r obj k).panel = s.panel) ∧
    ((∀ u, (k u).panel2 = u.panel2) → (hostRead s r obj k).panel2 = s.panel2) ∧
    ((∀ u, (k u).sup = u.sup) → (hostRead s r obj k).sup = s.sup) ∧
    ((∀ u, (k u).free = u.free) → (hostRead s r obj k).free = s.free) := by
  unfold hostRead
  (repeat' refine And.intro ?_ ?_) <;> intro hk <;> simp [hk]

@[simp] theorem setChan_keeps (s : State) (kk : Nat) (c : ChanSt) : But_field s (setChan s kk c) := by
  simp only [But_field, BlkStart, BlkProg, BlkPair, BlkRest]
  simp [setChan]

@[simp] theorem setRun_keeps (s : State) (kk : Nat) (c : RunSt) : But_field s (setRun s kk c) := by
  simp only [But_field, BlkStart, BlkProg, BlkPair, BlkRest]
  simp [setRun]

@[simp] theorem setGroup_keeps (s : State) (g : Nat) (c : GroupSt) : But_field s (setGroup s g c) := by
  simp only [But_field, BlkStart, BlkProg, BlkPair, BlkRest]
  simp [setGroup]

@[simp] theorem latchAi_keeps (s : State) (l : Latch) (a : Nat) : But_field s (latchAi s l a) := by
  simp only [But_field, BlkStart, BlkProg, BlkPair, BlkRest]
  unfold latchAi
  (repeat' split) <;> simp

@[simp] theorem latchDigital_keeps (s : State) (l : Latch) (kk : Nat) : But_field s (latchDigital s l kk) := by
  simp only [But_field, BlkStart, BlkProg, BlkPair, BlkRest]
  unfold latchDigital
  (repeat' split) <;> simp

@[simp] theorem latchAo_keeps (s : State) (l : Latch) (a : Nat) : But_field s (latchAo s l a) := by
  simp only [But_field, BlkStart, BlkProg, BlkPair, BlkRest]
  unfold latchAo
  dsimp only
  (repeat' split) <;> simp

@[simp] theorem latchPos_keeps (s : State) (l : Latch) (p : Nat) : But_loops_field s (latchPos s l p) := by
  simp only [But_loops_field, BlkStart, BlkProg, BlkPair]
  unfold latchPos
  dsimp only
  (repeat' split) <;> simp

@[simp] theorem latchGroup_keeps (s : State) (l : Latch) (g : Nat) : But_field s (latchGroup s l g) := by
  simp only [But_field, BlkStart, BlkProg, BlkPair, BlkRest]
  simp [latchGroup]

@[simp] theorem latchField_keeps (s : State) (l : Latch) : But_loops_field s (latchField s l) := by
  simp only [But_loops_field, BlkStart, BlkProg, BlkPair]
  simp [latchField]

@[simp] theorem commitChan_keeps (s : State) (e : IoEntry) (a : Applied) : But_field s (commitChan s e a) := by
  simp only [But_field, BlkStart, BlkProg, BlkPair, BlkRest]
  unfold commitChan
  (repeat' split) <;> simp

@[simp] theorem releaseStages_keeps (s : State) : But_field s (releaseStages s) := by
  simp only [But_field, BlkStart, BlkProg, BlkPair, BlkRest]
  simp [releaseStages]

end Sys2Proof.Machine
end

