-- ==== Sys2Proof/Laws/KeepsIo.lean ====
section
/-! SUPPORT. What the operations of ring, CAN ports, security and image checks leave alone, one lemma each. -/

namespace Sys2Proof.Machine

@[simp] theorem setStn_keeps (s : State) (n : Nat) (x : StationSt) : But_ring s (setStn s n x) := by
  simp only [But_ring, BlkStart, BlkProg, BlkPair, BlkRest]
  simp [setStn]

@[simp] theorem ringHistory_keeps (s : State) (i : Nat) (e : IoEntry) : But_ring s (ringHistory s i e) := by
  simp only [But_ring, BlkStart, BlkProg, BlkPair, BlkRest]
  simp [ringHistory]

@[simp] theorem takeModule_keeps (s : State) (st n : Nat) (blocks : List (Nat × Byte × Bytes)) (d : RModDef) :
    But_ring_intake_free s (takeModule s st n blocks d) := by
  simp only [But_ring_intake_free, BlkProg, BlkPair]
  unfold takeModule
  (repeat' split) <;> simp

@[simp] theorem takeUndeclared_keeps (s : State) (st : Nat) (d : StationDef) (b : Nat × Byte × Bytes) :
    But_ring_intake_free s (takeUndeclared s st d b) := by
  simp only [But_ring_intake_free, BlkProg, BlkPair]
  simp [takeUndeclared]

@[simp] theorem takeBlocks_keeps (s : State) (d : StationDef) (n : Nat) (blocks : List (Nat × Byte × Bytes)) :
    But_ring_intake_free s (takeBlocks s d n blocks) := by
  simp only [But_ring_intake_free, BlkProg, BlkPair]
  simp [takeBlocks]

@[simp] theorem hopReport_keeps (s : State) (pos : Nat) (sstatus : Byte) : But_ring s (hopReport s pos sstatus) := by
  simp only [But_ring, BlkStart, BlkProg, BlkPair, BlkRest]
  simp [hopReport]

@[simp] theorem applyLateFrames_keeps (s : State) : But_ring_intake_free s (applyLateFrames s) := by
  simp only [But_ring_intake_free, BlkProg, BlkPair]
  unfold applyLateFrames
  (try dsimp only)
  show But_ring_intake_free _ _
  refine foldl_inv (P := But_ring_intake_free _) _ _ _ (by simp [But_ring_intake_free, BlkProg, BlkPair]) (fun u b hu => ?_)
  (repeat' split) <;> simp [But_ring_intake_free, BlkProg, BlkPair, hu]

@[simp] theorem reportOpen_keeps (s : State) : But_ring_intake s (reportOpen s) := by
  simp only [But_ring_intake, BlkStart, BlkProg, BlkPair]
  simp [reportOpen]

@[simp] theorem ringInput_keeps (s : State) (f : RingFrame) : But_ring_intake_free s (ringInput s f) := by
  simp only [But_ring_intake_free, BlkProg, BlkPair]
  unfold ringInput
  (repeat' split) <;> simp

@[simp] theorem ringContainers_keeps (s : State) (f : RingFrame) : But_safe s (ringContainers s f) := by
  simp only [But_safe, BlkStart, BlkProg, BlkIo, BlkRest]
  simp [ringContainers]

theorem execRingInputFrameReceive_keeps (f : RingFrame) (s : State) (t : State) (h : execRingInputFrameReceive f s =
    .next t) : But_safe_ring_intake_free s t := by
  unfold execRingInputFrameReceive at h
  injection h with h
  subst h
  simp only [But_safe_ring_intake_free, BlkProg]
  simp

theorem execRingCycleMissed_keeps (station : Nat) (s : State) (t : State) (h : execRingCycleMissed station s = .next
    t) : But_ring_intake s t := by
  unfold execRingCycleMissed at h
  injection h with h
  subst h
  simp only [But_ring_intake, BlkStart, BlkProg, BlkPair]
  (repeat' split) <;> simp

theorem execRingClosed_keeps (s : State) (t : State) (h : execRingClosed s = .next t) : But_ring_intake s t := by
  unfold execRingClosed at h
  injection h with h
  subst h
  simp only [But_ring_intake, BlkStart, BlkProg, BlkPair]
  simp

@[simp] theorem discoverAnswer_keeps (s : State) (all : List Discovered) (a : Discovered) : But_ring_net_intake s
    (discoverAnswer s all a) := by
  simp only [But_ring_net_intake, BlkStart, BlkProg, BlkPair]
  unfold discoverAnswer
  dsimp only
  (repeat' split) <;> simp

theorem execRingLinkUp_keeps (answers : List Discovered) (at_ : Nat) (s : State) (t : State) (h : execRingLinkUp
    answers at_ s = .next t) : But_ring_net_intake s t := by
  unfold execRingLinkUp at h
  injection h with h
  subst h
  simp only [But_ring_net_intake, BlkStart, BlkProg, BlkPair]
  simp

theorem execStationJoin_keeps (station : Nat) (s : State) (t : State) (h : execStationJoin station s = .next t) :
    But_ring_intake s t := by
  unfold execStationJoin at h
  injection h with h
  subst h
  simp only [But_ring_intake, BlkStart, BlkProg, BlkPair]
  (repeat' split) <;> simp

theorem execHopSpeedNegotiated_keeps (hop : Nat) (bothGen2 : Bool) (gigabit : Bool) (at_ : Nat) (s : State) (t :
    State) (h : execHopSpeedNegotiated hop bothGen2 gigabit at_ s = .next t) : But_ring_intake s t := by
  unfold execHopSpeedNegotiated at h
  injection h with h
  subst h
  simp only [But_ring_intake, BlkStart, BlkProg, BlkPair]
  simp

@[simp] theorem ringSent_keeps (s : State) : But_ring s (ringSent s) := by
  simp only [But_ring, BlkStart, BlkProg, BlkPair, BlkRest]
  simp [ringSent]

@[simp] theorem ringLaunch_keeps (s : State) : But_ring s (ringLaunch s) := by
  simp only [But_ring, BlkStart, BlkProg, BlkPair, BlkRest]
  simp [ringLaunch]

@[simp] theorem ringQueue_keeps (s : State) (vals : List (Nat × IoEntry × W64)) : But_ring s (ringQueue s vals) := by
  simp only [But_ring, BlkStart, BlkProg, BlkPair, BlkRest]
  simp [ringQueue]

@[simp] theorem setPort_keeps (s : State) (p : Nat) (x : PortSt) : But_can s (setPort s p x) := by
  simp only [But_can, BlkStart, BlkProg, BlkPair, BlkRest]
  simp [setPort]

@[simp] theorem setSlot_keeps (s : State) (k : Nat) (x : SlotSt) : But_can s (setSlot s k x) := by
  simp only [But_can, BlkStart, BlkProg, BlkPair, BlkRest]
  simp [setSlot]

@[simp] theorem canCount_keeps (s : State) (p i : Nat) (n : Nat) : But_can s (canCount s p i n) := by
  simp only [But_can, BlkStart, BlkProg, BlkPair, BlkRest]
  simp [canCount]

@[simp] theorem canErrorState_keeps (s : State) (p : Nat) : But_can_intake s (canErrorState s p) := by
  simp only [But_can_intake, BlkStart, BlkProg, BlkPair]
  simp [canErrorState]

@[simp] theorem canGoodReceive_keeps (s : State) (p : Nat) : But_can_intake_free s (canGoodReceive s p) := by
  simp only [But_can_intake_free, BlkProg, BlkPair]
  simp [canGoodReceive]

@[simp] theorem takeFrame_keeps (s : State) (n : Nat) (d : FilterDef) (f : CanFrame) : But_can_intake s (takeFrame s n
    d f) := by
  simp only [But_can_intake, BlkStart, BlkProg, BlkPair]
  simp [takeFrame]

theorem execCanFrameReceived_keeps (f : CanFrame) (at_ : Nat) (s : State) (t : State) (h : execCanFrameReceived f at_
    s = .next t) : But_can_intake_free s t := by
  unfold execCanFrameReceived at h
  injection h with h
  subst h
  simp only [But_can_intake_free, BlkProg, BlkPair]
  (repeat' split) <;> simp

theorem execCanReceiveSlotTimeout_keeps (slot : Nat) (s : State) (t : State) (h : execCanReceiveSlotTimeout slot s =
    .next t) : But_can s t := by
  unfold execCanReceiveSlotTimeout at h
  injection h with h
  subst h
  simp only [But_can, BlkStart, BlkProg, BlkPair, BlkRest]
  (repeat' split) <;> simp

@[simp] theorem canSlotImage_keeps (s : State) : But_can s (canSlotImage s) := by
  simp only [But_can, BlkStart, BlkProg, BlkPair, BlkRest]
  unfold canSlotImage
  (try dsimp only)
  show But_can _ _
  refine foldl_inv (P := But_can _) _ _ _ (by simp [But_can, BlkStart, BlkProg, BlkPair, BlkRest]) (fun u b hu => ?_)
  (repeat' split) <;> simp [But_can, BlkStart, BlkProg, BlkPair, BlkRest, hu]

@[simp] theorem canRefuse_keeps (s : State) (p : Nat) (e : TxEntry) : But_can_intake s (canRefuse s p e) := by
  simp only [But_can_intake, BlkStart, BlkProg, BlkPair]
  simp [canRefuse]

@[simp] theorem canEnter_keeps (s : State) (e : TxEntry) : But_can_intake s (canEnter s e) := by
  simp only [But_can_intake, BlkStart, BlkProg, BlkPair]
  simp [canEnter]

@[simp] theorem canRequest_keeps (s : State) (r : CanReq) : But_can_intake s (canRequest s r) := by
  simp only [But_can_intake, BlkStart, BlkProg, BlkPair]
  unfold canRequest
  (repeat' split) <;> simp

@[simp] theorem raiseLate_keeps (s : State) (p n : Nat) : But_intake s (raiseLate s p n) := by
  simp only [But_intake, BlkStart, BlkProg, BlkPair, BlkIo]
  simp [raiseLate]

@[simp] theorem dropLate_keeps (s : State) (p : Nat) (late : TxEntry → Bool) : But_can_intake s (dropLate s p late) :=
    by
  simp only [But_can_intake, BlkStart, BlkProg, BlkPair]
  simp [dropLate]

theorem execCanLaunchLate_keeps (port at_ : Nat) (s : State) (t : State) (h : execCanLaunchLate port at_ s = .next t)
    : But_can_intake s t := by
  unfold execCanLaunchLate at h
  injection h with h
  subst h
  simp only [But_can_intake, BlkStart, BlkProg, BlkPair]
  simp

theorem execCanSelectionPoint_keeps (port at_ : Nat) (s : State) (t : State) (h : execCanSelectionPoint port at_ s =
    .next t) : But_can_intake s t := by
  unfold execCanSelectionPoint at h
  injection h with h
  subst h
  simp only [But_can_intake, BlkStart, BlkProg, BlkPair]
  (repeat' split) <;> simp

@[simp] theorem canRemove_keeps (s : State) (p : Nat) (e : TxEntry) : But_can s (canRemove s p e) := by
  simp only [But_can, BlkStart, BlkProg, BlkPair, BlkRest]
  simp [canRemove]

@[simp] theorem setCancel_keeps (s : State) (h r : Nat) : But_can s (setCancel s h r) := by
  simp only [But_can, BlkStart, BlkProg, BlkPair, BlkRest]
  simp [setCancel]

@[simp] theorem canSent_keeps (s : State) (p : Nat) (e : TxEntry) (st : CanStamp) : But_can s (canSent s p e st) := by
  simp only [But_can, BlkStart, BlkProg, BlkPair, BlkRest]
  unfold canSent
  (repeat' split) <;> simp

@[simp] theorem canRetry_keeps (s : State) (p : Nat) (e : TxEntry) (cancel : Bool) : But_can_intake s (canRetry s p e
    cancel) := by
  simp only [But_can_intake, BlkStart, BlkProg, BlkPair]
  simp [canRetry]

@[simp] theorem canTxError_keeps (s : State) (p : Nat) (e : TxEntry) : But_can_intake s (canTxError s p e) := by
  simp only [But_can_intake, BlkStart, BlkProg, BlkPair]
  simp [canTxError]

theorem execCanTransmitEnd_keeps (port result stampNs : Nat) (stampFrac : W16) (at_ : Nat) (s : State) (t : State) (h
    : execCanTransmitEnd port result stampNs stampFrac at_ s = .next t) : But_can_intake s t := by
  unfold execCanTransmitEnd at h
  injection h with h
  subst h
  simp only [But_can_intake, BlkStart, BlkProg, BlkPair]
  (repeat' split) <;> simp

theorem execCanBusError_keeps (port rise at_ : Nat) (s : State) (t : State) (h : execCanBusError port rise at_ s =
    .next t) : But_can_intake s t := by
  unfold execCanBusError at h
  injection h with h
  subst h
  simp only [But_can_intake, BlkStart, BlkProg, BlkPair]
  simp

theorem execSysCanCancel_keeps (handle at_ : Nat) (s : State) (t : State) (h : execSysCanCancel handle at_ s = .next
    t) : But_can s t := by
  unfold execSysCanCancel at h
  injection h with h
  subst h
  simp only [But_can, BlkStart, BlkProg, BlkPair, BlkRest]
  (repeat' split) <;> simp

theorem execCanRecoveryComplete_keeps (port at_ : Nat) (s : State) (t : State) (h : execCanRecoveryComplete port at_ s
    = .next t) : But_can_intake s t := by
  unfold execCanRecoveryComplete at h
  injection h with h
  subst h
  simp only [But_can_intake, BlkStart, BlkProg, BlkPair]
  simp

@[simp] theorem portCommand_keeps (s : State) (p code : Nat) : But_can s (portCommand s p code).1 := by
  simp only [But_can, BlkStart, BlkProg, BlkPair, BlkRest]
  unfold portCommand
  (repeat' split) <;> simp

@[simp] theorem hostPort_keeps (r : Req) (p code : Nat) (s : State) : But_can_net_intake s (hostPort r p code s) := by
  simp only [But_can_net_intake, BlkStart, BlkProg, BlkPair]
  simp [hostPort]

theorem execCanRecover_keeps (r : Req) (port : Nat) (s : State) (t : State) (h : execCanRecover r port s = .next t) :
    But_can_net_intake s t := by
  unfold execCanRecover at h
  injection h with h
  subst h
  simp only [But_can_net_intake, BlkStart, BlkProg, BlkPair]
  simp

theorem execFlushFifo_keeps (r : Req) (port : Nat) (s : State) (t : State) (h : execFlushFifo r port s = .next t) :
    But_can_net_intake s t := by
  unfold execFlushFifo at h
  injection h with h
  subst h
  simp only [But_can_net_intake, BlkStart, BlkProg, BlkPair]
  simp

theorem execFlushLaunch_keeps (r : Req) (port : Nat) (s : State) (t : State) (h : execFlushLaunch r port s = .next t)
    : But_can_net_intake s t := by
  unfold execFlushLaunch at h
  injection h with h
  subst h
  simp only [But_can_net_intake, BlkStart, BlkProg, BlkPair]
  simp

theorem execFlushAll_keeps (r : Req) (port : Nat) (s : State) (t : State) (h : execFlushAll r port s = .next t) :
    But_can_net_intake s t := by
  unfold execFlushAll at h
  injection h with h
  subst h
  simp only [But_can_net_intake, BlkStart, BlkProg, BlkPair]
  simp

@[simp] theorem canRelease_keeps (s : State) (rel : Release) : But_can_intake s (canRelease s rel) := by
  simp only [But_can_intake, BlkStart, BlkProg, BlkPair]
  simp [canRelease]

@[simp] theorem canSlotQueue_keeps (s : State) (vals : List (Nat × IoEntry × W64)) : But_can_intake s (canSlotQueue s
    vals) := by
  simp only [But_can_intake, BlkStart, BlkProg, BlkPair]
  simp [canSlotQueue]

@[simp] theorem canTake_keeps (s : State) (takeover : Bool) : But_can_intake s (canTake s takeover) := by
  simp only [But_can_intake, BlkStart, BlkProg, BlkPair]
  simp [canTake]

@[simp] theorem canYield_keeps (s : State) : But_can_intake s (canYield s) := by
  simp only [But_can_intake, BlkStart, BlkProg, BlkPair]
  simp [canYield]

@[simp] theorem secCount_keeps (s : State) (i : Nat) : But_sec s (secCount s i) := by
  simp only [But_sec, BlkProg, BlkPair, BlkIo, BlkRest]
  simp [secCount]

@[simp] theorem wipeBank_keeps (s : State) (cause : Nat) : But_kiln_tickets_pair_net_intake_sec s (wipeBank s cause)
    := by
  simp only [But_kiln_tickets_pair_net_intake_sec, BlkIo]
  simp [wipeBank]

@[simp] theorem correctBit_keeps (bank : Nat) (s : State) (word : Nat) : But_intake_sec s (correctBit bank s word) :=
    by
  simp only [But_intake_sec, BlkProg, BlkPair, BlkIo]
  unfold correctBit
  dsimp only
  (repeat' split) <;> simp

theorem execSingleBitCorrection_keeps (bank word at_ : Nat) (s : State) (t : State) (h : execSingleBitCorrection bank
    word at_ s = .next t) : But_intake_sec s t := by
  unfold execSingleBitCorrection at h
  injection h with h
  subst h
  simp only [But_intake_sec, BlkProg, BlkPair, BlkIo]
  simp

theorem execScrubPass_keeps (bank : Nat) (corrected : List Nat) (at_ : Nat) (s : State) (t : State) (h : execScrubPass
    bank corrected at_ s = .next t) : But_intake_sec s t := by
  unfold execScrubPass at h
  injection h with h
  subst h
  simp only [But_intake_sec, BlkProg, BlkPair, BlkIo]
  simp

@[simp] theorem envWipe_keeps (s : State) (cause : Nat) : But_kiln_tickets_pair_net_intake_sec s (envWipe s cause) :=
    by
  simp only [But_kiln_tickets_pair_net_intake_sec, BlkIo]
  simp [envWipe]

theorem execEnvironmentalWipe_keeps (cause at_ : Nat) (s : State) (t : State) (h : execEnvironmentalWipe cause at_ s =
    .next t) : But_kiln_tickets_pair_net_intake_sec s t := by
  unfold execEnvironmentalWipe at h
  injection h with h
  subst h
  simp only [But_kiln_tickets_pair_net_intake_sec, BlkIo]
  simp

theorem execUncorrectableEccError_keeps (bank word at_ : Nat) (s : State) (t : State) (h : execUncorrectableEccError
    bank word at_ s = .next t) :
    But_md_kiln_set_crs_exch_tickets_loops_solver_pair_safe_field_ring_can_net_intake_sec_panel_panel2_free s t := by
  unfold execUncorrectableEccError at h
  injection h with h
  subst h
  simp only [But_md_kiln_set_crs_exch_tickets_loops_solver_pair_safe_field_ring_can_net_intake_sec_panel_panel2_free]
  simp

theorem execIdentityKeyReload_keeps (at_ : Nat) (s : State) (t : State) (h : execIdentityKeyReload at_ s = .next t) :
    But_intake_sec s t := by
  unfold execIdentityKeyReload at h
  injection h with h
  subst h
  simp only [But_intake_sec, BlkProg, BlkPair, BlkIo]
  (repeat' split) <;> simp

@[simp] theorem intrude_keeps (s : State) (mesh : Bool) : But_kiln_tickets_pair_net_intake_sec s (intrude s mesh) :=
    by
  simp only [But_kiln_tickets_pair_net_intake_sec, BlkIo]
  simp [intrude]

theorem execIntrusion_keeps (mesh : Bool) (at_ : Nat) (s : State) (t : State) (h : execIntrusion mesh at_ s = .next t)
    : But_kiln_tickets_pair_net_intake_sec s t := by
  unfold execIntrusion at h
  injection h with h
  subst h
  simp only [But_kiln_tickets_pair_net_intake_sec, BlkIo]
  simp

@[simp] theorem enrolled_keeps (s : State) (signer : Bool) (slot : Nat) (d : Bytes) : But_sec s (enrolled s signer
    slot d) := by
  simp only [But_sec, BlkProg, BlkPair, BlkIo, BlkRest]
  simp [enrolled]

@[simp] theorem hostEnrol_keeps (r : Req) (obj : W32) (signer : Bool) (slot : Nat) (d : Bytes) (s : State) :
    But_net_intake_sec s (hostEnrol r obj signer slot d s) := by
  simp only [But_net_intake_sec, BlkProg, BlkPair, BlkIo]
  have H : ∀ (s : State) (r : Req) (o : W32) (k : State → State), (∀ u, But_net_intake_sec u (k u)) → But_net_intake_sec s (hostCommand s r o k) := (by intros; rename_i hk; simp only [But_net_intake_sec, BlkProg, BlkPair, BlkIo]; simp [hk])
  (try unfold hostEnrol)
  (try dsimp only)
  show But_net_intake_sec _ _
  refine H _ _ _  _ (fun u => ?_)
  (repeat' split) <;> simp [But_net_intake_sec, BlkProg, BlkPair, BlkIo]

theorem execSignerEnrol_keeps (r : Req) (slot : Nat) (data : Bytes) (s : State) (t : State) (h : execSignerEnrol r
    slot data s = .next t) : But_net_intake_sec s t := by
  unfold execSignerEnrol at h
  injection h with h
  subst h
  simp only [But_net_intake_sec, BlkProg, BlkPair, BlkIo]
  simp

theorem execAuthorityEnrol_keeps (r : Req) (slot : Nat) (cert : Bytes) (s : State) (t : State) (h : execAuthorityEnrol
    r slot cert s = .next t) : But_net_intake_sec s t := by
  unfold execAuthorityEnrol at h
  injection h with h
  subst h
  simp only [But_net_intake_sec, BlkProg, BlkPair, BlkIo]
  simp

@[simp] theorem lifeChange_keeps (s : State) (n : Nat) : But_kiln_tickets_pair_net_intake_sec s (lifeChange s n) := by
  simp only [But_kiln_tickets_pair_net_intake_sec, BlkIo]
  simp [lifeChange]

@[simp] theorem confirmEnrol_keeps (s : State) : But_kiln_tickets_pair_net_intake_sec s (confirmEnrol s) := by
  simp only [But_kiln_tickets_pair_net_intake_sec, BlkIo]
  unfold confirmEnrol
  (repeat' split) <;> simp

theorem execEnrolmentTimeout_keeps (s : State) (t : State) (h : execEnrolmentTimeout s = .next t) : But_net_intake_sec
    s t := by
  unfold execEnrolmentTimeout at h
  injection h with h
  subst h
  simp only [But_net_intake_sec, BlkProg, BlkPair, BlkIo]
  (repeat' split) <;> simp

@[simp] theorem raiseSkipped_keeps (s : State) (ts : List Nat) : But_intake s (raiseSkipped s ts) := by
  simp only [But_intake, BlkStart, BlkProg, BlkPair, BlkIo]
  simp [raiseSkipped]

@[simp] theorem setBank_keeps (s : State) (b : Nat) (x : BankSt) : But_kiln s (setBank s b x) := by
  simp only [But_kiln, BlkProg, BlkPair, BlkIo, BlkRest]
  simp [setBank]

@[simp] theorem bankStatus_keeps (s : State) (b reason : Nat) : But_kiln s (bankStatus s b reason) := by
  simp only [But_kiln, BlkProg, BlkPair, BlkIo, BlkRest]
  simp [bankStatus]

@[simp] theorem readHeaders_keeps (s : State) : But_kiln s (readHeaders s) := by
  simp only [But_kiln, BlkProg, BlkPair, BlkIo, BlkRest]
  simp [readHeaders]

end Sys2Proof.Machine
end

