-- ==== Sys2Proof/Laws/KeepsSolver.lean ====
section
/-! SUPPORT. What the operations of loop law and solver leave alone, one lemma each. -/

namespace Sys2Proof.Machine

@[simp] theorem setLoop_keeps (s : State) (c : Nat) (x : LoopSt) : But_loops s (setLoop s c x) := by
  simp only [But_loops, BlkStart, BlkProg, BlkPair, BlkIo]
  simp [setLoop]

@[simp] theorem setLoop2_keeps (s : State) (c : Nat) (x : LoopSt2) : But_loops s (setLoop2 s c x) := by
  simp only [But_loops, BlkStart, BlkProg, BlkPair, BlkIo]
  simp [setLoop2]

@[simp] theorem setTable_keeps (s : State) (t : Nat) (x : TableSt) : But_loops s (setTable s t x) := by
  simp only [But_loops, BlkStart, BlkProg, BlkPair, BlkIo]
  simp [setTable]

@[simp] theorem setInj_keeps (s : State) (c : Nat) (x : InjSt) : But_loops s (setInj s c x) := by
  simp only [But_loops, BlkStart, BlkProg, BlkPair, BlkIo]
  simp [setInj]

@[simp] theorem swapTable_keeps (s : State) (t : Nat) (fore : Bytes) : But_tickets_loops_pair_net_intake s (swapTable
    s t fore) := by
  simp only [But_tickets_loops_pair_net_intake, BlkStart, BlkIo]
  unfold swapTable
  dsimp only
  (repeat' split) <;> simp

@[simp] theorem tableDue_keeps (s : State) (t : Nat) : But_exch_tickets_loops_pair_net_intake s (tableDue s t) := by
  simp only [But_exch_tickets_loops_pair_net_intake, BlkStart, BlkIo]
  unfold tableDue
  dsimp only
  (repeat' split) <;> simp

@[simp] theorem tableTerm_keeps (s : State) (d : LoopDef) : But_exch_tickets_loops_pair_net_intake s (tableTerm s d).2
    := by
  simp only [But_exch_tickets_loops_pair_net_intake, BlkStart, BlkIo]
  unfold tableTerm
  dsimp only
  (repeat' split) <;> simp

@[simp] theorem swapOne_keeps (s : State) (c : Nat) (d : LoopDef) (x : LoopSt) (r y h : F64) (w : SwapSt) (new : List
    F64) : But_intake s (swapOne s c d x r y h w new).1 := by
  simp only [But_intake, BlkStart, BlkProg, BlkPair, BlkIo]
  unfold swapOne
  (repeat' split) <;> simp

@[simp] theorem setLoopMode_keeps (s : State) (c mode who : Nat) : But_loops_net_intake s (setLoopMode s c mode who)
    := by
  simp only [But_loops_net_intake, BlkStart, BlkProg, BlkPair, BlkIo]
  simp [setLoopMode]

@[simp] theorem applyRequest_keeps (s : State) (c mode who : Nat) : But_loops_net_intake s (applyRequest s c mode who)
    := by
  simp only [But_loops_net_intake, BlkStart, BlkProg, BlkPair, BlkIo]
  simp [applyRequest]

@[simp] theorem fallbackDue_keeps (s : State) (c : Nat) (d : LoopDef) : But_loops_net_intake s (fallbackDue s c d) :=
    by
  simp only [But_loops_net_intake, BlkStart, BlkProg, BlkPair, BlkIo]
  simp [fallbackDue]

@[simp] theorem requestsDue_keeps (s : State) (c : Nat) : But_loops_net_intake s (requestsDue s c) := by
  simp only [But_loops_net_intake, BlkStart, BlkProg, BlkPair, BlkIo]
  unfold requestsDue
  dsimp only
  (repeat' split) <;> simp

@[simp] theorem rampStep_keeps (s : State) (c : Nat) (d : LoopDef) : But_loops s (rampStep s c d) := by
  simp only [But_loops, BlkStart, BlkProg, BlkPair, BlkIo]
  simp [rampStep]

@[simp] theorem publishOut_keeps (s : State) (d : LoopDef) (u : F64) : But_crs_exch s (publishOut s d u) := by
  simp only [But_crs_exch, BlkStart, BlkPair, BlkIo, BlkRest]
  unfold publishOut
  (repeat' split) <;> simp

@[simp] theorem laneUse_keeps (s : State) (lane n : Nat) : But_loops s (laneUse s lane n) := by
  simp only [But_loops, BlkStart, BlkProg, BlkPair, BlkIo]
  simp [laneUse]

@[simp] theorem injectEnd_keeps (s : State) (c : Nat) (j : InjSt) : But_loops_intake s (injectEnd s c j) := by
  simp only [But_loops_intake, BlkStart, BlkProg, BlkPair, BlkIo]
  simp [injectEnd]

@[simp] theorem injectSample_keeps (s : State) (c : Nat) (d : LoopDef) (i : SampleIn) : But_loops_net_intake s
    (injectSample s c d i).2.2 := by
  simp only [But_loops_net_intake, BlkStart, BlkProg, BlkPair, BlkIo]
  unfold injectSample
  dsimp only
  (repeat' split) <;> simp

@[simp] theorem injectAfter_keeps (s : State) (c : Nat) (d : LoopDef) (sat : Nat) : But_loops_net_intake s
    (injectAfter s c d sat) := by
  simp only [But_loops_net_intake, BlkStart, BlkProg, BlkPair, BlkIo]
  unfold injectAfter
  dsimp only
  (repeat' split) <;> simp

@[simp] theorem outerDone_keeps (s : State) (c : Nat) (u : F64) : But_loops s (outerDone s c u) := by
  simp only [But_loops, BlkStart, BlkProg, BlkPair, BlkIo]
  unfold outerDone
  (repeat' split) <;> simp

theorem swapFold (c : Nat) (d : LoopDef) (x : LoopSt) (r y h : F64) (l : List (List (Nat × F64))) (s : State) (w : SwapSt) :
    But_intake s (l.foldl (fun (sw : State × SwapSt) q => swapOne sw.1 c d x r y h sw.2 (withSet sw.2.params q)) (s, w)).1 := by
  induction l generalizing s w with
  | nil => simp [But_intake, BlkStart, BlkProg, BlkPair, BlkIo]
  | cons q l ih =>
    rw [List.foldl_cons]
    have h1 := ih (swapOne s c d x r y h w (withSet w.params q)).1 (swapOne s c d x r y h w (withSet w.params q)).2
    have h2 := swapOne_keeps s c d x r y h w (withSet w.params q)
    simp only [But_intake, BlkStart, BlkProg, BlkPair, BlkIo, h2] at h1 ⊢
    exact h1
@[simp] theorem swapAll_keeps (s : State) (c : Nat) (d : LoopDef) (x : LoopSt) (r y h : F64) (m : LoopSt2) (acc : Int) : But_intake s (swapAll s c d x r y h m acc).1 := by
  unfold swapAll
  cases m.dueAll with
  | none => exact swapFold ..
  | some q =>
    have h1 := swapFold c d x r y h m.due (swapOne s c d x r y h ⟨m.params, acc, none, 0⟩ q).1 (swapOne s c d x r y h ⟨m.params, acc, none, 0⟩ q).2
    have h2 := swapOne_keeps s c d x r y h ⟨m.params, acc, none, 0⟩ q
    simp only [But_intake, BlkStart, BlkProg, BlkPair, BlkIo, h2] at h1
    exact h1

@[simp] theorem lawEvents_keeps (s : State) (c : Nat) (d : LoopDef) (x : LoopSt) (i : SampleIn) (step : Option F64) : But_intake s (lawEvents s c d x i step) := by
  simp only [But_intake, BlkStart, BlkProg, BlkPair, BlkIo]
  unfold lawEvents
  cases step <;> dsimp only [Option.elim] <;> (repeat' split) <;> simp

@[simp] theorem lawSample_keeps (s : State) (c : Nat) (d : LoopDef) (i : SampleIn) : But_crs_exch_loops_net_intake s
    (lawSample s c d i) := by
  simp only [But_crs_exch_loops_net_intake, BlkStart, BlkPair, BlkIo]
  simp [lawSample]

@[simp] theorem loopSample_keeps (s : State) (c : Nat) (d : LoopDef) : But_crs_exch_tickets_loops_pair_net_intake s
    (loopSample s c d) := by
  simp only [But_crs_exch_tickets_loops_pair_net_intake, BlkStart, BlkIo]
  simp [loopSample]

@[simp] theorem sendLoop_keeps (s : State) (c : Nat) : But_net s (sendLoop s c) := by
  simp only [But_net, BlkStart, BlkProg, BlkPair, BlkIo]
  simp [sendLoop]

@[simp] theorem loopMiss_keeps (s : State) (c : Nat) : But_loops_net_intake s (loopMiss s c) := by
  simp only [But_loops_net_intake, BlkStart, BlkProg, BlkPair, BlkIo]
  unfold loopMiss
  cases loopDef (theImage s) c <;> dsimp only [Option.elim] <;> (repeat' split) <;> simp

@[simp] theorem loopsLoad_keeps (s : State) : But_crs_loops s (loopsLoad s) := by
  simp only [But_crs_loops, BlkStart, BlkPair, BlkIo]
  simp [loopsLoad]

@[simp] theorem paramsVisible_keeps (s : State) : But_loops s (paramsVisible s) := by
  simp only [But_loops, BlkStart, BlkProg, BlkPair, BlkIo]
  simp [paramsVisible]

@[simp] theorem setSolv_keeps (s : State) (c : Nat) (x : SolvSt) : But_solver s (setSolv s c x) := by
  simp only [But_solver, BlkStart, BlkPair, BlkIo, BlkRest]
  simp [setSolv]

@[simp] theorem setSolv2_keeps (s : State) (c : Nat) (x : SolvSt2) : But_solver s (setSolv2 s c x) := by
  simp only [But_solver, BlkStart, BlkPair, BlkIo, BlkRest]
  simp [setSolv2]

@[simp] theorem snapshotParams_keeps (s : State) (c : Nat) : But_tickets_solver_pair_net_intake s (snapshotParams s c)
    := by
  simp only [But_tickets_solver_pair_net_intake, BlkStart, BlkIo]
  unfold snapshotParams
  dsimp only
  (repeat' split) <;> simp

@[simp] theorem noteUnit_keeps (s : State) (u : Nat) : But_solver s (noteUnit s u) := by
  simp only [But_solver, BlkStart, BlkPair, BlkIo, BlkRest]
  unfold noteUnit
  dsimp only
  (repeat' split) <;> simp

@[simp] theorem setJob_keeps (s : State) (k : Nat) (j : JobSt) (st at_ : Nat) : But_solver s (setJob s k j st at_) :=
    by
  simp only [But_solver, BlkStart, BlkPair, BlkIo, BlkRest]
  simp [setJob]

@[simp] theorem scheduleUnit_keeps (s : State) (u : Nat) : But_solver s (scheduleUnit s u) := by
  simp only [But_solver, BlkStart, BlkPair, BlkIo, BlkRest]
  unfold scheduleUnit
  (repeat' split) <;> simp

@[simp] theorem schedule_keeps (s : State) : But_solver s (schedule s) := by
  simp only [But_solver, BlkStart, BlkPair, BlkIo, BlkRest]
  simp [schedule]

@[simp] theorem setOutcome_keeps (s : State) (c f : Nat) (o : Outcome9) : But_solver s (setOutcome s c f o) := by
  simp only [But_solver, BlkStart, BlkPair, BlkIo, BlkRest]
  simp [setOutcome]

@[simp] theorem holdFrame_keeps (s : State) (c f cause : Nat) (item : List W32) : But_solver_intake s (holdFrame s c f
    cause item) := by
  simp only [But_solver_intake, BlkStart, BlkPair, BlkIo]
  simp [holdFrame]

@[simp] theorem jobLate_keeps (s : State) (c : Nat) (why : Nat) : But_solver_intake s (jobLate s c why) := by
  simp only [But_solver_intake, BlkStart, BlkPair, BlkIo]
  unfold jobLate
  (repeat' split) <;> simp

theorem takeTag_keeps (c : Nat) (acc : State × List F64 × Option Nat × Bool) (t : Nat × Nat × Bool) : But_solver_intake acc.1 (takeTag c acc t).1 := by
  simp only [But_solver_intake, BlkStart, BlkPair, BlkIo]
  unfold takeTag
  obtain ⟨s, vals, bad, stale⟩ := acc
  try dsimp only
  (repeat' split) <;> simp
theorem takeTags_keeps (c : Nat) (l : List (Nat × Nat × Bool)) (acc : State × List F64 × Option Nat × Bool) :
    But_solver_intake acc.1 (l.foldl (takeTag c) acc).1 := by
  induction l generalizing acc with
  | nil => simp [But_solver_intake, BlkStart, BlkPair, BlkIo]
  | cons b l ih => rw [List.foldl_cons]; have h1 := ih (takeTag c acc b); have h2 := takeTag_keeps c acc b; simp only [But_solver_intake, BlkStart, BlkPair, BlkIo] at h1 h2 ⊢; simp only [h2] at h1; exact h1
theorem execSolverFrameStart_keeps (ctx : Nat) (s : State) (t : State) (h : execSolverFrameStart ctx s = .next t) : But_tickets_solver_pair_net_intake s t := by
  unfold execSolverFrameStart at h
  injection h with h
  subst h
  simp only [But_tickets_solver_pair_net_intake, BlkStart, BlkIo]
  split
  · simp
  · try dsimp only
    split
    · simp
    · rename_i p _ _
      have k := takeTags_keeps ctx ((solverTags (solverOf p) p).zipIdx.map fun e => (e.2, e.1.1, e.1.2)) (snapshotParams (setPhase s 20000) ctx, [], none, false)
      generalize List.foldl (takeTag ctx) _ _ = q at k ⊢
      obtain ⟨s1, vals, bad, stale⟩ := q
      try dsimp only at k ⊢
      (repeat' split) <;> simp [k]

@[simp] theorem raiseConditions_keeps (s : State) (c : Nat) (o : Outcome9) : But_solver_intake s (raiseConditions s c
    o) := by
  simp only [But_solver_intake, BlkStart, BlkPair, BlkIo]
  simp [raiseConditions]

theorem execSolverJobEnd_keeps (ctx : Nat) (at_ : Nat) (s : State) (t : State) (h : execSolverJobEnd ctx at_ s = .next
    t) : But_solver_intake s t := by
  unfold execSolverJobEnd at h
  injection h with h
  subst h
  simp only [But_solver_intake, BlkStart, BlkPair, BlkIo]
  (repeat' split) <;> simp

theorem execSolverJobDeadline_keeps (ctx : Nat) (s : State) (t : State) (h : execSolverJobDeadline ctx s = .next t) :
    But_solver_intake s t := by
  unfold execSolverJobDeadline at h
  injection h with h
  subst h
  simp only [But_solver_intake, BlkStart, BlkPair, BlkIo]
  (repeat' split) <;> simp

@[simp] theorem dropOldFrame_keeps (s : State) (ctx : Nat) : But_exch_solver s (dropOldFrame s ctx) := by
  simp only [But_exch_solver, BlkStart, BlkPair, BlkIo, BlkRest]
  simp [dropOldFrame]

@[simp] theorem countOutcome_keeps (s : State) (arrived : Bool) : But_pair s (countOutcome s arrived) := by
  simp only [But_pair, BlkStart, BlkProg, BlkIo, BlkRest]
  simp [countOutcome]

theorem execSolverPublish_keeps (ctx : Nat) (s : State) (t : State) (h : execSolverPublish ctx s = .next t) :
    But_exch_solver_pair_intake s t := by
  unfold execSolverPublish at h
  injection h with h
  subst h
  simp only [But_exch_solver_pair_intake, BlkStart, BlkIo]
  (repeat' split) <;> simp

@[simp] theorem rejoin_keeps (s : State) (c k : Nat) (d : SolverDef) (u g : Nat) : But_solver_intake s (rejoin s c k d
    u g) := by
  simp only [But_solver_intake, BlkStart, BlkPair, BlkIo]
  unfold rejoin
  dsimp only
  (repeat' split) <;> simp

@[simp] theorem rehomeOne_keeps (s : State) (e : Nat × SolverDef) : But_solver_intake s (rehomeOne s e) := by
  simp only [But_solver_intake, BlkStart, BlkPair, BlkIo]
  unfold rehomeOne
  (repeat' split) <;> simp

@[simp] theorem rehome_keeps (s : State) (cs : List (Nat × SolverDef)) : But_solver_intake s (rehome s cs) := by
  simp only [But_solver_intake, BlkStart, BlkPair, BlkIo]
  simp [rehome]

@[simp] theorem tileOff_keeps (s : State) (t cause : Nat) : But_solver_intake s (tileOff s t cause) := by
  simp only [But_solver_intake, BlkStart, BlkPair, BlkIo]
  unfold tileOff
  (repeat' split) <;> simp

theorem execTileOffline_keeps (tile cause : Nat) (at_ : Nat) (s : State) (t : State) (h : execTileOffline tile cause
    at_ s = .next t) : But_solver_intake s t := by
  unfold execTileOffline at h
  injection h with h
  subst h
  simp only [But_solver_intake, BlkStart, BlkPair, BlkIo]
  simp

theorem execTileSelfTest_keeps (tile : Nat) (passed : Bool) (at_ : Nat) (s : State) (t : State) (h : execTileSelfTest
    tile passed at_ s = .next t) : But_solver_intake s t := by
  unfold execTileSelfTest at h
  injection h with h
  subst h
  simp only [But_solver_intake, BlkStart, BlkPair, BlkIo]
  simp

@[simp] theorem keepFallbacks_keeps (s : State) : But_solver s (keepFallbacks s) := by
  simp only [But_solver, BlkStart, BlkPair, BlkIo, BlkRest]
  simp [keepFallbacks]

@[simp] theorem sendOutcome_keeps (s : State) (ctx : Nat) : But_solver_net_intake s (sendOutcome s ctx) := by
  simp only [But_solver_net_intake, BlkStart, BlkPair, BlkIo]
  unfold sendOutcome
  dsimp only
  (repeat' split) <;> simp

@[simp] theorem sendOutcomes_keeps (s : State) : But_solver_net_intake s (sendOutcomes s) := by
  simp only [But_solver_net_intake, BlkStart, BlkPair, BlkIo]
  simp [sendOutcomes]

end Sys2Proof.Machine
end

