-- ==== Sys2Proof/Laws/KeepsUnits.lean ====
section
/-! SUPPORT. What the operations of safety, panel, image, loops, injection and capture leave alone, one lemma each. -/

namespace Sys2Proof.Machine

@[simp] theorem setSi_keeps (s : State) (i : Nat) (x : SiSt) : But_safe s (setSi s i x) := by
  simp only [But_safe, BlkStart, BlkProg, BlkIo, BlkRest]
  simp [setSi]

@[simp] theorem setAx_keeps (s : State) (j : Nat) (x : AxisSt) : But_safe s (setAx s j x) := by
  simp only [But_safe, BlkStart, BlkProg, BlkIo, BlkRest]
  simp [setAx]

@[simp] theorem setConn_keeps (s : State) (k : Nat) (x : ConnSt) : But_safe s (setConn s k x) := by
  simp only [But_safe, BlkStart, BlkProg, BlkIo, BlkRest]
  simp [setConn]

@[simp] theorem safeCount_keeps (s : State) (i : Nat) : But_safe s (safeCount s i) := by
  simp only [But_safe, BlkStart, BlkProg, BlkIo, BlkRest]
  simp [safeCount]

@[simp] theorem seeReset_keeps (s : State) (source tick : Nat) : But_safe s (seeReset s source tick) := by
  simp only [But_safe, BlkStart, BlkProg, BlkIo, BlkRest]
  simp [seeReset]

@[simp] theorem latchSi_keeps (s : State) (l : Latch) (i : Nat) : But_safe s (latchSi s l i) := by
  simp only [But_safe, BlkStart, BlkProg, BlkIo, BlkRest]
  simp [latchSi]

@[simp] theorem latchSafety_keeps (s : State) (l : Latch) : But_safe s (latchSafety s l) := by
  simp only [But_safe, BlkStart, BlkProg, BlkIo, BlkRest]
  simp [latchSafety]

@[simp] theorem compareFault_keeps (s : State) (datum : Nat) :
    But_md_kiln_crs_exch_loops_solver_pair_mortar_safe_field_can_net_intake_panel_panel2_free s (compareFault s datum)
    := by
  simp only [But_md_kiln_crs_exch_loops_solver_pair_mortar_safe_field_can_net_intake_panel_panel2_free]
  simp [compareFault]

@[simp] theorem loseChannel_keeps (s : State) (b : Bool) (cause : Nat) :
    But_md_kiln_crs_exch_loops_solver_pair_mortar_safe_field_can_net_intake_panel_panel2_free s (loseChannel s b
    cause) := by
  simp only [But_md_kiln_crs_exch_loops_solver_pair_mortar_safe_field_can_net_intake_panel_panel2_free]
  simp [loseChannel]

@[simp] theorem safeLosses_keeps (s : State) (lossA lossB : Nat) (dataA dataB : Bool) :
    But_md_kiln_crs_exch_loops_solver_pair_mortar_safe_field_can_net_intake_panel_panel2_free s (safeLosses s lossA
    lossB dataA dataB) := by
  simp only [But_md_kiln_crs_exch_loops_solver_pair_mortar_safe_field_can_net_intake_panel_panel2_free]
  simp [safeLosses]

@[simp] theorem takeContainer_keeps (k : Nat) (d : ConnDef) (s : State) (b : Bytes) : But_safe_intake s (takeContainer
    k d s b) := by
  simp only [But_safe_intake, BlkStart, BlkProg, BlkIo]
  unfold takeContainer
  dsimp only
  (repeat' split) <;> simp

@[simp] theorem connReset_keeps (s : State) (k : Nat) : But_safe s (connReset s k) := by
  simp only [But_safe, BlkStart, BlkProg, BlkIo, BlkRest]
  simp [connReset]

@[simp] theorem evalConns_keeps (s : State) : But_safe_intake s (evalConns s) := by
  simp only [But_safe_intake, BlkStart, BlkProg, BlkIo]
  simp [evalConns]

@[simp] theorem evalSi_keeps (s : State) (i : Nat) (d : SiDef) :
    But_md_kiln_crs_exch_loops_solver_pair_mortar_safe_field_can_net_intake_panel_panel2_free s (evalSi s i d) := by
  simp only [But_md_kiln_crs_exch_loops_solver_pair_mortar_safe_field_can_net_intake_panel_panel2_free]
  simp [evalSi]

@[simp] theorem evalSpeed_keeps (s : State) (j : Nat) (d : AxisDef) :
    But_md_kiln_crs_exch_loops_solver_pair_mortar_safe_field_can_net_intake_panel_panel2_free s (evalSpeed s j d) :=
    by
  simp only [But_md_kiln_crs_exch_loops_solver_pair_mortar_safe_field_can_net_intake_panel_panel2_free]
  unfold evalSpeed
  (repeat' split) <;> simp

@[simp] theorem axisOwn_keeps (s : State) (j : Nat) (d : AxisDef) : But_safe_intake s (axisOwn s j d) := by
  simp only [But_safe_intake, BlkStart, BlkProg, BlkIo]
  simp [axisOwn]

@[simp] theorem axisAdopt_keeps (s : State) (j before own0 : Nat) : But_safe_intake s (axisAdopt s j before own0) :=
    by
  simp only [But_safe_intake, BlkStart, BlkProg, BlkIo]
  unfold axisAdopt
  dsimp only
  (repeat' split) <;> simp

@[simp] theorem axisSwitches_keeps (s : State) (j : Nat) : But_safe s (axisSwitches s j) := by
  simp only [But_safe, BlkStart, BlkProg, BlkIo, BlkRest]
  simp [axisSwitches]

@[simp] theorem evalAxis_keeps (s : State) (j : Nat) (d : AxisDef) : But_safe_intake s (evalAxis s j d) := by
  simp only [But_safe_intake, BlkStart, BlkProg, BlkIo]
  simp [evalAxis]

@[simp] theorem sendAxes_keeps (s : State) : But_net s (sendAxes s) := by
  simp only [But_net, BlkStart, BlkProg, BlkPair, BlkIo]
  simp [sendAxes]

theorem execSafetyDecision_keeps (lossA lossB : Nat) (dataA dataB : Bool) (s : State) (t : State) (h :
    execSafetyDecision lossA lossB dataA dataB s = .next t) :
    But_md_kiln_crs_exch_loops_solver_pair_mortar_safe_field_can_net_intake_panel_panel2_free s t := by
  unfold execSafetyDecision at h
  injection h with h
  subst h
  simp only [But_md_kiln_crs_exch_loops_solver_pair_mortar_safe_field_can_net_intake_panel_panel2_free]
  simp

theorem execPartnerAxisStateReceive_keeps (axes : List (Nat × Nat × F64)) (s : State) (t : State) (h : execPartnerAxisStateReceive axes s = .next t) : But_safe s t := by
  unfold execPartnerAxisStateReceive at h
  injection h with h
  subst h
  show But_safe _ _
  split
  · simp [But_safe, BlkStart, BlkProg, BlkIo, BlkRest]
  · refine foldl_inv (P := But_safe s) _ _ _ (by simp [But_safe, BlkStart, BlkProg, BlkIo, BlkRest]) (fun u b hu => ?_)
    split
    · simp [But_safe, BlkStart, BlkProg, BlkIo, BlkRest, hu]
    · exact hu

@[simp] theorem loseInput_keeps (s : State) (i channel : Nat) :
    But_md_kiln_crs_exch_loops_solver_pair_safe_field_can_net_intake_panel_panel2_free s (loseInput s i channel) := by
  simp only [But_md_kiln_crs_exch_loops_solver_pair_safe_field_can_net_intake_panel_panel2_free]
  simp [loseInput]

theorem execTestPulse_keeps (input channel : Nat) (readsClosed : Bool) (at_ : Nat) (s : State) (t : State) (h :
    execTestPulse input channel readsClosed at_ s = .next t) :
    But_md_kiln_crs_exch_loops_solver_pair_safe_field_can_net_intake_panel_panel2_free s t := by
  unfold execTestPulse at h
  injection h with h
  subst h
  simp only [But_md_kiln_crs_exch_loops_solver_pair_safe_field_can_net_intake_panel_panel2_free]
  (repeat' split) <;> simp

theorem execPermitOffPulse_keeps (axis switch : Nat) (below on : Bool) (at_ : Nat) (s : State) (t : State) (h :
    execPermitOffPulse axis switch below on at_ s = .next t) : But_safe_intake s t := by
  unfold execPermitOffPulse at h
  injection h with h
  subst h
  simp only [But_safe_intake, BlkStart, BlkProg, BlkIo]
  (repeat' split) <;> simp

@[simp] theorem resetSi_keeps (s : State) (i : Nat) : But_safe_intake s (resetSi s i) := by
  simp only [But_safe_intake, BlkStart, BlkProg, BlkIo]
  simp [resetSi]

@[simp] theorem resetAxis_keeps (s : State) (j : Nat) : But_safe s (resetAxis s j) := by
  simp only [But_safe, BlkStart, BlkProg, BlkIo, BlkRest]
  simp [resetAxis]

theorem execSafetyReset_keeps (source at_ : Nat) (s : State) (t : State) (h : execSafetyReset source at_ s = .next t)
    : But_md_safe_intake s t := by
  unfold execSafetyReset at h
  injection h with h
  subst h
  simp only [But_md_safe_intake, BlkStart, BlkProg, BlkIo]
  (repeat' split) <;> simp

theorem execRingSafetyWatchdog_keeps (conn : Nat) (s : State) (t : State) (h : execRingSafetyWatchdog conn s = .next
    t) : But_safe_intake s t := by
  unfold execRingSafetyWatchdog at h
  injection h with h
  subst h
  simp only [But_safe_intake, BlkStart, BlkProg, BlkIo]
  (repeat' split) <;> simp

theorem execDegradedExpiryNear_keeps (at_ : Nat) (s : State) (t : State) (h : execDegradedExpiryNear at_ s = .next t)
    : But_safe_intake s t := by
  unfold execDegradedExpiryNear at h
  injection h with h
  subst h
  simp only [But_safe_intake, BlkStart, BlkProg, BlkIo]
  (repeat' split) <;> simp

theorem execDegradedExpiry_keeps (at_ : Nat) (s : State) (t : State) (h : execDegradedExpiry at_ s = .next t) :
    But_safe_intake s t := by
  unfold execDegradedExpiry at h
  injection h with h
  subst h
  simp only [But_safe_intake, BlkStart, BlkProg, BlkIo]
  (repeat' split) <;> simp

@[simp] theorem markOverrides_keeps (s : State) : But_safe s (markOverrides s) := by
  simp only [But_safe, BlkStart, BlkProg, BlkIo, BlkRest]
  simp [markOverrides]

@[simp] theorem panelCount_keeps (s : State) (i : Nat) (n : Nat) : But_panel2 s (panelCount s i n) := by
  simp only [But_panel2, BlkStart, BlkProg, BlkPair, BlkRest]
  simp [panelCount]

@[simp] theorem sequencePixel_keeps (s : State) (d : PixelDef) : But_panel2 s (sequencePixel s d) := by
  simp only [But_panel2, BlkStart, BlkProg, BlkPair, BlkRest]
  simp [sequencePixel]

@[simp] theorem panelNote_keeps (s : State) : But_net_panel2 s (panelNote s) := by
  simp only [But_net_panel2, BlkStart, BlkProg, BlkPair]
  simp [panelNote]

@[simp] theorem panelAck_keeps (s : State) : But_net_intake_panel_panel2 s (panelAck s) := by
  simp only [But_net_intake_panel_panel2, BlkStart, BlkProg, BlkPair]
  simp [panelAck]

@[simp] theorem ledgerCarry_keeps (s : State) : But_panel s (ledgerCarry s) := by
  simp only [But_panel, BlkStart, BlkProg, BlkPair, BlkRest]
  unfold ledgerCarry
  (repeat' split) <;> simp

@[simp] theorem ledgerTake_keeps (s : State) : But_panel s (ledgerTake s) := by
  simp only [But_panel, BlkStart, BlkProg, BlkPair, BlkRest]
  unfold ledgerTake
  (repeat' split) <;> simp

@[simp] theorem takeBand_keeps (s : State) : But_panel_panel2 s (takeBand s) := by
  simp only [But_panel_panel2, BlkStart, BlkProg, BlkPair, BlkRest]
  unfold takeBand
  (repeat' split) <;> simp

@[simp] theorem releasePanel_keeps (s : State) : But_panel s (releasePanel s) := by
  simp only [But_panel, BlkStart, BlkProg, BlkPair, BlkRest]
  simp [releasePanel]

@[simp] theorem startPair_keeps (s : State) (lit : List Nat) : But_panel s (startPair s lit) := by
  simp only [But_panel, BlkStart, BlkProg, BlkPair, BlkRest]
  simp [startPair]

theorem execFramePairBoundary_keeps (at_ : Nat) (s : State) (t : State) (h : execFramePairBoundary at_ s = .next t) :
    But_intake_panel_panel2 s t := by
  unfold execFramePairBoundary at h
  injection h with h
  subst h
  simp only [But_intake_panel_panel2, BlkStart, BlkProg, BlkPair]
  simp

theorem execNtcRead_keeps (deciC : Int) (at_ : Nat) (s : State) (t : State) (h : execNtcRead deciC at_ s = .next t) :
    But_intake_panel_panel2 s t := by
  unfold execNtcRead at h
  injection h with h
  subst h
  simp only [But_intake_panel_panel2, BlkStart, BlkProg, BlkPair]
  simp

theorem execCrackLoopMeasure_keeps (ohms mv at_ : Nat) (s : State) (t : State) (h : execCrackLoopMeasure ohms mv at_ s
    = .next t) : But_net_intake_panel_panel2 s t := by
  unfold execCrackLoopMeasure at h
  injection h with h
  subst h
  simp only [But_net_intake_panel_panel2, BlkStart, BlkProg, BlkPair]
  simp

theorem execLampTest_keeps (r : Req) (s : State) (t : State) (h : execLampTest r s = .next t) : But_net_intake_panel s
    t := by
  unfold execLampTest at h
  injection h with h
  subst h
  simp only [But_net_intake_panel, BlkStart, BlkProg, BlkPair]
  simp

@[simp] theorem applyLoops_keeps (s : State) : But_loops s (applyLoops s) := by
  simp only [But_loops, BlkStart, BlkProg, BlkPair, BlkIo]
  simp [applyLoops]

@[simp] theorem applySolver_keeps (s : State) : But_solver_intake s (applySolver s) := by
  simp only [But_solver_intake, BlkStart, BlkPair, BlkIo]
  simp [applySolver]

@[simp] theorem applySafety_keeps (s : State) : But_safe s (applySafety s) := by
  simp only [But_safe, BlkStart, BlkProg, BlkIo, BlkRest]
  simp [applySafety]

@[simp] theorem applyIo_keeps (s : State) : But_ring_can_panel_panel2 s (applyIo s) := by
  simp only [But_ring_can_panel_panel2, BlkStart, BlkProg, BlkPair, BlkRest]
  simp [applyIo]

@[simp] theorem applyCourses_keeps (s : State) : But_set_crs_exch s (applyCourses s) := by
  simp only [But_set_crs_exch, BlkPair, BlkIo, BlkRest]
  simp [applyCourses]

@[simp] theorem extendK7_keeps (s : State) (h : Bytes) : But_kiln s (extendK7 s h) := by
  simp only [But_kiln, BlkProg, BlkPair, BlkIo, BlkRest]
  simp [extendK7]

@[simp] theorem applyImage_keeps (s : State) (b : Nat) (img : Image) :
    But_kiln_set_crs_exch_loops_solver_safe_ring_can_net_intake_panel_panel2 s (applyImage s b img) := by
  simp only [But_kiln_set_crs_exch_loops_solver_safe_ring_can_net_intake_panel_panel2]
  simp [applyImage]

theorem execLoopSample_keeps (ctx : Nat) (at_ : Nat) (s : State) (t : State) (h : execLoopSample ctx at_ s = .next t)
    : But_crs_exch_tickets_loops_pair_net_intake s t := by
  unfold execLoopSample at h
  injection h with h
  subst h
  simp only [But_crs_exch_tickets_loops_pair_net_intake, BlkStart, BlkIo]
  (repeat' split) <;> simp

theorem execLoopDeadline_keeps (lane : Nat) (s : State) (t : State) (h : execLoopDeadline lane s = .next t) :
    But_loops_net_intake s t := by
  unfold execLoopDeadline at h
  injection h with h
  subst h
  simp only [But_loops_net_intake, BlkStart, BlkProg, BlkPair, BlkIo]
  (repeat' split) <;> simp

@[simp] theorem loopModeAccept_keeps (s : State) (r : Req) (c mode : Nat) : But_loops s (loopModeAccept s r c mode) :=
    by
  simp only [But_loops, BlkStart, BlkProg, BlkPair, BlkIo]
  simp [loopModeAccept]

@[simp] theorem loopModeRequest_keeps (r : Req) (c mode : Nat) (s : State) : But_loops_net_intake s (loopModeRequest r
    c mode s) := by
  simp only [But_loops_net_intake, BlkStart, BlkProg, BlkPair, BlkIo]
  have H : ∀ (s : State) (r : Req) (o : W32) (k : State → State), (∀ u, But_loops_net_intake u (k u)) → But_loops_net_intake s (hostCommand s r o k) := (by intros; rename_i hk; simp only [But_loops_net_intake, BlkStart, BlkProg, BlkPair, BlkIo]; simp [hk])
  (try unfold loopModeRequest)
  (try dsimp only)
  show But_loops_net_intake _ _
  refine H _ _ _  _ (fun u => ?_)
  (repeat' split) <;> simp [But_loops_net_intake, BlkStart, BlkProg, BlkPair, BlkIo]

theorem execLoopModeManual_keeps (r : Req) (ctx : Nat) (s : State) (t : State) (h : execLoopModeManual r ctx s = .next
    t) : But_loops_net_intake s t := by
  unfold execLoopModeManual at h
  injection h with h
  subst h
  simp only [But_loops_net_intake, BlkStart, BlkProg, BlkPair, BlkIo]
  simp

theorem execLoopModeAuto_keeps (r : Req) (ctx : Nat) (s : State) (t : State) (h : execLoopModeAuto r ctx s = .next t)
    : But_loops_net_intake s t := by
  unfold execLoopModeAuto at h
  injection h with h
  subst h
  simp only [But_loops_net_intake, BlkStart, BlkProg, BlkPair, BlkIo]
  simp

theorem execLoopModeCascade_keeps (r : Req) (ctx : Nat) (s : State) (t : State) (h : execLoopModeCascade r ctx s =
    .next t) : But_loops_net_intake s t := by
  unfold execLoopModeCascade at h
  injection h with h
  subst h
  simp only [But_loops_net_intake, BlkStart, BlkProg, BlkPair, BlkIo]
  simp

theorem execLoopModeExternal_keeps (r : Req) (ctx : Nat) (s : State) (t : State) (h : execLoopModeExternal r ctx s =
    .next t) : But_loops_net_intake s t := by
  unfold execLoopModeExternal at h
  injection h with h
  subst h
  simp only [But_loops_net_intake, BlkStart, BlkProg, BlkPair, BlkIo]
  simp

theorem execLoopModeHold_keeps (r : Req) (ctx : Nat) (s : State) (t : State) (h : execLoopModeHold r ctx s = .next t)
    : But_loops_net_intake s t := by
  unfold execLoopModeHold at h
  injection h with h
  subst h
  simp only [But_loops_net_intake, BlkStart, BlkProg, BlkPair, BlkIo]
  simp

@[simp] theorem manualAccept_keeps (s : State) (c : Nat) (v : F64) : But_loops s (manualAccept s c v) := by
  simp only [But_loops, BlkStart, BlkProg, BlkPair, BlkIo]
  simp [manualAccept]

theorem execManualValueWrite_keeps (r : Req) (ctx : Nat) (value : F64) (s : State) (t : State) (h :
    execManualValueWrite r ctx value s = .next t) : But_loops_net_intake s t := by
  unfold execManualValueWrite at h
  injection h with h
  subst h
  simp only [But_loops_net_intake, BlkStart, BlkProg, BlkPair, BlkIo]
  have H : ∀ (s : State) (r : Req) (o : W32) (k : State → State), (∀ u, But_loops_net_intake u (k u)) → But_loops_net_intake s (hostCommand s r o k) := (by intros; rename_i hk; simp only [But_loops_net_intake, BlkStart, BlkProg, BlkPair, BlkIo]; simp [hk])
  show But_loops_net_intake _ _
  refine H _ _ _  _ (fun u => ?_)
  (repeat' split) <;> simp [But_loops_net_intake, BlkStart, BlkProg, BlkPair, BlkIo]

@[simp] theorem applyAccept_keeps (s : State) (c : Nat) (value : W32) : But_loops s (applyAccept s c value) := by
  simp only [But_loops, BlkStart, BlkProg, BlkPair, BlkIo]
  simp [applyAccept]

theorem execApply_keeps (r : Req) (ctx : Nat) (value : W32) (s : State) (t : State) (h : execApply r ctx value s =
    .next t) : But_loops_net_intake s t := by
  unfold execApply at h
  injection h with h
  subst h
  simp only [But_loops_net_intake, BlkStart, BlkProg, BlkPair, BlkIo]
  have H : ∀ (s : State) (r : Req) (o : W32) (k : State → State), (∀ u, But_loops_net_intake u (k u)) → But_loops_net_intake s (hostCommand s r o k) := (by intros; rename_i hk; simp only [But_loops_net_intake, BlkStart, BlkProg, BlkPair, BlkIo]; simp [hk])
  show But_loops_net_intake _ _
  refine H _ _ _  _ (fun u => ?_)
  (repeat' split) <;> simp [But_loops_net_intake, BlkStart, BlkProg, BlkPair, BlkIo]

@[simp] theorem tableCompletes_keeps (s : State) (t : Nat) : But_loops s (tableCompletes s t) := by
  simp only [But_loops, BlkStart, BlkProg, BlkPair, BlkIo]
  simp [tableCompletes]

theorem execTableRebuildComplete_keeps (table : Nat) (at_ : Nat) (s : State) (t : State) (h : execTableRebuildComplete
    table at_ s = .next t) : But_tickets_loops_pair_net_intake s t := by
  unfold execTableRebuildComplete at h
  injection h with h
  subst h
  simp only [But_tickets_loops_pair_net_intake, BlkStart, BlkIo]
  (repeat' split) <;> simp

theorem execRebuildOverdue_keeps (table : Nat) (s : State) (t : State) (h : execRebuildOverdue table s = .next t) :
    But_loops_intake s t := by
  unfold execRebuildOverdue at h
  injection h with h
  subst h
  simp only [But_loops_intake, BlkStart, BlkProg, BlkPair, BlkIo]
  (repeat' split) <;> simp

theorem execInjectionStart_keeps (r : Req) (ctx : Nat) (cmd : InjCmd) (s : State) (t : State) (h : execInjectionStart
    r ctx cmd s = .next t) : But_loops_net_intake s t := by
  unfold execInjectionStart at h
  injection h with h
  subst h
  simp only [But_loops_net_intake, BlkStart, BlkProg, BlkPair, BlkIo]
  have H : ∀ (s : State) (r : Req) (o : W32) (k : State → State), (∀ u, But_loops_net_intake u (k u)) → But_loops_net_intake s (hostCommand s r o k) := (by intros; rename_i hk; simp only [But_loops_net_intake, BlkStart, BlkProg, BlkPair, BlkIo]; simp [hk])
  show But_loops_net_intake _ _
  refine H _ _ _  _ (fun u => ?_)
  (repeat' split) <;> simp [But_loops_net_intake, BlkStart, BlkProg, BlkPair, BlkIo]

theorem execInjectionStop_keeps (r : Req) (ctx : Nat) (s : State) (t : State) (h : execInjectionStop r ctx s = .next
    t) : But_loops_net_intake s t := by
  unfold execInjectionStop at h
  injection h with h
  subst h
  simp only [But_loops_net_intake, BlkStart, BlkProg, BlkPair, BlkIo]
  simp

theorem execCaptureConfigure_keeps (r : Req) (data : Bytes) (s : State) (t : State) (h : execCaptureConfigure r data s
    = .next t) : But_loops_net_intake s t := by
  unfold execCaptureConfigure at h
  injection h with h
  subst h
  simp only [But_loops_net_intake, BlkStart, BlkProg, BlkPair, BlkIo]
  simp

theorem execCaptureArm_keeps (r : Req) (s : State) (t : State) (h : execCaptureArm r s = .next t) :
    But_loops_net_intake s t := by
  unfold execCaptureArm at h
  injection h with h
  subst h
  simp only [But_loops_net_intake, BlkStart, BlkProg, BlkPair, BlkIo]
  simp

theorem execCaptureForceTrigger_keeps (r : Req) (s : State) (t : State) (h : execCaptureForceTrigger r s = .next t) :
    But_loops_net_intake s t := by
  unfold execCaptureForceTrigger at h
  injection h with h
  subst h
  simp only [But_loops_net_intake, BlkStart, BlkProg, BlkPair, BlkIo]
  simp

theorem execCaptureAbort_keeps (r : Req) (s : State) (t : State) (h : execCaptureAbort r s = .next t) :
    But_loops_net_intake s t := by
  unfold execCaptureAbort at h
  injection h with h
  subst h
  simp only [But_loops_net_intake, BlkStart, BlkProg, BlkPair, BlkIo]
  simp

theorem execCaptureRow_keeps (s : State) (t : State) (h : execCaptureRow s = .next t) : But_loops_intake s t := by
  unfold execCaptureRow at h
  injection h with h
  subst h
  simp only [But_loops_intake, BlkStart, BlkProg, BlkPair, BlkIo]
  simp

end Sys2Proof.Machine
end

