-- ==== Sys2Proof/Laws/KeepsProgram.lean ====
section
/-! SUPPORT. What the operations of exchange, courses, start, regions and events leave alone, one lemma each. -/

namespace Sys2Proof.Machine

@[simp] theorem loadTables_keeps (s : State) (ts : List (Nat × Bytes)) : But_loops s (loadTables s ts) := by
  simp only [But_loops, BlkStart, BlkProg, BlkPair, BlkIo]
  simp [loadTables]

@[simp] theorem stagingLoads_keeps (s : State) : But_loops s (stagingLoads s) := by
  simp only [But_loops, BlkStart, BlkProg, BlkPair, BlkIo]
  unfold stagingLoads
  (repeat' split) <;> simp

theorem execExchangeStage_keeps (r : Req) (s : State) (t : State) (h : execExchangeStage r s = .next t) :
    But_exch_loops_net_intake s t := by
  unfold execExchangeStage at h
  injection h with h
  subst h
  simp only [But_exch_loops_net_intake, BlkStart, BlkPair, BlkIo]
  have H : ∀ (s : State) (r : Req) (o : W32) (k : State → State), (∀ u, But_exch_loops_net_intake u (k u)) → But_exch_loops_net_intake s (hostCommand s r o k) := (by intros; rename_i hk; simp only [But_exch_loops_net_intake, BlkStart, BlkPair, BlkIo]; simp [hk])
  show But_exch_loops_net_intake _ _
  refine H _ _ _  _ (fun u => ?_)
  (repeat' split) <;> simp [But_exch_loops_net_intake, BlkStart, BlkPair, BlkIo]

@[simp] theorem stageFailed_keeps (s : State) (reason : Nat) : But_exch_loops_net_intake s (stageFailed s reason) :=
    by
  simp only [But_exch_loops_net_intake, BlkStart, BlkPair, BlkIo]
  simp [stageFailed]

@[simp] theorem stageDone_keeps (s : State) (b : Nat) (ni : Image) (unwrittenNew unwrittenOld : List Nat) :
    But_exch_loops_net_intake s (stageDone s b ni unwrittenNew unwrittenOld) := by
  simp only [But_exch_loops_net_intake, BlkStart, BlkPair, BlkIo]
  simp [stageDone]

theorem execStagingComplete_keeps (tablesLoaded : Bool) (partner : Option Bytes) (unwrittenNew unwrittenOld : List
    Nat) (at_ : Nat) (s : State) (t : State) (h : execStagingComplete tablesLoaded partner unwrittenNew unwrittenOld
    at_ s = .next t) : But_kiln_exch_loops_net_intake s t := by
  unfold execStagingComplete at h
  injection h with h
  subst h
  simp only [But_kiln_exch_loops_net_intake, BlkPair, BlkIo]
  (repeat' split) <;> simp

theorem execExchangeUnstage_keeps (r : Req) (s : State) (t : State) (h : execExchangeUnstage r s = .next t) :
    But_exch_loops_net_intake s t := by
  unfold execExchangeUnstage at h
  injection h with h
  subst h
  simp only [But_exch_loops_net_intake, BlkStart, BlkPair, BlkIo]
  have H : ∀ (s : State) (r : Req) (o : W32) (k : State → State), (∀ u, But_exch_loops_net_intake u (k u)) → But_exch_loops_net_intake s (hostCommand s r o k) := (by intros; rename_i hk; simp only [But_exch_loops_net_intake, BlkStart, BlkPair, BlkIo]; simp [hk])
  show But_exch_loops_net_intake _ _
  refine H _ _ _  _ (fun u => ?_)
  (repeat' split) <;> simp [But_exch_loops_net_intake, BlkStart, BlkPair, BlkIo]

@[simp] theorem unstageRewritten_keeps (s : State) : But_exch_loops_intake s (unstageRewritten s) := by
  simp only [But_exch_loops_intake, BlkStart, BlkPair, BlkIo]
  simp [unstageRewritten]

theorem execExchangeActivate_keeps (r : Req) (s : State) (t : State) (h : execExchangeActivate r s = .next t) :
    But_md_exch_net_intake s t := by
  unfold execExchangeActivate at h
  injection h with h
  subst h
  simp only [But_md_exch_net_intake, BlkStart, BlkPair, BlkIo]
  have H : ∀ (s : State) (r : Req) (o : W32) (k : State → State), (∀ u, But_md_exch_net_intake u (k u)) → But_md_exch_net_intake s (hostCommand s r o k) := (by intros; rename_i hk; simp only [But_md_exch_net_intake, BlkStart, BlkPair, BlkIo]; simp [hk])
  show But_md_exch_net_intake _ _
  refine H _ _ _  _ (fun u => ?_)
  (repeat' split) <;> simp [But_md_exch_net_intake, BlkStart, BlkPair, BlkIo]

@[simp] theorem openWindow_keeps (s : State) (before : Mode) : But_md_exch_net s (openWindow s before) := by
  simp only [But_md_exch_net, BlkStart, BlkPair, BlkIo]
  simp [openWindow]

@[simp] theorem swapData_keeps (s : State) (oi ni : Image) : But_crs_intake s (swapData s oi ni) := by
  simp only [But_crs_intake, BlkStart, BlkPair, BlkIo]
  unfold swapData
  (try dsimp only)
  show But_crs_intake _ _
  refine foldl_inv (P := But_crs_intake _) _ _ _ (by simp [But_crs_intake, BlkStart, BlkPair, BlkIo]) (fun u b hu => ?_)
  (repeat' split) <;> simp [But_crs_intake, BlkStart, BlkPair, BlkIo, hu]

@[simp] theorem swapIo_keeps (s : State) (oi ni : Image) : But_crs_loops_mortar_field_ring s (swapIo s oi ni) := by
  simp only [But_crs_loops_mortar_field_ring, BlkStart]
  simp [swapIo]

@[simp] theorem swapLoops_keeps (s : State) (oi ni : Image) (keptL : Tab LoopSt) (keptM : Tab LoopSt2) (back : Bool) :
    But_loops s (swapLoops s oi ni keptL keptM back) := by
  simp only [But_loops, BlkStart, BlkProg, BlkPair, BlkIo]
  simp [swapLoops]

@[simp] theorem swapTables_keeps (s : State) (oi ni : Image) (kept : Tab TableSt) :
    But_exch_tickets_loops_pair_net_intake s (swapTables s oi ni kept) := by
  simp only [But_exch_tickets_loops_pair_net_intake, BlkStart, BlkIo]
  simp [swapTables]

@[simp] theorem swapSolverOne_keeps (oi : Image) (keptS : Tab SolvSt) (keptJ : Tab SolvSt2) (s : State) (e : Nat ×
    SolverDef) : But_exch_solver s (swapSolverOne oi keptS keptJ s e) := by
  simp only [But_exch_solver, BlkStart, BlkPair, BlkIo, BlkRest]
  unfold swapSolverOne
  dsimp only
  (repeat' split) <;> simp

@[simp] theorem swapSolver_keeps (s : State) (oi : Image) (keptS : Tab SolvSt) (keptJ : Tab SolvSt2) :
    But_exch_solver_intake s (swapSolver s oi keptS keptJ) := by
  simp only [But_exch_solver_intake, BlkStart, BlkPair, BlkIo]
  simp [swapSolver]

@[simp] theorem swapSettings_keeps (s : State) (oi ni : Image) : But_set_loops_intake s (swapSettings s oi ni) := by
  simp only [But_set_loops_intake, BlkProg, BlkPair, BlkIo]
  unfold swapSettings
  (try dsimp only)
  show But_set_loops_intake _ _
  refine foldl_inv (P := But_set_loops_intake _) _ _ _ (by simp [But_set_loops_intake, BlkProg, BlkPair, BlkIo]) (fun u b hu => ?_)
  (repeat' split) <;> simp [But_set_loops_intake, BlkProg, BlkPair, BlkIo, hu]

@[simp] theorem supersede_keeps (s : State) (oi ni : Image) : But_tickets_pair_net_intake s (supersede s oi ni) := by
  simp only [But_tickets_pair_net_intake, BlkStart, BlkIo]
  simp [supersede]

@[simp] theorem swapPanel_keeps (s : State) (oi ni : Image) : But_can_net_panel_panel2 s (swapPanel s oi ni) := by
  simp only [But_can_net_panel_panel2, BlkStart, BlkProg, BlkPair]
  simp [swapPanel]

@[simp] theorem runBank_keeps (s : State) (b : Nat) : But_kiln s (runBank s b) := by
  simp only [But_kiln, BlkProg, BlkPair, BlkIo, BlkRest]
  simp [runBank]

@[simp] theorem exchSwap_keeps (s : State) :
    But_kiln_set_crs_exch_tickets_loops_solver_pair_mortar_field_ring_can_net_intake_panel_panel2 s (exchSwap s) := by
  simp only [But_kiln_set_crs_exch_tickets_loops_solver_pair_mortar_field_ring_can_net_intake_panel_panel2]
  unfold exchSwap
  (repeat' split) <;> simp

@[simp] theorem exchRollback_keeps (s : State) (reason : Nat) :
    But_kiln_set_crs_exch_tickets_loops_solver_pair_mortar_field_ring_can_net_intake_panel_panel2_free s (exchRollback
    s reason) := by
  simp only [But_kiln_set_crs_exch_tickets_loops_solver_pair_mortar_field_ring_can_net_intake_panel_panel2_free]
  unfold exchRollback
  (repeat' split) <;> simp

@[simp] theorem changeFault_keeps (s : State) (reason : Nat) : But_md_exch_loops_intake s (changeFault s reason) := by
  simp only [But_md_exch_loops_intake, BlkStart, BlkPair, BlkIo]
  simp [changeFault]

@[simp] theorem rollbackDue_keeps (s : State) :
    But_md_kiln_set_crs_exch_tickets_loops_solver_pair_mortar_field_ring_can_net_intake_panel_panel2_free s
    (rollbackDue s) := by
  simp only [But_md_kiln_set_crs_exch_tickets_loops_solver_pair_mortar_field_ring_can_net_intake_panel_panel2_free]
  unfold rollbackDue
  (repeat' split) <;> simp

@[simp] theorem noQuietTick_keeps (s : State) : But_md_exch_loops_intake s (noQuietTick s) := by
  simp only [But_md_exch_loops_intake, BlkStart, BlkPair, BlkIo]
  simp [noQuietTick]

@[simp] theorem windowStep_keeps (s : State) :
    But_md_kiln_set_crs_exch_tickets_loops_solver_pair_mortar_field_ring_can_net_intake_panel_panel2_free s
    (windowStep s) := by
  simp only [But_md_kiln_set_crs_exch_tickets_loops_solver_pair_mortar_field_ring_can_net_intake_panel_panel2_free]
  simp [windowStep]

theorem execExchangeNoQuietTick_keeps (s : State) (t : State) (h : execExchangeNoQuietTick s = .next t) :
    But_md_exch_loops_intake s t := by
  unfold execExchangeNoQuietTick at h
  injection h with h
  subst h
  simp only [But_md_exch_loops_intake, BlkStart, BlkPair, BlkIo]
  simp

theorem execExchangeRollback_keeps (s : State) (t : State) (h : execExchangeRollback s = .next t) :
    But_md_kiln_set_crs_exch_tickets_loops_solver_pair_mortar_field_ring_can_net_intake_panel_panel2_free s t := by
  unfold execExchangeRollback at h
  injection h with h
  subst h
  simp only [But_md_kiln_set_crs_exch_tickets_loops_solver_pair_mortar_field_ring_can_net_intake_panel_panel2_free]
  simp

@[simp] theorem arbitrate_keeps (s : State) : But_crs s (arbitrate s) := by
  simp only [But_crs, BlkStart, BlkPair, BlkIo, BlkRest]
  simp [arbitrate]

@[simp] theorem writeForced_keeps (s : State) (l : List (Nat × Nat × Bytes)) : But_crs s (writeForced s l) := by
  simp only [But_crs, BlkStart, BlkPair, BlkIo, BlkRest]
  simp [writeForced]

@[simp] theorem commitInstance_keeps (s : State) (t : Nat) : But_crs_tickets_pair_net_intake s (commitInstance s t) :=
    by
  simp only [But_crs_tickets_pair_net_intake, BlkStart, BlkIo]
  simp [commitInstance]

@[simp] theorem commitRegions_keeps (s : State) (c : Nat) : But_crs_tickets_pair_net_intake s (commitRegions s c) :=
    by
  simp only [But_crs_tickets_pair_net_intake, BlkStart, BlkIo]
  simp [commitRegions]

@[simp] theorem startCourse_keeps (s : State) (c elapsed : Nat) : But_crs_tickets_pair_net_intake s (startCourse s c
    elapsed) := by
  simp only [But_crs_tickets_pair_net_intake, BlkStart, BlkIo]
  simp [startCourse]

@[simp] theorem courseOasis_keeps (s : State) :
    But_md_kiln_crs_exch_loops_solver_pair_mortar_safe_field_can_net_intake_panel_panel2_free s (courseOasis s) := by
  simp only [But_md_kiln_crs_exch_loops_solver_pair_mortar_safe_field_can_net_intake_panel_panel2_free]
  simp [courseOasis]

@[simp] theorem watchScan_keeps (s : State) (n : Nat) :
    But_md_kiln_crs_exch_loops_solver_pair_mortar_safe_field_can_net_intake_panel_panel2_free s (watchScan s n) := by
  simp only [But_md_kiln_crs_exch_loops_solver_pair_mortar_safe_field_can_net_intake_panel_panel2_free]
  simp [watchScan]

@[simp] theorem baseWatch_keeps (s : State) :
    But_md_kiln_crs_exch_loops_solver_pair_mortar_safe_field_can_net_intake_panel_panel2_free s (baseWatch s) := by
  simp only [But_md_kiln_crs_exch_loops_solver_pair_mortar_safe_field_can_net_intake_panel_panel2_free]
  simp [baseWatch]

theorem execMaxScanReached_keeps (s : State) (t : State) (h : execMaxScanReached s = .next t) :
    But_md_kiln_crs_exch_loops_solver_pair_mortar_safe_field_can_net_intake_panel_panel2_free s t := by
  unfold execMaxScanReached at h
  injection h with h
  subst h
  simp only [But_md_kiln_crs_exch_loops_solver_pair_mortar_safe_field_can_net_intake_panel_panel2_free]
  simp

theorem execScanWatchExpiry_keeps (s : State) (t : State) (h : execScanWatchExpiry s = .next t) :
    But_md_kiln_crs_exch_loops_solver_pair_mortar_safe_field_can_net_intake_panel_panel2_free s t := by
  unfold execScanWatchExpiry at h
  injection h with h
  subst h
  simp only [But_md_kiln_crs_exch_loops_solver_pair_mortar_safe_field_can_net_intake_panel_panel2_free]
  simp

@[simp] theorem overrun_keeps (s : State) (c : Nat) :
    But_md_kiln_crs_exch_loops_solver_pair_mortar_safe_field_can_net_intake_panel_panel2_free s (overrun s c) := by
  simp only [But_md_kiln_crs_exch_loops_solver_pair_mortar_safe_field_can_net_intake_panel_panel2_free]
  simp [overrun]

theorem execOverrunLimitReached_keeps (course_ : Nat) (s : State) (t : State) (h : execOverrunLimitReached course_ s =
    .next t) : But_md_kiln_crs_exch_loops_solver_pair_mortar_safe_field_can_net_intake_panel_panel2_free s t := by
  unfold execOverrunLimitReached at h
  injection h with h
  subst h
  simp only [But_md_kiln_crs_exch_loops_solver_pair_mortar_safe_field_can_net_intake_panel_panel2_free]
  simp

@[simp] theorem dispatch_keeps (s : State) :
    But_md_kiln_crs_exch_tickets_loops_solver_pair_mortar_safe_field_can_net_intake_panel_panel2_free s (dispatch s)
    := by
  simp only [But_md_kiln_crs_exch_tickets_loops_solver_pair_mortar_safe_field_can_net_intake_panel_panel2_free]
  simp [dispatch]

@[simp] theorem startBase_keeps (s : State) :
    But_md_kiln_crs_exch_tickets_loops_solver_pair_mortar_safe_field_can_net_intake_panel_panel2_free s (startBase s)
    := by
  simp only [But_md_kiln_crs_exch_tickets_loops_solver_pair_mortar_safe_field_can_net_intake_panel_panel2_free]
  simp [startBase]

@[simp] theorem releaseOutputs_keeps (s : State) (l : List (Nat × W64)) : But_crs_exch s (releaseOutputs s l) := by
  simp only [But_crs_exch, BlkStart, BlkPair, BlkIo, BlkRest]
  unfold releaseOutputs
  (try dsimp only)
  show But_crs_exch _ _
  refine foldl_inv (P := But_crs_exch _) _ _ _ (by simp [But_crs_exch, BlkStart, BlkPair, BlkIo, BlkRest]) (fun u b hu => ?_)
  (repeat' split) <;> simp [But_crs_exch, BlkStart, BlkPair, BlkIo, BlkRest, hu]

@[simp] theorem takeLate_keeps (s : State) : But_crs_exch s (takeLate s) := by
  simp only [But_crs_exch, BlkStart, BlkPair, BlkIo, BlkRest]
  simp [takeLate]

@[simp] theorem releaseEngines_keeps (s : State) (c : Nat) (rel : Release) : But_crs_solver s (releaseEngines s c rel)
    := by
  simp only [But_crs_solver, BlkStart, BlkPair, BlkIo, BlkRest]
  simp [releaseEngines]

@[simp] theorem showData_keeps (s : State) (c : Nat) (globals : Bool) : But_crs s (showData s c globals) := by
  simp only [But_crs, BlkStart, BlkPair, BlkIo, BlkRest]
  simp [showData]

@[simp] theorem releaseData_keeps (s : State) (c : Nat) (l : List (Nat × Nat × Bytes)) : But_crs s (releaseData s c l)
    := by
  simp only [But_crs, BlkStart, BlkPair, BlkIo, BlkRest]
  simp [releaseData]

@[simp] theorem reportDone_keeps (s : State) (l : List (Origin × Nat)) : But_net s (reportDone s l) := by
  simp only [But_net, BlkStart, BlkProg, BlkPair, BlkIo]
  simp [reportDone]

@[simp] theorem sendSet_keeps (s : State) (c : Nat) (settings : List (Nat × W64)) (mirages : List (Nat × Option
    MirageCmd)) : But_mortar_net s (sendSet s c settings mirages) := by
  simp only [But_mortar_net, BlkStart, BlkProg, BlkIo]
  simp [sendSet]

@[simp] theorem shadowRelease_keeps (s : State) (c : Nat) : But_mortar s (shadowRelease s c) := by
  simp only [But_mortar, BlkStart, BlkProg, BlkIo, BlkRest]
  simp [shadowRelease]

@[simp] theorem sendCourseEnd_keeps (s : State) (c : Nat) : But_set_crs_mortar_net s (sendCourseEnd s c) := by
  simp only [But_set_crs_mortar_net, BlkIo]
  simp [sendCourseEnd]

@[simp] theorem windowScanEnd_keeps (s : State) : But_md_kiln_crs_exch_loops_pair_intake s (windowScanEnd s) := by
  simp only [But_md_kiln_crs_exch_loops_pair_intake, BlkIo]
  unfold windowScanEnd
  dsimp only
  (repeat' split) <;> simp

@[simp] theorem endCourse_keeps (s : State) (c : Nat) : But_crs_exch s (endCourse s c) := by
  simp only [But_crs_exch, BlkStart, BlkPair, BlkIo, BlkRest]
  simp [endCourse]

theorem execCourseActivationEnd_keeps (course_ : Nat) (rel : Release) (at_ : Nat) (s : State) (t : State) (h :
    execCourseActivationEnd course_ rel at_ s = .next t) :
    But_md_kiln_set_crs_exch_loops_solver_pair_mortar_can_net_intake_panel2 s t := by
  unfold execCourseActivationEnd at h
  injection h with h
  subst h
  simp only [But_md_kiln_set_crs_exch_loops_solver_pair_mortar_can_net_intake_panel2]
  (repeat' split) <;> simp

theorem execExecutionTrap_keeps (course_ brick offset at_ : Nat) (s : State) (t : State) (h :
    execExecutionTrap course_ brick offset at_ s = .next t) :
    But_md_kiln_crs_exch_loops_solver_pair_mortar_safe_field_can_net_intake_panel_panel2_free s t := by
  unfold execExecutionTrap at h
  injection h with h
  subst h
  simp only [But_md_kiln_crs_exch_loops_solver_pair_mortar_safe_field_can_net_intake_panel_panel2_free]
  simp

theorem execBreakpointReached_keeps (brick : Nat) (at_ : Nat) (s : State) (t : State) (h : execBreakpointReached brick
    at_ s = .next t) : But_md_crs_exch_loops_solver_safe_field_can_net_intake_panel_panel2_free s t := by
  unfold execBreakpointReached at h
  injection h with h
  subst h
  simp only [But_md_crs_exch_loops_solver_safe_field_can_net_intake_panel_panel2_free]
  (repeat' split) <;> simp

theorem execBreakpointWrite_keeps (r : Req) (bp : Nat) (value : W32) (s : State) (t : State) (h : execBreakpointWrite
    r bp value s = .next t) : But_crs_net_intake s t := by
  unfold execBreakpointWrite at h
  injection h with h
  subst h
  simp only [But_crs_net_intake, BlkStart, BlkPair, BlkIo]
  simp

theorem execCourseCounterClear_keeps (r : Req) (course_ : Nat) (value : W32) (s : State) (t : State) (h :
    execCourseCounterClear r course_ value s = .next t) : But_crs_net_intake s t := by
  unfold execCourseCounterClear at h
  injection h with h
  subst h
  simp only [But_crs_net_intake, BlkStart, BlkPair, BlkIo]
  simp

@[simp] theorem cleared_keeps (s : State) : But_md_btn_kiln_set_crs_exch_tickets_lastTicket_loops_solver_pair_mortar_safe_field_ring_can_time_net_ev_intake_sec_panel_panel2_sup s (cleared s) := by
  simp [cleared, But_md_btn_kiln_set_crs_exch_tickets_lastTicket_loops_solver_pair_mortar_safe_field_ring_can_time_net_ev_intake_sec_panel_panel2_sup]

@[simp] theorem enterKiln_keeps (s : State) :
    But_md_btn_kiln_set_crs_exch_tickets_lastTicket_loops_solver_pair_mortar_safe_field_ring_can_time_net_ev_intake_sec_panel_panel2_sup
    s (enterKiln s) := by
  simp only [But_md_btn_kiln_set_crs_exch_tickets_lastTicket_loops_solver_pair_mortar_safe_field_ring_can_time_net_ev_intake_sec_panel_panel2_sup]
  simp [enterKiln]

@[simp] theorem powerOff_keeps (s : State) :
    But_md_btn_kiln_set_crs_exch_tickets_lastTicket_loops_solver_pair_mortar_safe_field_ring_can_time_net_ev_intake_sec_panel_panel2_sup
    s (powerOff s) := by
  simp only [But_md_btn_kiln_set_crs_exch_tickets_lastTicket_loops_solver_pair_mortar_safe_field_ring_can_time_net_ev_intake_sec_panel_panel2_sup]
  simp [powerOff]

theorem execPowerOn_keeps (slot : Nat) (feedA feedB : Bool) (s : State) (t : State) (h : execPowerOn slot feedA feedB
    s = .next t) :
    But_md_btn_kiln_set_crs_exch_tickets_lastTicket_loops_solver_pair_mortar_safe_field_ring_can_time_net_ev_intake_sec_panel_panel2_sup
    s t := by
  unfold execPowerOn at h
  injection h with h
  subst h
  simp only [But_md_btn_kiln_set_crs_exch_tickets_lastTicket_loops_solver_pair_mortar_safe_field_ring_can_time_net_ev_intake_sec_panel_panel2_sup]
  (repeat' split) <;> simp

@[simp] theorem startAgain_keeps (s : State) :
    But_md_btn_kiln_set_crs_exch_tickets_lastTicket_loops_solver_pair_mortar_safe_field_ring_can_time_net_ev_intake_sec_panel_panel2_sup
    s (startAgain s) := by
  simp only [But_md_btn_kiln_set_crs_exch_tickets_lastTicket_loops_solver_pair_mortar_safe_field_ring_can_time_net_ev_intake_sec_panel_panel2_sup]
  simp [startAgain]

theorem execStartSupplyLoss_keeps (s : State) (t : State) (h : execStartSupplyLoss s = .next t) :
    But_md_btn_kiln_set_crs_exch_tickets_lastTicket_loops_solver_pair_mortar_safe_field_ring_can_time_net_ev_intake_sec_panel_panel2_sup
    s t := by
  unfold execStartSupplyLoss at h
  injection h with h
  subst h
  simp only [But_md_btn_kiln_set_crs_exch_tickets_lastTicket_loops_solver_pair_mortar_safe_field_ring_can_time_net_ev_intake_sec_panel_panel2_sup]
  simp

@[simp] theorem measureStage_keeps (s : State) (i : Nat) (stage : Bytes) : But_kiln s (measureStage s i stage) := by
  simp only [But_kiln, BlkProg, BlkPair, BlkIo, BlkRest]
  simp [measureStage]

@[simp] theorem enterLoad_keeps (s : State) :
    But_md_btn_kiln_crs_exch_loops_solver_safe_field_can_time_net_ev_intake_sec_panel_panel2_free s (enterLoad s) :=
    by
  simp only [But_md_btn_kiln_crs_exch_loops_solver_safe_field_can_time_net_ev_intake_sec_panel_panel2_free]
  simp [enterLoad]

@[simp] theorem measureStages_keeps (l : List Nat) (s : State) : But_md_kiln_set_crs_exch_tickets_loops_solver_pair_safe_field_ring_can_net_intake_panel_panel2_free s (measureStages l s) := by
  simp only [But_md_kiln_set_crs_exch_tickets_loops_solver_pair_safe_field_ring_can_net_intake_panel_panel2_free]
  induction l generalizing s with
  | nil => simp [measureStages]
  | cons i l ih =>
    unfold measureStages
    try dsimp only
    split
    · have h := ih (measureStage s i (tget ({} : FwStage) s.kiln.fw i).code)
      simpa using h
    · simp
@[simp] theorem kilnLoader_keeps (s : State) : But_md_btn_kiln_set_crs_exch_tickets_loops_solver_pair_safe_field_ring_can_time_net_ev_intake_sec_panel_panel2_free s (kilnLoader s) := by
  simp only [But_md_btn_kiln_set_crs_exch_tickets_loops_solver_pair_safe_field_ring_can_time_net_ev_intake_sec_panel_panel2_free]
  unfold kilnLoader
  try dsimp only
  (repeat' split) <;> simp

theorem execSramClearComplete_keeps (s : State) (t : State) (h : execSramClearComplete s = .next t) :
    But_md_btn_kiln_set_crs_exch_tickets_loops_solver_pair_safe_field_ring_can_time_net_ev_intake_sec_panel_panel2_free
    s t := by
  unfold execSramClearComplete at h
  injection h with h
  subst h
  simp only [But_md_btn_kiln_set_crs_exch_tickets_loops_solver_pair_safe_field_ring_can_time_net_ev_intake_sec_panel_panel2_free]
  simp

theorem execDramClearComplete_keeps (s : State) (t : State) (h : execDramClearComplete s = .next t) :
    But_md_btn_kiln_set_crs_exch_tickets_loops_solver_pair_safe_field_ring_can_time_net_ev_intake_sec_panel_panel2_free
    s t := by
  unfold execDramClearComplete at h
  injection h with h
  subst h
  simp only [But_md_btn_kiln_set_crs_exch_tickets_loops_solver_pair_safe_field_ring_can_time_net_ev_intake_sec_panel_panel2_free]
  simp

theorem execClearTimeout_keeps (s : State) (t : State) (h : execClearTimeout s = .next t) :
    But_md_kiln_set_crs_exch_tickets_loops_solver_pair_safe_field_ring_can_net_intake_panel_panel2_free s t := by
  unfold execClearTimeout at h
  injection h with h
  subst h
  simp only [But_md_kiln_set_crs_exch_tickets_loops_solver_pair_safe_field_ring_can_net_intake_panel_panel2_free]
  simp

@[simp] theorem restartSelection_keeps (s : State) : But_kiln s (restartSelection s) := by
  simp only [But_kiln, BlkProg, BlkPair, BlkIo, BlkRest]
  simp [restartSelection]

theorem execBankHeadersRead_keeps (at_ : Nat) (s : State) (t : State) (h : execBankHeadersRead at_ s = .next t) :
    But_kiln_intake s t := by
  unfold execBankHeadersRead at h
  injection h with h
  subst h
  simp only [But_kiln_intake, BlkProg, BlkPair, BlkIo]
  (repeat' split) <;> simp

theorem execBankFullCheckComplete_keeps (at_ : Nat) (s : State) (t : State) (h : execBankFullCheckComplete at_ s =
    .next t) : But_kiln_intake s t := by
  unfold execBankFullCheckComplete at h
  injection h with h
  subst h
  simp only [But_kiln_intake, BlkProg, BlkPair, BlkIo]
  (repeat' split) <;> simp

theorem execImageApplied_keeps (at_ : Nat) (s : State) (t : State) (h : execImageApplied at_ s = .next t) :
    But_kiln_set_crs_exch_loops_solver_safe_ring_can_net_intake_panel_panel2 s t := by
  unfold execImageApplied at h
  injection h with h
  subst h
  simp only [But_kiln_set_crs_exch_loops_solver_safe_ring_can_net_intake_panel_panel2]
  (repeat' split) <;> simp

theorem execAcqWaitExpiry_keeps (at_ : Nat) (s : State) (t : State) (h : execAcqWaitExpiry at_ s = .next t) : But_time
    s t := by
  unfold execAcqWaitExpiry at h
  injection h with h
  subst h
  simp only [But_time, BlkStart, BlkProg, BlkPair, BlkIo]
  simp

@[simp] theorem failImageWrites_keeps (s : State) (reason : Nat) : But_tickets_pair_net_intake s (failImageWrites s
    reason) := by
  simp only [But_tickets_pair_net_intake, BlkStart, BlkIo]
  simp [failImageWrites]

theorem execImageKeyRemoved_keeps (at_ : Nat) (s : State) (t : State) (h : execImageKeyRemoved at_ s = .next t) :
    But_kiln_tickets_pair_net_ev_intake s t := by
  unfold execImageKeyRemoved at h
  injection h with h
  subst h
  simp only [But_kiln_tickets_pair_net_ev_intake, BlkIo]
  simp

@[simp] theorem keyJournal_keeps (s : State) (key : KeyContent) : But_ev s (keyJournal s key) := by
  simp only [But_ev, BlkStart, BlkProg, BlkPair, BlkIo]
  simp [keyJournal]

theorem execImageKeyInserted_keeps (key : KeyContent) (at_ : Nat) (s : State) (t : State) (h : execImageKeyInserted
    key at_ s = .next t) : But_kiln_ev s t := by
  unfold execImageKeyInserted at h
  injection h with h
  subst h
  simp only [But_kiln_ev, BlkProg, BlkPair, BlkIo]
  simp

theorem execKilnRemeasureComplete_keeps (stage : Nat) (code : Bytes) (at_ : Nat) (s : State) (t : State) (h :
    execKilnRemeasureComplete stage code at_ s = .next t) :
    But_md_kiln_set_crs_exch_tickets_loops_solver_pair_safe_field_ring_can_net_intake_panel_panel2_free s t := by
  unfold execKilnRemeasureComplete at h
  injection h with h
  subst h
  simp only [But_md_kiln_set_crs_exch_tickets_loops_solver_pair_safe_field_ring_can_net_intake_panel_panel2_free]
  simp

@[simp] theorem nonceAccept_keeps (s : State) (session : Nat) (nonce : Bytes) : But_kiln s (nonceAccept s session
    nonce) := by
  simp only [But_kiln, BlkProg, BlkPair, BlkIo, BlkRest]
  simp [nonceAccept]

theorem execAttestationNonce_keeps (r : Req) (nonce : Bytes) (s : State) (t : State) (h : execAttestationNonce r nonce
    s = .next t) : But_kiln_net_intake s t := by
  unfold execAttestationNonce at h
  injection h with h
  subst h
  simp only [But_kiln_net_intake, BlkProg, BlkPair, BlkIo]
  simp

@[simp] theorem captureQuotes_keeps (s : State) : But_kiln s (captureQuotes s) := by
  simp only [But_kiln, BlkProg, BlkPair, BlkIo, BlkRest]
  simp [captureQuotes]

theorem execQuoteReady_keeps (session : Nat) (at_ : Nat) (s : State) (t : State) (h : execQuoteReady session at_ s =
    .next t) : But_kiln_intake s t := by
  unfold execQuoteReady at h
  injection h with h
  subst h
  simp only [But_kiln_intake, BlkProg, BlkPair, BlkIo]
  simp

theorem execRegionUpdateRequest_keeps (r : Req) (cmd : RegionCmd) (s : State) (t : State) (h : execRegionUpdateRequest
    r cmd s = .next t) : But_tickets_lastTicket_net_intake s t := by
  unfold execRegionUpdateRequest at h
  injection h with h
  subst h
  simp only [But_tickets_lastTicket_net_intake, BlkStart, BlkPair, BlkIo]
  have H : ∀ (s : State) (r : Req) (o : W32) (k : State → State), (∀ u, But_tickets_lastTicket_net_intake u (k u)) → But_tickets_lastTicket_net_intake s (hostCommand s r o k) := (by intros; rename_i hk; simp only [But_tickets_lastTicket_net_intake, BlkStart, BlkPair, BlkIo]; simp [hk])
  show But_tickets_lastTicket_net_intake _ _
  refine H _ _ _  _ (fun u => ?_)
  (repeat' split) <;> simp [But_tickets_lastTicket_net_intake, BlkStart, BlkPair, BlkIo]

theorem execRegionDataWrite_keeps (r : Req) (ticket_ : Nat) (data : Bytes) (s : State) (t : State) (h :
    execRegionDataWrite r ticket_ data s = .next t) : But_tickets_net_intake s t := by
  unfold execRegionDataWrite at h
  injection h with h
  subst h
  simp only [But_tickets_net_intake, BlkStart, BlkPair, BlkIo]
  simp

@[simp] theorem eraseSpare_keeps (s : State) (data : Bytes) : But_kiln_exch_loops_intake s (eraseSpare s data) := by
  simp only [But_kiln_exch_loops_intake, BlkPair, BlkIo]
  simp [eraseSpare]

@[simp] theorem dropSpare_keeps (s : State) : But_kiln s (dropSpare s) := by
  simp only [But_kiln, BlkProg, BlkPair, BlkIo, BlkRest]
  simp [dropSpare]

@[simp] theorem startRegion_keeps (s : State) (t : Nat) : But_kiln_exch_tickets_loops_solver_net_intake s (startRegion
    s t) := by
  simp only [But_kiln_exch_tickets_loops_solver_net_intake, BlkPair, BlkIo]
  unfold startRegion
  dsimp only
  (repeat' split) <;> simp

theorem execRegionDataChecked_keeps (ticket_ : Nat) (at_ : Nat) (s : State) (t : State) (h : execRegionDataChecked
    ticket_ at_ s = .next t) : But_kiln_exch_tickets_loops_solver_pair_net_intake s t := by
  unfold execRegionDataChecked at h
  injection h with h
  subst h
  simp only [But_kiln_exch_tickets_loops_solver_pair_net_intake, BlkIo]
  simp

theorem execRegionPendingStart_keeps (ticket_ : Nat) (s : State) (t : State) (h : execRegionPendingStart ticket_ s =
    .next t) : But_kiln_exch_tickets_loops_solver_net_intake s t := by
  unfold execRegionPendingStart at h
  injection h with h
  subst h
  simp only [But_kiln_exch_tickets_loops_solver_net_intake, BlkPair, BlkIo]
  simp

@[simp] theorem dropRegion_keeps (s : State) (x : TicketSt) : But_kiln_loops_solver s (dropRegion s x) := by
  simp only [But_kiln_loops_solver, BlkPair, BlkIo]
  unfold dropRegion
  (repeat' split) <;> simp

theorem execRegionCancel_keeps (r : Req) (ticket_ : Nat) (value : W32) (s : State) (t : State) (h : execRegionCancel r
    ticket_ value s = .next t) : But_kiln_tickets_loops_solver_pair_net_intake s t := by
  unfold execRegionCancel at h
  injection h with h
  subst h
  simp only [But_kiln_tickets_loops_solver_pair_net_intake, BlkIo]
  simp

theorem execRegionDataTimeout_keeps (ticket_ : Nat) (at_ : Nat) (s : State) (t : State) (h : execRegionDataTimeout
    ticket_ at_ s = .next t) : But_tickets_pair_net_intake s t := by
  unfold execRegionDataTimeout at h
  injection h with h
  subst h
  simp only [But_tickets_pair_net_intake, BlkStart, BlkIo]
  simp

@[simp] theorem finishBank_keeps (s : State) (data : Bytes) : But_kiln_intake s (finishBank s data).1 := by
  simp only [But_kiln_intake, BlkProg, BlkPair, BlkIo]
  simp [finishBank]

theorem execImageWriteComplete_keeps (partnerPassed : Option Bool) (at_ : Nat) (s : State) (t : State) (h :
    execImageWriteComplete partnerPassed at_ s = .next t) : But_kiln_tickets_pair_net_intake s t := by
  unfold execImageWriteComplete at h
  injection h with h
  subst h
  simp only [But_kiln_tickets_pair_net_intake, BlkIo]
  (repeat' split) <;> simp

@[simp] theorem commitFollowed_keeps (s : State) (t : Nat) : But_tickets_loops s (commitFollowed s t) := by
  simp only [But_tickets_loops, BlkStart, BlkPair, BlkIo]
  simp [commitFollowed]

@[simp] theorem followRegion_keeps (s : State) (t status kind index reason : Nat) : But_kiln_tickets_loops_solver s
    (followRegion s t status kind index reason) := by
  simp only [But_kiln_tickets_loops_solver, BlkPair, BlkIo]
  simp [followRegion]

theorem execForwardingReceive_keeps (f : Forward) (at_ : Nat) (s : State) (t : State) (h : execForwardingReceive f at_
    s = .next t) : But_kiln_exch_tickets_loops_solver_net_intake s t := by
  unfold execForwardingReceive at h
  injection h with h
  subst h
  simp only [But_kiln_exch_tickets_loops_solver_net_intake, BlkPair, BlkIo]
  (repeat' split) <;> simp

@[simp] theorem toCourses_keeps (s : State) (r : EvRec) : But_crs s (toCourses s r) := by
  simp only [But_crs, BlkStart, BlkPair, BlkIo, BlkRest]
  simp [toCourses]

@[simp] theorem releaseOne_keeps (s : State) (r : EvRec) : But_crs_ev s (releaseOne s r) := by
  simp only [But_crs_ev, BlkStart, BlkPair, BlkIo]
  simp [releaseOne]

@[simp] theorem releaseEventRecs_keeps (s : State) : But_crs_ev_intake s (releaseEventRecs s) := by
  simp only [But_crs_ev_intake, BlkStart, BlkPair, BlkIo]
  simp [releaseEventRecs]

theorem execEventRecordsRead_keeps (r : Req) (s : State) (t : State) (h : execEventRecordsRead r s = .next t) :
    But_net s t := by
  unfold execEventRecordsRead at h
  injection h with h
  subst h
  simp only [But_net, BlkStart, BlkProg, BlkPair, BlkIo]
  simp

@[simp] theorem ackRecords_keeps (s : State) (boundary : Nat) : But_ev s (ackRecords s boundary) := by
  simp only [But_ev, BlkStart, BlkProg, BlkPair, BlkIo]
  simp [ackRecords]

@[simp] theorem holdBlock_keeps (s : State) (b : JBlock) : But_ev_intake s (holdBlock s b) := by
  simp only [But_ev_intake, BlkStart, BlkProg, BlkPair, BlkIo]
  simp [holdBlock]

@[simp] theorem closeBlock_keeps (s : State) : But_ev_intake s (closeBlock s) := by
  simp only [But_ev_intake, BlkStart, BlkProg, BlkPair, BlkIo]
  simp [closeBlock]

theorem execJournalBlockClose_keeps (at_ : Nat) (s : State) (t : State) (h : execJournalBlockClose at_ s = .next t) :
    But_ev_intake s t := by
  unfold execJournalBlockClose at h
  injection h with h
  subst h
  simp only [But_ev_intake, BlkStart, BlkProg, BlkPair, BlkIo]
  simp

@[simp] theorem putBlock_keeps (s : State) (b : JBlock) : But_ev s (putBlock s b) := by
  simp only [But_ev, BlkStart, BlkProg, BlkPair, BlkIo]
  simp [putBlock]

theorem execJournalWriteComplete_keeps (readBackOk : Bool) (at_ : Nat) (s : State) (t : State) (h :
    execJournalWriteComplete readBackOk at_ s = .next t) : But_ev_intake s t := by
  unfold execJournalWriteComplete at h
  injection h with h
  subst h
  simp only [But_ev_intake, BlkStart, BlkProg, BlkPair, BlkIo]
  (repeat' split) <;> simp

@[simp] theorem closeJournal_keeps (s : State) : But_crs_ev_intake s (closeJournal s) := by
  simp only [But_crs_ev_intake, BlkStart, BlkPair, BlkIo]
  simp [closeJournal]

end Sys2Proof.Machine
end

