-- ==== Sys2Proof/Laws/KeepsStation.lean ====
section
/-! SUPPORT. What the operations of modes, time, mortar, settings and pair leave alone, one lemma each. -/

namespace Sys2Proof.Machine

@[simp] theorem modeCommand_keeps (r : Req) (g : ModeGate) (k : State → State) (s : State) :
    ((∀ u, (k u).pending = u.pending) → (modeCommand r g k s).pending = s.pending) ∧
    ((∀ u, (k u).md = u.md) → (modeCommand r g k s).md = s.md) ∧
    ((∀ u, (k u).btn = u.btn) → (modeCommand r g k s).btn = s.btn) ∧
    ((∀ u, (k u).kiln = u.kiln) → (modeCommand r g k s).kiln = s.kiln) ∧
    ((∀ u, (k u).set = u.set) → (modeCommand r g k s).set = s.set) ∧
    ((∀ u, (k u).crs = u.crs) → (modeCommand r g k s).crs = s.crs) ∧
    ((∀ u, (k u).exch = u.exch) → (modeCommand r g k s).exch = s.exch) ∧
    ((∀ u, (k u).tickets = u.tickets) → (modeCommand r g k s).tickets = s.tickets) ∧
    ((∀ u, (k u).lastTicket = u.lastTicket) → (modeCommand r g k s).lastTicket = s.lastTicket) ∧
    ((∀ u, loopsCore (k u).loops = loopsCore u.loops) → loopsCore (modeCommand r g k s).loops = loopsCore s.loops) ∧
    ((∀ u, (k u).solver = u.solver) → (modeCommand r g k s).solver = s.solver) ∧
    ((∀ u, (k u).pair = u.pair) → (modeCommand r g k s).pair = s.pair) ∧
    ((∀ u, mortarCore (k u).mortar = mortarCore u.mortar) → mortarCore (modeCommand r g k s).mortar = mortarCore s.mortar) ∧
    ((∀ u, (k u).safe = u.safe) → (modeCommand r g k s).safe = s.safe) ∧
    ((∀ u, (k u).field = u.field) → (modeCommand r g k s).field = s.field) ∧
    ((∀ u, (k u).ring = u.ring) → (modeCommand r g k s).ring = s.ring) ∧
    ((∀ u, (k u).can = u.can) → (modeCommand r g k s).can = s.can) ∧
    ((∀ u, timeCore (k u).time = timeCore u.time) → timeCore (modeCommand r g k s).time = timeCore s.time) ∧
    ((∀ u, evCore (k u).ev = evCore u.ev) → evCore (modeCommand r g k s).ev = evCore s.ev) ∧
    ((∀ u, (k u).sec = u.sec) → (modeCommand r g k s).sec = s.sec) ∧
    ((∀ u, (k u).panel = u.panel) → (modeCommand r g k s).panel = s.panel) ∧
    ((∀ u, (k u).panel2 = u.panel2) → (modeCommand r g k s).panel2 = s.panel2) ∧
    ((∀ u, (k u).sup = u.sup) → (modeCommand r g k s).sup = s.sup) ∧
    ((∀ u, (k u).free = u.free) → (modeCommand r g k s).free = s.free) := by
  unfold modeCommand
  (repeat' refine And.intro ?_ ?_) <;> intro hk <;> simp [hk]

@[simp] theorem acceptTransition_keeps (r : Req) (code : Nat) (dest : Mode) (s : State) : But_md_net s
    (acceptTransition r code dest s) := by
  simp only [But_md_net, BlkStart, BlkProg, BlkPair, BlkIo]
  simp [acceptTransition]

theorem execModeStart_keeps (r : Req) (s : State) (t : State) (h : execModeStart r s = .next t) : But_md_net_intake s
    t := by
  unfold execModeStart at h
  injection h with h
  subst h
  simp only [But_md_net_intake, BlkStart, BlkProg, BlkPair, BlkIo]
  simp

theorem execModeStop_keeps (r : Req) (s : State) (t : State) (h : execModeStop r s = .next t) : But_md_net_intake s t
    := by
  unfold execModeStop at h
  injection h with h
  subst h
  simp only [But_md_net_intake, BlkStart, BlkProg, BlkPair, BlkIo]
  simp

theorem execModeContinue_keeps (r : Req) (s : State) (t : State) (h : execModeContinue r s = .next t) :
    But_md_net_intake s t := by
  unfold execModeContinue at h
  injection h with h
  subst h
  simp only [But_md_net_intake, BlkStart, BlkProg, BlkPair, BlkIo]
  simp

theorem execInjectionOn_keeps (r : Req) (s : State) (t : State) (h : execInjectionOn r s = .next t) :
    But_md_net_intake s t := by
  unfold execInjectionOn at h
  injection h with h
  subst h
  simp only [But_md_net_intake, BlkStart, BlkProg, BlkPair, BlkIo]
  simp

theorem execInjectionOff_keeps (r : Req) (s : State) (t : State) (h : execInjectionOff r s = .next t) :
    But_md_loops_net_intake s t := by
  unfold execInjectionOff at h
  injection h with h
  subst h
  simp only [But_md_loops_net_intake, BlkStart, BlkProg, BlkPair, BlkIo]
  simp

@[simp] theorem armAll_keeps (s : State) (f : BreakSt → Bool) : But_crs s (armAll s f) := by
  simp only [But_crs, BlkStart, BlkPair, BlkIo, BlkRest]
  simp [armAll]

theorem execArmBreakpoints_keeps (r : Req) (s : State) (t : State) (h : execArmBreakpoints r s = .next t) :
    But_crs_net_intake s t := by
  unfold execArmBreakpoints at h
  injection h with h
  subst h
  simp only [But_crs_net_intake, BlkStart, BlkPair, BlkIo]
  simp

theorem execDisarmBreakpoints_keeps (r : Req) (s : State) (t : State) (h : execDisarmBreakpoints r s = .next t) :
    But_crs_net_intake s t := by
  unfold execDisarmBreakpoints at h
  injection h with h
  subst h
  simp only [But_crs_net_intake, BlkStart, BlkPair, BlkIo]
  simp

@[simp] theorem applyAck_keeps (s : State) (reset : Bool) :
    But_md_crs_exch_loops_solver_safe_field_can_net_ev_intake_panel_panel2_free s (applyAck s reset) := by
  simp only [But_md_crs_exch_loops_solver_safe_field_can_net_ev_intake_panel_panel2_free]
  simp [applyAck]

@[simp] theorem acceptAck_keeps (s : State) : But_md s (acceptAck s) := by
  simp only [But_md, BlkStart, BlkProg, BlkPair, BlkIo]
  simp [acceptAck]

@[simp] theorem forwardAck_keeps (s : State) : But_net s (forwardAck s) := by
  simp only [But_net, BlkStart, BlkProg, BlkPair, BlkIo]
  simp [forwardAck]

theorem execModeAcknowledge_keeps (r : Req) (s : State) (t : State) (h : execModeAcknowledge r s = .next t) :
    But_md_net_intake s t := by
  unfold execModeAcknowledge at h
  injection h with h
  subst h
  simp only [But_md_net_intake, BlkStart, BlkProg, BlkPair, BlkIo]
  simp

@[simp] theorem acceptSwap_keeps (s : State) (reset : Bool) (cmd : Option Origin) : But_md s (acceptSwap s reset cmd)
    := by
  simp only [But_md, BlkStart, BlkProg, BlkPair, BlkIo]
  simp [acceptSwap]

theorem execModeRoleSwap_keeps (r : Req) (s : State) (t : State) (h : execModeRoleSwap r s = .next t) :
    But_md_net_intake s t := by
  unfold execModeRoleSwap at h
  injection h with h
  subst h
  simp only [But_md_net_intake, BlkStart, BlkProg, BlkPair, BlkIo]
  simp

@[simp] theorem resetToKiln_keeps (s : State) : But_md s (resetToKiln s) := by
  simp only [But_md, BlkStart, BlkProg, BlkPair, BlkIo]
  simp [resetToKiln]

theorem execModeReset_keeps (r : Req) (s : State) (t : State) (h : execModeReset r s = .next t) : But_md_net_intake s
    t := by
  unfold execModeReset at h
  injection h with h
  subst h
  simp only [But_md_net_intake, BlkStart, BlkProg, BlkPair, BlkIo]
  simp

theorem execPrepareReturn_keeps (r : Req) (s : State) (t : State) (h : execPrepareReturn r s = .next t) :
    But_net_ev_intake s t := by
  unfold execPrepareReturn at h
  injection h with h
  subst h
  simp only [But_net_ev_intake, BlkStart, BlkProg, BlkPair, BlkIo]
  simp

theorem execPrepareReturnTimeout_keeps (s : State) (t : State) (h : execPrepareReturnTimeout s = .next t) : But_net_ev
    s t := by
  unfold execPrepareReturnTimeout at h
  injection h with h
  subst h
  simp only [But_net_ev, BlkStart, BlkProg, BlkPair, BlkIo]
  (repeat' split) <;> simp

@[simp] theorem enterSealed_keeps (s : State) :
    But_md_kiln_crs_exch_tickets_loops_solver_pair_safe_field_ring_can_net_intake_panel_panel2_free s (enterSealed s)
    := by
  simp only [But_md_kiln_crs_exch_tickets_loops_solver_pair_safe_field_ring_can_net_intake_panel_panel2_free]
  simp [enterSealed]

@[simp] theorem confirmReturn_keeps (s : State) :
    But_md_kiln_crs_exch_tickets_loops_solver_pair_safe_field_ring_can_net_ev_intake_sec_panel_panel2_free s
    (confirmReturn s) := by
  simp only [But_md_kiln_crs_exch_tickets_loops_solver_pair_safe_field_ring_can_net_ev_intake_sec_panel_panel2_free]
  unfold confirmReturn
  (repeat' split) <;> simp

@[simp] theorem sampleButton_keeps (s : State) (closed : Bool) : But_btn s (sampleButton s closed) := by
  simp only [But_btn, BlkProg, BlkPair, BlkIo, BlkRest]
  simp [sampleButton]

@[simp] theorem declareStuck_keeps (s : State) : But_btn_intake s (declareStuck s) := by
  simp only [But_btn_intake, BlkProg, BlkPair, BlkIo]
  simp [declareStuck]

@[simp] theorem closeButton_keeps (s : State) : But_btn_intake s (closeButton s) := by
  simp only [But_btn_intake, BlkProg, BlkPair, BlkIo]
  simp [closeButton]

theorem execButtonClosingRecognised_keeps (s : State) (t : State) (h : execButtonClosingRecognised s = .next t) :
    But_btn_intake s t := by
  unfold execButtonClosingRecognised at h
  injection h with h
  subst h
  simp only [But_btn_intake, BlkProg, BlkPair, BlkIo]
  simp

theorem execButtonStuck_keeps (s : State) (t : State) (h : execButtonStuck s = .next t) : But_btn_intake s t := by
  unfold execButtonStuck at h
  injection h with h
  subst h
  simp only [But_btn_intake, BlkProg, BlkPair, BlkIo]
  simp

theorem execButtonStuckEnd_keeps (s : State) (t : State) (h : execButtonStuckEnd s = .next t) : But_btn_intake s t :=
    by
  unfold execButtonStuckEnd at h
  injection h with h
  subst h
  simp only [But_btn_intake, BlkProg, BlkPair, BlkIo]
  simp

@[simp] theorem pressAck_keeps (s : State) :
    But_md_kiln_crs_exch_tickets_loops_solver_pair_safe_field_ring_can_net_ev_intake_sec_panel_panel2_free s (pressAck
    s) := by
  simp only [But_md_kiln_crs_exch_tickets_loops_solver_pair_safe_field_ring_can_net_ev_intake_sec_panel_panel2_free]
  simp [pressAck]

@[simp] theorem pressReset_keeps (s : State) : But_md_intake s (pressReset s) := by
  simp only [But_md_intake, BlkStart, BlkProg, BlkPair, BlkIo]
  unfold pressReset
  (repeat' split) <;> simp

@[simp] theorem press_keeps (s : State) (d : Nat) :
    But_md_btn_kiln_crs_exch_tickets_loops_solver_pair_safe_field_ring_can_net_ev_intake_sec_panel_panel2_free s
    (press s d) := by
  simp only [But_md_btn_kiln_crs_exch_tickets_loops_solver_pair_safe_field_ring_can_net_ev_intake_sec_panel_panel2_free]
  simp [press]

theorem execButtonReleaseRecognised_keeps (s : State) (t : State) (h : execButtonReleaseRecognised s = .next t) :
    But_md_btn_kiln_crs_exch_tickets_loops_solver_pair_safe_field_ring_can_net_ev_intake_sec_panel_panel2_free s t :=
    by
  unfold execButtonReleaseRecognised at h
  injection h with h
  subst h
  simp only [But_md_btn_kiln_crs_exch_tickets_loops_solver_pair_safe_field_ring_can_net_ev_intake_sec_panel_panel2_free]
  simp

@[simp] theorem shiftTime_keeps (s : State) (dt dn : Int) :
    But_md_set_crs_exch_tickets_loops_solver_pair_mortar_safe_field_can_time_net_ev_sec_panel_panel2 s (shiftTime s dt
    dn) := by
  simp only [But_md_set_crs_exch_tickets_loops_solver_pair_mortar_safe_field_can_time_net_ev_sec_panel_panel2]
  simp [shiftTime]

@[simp] theorem setClock_keeps (s : State) (boundary phase : Nat) :
    But_md_set_crs_exch_tickets_loops_solver_pair_mortar_safe_field_can_time_net_ev_sec_panel_panel2 s (setClock s
    boundary phase) := by
  simp only [But_md_set_crs_exch_tickets_loops_solver_pair_mortar_safe_field_can_time_net_ev_sec_panel_panel2]
  simp [setClock]

@[simp] theorem setInstant_keeps (s : State) (now : Nat) :
    But_md_set_crs_exch_tickets_loops_solver_pair_mortar_safe_field_can_time_net_ev_sec_panel_panel2 s (setInstant s
    now) := by
  simp only [But_md_set_crs_exch_tickets_loops_solver_pair_mortar_safe_field_can_time_net_ev_sec_panel_panel2]
  simp [setInstant]

@[simp] theorem lanCount_keeps (s : State) (port i : Nat) : But_net s (lanCount s port i) := by
  simp only [But_net, BlkStart, BlkProg, BlkPair, BlkIo]
  simp [lanCount]

@[simp] theorem enterHoldover_keeps (s : State) (why : Nat) : But_time_intake s (enterHoldover s why) := by
  simp only [But_time_intake, BlkStart, BlkProg, BlkPair, BlkIo]
  simp [enterHoldover]

@[simp] theorem ptpJump_keeps (s : State) (port : Nat) (gm : W64) (offset : Int) : But_time_net_intake s (ptpJump s
    port gm offset) := by
  simp only [But_time_net_intake, BlkStart, BlkProg, BlkPair, BlkIo]
  simp [ptpJump]

@[simp] theorem ptpOutlier_keeps (s : State) (port : Nat) (gm : W64) (offset : Int) : But_time_net_intake s
    (ptpOutlier s port gm offset) := by
  simp only [But_time_net_intake, BlkStart, BlkProg, BlkPair, BlkIo]
  simp [ptpOutlier]

@[simp] theorem ptpLock_keeps (s : State) (port : Nat) (offset : Int) : But_time_intake s (ptpLock s port offset) :=
    by
  simp only [But_time_intake, BlkStart, BlkProg, BlkPair, BlkIo]
  simp [ptpLock]

@[simp] theorem ptpAccept_keeps (s : State) (port : Nat) (gm : W64) (cls steps : Nat) (offset : Int) : But_time_intake
    s (ptpAccept s port gm cls steps offset) := by
  simp only [But_time_intake, BlkStart, BlkProg, BlkPair, BlkIo]
  simp [ptpAccept]

@[simp] theorem slewDone_keeps (s : State) : But_time_net_intake s (slewDone s) := by
  simp only [But_time_net_intake, BlkStart, BlkProg, BlkPair, BlkIo]
  simp [slewDone]

@[simp] theorem slewTick_keeps (s : State) : But_time_net_intake s (slewTick s) := by
  simp only [But_time_net_intake, BlkStart, BlkProg, BlkPair, BlkIo]
  simp [slewTick]

@[simp] theorem ptpInLoad_keeps (s : State) (port : Nat) (gm : W64) (cls steps : Nat) (offset : Int) :
    But_md_set_crs_exch_tickets_loops_solver_pair_mortar_safe_field_can_time_net_ev_sec_panel_panel2 s (ptpInLoad s
    port gm cls steps offset) := by
  simp only [But_md_set_crs_exch_tickets_loops_solver_pair_mortar_safe_field_can_time_net_ev_sec_panel_panel2]
  simp [ptpInLoad]

@[simp] theorem ptpFeeds_keeps (s : State) (port : Nat) (gm : W64) (cls steps : Nat) (offset : Int) :
    But_time_net_intake s (ptpFeeds s port gm cls steps offset) := by
  simp only [But_time_net_intake, BlkStart, BlkProg, BlkPair, BlkIo]
  simp [ptpFeeds]

theorem execPtpMeasurement_keeps (port : Nat) (gm : W64) (cls steps : Nat) (raw : Int) (at_ : Nat) (s : State) (t :
    State) (h : execPtpMeasurement port gm cls steps raw at_ s = .next t) :
    But_md_set_crs_exch_tickets_loops_solver_pair_mortar_safe_field_can_time_net_ev_intake_sec_panel_panel2 s t := by
  unfold execPtpMeasurement at h
  injection h with h
  subst h
  simp only [But_md_set_crs_exch_tickets_loops_solver_pair_mortar_safe_field_can_time_net_ev_intake_sec_panel_panel2]
  simp

theorem execAnnounceTimeout_keeps (at_ : Nat) (s : State) (t : State) (h : execAnnounceTimeout at_ s = .next t) :
    But_time_intake s t := by
  unfold execAnnounceTimeout at h
  injection h with h
  subst h
  simp only [But_time_intake, BlkStart, BlkProg, BlkPair, BlkIo]
  simp

theorem execHoldoverClockClassChange_keeps (at_ : Nat) (s : State) (t : State) (h : execHoldoverClockClassChange at_ s
    = .next t) : But_time s t := by
  unfold execHoldoverClockClassChange at h
  injection h with h
  subst h
  simp only [But_time, BlkStart, BlkProg, BlkPair, BlkIo]
  simp

@[simp] theorem timeCommand_keeps (r : Req) (whileBusy : Bool) (mode range : State → Bool) (k : State → State) (s : State) :
    ((∀ u, (k u).pending = u.pending) → (timeCommand r whileBusy mode range k s).pending = s.pending) ∧
    ((∀ u, (k u).md = u.md) → (timeCommand r whileBusy mode range k s).md = s.md) ∧
    ((∀ u, (k u).btn = u.btn) → (timeCommand r whileBusy mode range k s).btn = s.btn) ∧
    ((∀ u, (k u).kiln = u.kiln) → (timeCommand r whileBusy mode range k s).kiln = s.kiln) ∧
    ((∀ u, (k u).set = u.set) → (timeCommand r whileBusy mode range k s).set = s.set) ∧
    ((∀ u, (k u).crs = u.crs) → (timeCommand r whileBusy mode range k s).crs = s.crs) ∧
    ((∀ u, (k u).exch = u.exch) → (timeCommand r whileBusy mode range k s).exch = s.exch) ∧
    ((∀ u, (k u).tickets = u.tickets) → (timeCommand r whileBusy mode range k s).tickets = s.tickets) ∧
    ((∀ u, (k u).lastTicket = u.lastTicket) → (timeCommand r whileBusy mode range k s).lastTicket = s.lastTicket) ∧
    ((∀ u, loopsCore (k u).loops = loopsCore u.loops) → loopsCore (timeCommand r whileBusy mode range k s).loops = loopsCore s.loops) ∧
    ((∀ u, (k u).solver = u.solver) → (timeCommand r whileBusy mode range k s).solver = s.solver) ∧
    ((∀ u, (k u).pair = u.pair) → (timeCommand r whileBusy mode range k s).pair = s.pair) ∧
    ((∀ u, mortarCore (k u).mortar = mortarCore u.mortar) → mortarCore (timeCommand r whileBusy mode range k s).mortar = mortarCore s.mortar) ∧
    ((∀ u, (k u).safe = u.safe) → (timeCommand r whileBusy mode range k s).safe = s.safe) ∧
    ((∀ u, (k u).field = u.field) → (timeCommand r whileBusy mode range k s).field = s.field) ∧
    ((∀ u, (k u).ring = u.ring) → (timeCommand r whileBusy mode range k s).ring = s.ring) ∧
    ((∀ u, (k u).can = u.can) → (timeCommand r whileBusy mode range k s).can = s.can) ∧
    ((∀ u, timeCore (k u).time = timeCore u.time) → timeCore (timeCommand r whileBusy mode range k s).time = timeCore s.time) ∧
    ((∀ u, evCore (k u).ev = evCore u.ev) → evCore (timeCommand r whileBusy mode range k s).ev = evCore s.ev) ∧
    ((∀ u, (k u).sec = u.sec) → (timeCommand r whileBusy mode range k s).sec = s.sec) ∧
    ((∀ u, (k u).panel = u.panel) → (timeCommand r whileBusy mode range k s).panel = s.panel) ∧
    ((∀ u, (k u).panel2 = u.panel2) → (timeCommand r whileBusy mode range k s).panel2 = s.panel2) ∧
    ((∀ u, (k u).sup = u.sup) → (timeCommand r whileBusy mode range k s).sup = s.sup) ∧
    ((∀ u, (k u).free = u.free) → (timeCommand r whileBusy mode range k s).free = s.free) := by
  unfold timeCommand
  (repeat' refine And.intro ?_ ?_) <;> intro hk <;> simp [hk]

theorem execTimeSlew_keeps (r : Req) (rate : Nat) (s : State) (t : State) (h : execTimeSlew r rate s = .next t) :
    But_time_net_intake s t := by
  unfold execTimeSlew at h
  injection h with h
  subst h
  simp only [But_time_net_intake, BlkStart, BlkProg, BlkPair, BlkIo]
  simp

theorem execTimeStep_keeps (r : Req) (s : State) (t : State) (h : execTimeStep r s = .next t) : But_time_net_intake s
    t := by
  unfold execTimeStep at h
  injection h with h
  subst h
  simp only [But_time_net_intake, BlkStart, BlkProg, BlkPair, BlkIo]
  simp

theorem execTimeReject_keeps (r : Req) (s : State) (t : State) (h : execTimeReject r s = .next t) :
    But_time_net_intake s t := by
  unfold execTimeReject at h
  injection h with h
  subst h
  simp only [But_time_net_intake, BlkStart, BlkProg, BlkPair, BlkIo]
  simp

theorem execHaltSlew_keeps (r : Req) (s : State) (t : State) (h : execHaltSlew r s = .next t) : But_time_net_intake s
    t := by
  unfold execHaltSlew at h
  injection h with h
  subst h
  simp only [But_time_net_intake, BlkStart, BlkProg, BlkPair, BlkIo]
  simp

@[simp] theorem stepTime_keeps (s : State) :
    But_md_set_crs_exch_tickets_loops_solver_pair_mortar_safe_field_can_time_net_ev_intake_sec_panel_panel2 s
    (stepTime s) := by
  simp only [But_md_set_crs_exch_tickets_loops_solver_pair_mortar_safe_field_can_time_net_ev_intake_sec_panel_panel2]
  unfold stepTime
  (repeat' split) <;> simp

theorem execLanLinkDown_keeps (port at_ : Nat) (s : State) (t : State) (h : execLanLinkDown port at_ s = .next t) :
    But_kiln_tickets_pair_time_net_intake s t := by
  unfold execLanLinkDown at h
  injection h with h
  subst h
  simp only [But_kiln_tickets_pair_time_net_intake, BlkIo]
  simp

theorem execLanLinkUp_keeps (port speed at_ : Nat) (s : State) (t : State) (h : execLanLinkUp port speed at_ s = .next
    t) : But_net_intake s t := by
  unfold execLanLinkUp at h
  injection h with h
  subst h
  simp only [But_net_intake, BlkStart, BlkProg, BlkPair, BlkIo]
  simp

@[simp] theorem sendArp_keeps (s : State) : But_net s (sendArp s) := by
  simp only [But_net, BlkStart, BlkProg, BlkPair, BlkIo]
  simp [sendArp]

@[simp] theorem announceRole_keeps (s : State) : But_net s (announceRole s) := by
  simp only [But_net, BlkStart, BlkProg, BlkPair, BlkIo]
  simp [announceRole]

theorem execGratuitousArpRepeat_keeps (at_ : Nat) (s : State) (t : State) (h : execGratuitousArpRepeat at_ s = .next
    t) : But_net s t := by
  unfold execGratuitousArpRepeat at h
  injection h with h
  subst h
  simp only [But_net, BlkStart, BlkProg, BlkPair, BlkIo]
  (repeat' split) <;> simp

@[simp] theorem prpTick_keeps (s : State) : But_net s (prpTick s) := by
  simp only [But_net, BlkStart, BlkProg, BlkPair, BlkIo]
  simp [prpTick]

theorem execPrpSupervisionFrame_keeps (lan peer at_ : Nat) (s : State) (t : State) (h : execPrpSupervisionFrame lan
    peer at_ s = .next t) : But_net s t := by
  unfold execPrpSupervisionFrame at h
  injection h with h
  subst h
  simp only [But_net, BlkStart, BlkProg, BlkPair, BlkIo]
  simp

@[simp] theorem pairCount_keeps (s : State) (i : Nat) : But_pair s (pairCount s i) := by
  simp only [But_pair, BlkStart, BlkProg, BlkIo, BlkRest]
  simp [pairCount]

@[simp] theorem takeLoop_keeps (s : State) (q : LoopMortar) : But_loops s (takeLoop s q) := by
  simp only [But_loops, BlkStart, BlkProg, BlkPair, BlkIo]
  simp [takeLoop]

@[simp] theorem followSwap_keeps (s : State) :
    But_md_kiln_set_crs_exch_tickets_loops_solver_pair_mortar_safe_field_ring_can_net_intake_panel_panel2_free s
    (followSwap s) := by
  simp only [But_md_kiln_set_crs_exch_tickets_loops_solver_pair_mortar_safe_field_ring_can_net_intake_panel_panel2_free]
  simp [followSwap]

@[simp] theorem takeTick_keeps (s : State) (f : TickMortar) :
    But_md_kiln_set_crs_exch_tickets_loops_solver_pair_mortar_safe_field_ring_can_net_intake_panel_panel2_free s
    (takeTick s f) := by
  simp only [But_md_kiln_set_crs_exch_tickets_loops_solver_pair_mortar_safe_field_ring_can_net_intake_panel_panel2_free]
  simp [takeTick]

theorem execMortarTickFrameReceive_keeps (f : TickMortar) (s : State) (t : State) (h : execMortarTickFrameReceive f s
    = .next t) :
    But_md_kiln_set_crs_exch_tickets_loops_solver_pair_mortar_safe_field_ring_can_net_intake_panel_panel2_free s t :=
    by
  unfold execMortarTickFrameReceive at h
  injection h with h
  subst h
  simp only [But_md_kiln_set_crs_exch_tickets_loops_solver_pair_mortar_safe_field_ring_can_net_intake_panel_panel2_free]
  simp

@[simp] theorem setApplied_keeps (s : State) (c release : Nat) : But_mortar s (setApplied s c release) := by
  simp only [But_mortar, BlkStart, BlkProg, BlkIo, BlkRest]
  simp [setApplied]

@[simp] theorem takeCourseEnd_keeps (s : State) (c release : Nat) (data : List (Nat × Nat × Bytes)) (settings : List
    (Nat × W64)) (mirages : List (Nat × Option MirageCmd)) : But_set_crs_mortar s (takeCourseEnd s c release data
    settings mirages) := by
  simp only [But_set_crs_mortar, BlkIo, BlkRest]
  simp [takeCourseEnd]

@[simp] theorem followOpen_keeps (s : State) (before : Mode) :
    But_md_crs_exch_loops_solver_safe_field_can_net_intake_panel_panel2_free s (followOpen s before) := by
  simp only [But_md_crs_exch_loops_solver_safe_field_can_net_intake_panel_panel2_free]
  simp [followOpen]

@[simp] theorem followEnd_keeps (s : State) (state : Nat) :
    But_md_kiln_set_crs_exch_tickets_loops_solver_pair_mortar_safe_field_ring_can_net_intake_panel_panel2_free s
    (followEnd s state) := by
  simp only [But_md_kiln_set_crs_exch_tickets_loops_solver_pair_mortar_safe_field_ring_can_net_intake_panel_panel2_free]
  simp [followEnd]

@[simp] theorem followMode_keeps (s : State) (m state phase : Nat) :
    But_md_kiln_set_crs_exch_tickets_loops_solver_pair_mortar_safe_field_ring_can_net_intake_panel_panel2_free s
    (followMode s m state phase) := by
  simp only [But_md_kiln_set_crs_exch_tickets_loops_solver_pair_mortar_safe_field_ring_can_net_intake_panel_panel2_free]
  simp [followMode]

@[simp] theorem takeContent_keeps (s : State) (kind index : Nat) (data : Bytes) : But_crs_loops_solver_pair s
    (takeContent s kind index data) := by
  simp only [But_crs_loops_solver_pair, BlkStart, BlkIo]
  unfold takeContent
  (repeat' split) <;> simp

@[simp] theorem applyMortar_keeps (s : State) (m : Mortar) :
    But_md_kiln_set_crs_exch_tickets_loops_solver_pair_mortar_safe_field_ring_can_net_ev_intake_panel_panel2_free s
    (applyMortar s m) := by
  simp only [But_md_kiln_set_crs_exch_tickets_loops_solver_pair_mortar_safe_field_ring_can_net_ev_intake_panel_panel2_free]
  unfold applyMortar
  (repeat' split) <;> simp

theorem applyQueued_keeps (acc : State × List Mortar) (m : Mortar) :
    But_md_kiln_set_crs_exch_tickets_loops_solver_pair_mortar_safe_field_ring_can_net_ev_intake_panel_panel2_free acc.1 (applyQueued acc m).1 := by
  simp only [But_md_kiln_set_crs_exch_tickets_loops_solver_pair_mortar_safe_field_ring_can_net_ev_intake_panel_panel2_free]
  unfold applyQueued
  try dsimp only
  (repeat' split) <;> simp
theorem pairFold_inv {α β : Type} {P : State → Prop} (g : State × β → α → State × β) (l : List α) (acc : State × β)
    (h0 : P acc.1) (h : ∀ a b, P a.1 → P (g a b).1) : P (l.foldl g acc).1 := by
  induction l generalizing acc with
  | nil => exact h0
  | cons b l ih => exact ih _ (h _ _ h0)
@[simp] theorem applyQueue_keeps (s : State) : But_md_kiln_set_crs_exch_tickets_loops_solver_pair_mortar_safe_field_ring_can_net_ev_intake_panel_panel2_free s (applyQueue s) := by
  have k : ∀ acc : State × List Mortar, But_md_kiln_set_crs_exch_tickets_loops_solver_pair_mortar_safe_field_ring_can_net_ev_intake_panel_panel2_free s acc.1 → ∀ m, But_md_kiln_set_crs_exch_tickets_loops_solver_pair_mortar_safe_field_ring_can_net_ev_intake_panel_panel2_free s (applyQueued acc m).1 := by
    intro acc h m
    have k := applyQueued_keeps acc m
    simp only [But_md_kiln_set_crs_exch_tickets_loops_solver_pair_mortar_safe_field_ring_can_net_ev_intake_panel_panel2_free] at h k ⊢
    simp [k, h]
  have r := pairFold_inv (P := But_md_kiln_set_crs_exch_tickets_loops_solver_pair_mortar_safe_field_ring_can_net_ev_intake_panel_panel2_free s) (fun (acc : State × List Mortar) (_ : Mortar) => acc.2.foldl applyQueued (acc.1, []))
    s.mortar.queue (s, s.mortar.queue) (by simp [But_md_kiln_set_crs_exch_tickets_loops_solver_pair_mortar_safe_field_ring_can_net_ev_intake_panel_panel2_free]) fun a _ h => pairFold_inv _ _ _ h fun a m h => k a h m
  unfold applyQueue
  simp only [But_md_kiln_set_crs_exch_tickets_loops_solver_pair_mortar_safe_field_ring_can_net_ev_intake_panel_panel2_free] at r ⊢
  simpa using r

@[simp] theorem adoptOutcomes_keeps (s : State) : But_solver s (adoptOutcomes s) := by
  unfold adoptOutcomes
  split
  · simp [But_solver, BlkStart, BlkPair, BlkIo, BlkRest]
  · show But_solver _ _
    refine foldl_inv (P := But_solver _) _ _ _ (by simp [But_solver, BlkStart, BlkPair, BlkIo, BlkRest]) (fun u b hu => ?_)
    try dsimp only
    (repeat' split) <;> simp [But_solver, BlkStart, BlkPair, BlkIo, BlkRest, hu]

@[simp] theorem mortarBoundary_keeps (s : State) :
    But_md_kiln_set_crs_exch_tickets_loops_solver_pair_mortar_safe_field_ring_can_net_ev_intake_panel_panel2_free s
    (mortarBoundary s) := by
  simp only [But_md_kiln_set_crs_exch_tickets_loops_solver_pair_mortar_safe_field_ring_can_net_ev_intake_panel_panel2_free]
  simp [mortarBoundary]

@[simp] theorem takeOutcome_keeps (s : State) (o : OutcomeMortar) : But_solver s (takeOutcome s o) := by
  simp only [But_solver, BlkStart, BlkPair, BlkIo, BlkRest]
  unfold takeOutcome
  (repeat' split) <;> simp

@[simp] theorem partnerTable_keeps (s : State) (t : Nat) : But_loops s (partnerTable s t) := by
  simp only [But_loops, BlkStart, BlkProg, BlkPair, BlkIo]
  simp [partnerTable]

@[simp] theorem standbyReceive_keeps (s : State) (m : Mortar) : But_loops_solver_mortar_safe_time s (standbyReceive s
    m) := by
  simp only [But_loops_solver_mortar_safe_time, BlkStart, BlkIo]
  unfold standbyReceive
  (repeat' split) <;> simp

@[simp] theorem activeReceive_keeps (s : State) (m : Mortar) : But_md_tickets_loops s (activeReceive s m) := by
  simp only [But_md_tickets_loops, BlkStart, BlkPair, BlkIo]
  unfold activeReceive
  (repeat' split) <;> simp

@[simp] theorem frameCame_keeps (s : State) (cls : Nat) : But_mortar s (frameCame s cls) := by
  simp only [But_mortar, BlkStart, BlkProg, BlkIo, BlkRest]
  unfold frameCame
  (repeat' split) <;> simp

theorem execMortarFrameReceive_keeps (crcOk : Bool) (m : Mortar) (at_ : Nat) (s : State) (t : State) (h :
    execMortarFrameReceive crcOk m at_ s = .next t) : But_md_tickets_loops_solver_pair_mortar_safe_time_net s t := by
  unfold execMortarFrameReceive at h
  injection h with h
  subst h
  simp only [But_md_tickets_loops_solver_pair_mortar_safe_time_net, BlkStart, BlkIo]
  simp

@[simp] theorem staleTickBoundary_keeps (s : State) : But_pair s (staleTickBoundary s) := by
  simp only [But_pair, BlkStart, BlkProg, BlkIo, BlkRest]
  simp [staleTickBoundary]

theorem execMortarStale_keeps (cls : Nat) (at_ : Nat) (s : State) (t : State) (h : execMortarStale cls at_ s = .next
    t) : But_md_crs_exch_loops_solver_pair_mortar_safe_field_can_net_intake_panel_panel2_free s t := by
  unfold execMortarStale at h
  injection h with h
  subst h
  simp only [But_md_crs_exch_loops_solver_pair_mortar_safe_field_can_net_intake_panel_panel2_free]
  simp

@[simp] theorem settingAccept_keeps (s : State) (o : Origin) (i : Nat) (data : Bytes) : But_set_crs_loops s
    (settingAccept s o i data).1 := by
  simp only [But_set_crs_loops, BlkPair, BlkIo]
  unfold settingAccept
  dsimp only
  (repeat' split) <;> simp

theorem execSettingWrite_keeps (r : Req) (index : Nat) (data : Bytes) (s : State) (t : State) (h : execSettingWrite r
    index data s = .next t) : But_set_crs_loops_net_intake s t := by
  unfold execSettingWrite at h
  injection h with h
  subst h
  simp only [But_set_crs_loops_net_intake, BlkPair, BlkIo]
  have H : ∀ (s : State) (r : Req) (o : W32) (k : State → State), (∀ u, But_set_crs_loops_net_intake u (k u)) → But_set_crs_loops_net_intake s (hostCommand s r o k) := (by intros; rename_i hk; simp only [But_set_crs_loops_net_intake, BlkPair, BlkIo]; simp [hk])
  show But_set_crs_loops_net_intake _ _
  refine H _ _ _  _ (fun u => ?_)
  (repeat' split) <;> simp [But_set_crs_loops_net_intake, BlkPair, BlkIo]

@[simp] theorem declComplete_keeps (s : State) (d : Decl) : But_set_intake s (declComplete s d) := by
  simp only [But_set_intake, BlkProg, BlkPair, BlkIo]
  simp [declComplete]

@[simp] theorem replaceHeld_keeps (s : State) (o : Origin) : But_set_net s (replaceHeld s o) := by
  simp only [But_set_net, BlkProg, BlkPair, BlkIo]
  simp [replaceHeld]

@[simp] theorem declAccept_keeps (s : State) (o : Origin) (generation : W32) : But_set_net_intake s (declAccept s o
    generation).1 := by
  simp only [But_set_net_intake, BlkProg, BlkPair, BlkIo]
  unfold declAccept
  dsimp only
  (repeat' split) <;> simp

theorem execSettingsComplete_keeps (r : Req) (generation : W32) (s : State) (t : State) (h : execSettingsComplete r
    generation s = .next t) : But_set_net_intake s t := by
  unfold execSettingsComplete at h
  injection h with h
  subst h
  simp only [But_set_net_intake, BlkProg, BlkPair, BlkIo]
  have H : ∀ (s : State) (r : Req) (o : W32) (k : State → State), (∀ u, But_set_net_intake u (k u)) → But_set_net_intake s (hostCommand s r o k) := (by intros; rename_i hk; simp only [But_set_net_intake, BlkProg, BlkPair, BlkIo]; simp [hk])
  show But_set_net_intake _ _
  refine H _ _ _  _ (fun u => ?_)
  (repeat' split) <;> simp [But_set_net_intake, BlkProg, BlkPair, BlkIo]

theorem execSettingsDeclarationDone_keeps (session : Nat) (s : State) (t : State) (h : execSettingsDeclarationDone
    session s = .next t) : But_set_net_intake s t := by
  unfold execSettingsDeclarationDone at h
  injection h with h
  subst h
  simp only [But_set_net_intake, BlkProg, BlkPair, BlkIo]
  (repeat' split) <;> simp

@[simp] theorem settingsBoundary_keeps (s : State) : But_set s (settingsBoundary s) := by
  simp only [But_set, BlkProg, BlkPair, BlkIo, BlkRest]
  simp [settingsBoundary]

@[simp] theorem waitsAlone_keeps (s : State) : But_set_crs_net s (waitsAlone s) := by
  simp only [But_set_crs_net, BlkPair, BlkIo]
  simp [waitsAlone]

@[simp] theorem sendStatus_keeps (s : State) : But_net s (sendStatus s) := by
  simp only [But_net, BlkStart, BlkProg, BlkPair, BlkIo]
  simp [sendStatus]

@[simp] theorem firstSync_keeps (s : State) : But_pair_intake s (firstSync s) := by
  simp only [But_pair_intake, BlkStart, BlkProg, BlkIo]
  simp [firstSync]

@[simp] theorem seeCause_keeps (s : State) (f : StatusFrame) : But_pair s (seeCause s f) := by
  simp only [But_pair, BlkStart, BlkProg, BlkIo, BlkRest]
  simp [seeCause]

@[simp] theorem wiringFrame_keeps (s : State) : But_pair_intake s (wiringFrame s) := by
  simp only [But_pair_intake, BlkStart, BlkProg, BlkIo]
  simp [wiringFrame]

theorem execStatusFrameReceive_keeps (lane : Nat) (f : StatusFrame) (at_ : Nat) (s : State) (t : State) (h :
    execStatusFrameReceive lane f at_ s = .next t) :
    But_md_kiln_set_crs_exch_tickets_loops_solver_pair_safe_field_ring_can_net_intake_panel_panel2_free s t := by
  unfold execStatusFrameReceive at h
  injection h with h
  subst h
  simp only [But_md_kiln_set_crs_exch_tickets_loops_solver_pair_safe_field_ring_can_net_intake_panel_panel2_free]
  simp

@[simp] theorem shadowLapse_keeps (s : State) : But_pair_intake s (shadowLapse s) := by
  simp only [But_pair_intake, BlkStart, BlkProg, BlkIo]
  simp [shadowLapse]

theorem execPartnerReportLapse_keeps (s : State) (t : State) (h : execPartnerReportLapse s = .next t) :
    But_pair_net_intake s t := by
  unfold execPartnerReportLapse at h
  injection h with h
  subst h
  simp only [But_pair_net_intake, BlkStart, BlkProg, BlkIo]
  simp

@[simp] theorem roleBoundary_keeps (s : State) : But_md_pair_can_net_intake_panel_panel2 s (roleBoundary s) := by
  simp only [But_md_pair_can_net_intake_panel_panel2, BlkStart, BlkProg]
  unfold roleBoundary
  dsimp only
  (repeat' split) <;> simp

theorem execAbdicateFrameReceive_keeps (cause : Nat) (at_ : Nat) (s : State) (t : State) (h : execAbdicateFrameReceive
    cause at_ s = .next t) :
    But_md_kiln_set_crs_exch_tickets_loops_solver_pair_safe_field_ring_can_net_intake_panel_panel2_free s t := by
  unfold execAbdicateFrameReceive at h
  injection h with h
  subst h
  simp only [But_md_kiln_set_crs_exch_tickets_loops_solver_pair_safe_field_ring_can_net_intake_panel_panel2_free]
  simp

theorem execAbdicationDetected_keeps (oneSample : Bool) (at_ : Nat) (s : State) (t : State) (h :
    execAbdicationDetected oneSample at_ s = .next t) : But_md_pair_panel s t := by
  unfold execAbdicationDetected at h
  injection h with h
  subst h
  simp only [But_md_pair_panel, BlkStart, BlkProg]
  simp

@[simp] theorem takeoverData_keeps (s : State) : But_crs s (takeoverData s) := by
  simp only [But_crs, BlkStart, BlkPair, BlkIo, BlkRest]
  simp [takeoverData]

@[simp] theorem takeoverOutputs_keeps (s : State) : But_crs s (takeoverOutputs s) := by
  simp only [But_crs, BlkStart, BlkPair, BlkIo, BlkRest]
  simp [takeoverOutputs]

@[simp] theorem failTickets_keeps (s : State) : But_kiln_tickets_loops_solver_pair_net_intake s (failTickets s) := by
  simp only [But_kiln_tickets_loops_solver_pair_net_intake, BlkIo]
  simp [failTickets]

@[simp] theorem takeoverServo_keeps (s : State) : But_time_intake s (takeoverServo s) := by
  simp only [But_time_intake, BlkStart, BlkProg, BlkPair, BlkIo]
  unfold takeoverServo
  (repeat' split) <;> simp

@[simp] theorem takeoverCourses_keeps (s : State) : But_crs_can_intake_free s (takeoverCourses s) := by
  simp only [But_crs_can_intake_free, BlkPair]
  simp [takeoverCourses]

@[simp] theorem takeoverWindow_keeps (s : State) : But_exch_loops_intake s (takeoverWindow s) := by
  simp only [But_exch_loops_intake, BlkStart, BlkPair, BlkIo]
  simp [takeoverWindow]

@[simp] theorem takeControl_keeps (s : State) (takeover : Bool) : But_pair_mortar_can_time_net_intake_panel_panel2 s
    (takeControl s takeover) := by
  simp only [But_pair_mortar_can_time_net_intake_panel_panel2, BlkStart, BlkProg]
  simp [takeControl]

theorem execTakeover_keeps (s : State) (t : State) (h : execTakeover s = .next t) :
    But_md_kiln_set_crs_exch_tickets_loops_solver_pair_mortar_safe_field_ring_can_time_net_intake_panel_panel2_free s
    t := by
  unfold execTakeover at h
  injection h with h
  subst h
  simp only [But_md_kiln_set_crs_exch_tickets_loops_solver_pair_mortar_safe_field_ring_can_time_net_intake_panel_panel2_free]
  simp

@[simp] theorem refuseSwap_keeps (s : State) : But_md_net s (refuseSwap s) := by
  simp only [But_md_net, BlkStart, BlkProg, BlkPair, BlkIo]
  simp [refuseSwap]

@[simp] theorem swapAway_keeps (s : State) :
    But_md_kiln_set_crs_exch_tickets_loops_solver_pair_mortar_safe_field_can_net_intake_panel_panel2_free s (swapAway
    s) := by
  simp only [But_md_kiln_set_crs_exch_tickets_loops_solver_pair_mortar_safe_field_can_net_intake_panel_panel2_free]
  simp [swapAway]

@[simp] theorem swapIn_keeps (s : State) :
    But_md_kiln_crs_exch_tickets_loops_solver_pair_mortar_safe_field_can_time_net_intake_panel_panel2_free s (swapIn
    s) := by
  simp only [But_md_kiln_crs_exch_tickets_loops_solver_pair_mortar_safe_field_can_time_net_intake_panel_panel2_free]
  simp [swapIn]

theorem execRoleSwapTick_keeps (s : State) (t : State) (h : execRoleSwapTick s = .next t) :
    But_md_kiln_set_crs_exch_tickets_loops_solver_pair_mortar_safe_field_can_time_net_intake_panel_panel2_free s t :=
    by
  unfold execRoleSwapTick at h
  injection h with h
  subst h
  simp only [But_md_kiln_set_crs_exch_tickets_loops_solver_pair_mortar_safe_field_can_time_net_intake_panel_panel2_free]
  (repeat' split) <;> simp

theorem execLatentFaultWindowEnd_keeps (s : State) (t : State) (h : execLatentFaultWindowEnd s = .next t) :
    But_pair_ev_intake s t := by
  unfold execLatentFaultWindowEnd at h
  injection h with h
  subst h
  simp only [But_pair_ev_intake, BlkStart, BlkProg, BlkIo]
  (repeat' split) <;> simp

theorem execRehearsalOverdue_keeps (s : State) (t : State) (h : execRehearsalOverdue s = .next t) : But_pair_intake s
    t := by
  unfold execRehearsalOverdue at h
  injection h with h
  subst h
  simp only [But_pair_intake, BlkStart, BlkProg, BlkIo]
  simp

@[simp] theorem laneLost_keeps (s : State) (lane : Nat) :
    But_md_crs_exch_loops_solver_pair_mortar_safe_field_can_net_intake_panel_panel2_free s (laneLost s lane) := by
  simp only [But_md_crs_exch_loops_solver_pair_mortar_safe_field_can_net_intake_panel_panel2_free]
  simp [laneLost]

theorem execLaneDown_keeps (lane at_ : Nat) (s : State) (t : State) (h : execLaneDown lane at_ s = .next t) :
    But_md_crs_exch_loops_solver_pair_mortar_safe_field_can_net_intake_panel_panel2_free s t := by
  unfold execLaneDown at h
  injection h with h
  subst h
  simp only [But_md_crs_exch_loops_solver_pair_mortar_safe_field_can_net_intake_panel_panel2_free]
  simp

@[simp] theorem laneTick_keeps (s : State) (lane : Nat) :
    But_md_crs_exch_loops_solver_pair_mortar_safe_field_can_net_intake_panel_panel2_free s (laneTick s lane) := by
  simp only [But_md_crs_exch_loops_solver_pair_mortar_safe_field_can_net_intake_panel_panel2_free]
  simp [laneTick]

@[simp] theorem lanesTick_keeps (s : State) :
    But_md_crs_exch_loops_solver_pair_mortar_safe_field_can_net_intake_panel_panel2_free s (lanesTick s) := by
  simp only [But_md_crs_exch_loops_solver_pair_mortar_safe_field_can_net_intake_panel_panel2_free]
  simp [lanesTick]

theorem execLaneUp_keeps (lane at_ : Nat) (s : State) (t : State) (h : execLaneUp lane at_ s = .next t) :
    But_pair_net_intake s t := by
  unfold execLaneUp at h
  injection h with h
  subst h
  simp only [But_pair_net_intake, BlkStart, BlkProg, BlkIo]
  simp

theorem execLinkUpNegotiation_keeps (lvLow lvHigh : Nat) (mf : List (Nat × Nat)) (missing : W32) (at_ : Nat) (s : State) (t : State) (h : execLinkUpNegotiation lvLow lvHigh mf missing at_ s = .next t) : But_pair_intake s t := by
  unfold execLinkUpNegotiation at h
  injection h with h
  subst h
  simp only [But_pair_intake, BlkStart, BlkProg, BlkIo]
  unfold execLinkUpNegotiation.noVersions
  split
  · simp
  · rcases Config.lvRange with ⟨ol, oh⟩
    try dsimp only
    (repeat' split) <;> simp

@[simp] theorem sendBulk_keeps (s : State) : But_mortar_net s (sendBulk s) := by
  simp only [But_mortar_net, BlkStart, BlkProg, BlkIo]
  simp [sendBulk]

@[simp] theorem followClock_keeps (s : State) :
    But_md_set_crs_exch_tickets_loops_solver_pair_mortar_safe_field_can_time_net_ev_sec_panel_panel2 s (followClock s)
    := by
  simp only [But_md_set_crs_exch_tickets_loops_solver_pair_mortar_safe_field_can_time_net_ev_sec_panel_panel2]
  unfold followClock
  (repeat' split) <;> simp

theorem execBulkCopyStart_keeps (bytes : Nat) (at_ : Nat) (s : State) (t : State) (h : execBulkCopyStart bytes at_ s =
    .next t) : But_md_set_crs_exch_tickets_loops_solver_pair_mortar_safe_field_can_time_net_ev_intake_sec_panel_panel2
    s t := by
  unfold execBulkCopyStart at h
  injection h with h
  subst h
  simp only [But_md_set_crs_exch_tickets_loops_solver_pair_mortar_safe_field_can_time_net_ev_intake_sec_panel_panel2]
  simp

theorem execTrackReached_keeps (at_ : Nat) (s : State) (t : State) (h : execTrackReached at_ s = .next t) :
    But_md_crs_exch_loops_solver_pair_safe_field_can_net_intake_panel_panel2_free s t := by
  unfold execTrackReached at h
  injection h with h
  subst h
  simp only [But_md_crs_exch_loops_solver_pair_safe_field_can_net_intake_panel_panel2_free]
  simp

theorem execFirmwareLoad_keeps (stage : Nat) (code : Bytes) (signed : Bool) (version : W32) (s : State) (t : State) (h
    : execFirmwareLoad stage code signed version s = .next t) :
    But_md_btn_kiln_set_crs_exch_tickets_lastTicket_loops_solver_pair_mortar_safe_field_ring_can_time_net_ev_intake_sec_panel_panel2_sup
    s t := by
  unfold execFirmwareLoad at h
  injection h with h
  subst h
  simp only [But_md_btn_kiln_set_crs_exch_tickets_lastTicket_loops_solver_pair_mortar_safe_field_ring_can_time_net_ev_intake_sec_panel_panel2_sup]
  simp

end Sys2Proof.Machine
end

