-- ==== Sys2Proof/Laws/KeepsRest.lean ====
section
/-! SUPPORT. What the operations of commit, field, mirages, host and tick leave alone, one lemma each. -/

namespace Sys2Proof.Machine

@[simp] theorem keepCommit_keeps (s : State) (vals : List (Nat × IoEntry × Applied)) :
    But_crs_loops_solver_safe_net_intake s (keepCommit s vals) := by
  simp only [But_crs_loops_solver_safe_net_intake, BlkStart, BlkIo]
  simp [keepCommit]

@[simp] theorem endSilence_keeps (s : State) : But_field s (endSilence s) := by
  simp only [But_field, BlkStart, BlkProg, BlkPair, BlkRest]
  simp [endSilence]

@[simp] theorem driveOnboard_keeps (s : State) (vals : List (Nat × IoEntry × Applied)) : But_field s (driveOnboard s
    vals) := by
  simp only [But_field, BlkStart, BlkProg, BlkPair, BlkRest]
  simp [driveOnboard]

@[simp] theorem releaseOnboard_keeps (s : State) : But_field s (releaseOnboard s) := by
  simp only [But_field, BlkStart, BlkProg, BlkPair, BlkRest]
  simp [releaseOnboard]

@[simp] theorem sendTick_keeps (s : State) (outputs : List (Nat × W64)) : But_loops_net s (sendTick s outputs) := by
  simp only [But_loops_net, BlkStart, BlkProg, BlkPair, BlkIo]
  simp [sendTick]

theorem execOutputCommit_keeps (s : State) (t : State) (h : execOutputCommit s = .next t) :
    But_crs_exch_loops_solver_safe_field_ring_can_net_intake s t := by
  unfold execOutputCommit at h
  injection h with h
  subst h
  simp only [But_crs_exch_loops_solver_safe_field_ring_can_net_intake, BlkStart]
  simp

@[simp] theorem soePush_keeps (s : State) (r : SoeRec) : But_field_intake s (soePush s r) := by
  simp only [But_field_intake, BlkStart, BlkProg, BlkPair]
  simp [soePush]

theorem execDigitalInputChange_keeps (channel : Nat) (level : Bool) (changedNs : Nat) (s : State) (t : State) (h :
    execDigitalInputChange channel level changedNs s = .next t) : But_field_intake s t := by
  unfold execDigitalInputChange at h
  injection h with h
  subst h
  simp only [But_field_intake, BlkStart, BlkProg, BlkPair]
  (repeat' split) <;> simp

theorem execSoeRead_keeps (r : Req) (s : State) (t : State) (h : execSoeRead r s = .next t) : But_field_net s t := by
  unfold execSoeRead at h
  injection h with h
  subst h
  simp only [But_field_net, BlkStart, BlkProg, BlkPair]
  simp

@[simp] theorem protectOff_keeps (s : State) (kk : Nat) (e : IoEntry) : But_field s (protectOff s kk e) := by
  simp only [But_field, BlkStart, BlkProg, BlkPair, BlkRest]
  simp [protectOff]

theorem execOutputOverload_keeps (channel : Nat) (at_ : Nat) (s : State) (t : State) (h : execOutputOverload channel
    at_ s = .next t) : But_field_intake s t := by
  unfold execOutputOverload at h
  injection h with h
  subst h
  simp only [But_field_intake, BlkStart, BlkProg, BlkPair]
  (repeat' split) <;> simp

theorem execOutputOvertemp_keeps (channel : Nat) (at_ : Nat) (s : State) (t : State) (h : execOutputOvertemp channel
    at_ s = .next t) : But_field_intake s t := by
  unfold execOutputOvertemp at h
  injection h with h
  subst h
  simp only [But_field_intake, BlkStart, BlkProg, BlkPair]
  (repeat' split) <;> simp

theorem execOutputRetry_keeps (channel : Nat) (cooled : Bool) (s : State) (t : State) (h : execOutputRetry channel
    cooled s = .next t) : But_field s t := by
  unfold execOutputRetry at h
  injection h with h
  subst h
  simp only [But_field, BlkStart, BlkProg, BlkPair, BlkRest]
  (repeat' split) <;> simp

theorem execChannelClear_keeps (r : Req) (kk : Nat) (value : W32) (s : State) (t : State) (h : execChannelClear r kk
    value s = .next t) : But_field_net_intake s t := by
  unfold execChannelClear at h
  injection h with h
  subst h
  simp only [But_field_net_intake, BlkStart, BlkProg, BlkPair]
  simp

theorem execGroupOvercurrent_keeps (group : Nat) (channels : List Nat) (at_ : Nat) (s : State) (t : State) (h :
    execGroupOvercurrent group channels at_ s = .next t) : But_field_intake s t := by
  unfold execGroupOvercurrent at h
  injection h with h
  subst h
  simp only [But_field_intake, BlkStart, BlkProg, BlkPair]
  simp

theorem execOpenWire_keeps (channel : Nat) (open_ : Bool) (s : State) (t : State) (h : execOpenWire channel open_ s =
    .next t) : But_field_intake s t := by
  unfold execOpenWire at h
  injection h with h
  subst h
  simp only [But_field_intake, BlkStart, BlkProg, BlkPair]
  simp

theorem execFieldFeedLow_keeps (group : Nat) (s : State) (t : State) (h : execFieldFeedLow group s = .next t) :
    But_field_intake s t := by
  unfold execFieldFeedLow at h
  injection h with h
  subst h
  simp only [But_field_intake, BlkStart, BlkProg, BlkPair]
  simp

@[simp] theorem groupValid_keeps (s : State) (group : Nat) : But_field s (groupValid s group) := by
  simp only [But_field, BlkStart, BlkProg, BlkPair, BlkRest]
  simp [groupValid]

theorem execFieldFeedRestored_keeps (group : Nat) (s : State) (t : State) (h : execFieldFeedRestored group s = .next
    t) : But_field_intake s t := by
  unfold execFieldFeedRestored at h
  injection h with h
  subst h
  simp only [But_field_intake, BlkStart, BlkProg, BlkPair]
  simp

@[simp] theorem latentFault_keeps (s : State) (kk : Nat) : But_pair_intake s (latentFault s kk) := by
  simp only [But_pair_intake, BlkStart, BlkProg, BlkIo]
  unfold latentFault
  (repeat' split) <;> simp

theorem execReadbackFailure_keeps (kk : Nat) (s : State) (t : State) (h : execReadbackFailure kk s = .next t) :
    But_pair_field_intake s t := by
  unfold execReadbackFailure at h
  injection h with h
  subst h
  simp only [But_pair_field_intake, BlkStart, BlkProg]
  simp

theorem execAnalogueUnderRange_keeps (ai : Nat) (s : State) (t : State) (h : execAnalogueUnderRange ai s = .next t) :
    But_field_intake s t := by
  unfold execAnalogueUnderRange at h
  injection h with h
  subst h
  simp only [But_field_intake, BlkStart, BlkProg, BlkPair]
  simp

theorem execAnalogueOverRange_keeps (ai : Nat) (s : State) (t : State) (h : execAnalogueOverRange ai s = .next t) :
    But_field_intake s t := by
  unfold execAnalogueOverRange at h
  injection h with h
  subst h
  simp only [But_field_intake, BlkStart, BlkProg, BlkPair]
  simp

theorem execAnalogueRangeClear_keeps (ai : Nat) (s : State) (t : State) (h : execAnalogueRangeClear ai s = .next t) :
    But_field_intake s t := by
  unfold execAnalogueRangeClear at h
  injection h with h
  subst h
  simp only [But_field_intake, BlkStart, BlkProg, BlkPair]
  simp

theorem execComplianceLost_keeps (ao : Nat) (s : State) (t : State) (h : execComplianceLost ao s = .next t) :
    But_field_intake s t := by
  unfold execComplianceLost at h
  injection h with h
  subst h
  simp only [But_field_intake, BlkStart, BlkProg, BlkPair]
  simp

theorem execComplianceRegained_keeps (ao : Nat) (s : State) (t : State) (h : execComplianceRegained ao s = .next t) :
    But_field_intake s t := by
  unfold execComplianceRegained at h
  injection h with h
  subst h
  simp only [But_field_intake, BlkStart, BlkProg, BlkPair]
  simp

theorem execPositionSignalFault_keeps (pos : Nat) (s : State) (t : State) (h : execPositionSignalFault pos s = .next
    t) : But_loops_field_intake s t := by
  unfold execPositionSignalFault at h
  injection h with h
  subst h
  simp only [But_loops_field_intake, BlkStart, BlkProg, BlkPair]
  simp

theorem execPositionSignalClear_keeps (pos : Nat) (s : State) (t : State) (h : execPositionSignalClear pos s = .next
    t) : But_loops_field s t := by
  unfold execPositionSignalClear at h
  injection h with h
  subst h
  simp only [But_loops_field, BlkStart, BlkProg, BlkPair]
  simp

theorem execLogicSilence_keeps (at_ : Nat) (s : State) (t : State) (h : execLogicSilence at_ s = .next t) : But_md_kiln_crs_exch_loops_solver_pair_mortar_safe_field_can_net_intake_panel_panel2_free s t := by
  unfold execLogicSilence at h
  injection h with h
  subst h
  simp only [But_md_kiln_crs_exch_loops_solver_pair_mortar_safe_field_can_net_intake_panel_panel2_free]
  split
  · simp
  · try dsimp only
    have k : ∀ (l : List (Nat × IoEntry)) (u : State), But_field u (l.foldl (fun s e => (kkOf e.2).elim s fun kk => setChan s kk { chan s kk with silence := true }) u) := by
      intro l u
      refine foldl_inv (P := But_field u) _ _ _ (by simp [But_field, BlkStart, BlkProg, BlkPair, BlkRest]) (fun v b hv => ?_)
      cases kkOf b.2 <;> simp [But_field, BlkStart, BlkProg, BlkPair, BlkRest, hv]
    simp [k]

theorem execFieldControllerWatchdog_keeps (at_ : Nat) (s : State) (t : State) (h : execFieldControllerWatchdog at_ s =
    .next t) : But_md_kiln_crs_exch_loops_solver_pair_mortar_safe_field_can_net_intake_panel_panel2_free s t := by
  unfold execFieldControllerWatchdog at h
  injection h with h
  subst h
  simp only [But_md_kiln_crs_exch_loops_solver_pair_mortar_safe_field_can_net_intake_panel_panel2_free]
  simp

theorem execTrimModeWrite_keeps (r : Req) (mask : Byte) (s : State) (t : State) (h : execTrimModeWrite r mask s =
    .next t) : But_field_net_intake s t := by
  unfold execTrimModeWrite at h
  injection h with h
  subst h
  simp only [But_field_net_intake, BlkStart, BlkProg, BlkPair]
  simp

theorem execTrimCurrentWrite_keeps (r : Req) (ao : Nat) (value : F64) (s : State) (t : State) (h :
    execTrimCurrentWrite r ao value s = .next t) : But_field_net_intake s t := by
  unfold execTrimCurrentWrite at h
  injection h with h
  subst h
  simp only [But_field_net_intake, BlkStart, BlkProg, BlkPair]
  simp

@[simp] theorem mirageStops_keeps (s : State) (c : MirageCmd) : But_loops_net_intake s (mirageStops s c) := by
  simp only [But_loops_net_intake, BlkStart, BlkProg, BlkPair, BlkIo]
  simp [mirageStops]

@[simp] theorem mirageReply_keeps (s : State) (r : Req) (entries : List Nat) : But_crs_net s (mirageReply s r entries)
    := by
  simp only [But_crs_net, BlkStart, BlkPair, BlkIo]
  simp [mirageReply]

theorem hostGate_keeps {α : Type} (s : State) (r : Req) (o : W32) (g : State → Option Nat) (k : State → State) (f : State → α)
   (H : ∀ k : State → State, (∀ u, f (k u) = f u) → f (hostCommand s r o k) = f s)
   (hr : ∀ u x, f (refuse u r o x) = f u) (hk : ∀ u, f (k u) = f u) :
   f (hostCommand s r o fun s => match g s with | some x => refuse s r o x | none => k s) = f s := by
  apply H
  intro u
  split
  · exact hr _ _
  · exact hk _
@[simp] theorem mirageCommand_keeps (r : Req) (k : State → State) (s : State) :
    ((∀ u, (k u).pending = u.pending) → (mirageCommand r k s).pending = s.pending) ∧
    ((∀ u, (k u).md = u.md) → (mirageCommand r k s).md = s.md) ∧
    ((∀ u, (k u).btn = u.btn) → (mirageCommand r k s).btn = s.btn) ∧
    ((∀ u, (k u).kiln = u.kiln) → (mirageCommand r k s).kiln = s.kiln) ∧
    ((∀ u, (k u).set = u.set) → (mirageCommand r k s).set = s.set) ∧
    ((∀ u, (k u).crs = u.crs) → (mirageCommand r k s).crs = s.crs) ∧
    ((∀ u, (k u).exch = u.exch) → (mirageCommand r k s).exch = s.exch) ∧
    ((∀ u, (k u).tickets = u.tickets) → (mirageCommand r k s).tickets = s.tickets) ∧
    ((∀ u, (k u).lastTicket = u.lastTicket) → (mirageCommand r k s).lastTicket = s.lastTicket) ∧
    ((∀ u, loopsCore (k u).loops = loopsCore u.loops) → loopsCore (mirageCommand r k s).loops = loopsCore s.loops) ∧
    ((∀ u, (k u).solver = u.solver) → (mirageCommand r k s).solver = s.solver) ∧
    ((∀ u, (k u).pair = u.pair) → (mirageCommand r k s).pair = s.pair) ∧
    ((∀ u, mortarCore (k u).mortar = mortarCore u.mortar) → mortarCore (mirageCommand r k s).mortar = mortarCore s.mortar) ∧
    ((∀ u, (k u).safe = u.safe) → (mirageCommand r k s).safe = s.safe) ∧
    ((∀ u, (k u).field = u.field) → (mirageCommand r k s).field = s.field) ∧
    ((∀ u, (k u).ring = u.ring) → (mirageCommand r k s).ring = s.ring) ∧
    ((∀ u, (k u).can = u.can) → (mirageCommand r k s).can = s.can) ∧
    ((∀ u, timeCore (k u).time = timeCore u.time) → timeCore (mirageCommand r k s).time = timeCore s.time) ∧
    ((∀ u, evCore (k u).ev = evCore u.ev) → evCore (mirageCommand r k s).ev = evCore s.ev) ∧
    ((∀ u, (k u).sec = u.sec) → (mirageCommand r k s).sec = s.sec) ∧
    ((∀ u, (k u).panel = u.panel) → (mirageCommand r k s).panel = s.panel) ∧
    ((∀ u, (k u).panel2 = u.panel2) → (mirageCommand r k s).panel2 = s.panel2) ∧
    ((∀ u, (k u).sup = u.sup) → (mirageCommand r k s).sup = s.sup) ∧
    ((∀ u, (k u).free = u.free) → (mirageCommand r k s).free = s.free) := by
  unfold mirageCommand
  refine ⟨fun hk => hostGate_keeps s r mirageObj loopGate k (fun x => x.pending) (fun k hk => by simp [hk]) (fun _ _ => by simp) hk, fun hk => hostGate_keeps s r mirageObj loopGate k (fun x => x.md) (fun k hk => by simp [hk]) (fun _ _ => by simp) hk, fun hk => hostGate_keeps s r mirageObj loopGate k (fun x => x.btn) (fun k hk => by simp [hk]) (fun _ _ => by simp) hk, fun hk => hostGate_keeps s r mirageObj loopGate k (fun x => x.kiln) (fun k hk => by simp [hk]) (fun _ _ => by simp) hk, fun hk => hostGate_keeps s r mirageObj loopGate k (fun x => x.set) (fun k hk => by simp [hk]) (fun _ _ => by simp) hk, fun hk => hostGate_keeps s r mirageObj loopGate k (fun x => x.crs) (fun k hk => by simp [hk]) (fun _ _ => by simp) hk, fun hk => hostGate_keeps s r mirageObj loopGate k (fun x => x.exch) (fun k hk => by simp [hk]) (fun _ _ => by simp) hk, fun hk => hostGate_keeps s r mirageObj loopGate k (fun x => x.tickets) (fun k hk => by simp [hk]) (fun _ _ => by simp) hk, fun hk => hostGate_keeps s r mirageObj loopGate k (fun x => x.lastTicket) (fun k hk => by simp [hk]) (fun _ _ => by simp) hk, fun hk => hostGate_keeps s r mirageObj loopGate k (fun x => loopsCore x.loops) (fun k hk => by simp [hk]) (fun _ _ => by simp) hk, fun hk => hostGate_keeps s r mirageObj loopGate k (fun x => x.solver) (fun k hk => by simp [hk]) (fun _ _ => by simp) hk, fun hk => hostGate_keeps s r mirageObj loopGate k (fun x => x.pair) (fun k hk => by simp [hk]) (fun _ _ => by simp) hk, fun hk => hostGate_keeps s r mirageObj loopGate k (fun x => mortarCore x.mortar) (fun k hk => by simp [hk]) (fun _ _ => by simp) hk, fun hk => hostGate_keeps s r mirageObj loopGate k (fun x => x.safe) (fun k hk => by simp [hk]) (fun _ _ => by simp) hk, fun hk => hostGate_keeps s r mirageObj loopGate k (fun x => x.field) (fun k hk => by simp [hk]) (fun _ _ => by simp) hk, fun hk => hostGate_keeps s r mirageObj loopGate k (fun x => x.ring) (fun k hk => by simp [hk]) (fun _ _ => by simp) hk, fun hk => hostGate_keeps s r mirageObj loopGate k (fun x => x.can) (fun k hk => by simp [hk]) (fun _ _ => by simp) hk, fun hk => hostGate_keeps s r mirageObj loopGate k (fun x => timeCore x.time) (fun k hk => by simp [hk]) (fun _ _ => by simp) hk, fun hk => hostGate_keeps s r mirageObj loopGate k (fun x => evCore x.ev) (fun k hk => by simp [hk]) (fun _ _ => by simp) hk, fun hk => hostGate_keeps s r mirageObj loopGate k (fun x => x.sec) (fun k hk => by simp [hk]) (fun _ _ => by simp) hk, fun hk => hostGate_keeps s r mirageObj loopGate k (fun x => x.panel) (fun k hk => by simp [hk]) (fun _ _ => by simp) hk, fun hk => hostGate_keeps s r mirageObj loopGate k (fun x => x.panel2) (fun k hk => by simp [hk]) (fun _ _ => by simp) hk, fun hk => hostGate_keeps s r mirageObj loopGate k (fun x => x.sup) (fun k hk => by simp [hk]) (fun _ _ => by simp) hk, fun hk => hostGate_keeps s r mirageObj loopGate k (fun x => x.free) (fun k hk => by simp [hk]) (fun _ _ => by simp) hk⟩

theorem execMiragePlace_keeps (r : Req) (cmd : MirageCmd) (s : State) (t : State) (h : execMiragePlace r cmd s = .next
    t) : But_crs_loops_net_intake s t := by
  unfold execMiragePlace at h
  injection h with h
  subst h
  simp only [But_crs_loops_net_intake, BlkStart, BlkPair, BlkIo]
  have H : ∀ (s : State) (r : Req) (k : State → State), (∀ u, But_crs_loops_net_intake u (k u)) → But_crs_loops_net_intake s (mirageCommand r k s) := (by intros; rename_i hk; simp only [But_crs_loops_net_intake, BlkStart, BlkPair, BlkIo]; simp [hk])
  show But_crs_loops_net_intake _ _
  refine H _ _  _ (fun u => ?_)
  (repeat' split) <;> simp [But_crs_loops_net_intake, BlkStart, BlkPair, BlkIo]

theorem execMirageRelease_keeps (r : Req) (cmd : MirageCmd) (s : State) (t : State) (h : execMirageRelease r cmd s =
    .next t) : But_crs_net_intake s t := by
  unfold execMirageRelease at h
  injection h with h
  subst h
  simp only [But_crs_net_intake, BlkStart, BlkPair, BlkIo]
  have H : ∀ (s : State) (r : Req) (k : State → State), (∀ u, But_crs_net_intake u (k u)) → But_crs_net_intake s (mirageCommand r k s) := (by intros; rename_i hk; simp only [But_crs_net_intake, BlkStart, BlkPair, BlkIo]; simp [hk])
  show But_crs_net_intake _ _
  refine H _ _  _ (fun u => ?_)
  (repeat' split) <;> simp [But_crs_net_intake, BlkStart, BlkPair, BlkIo]

theorem execMirageReleaseAll_keeps (r : Req) (s : State) (t : State) (h : execMirageReleaseAll r s = .next t) :
    But_crs_net_intake s t := by
  unfold execMirageReleaseAll at h
  injection h with h
  subst h
  simp only [But_crs_net_intake, BlkStart, BlkPair, BlkIo]
  simp

@[simp] theorem refuseSession_keeps (s : State) (iface : Nat) (seq : W32) (cause status : Nat) : But_net_intake s
    (refuseSession s iface seq cause status) := by
  simp only [But_net_intake, BlkStart, BlkProg, BlkPair, BlkIo]
  unfold refuseSession
  dsimp only
  (repeat' split) <;> simp

theorem execSessionOpen_keeps (iface : Nat) (role : Bool) (minGen maxGen : Nat) (authority : Option Nat) (seq : W32)
    (at_ : Nat) (s : State) (t : State) (h : execSessionOpen iface role minGen maxGen authority seq at_ s = .next t) :
    But_net_intake s t := by
  unfold execSessionOpen at h
  injection h with h
  subst h
  simp only [But_net_intake, BlkStart, BlkProg, BlkPair, BlkIo]
  (repeat' split) <;> simp

theorem execSessionClose_keeps (r : Req) (s : State) (t : State) (h : execSessionClose r s = .next t) :
    But_kiln_tickets_pair_net_intake s t := by
  unfold execSessionClose at h
  injection h with h
  subst h
  simp only [But_kiln_tickets_pair_net_intake, BlkIo]
  simp

theorem execSessionIdleTimeout_keeps (session : Nat) (s : State) (t : State) (h : execSessionIdleTimeout session s =
    .next t) : But_kiln_tickets_pair_net_intake s t := by
  unfold execSessionIdleTimeout at h
  injection h with h
  subst h
  simp only [But_kiln_tickets_pair_net_intake, BlkIo]
  simp

@[simp] theorem hostOperation_keeps (s : State) (r : Req) (gen : Nat) (obj : W32) (k : State → State) :
    ((∀ u, (k u).pending = u.pending) → (hostOperation s r gen obj k).pending = s.pending) ∧
    ((∀ u, (k u).md = u.md) → (hostOperation s r gen obj k).md = s.md) ∧
    ((∀ u, (k u).btn = u.btn) → (hostOperation s r gen obj k).btn = s.btn) ∧
    ((∀ u, (k u).kiln = u.kiln) → (hostOperation s r gen obj k).kiln = s.kiln) ∧
    ((∀ u, (k u).set = u.set) → (hostOperation s r gen obj k).set = s.set) ∧
    ((∀ u, (k u).crs = u.crs) → (hostOperation s r gen obj k).crs = s.crs) ∧
    ((∀ u, (k u).exch = u.exch) → (hostOperation s r gen obj k).exch = s.exch) ∧
    ((∀ u, (k u).tickets = u.tickets) → (hostOperation s r gen obj k).tickets = s.tickets) ∧
    ((∀ u, (k u).lastTicket = u.lastTicket) → (hostOperation s r gen obj k).lastTicket = s.lastTicket) ∧
    ((∀ u, loopsCore (k u).loops = loopsCore u.loops) → loopsCore (hostOperation s r gen obj k).loops = loopsCore s.loops) ∧
    ((∀ u, (k u).solver = u.solver) → (hostOperation s r gen obj k).solver = s.solver) ∧
    ((∀ u, (k u).pair = u.pair) → (hostOperation s r gen obj k).pair = s.pair) ∧
    ((∀ u, mortarCore (k u).mortar = mortarCore u.mortar) → mortarCore (hostOperation s r gen obj k).mortar = mortarCore s.mortar) ∧
    ((∀ u, (k u).safe = u.safe) → (hostOperation s r gen obj k).safe = s.safe) ∧
    ((∀ u, (k u).field = u.field) → (hostOperation s r gen obj k).field = s.field) ∧
    ((∀ u, (k u).ring = u.ring) → (hostOperation s r gen obj k).ring = s.ring) ∧
    ((∀ u, (k u).can = u.can) → (hostOperation s r gen obj k).can = s.can) ∧
    ((∀ u, timeCore (k u).time = timeCore u.time) → timeCore (hostOperation s r gen obj k).time = timeCore s.time) ∧
    ((∀ u, evCore (k u).ev = evCore u.ev) → evCore (hostOperation s r gen obj k).ev = evCore s.ev) ∧
    ((∀ u, (k u).ev.intake = u.ev.intake) → (hostOperation s r gen obj k).ev.intake = s.ev.intake) ∧
    ((∀ u, (k u).sec = u.sec) → (hostOperation s r gen obj k).sec = s.sec) ∧
    ((∀ u, (k u).panel = u.panel) → (hostOperation s r gen obj k).panel = s.panel) ∧
    ((∀ u, (k u).panel2 = u.panel2) → (hostOperation s r gen obj k).panel2 = s.panel2) ∧
    ((∀ u, (k u).sup = u.sup) → (hostOperation s r gen obj k).sup = s.sup) ∧
    ((∀ u, (k u).free = u.free) → (hostOperation s r gen obj k).free = s.free) := by
  unfold hostOperation
  (repeat' refine And.intro ?_ ?_) <;> intro hk <;> simp [hk]

theorem execStreamEvents_keeps (r : Req) (op : Nat) (mask : Byte) (fromSeq : W32) (s : State) (t : State) (h :
    execStreamEvents r op mask fromSeq s = .next t) : But_net s t := by
  unfold execStreamEvents at h
  injection h with h
  subst h
  simp only [But_net, BlkStart, BlkProg, BlkPair, BlkIo]
  simp

@[simp] theorem streamBoundary_keeps (s : State) (i : Nat) : But_net s (streamBoundary s i) := by
  simp only [But_net, BlkStart, BlkProg, BlkPair, BlkIo]
  unfold streamBoundary
  dsimp only
  (repeat' split) <;> simp

theorem execSubscribe_keeps (r : Req) (object : W32) (action minTicks : Nat) (s : State) (t : State) (h :
    execSubscribe r object action minTicks s = .next t) : But_net s t := by
  unfold execSubscribe at h
  injection h with h
  subst h
  simp only [But_net, BlkStart, BlkProg, BlkPair, BlkIo]
  have H : ∀ (s : State) (r : Req) (g : Nat) (o : W32) (k : State → State), (∀ u, But_net u (k u)) → But_net s (hostOperation s r g o k) := (by intros; rename_i hk; simp only [But_net, BlkStart, BlkProg, BlkPair, BlkIo]; simp [hk])
  show But_net _ _
  refine H _ _ _ _  _ (fun u => ?_)
  (repeat' split) <;> simp [But_net, BlkStart, BlkProg, BlkPair, BlkIo]

@[simp] theorem subsBoundary_keeps (s : State) (i : Nat) : But_net s (subsBoundary s i) := by
  simp only [But_net, BlkStart, BlkProg, BlkPair, BlkIo]
  unfold subsBoundary
  (try dsimp only)
  show But_net _ _
  refine foldl_inv (P := But_net _) _ _ _ (by simp [But_net, BlkStart, BlkProg, BlkPair, BlkIo]) (fun u b hu => ?_)
  (repeat' split) <;> simp [But_net, BlkStart, BlkProg, BlkPair, BlkIo, hu]

@[simp] theorem sessionsBoundary_keeps (s : State) : But_net s (sessionsBoundary s) := by
  simp only [But_net, BlkStart, BlkProg, BlkPair, BlkIo]
  simp [sessionsBoundary]

theorem batchOne_keeps (r : Req) (acc : State × Nat) (e : BatchEntry) : But_set_crs_loops_net_intake acc.1 (batchOne r acc e).1 := by
  simp only [But_set_crs_loops_net_intake, BlkPair, BlkIo]
  unfold batchOne
  obtain ⟨s, n⟩ := acc
  try dsimp only
  cases batchItem e <;> simp
theorem batchAll_keeps (r : Req) (l : List BatchEntry) (acc : State × Nat) :
    But_set_crs_loops_net_intake acc.1 (l.foldl (batchOne r) acc).1 := by
  induction l generalizing acc with
  | nil => simp [BlkPair, BlkIo, But_set_crs_loops_net_intake]
  | cons b l ih => rw [List.foldl_cons]; have h1 := ih (batchOne r acc b); have h2 := batchOne_keeps r acc b; simp only [But_set_crs_loops_net_intake, BlkPair, BlkIo] at h1 h2 ⊢; simp only [h2] at h1; exact h1
theorem execBatchWrite_keeps (r : Req) (entries : List BatchEntry) (s : State) (t : State) (h : execBatchWrite r entries s = .next t) : But_set_crs_loops_net_intake s t := by
  unfold execBatchWrite at h
  injection h with h
  subst h
  have H : ∀ (s : State) (r : Req) (k : State → State), (∀ u, But_set_crs_loops_net_intake u (k u)) → But_set_crs_loops_net_intake s (withSession s r k) := by intro s r k hk; simp only [But_set_crs_loops_net_intake, BlkPair, BlkIo]; simp [hk]
  refine H _ _ _ (fun u => ?_)
  have k := batchAll_keeps r entries (u, 0)
  generalize List.foldl (batchOne r) _ _ = q at k ⊢
  obtain ⟨s1, n⟩ := q
  try dsimp only at k ⊢
  (repeat' split) <;> simp [But_set_crs_loops_net_intake, BlkPair, BlkIo, k]

theorem refuseWrite_keeps (r : Req) (obj : W32) (code : Nat) (s : State) (t : State) (h : refuseWrite r obj code s =
    .next t) : But_net_intake s t := by
  unfold refuseWrite at h
  injection h with h
  subst h
  simp only [But_net_intake, BlkStart, BlkProg, BlkPair, BlkIo]
  simp

theorem writeMode_keeps (r : Req) (code : Nat) (s : State) (t : State) (h : writeMode r code s = .next t) :
    But_md_crs_loops_net_ev_intake s t := by
  unfold writeMode at h
  simp only [But_md_crs_loops_net_ev_intake, BlkStart, BlkPair, BlkIo]
  try unfold code16 at h
  try unfold sized at h
  (repeat' split at h) <;> first
    | (with_reducible have k := execArmBreakpoints_keeps (h := h)
       simp only [But_crs_net_intake, BlkStart, BlkPair, BlkIo] at k
       simp [k])
    | (with_reducible have k := execDisarmBreakpoints_keeps (h := h)
       simp only [But_crs_net_intake, BlkStart, BlkPair, BlkIo] at k
       simp [k])
    | (with_reducible have k := execInjectionOff_keeps (h := h)
       simp only [But_md_loops_net_intake, BlkStart, BlkProg, BlkPair, BlkIo] at k
       simp [k])
    | (with_reducible have k := execInjectionOn_keeps (h := h)
       simp only [But_md_net_intake, BlkStart, BlkProg, BlkPair, BlkIo] at k
       simp [k])
    | (with_reducible have k := execModeAcknowledge_keeps (h := h)
       simp only [But_md_net_intake, BlkStart, BlkProg, BlkPair, BlkIo] at k
       simp [k])
    | (with_reducible have k := execModeContinue_keeps (h := h)
       simp only [But_md_net_intake, BlkStart, BlkProg, BlkPair, BlkIo] at k
       simp [k])
    | (with_reducible have k := execModeReset_keeps (h := h)
       simp only [But_md_net_intake, BlkStart, BlkProg, BlkPair, BlkIo] at k
       simp [k])
    | (with_reducible have k := execModeRoleSwap_keeps (h := h)
       simp only [But_md_net_intake, BlkStart, BlkProg, BlkPair, BlkIo] at k
       simp [k])
    | (with_reducible have k := execModeStart_keeps (h := h)
       simp only [But_md_net_intake, BlkStart, BlkProg, BlkPair, BlkIo] at k
       simp [k])
    | (with_reducible have k := execModeStop_keeps (h := h)
       simp only [But_md_net_intake, BlkStart, BlkProg, BlkPair, BlkIo] at k
       simp [k])
    | (with_reducible have k := execPrepareReturn_keeps (h := h)
       simp only [But_net_ev_intake, BlkStart, BlkProg, BlkPair, BlkIo] at k
       simp [k])
    | (injection h with h; subst h; simp)

theorem writeMirage_keeps (r : Req) (d : Bytes) (s : State) (t : State) (h : writeMirage r d s = .next t) :
    But_crs_loops_net_intake s t := by
  unfold writeMirage at h
  simp only [But_crs_loops_net_intake, BlkStart, BlkPair, BlkIo]
  try unfold code16 at h
  try unfold sized at h
  (try dsimp only at h)
  (repeat' split at h) <;> first
    | (with_reducible have k := execMiragePlace_keeps (h := h)
       simp only [But_crs_loops_net_intake, BlkStart, BlkPair, BlkIo] at k
       simp [k])
    | (with_reducible have k := execMirageRelease_keeps (h := h)
       simp only [But_crs_net_intake, BlkStart, BlkPair, BlkIo] at k
       simp [k])
    | (with_reducible have k := execMirageReleaseAll_keeps (h := h)
       simp only [But_crs_net_intake, BlkStart, BlkPair, BlkIo] at k
       simp [k])
    | (with_reducible have k := refuseWrite_keeps (h := h)
       simp only [But_net_intake, BlkStart, BlkProg, BlkPair, BlkIo] at k
       simp [k])

theorem writeExchange_keeps (r : Req) (code : Nat) (s : State) (t : State) (h : writeExchange r code s = .next t) :
    But_md_exch_loops_net_intake s t := by
  unfold writeExchange at h
  simp only [But_md_exch_loops_net_intake, BlkStart, BlkPair, BlkIo]
  try unfold code16 at h
  try unfold sized at h
  (repeat' split at h) <;> first
    | (with_reducible have k := execExchangeActivate_keeps (h := h)
       simp only [But_md_exch_net_intake, BlkStart, BlkPair, BlkIo] at k
       simp [k])
    | (with_reducible have k := execExchangeStage_keeps (h := h)
       simp only [But_exch_loops_net_intake, BlkStart, BlkPair, BlkIo] at k
       simp [k])
    | (with_reducible have k := execExchangeUnstage_keeps (h := h)
       simp only [But_exch_loops_net_intake, BlkStart, BlkPair, BlkIo] at k
       simp [k])
    | (injection h with h; subst h; simp)

theorem writeLoopMode_keeps (r : Req) (c code : Nat) (s : State) (t : State) (h : writeLoopMode r c code s = .next t)
    : But_loops_net_intake s t := by
  unfold writeLoopMode at h
  simp only [But_loops_net_intake, BlkStart, BlkProg, BlkPair, BlkIo]
  try unfold code16 at h
  try unfold sized at h
  (repeat' split at h) <;> first
    | (with_reducible have k := execLoopModeAuto_keeps (h := h)
       simp only [But_loops_net_intake, BlkStart, BlkProg, BlkPair, BlkIo] at k
       simp [k])
    | (with_reducible have k := execLoopModeCascade_keeps (h := h)
       simp only [But_loops_net_intake, BlkStart, BlkProg, BlkPair, BlkIo] at k
       simp [k])
    | (with_reducible have k := execLoopModeExternal_keeps (h := h)
       simp only [But_loops_net_intake, BlkStart, BlkProg, BlkPair, BlkIo] at k
       simp [k])
    | (with_reducible have k := execLoopModeHold_keeps (h := h)
       simp only [But_loops_net_intake, BlkStart, BlkProg, BlkPair, BlkIo] at k
       simp [k])
    | (with_reducible have k := execLoopModeManual_keeps (h := h)
       simp only [But_loops_net_intake, BlkStart, BlkProg, BlkPair, BlkIo] at k
       simp [k])
    | (with_reducible have k := refuseWrite_keeps (h := h)
       simp only [But_net_intake, BlkStart, BlkProg, BlkPair, BlkIo] at k
       simp [k])

theorem writeInjection_keeps (r : Req) (c : Nat) (d : Bytes) (s : State) (t : State) (h : writeInjection r c d s =
    .next t) : But_loops_net_intake s t := by
  unfold writeInjection at h
  simp only [But_loops_net_intake, BlkStart, BlkProg, BlkPair, BlkIo]
  try unfold code16 at h
  try unfold sized at h
  (try dsimp only at h)
  (repeat' split at h) <;> first
    | (with_reducible have k := execInjectionStart_keeps (h := h)
       simp only [But_loops_net_intake, BlkStart, BlkProg, BlkPair, BlkIo] at k
       simp [k])
    | (with_reducible have k := execInjectionStop_keeps (h := h)
       simp only [But_loops_net_intake, BlkStart, BlkProg, BlkPair, BlkIo] at k
       simp [k])
    | (with_reducible have k := refuseWrite_keeps (h := h)
       simp only [But_net_intake, BlkStart, BlkProg, BlkPair, BlkIo] at k
       simp [k])

theorem writePort_keeps (r : Req) (p code : Nat) (s : State) (t : State) (h : writePort r p code s = .next t) :
    But_can_net_intake s t := by
  unfold writePort at h
  simp only [But_can_net_intake, BlkStart, BlkProg, BlkPair]
  try unfold code16 at h
  try unfold sized at h
  (repeat' split at h) <;> first
    | (with_reducible have k := execCanRecover_keeps (h := h)
       simp only [But_can_net_intake, BlkStart, BlkProg, BlkPair] at k
       simp [k])
    | (with_reducible have k := execFlushAll_keeps (h := h)
       simp only [But_can_net_intake, BlkStart, BlkProg, BlkPair] at k
       simp [k])
    | (with_reducible have k := execFlushFifo_keeps (h := h)
       simp only [But_can_net_intake, BlkStart, BlkProg, BlkPair] at k
       simp [k])
    | (with_reducible have k := execFlushLaunch_keeps (h := h)
       simp only [But_can_net_intake, BlkStart, BlkProg, BlkPair] at k
       simp [k])
    | (injection h with h; subst h; simp)

theorem writeTime_keeps (r : Req) (d : Bytes) (s : State) (t : State) (h : writeTime r d s = .next t) :
    But_time_net_intake s t := by
  unfold writeTime at h
  simp only [But_time_net_intake, BlkStart, BlkProg, BlkPair, BlkIo]
  try unfold code16 at h
  try unfold sized at h
  (try dsimp only at h)
  (repeat' split at h) <;> first
    | (with_reducible have k := execHaltSlew_keeps (h := h)
       simp only [But_time_net_intake, BlkStart, BlkProg, BlkPair, BlkIo] at k
       simp [k])
    | (with_reducible have k := execTimeReject_keeps (h := h)
       simp only [But_time_net_intake, BlkStart, BlkProg, BlkPair, BlkIo] at k
       simp [k])
    | (with_reducible have k := execTimeSlew_keeps (h := h)
       simp only [But_time_net_intake, BlkStart, BlkProg, BlkPair, BlkIo] at k
       simp [k])
    | (with_reducible have k := execTimeStep_keeps (h := h)
       simp only [But_time_net_intake, BlkStart, BlkProg, BlkPair, BlkIo] at k
       simp [k])
    | (with_reducible have k := refuseWrite_keeps (h := h)
       simp only [But_net_intake, BlkStart, BlkProg, BlkPair, BlkIo] at k
       simp [k])
    | (injection h with h; subst h; simp)

theorem writeCapture_keeps (r : Req) (code : Nat) (s : State) (t : State) (h : writeCapture r code s = .next t) :
    But_loops_net_intake s t := by
  unfold writeCapture at h
  simp only [But_loops_net_intake, BlkStart, BlkProg, BlkPair, BlkIo]
  try unfold code16 at h
  try unfold sized at h
  (repeat' split at h) <;> first
    | (with_reducible have k := execCaptureAbort_keeps (h := h)
       simp only [But_loops_net_intake, BlkStart, BlkProg, BlkPair, BlkIo] at k
       simp [k])
    | (with_reducible have k := execCaptureArm_keeps (h := h)
       simp only [But_loops_net_intake, BlkStart, BlkProg, BlkPair, BlkIo] at k
       simp [k])
    | (with_reducible have k := execCaptureForceTrigger_keeps (h := h)
       simp only [But_loops_net_intake, BlkStart, BlkProg, BlkPair, BlkIo] at k
       simp [k])
    | (with_reducible have k := refuseWrite_keeps (h := h)
       simp only [But_net_intake, BlkStart, BlkProg, BlkPair, BlkIo] at k
       simp [k])

theorem writeRegion_keeps (r : Req) (d : Bytes) (s : State) (t : State) (h : writeRegion r d s = .next t) :
    But_tickets_lastTicket_net_intake s t := by
  unfold writeRegion at h
  simp only [But_tickets_lastTicket_net_intake, BlkStart, BlkPair, BlkIo]
  try unfold code16 at h
  try unfold sized at h
  (repeat' split at h) <;> first
    | (with_reducible have k := execRegionUpdateRequest_keeps (h := h)
       simp only [But_tickets_lastTicket_net_intake, BlkStart, BlkPair, BlkIo] at k
       simp [k])
    | (with_reducible have k := refuseWrite_keeps (h := h)
       simp only [But_net_intake, BlkStart, BlkProg, BlkPair, BlkIo] at k
       simp [k])

theorem writeLow_keeps (r : Req) (obj : W32) (d : Bytes) (s : State) (t : State) (h : writeLow r obj d s = .next t) :
    But_md_crs_exch_loops_net_ev_intake_sec s t := by
  unfold writeLow at h
  simp only [But_md_crs_exch_loops_net_ev_intake_sec, BlkPair, BlkIo]
  try unfold code16 at h
  try unfold sized at h
  (try dsimp only at h)
  (repeat' split at h) <;> first
    | (with_reducible have k := execApply_keeps (h := h)
       simp only [But_loops_net_intake, BlkStart, BlkProg, BlkPair, BlkIo] at k
       simp [k])
    | (with_reducible have k := execBreakpointWrite_keeps (h := h)
       simp only [But_crs_net_intake, BlkStart, BlkPair, BlkIo] at k
       simp [k])
    | (with_reducible have k := execCourseCounterClear_keeps (h := h)
       simp only [But_crs_net_intake, BlkStart, BlkPair, BlkIo] at k
       simp [k])
    | (with_reducible have k := execManualValueWrite_keeps (h := h)
       simp only [But_loops_net_intake, BlkStart, BlkProg, BlkPair, BlkIo] at k
       simp [k])
    | (with_reducible have k := execSignerEnrol_keeps (h := h)
       simp only [But_net_intake_sec, BlkProg, BlkPair, BlkIo] at k
       simp [k])
    | (with_reducible have k := writeExchange_keeps (h := h)
       simp only [But_md_exch_loops_net_intake, BlkStart, BlkPair, BlkIo] at k
       simp [k])
    | (with_reducible have k := writeInjection_keeps (h := h)
       simp only [But_loops_net_intake, BlkStart, BlkProg, BlkPair, BlkIo] at k
       simp [k])
    | (with_reducible have k := writeLoopMode_keeps (h := h)
       simp only [But_loops_net_intake, BlkStart, BlkProg, BlkPair, BlkIo] at k
       simp [k])
    | (with_reducible have k := writeMirage_keeps (h := h)
       simp only [But_crs_loops_net_intake, BlkStart, BlkPair, BlkIo] at k
       simp [k])
    | (with_reducible have k := writeMode_keeps (h := h)
       simp only [But_md_crs_loops_net_ev_intake, BlkStart, BlkPair, BlkIo] at k
       simp [k])
    | (injection h with h; subst h; simp)

theorem writeHigh_keeps (r : Req) (obj : W32) (d : Bytes) (s : State) (t : State) (h : writeHigh r obj d s = .next t)
    : But_kiln_set_crs_tickets_lastTicket_loops_solver_pair_field_can_time_net_intake_sec_panel s t := by
  unfold writeHigh at h
  simp only [But_kiln_set_crs_tickets_lastTicket_loops_solver_pair_field_can_time_net_intake_sec_panel]
  try unfold code16 at h
  try unfold sized at h
  (try dsimp only at h)
  (repeat' split at h) <;> first
    | (with_reducible have k := execAttestationNonce_keeps (h := h)
       simp only [But_kiln_net_intake, BlkProg, BlkPair, BlkIo] at k
       simp [k])
    | (with_reducible have k := execAuthorityEnrol_keeps (h := h)
       simp only [But_net_intake_sec, BlkProg, BlkPair, BlkIo] at k
       simp [k])
    | (with_reducible have k := execCaptureConfigure_keeps (h := h)
       simp only [But_loops_net_intake, BlkStart, BlkProg, BlkPair, BlkIo] at k
       simp [k])
    | (with_reducible have k := execChannelClear_keeps (h := h)
       simp only [But_field_net_intake, BlkStart, BlkProg, BlkPair] at k
       simp [k])
    | (with_reducible have k := execLampTest_keeps (h := h)
       simp only [But_net_intake_panel, BlkStart, BlkProg, BlkPair] at k
       simp [k])
    | (with_reducible have k := execRegionCancel_keeps (h := h)
       simp only [But_kiln_tickets_loops_solver_pair_net_intake, BlkIo] at k
       simp [k])
    | (with_reducible have k := execRegionDataWrite_keeps (h := h)
       simp only [But_tickets_net_intake, BlkStart, BlkPair, BlkIo] at k
       simp [k])
    | (with_reducible have k := execSettingWrite_keeps (h := h)
       simp only [But_set_crs_loops_net_intake, BlkPair, BlkIo] at k
       simp [k])
    | (with_reducible have k := execSettingsComplete_keeps (h := h)
       simp only [But_set_net_intake, BlkProg, BlkPair, BlkIo] at k
       simp [k])
    | (with_reducible have k := execTrimCurrentWrite_keeps (h := h)
       simp only [But_field_net_intake, BlkStart, BlkProg, BlkPair] at k
       simp [k])
    | (with_reducible have k := execTrimModeWrite_keeps (h := h)
       simp only [But_field_net_intake, BlkStart, BlkProg, BlkPair] at k
       simp [k])
    | (with_reducible have k := refuseWrite_keeps (h := h)
       simp only [But_net_intake, BlkStart, BlkProg, BlkPair, BlkIo] at k
       simp [k])
    | (with_reducible have k := writeCapture_keeps (h := h)
       simp only [But_loops_net_intake, BlkStart, BlkProg, BlkPair, BlkIo] at k
       simp [k])
    | (with_reducible have k := writePort_keeps (h := h)
       simp only [But_can_net_intake, BlkStart, BlkProg, BlkPair] at k
       simp [k])
    | (with_reducible have k := writeRegion_keeps (h := h)
       simp only [But_tickets_lastTicket_net_intake, BlkStart, BlkPair, BlkIo] at k
       simp [k])
    | (with_reducible have k := writeTime_keeps (h := h)
       simp only [But_time_net_intake, BlkStart, BlkProg, BlkPair, BlkIo] at k
       simp [k])

theorem execObjectWrite_keeps (r : Req) (object : W32) (data : Bytes) (s : State) (t : State) (h : execObjectWrite r
    object data s = .next t) :
    But_md_kiln_set_crs_exch_tickets_lastTicket_loops_solver_pair_field_can_time_net_ev_intake_sec_panel s t := by
  unfold execObjectWrite at h
  simp only [But_md_kiln_set_crs_exch_tickets_lastTicket_loops_solver_pair_field_can_time_net_ev_intake_sec_panel]
  try unfold code16 at h
  try unfold sized at h
  (repeat' split at h) <;> first
    | (with_reducible have k := refuseWrite_keeps (h := h)
       simp only [But_net_intake, BlkStart, BlkProg, BlkPair, BlkIo] at k
       simp [k])
    | (with_reducible have k := writeHigh_keeps (h := h)
       simp only [But_kiln_set_crs_tickets_lastTicket_loops_solver_pair_field_can_time_net_intake_sec_panel] at k
       simp [k])
    | (with_reducible have k := writeLow_keeps (h := h)
       simp only [But_md_crs_exch_loops_net_ev_intake_sec, BlkPair, BlkIo] at k
       simp [k])

theorem execLogicFeedLow_keeps (feed : Nat) (volts : F64) (at_ : Nat) (s : State) (t : State) (h : execLogicFeedLow
    feed volts at_ s = .next t) : But_intake_sup s t := by
  unfold execLogicFeedLow at h
  injection h with h
  subst h
  simp only [But_intake_sup, BlkProg, BlkPair, BlkIo]
  simp

theorem execLogicFeedRestored_keeps (feed : Nat) (at_ : Nat) (s : State) (t : State) (h : execLogicFeedRestored feed
    at_ s = .next t) : But_intake_sup s t := by
  unfold execLogicFeedRestored at h
  injection h with h
  subst h
  simp only [But_intake_sup, BlkProg, BlkPair, BlkIo]
  simp

theorem execSupplyMonitorFault_keeps (at_ : Nat) (s : State) (t : State) (h : execSupplyMonitorFault at_ s = .next t)
    :
    But_md_btn_kiln_set_crs_exch_tickets_lastTicket_loops_solver_pair_mortar_safe_field_ring_can_time_net_ev_intake_sec_panel_panel2_sup_free
    s t := by
  unfold execSupplyMonitorFault at h
  injection h with h
  subst h
  simp only [But_md_btn_kiln_set_crs_exch_tickets_lastTicket_loops_solver_pair_mortar_safe_field_ring_can_time_net_ev_intake_sec_panel_panel2_sup_free]
  simp

theorem execInternalRailsOff_keeps (s : State) (t : State) (h : execInternalRailsOff s = .next t) :
    But_md_btn_kiln_set_crs_exch_tickets_lastTicket_loops_solver_pair_mortar_safe_field_ring_can_time_net_ev_intake_sec_panel_panel2_sup
    s t := by
  unfold execInternalRailsOff at h
  injection h with h
  subst h
  simp only [But_md_btn_kiln_set_crs_exch_tickets_lastTicket_loops_solver_pair_mortar_safe_field_ring_can_time_net_ev_intake_sec_panel_panel2_sup]
  (repeat' split) <;> simp

theorem execClockMonitorFault_keeps (domain : Nat) (at_ : Nat) (s : State) (t : State) (h : execClockMonitorFault
    domain at_ s = .next t) :
    But_md_kiln_set_crs_exch_tickets_loops_solver_pair_safe_field_ring_can_net_intake_panel_panel2_free s t := by
  unfold execClockMonitorFault at h
  injection h with h
  subst h
  simp only [But_md_kiln_set_crs_exch_tickets_loops_solver_pair_safe_field_ring_can_net_intake_panel_panel2_free]
  simp

theorem execLockstepMismatch_keeps (pair : Nat) (at_ : Nat) (s : State) (t : State) (h : execLockstepMismatch pair at_
    s = .next t) : But_md_kiln_set_crs_exch_tickets_loops_solver_pair_safe_field_ring_can_net_intake_panel_panel2_free
    s t := by
  unfold execLockstepMismatch at h
  injection h with h
  subst h
  simp only [But_md_kiln_set_crs_exch_tickets_loops_solver_pair_safe_field_ring_can_net_intake_panel_panel2_free]
  simp

theorem execDieTemperatureWarning_keeps (celsius : Int) (at_ : Nat) (s : State) (t : State) (h :
    execDieTemperatureWarning celsius at_ s = .next t) : But_intake_sup s t := by
  unfold execDieTemperatureWarning at h
  injection h with h
  subst h
  simp only [But_intake_sup, BlkProg, BlkPair, BlkIo]
  simp

@[simp] theorem advance_keeps (s : State) : But_time s (advance s) := by
  simp only [But_time, BlkStart, BlkProg, BlkPair, BlkIo]
  simp [advance]

@[simp] theorem lampTick_keeps (s : State) : But_md s (lampTick s) := by
  simp only [But_md, BlkStart, BlkProg, BlkPair, BlkIo]
  simp [lampTick]

@[simp] theorem latchToken_keeps (s : State) (l : Latch) :
    But_md_kiln_set_crs_exch_tickets_loops_solver_pair_safe_field_ring_can_net_intake_panel_panel2_free s (latchToken
    s l) := by
  simp only [But_md_kiln_set_crs_exch_tickets_loops_solver_pair_safe_field_ring_can_net_intake_panel_panel2_free]
  simp [latchToken]

@[simp] theorem latchAll_keeps (s : State) (l : Latch) :
    But_md_btn_kiln_set_crs_exch_tickets_loops_solver_pair_safe_field_ring_can_net_intake_panel_panel2_free s
    (latchAll s l) := by
  simp only [But_md_btn_kiln_set_crs_exch_tickets_loops_solver_pair_safe_field_ring_can_net_intake_panel_panel2_free]
  simp [latchAll]

@[simp] theorem cmdEnds_keeps (s : State) (o : Option Origin) : But_md s (cmdEnds s o) := by
  simp only [But_md, BlkStart, BlkProg, BlkPair, BlkIo]
  simp [cmdEnds]

@[simp] theorem takeTrans_keeps (s : State) (t : Trans) :
    But_md_kiln_crs_exch_loops_solver_pair_safe_field_can_net_ev_intake_panel_panel2_free s (takeTrans s t) := by
  simp only [But_md_kiln_crs_exch_loops_solver_pair_safe_field_can_net_ev_intake_panel_panel2_free]
  simp [takeTrans]

@[simp] theorem takeTransitions_keeps (s : State) :
    But_md_kiln_crs_exch_loops_solver_pair_safe_field_can_net_ev_intake_panel_panel2_free s (takeTransitions s) := by
  simp only [But_md_kiln_crs_exch_loops_solver_pair_safe_field_can_net_ev_intake_panel_panel2_free]
  simp [takeTransitions]

@[simp] theorem resetDrop_keeps (s : State) : But_md_net s (resetDrop s) := by
  simp only [But_md_net, BlkStart, BlkProg, BlkPair, BlkIo]
  simp [resetDrop]

@[simp] theorem resetBoundary_keeps (s : State) :
    But_md_btn_kiln_set_crs_exch_tickets_lastTicket_loops_solver_pair_mortar_safe_field_ring_can_time_net_ev_intake_sec_panel_panel2_sup
    s (resetBoundary s) := by
  simp only [But_md_btn_kiln_set_crs_exch_tickets_lastTicket_loops_solver_pair_mortar_safe_field_ring_can_time_net_ev_intake_sec_panel_panel2_sup]
  unfold resetBoundary
  (repeat' split) <;> simp

@[simp] theorem startClock_keeps (s : State) :
    But_md_set_crs_exch_tickets_loops_solver_pair_mortar_safe_field_can_time_net_ev_sec_panel_panel2 s (startClock s)
    := by
  simp only [But_md_set_crs_exch_tickets_loops_solver_pair_mortar_safe_field_can_time_net_ev_sec_panel_panel2]
  simp [startClock]

@[simp] theorem restartVelocity_keeps (s : State) : But_loops_ring s (restartVelocity s) := by
  simp only [But_loops_ring, BlkStart, BlkProg, BlkPair]
  simp [restartVelocity]

@[simp] theorem leaveLoad_keeps (s : State) :
    But_md_kiln_set_crs_exch_tickets_loops_solver_pair_mortar_safe_field_ring_can_time_net_ev_intake_sec_panel_panel2_free
    s (leaveLoad s) := by
  simp only [But_md_kiln_set_crs_exch_tickets_loops_solver_pair_mortar_safe_field_ring_can_time_net_ev_intake_sec_panel_panel2_free]
  unfold leaveLoad
  (repeat' split) <;> simp

@[simp] theorem coursesBoundary_keeps (s : State) : But_crs s (coursesBoundary s) := by
  simp only [But_crs, BlkStart, BlkPair, BlkIo, BlkRest]
  simp [coursesBoundary]

@[simp] theorem trimBoundary_keeps (s : State) : But_field s (trimBoundary s) := by
  simp only [But_field, BlkStart, BlkProg, BlkPair, BlkRest]
  simp [trimBoundary]

@[simp] theorem regionsBoundary_keeps (s : State) : But_crs_tickets_pair_net_intake s (regionsBoundary s) := by
  simp only [But_crs_tickets_pair_net_intake, BlkStart, BlkIo]
  simp [regionsBoundary]

@[simp] theorem tablesBoundary_keeps (s : State) : But_exch_tickets_loops_pair_net_intake s (tablesBoundary s) := by
  simp only [But_exch_tickets_loops_pair_net_intake, BlkStart, BlkIo]
  simp [tablesBoundary]

@[simp] theorem miragesBoundary_keeps (s : State) : But_crs s (miragesBoundary s) := by
  simp only [But_crs, BlkStart, BlkPair, BlkIo, BlkRest]
  simp [miragesBoundary]

@[simp] theorem compareOne_keeps (l : Latch) (f : TickMortar) (s : State) (o : Nat × IoEntry) :
    But_pair_mortar_field_intake s (compareOne l f s o) := by
  simp only [But_pair_mortar_field_intake, BlkStart, BlkProg]
  unfold compareOne
  dsimp only
  (repeat' split) <;> simp

@[simp] theorem compareNone_keeps (s : State) : But_mortar s (compareNone s) := by
  simp only [But_mortar, BlkStart, BlkProg, BlkIo, BlkRest]
  simp [compareNone]

@[simp] theorem compareOutputs_keeps (s : State) (l : Latch) : But_pair_mortar_field_intake s (compareOutputs s l) :=
    by
  simp only [But_pair_mortar_field_intake, BlkStart, BlkProg]
  unfold compareOutputs
  (repeat' split) <;> simp

@[simp] theorem objectsBoundary_keeps (s : State) : But_net s (objectsBoundary s) := by
  simp only [But_net, BlkStart, BlkProg, BlkPair, BlkIo]
  simp [objectsBoundary]

@[simp] theorem boundary_keeps (s : State) (l : Latch) :
    But_md_btn_kiln_set_crs_exch_tickets_lastTicket_loops_solver_pair_mortar_safe_field_ring_can_time_net_ev_intake_sec_panel_panel2_sup_free
    s (boundary s l) := by
  simp only [But_md_btn_kiln_set_crs_exch_tickets_lastTicket_loops_solver_pair_mortar_safe_field_ring_can_time_net_ev_intake_sec_panel_panel2_sup_free]
  simp [boundary]

@[simp] theorem coreTick_keeps (s : State) (l : Latch) :
    But_md_btn_kiln_set_crs_exch_tickets_lastTicket_loops_solver_pair_mortar_safe_field_ring_can_time_net_ev_intake_sec_panel_panel2_sup_free
    s (coreTick s l) := by
  simp only [But_md_btn_kiln_set_crs_exch_tickets_lastTicket_loops_solver_pair_mortar_safe_field_ring_can_time_net_ev_intake_sec_panel_panel2_sup_free]
  simp [coreTick]

theorem execTickBoundary_keeps (latch : Latch) (s : State) (t : State) (h : execTickBoundary latch s = .next t) :
    But_md_btn_kiln_set_crs_exch_tickets_lastTicket_loops_solver_pair_mortar_safe_field_ring_can_time_net_ev_intake_sec_panel_panel2_sup_free
    s t := by
  unfold execTickBoundary at h
  injection h with h
  subst h
  simp only [But_md_btn_kiln_set_crs_exch_tickets_lastTicket_loops_solver_pair_mortar_safe_field_ring_can_time_net_ev_intake_sec_panel_panel2_sup_free]
  simp

@[simp] theorem ringHistories_keeps (s : State) : But_ring s (ringHistories s) := by
  simp only [But_ring, BlkStart, BlkProg, BlkPair, BlkRest]
  simp [ringHistories]

@[simp] theorem buildImage_keeps (s : State) : But_crs s (buildImage s) := by
  simp only [But_crs, BlkStart, BlkPair, BlkIo, BlkRest]
  simp [buildImage]

@[simp] theorem cascade_keeps (s : State) :
    But_md_kiln_set_crs_exch_tickets_loops_solver_pair_mortar_safe_field_ring_can_net_intake_panel_panel2_free s
    (cascade s) := by
  simp only [But_md_kiln_set_crs_exch_tickets_loops_solver_pair_mortar_safe_field_ring_can_net_intake_panel_panel2_free]
  simp [cascade]

theorem execInputImageComplete_keeps (s : State) (t : State) (h : execInputImageComplete s = .next t) :
    But_md_kiln_set_crs_exch_tickets_loops_solver_pair_mortar_safe_field_ring_can_net_intake_panel_panel2_free s t :=
    by
  unfold execInputImageComplete at h
  injection h with h
  subst h
  simp only [But_md_kiln_set_crs_exch_tickets_loops_solver_pair_mortar_safe_field_ring_can_net_intake_panel_panel2_free]
  simp

end Sys2Proof.Machine
end

