-- ==== Sys2Proof/Laws/Modes.lean ====
section
/-! SUPPORT. What completions, the stop of an injection and a change of mode do, said once. -/

namespace Sys2Proof.Machine

/-! ### Completions (R514) and the stop of injections (R257) -/

@[simp] theorem completeOne_loops (s : State) (o : Origin) (st : Nat) : (completeOne s o st).loops = s.loops ∧ (completeOne s o st).ev = s.ev := by
  unfold completeOne
  dsimp only
  (repeat' split) <;> simp [setSess, send]
@[simp] theorem complete_loops (s : State) (o : Origin) (st : Nat) : (complete s o st).loops = s.loops ∧ (complete s o st).ev = s.ev:= by
  unfold complete
  (repeat' split) <;> simp [completeOne_loops]
@[simp] theorem completeOpt_loops (s : State) (o : Option Origin) (st : Nat) : (completeOpt s o st).loops = s.loops ∧ (completeOpt s o st).ev = s.ev:= by
  unfold completeOpt
  (repeat' split) <;> simp [complete_loops]
/-- completions grow the outbox -/
theorem completeOne_outbox (s : State) (o : Origin) (st : Nat) : ∃ l, (completeOne s o st).net.outbox = l ++ s.net.outbox := by
  unfold completeOne
  dsimp only
  (repeat' split)
  · exact ⟨[], rfl⟩
  · exact ⟨[_], rfl⟩
  · exact ⟨[], rfl⟩
  · exact ⟨[], rfl⟩
theorem complete_outbox (s : State) (o : Origin) (st : Nat) : ∃ l, (complete s o st).net.outbox = l ++ s.net.outbox := by
  unfold complete
  (repeat' split)
  · exact completeOne_outbox ..
  · exact ⟨[], rfl⟩
  · exact completeOne_outbox ..
theorem completeOpt_outbox (s : State) (o : Option Origin) (st : Nat) : ∃ l, (completeOpt s o st).net.outbox = l ++ s.net.outbox := by
  unfold completeOpt
  split
  · exact complete_outbox ..
  · exact ⟨[], rfl⟩
theorem stopInjection_inj (s : State) (c d n : Nat) : tget ({} : InjSt) (stopInjection s c n).loops.inj d =
   if d = c ∧ ((tget ({} : InjSt) s.loops.inj c).state = 1 ∨ (tget ({} : InjSt) s.loops.inj c).state = 2) then { tget ({} : InjSt) s.loops.inj c with state := 4, cause := n, origin := none, satRun := 0} else tget {} s.loops.inj d := by
  unfold stopInjection
  dsimp only
  split
  · rename_i h
    simp only [completeOpt_loops, raise_loops]
    by_cases e : d = c
    · subst e; simp [h]
    · simp [e, tget_tset_ne]
  · rename_i h; simp [h]
theorem stopInjections_inj (s : State) (n : Nat) (d : Nat) (h : (tget ({} : InjSt) s.loops.inj d).state = 1 ∨ (tget ({} : InjSt) s.loops.inj d).state = 2) :
  (tget ({} : InjSt) (stopInjections s n).loops.inj d).state = 4 ∧ (tget ({} : InjSt) (stopInjections s n).loops.inj d).cause = n := by
  unfold stopInjections
  have hm : d ∈ s.loops.inj.map (·.1) := by
    have : ∀ (t : Tab InjSt), (tget ({} : InjSt) t d).state ≠ 0 → d ∈ t.map (·.1) := by
      intro t
      induction t with
      | nil => simp [tget]
      | cons e t ih => grind [tget]
    exact this _ (by omega)
  have hk : ∀ (l : List Nat) (u : State), ((tget ({} : InjSt) u.loops.inj d).state = 4 ∧ (tget ({} : InjSt) u.loops.inj d).cause = n) →
      ((tget ({} : InjSt) (l.foldl (fun s c => stopInjection s c n) u).loops.inj d).state = 4 ∧ (tget ({} : InjSt) (l.foldl (fun s c => stopInjection s c n) u).loops.inj d).cause = n) := by
    intro l
    induction l with
    | nil => intro u h; exact h
    | cons a l ih =>
      intro u h
      refine ih _ ?_
      rw [stopInjection_inj]
      split
      · simp
      · exact h
  generalize hl : s.loops.inj.map (·.1) = l at hm
  clear hl
  induction l generalizing s with
  | nil => simp at hm
  | cons a l ih =>
    rw [List.foldl_cons]
    by_cases e : d = a
    · subst e
      refine hk l _ ?_
      rw [stopInjection_inj]
      simp [h]
    · refine ih _ ?_ ?_
      · rw [stopInjection_inj]; simp [e, h]
      · simpa [e] using hm
theorem stopInjection_outbox (s : State) (c n : Nat) : ∃ l, (stopInjection s c n).net.outbox = l ++ s.net.outbox := by
  unfold stopInjection
  dsimp only
  split
  · obtain ⟨l, h⟩ := completeOpt_outbox (raise { s with loops := { s.loops with
      inj := tset s.loops.inj c { tget ({} : InjSt) s.loops.inj c with state := 4, cause := n, origin := none, satRun := 0 } } } 142 [w32 c, w32 n]) (tget ({} : InjSt) s.loops.inj c).origin (Config.finalCode 0x1030 n)
    exact ⟨l, by rw [h]; simp⟩
  · exact ⟨[], rfl⟩
theorem foldl_outbox {α : Type} (g : State → α → State) (h : ∀ u b, ∃ l, (g u b).net.outbox = l ++ u.net.outbox) (k : List α) (s : State) : ∃ l, (k.foldl g s).net.outbox = l ++ s.net.outbox := by
  induction k generalizing s with
  | nil => exact ⟨[], rfl⟩
  | cons b k ih =>
    obtain ⟨l1, h1⟩ := ih (g s b)
    obtain ⟨l2, h2⟩ := h s b
    exact ⟨l1 ++ l2, by rw [List.foldl_cons, h1, h2, List.append_assoc]⟩


/-! ### A change of mode (R64, Table 02.1, Table 02.3) -/

/-- The three steps of R70 on the mode state: the role, and the injection attribute that mode and role allow. -/
theorem resolve_md (s : State) (m : Mode) : (resolve s m).md = { s.md with
    role := resolveRole s m
    injection := s.md.injection && injectionMode m && resolveRole s m != .standby } := by
  have e : { s.md with role := resolveRole s m, injection := s.md.injection } = { s.md with role := resolveRole s m } := rfl
  unfold resolve injectionSetOff
  dsimp only
  cases hi : s.md.injection <;> cases hm : (injectionMode m && resolveRole s m != .standby) <;>
    simp only [Bool.true_and, Bool.false_and, hm] <;> rw [hi] at e <;> (repeat' split) <;> simp_all

theorem enterEffects_md (s : State) (old m : Mode) : (enterEffects s old m).md = { s.md with
    oasisUntilScan :=
      if m = .run ∧ (old = .stop ∨ old = .load) then true else if runs m then s.md.oasisUntilScan else false } := by
  have e : { s.md with oasisUntilScan := s.md.oasisUntilScan } = s.md := rfl
  unfold enterEffects
  dsimp only
  cases m <;> simp [runs, evaluates] <;> (repeat' split) <;> simp_all

/-- An event does not change the role that Table 02.3 gives. -/
theorem resolveRole_raise (s : State) (ev : Nat) (arg : List W32) (m : Mode) :
    resolveRole (raise s ev arg) m = resolveRole s m := by
  cases m <;> simp [resolveRole, haltRole, partnerLive, onTwin]

/-- The mode field and what Table 02.1 and Table 02.3 tie to it. -/
theorem changeMode_md (s : State) (m : Mode) (cause : Nat) : (changeMode s m cause).md =
    if s.md.mode = m then s.md
    else { s.md with
      mode := m, prevMode := s.md.mode, role := resolveRole s m
      injection := s.md.injection && injectionMode m && resolveRole s m != .standby
      oasisUntilScan :=
        if m = .run ∧ (s.md.mode = .stop ∨ s.md.mode = .load) then true
        else if runs m then s.md.oasisUntilScan else false } := by
  unfold changeMode
  dsimp only
  split
  · simp
  · simp [enterEffects_md, resolve_md, resolveRole_raise]

@[simp] theorem changeMode_mode (s : State) (m : Mode) (cause : Nat) : (changeMode s m cause).md.mode = m := by
  rw [changeMode_md]
  split <;> simp_all

theorem changeMode_role (s : State) (m : Mode) (cause : Nat) (h : m ≠ .halt) (h' : m ≠ .sealed) :
    (changeMode s m cause).md.role = s.md.role := by
  rw [changeMode_md]
  cases m <;> (split <;> simp_all [resolveRole])

end Sys2Proof.Machine
end

