-- ==== Sys2Proof/Laws/State.lean ====
section
/-! SUPPORT. What each update of one entry of the state does, field by field: the entry set reads as set, the others as before,
and every other field of its chapter's state is untouched. -/

namespace Sys2Proof.Machine

/-! ### setSess -/

theorem sess_setSess_ne (s : State) (k j : Nat) (x : SessSt) (h : j ≠ k) : sess (setSess s k x) j = sess s j :=
  tget_tset_ne _ _ _ _ _ h
@[simp] theorem setSess_lan (s : State) (k : Nat) (x : SessSt) : (setSess s k x).net.lan = s.net.lan := rfl
@[simp] theorem setSess_roleAddr (s : State) (k : Nat) (x : SessSt) : (setSess s k x).net.roleAddr = s.net.roleAddr := rfl
@[simp] theorem setSess_arp (s : State) (k : Nat) (x : SessSt) : (setSess s k x).net.arp = s.net.arp := rfl
@[simp] theorem setSess_openings (s : State) (k : Nat) (x : SessSt) : (setSess s k x).net.openings = s.net.openings := rfl
@[simp] theorem setSess_outbox (s : State) (k : Nat) (x : SessSt) : (setSess s k x).net.outbox = s.net.outbox := rfl
@[simp] theorem setSess_batches (s : State) (k : Nat) (x : SessSt) : (setSess s k x).net.batches = s.net.batches := rfl
@[simp] theorem setSess_objects (s : State) (k : Nat) (x : SessSt) : (setSess s k x).net.objects = s.net.objects := rfl
@[simp] theorem setSess_before (s : State) (k : Nat) (x : SessSt) : (setSess s k x).net.before = s.net.before := rfl
@[simp] theorem setSess_touched (s : State) (k : Nat) (x : SessSt) : (setSess s k x).net.touched = s.net.touched := rfl
@[simp] theorem setSess_laneOut (s : State) (k : Nat) (x : SessSt) : (setSess s k x).net.laneOut = s.net.laneOut := rfl
@[simp] theorem setSess_linkFrames (s : State) (k : Nat) (x : SessSt) : (setSess s k x).net.linkFrames = s.net.linkFrames := rfl
@[simp] theorem setSess_mortarSent (s : State) (k : Nat) (x : SessSt) : (setSess s k x).net.mortarSent = s.net.mortarSent := rfl

/-! ### setCourse -/

@[simp] theorem course_setCourse_self (s : State) (k : Nat) (x : CourseSt) : course (setCourse s k x) k = x := tget_tset_self _ _ _ _
theorem course_setCourse_ne (s : State) (k j : Nat) (x : CourseSt) (h : j ≠ k) : course (setCourse s k x) j = course s j :=
  tget_tset_ne _ _ _ _ _ h
@[simp] theorem setCourse_data (s : State) (k : Nat) (x : CourseSt) : (setCourse s k x).crs.data = s.crs.data := rfl
@[simp] theorem setCourse_shown (s : State) (k : Nat) (x : CourseSt) : (setCourse s k x).crs.shown = s.crs.shown := rfl
@[simp] theorem setCourse_inp (s : State) (k : Nat) (x : CourseSt) : (setCourse s k x).crs.inp = s.crs.inp := rfl
@[simp] theorem setCourse_out (s : State) (k : Nat) (x : CourseSt) : (setCourse s k x).crs.out = s.crs.out := rfl
@[simp] theorem setCourse_outLate (s : State) (k : Nat) (x : CourseSt) : (setCourse s k x).crs.outLate = s.crs.outLate := rfl
@[simp] theorem setCourse_live (s : State) (k : Nat) (x : CourseSt) : (setCourse s k x).crs.live = s.crs.live := rfl
@[simp] theorem setCourse_committed (s : State) (k : Nat) (x : CourseSt) : (setCourse s k x).crs.committed = s.crs.committed := rfl
@[simp] theorem setCourse_held (s : State) (k : Nat) (x : CourseSt) : (setCourse s k x).crs.held = s.crs.held := rfl
@[simp] theorem setCourse_bp (s : State) (k : Nat) (x : CourseSt) : (setCourse s k x).crs.bp = s.crs.bp := rfl
@[simp] theorem setCourse_frozenAt (s : State) (k : Nat) (x : CourseSt) : (setCourse s k x).crs.frozenAt = s.crs.frozenAt := rfl
@[simp] theorem setCourse_mirages (s : State) (k : Nat) (x : CourseSt) : (setCourse s k x).crs.mirages = s.crs.mirages := rfl
@[simp] theorem setCourse_imageMirages (s : State) (k : Nat) (x : CourseSt) : (setCourse s k x).crs.imageMirages = s.crs.imageMirages := rfl
@[simp] theorem setCourse_mirageWaits (s : State) (k : Nat) (x : CourseSt) : (setCourse s k x).crs.mirageWaits = s.crs.mirageWaits := rfl
@[simp] theorem setCourse_mirageChanged (s : State) (k : Nat) (x : CourseSt) : (setCourse s k x).crs.mirageChanged = s.crs.mirageChanged := rfl
@[simp] theorem setCourse_settingChanged (s : State) (k : Nat) (x : CourseSt) : (setCourse s k x).crs.settingChanged = s.crs.settingChanged := rfl
@[simp] theorem setCourse_setpoints (s : State) (k : Nat) (x : CourseSt) : (setCourse s k x).crs.setpoints = s.crs.setpoints := rfl
@[simp] theorem setCourse_modeReqs (s : State) (k : Nat) (x : CourseSt) : (setCourse s k x).crs.modeReqs = s.crs.modeReqs := rfl

/-! ### setLoop -/

@[simp] theorem loop_setLoop_self (s : State) (k : Nat) (x : LoopSt) : loop (setLoop s k x) k = x := tget_tset_self _ _ _ _
theorem loop_setLoop_ne (s : State) (k j : Nat) (x : LoopSt) (h : j ≠ k) : loop (setLoop s k x) j = loop s j :=
  tget_tset_ne _ _ _ _ _ h
@[simp] theorem setLoop_m (s : State) (k : Nat) (x : LoopSt) : (setLoop s k x).loops.m = s.loops.m := rfl
@[simp] theorem setLoop_t (s : State) (k : Nat) (x : LoopSt) : (setLoop s k x).loops.t = s.loops.t := rfl
@[simp] theorem setLoop_inj (s : State) (k : Nat) (x : LoopSt) : (setLoop s k x).loops.inj = s.loops.inj := rfl
@[simp] theorem setLoop_cap (s : State) (k : Nat) (x : LoopSt) : (setLoop s k x).loops.cap = s.loops.cap := rfl
@[simp] theorem setLoop_laneLoad (s : State) (k : Nat) (x : LoopSt) : (setLoop s k x).loops.laneLoad = s.loops.laneLoad := rfl
@[simp] theorem setLoop_laneNow (s : State) (k : Nat) (x : LoopSt) : (setLoop s k x).loops.laneNow = s.loops.laneNow := rfl
@[simp] theorem setLoop_loaded (s : State) (k : Nat) (x : LoopSt) : (setLoop s k x).loops.loaded = s.loops.loaded := rfl
@[simp] theorem setLoop_pos (s : State) (k : Nat) (x : LoopSt) : (setLoop s k x).loops.pos = s.loops.pos := rfl
@[simp] theorem setLoop_posGood (s : State) (k : Nat) (x : LoopSt) : (setLoop s k x).loops.posGood = s.loops.posGood := rfl
@[simp] theorem setLoop_override (s : State) (k : Nat) (x : LoopSt) : (setLoop s k x).loops.override = s.loops.override := rfl

/-! ### setLoop2 -/

@[simp] theorem loop2_setLoop2_self (s : State) (k : Nat) (x : LoopSt2) : loop2 (setLoop2 s k x) k = x := tget_tset_self _ _ _ _
theorem loop2_setLoop2_ne (s : State) (k j : Nat) (x : LoopSt2) (h : j ≠ k) : loop2 (setLoop2 s k x) j = loop2 s j :=
  tget_tset_ne _ _ _ _ _ h
@[simp] theorem setLoop2_l (s : State) (k : Nat) (x : LoopSt2) : (setLoop2 s k x).loops.l = s.loops.l := rfl
@[simp] theorem setLoop2_t (s : State) (k : Nat) (x : LoopSt2) : (setLoop2 s k x).loops.t = s.loops.t := rfl
@[simp] theorem setLoop2_inj (s : State) (k : Nat) (x : LoopSt2) : (setLoop2 s k x).loops.inj = s.loops.inj := rfl
@[simp] theorem setLoop2_cap (s : State) (k : Nat) (x : LoopSt2) : (setLoop2 s k x).loops.cap = s.loops.cap := rfl
@[simp] theorem setLoop2_laneLoad (s : State) (k : Nat) (x : LoopSt2) : (setLoop2 s k x).loops.laneLoad = s.loops.laneLoad := rfl
@[simp] theorem setLoop2_laneNow (s : State) (k : Nat) (x : LoopSt2) : (setLoop2 s k x).loops.laneNow = s.loops.laneNow := rfl
@[simp] theorem setLoop2_loaded (s : State) (k : Nat) (x : LoopSt2) : (setLoop2 s k x).loops.loaded = s.loops.loaded := rfl
@[simp] theorem setLoop2_pos (s : State) (k : Nat) (x : LoopSt2) : (setLoop2 s k x).loops.pos = s.loops.pos := rfl
@[simp] theorem setLoop2_posGood (s : State) (k : Nat) (x : LoopSt2) : (setLoop2 s k x).loops.posGood = s.loops.posGood := rfl
@[simp] theorem setLoop2_override (s : State) (k : Nat) (x : LoopSt2) : (setLoop2 s k x).loops.override = s.loops.override := rfl

/-! ### setTable -/

@[simp] theorem tableSt_setTable_self (s : State) (k : Nat) (x : TableSt) : tableSt (setTable s k x) k = x := tget_tset_self _ _ _ _
theorem tableSt_setTable_ne (s : State) (k j : Nat) (x : TableSt) (h : j ≠ k) : tableSt (setTable s k x) j = tableSt s j :=
  tget_tset_ne _ _ _ _ _ h
@[simp] theorem setTable_l (s : State) (k : Nat) (x : TableSt) : (setTable s k x).loops.l = s.loops.l := rfl
@[simp] theorem setTable_m (s : State) (k : Nat) (x : TableSt) : (setTable s k x).loops.m = s.loops.m := rfl
@[simp] theorem setTable_inj (s : State) (k : Nat) (x : TableSt) : (setTable s k x).loops.inj = s.loops.inj := rfl
@[simp] theorem setTable_cap (s : State) (k : Nat) (x : TableSt) : (setTable s k x).loops.cap = s.loops.cap := rfl
@[simp] theorem setTable_laneLoad (s : State) (k : Nat) (x : TableSt) : (setTable s k x).loops.laneLoad = s.loops.laneLoad := rfl
@[simp] theorem setTable_laneNow (s : State) (k : Nat) (x : TableSt) : (setTable s k x).loops.laneNow = s.loops.laneNow := rfl
@[simp] theorem setTable_loaded (s : State) (k : Nat) (x : TableSt) : (setTable s k x).loops.loaded = s.loops.loaded := rfl
@[simp] theorem setTable_pos (s : State) (k : Nat) (x : TableSt) : (setTable s k x).loops.pos = s.loops.pos := rfl
@[simp] theorem setTable_posGood (s : State) (k : Nat) (x : TableSt) : (setTable s k x).loops.posGood = s.loops.posGood := rfl
@[simp] theorem setTable_override (s : State) (k : Nat) (x : TableSt) : (setTable s k x).loops.override = s.loops.override := rfl

/-! ### setInj -/

@[simp] theorem injSt_setInj_self (s : State) (k : Nat) (x : InjSt) : injSt (setInj s k x) k = x := tget_tset_self _ _ _ _
theorem injSt_setInj_ne (s : State) (k j : Nat) (x : InjSt) (h : j ≠ k) : injSt (setInj s k x) j = injSt s j :=
  tget_tset_ne _ _ _ _ _ h
@[simp] theorem setInj_l (s : State) (k : Nat) (x : InjSt) : (setInj s k x).loops.l = s.loops.l := rfl
@[simp] theorem setInj_m (s : State) (k : Nat) (x : InjSt) : (setInj s k x).loops.m = s.loops.m := rfl
@[simp] theorem setInj_t (s : State) (k : Nat) (x : InjSt) : (setInj s k x).loops.t = s.loops.t := rfl
@[simp] theorem setInj_cap (s : State) (k : Nat) (x : InjSt) : (setInj s k x).loops.cap = s.loops.cap := rfl
@[simp] theorem setInj_laneLoad (s : State) (k : Nat) (x : InjSt) : (setInj s k x).loops.laneLoad = s.loops.laneLoad := rfl
@[simp] theorem setInj_laneNow (s : State) (k : Nat) (x : InjSt) : (setInj s k x).loops.laneNow = s.loops.laneNow := rfl
@[simp] theorem setInj_loaded (s : State) (k : Nat) (x : InjSt) : (setInj s k x).loops.loaded = s.loops.loaded := rfl
@[simp] theorem setInj_pos (s : State) (k : Nat) (x : InjSt) : (setInj s k x).loops.pos = s.loops.pos := rfl
@[simp] theorem setInj_posGood (s : State) (k : Nat) (x : InjSt) : (setInj s k x).loops.posGood = s.loops.posGood := rfl
@[simp] theorem setInj_override (s : State) (k : Nat) (x : InjSt) : (setInj s k x).loops.override = s.loops.override := rfl

/-! ### setSolv -/

@[simp] theorem solv_setSolv_self (s : State) (k : Nat) (x : SolvSt) : solv (setSolv s k x) k = x := tget_tset_self _ _ _ _
theorem solv_setSolv_ne (s : State) (k j : Nat) (x : SolvSt) (h : j ≠ k) : solv (setSolv s k x) j = solv s j :=
  tget_tset_ne _ _ _ _ _ h
@[simp] theorem setSolv_j (s : State) (k : Nat) (x : SolvSt) : (setSolv s k x).solver.j = s.solver.j := rfl
@[simp] theorem setSolv_tiles (s : State) (k : Nat) (x : SolvSt) : (setSolv s k x).solver.tiles = s.solver.tiles := rfl
@[simp] theorem setSolv_tested (s : State) (k : Nat) (x : SolvSt) : (setSolv s k x).solver.tested = s.solver.tested := rfl
@[simp] theorem setSolv_busyFrom (s : State) (k : Nat) (x : SolvSt) : (setSolv s k x).solver.busyFrom = s.solver.busyFrom := rfl
@[simp] theorem setSolv_busy (s : State) (k : Nat) (x : SolvSt) : (setSolv s k x).solver.busy = s.solver.busy := rfl
@[simp] theorem setSolv_busyPeak (s : State) (k : Nat) (x : SolvSt) : (setSolv s k x).solver.busyPeak = s.solver.busyPeak := rfl

/-! ### setSolv2 -/

@[simp] theorem solv2_setSolv2_self (s : State) (k : Nat) (x : SolvSt2) : solv2 (setSolv2 s k x) k = x := tget_tset_self _ _ _ _
theorem solv2_setSolv2_ne (s : State) (k j : Nat) (x : SolvSt2) (h : j ≠ k) : solv2 (setSolv2 s k x) j = solv2 s j :=
  tget_tset_ne _ _ _ _ _ h
@[simp] theorem setSolv2_s (s : State) (k : Nat) (x : SolvSt2) : (setSolv2 s k x).solver.s = s.solver.s := rfl
@[simp] theorem setSolv2_tiles (s : State) (k : Nat) (x : SolvSt2) : (setSolv2 s k x).solver.tiles = s.solver.tiles := rfl
@[simp] theorem setSolv2_tested (s : State) (k : Nat) (x : SolvSt2) : (setSolv2 s k x).solver.tested = s.solver.tested := rfl
@[simp] theorem setSolv2_busyFrom (s : State) (k : Nat) (x : SolvSt2) : (setSolv2 s k x).solver.busyFrom = s.solver.busyFrom := rfl
@[simp] theorem setSolv2_busy (s : State) (k : Nat) (x : SolvSt2) : (setSolv2 s k x).solver.busy = s.solver.busy := rfl
@[simp] theorem setSolv2_busyPeak (s : State) (k : Nat) (x : SolvSt2) : (setSolv2 s k x).solver.busyPeak = s.solver.busyPeak := rfl

/-! ### setSi -/

@[simp] theorem siSt_setSi_self (s : State) (k : Nat) (x : SiSt) : siSt (setSi s k x) k = x := tget_tset_self _ _ _ _
theorem siSt_setSi_ne (s : State) (k j : Nat) (x : SiSt) (h : j ≠ k) : siSt (setSi s k x) j = siSt s j :=
  tget_tset_ne _ _ _ _ _ h
@[simp] theorem setSi_chA (s : State) (k : Nat) (x : SiSt) : (setSi s k x).safe.chA = s.safe.chA := rfl
@[simp] theorem setSi_chB (s : State) (k : Nat) (x : SiSt) : (setSi s k x).safe.chB = s.safe.chB := rfl
@[simp] theorem setSi_missedA (s : State) (k : Nat) (x : SiSt) : (setSi s k x).safe.missedA = s.safe.missedA := rfl
@[simp] theorem setSi_missedB (s : State) (k : Nat) (x : SiSt) : (setSi s k x).safe.missedB = s.safe.missedB := rfl
@[simp] theorem setSi_evalTick (s : State) (k : Nat) (x : SiSt) : (setSi s k x).safe.evalTick = s.safe.evalTick := rfl
@[simp] theorem setSi_compareFault (s : State) (k : Nat) (x : SiSt) : (setSi s k x).safe.compareFault = s.safe.compareFault := rfl
@[simp] theorem setSi_loss (s : State) (k : Nat) (x : SiSt) : (setSi s k x).safe.loss = s.safe.loss := rfl
@[simp] theorem setSi_expiry (s : State) (k : Nat) (x : SiSt) : (setSi s k x).safe.expiry = s.safe.expiry := rfl
@[simp] theorem setSi_expired (s : State) (k : Nat) (x : SiSt) : (setSi s k x).safe.expired = s.safe.expired := rfl
@[simp] theorem setSi_notices (s : State) (k : Nat) (x : SiSt) : (setSi s k x).safe.notices = s.safe.notices := rfl
@[simp] theorem setSi_pairMismatch (s : State) (k : Nat) (x : SiSt) : (setSi s k x).safe.pairMismatch = s.safe.pairMismatch := rfl
@[simp] theorem setSi_axis (s : State) (k : Nat) (x : SiSt) : (setSi s k x).safe.axis = s.safe.axis := rfl
@[simp] theorem setSi_conn (s : State) (k : Nat) (x : SiSt) : (setSi s k x).safe.conn = s.safe.conn := rfl
@[simp] theorem setSi_resetSeen (s : State) (k : Nat) (x : SiSt) : (setSi s k x).safe.resetSeen = s.safe.resetSeen := rfl
@[simp] theorem setSi_counters (s : State) (k : Nat) (x : SiSt) : (setSi s k x).safe.counters = s.safe.counters := rfl
@[simp] theorem setSi_posB (s : State) (k : Nat) (x : SiSt) : (setSi s k x).safe.posB = s.safe.posB := rfl
@[simp] theorem setSi_permits (s : State) (k : Nat) (x : SiSt) : (setSi s k x).safe.permits = s.safe.permits := rfl

/-! ### setAx -/

@[simp] theorem axSt_setAx_self (s : State) (k : Nat) (x : AxisSt) : axSt (setAx s k x) k = x := tget_tset_self _ _ _ _
theorem axSt_setAx_ne (s : State) (k j : Nat) (x : AxisSt) (h : j ≠ k) : axSt (setAx s k x) j = axSt s j :=
  tget_tset_ne _ _ _ _ _ h
@[simp] theorem setAx_chA (s : State) (k : Nat) (x : AxisSt) : (setAx s k x).safe.chA = s.safe.chA := rfl
@[simp] theorem setAx_chB (s : State) (k : Nat) (x : AxisSt) : (setAx s k x).safe.chB = s.safe.chB := rfl
@[simp] theorem setAx_missedA (s : State) (k : Nat) (x : AxisSt) : (setAx s k x).safe.missedA = s.safe.missedA := rfl
@[simp] theorem setAx_missedB (s : State) (k : Nat) (x : AxisSt) : (setAx s k x).safe.missedB = s.safe.missedB := rfl
@[simp] theorem setAx_evalTick (s : State) (k : Nat) (x : AxisSt) : (setAx s k x).safe.evalTick = s.safe.evalTick := rfl
@[simp] theorem setAx_compareFault (s : State) (k : Nat) (x : AxisSt) : (setAx s k x).safe.compareFault = s.safe.compareFault := rfl
@[simp] theorem setAx_loss (s : State) (k : Nat) (x : AxisSt) : (setAx s k x).safe.loss = s.safe.loss := rfl
@[simp] theorem setAx_expiry (s : State) (k : Nat) (x : AxisSt) : (setAx s k x).safe.expiry = s.safe.expiry := rfl
@[simp] theorem setAx_expired (s : State) (k : Nat) (x : AxisSt) : (setAx s k x).safe.expired = s.safe.expired := rfl
@[simp] theorem setAx_notices (s : State) (k : Nat) (x : AxisSt) : (setAx s k x).safe.notices = s.safe.notices := rfl
@[simp] theorem setAx_pairMismatch (s : State) (k : Nat) (x : AxisSt) : (setAx s k x).safe.pairMismatch = s.safe.pairMismatch := rfl
@[simp] theorem setAx_si (s : State) (k : Nat) (x : AxisSt) : (setAx s k x).safe.si = s.safe.si := rfl
@[simp] theorem setAx_conn (s : State) (k : Nat) (x : AxisSt) : (setAx s k x).safe.conn = s.safe.conn := rfl
@[simp] theorem setAx_resetSeen (s : State) (k : Nat) (x : AxisSt) : (setAx s k x).safe.resetSeen = s.safe.resetSeen := rfl
@[simp] theorem setAx_counters (s : State) (k : Nat) (x : AxisSt) : (setAx s k x).safe.counters = s.safe.counters := rfl
@[simp] theorem setAx_posB (s : State) (k : Nat) (x : AxisSt) : (setAx s k x).safe.posB = s.safe.posB := rfl
@[simp] theorem setAx_permits (s : State) (k : Nat) (x : AxisSt) : (setAx s k x).safe.permits = s.safe.permits := rfl

/-! ### setConn -/

@[simp] theorem connSt_setConn_self (s : State) (k : Nat) (x : ConnSt) : connSt (setConn s k x) k = x := tget_tset_self _ _ _ _
theorem connSt_setConn_ne (s : State) (k j : Nat) (x : ConnSt) (h : j ≠ k) : connSt (setConn s k x) j = connSt s j :=
  tget_tset_ne _ _ _ _ _ h
@[simp] theorem setConn_chA (s : State) (k : Nat) (x : ConnSt) : (setConn s k x).safe.chA = s.safe.chA := rfl
@[simp] theorem setConn_chB (s : State) (k : Nat) (x : ConnSt) : (setConn s k x).safe.chB = s.safe.chB := rfl
@[simp] theorem setConn_missedA (s : State) (k : Nat) (x : ConnSt) : (setConn s k x).safe.missedA = s.safe.missedA := rfl
@[simp] theorem setConn_missedB (s : State) (k : Nat) (x : ConnSt) : (setConn s k x).safe.missedB = s.safe.missedB := rfl
@[simp] theorem setConn_evalTick (s : State) (k : Nat) (x : ConnSt) : (setConn s k x).safe.evalTick = s.safe.evalTick := rfl
@[simp] theorem setConn_compareFault (s : State) (k : Nat) (x : ConnSt) : (setConn s k x).safe.compareFault = s.safe.compareFault := rfl
@[simp] theorem setConn_loss (s : State) (k : Nat) (x : ConnSt) : (setConn s k x).safe.loss = s.safe.loss := rfl
@[simp] theorem setConn_expiry (s : State) (k : Nat) (x : ConnSt) : (setConn s k x).safe.expiry = s.safe.expiry := rfl
@[simp] theorem setConn_expired (s : State) (k : Nat) (x : ConnSt) : (setConn s k x).safe.expired = s.safe.expired := rfl
@[simp] theorem setConn_notices (s : State) (k : Nat) (x : ConnSt) : (setConn s k x).safe.notices = s.safe.notices := rfl
@[simp] theorem setConn_pairMismatch (s : State) (k : Nat) (x : ConnSt) : (setConn s k x).safe.pairMismatch = s.safe.pairMismatch := rfl
@[simp] theorem setConn_si (s : State) (k : Nat) (x : ConnSt) : (setConn s k x).safe.si = s.safe.si := rfl
@[simp] theorem setConn_axis (s : State) (k : Nat) (x : ConnSt) : (setConn s k x).safe.axis = s.safe.axis := rfl
@[simp] theorem setConn_resetSeen (s : State) (k : Nat) (x : ConnSt) : (setConn s k x).safe.resetSeen = s.safe.resetSeen := rfl
@[simp] theorem setConn_counters (s : State) (k : Nat) (x : ConnSt) : (setConn s k x).safe.counters = s.safe.counters := rfl
@[simp] theorem setConn_posB (s : State) (k : Nat) (x : ConnSt) : (setConn s k x).safe.posB = s.safe.posB := rfl
@[simp] theorem setConn_permits (s : State) (k : Nat) (x : ConnSt) : (setConn s k x).safe.permits = s.safe.permits := rfl

/-! ### setChan -/

@[simp] theorem chan_setChan_self (s : State) (k : Nat) (x : ChanSt) : chan (setChan s k x) k = x := tget_tset_self _ _ _ _
theorem chan_setChan_ne (s : State) (k j : Nat) (x : ChanSt) (h : j ≠ k) : chan (setChan s k x) j = chan s j :=
  tget_tset_ne _ _ _ _ _ h
@[simp] theorem setChan_run (s : State) (k : Nat) (x : ChanSt) : (setChan s k x).field.run = s.field.run := rfl
@[simp] theorem setChan_group (s : State) (k : Nat) (x : ChanSt) : (setChan s k x).field.group = s.field.group := rfl
@[simp] theorem setChan_refreshed (s : State) (k : Nat) (x : ChanSt) : (setChan s k x).field.refreshed = s.field.refreshed := rfl
@[simp] theorem setChan_lastRefresh (s : State) (k : Nat) (x : ChanSt) : (setChan s k x).field.lastRefresh = s.field.lastRefresh := rfl
@[simp] theorem setChan_terminal (s : State) (k : Nat) (x : ChanSt) : (setChan s k x).field.terminal = s.field.terminal := rfl
@[simp] theorem setChan_silence (s : State) (k : Nat) (x : ChanSt) : (setChan s k x).field.silence = s.field.silence := rfl
@[simp] theorem setChan_cause (s : State) (k : Nat) (x : ChanSt) : (setChan s k x).field.cause = s.field.cause := rfl
@[simp] theorem setChan_fault (s : State) (k : Nat) (x : ChanSt) : (setChan s k x).field.fault = s.field.fault := rfl
@[simp] theorem setChan_soe (s : State) (k : Nat) (x : ChanSt) : (setChan s k x).field.soe = s.field.soe := rfl
@[simp] theorem setChan_soeSeq (s : State) (k : Nat) (x : ChanSt) : (setChan s k x).field.soeSeq = s.field.soeSeq := rfl
@[simp] theorem setChan_soeLost (s : State) (k : Nat) (x : ChanSt) : (setChan s k x).field.soeLost = s.field.soeLost := rfl
@[simp] theorem setChan_overlap (s : State) (k : Nat) (x : ChanSt) : (setChan s k x).field.overlap = s.field.overlap := rfl
@[simp] theorem setChan_trimMask (s : State) (k : Nat) (x : ChanSt) : (setChan s k x).field.trimMask = s.field.trimMask := rfl
@[simp] theorem setChan_trimMaskNext (s : State) (k : Nat) (x : ChanSt) : (setChan s k x).field.trimMaskNext = s.field.trimMaskNext := rfl
@[simp] theorem setChan_trim (s : State) (k : Nat) (x : ChanSt) : (setChan s k x).field.trim = s.field.trim := rfl
@[simp] theorem setChan_trimNext (s : State) (k : Nat) (x : ChanSt) : (setChan s k x).field.trimNext = s.field.trimNext := rfl

/-! ### setRun -/

@[simp] theorem chanRun_setRun_self (s : State) (k : Nat) (x : RunSt) : chanRun (setRun s k x) k = x := tget_tset_self _ _ _ _
theorem chanRun_setRun_ne (s : State) (k j : Nat) (x : RunSt) (h : j ≠ k) : chanRun (setRun s k x) j = chanRun s j :=
  tget_tset_ne _ _ _ _ _ h
@[simp] theorem setRun_ch (s : State) (k : Nat) (x : RunSt) : (setRun s k x).field.ch = s.field.ch := rfl
@[simp] theorem setRun_group (s : State) (k : Nat) (x : RunSt) : (setRun s k x).field.group = s.field.group := rfl
@[simp] theorem setRun_refreshed (s : State) (k : Nat) (x : RunSt) : (setRun s k x).field.refreshed = s.field.refreshed := rfl
@[simp] theorem setRun_lastRefresh (s : State) (k : Nat) (x : RunSt) : (setRun s k x).field.lastRefresh = s.field.lastRefresh := rfl
@[simp] theorem setRun_terminal (s : State) (k : Nat) (x : RunSt) : (setRun s k x).field.terminal = s.field.terminal := rfl
@[simp] theorem setRun_silence (s : State) (k : Nat) (x : RunSt) : (setRun s k x).field.silence = s.field.silence := rfl
@[simp] theorem setRun_cause (s : State) (k : Nat) (x : RunSt) : (setRun s k x).field.cause = s.field.cause := rfl
@[simp] theorem setRun_fault (s : State) (k : Nat) (x : RunSt) : (setRun s k x).field.fault = s.field.fault := rfl
@[simp] theorem setRun_soe (s : State) (k : Nat) (x : RunSt) : (setRun s k x).field.soe = s.field.soe := rfl
@[simp] theorem setRun_soeSeq (s : State) (k : Nat) (x : RunSt) : (setRun s k x).field.soeSeq = s.field.soeSeq := rfl
@[simp] theorem setRun_soeLost (s : State) (k : Nat) (x : RunSt) : (setRun s k x).field.soeLost = s.field.soeLost := rfl
@[simp] theorem setRun_overlap (s : State) (k : Nat) (x : RunSt) : (setRun s k x).field.overlap = s.field.overlap := rfl
@[simp] theorem setRun_trimMask (s : State) (k : Nat) (x : RunSt) : (setRun s k x).field.trimMask = s.field.trimMask := rfl
@[simp] theorem setRun_trimMaskNext (s : State) (k : Nat) (x : RunSt) : (setRun s k x).field.trimMaskNext = s.field.trimMaskNext := rfl
@[simp] theorem setRun_trim (s : State) (k : Nat) (x : RunSt) : (setRun s k x).field.trim = s.field.trim := rfl
@[simp] theorem setRun_trimNext (s : State) (k : Nat) (x : RunSt) : (setRun s k x).field.trimNext = s.field.trimNext := rfl

/-! ### setStn -/

@[simp] theorem stn_setStn_self (s : State) (k : Nat) (x : StationSt) : stn (setStn s k x) k = x := tget_tset_self _ _ _ _
theorem stn_setStn_ne (s : State) (k j : Nat) (x : StationSt) (h : j ≠ k) : stn (setStn s k x) j = stn s j :=
  tget_tset_ne _ _ _ _ _ h
@[simp] theorem setStn_opened (s : State) (k : Nat) (x : StationSt) : (setStn s k x).ring.opened = s.ring.opened := rfl
@[simp] theorem setStn_openHop (s : State) (k : Nat) (x : StationSt) : (setStn s k x).ring.openHop = s.ring.openHop := rfl
@[simp] theorem setStn_hopsDown (s : State) (k : Nat) (x : StationSt) : (setStn s k x).ring.hopsDown = s.ring.hopsDown := rfl
@[simp] theorem setStn_hopsTold (s : State) (k : Nat) (x : StationSt) : (setStn s k x).ring.hopsTold = s.ring.hopsTold := rfl
@[simp] theorem setStn_forwarding (s : State) (k : Nat) (x : StationSt) : (setStn s k x).ring.forwarding = s.ring.forwarding := rfl
@[simp] theorem setStn_discovering (s : State) (k : Nat) (x : StationSt) : (setStn s k x).ring.discovering = s.ring.discovering := rfl
@[simp] theorem setStn_counts (s : State) (k : Nat) (x : StationSt) : (setStn s k x).ring.counts = s.ring.counts := rfl
@[simp] theorem setStn_speed (s : State) (k : Nat) (x : StationSt) : (setStn s k x).ring.speed = s.ring.speed := rfl
@[simp] theorem setStn_sent (s : State) (k : Nat) (x : StationSt) : (setStn s k x).ring.sent = s.ring.sent := rfl

/-! ### setPort -/

@[simp] theorem port_setPort_self (s : State) (k : Nat) (x : PortSt) : port (setPort s k x) k = x := tget_tset_self _ _ _ _
theorem port_setPort_ne (s : State) (k j : Nat) (x : PortSt) (h : j ≠ k) : port (setPort s k x) j = port s j :=
  tget_tset_ne _ _ _ _ _ h
@[simp] theorem setPort_q (s : State) (k : Nat) (x : PortSt) : (setPort s k x).can.q = s.can.q := rfl
@[simp] theorem setPort_qFull (s : State) (k : Nat) (x : PortSt) : (setPort s k x).can.qFull = s.can.qFull := rfl
@[simp] theorem setPort_last (s : State) (k : Nat) (x : PortSt) : (setPort s k x).can.last = s.can.last := rfl
@[simp] theorem setPort_slot (s : State) (k : Nat) (x : PortSt) : (setPort s k x).can.slot = s.can.slot := rfl
@[simp] theorem setPort_handle (s : State) (k : Nat) (x : PortSt) : (setPort s k x).can.handle = s.can.handle := rfl
@[simp] theorem setPort_order (s : State) (k : Nat) (x : PortSt) : (setPort s k x).can.order = s.can.order := rfl
@[simp] theorem setPort_cancels (s : State) (k : Nat) (x : PortSt) : (setPort s k x).can.cancels = s.can.cancels := rfl
@[simp] theorem setPort_control (s : State) (k : Nat) (x : PortSt) : (setPort s k x).can.control = s.can.control := rfl

/-! ### setSlot -/

@[simp] theorem slotSt_setSlot_self (s : State) (k : Nat) (x : SlotSt) : slotSt (setSlot s k x) k = x := tget_tset_self _ _ _ _
theorem slotSt_setSlot_ne (s : State) (k j : Nat) (x : SlotSt) (h : j ≠ k) : slotSt (setSlot s k x) j = slotSt s j :=
  tget_tset_ne _ _ _ _ _ h
@[simp] theorem setSlot_p (s : State) (k : Nat) (x : SlotSt) : (setSlot s k x).can.p = s.can.p := rfl
@[simp] theorem setSlot_q (s : State) (k : Nat) (x : SlotSt) : (setSlot s k x).can.q = s.can.q := rfl
@[simp] theorem setSlot_qFull (s : State) (k : Nat) (x : SlotSt) : (setSlot s k x).can.qFull = s.can.qFull := rfl
@[simp] theorem setSlot_last (s : State) (k : Nat) (x : SlotSt) : (setSlot s k x).can.last = s.can.last := rfl
@[simp] theorem setSlot_handle (s : State) (k : Nat) (x : SlotSt) : (setSlot s k x).can.handle = s.can.handle := rfl
@[simp] theorem setSlot_order (s : State) (k : Nat) (x : SlotSt) : (setSlot s k x).can.order = s.can.order := rfl
@[simp] theorem setSlot_cancels (s : State) (k : Nat) (x : SlotSt) : (setSlot s k x).can.cancels = s.can.cancels := rfl
@[simp] theorem setSlot_control (s : State) (k : Nat) (x : SlotSt) : (setSlot s k x).can.control = s.can.control := rfl

/-! ### setPhase -/

@[simp] theorem setPhase_tick (s : State) (n : Nat) : (setPhase s n).time.tick = s.time.tick := rfl
@[simp] theorem setPhase_ns (s : State) (n : Nat) : (setPhase s n).time.ns = s.time.ns := rfl
@[simp] theorem setPhase_frac (s : State) (n : Nat) : (setPhase s n).time.frac = s.time.frac := rfl
@[simp] theorem setPhase_loadTick (s : State) (n : Nat) : (setPhase s n).time.loadTick = s.time.loadTick := rfl
@[simp] theorem setPhase_set (s : State) (n : Nat) : (setPhase s n).time.set = s.time.set := rfl
@[simp] theorem setPhase_waitOver (s : State) (n : Nat) : (setPhase s n).time.waitOver = s.time.waitOver := rfl
@[simp] theorem setPhase_servo (s : State) (n : Nat) : (setPhase s n).time.servo = s.time.servo := rfl
@[simp] theorem setPhase_everLocked (s : State) (n : Nat) : (setPhase s n).time.everLocked = s.time.everLocked := rfl
@[simp] theorem setPhase_jump (s : State) (n : Nat) : (setPhase s n).time.jump = s.time.jump := rfl
@[simp] theorem setPhase_port (s : State) (n : Nat) : (setPhase s n).time.port = s.time.port := rfl
@[simp] theorem setPhase_gm (s : State) (n : Nat) : (setPhase s n).time.gm = s.time.gm := rfl
@[simp] theorem setPhase_gmClass (s : State) (n : Nat) : (setPhase s n).time.gmClass = s.time.gmClass := rfl
@[simp] theorem setPhase_steps (s : State) (n : Nat) : (setPhase s n).time.steps = s.time.steps := rfl
@[simp] theorem setPhase_offset (s : State) (n : Nat) : (setPhase s n).time.offset = s.time.offset := rfl
@[simp] theorem setPhase_refused (s : State) (n : Nat) : (setPhase s n).time.refused = s.time.refused := rfl
@[simp] theorem setPhase_slavePort (s : State) (n : Nat) : (setPhase s n).time.slavePort = s.time.slavePort := rfl
@[simp] theorem setPhase_ignored (s : State) (n : Nat) : (setPhase s n).time.ignored = s.time.ignored := rfl
@[simp] theorem setPhase_rejected (s : State) (n : Nat) : (setPhase s n).time.rejected = s.time.rejected := rfl
@[simp] theorem setPhase_seen (s : State) (n : Nat) : (setPhase s n).time.seen = s.time.seen := rfl
@[simp] theorem setPhase_goodRun (s : State) (n : Nat) : (setPhase s n).time.goodRun = s.time.goodRun := rfl
@[simp] theorem setPhase_badRun (s : State) (n : Nat) : (setPhase s n).time.badRun = s.time.badRun := rfl
@[simp] theorem setPhase_badGm (s : State) (n : Nat) : (setPhase s n).time.badGm = s.time.badGm := rfl
@[simp] theorem setPhase_slewLeft (s : State) (n : Nat) : (setPhase s n).time.slewLeft = s.time.slewLeft := rfl
@[simp] theorem setPhase_slewRate (s : State) (n : Nat) : (setPhase s n).time.slewRate = s.time.slewRate := rfl
@[simp] theorem setPhase_slewFrom (s : State) (n : Nat) : (setPhase s n).time.slewFrom = s.time.slewFrom := rfl
@[simp] theorem setPhase_holdFrom (s : State) (n : Nat) : (setPhase s n).time.holdFrom = s.time.holdFrom := rfl
@[simp] theorem setPhase_stepDue (s : State) (n : Nat) : (setPhase s n).time.stepDue = s.time.stepDue := rfl
@[simp] theorem setPhase_announced (s : State) (n : Nat) : (setPhase s n).time.announced = s.time.announced := rfl
@[simp] theorem setPhase_slewOrigin (s : State) (n : Nat) : (setPhase s n).time.slewOrigin = s.time.slewOrigin := rfl
@[simp] theorem setPhase_monitor (s : State) (n : Nat) : (setPhase s n).time.monitor = s.time.monitor := rfl
@[simp] theorem setPhase_phase (s : State) (n : Nat) : (setPhase s n).time.phase = n := rfl

end Sys2Proof.Machine
end

