-- ==== Sys2Proof/Machine/Leds.lean ====
section
/-! DEFINITION. The six status LEDs (R80, R81, Table 02.6): what each shows in a state. -/

namespace Sys2Proof.Machine

/-- The six LEDs (Table 02.6). -/
inductive Led where
  | run | role | safe | fault | link | key
  deriving DecidableEq, Repr

inductive LedColour where
  | green | amber | red
  deriving DecidableEq, Repr

/-- What an LED shows: off, or a colour lit, in slow flash or in fast flash. -/
inductive LedShow where
  | off
  | on (c : LedColour)
  | slow (c : LedColour)
  | fast (c : LedColour)
  deriving DecidableEq, Repr

/-- The button has been held for 2 s to 8 s (Table 02.6): the present sample lies 16,000 ticks or more behind the closing
stamp, and the button is not declared stuck. -/
def heldLong (s : State) : Bool :=
  s.btn.level == some true && !s.btn.stuck && decide (s.btn.closedAt + 16000 < s.btn.samples)

/-- The RUN LED. -/
def ledRun (s : State) : LedShow :=
  if heldLong s then .fast .amber
  else match s.md.mode with
    | .run | .degraded | .track => .on .green
    | .stop | .sync => .slow .green
    | .hold | .change => .fast .green
    | .kiln | .load | .oasis | .halt | .sealed => .off

/-- The ROLE LED. -/
def ledRole (s : State) : LedShow :=
  match s.md.role with
  | .solo => .on .green
  | .active => .slow .green
  | .standby => .on .amber

/-- The SAFE LED. Where no row of Table 02.6 holds (one safety channel lost in STOP or OASIS, say) it shows off: the spec
names nothing for it (DESIGN CHOICE, assumption 79). -/
def ledSafe (s : State) : LedShow :=
  let axes := axisDefs (theImage s)
  if [Mode.kiln, .load, .halt, .sealed].contains s.md.mode then .off
  else if ((siDefs (theImage s)).any fun e => (siSt s e.1).discFault) || (axes.any fun e => (axSt s e.1).state == 2) then .fast .red
  else if !axes.isEmpty && allSto s then .on .red
  else if s.md.mode == .degraded then .slow .green
  else if s.safe.chA && s.safe.chB then .on .green
  else .off

/-- The FAULT LED. -/
def ledFault (s : State) : LedShow :=
  let unacked (c : Nat) : Bool := s.ev.unacked.any fun u => u.2.2.1 == c
  if s.md.mode == .halt then .fast .red
  else if s.md.mode == .oasis || unacked 3 then .on .red
  else if unacked 2 then .slow .red
  else .off

/-- The LINK LED. -/
def ledLink (s : State) : LedShow :=
  let up (p : Nat) : Bool := (s.net.lan.getD p {}).up
  if !up 0 && !up 1 then .fast .amber
  else if onTwin s && (s.pair.lanes.any fun l => l.state != 2) then .slow .amber
  else if !up 0 || !up 1 then .on .amber
  else if timeQuality s != 0 then .slow .green
  else .on .green

/-- The KEY LED. -/
def ledKey (s : State) : LedShow :=
  let banks := [s.kiln.bankA, s.kiln.bankB]
  if !s.kiln.keyPresent then .fast .amber
  else if banks.any fun b => b.running && b.fallback then .on .amber
  else if banks.any fun b => b.writing then .slow .green
  else .on .green

/-- What an LED shows (R80), or the LED test of the first 500 ms (R81); nothing without power. -/
def ledShow (s : State) (l : Led) : LedShow :=
  if !s.md.powered then .off
  else if 0 < s.md.lampTicks then
    match l with
    | .safe | .fault => .on .red
    | .run | .role | .link | .key => .on .amber
  else match l with
    | .run => ledRun s
    | .role => ledRole s
    | .safe => ledSafe s
    | .fault => ledFault s
    | .link => ledLink s
    | .key => ledKey s

/-- The colour that an LED is lit in at the present instant; a flash follows vessel time (R80), or the management core's own
timer until the tick counter starts (R81). -/
def ledLit (s : State) (l : Led) : Option LedColour :=
  match ledShow s l with
  | .off => none
  | .on c => some c
  | .slow c =>
    if (if s.md.ticking then decide (vtime s % 1000000000 < 500000000) else (Config.coreFlash s.btn.samples).1) then some c else none
  | .fast c =>
    if (if s.md.ticking then decide (vtime s % 250000000 < 125000000) else (Config.coreFlash s.btn.samples).2) then some c else none

end Sys2Proof.Machine
end

