-- ==== Sys2Proof/Machine/SysBricks.lean ====
section
/-! DEFINITION. What the system bricks answer to a running activation (Table 04.7, R164, R165): all of it stands in the
capture of the activation's start, so that it does not change while the activation runs. -/

namespace Sys2Proof.Machine

/-- SYS_TIME: start tick, vessel time at its boundary in ns, time quality, and the vessel time at the call. -/
def sysTime (s : State) (c : Nat) : Nat × Nat × Nat × Nat :=
  let x := course s c
  (x.startTick, x.sys.ns, x.sys.quality, vtime s)

/-- What SYS_MODE answers: mode, role and partner mode as Table 02.4 codes them, the injection and mirage attributes,
FIRST_SCAN and TAKEOVER_FIRST_SCAN. -/
structure SysMode where
  mode : Nat
  role : Nat
  injection : Bool
  mirages : Bool
  firstScan : Bool
  takeoverFirstScan : Bool
  partner : Nat
  deriving DecidableEq, Repr

/-- SYS_MODE. -/
def sysMode (s : State) (c : Nat) : SysMode :=
  let x := course s c
  ⟨x.sys.mode, x.sys.role, x.sys.injection, x.sys.mirages, x.firstScan, x.takeoverScan, x.sys.partner⟩

/-- SYS_IOSTAT, of one I/O map entry of a module: valid flag and sample tick in the activation's input image (R138, R139). -/
def sysIostat (s : State) (c entry : Nat) : Bool × Nat :=
  let e := tget ({} : InCell) (course s c).image entry
  (e.valid, e.sample)

/-- SYS_COURSE: LAST_TIME, MAX_TIME, OVERRUNS, SKIPPED, DIV0, CONSEC. -/
def sysCourse (s : State) (c : Nat) : List Nat := (course s c).sys.counts

/-- SYS_SETTINGS: STATE and GENERATION, and the value of the setting of an index; an unlisted one holds its default (R120). -/
def sysSettings (s : State) (c index : Nat) : Nat × W32 × W64 :=
  let y := (course s c).sys
  let low := index % 65536
  (y.setState, y.generation, tget (((settingByLow (theImage s) low).map (·.dflt)).getD 0) y.settings low)

/-- SYS_SOLVER_READ: the one publication of a context that stood at the activation's start tick boundary. -/
def sysSolverRead (s : State) (c context : Nat) : SolvSt := tget {} (course s c).sys.solver context

/-- The read side of SYS_LOOP: a context's mode, output and status, and that its last course request was refused. -/
def sysLoop (s : State) (c context : Nat) : Nat × F64 × Bool :=
  let y := (course s c).sys
  let l := tget ({} : LoopSt) y.loops context
  (l.mode, l.u, y.refused.contains context)

/-- SYS_EVENT_READ: the events that an activation may read, those queued before its start. -/
def sysEvents (s : State) (c : Nat) : List EvRec := (course s c).events.take (course s c).sys.queued

/-- The value of a global as an activation reads it: as it stood at the start of the activation (R140). -/
def sysGlobal (s : State) (c offset len : Nat) : Bytes := ((course s c).globals.drop offset).take len

end Sys2Proof.Machine
end

