-- ==== Sys2Proof/WellFormed.lean ====
section
/-! DEFINITION. Well-formed commands: the indices that a command brings name a part that the module has, and its phase lies
within the tick. Values that a host sends are not judged here: the module answers them (R510, R511). -/

namespace Sys2Proof

/-- A phase lies within a tick of 125,000 ns (R19, R20). -/
def phaseOk (at_ : Nat) : Bool := decide (at_ < 125000)

/-- A request comes on a session 0 to 8 (R501), within a tick. -/
def reqOk (r : Req) : Bool := decide (r.session ≤ 8) && phaseOk r.at_

/-- A command names parts of the module that exist: a tile 0 to 3, a CAN port 0 to 3, a field channel 0 to 0x49 and so on
(Tables 01.2, 08.15, 11.9, 11.10, 12.4, 13.1, 14.1). -/
def Instr.wf : Instr → Bool
  | .powerOn slot _ _ => decide (slot ≤ 2)
  | .sramClearComplete => true
  | .dramClearComplete => true
  | .clearTimeout => true
  | .startSupplyLoss => true
  | .bankHeadersRead at_ => phaseOk at_
  | .bankFullCheckComplete at_ => phaseOk at_
  | .imageApplied at_ => phaseOk at_
  | .acqWaitExpiry at_ => phaseOk at_
  | .imageKeyRemoved at_ => phaseOk at_
  | .imageKeyInserted _ at_ => phaseOk at_
  | .kilnRemeasureComplete stage _ at_ => decide (2 ≤ stage ∧ stage ≤ 6) && phaseOk at_
  | .tickBoundary _ => true
  | .inputImageComplete => true
  | .overrunLimitReached course => decide (1 ≤ course ∧ course ≤ 8)
  | .maxScanReached => true
  | .scanWatchExpiry => true
  | .courseActivationEnd course _ at_ => decide (course ≤ 8) && phaseOk at_
  | .executionTrap course brick _ at_ => decide (course ≤ 8) && decide (brick ≤ 65535) && phaseOk at_
  | .breakpointReached brick at_ => decide (brick ≤ 65535) && phaseOk at_
  | .loopSample ctx at_ => decide (ctx ≤ 127) && phaseOk at_
  | .loopDeadline lane => decide (lane ≤ 1)
  | .outputCommit => true
  | .modeStart r => reqOk r
  | .modeStop r => reqOk r
  | .modeContinue r => reqOk r
  | .modeAcknowledge r => reqOk r
  | .modeReset r => reqOk r
  | .modeRoleSwap r => reqOk r
  | .roleSwapTick => true
  | .injectionOn r => reqOk r
  | .injectionOff r => reqOk r
  | .armBreakpoints r => reqOk r
  | .disarmBreakpoints r => reqOk r
  | .prepareReturn r => reqOk r
  | .prepareReturnTimeout => true
  | .buttonClosingRecognised => true
  | .buttonReleaseRecognised => true
  | .buttonStuck => true
  | .buttonStuckEnd => true
  | .settingWrite r _ _ => reqOk r
  | .settingsComplete r _ => reqOk r
  | .settingsDeclarationDone session => decide (session ≤ 8)
  | .attestationNonce r _ => reqOk r
  | .quoteReady session at_ => decide (session ≤ 8) && phaseOk at_
  | .breakpointWrite r _ _ => reqOk r
  | .miragePlace r _ => reqOk r
  | .mirageRelease r _ => reqOk r
  | .mirageReleaseAll r => reqOk r
  | .courseCounterClear r _ _ => reqOk r
  | .exchangeStage r => reqOk r
  | .stagingComplete _ _ _ _ at_ => phaseOk at_
  | .exchangeActivate r => reqOk r
  | .exchangeUnstage r => reqOk r
  | .exchangeNoQuietTick => true
  | .exchangeRollback => true
  | .regionUpdateRequest r _ => reqOk r
  | .regionDataWrite r _ _ => reqOk r
  | .regionDataChecked ticket at_ => decide (ticket ≤ 255) && phaseOk at_
  | .regionPendingStart ticket => decide (ticket ≤ 255)
  | .regionCancel r _ _ => reqOk r
  | .regionDataTimeout ticket at_ => decide (ticket ≤ 255) && phaseOk at_
  | .imageWriteComplete _ at_ => phaseOk at_
  | .loopModeManual r _ => reqOk r
  | .loopModeAuto r _ => reqOk r
  | .loopModeCascade r _ => reqOk r
  | .loopModeExternal r _ => reqOk r
  | .loopModeHold r _ => reqOk r
  | .manualValueWrite r _ _ => reqOk r
  | .apply r _ _ => reqOk r
  | .tableRebuildComplete table at_ => decide (table ≤ 63) && phaseOk at_
  | .rebuildOverdue table => decide (table ≤ 63)
  | .injectionStart r _ _ => reqOk r
  | .injectionStop r _ => reqOk r
  | .captureConfigure r _ => reqOk r
  | .captureArm r => reqOk r
  | .captureForceTrigger r => reqOk r
  | .captureAbort r => reqOk r
  | .captureRow => true
  | .solverFrameStart ctx => decide (ctx ≤ 63)
  | .solverJobEnd ctx at_ => decide (ctx ≤ 127) && phaseOk at_
  | .solverJobDeadline ctx => decide (ctx ≤ 127)
  | .solverPublish ctx => decide (ctx ≤ 127)
  | .tileOffline tile cause at_ => decide (tile ≤ 3) && decide (1 ≤ cause ∧ cause ≤ 3) && phaseOk at_
  | .tileSelfTest tile _ at_ => decide (tile ≤ 3) && phaseOk at_
  | .statusFrameReceive lane _ at_ => decide (lane ≤ 1) && phaseOk at_
  | .partnerReportLapse => true
  | .abdicateFrameReceive _ at_ => phaseOk at_
  | .abdicationDetected _ at_ => phaseOk at_
  | .takeover => true
  | .latentFaultWindowEnd => true
  | .rehearsalOverdue => true
  | .lockstepMismatch pair at_ => decide (pair ≤ 2) && phaseOk at_
  | .uncorrectableEccError bank _ at_ => decide (bank ≤ 48) && phaseOk at_
  | .singleBitCorrection bank _ at_ => decide (bank ≤ 48) && phaseOk at_
  | .scrubPass bank _ at_ => decide (bank ≤ 48) && phaseOk at_
  | .clockMonitorFault domain at_ => decide (domain ≤ 12) && phaseOk at_
  | .supplyMonitorFault at_ => phaseOk at_
  | .internalRailsOff => true
  | .logicFeedLow feed _ at_ => decide (feed ≤ 1) && phaseOk at_
  | .logicFeedRestored feed at_ => decide (feed ≤ 1) && phaseOk at_
  | .laneDown lane at_ => decide (lane ≤ 1) && phaseOk at_
  | .laneUp lane at_ => decide (lane ≤ 1) && phaseOk at_
  | .linkUpNegotiation _ _ _ _ at_ => phaseOk at_
  | .mortarTickFrameReceive _ => true
  | .mortarFrameReceive _ _ at_ => phaseOk at_
  | .mortarStale cls at_ => decide (cls ≤ 3) && phaseOk at_
  | .bulkCopyStart _ at_ => phaseOk at_
  | .trackReached at_ => phaseOk at_
  | .safetyDecision lossA lossB _ _ => decide (lossA ≤ 3) && decide (lossB ≤ 3)
  | .partnerAxisStateReceive axes => decide (axes.length ≤ 4)
  | .testPulse input channel _ at_ => decide (input ≤ 7) && decide (channel ≤ 1) && phaseOk at_
  | .permitOffPulse axis switch _ _ at_ => decide (axis ≤ 3) && decide (switch ≤ 1) && phaseOk at_
  | .safetyReset source at_ => decide (source ≤ 2) && phaseOk at_
  | .ringSafetyWatchdog conn => decide (conn ≤ 31)
  | .degradedExpiryNear at_ => phaseOk at_
  | .degradedExpiry at_ => phaseOk at_
  | .digitalInputChange channel _ _ => decide (channel ≤ 47)
  | .soeRead r => reqOk r
  | .outputOverload channel at_ => decide (channel ≤ 47) && phaseOk at_
  | .outputOvertemp channel at_ => decide (channel ≤ 47) && phaseOk at_
  | .outputRetry channel _ => decide (channel ≤ 47)
  | .channelClear r _ _ => reqOk r
  | .groupOvercurrent group _ at_ => decide (1 ≤ group ∧ group ≤ 6) && phaseOk at_
  | .openWire channel _ => decide (channel ≤ 47)
  | .fieldFeedLow group => decide (1 ≤ group ∧ group ≤ 6)
  | .fieldFeedRestored group => decide (1 ≤ group ∧ group ≤ 6)
  | .readbackFailure kk => decide (kk ≤ 0x49)
  | .analogueUnderRange ai => decide (ai ≤ 15)
  | .analogueOverRange ai => decide (ai ≤ 15)
  | .analogueRangeClear ai => decide (ai ≤ 15)
  | .complianceLost ao => decide (ao ≤ 7)
  | .complianceRegained ao => decide (ao ≤ 7)
  | .positionSignalFault pos => decide (pos ≤ 1)
  | .positionSignalClear pos => decide (pos ≤ 1)
  | .logicSilence at_ => phaseOk at_
  | .fieldControllerWatchdog at_ => phaseOk at_
  | .trimModeWrite r _ => reqOk r
  | .trimCurrentWrite r _ _ => reqOk r
  | .ringInputFrameReceive f => decide (f.station ≤ 63) && phaseOk f.at_
  | .ringCycleMissed station => decide (station ≤ 63)
  | .ringClosed => true
  | .ringLinkUp _ at_ => phaseOk at_
  | .stationJoin station => decide (station ≤ 63)
  | .hopSpeedNegotiated hop _ _ at_ => decide (hop ≤ 63) && phaseOk at_
  | .canFrameReceived f at_ => decide (f.port ≤ 3 ∧ f.dlc ≤ 15 ∧ f.data.length ≤ 64) && phaseOk at_
  | .canReceiveSlotTimeout slot => decide (slot ≤ 63)
  | .sysCanCancel _ at_ => phaseOk at_
  | .canSelectionPoint port at_ => decide (port ≤ 3) && phaseOk at_
  | .canTransmitEnd port result _ _ at_ => decide (port ≤ 3) && decide (result ≤ 2) && phaseOk at_
  | .canLaunchLate port at_ => decide (port ≤ 3) && phaseOk at_
  | .canRecover r _ => reqOk r
  | .canRecoveryComplete port at_ => decide (port ≤ 3) && phaseOk at_
  | .flushFifo r _ => reqOk r
  | .flushLaunch r _ => reqOk r
  | .flushAll r _ => reqOk r
  | .lanLinkDown port at_ => decide (port ≤ 2) && phaseOk at_
  | .lanLinkUp port speed at_ => decide (port ≤ 2) && decide (1 ≤ speed ∧ speed ≤ 2) && phaseOk at_
  | .ptpMeasurement port _ cls steps _ at_ =>
    decide (1 ≤ port ∧ port ≤ 2) && decide (cls ≤ 255) && decide (steps ≤ 0xFFFF) && phaseOk at_
  | .announceTimeout at_ => phaseOk at_
  | .timeSlew r _ => reqOk r
  | .timeStep r => reqOk r
  | .timeReject r => reqOk r
  | .haltSlew r => reqOk r
  | .sessionOpen iface _ _ _ _ _ at_ => decide (iface ≤ 2) && phaseOk at_
  | .sessionClose r => reqOk r
  | .sessionIdleTimeout session => decide (session ≤ 8)
  | .streamEvents r _ _ _ => reqOk r
  | .subscribe r _ _ _ => reqOk r
  | .batchWrite r _ => reqOk r
  | .eventRecordsRead r => reqOk r
  | .objectWrite r _ _ => reqOk r
  | .intrusion _ at_ => phaseOk at_
  | .environmentalWipe cause at_ => decide (4 ≤ cause ∧ cause ≤ 7) && phaseOk at_
  | .identityKeyReload at_ => phaseOk at_
  | .signerEnrol r _ _ => reqOk r
  | .authorityEnrol r _ _ => reqOk r
  | .enrolmentTimeout => true
  | .framePairBoundary at_ => phaseOk at_
  | .ntcRead _ at_ => phaseOk at_
  | .crackLoopMeasure _ _ at_ => phaseOk at_
  | .lampTest r => reqOk r
  | .journalBlockClose at_ => phaseOk at_
  | .journalWriteComplete _ at_ => phaseOk at_
  | .dieTemperatureWarning _ at_ => phaseOk at_
  | .canBusError port _ at_ => decide (port ≤ 3) && phaseOk at_
  | .forwardingReceive _ at_ => phaseOk at_
  | .firmwareLoad stage _ _ _ => decide (1 ≤ stage ∧ stage ≤ 6)
  | .gratuitousArpRepeat at_ => phaseOk at_
  | .holdoverClockClassChange at_ => phaseOk at_
  | .prpSupervisionFrame lan _ at_ => decide (lan ≤ 1) && phaseOk at_

end Sys2Proof
end

