-- ==== Sys2Proof/Tests/Slice0.lean ====
section
/-! SUPPORT. Tests: a term that each check of WellFormed refuses, and for every statement with hypotheses a state and
operands that meet them all. Expected values come from the spec's tables and from known values. -/

set_option Elab.async false

open Sys2Proof Sys2Proof.Machine

/-- A session to the fixed address, of generation SP3, authenticated. -/
def Tests.session : SessSt := { open_ := true, opening := 1, gen := 3, authority := some 0 }

/-- A SOLO module in a mode, its event controller running, with one open session, at tick 100,000 of vessel time. -/
def Tests.at (m : Mode) : State :=
  { State.reset with
    md := { State.reset.md with powered := true, mode := m, ticking := true }
    ev := { State.reset.ev with running := true }
    time := { State.reset.time with tick := 100000, ns := 12500000000000 }
    net := { State.reset.net with sess := [(0, Tests.session), (8, { Tests.session with opening := 2, iface := 2 })], openings := 2 } }

/-- The same module on a twin base in a role. -/
def Tests.twin (m : Mode) (role : Role) : State :=
  { Tests.at m with md := { (Tests.at m).md with slot := 1, role := role } }

/-- A request of session 0. -/
def Tests.req : Req := ⟨0, 7, 50000⟩

/-- A module that is in KILN after power-on. -/
def Tests.kiln : State := { State.reset with md := { State.reset.md with powered := true } }

/-- A pair whose partner is live over two lanes that are up, in TRACK by its last report. -/
def Tests.linked : PairSt :=
  { State.reset.pair with
    report := true, partnerToken := true, lanes := [{ state := 2 }, { state := 2 }]
    status := some ⟨99999, modeCode .track, 2, false, true, 0, 0, [], 0, []⟩ }

/-- An ACTIVE module in a mode whose partner tracks. -/
def Tests.tracked (m : Mode) : State := { Tests.twin m .active with pair := Tests.linked }

/-- A request of the USB session of a module in a mode. -/
def Tests.usb : Req := ⟨8, 7, 50000⟩

/-- A request of session 0 on an object waits for its completion. -/
def Tests.waits (s : State) (seq : W32) (obj : W32) : State :=
  { s with net := { s.net with sess := [(0, { Tests.session with waiting := [(seq, obj)] })] } }

/-- The button has just been recognised open after a press of d ticks. -/
def Tests.pressed (m : Mode) (d : Nat) : State :=
  { Tests.at m with btn := { samples := 1081 + d, run := 81, level := some true, closedAt := 1000 } }

/-- KILN with the SRAM clear complete. -/
def Tests.sramDone : State := { Tests.kiln with kiln := { State.reset.kiln with sramDone := true } }

/-- A module that controls a plant from a twin base: terminals driven, axis switches closed, ring outputs under way. -/
def Tests.busy : State :=
  { Tests.tracked .run with
    md := { (Tests.tracked .run).md with token := true }
    field := { State.reset.field with terminal := [(3, 1)] }
    safe := { State.reset.safe with axis := [(0, { swA := true, swB := true })] }
    ring := { State.reset.ring with forwarding := true } }

/-- A key is present with two erased banks. -/
def Tests.keyed : KilnSt := { State.reset.kiln with keyPresent := true }

/-- One I/O map entry of an onboard channel without scaling (Table 12.1). -/
def Tests.io (output ty module chan : Nat) : Bytes :=
  toLe 1 0 ++ toLe 1 output ++ toLe 1 ty ++ toLe 1 0 ++ toLe 1 module ++ toLe 1 chan ++ toLe 42 0

/-- A brick instance of type 1 in a course with 8 bytes of data (Table 04.2). -/
def Tests.brick (course : Nat) : Bytes :=
  toLe 8 1 ++ toLe 2 1 ++ toLe 1 course ++ toLe 5 0 ++ toLe 4 0 ++ toLe 4 8 ++ toLe 8 0

/-- An image with setting 4 (ULINT, 0 to 9), a base course and timed course 1 with period 8, brick 1 in the base course,
digital input D00 and digital output D01. -/
def Tests.image : Image := ⟨toLe 256 0, [
  ⟨0x70, 0, 0, toLe 4 1 ++ toLe 4 0 ++ toLe 4 4 ++ toLe 1 8 ++ toLe 1 0xFF ++ toLe 2 0 ++ toLe 16 0 ++ toLe 8 0 ++ toLe 8 9⟩,
  ⟨4, 0, 0, toLe 4 0 ++ toLe 4 80 ++ toLe 8 0⟩, ⟨4, 0, 1, toLe 2 8 ++ toLe 6 0 ++ toLe 8 2⟩,
  ⟨3, 0, 1, Tests.brick 0⟩, ⟨0x10, 0, 0, toLe 4 2 ++ toLe 12 160 ++ Tests.io 0 1 1 0 ++ Tests.io 1 1 1 1⟩]⟩

/-- The module of `Tests.at` with that image. -/
def Tests.plant (m : Mode) : State :=
  { Tests.at m with kiln := { State.reset.kiln with image := some Tests.image } }

/-- Session 0 was opened to the role address. -/
def Tests.roleSession (s : State) : State :=
  { s with net := { s.net with sess := [(0, { Tests.session with role := true })] } }

/-- What a rollback to the image of `Tests.plant` restores. -/
def Tests.oldVersion : OldVersion :=
  { image := Tests.image, bank := 1, data := [(1, [1, 2, 3])], mirages := [], tables := [], loopsL := [], loopsM := [],
    solverS := [], solverJ := [], courses := [], settings := [(4, 7)], setState := 1, setGeneration := 6, unwritten := [] }

/-- A loop context record: period 1, no chain, lane 0, process value the constant 0, set-point setting 4, no
output, and the parameters given (Table 06.1). -/
def Tests.loopBytes (outer : Nat) (params : List F64) : Bytes :=
  toLe 2 1 ++ toLe 2 0 ++ toLe 1 outer ++ toLe 1 0 ++ toLe 1 1 ++ toLe 1 0 ++ toLe 2 0 ++ toLe 1 3 ++ toLe 1 3 ++
    toLe 2 0xFFFF ++ toLe 2 0 ++ toLe 4 0 ++ toLe 4 0xFFFFFFFF ++ toLe 4 4 ++ toLe 4 0x03000000 ++ toLe 4 0 ++ toLe 4 0 ++
    toLe 8 10 ++ params.flatMap fun p => toLe 8 p.toNat

/-- Parameters with KP 1, limits −1 and 1 for the output and the set-point, everything else 0. -/
def Tests.params : List F64 :=
  [0x3FF0000000000000, 0, 0, 0, 0x3FF0000000000000, 0, 0, 0xBFF0000000000000, 0x3FF0000000000000, 0, 0, 0, 0,
    0xBFF0000000000000, 0x3FF0000000000000, 0]

/-- The record of loop context 0. -/
def Tests.loopRec : LoopDef := loopOf (Tests.loopBytes 0xFF Tests.params)

/-- `Tests.plant` with loop context 0 in AUTO, and context 1, whose OUTER is 2 and whose EXT_SRC is a loop output. -/
def Tests.looped (m : Mode) : State :=
  { Tests.plant m with
    kiln := { State.reset.kiln with image := some ⟨Tests.image.header, Tests.image.recs ++
      [⟨0x20, 0, 0, Tests.loopBytes 0xFF Tests.params⟩, ⟨0x20, 0, 1, Tests.loopBytes 2 Tests.params⟩]⟩ }
    loops := {
      l := [(0, { mode := 1, restart := false })]
      m := [(0, { params := Tests.params, bumpless := false }), (1, { doneTick := some 100000 })] } }

/-- Injection limits of a context: point 2, amplitudes up to 1, 8 ticks (Table 07.4). -/
def Tests.limits : Bytes :=
  [3, 4, 0, 0] ++ toLe 4 8 ++ toLe 8 0x3FF0000000000000 ++ toLe 8 0x3FF0000000000000 ++ toLe 8 0x3FF0000000000000 ++
    toLe 8 0xBFF0000000000000 ++ toLe 8 0x3FF0000000000000 ++ toLe 8 0

/-- Injection limits of context 0: point 2, amplitude 1, 8 samples (Table 07.4), on `Tests.looped`. -/
def Tests.limited : State :=
  { Tests.looped .run with
    kiln := { State.reset.kiln with image := some ⟨Tests.image.header, (theImage (Tests.looped .run)).recs ++
      [⟨0x21, 0, 0x100, Tests.limits⟩]⟩ } }

/-- A step of amplitude 0 over 8 ticks at point 2. -/
def Tests.inj : InjCmd := ⟨1, 2, 0, 0, 0, 8, 0, 0, 0, 0, 0, 0, false⟩

/-- A capture of channel 0 in each tick, 16 rows, 2 before a level trigger (Table 07.9). -/
def Tests.capConfig : Bytes :=
  toLe 2 1 ++ toLe 1 1 ++ toLe 1 0 ++ toLe 4 16 ++ toLe 4 2 ++ toLe 2 0 ++ toLe 2 1 ++ toLe 72 0

/-- A solver context of one variable and one constant term of H, PERIOD 8, HELD_LIMIT 3, RECOVER 2, and a fallback brick
(Tables 08.3 and 08.5). -/
def Tests.solverBytes (fbBrick : Nat) : Bytes :=
  [1, 1, 0, 0] ++ toLe 2 1 ++ toLe 6 0 ++ toLe 2 8 ++ toLe 4 0 ++ toLe 2 16 ++ toLe 1 3 ++ toLe 1 2 ++ toLe 2 0 ++
    toLe 4 fbBrick ++ toLe 4 0 ++ toLe 4 1000 ++ toLe 4 1000 ++ toLe 4 1000 ++ toLe 4 0 ++ toLe 8 1 ++
    toLe 8 0x3EB0C6F7A0B5ED8D ++ toLe 8 0x3EB0C6F7A0B5ED8D ++ toLe 2 20 ++ toLe 6 0 ++ toLe 8 0 ++ toLe 16 0 ++
    toLe 8 0x3FF0000000000000 ++ toLe 8 0

/-- The same context with one required tag, an I/O map entry that the image does not have. -/
def Tests.tagBytes : Bytes :=
  (Tests.solverBytes 0xFFFF).take 0x2C ++ toLe 2 1 ++ ((Tests.solverBytes 0xFFFF).drop 0x2E).take 42 ++ toLe 4 0x01000005 ++
    toLe 4 1 ++ (Tests.solverBytes 0xFFFF).drop 88

/-- `Tests.plant` with solver context 0 on unit 0, in tick 100,000 a start of a frame. -/
def Tests.solving (m : Mode) (fbBrick : Nat) : State :=
  { Tests.plant m with
    kiln := { State.reset.kiln with image := some ⟨Tests.image.header, Tests.image.recs ++
      [⟨0x30, 0, 0, Tests.solverBytes fbBrick⟩]⟩ }
    solver := { State.reset.solver with s := [(0, { goodX := [0] })], j := [(0, { unit := some 0 })] } }

/-- The running job of context 0 in tick 100,000. -/
def Tests.job : JobSt :=
  { state := 2, snap := ⟨99998, [], [], []⟩, deadline := 100004, unit := 0, record := Tests.solverBytes 0xFFFF, warm := none }

/-- Context 0 with that job in flight. -/
def Tests.jobbed : State :=
  { Tests.solving .run 0xFFFF with
    solver := { State.reset.solver with
      s := [(0, { goodX := [0] })], j := [(0, { unit := some 0, frame := some 99998, job := some Tests.job })] } }

/-- Context 0 at the end of its frame 99,992 with an outcome. -/
def Tests.framed (fbBrick : Nat) (x : SolvSt) (o : Outcome9) : State :=
  { Tests.solving .run fbBrick with
    solver := { State.reset.solver with
      s := [(0, x)], j := [(0, { unit := some 0, frame := some 99992, outcome := some (99992, o) })] } }

/-- A solved outcome. -/
def Tests.solved : Outcome9 := { status := 0, cause := 0, fresh := true, x := [0x3FF0000000000000] }

/-- A solved outcome of frame 99,992 as the active tells it. -/
def Tests.toldOutcome : OutcomeMortar :=
  { ctx := 0, frame := 99992, outcome := Tests.solved, consecHeld := 0, freshCount := 1, fallback := false
    goodX := [0x3FF0000000000000], goodMult := some [], goodObjective := some 0, goodTick := 99992 }

/-- A tracking standby at the end of that frame, its own outcome late, that has been told it. -/
def Tests.told : State :=
  { Tests.framed 0xFFFF { goodX := [0] } (heldOutcome 5 0) with
    md := { (Tests.at .track).md with role := .standby, slot := 1 }
    mortar := { State.reset.mortar with activeMode := modeCode .run }
    solver := { State.reset.solver with
      s := [(0, { goodX := [0] })]
      j := [(0, { unit := some 0, frame := some 99992, outcome := some (99992, heldOutcome 5 0), mortar := some Tests.toldOutcome })] } }

/-- That context with one term whose product of coefficient and parameter overflows. -/
def Tests.overflowing : Bytes :=
  (Tests.solverBytes 0xFFFF).take 88 ++ toLe 16 256 ++ toLe 8 0x7FE0000000000000 ++ toLe 8 0

/-- Its running job. -/
def Tests.badJob : JobSt := { Tests.job with record := Tests.overflowing, snap := ⟨99998, [], [0x7FE0000000000000], []⟩ }

/-- A STANDBY that tracks an ACTIVE in RUN. -/
def Tests.shadow (m : Mode) : State :=
  { Tests.twin m .standby with
    pair := { Tests.linked with status := some ⟨99999, modeCode .run, 1, true, false, 0, 0, [], 0, []⟩ }
    mortar := { State.reset.mortar with activeMode := modeCode .run } }

/-- A STATUS frame that reports a mode and whether the partner holds its token. -/
def Tests.statusFrame (m : Nat) (token : Bool) : StatusFrame := ⟨99999, m, 2, token, true, 0, 0, [], 5, []⟩

/-- An image with safety input SI0 (DISC_T 10), axis 0 of FUNC 1 that SI0 demands, and ring safety connection 0 of KIND 1
with T_WD 8 (Tables 11.1 to 11.3). -/
def Tests.guards : Image := ⟨toLe 256 0, Tests.image.recs ++ [
  ⟨0x40, 0, 0x10, toLe 2 1 ++ toLe 2 4 ++ toLe 12 10⟩,
  ⟨0x40, 0, 0x20, toLe 1 1 ++ toLe 1 0 ++ toLe 2 0xFF ++ toLe 4 0 ++ toLe 2 1 ++ toLe 2 0 ++ toLe 4 0 ++ toLe 4 0xFFFFFFFF ++
    toLe 52 0⟩,
  ⟨0x40, 0, 0x30, toLe 1 1 ++ toLe 1 1 ++ toLe 2 0 ++ toLe 4 8 ++ toLe 8 5⟩]⟩

/-- A module in a mode under that image, SI0 closed in both channels, axis 0 permitted. -/
def Tests.guarded (m : Mode) : State :=
  { Tests.plant m with
    kiln := { State.reset.kiln with image := some Tests.guards }
    safe := { State.reset.safe with
      si := [(0, { a := true, b := true, aB := true, bB := true, demand := false })]
      axis := [(0, { state := 1, swA := true, swB := true })] } }

/-- The same with SI0 open in channel a of both safety channels. -/
def Tests.opened : State :=
  { Tests.guarded .run with
    safe := { (Tests.guarded .run).safe with si := [(0, { a := false, b := true, aB := false, bB := true })] } }

/-- Tick 99,200 lies in the window of the test pulse of SI0, channel a, for TP_PERIOD 800. -/
def Tests.pulsed (s : State) : State := { s with time := { s.time with tick := 99200 } }

/-- An I/O map entry of an onboard channel with its kind, flags, FILTER and PARAM, and for an analogue one the scale 0 to 1
and the limits 4 to 20 mA (Table 12.1). -/
def Tests.channel (kind output ty module chan flags filter param : Nat) (scale : Bool) : Bytes :=
  toLe 1 0 ++ toLe 1 output ++ toLe 1 ty ++ toLe 1 kind ++ toLe 1 module ++ toLe 1 chan ++ toLe 2 flags ++ toLe 4 filter ++
    toLe 4 param ++ (if scale then toLe 8 0 ++ toLe 8 0x3FF0000000000000 ++ toLe 8 0x4010000000000000 ++
      toLe 8 0x4034000000000000 else toLe 32 0)

/-- An image with input D00 (SOE), outputs D01 (LATCH) and D02, and analogue output AO0. -/
def Tests.fields : Image := ⟨toLe 256 0, [⟨0x10, 0, 0, toLe 4 4 ++ toLe 12 160 ++
  Tests.channel 1 0 1 1 0 1 5 0 false ++ Tests.channel 4 1 1 1 1 8 0 80 false ++ Tests.channel 4 1 1 1 2 0 0 80 false ++
  Tests.channel 8 1 0x0F 9 0 0 0 0 true⟩]⟩

/-- A module in a mode under that image, D01 and D02 switched on, its field controller refreshed. -/
def Tests.fielded (m : Mode) : State :=
  { Tests.plant m with
    kiln := { State.reset.kiln with image := some Tests.fields }
    field := { State.reset.field with
      refreshed := true, lastRefresh := 99999, terminal := [(1, 1), (2, 1)]
      ch := [(1, { targets := [some 0x3FF0000000000000] }), (2, { targets := [some 0x3FF0000000000000] })] } }

/-- The same with one channel and its run counters set. -/
def Tests.chanIs (s : State) (kk : Nat) (c : ChanSt) (r : RunSt) : State :=
  { s with field := { s.field with ch := [(kk, c)], run := [(kk, r)] } }

/-- An image with gen 2 station 3 of CYCLE 1 and its I/O modules 1 and 2 of 2 input bytes (Tables 13.1 and 13.2). -/
def Tests.ringImage : Image := ⟨toLe 256 0, Tests.image.recs ++ [⟨0x80, 0, 0, toLe 16 1 ++
  [3, 2, 0, 2] ++ toLe 2 1 ++ toLe 2 0 ++ toLe 4 8 ++ toLe 4 9 ++ toLe 1 1 ++ toLe 1 0 ++ toLe 14 2 ++
  toLe 1 2 ++ toLe 1 0 ++ toLe 14 2⟩]⟩

/-- A module in a mode under that image, its ring controller started, station 3 at position 4 with that state, in control of
the ring's configuration. -/
def Tests.ringed (m : Mode) (x : StationSt) : State :=
  { Tests.plant m with
    kiln := { State.reset.kiln with image := some Tests.ringImage }
    ring := { State.reset.ring with
      forwarding := true, st := [(3, { x with position := 4 })], hopsDown := [5], opened := true, openHop := 5 } }

/-- An input frame of station 3 with a sample tick and an arrival phase: module 1 present, module 2 with FAULT. -/
def Tests.ringFrame (tick phase : Nat) : RingFrame :=
  { station := 3, tick := tick, sstatus := 4, modules := [(1, 1, [7, 8]), (2, 3, [9, 9])], at_ := phase }

/-- The declaration of station 3. -/
def Tests.ringStation : StationDef := (stationDef Tests.ringImage 3).getD ⟨0, 0, false, false, 1, 0, 8, 0, []⟩

/-- An image with CAN1 of LATE_LIMIT 8, filter 0 for identifier 0x123 with a queue of 2 frames, filter 1 for identifier 0x200
with receive slot 0 of TIMEOUT 80 (Tables 14.3 to 14.5). -/
def Tests.canImage : Image := ⟨toLe 256 0, Tests.image.recs ++ [⟨0x81, 0, 1, toLe 12 0 ++ toLe 4 8⟩,
  ⟨0x81, 0, 0x100, [1, 2, 0, 0] ++ toLe 4 0x123 ++ toLe 4 0x7FF ++ toLe 4 2⟩,
  ⟨0x81, 0, 0x101, [1, 2, 1, 0] ++ toLe 4 0x200 ++ toLe 4 0x7FF ++ toLe 4 0⟩,
  ⟨0x81, 0, 0x200, [0, 1, 0, 0] ++ toLe 4 0 ++ toLe 2 80 ++ toLe 6 0⟩]⟩

/-- A module in a mode under that image, with that state of CAN1. -/
def Tests.canned (m : Mode) (x : PortSt) : State :=
  { Tests.plant m with
    kiln := { State.reset.kiln with image := some Tests.canImage }
    can := { State.reset.can with
      p := [(1, x)], handle := [(4, ⟨1, none, 0⟩), (5, ⟨1, none, 0⟩)], cancels := [4, 6], order := 10
      slot := [(0, { valid := true, tick := 99900 })] } }

/-- A classical frame on CAN1 with an identifier. -/
def Tests.canFrame (i : W32) : CanFrame := ⟨1, 0, 1, i, [7], 12500000040000, 0, 12500000050000⟩

/-- An entry of CAN1 with a handle, an arrival number, and a launch time in the launch list. -/
def Tests.entry (h o : Nat) (l : Option Nat) : TxEntry :=
  { req := ⟨1, h, 0x201, 0, 1, [7], l⟩, time := l.getD 0, launch := l.isSome, order := o }

/-- An image with PROFILE 1, CLOCK 1, JUMP_NS 1,000 and a role address (Table 15.2). -/
def Tests.timeImage : Image := ⟨toLe 256 0, Tests.image.recs ++
  [⟨0x82, 0, 0, [1, 1, 0, 0] ++ toLe 4 1000 ++ toLe 10 0 ++ toLe 2 30 ++ toLe 8 0 ++ toLe 4 0x0A000001 ++ toLe 16 24⟩]⟩

/-- A module in a mode under that image, both LANs up, with that servo. -/
def Tests.timed (m : Mode) (x : TimeSt) : State :=
  { Tests.plant m with
    kiln := { State.reset.kiln with image := some Tests.timeImage }
    time := { x with tick := 100000, ns := 12500000000000 }
    net := { (Tests.plant m).net with lan := [{ up := true, speed := 2 }, { up := true, speed := 2 }, {}] } }

/-- A servo that is slave to grandmaster 9 on LAN A. -/
def Tests.slave : TimeSt := { servo := 1, everLocked := true, port := 1, gm := 9, goodRun := 20 }

/-- A servo in HOLDOVER after a jump of 5,000 ns of grandmaster 9. -/
def Tests.jumped : TimeSt := { servo := 2, everLocked := true, gm := 9, jump := true, refused := 5000, ignored := some 9 }

/-- An event record of class A with a SEQ. -/
def Tests.rec (q : W32) : EvRec := { stamp := 5000, ev := 213, arg := [], quality := 0, seq := q, cls := 2 }

/-- `Tests.at`, its first session at the event record 2 of 2, LAN A and the keys of bank 47 in place. -/
def Tests.hosted (m : Mode) : State :=
  { Tests.plant m with
    ev := { (Tests.at m).ev with buffer := [Tests.rec 1, Tests.rec 2], next := 3 }
    sec := { State.reset.sec with life := 2, loaded := true, authorities := [(0, [1])] }
    net := { (Tests.at m).net with lan := [{ up := true, speed := 2 }, {}, {}] } }

/-- `Tests.looped` with loop context 0 in MANUAL. -/
def Tests.manual (m : Mode) : State :=
  { Tests.looped m with loops := { (Tests.looped m).loops with l := [(0, { mode := 0, restart := false })] } }

/-- A batch entry that writes a manual value of 1 to a context. -/
def Tests.manualEntry (c : W32) : BatchEntry := ⟨0x10030000#32 + c, toLe 8 0x3FF0000000000000⟩

/-- An annunciator map without pixels: DEFAULT_BAND 0, no TRUST_PIXEL, five bands of V_OP 3,000 mV and SLOT 2,000 that end at
10, 20, 30 and 40 °C (Table 18.4). -/
def Tests.mapBytes : Bytes :=
  [0, 0] ++ toLe 2 0xFFFF ++ toLe 12 0 ++ ([100, 200, 300, 400, 0x7FFF].flatMap fun u =>
    toLe 2 u ++ toLe 2 3000 ++ toLe 4 2000)

/-- A module in RUN that drives the panel by that map in band 0. -/
def Tests.paneled : State :=
  { Tests.plant .run with
    panel := { State.reset.panel with driving := true, band := 0, inPair := true }
    panel2 := { State.reset.panel2 with map := Tests.mapBytes } }

/-! ### Well-formedness: one term that each check refuses -/

theorem test_illFormed_1 : ([
    .powerOn 3 false false,
    .bankHeadersRead 125000,
    .bankFullCheckComplete 125000,
    .imageApplied 125000,
    .acqWaitExpiry 125000,
    .imageKeyRemoved 125000,
    .imageKeyInserted ⟨[], [], [], 0, 0, none, true⟩ 125000,
    .kilnRemeasureComplete 1 [] 0,
    .kilnRemeasureComplete 7 [] 0,
    .kilnRemeasureComplete 2 [] 125000,
    .overrunLimitReached 0,
    .overrunLimitReached 9,
    .courseActivationEnd 9 {} 0,
    .courseActivationEnd 0 {} 125000,
    .executionTrap 9 0 0 0,
    .executionTrap 0 65536 0 0,
    .executionTrap 0 0 0 125000,
    .breakpointReached 65536 0,
    .breakpointReached 0 125000,
    .loopSample 128 0,
    .loopSample 0 125000,
    .loopDeadline 2,
    .modeStart ⟨9, 7, 50000⟩,
    .modeStart ⟨0, 7, 125000⟩] : List Instr).all (fun i => !i.wf) = true := by decide +kernel
theorem test_illFormed_2 : ([
    .modeStop ⟨9, 7, 50000⟩,
    .modeStop ⟨0, 7, 125000⟩,
    .modeContinue ⟨9, 7, 50000⟩,
    .modeContinue ⟨0, 7, 125000⟩,
    .modeAcknowledge ⟨9, 7, 50000⟩,
    .modeAcknowledge ⟨0, 7, 125000⟩,
    .modeReset ⟨9, 7, 50000⟩,
    .modeReset ⟨0, 7, 125000⟩,
    .modeRoleSwap ⟨9, 7, 50000⟩,
    .modeRoleSwap ⟨0, 7, 125000⟩,
    .injectionOn ⟨9, 7, 50000⟩,
    .injectionOn ⟨0, 7, 125000⟩,
    .injectionOff ⟨9, 7, 50000⟩,
    .injectionOff ⟨0, 7, 125000⟩,
    .armBreakpoints ⟨9, 7, 50000⟩,
    .armBreakpoints ⟨0, 7, 125000⟩,
    .disarmBreakpoints ⟨9, 7, 50000⟩,
    .disarmBreakpoints ⟨0, 7, 125000⟩,
    .prepareReturn ⟨9, 7, 50000⟩,
    .prepareReturn ⟨0, 7, 125000⟩,
    .settingWrite ⟨9, 7, 50000⟩ 0 [],
    .settingWrite ⟨0, 7, 125000⟩ 0 [],
    .settingsComplete ⟨9, 7, 50000⟩ 0,
    .settingsComplete ⟨0, 7, 125000⟩ 0] : List Instr).all (fun i => !i.wf) = true := by decide +kernel
theorem test_illFormed_3 : ([
    .settingsDeclarationDone 9,
    .attestationNonce ⟨9, 7, 50000⟩ [],
    .attestationNonce ⟨0, 7, 125000⟩ [],
    .quoteReady 9 0,
    .quoteReady 0 125000,
    .breakpointWrite ⟨9, 7, 50000⟩ 0 0,
    .breakpointWrite ⟨0, 7, 125000⟩ 0 0,
    .miragePlace ⟨9, 7, 50000⟩ ⟨0, 0, 0, 0, 0, false, 0⟩,
    .miragePlace ⟨0, 7, 125000⟩ ⟨0, 0, 0, 0, 0, false, 0⟩,
    .mirageRelease ⟨9, 7, 50000⟩ ⟨0, 0, 0, 0, 0, false, 0⟩,
    .mirageRelease ⟨0, 7, 125000⟩ ⟨0, 0, 0, 0, 0, false, 0⟩,
    .mirageReleaseAll ⟨9, 7, 50000⟩,
    .mirageReleaseAll ⟨0, 7, 125000⟩,
    .courseCounterClear ⟨9, 7, 50000⟩ 0 0,
    .courseCounterClear ⟨0, 7, 125000⟩ 0 0,
    .exchangeStage ⟨9, 7, 50000⟩,
    .exchangeStage ⟨0, 7, 125000⟩,
    .stagingComplete false none [] [] 125000,
    .exchangeActivate ⟨9, 7, 50000⟩,
    .exchangeActivate ⟨0, 7, 125000⟩,
    .exchangeUnstage ⟨9, 7, 50000⟩,
    .exchangeUnstage ⟨0, 7, 125000⟩,
    .regionUpdateRequest ⟨9, 7, 50000⟩ ⟨0, 0, 0, 0, 0, false⟩,
    .regionUpdateRequest ⟨0, 7, 125000⟩ ⟨0, 0, 0, 0, 0, false⟩] : List Instr).all (fun i => !i.wf) = true := by decide +kernel
theorem test_illFormed_4 : ([
    .regionDataWrite ⟨9, 7, 50000⟩ 0 [],
    .regionDataWrite ⟨0, 7, 125000⟩ 0 [],
    .regionDataChecked 256 0,
    .regionDataChecked 0 125000,
    .regionPendingStart 256,
    .regionCancel ⟨9, 7, 50000⟩ 0 0,
    .regionCancel ⟨0, 7, 125000⟩ 0 0,
    .regionDataTimeout 256 0,
    .regionDataTimeout 0 125000,
    .imageWriteComplete none 125000,
    .loopModeManual ⟨9, 7, 50000⟩ 0,
    .loopModeManual ⟨0, 7, 125000⟩ 0,
    .loopModeAuto ⟨9, 7, 50000⟩ 0,
    .loopModeAuto ⟨0, 7, 125000⟩ 0,
    .loopModeCascade ⟨9, 7, 50000⟩ 0,
    .loopModeCascade ⟨0, 7, 125000⟩ 0,
    .loopModeExternal ⟨9, 7, 50000⟩ 0,
    .loopModeExternal ⟨0, 7, 125000⟩ 0,
    .loopModeHold ⟨9, 7, 50000⟩ 0,
    .loopModeHold ⟨0, 7, 125000⟩ 0,
    .manualValueWrite ⟨9, 7, 50000⟩ 0 0,
    .manualValueWrite ⟨0, 7, 125000⟩ 0 0,
    .apply ⟨9, 7, 50000⟩ 0 0,
    .apply ⟨0, 7, 125000⟩ 0 0] : List Instr).all (fun i => !i.wf) = true := by decide +kernel
theorem test_illFormed_5 : ([
    .tableRebuildComplete 64 0,
    .tableRebuildComplete 0 125000,
    .rebuildOverdue 64,
    .injectionStart ⟨9, 7, 50000⟩ 0 ⟨0, 0, 0, 0, 0, 0, 0, 0, 0, 0, 0, 0, false⟩,
    .injectionStart ⟨0, 7, 125000⟩ 0 ⟨0, 0, 0, 0, 0, 0, 0, 0, 0, 0, 0, 0, false⟩,
    .injectionStop ⟨9, 7, 50000⟩ 0,
    .injectionStop ⟨0, 7, 125000⟩ 0,
    .captureConfigure ⟨9, 7, 50000⟩ [],
    .captureConfigure ⟨0, 7, 125000⟩ [],
    .captureArm ⟨9, 7, 50000⟩,
    .captureArm ⟨0, 7, 125000⟩,
    .captureForceTrigger ⟨9, 7, 50000⟩,
    .captureForceTrigger ⟨0, 7, 125000⟩,
    .captureAbort ⟨9, 7, 50000⟩,
    .captureAbort ⟨0, 7, 125000⟩,
    .solverFrameStart 64,
    .solverJobEnd 128 0,
    .solverJobEnd 0 125000,
    .solverJobDeadline 128,
    .solverPublish 128,
    .tileOffline 4 1 0,
    .tileOffline 0 0 0,
    .tileOffline 0 4 0,
    .tileOffline 0 1 125000] : List Instr).all (fun i => !i.wf) = true := by decide +kernel
theorem test_illFormed_6 : ([
    .tileSelfTest 4 false 0,
    .tileSelfTest 0 false 125000,
    .statusFrameReceive 2 ⟨0, 0, 0, false, false, 0, 0, [], 0, []⟩ 0,
    .statusFrameReceive 0 ⟨0, 0, 0, false, false, 0, 0, [], 0, []⟩ 125000,
    .abdicateFrameReceive 0 125000,
    .abdicationDetected false 125000,
    .lockstepMismatch 3 0,
    .lockstepMismatch 0 125000,
    .uncorrectableEccError 49 0 0,
    .uncorrectableEccError 0 0 125000,
    .singleBitCorrection 49 0 0,
    .singleBitCorrection 0 0 125000,
    .scrubPass 49 [] 0,
    .scrubPass 0 [] 125000,
    .clockMonitorFault 13 0,
    .clockMonitorFault 0 125000,
    .supplyMonitorFault 125000,
    .logicFeedLow 2 0 0,
    .logicFeedLow 0 0 125000,
    .logicFeedRestored 2 0,
    .logicFeedRestored 0 125000,
    .laneDown 2 0,
    .laneDown 0 125000,
    .laneUp 2 0] : List Instr).all (fun i => !i.wf) = true := by decide +kernel
theorem test_illFormed_7 : ([
    .laneUp 0 125000,
    .linkUpNegotiation 0 0 [] 0 125000,
    .mortarFrameReceive false .ackForward 125000,
    .mortarStale 4 0,
    .mortarStale 0 125000,
    .bulkCopyStart 0 125000,
    .trackReached 125000,
    .safetyDecision 4 0 false false,
    .safetyDecision 0 4 false false,
    .testPulse 8 0 false 0,
    .testPulse 0 2 false 0,
    .testPulse 0 0 false 125000,
    .permitOffPulse 4 0 false false 0,
    .permitOffPulse 0 2 false false 0,
    .permitOffPulse 0 0 false false 125000,
    .safetyReset 3 0,
    .safetyReset 0 125000,
    .ringSafetyWatchdog 32,
    .degradedExpiryNear 125000,
    .degradedExpiry 125000,
    .digitalInputChange 48 false 0,
    .soeRead ⟨9, 7, 50000⟩,
    .soeRead ⟨0, 7, 125000⟩,
    .outputOverload 48 0] : List Instr).all (fun i => !i.wf) = true := by decide +kernel
theorem test_illFormed_8 : ([
    .outputOverload 0 125000,
    .outputOvertemp 48 0,
    .outputOvertemp 0 125000,
    .outputRetry 48 false,
    .channelClear ⟨9, 7, 50000⟩ 0 0,
    .channelClear ⟨0, 7, 125000⟩ 0 0,
    .groupOvercurrent 0 [] 0,
    .groupOvercurrent 7 [] 0,
    .groupOvercurrent 1 [] 125000,
    .openWire 48 false,
    .fieldFeedLow 0,
    .fieldFeedLow 7,
    .fieldFeedRestored 0,
    .fieldFeedRestored 7,
    .readbackFailure 74,
    .analogueUnderRange 16,
    .analogueOverRange 16,
    .analogueRangeClear 16,
    .complianceLost 8,
    .complianceRegained 8,
    .positionSignalFault 2,
    .positionSignalClear 2,
    .logicSilence 125000,
    .fieldControllerWatchdog 125000] : List Instr).all (fun i => !i.wf) = true := by decide +kernel
theorem test_illFormed_9 : ([
    .trimModeWrite ⟨9, 7, 50000⟩ 0,
    .trimModeWrite ⟨0, 7, 125000⟩ 0,
    .trimCurrentWrite ⟨9, 7, 50000⟩ 0 0,
    .trimCurrentWrite ⟨0, 7, 125000⟩ 0 0,
    .ringCycleMissed 64,
    .ringLinkUp [] 125000,
    .stationJoin 64,
    .hopSpeedNegotiated 64 false false 0,
    .hopSpeedNegotiated 0 false false 125000,
    .canFrameReceived ⟨0, 0, 0, 0, [], 0, 0, 0⟩ 125000,
    .canReceiveSlotTimeout 64,
    .sysCanCancel 0 125000,
    .canSelectionPoint 4 0,
    .canSelectionPoint 0 125000,
    .canTransmitEnd 4 0 0 0 0,
    .canTransmitEnd 0 3 0 0 0,
    .canTransmitEnd 0 0 0 0 125000,
    .canLaunchLate 4 0,
    .canLaunchLate 0 125000,
    .canRecover ⟨9, 7, 50000⟩ 0,
    .canRecover ⟨0, 7, 125000⟩ 0,
    .canRecoveryComplete 4 0,
    .canRecoveryComplete 0 125000,
    .flushFifo ⟨9, 7, 50000⟩ 0] : List Instr).all (fun i => !i.wf) = true := by decide +kernel
theorem test_illFormed_10 : ([
    .flushFifo ⟨0, 7, 125000⟩ 0,
    .flushLaunch ⟨9, 7, 50000⟩ 0,
    .flushLaunch ⟨0, 7, 125000⟩ 0,
    .flushAll ⟨9, 7, 50000⟩ 0,
    .flushAll ⟨0, 7, 125000⟩ 0,
    .lanLinkDown 3 0,
    .lanLinkDown 0 125000,
    .lanLinkUp 3 1 0,
    .lanLinkUp 0 0 0,
    .lanLinkUp 0 3 0,
    .lanLinkUp 0 1 125000,
    .ptpMeasurement 0 0 0 0 0 0,
    .ptpMeasurement 3 0 0 0 0 0,
    .ptpMeasurement 1 0 256 0 0 0,
    .ptpMeasurement 1 0 0 65536 0 0,
    .ptpMeasurement 1 0 0 0 0 125000,
    .announceTimeout 125000,
    .timeSlew ⟨9, 7, 50000⟩ 0,
    .timeSlew ⟨0, 7, 125000⟩ 0,
    .timeStep ⟨9, 7, 50000⟩,
    .timeStep ⟨0, 7, 125000⟩,
    .timeReject ⟨9, 7, 50000⟩,
    .timeReject ⟨0, 7, 125000⟩,
    .haltSlew ⟨9, 7, 50000⟩] : List Instr).all (fun i => !i.wf) = true := by decide +kernel
theorem test_illFormed_11 : ([
    .haltSlew ⟨0, 7, 125000⟩,
    .sessionOpen 3 false 0 0 none 0 0,
    .sessionOpen 0 false 0 0 none 0 125000,
    .sessionClose ⟨9, 7, 50000⟩,
    .sessionClose ⟨0, 7, 125000⟩,
    .sessionIdleTimeout 9,
    .streamEvents ⟨9, 7, 50000⟩ 0 0 0,
    .streamEvents ⟨0, 7, 125000⟩ 0 0 0,
    .subscribe ⟨9, 7, 50000⟩ 0 0 0,
    .subscribe ⟨0, 7, 125000⟩ 0 0 0,
    .batchWrite ⟨9, 7, 50000⟩ [],
    .batchWrite ⟨0, 7, 125000⟩ [],
    .eventRecordsRead ⟨9, 7, 50000⟩,
    .eventRecordsRead ⟨0, 7, 125000⟩,
    .objectWrite ⟨9, 7, 50000⟩ 0 [],
    .objectWrite ⟨0, 7, 125000⟩ 0 [],
    .intrusion false 125000,
    .environmentalWipe 3 0,
    .environmentalWipe 8 0,
    .environmentalWipe 4 125000,
    .identityKeyReload 125000,
    .signerEnrol ⟨9, 7, 50000⟩ 0 [],
    .signerEnrol ⟨0, 7, 125000⟩ 0 [],
    .authorityEnrol ⟨9, 7, 50000⟩ 0 []] : List Instr).all (fun i => !i.wf) = true := by decide +kernel
theorem test_illFormed_12 : ([
    .authorityEnrol ⟨0, 7, 125000⟩ 0 [],
    .framePairBoundary 125000,
    .ntcRead 0 125000,
    .crackLoopMeasure 0 0 125000,
    .lampTest ⟨9, 7, 50000⟩,
    .lampTest ⟨0, 7, 125000⟩,
    .journalBlockClose 125000,
    .journalWriteComplete false 125000,
    .dieTemperatureWarning 0 125000,
    .canBusError 4 0 0,
    .canBusError 0 0 125000,
    .forwardingReceive (.image []) 125000,
    .firmwareLoad 0 [] false 0,
    .firmwareLoad 7 [] false 0,
    .gratuitousArpRepeat 125000,
    .holdoverClockClassChange 125000,
    .prpSupervisionFrame 2 0 0,
    .prpSupervisionFrame 0 0 125000,
    .partnerAxisStateReceive [(0, 0, 0), (0, 0, 0), (0, 0, 0), (0, 0, 0), (0, 0, 0)],
    .ringInputFrameReceive ⟨64, 0, 0, [], 0, 0, 2, true⟩,
    .ringInputFrameReceive ⟨0, 0, 0, [], 125000, 0, 2, true⟩,
    .canFrameReceived ⟨4, 0, 0, 0, [], 0, 0, 0⟩ 0,
    .canFrameReceived ⟨0, 0, 16, 0, [], 0, 0, 0⟩ 0,
    .canFrameReceived ⟨0, 0, 0, 0, List.replicate 65 0, 0, 0, 0⟩ 0] : List Instr).all (fun i => !i.wf) = true := by decide +kernel

/-! ### Decoding and the queue -/

/-- No row of the opcode table has bits, so no word spells a command. -/
theorem test_decode_spells_no_command : (List.range 64).all (fun w => (decodeTableWord 16 w).isNone) = true := by
  decide +kernel

/-- A word that spells no command leaves the queue alone. -/
theorem test_fetch_word_leaves_the_state : State.reset.withFetchWord 16 5 = State.reset := rfl

/-- The commands of the queue are taken first in, first out. -/
theorem test_step_takes_the_front :
    (match step { Tests.at .run with pending := [.captureRow, .outputCommit] } with
      | .next t => t.pending | _ => []) = [.outputCommit] := by decide +kernel

/-! ### Numbers against the spec's tables and known values -/

/-- SHA-384 of no bytes begins 38B060A7 (FIPS 180-4). -/
theorem test_sha384_of_nothing : (sha384 []).take 4 = [0x38, 0xB0, 0x60, 0xA7] := by decide +kernel

/-- 1 + 2 = 3 and 1 / 3 rounds to 3FD5555555555555 in binary64. -/
theorem test_binary64 : fAdd 0x3FF0000000000000 0x4000000000000000 = 0x4008000000000000 ∧
    fDiv 0x3FF0000000000000 0x4008000000000000 = 0x3FD5555555555555 := by decide +kernel

/-! ### Witnesses of the statements' hypotheses -/

theorem test_witness_StepRunsTheFrontCommand_1 : ∃ (s : State) (c : Instr) (l : List Instr), s.pending = c :: l :=
  ⟨{ Tests.at .run with pending := [.captureRow, .outputCommit] }, .captureRow, [.outputCommit], by decide +kernel⟩
theorem test_witness_StepRunsTheFrontCommand_2 : ∃ (s : State), s.pending = [] :=
  ⟨Tests.at .run, by decide +kernel⟩
theorem test_witness_InjectionOnlyInItsModes : ∃ (s t : State), injectionInMode s ∧ step s = .next t :=
  ⟨{ Tests.at .run with pending := [.captureRow] }, { Tests.at .run with pending := [] }, ⟨by decide +kernel, rfl⟩⟩
theorem test_witness_AxisSwitchesOnlyInTheirModes : ∃ (s t : State), switchesInMode s ∧ step s = .next t :=
  ⟨{ Tests.at .halt with pending := [.captureRow] }, { Tests.at .halt with pending := [] }, ⟨by decide +kernel, rfl⟩⟩
theorem test_witness_EventBufferStaysBounded : ∃ (s t : State), bufferFits s ∧ step s = .next t :=
  ⟨{ Tests.at .run with pending := [.captureRow] }, { Tests.at .run with pending := [] }, ⟨by decide +kernel, rfl⟩⟩
theorem test_witness_FrameOfCommands : ∃ (c : Instr) (s t : State) (p : Part), exec c s = .next t ∧ p ∉ mayChange c :=
  ⟨.captureRow, { Tests.at .run with pending := [] }, { Tests.at .run with pending := [] }, .md, ⟨rfl, by decide +kernel⟩⟩
theorem test_witness_TransitionCommandsAreAccepted_1 : ∃ (s : State) (r : Req), servedOutside s r modeObj = true ∧
    cmdBusy s = false ∧ inControl s = true ∧ s.md.mode = .stop :=
  ⟨Tests.at .stop, Tests.req, by decide +kernel⟩
theorem test_witness_TransitionCommandsAreAccepted_2 : ∃ (s : State) (r : Req), servedOutside s r modeObj = true ∧
    cmdBusy s = false ∧ inControl s = true ∧ (s.md.mode = .run ∨ s.md.mode = .hold ∨ s.md.mode = .degraded) :=
  ⟨Tests.at .run, Tests.req, by decide +kernel⟩
theorem test_witness_TransitionCommandsAreAccepted_3 : ∃ (s : State) (r : Req), servedOutside s r modeObj = true ∧
    cmdBusy s = false ∧ inControl s = true ∧ s.md.mode = .hold :=
  ⟨Tests.at .hold, Tests.req, by decide +kernel⟩
theorem test_witness_AcknowledgeResetAndRoleSwapCommands_1 : ∃ (s : State) (r : Req), served s r modeObj = true ∧
    acknowledges s = true ∧ inControl s = true :=
  ⟨Tests.at .run, Tests.req, by decide +kernel⟩
theorem test_witness_AcknowledgeResetAndRoleSwapCommands_2 : ∃ (s : State) (r : Req), served s r modeObj = true ∧
    acknowledges s = true ∧ inControl s = false ∧ partnerLive s = true ∧ linkLost s = false :=
  ⟨{ Tests.twin .track .standby with pair := Tests.linked }, Tests.req, by decide +kernel⟩
theorem test_witness_AcknowledgeResetAndRoleSwapCommands_3 : ∃ (s : State) (r : Req), servedOutside s r modeObj = true
    ∧ cmdBusy s = false ∧ resetOutcome s = .kiln :=
  ⟨Tests.at .halt, Tests.usb, by decide +kernel⟩
theorem test_witness_AcknowledgeResetAndRoleSwapCommands_4 : ∃ (s : State) (r : Req), servedOutside s r modeObj = true
    ∧ cmdBusy s = false ∧ s.md.swapAt = none ∧ resetOutcome s = .swap :=
  ⟨Tests.tracked .run, Tests.req, by decide +kernel⟩
theorem test_witness_AcknowledgeResetAndRoleSwapCommands_5 : ∃ (s : State) (r : Req), servedOutside s r modeObj = true
    ∧ cmdBusy s = false ∧ s.md.swapAt = none ∧ s.md.role = .active ∧ swapMode s.md.mode = true ∧ partnerTracks s =
    true :=
  ⟨Tests.tracked .run, Tests.req, by decide +kernel⟩
theorem test_witness_InjectionAndBreakpointCommands_1 : ∃ (s : State) (r : Req), servedOutside s r modeObj = true ∧
    cmdBusy s = false ∧ inControl s = true ∧ (s.md.mode = .run ∨ s.md.mode = .degraded) :=
  ⟨Tests.at .run, Tests.req, by decide +kernel⟩
theorem test_witness_InjectionAndBreakpointCommands_2 : ∃ (s : State) (r : Req), served s r modeObj = true :=
  ⟨{ Tests.at .run with loops := { inj := [(3, { state := 2 })] } }, Tests.req, by decide +kernel⟩
theorem test_witness_InjectionAndBreakpointCommands_3 : ∃ (s : State) (r : Req), servedOutside s r modeObj = true ∧
    cmdBusy s = false ∧ inControl s = true ∧ s.md.mode = .run ∧ (s.md.role = .active → holdOnActive s = true) :=
  ⟨{ Tests.at .run with crs := { bp := [(2, { defined := true }), (3, {})] } }, Tests.req, by decide +kernel⟩
theorem test_witness_InjectionAndBreakpointCommands_4 : ∃ (s : State) (r : Req), served s r modeObj = true ∧ cmdBusy s
    = false :=
  ⟨{ Tests.at .hold with crs := { bp := [(2, { defined := true, armed := true })] } }, Tests.req, by decide +kernel⟩
theorem test_witness_PrepareReturnWaitsForThePress_1 : ∃ (s : State) (r : Req), servedOutside s r modeObj = true ∧
    cmdBusy s = false ∧ s.md.role ≠ .active ∧ returnAllowed s = true :=
  ⟨Tests.at .stop, Tests.req, by decide +kernel⟩
theorem test_witness_PrepareReturnWaitsForThePress_2 : ∃ (s : State) (o : Origin) (d : Nat) (obj : W32), s.ev.prepare
    = some (o, d) ∧ d < s.time.tick ∧ isOutstanding s o obj = true :=
  ⟨{ (Tests.waits (Tests.at .stop) 5 modeObj) with ev := { (Tests.at .stop).ev with prepare := some (⟨0, 5, 1⟩, 99000) } }, ⟨0, 5, 1⟩, 99000, modeObj, by decide +kernel⟩
theorem test_witness_ButtonEdgesAreStampedAndStuckIsDeclared_1 : ∃ (s : State), closingDue s = true ∧ s.btn.level ≠
    none :=
  ⟨{ Tests.at .run with btn := { samples := 200, raw := true, run := 81, level := some false } }, by decide +kernel⟩
theorem test_witness_ButtonEdgesAreStampedAndStuckIsDeclared_2 : ∃ (s : State), s.md.powered = true ∧ s.btn.level =
    some true ∧ s.btn.raw = true ∧ s.btn.stuck = false ∧ s.btn.closedAt + 64001 < s.btn.samples ∧ s.ev.running = true
    :=
  ⟨{ Tests.at .run with btn := { samples := 70000, raw := true, run := 69000, level := some true, closedAt := 1000 } }, by decide +kernel⟩
theorem test_witness_ButtonEdgesAreStampedAndStuckIsDeclared_3 : ∃ (s : State), closingDue s = true ∧ s.btn.level =
    none ∧ s.btn.stuck = false ∧ s.ev.running = false :=
  ⟨{ Tests.kiln with btn := { samples := 81, raw := true, run := 81 } }, by decide +kernel⟩
theorem test_witness_ButtonEdgesAreStampedAndStuckIsDeclared_4 : ∃ (s : State), s.md.powered = true ∧ s.btn.stuck =
    true ∧ s.btn.level = some false ∧ s.btn.openedAt + 8000 < s.btn.samples :=
  ⟨{ Tests.at .run with btn := { samples := 90000, run := 9000, stuck := true, level := some false, openedAt := 81000 } }, by decide +kernel⟩
theorem test_witness_ReleasedPressActsByItsClass_1 : ∃ (s : State), releaseDue s = true ∧ (s.btn.stuck = true ∨
    pressTicks s < 400) :=
  ⟨Tests.pressed .run 399, by decide +kernel⟩
theorem test_witness_ReleasedPressActsByItsClass_2 : ∃ (s : State), releaseDue s = true ∧ s.btn.stuck = false ∧ 400 ≤
    pressTicks s ∧ pressTicks s < 16000 ∧ acknowledges s = true ∧ inControl s = true ∧ s.ev.prepare = none ∧
    s.sec.enrol = none ∧ s.md.mode ≠ .oasis ∧ s.panel.untrusted = false :=
  ⟨Tests.pressed .run 400, by decide +kernel⟩
theorem test_witness_ReleasedPressActsByItsClass_3 : ∃ (s : State), releaseDue s = true ∧ s.btn.stuck = false ∧ 400 ≤
    pressTicks s ∧ pressTicks s < 16000 ∧ inControl s = true ∧ s.ev.prepare = none ∧ s.sec.enrol = none ∧ s.md.mode =
    .oasis ∧ oasisCause s = false :=
  ⟨Tests.pressed .oasis 400, by decide +kernel⟩
theorem test_witness_ReleasedPressActsByItsClass_4 : ∃ (s : State), releaseDue s = true ∧ s.btn.stuck = false ∧ 16000
    ≤ pressTicks s ∧ pressTicks s ≤ 64000 :=
  ⟨Tests.pressed .run 16000, by decide +kernel⟩
theorem test_witness_StandbyFollowsIntoOasis : ∃ (s : State) (x : Nat), linkServed s = true ∧ s.pair.noCommon = false
    ∧ s.md.role = .standby ∧ s.md.mode = .track ∧ s.mortar.queue = [] ∧ s.exch.state ≠ 4 ∧ x ≠ 4 :=
  ⟨Tests.shadow .track, 0, by decide +kernel⟩
theorem test_witness_StartMeasuresEveryStage_1 : ∃ (s : State) (fa fb : Bool), s.md.powered = false ∧ (fa || fb) =
    true :=
  ⟨State.reset, true, false, by decide +kernel⟩
theorem test_witness_StartMeasuresEveryStage_2 : ∃ (s : State), s.md.powered = true ∧ s.md.mode = .kiln ∧
    s.kiln.sramDone = false ∧ s.kiln.dramDone = false ∧ stagePasses s 1 = true :=
  ⟨Tests.kiln, by decide +kernel⟩
theorem test_witness_StartMeasuresEveryStage_3 : ∃ (s : State), s.md.powered = true ∧ s.md.mode = .kiln ∧
    s.kiln.sramDone = true ∧ s.kiln.dramDone = false ∧ (∀ i ∈ [2, 3, 4, 5, 6], stagePasses s i = true) :=
  ⟨Tests.sramDone, by decide +kernel⟩
theorem test_witness_StartMeasuresEveryStage_4 : ∃ (s : State) (j : Nat), s.md.powered = true ∧ s.md.mode = .kiln ∧
    s.kiln.sramDone = true ∧ s.kiln.dramDone = false ∧ j ∈ [2, 3, 4, 5, 6] ∧ (∀ i ∈ [2, 3, 4, 5, 6], i < j →
    stagePasses s i = true) ∧ stagePasses s j = false :=
  ⟨{ Tests.sramDone with kiln := { Tests.sramDone.kiln with fw := [(4, { signed := false })] } }, 4, by decide +kernel⟩
theorem test_witness_StartMeasuresEveryStage_5 : ∃ (s : State), s.md.powered = true ∧ s.md.mode = .kiln ∧
    (s.kiln.sramDone && s.kiln.dramDone) = false :=
  ⟨Tests.sramDone, by decide +kernel⟩
theorem test_witness_SupplyLossDuringStartBeginsAgain_1 : ∃ (s : State), s.md.powered = true ∧ (s.md.mode = .kiln ∨
    s.md.mode = .load) :=
  ⟨Tests.at .load, by decide +kernel⟩
theorem test_witness_SupplyLossDuringStartBeginsAgain_2 : ∃ (s : State), s.md.powered = true ∧ (s.md.mode = .kiln ∨
    s.md.mode = .load) ∧ noFeed s = true :=
  ⟨Tests.at .load, by decide +kernel⟩
theorem test_witness_ImageIsChosenBySequence_1 : ∃ (s : State), s.md.mode = .load ∧ s.kiln.headersRead = false ∧
    s.kiln.keyPresent = true :=
  ⟨{ Tests.at .load with kiln := { State.reset.kiln with keyPresent := true } }, by decide +kernel⟩
theorem test_witness_ImageIsChosenBySequence_2 : ∃ (s : State), s.md.mode = .load ∧ s.kiln.headersRead = false ∧
    s.kiln.keyPresent = false :=
  ⟨Tests.at .load, by decide +kernel⟩
theorem test_witness_ImageIsChosenBySequence_3 : ∃ (s : State) (b : Nat), s.md.mode = .load ∧ s.kiln.keyPresent = true
    ∧ s.kiln.trying = some b :=
  ⟨{ Tests.at .load with kiln := { State.reset.kiln with keyPresent := true, trying := some 1, other := some 0 } }, 1, by decide +kernel⟩
theorem test_witness_ImageIsMeasuredAndApplied_1 : ∃ (s : State) (b : Nat) (img : Image), s.md.mode = .load ∧
    s.kiln.selected = some (b, img) :=
  ⟨{ Tests.at .load with kiln := { State.reset.kiln with selected := some (1, ⟨[7], []⟩) } }, 1, ⟨[7], []⟩, by decide +kernel⟩
theorem test_witness_ImageIsMeasuredAndApplied_2 : ∃ (s : State), s.md.mode = .load ∧ s.time.loadTick + 8 * (netCfg
    ((s.kiln.selected.map (·.2)).getD (theImage s))).acqWait ≤ s.time.tick :=
  ⟨Tests.at .load, by decide +kernel⟩
theorem test_witness_KeyRemovalAndInsertionLeaveTheRunningImage_1 : ∃ (s : State), s.md.powered = true ∧ s.ev.running
    = true ∧ s.kiln.keyPresent = true :=
  ⟨{ Tests.at .run with kiln := Tests.keyed, tickets := [(3, { status := 3, kind := 4 })] }, by decide +kernel⟩
theorem test_witness_KeyRemovalAndInsertionLeaveTheRunningImage_2 : ∃ (s : State) (key : KeyContent), s.md.powered =
    true ∧ s.ev.running = true ∧ s.kiln.keyPresent = false ∧ key.readable = true ∧ s.md.mode ≠ .load ∧ s.md.mode ≠
    .sealed :=
  ⟨Tests.at .run, ⟨[1], [2], [4, 9], 2, 88, none, true⟩, by decide +kernel⟩
theorem test_witness_KeyRemovalAndInsertionLeaveTheRunningImage_3 : ∃ (s : State) (key : KeyContent), s.md.powered =
    true ∧ s.ev.running = true ∧ s.kiln.keyPresent = false ∧ key.readable = true ∧ s.md.mode = .load :=
  ⟨Tests.at .load, ⟨[1], [2], [], 0, 0, none, true⟩, by decide +kernel⟩
theorem test_witness_KeyRemovalAndInsertionLeaveTheRunningImage_4 : ∃ (s : State) (i : Nat) (code : Bytes),
    canAbdicate s = true ∧ (s.md.mode = .load ∨ evaluates s.md.mode = true) ∧ s.md.mode ≠ .oasis ∧ 2 ≤ i ∧ i ≤ 6 ∧
    tfind s.kiln.measured i ≠ some (sha384 code) :=
  ⟨Tests.at .run, 3, [1], by decide +kernel⟩
theorem test_witness_KeyRemovalAndInsertionLeaveTheRunningImage_5 : ∃ (s : State) (i : Nat) (code : Bytes), tfind
    s.kiln.measured i = some (sha384 code) :=
  ⟨{ Tests.at .run with kiln := { State.reset.kiln with measured := [(3, sha384 [1])] } }, 3, [1], by decide +kernel⟩
theorem test_witness_QuotesAreServedPerSession_1 : ∃ (s : State) (r : Req) (nonce : Bytes), served s r nonceObj = true
    ∧ nonce.length = 32 :=
  ⟨{ Tests.at .run with kiln := { State.reset.kiln with quotes := [⟨0, [9], some [1], true⟩, ⟨2, [], none, false⟩] } }, Tests.req, List.replicate 32 5, by decide +kernel⟩
theorem test_witness_QuotesAreServedPerSession_2 : ∃ (s : State) (i : Nat), s.sec.loaded = true ∧ (s.md.mode = .halt →
    s.md.mgmtAlive = true) ∧ (∃ q ∈ s.kiln.quotes, q.session = i ∧ q.captured ≠ none ∧ q.ready = false) :=
  ⟨{ Tests.at .run with kiln := { State.reset.kiln with quotes := [⟨0, [9], some [1], false⟩, ⟨2, [], some [], false⟩] }, sec := { State.reset.sec with loaded := true } }, 0, by decide +kernel⟩
theorem test_witness_SettingsWritesAndDeclarations_1 : ∃ (s : State) (r : Req) (i : Nat) (data : Bytes), servedOutside
    s r (settingObj i) = true ∧ settingCheck s i data = none ∧ partnerTracks s = false :=
  ⟨Tests.plant .run, Tests.req, 4, [7, 0, 0, 0, 0, 0, 0, 0], by decide +kernel⟩
theorem test_witness_SettingsWritesAndDeclarations_2 : ∃ (s : State) (r : Req) (i : Nat) (data : Bytes), servedOutside
    s r (settingObj i) = true ∧ settingCheck s i data = none ∧ partnerTracks s = true :=
  ⟨{ Tests.plant .run with md := (Tests.tracked .run).md, pair := Tests.linked }, Tests.req, 4, [7, 0, 0, 0, 0, 0, 0, 0], by decide +kernel⟩
theorem test_witness_SettingsWritesAndDeclarations_3 : ∃ (s : State) (r : Req) (g : W32), servedOutside s r declObj =
    true ∧ declCheck s g = none ∧ (∀ d ∈ s.set.held, sameSession d.origin (originOf s r) = false) ∧ (∀ w ∈
    s.set.waiting, sameSession w.origin (originOf s r) = false) :=
  ⟨Tests.at .stop, Tests.req, 3, by decide +kernel⟩
theorem test_witness_SettingsWritesAndDeclarations_4 : ∃ (s : State) (r : Req) (g : W32), servedOutside s r declObj =
    true ∧ declCheck s g = none ∧ (∀ d ∈ s.set.held, sameSession d.origin (originOf s r) = false) ∧ (∃ w ∈
    s.set.waiting, sameSession w.origin (originOf s r) = true) :=
  ⟨{ Tests.at .stop with set := { waiting := [⟨⟨0, 5, 1⟩, 4, 99999⟩] } }, Tests.req, 3, by decide +kernel⟩
theorem test_witness_SettingsWritesAndDeclarations_5 : ∃ (s : State) (i : Nat) (d : Decl), (s.set.held.find? fun d =>
    d.origin.session == i && !declWaits s d) = some d ∧ isOutstanding s d.origin declObj = true :=
  ⟨{ (Tests.waits (Tests.at .stop) 5 declObj) with set := { held := [⟨⟨0, 5, 1⟩, 3, [], false⟩] } }, 0, ⟨⟨0, 5, 1⟩, 3, [], false⟩, by decide +kernel⟩
theorem test_witness_MiragesForceAndRelease_1 : ∃ (s : State) (r : Req) (c : MirageCmd) (i : Nat), servedOutside s r
    mirageObj = true ∧ loopGate s = none ∧ placeCheck s c = .ok i ∧ c.kind ≠ 1 :=
  ⟨Tests.plant .run, Tests.req, ⟨0, 1, 0, 0, 1, false, 0⟩, 0, by decide +kernel⟩
theorem test_witness_MiragesForceAndRelease_2 : ∃ (s : State) (r : Req) (c : MirageCmd) (i : Nat), servedOutside s r
    mirageObj = true ∧ loopGate s = none ∧ placeCheck s c = .ok i ∧ c.kind = 1 :=
  ⟨Tests.plant .run, Tests.req, ⟨1, 1, 0, 1, 1, false, 0⟩, 0, by decide +kernel⟩
theorem test_witness_MiragesForceAndRelease_3 : ∃ (s : State) (r : Req) (c : MirageCmd) (i : Nat), servedOutside s r
    mirageObj = true ∧ loopGate s = none ∧ c.reserved = false ∧ mirageAt s c.kind c.brick c.index = some i :=
  ⟨{ Tests.plant .run with crs := { mirages := [(5, ⟨0, 1, 0, 0, 1, false⟩)] } }, Tests.req, ⟨0, 1, 0, 0, 1, false, 0⟩, 5, by decide +kernel⟩
theorem test_witness_MiragesForceAndRelease_4 : ∃ (s : State) (r : Req), servedOutside s r mirageObj = true ∧ loopGate
    s = none :=
  ⟨{ Tests.plant .run with crs := { mirages := [(5, ⟨0, 1, 0, 0, 1, false⟩)] } }, Tests.req, by decide +kernel⟩
theorem test_witness_TimeAdvancesAtTheBoundary_1 : ∃ (s : State), s.md.powered = true ∧ s.md.ticking = true ∧
    s.md.mode ≠ .kiln ∧ s.md.mode ≠ .load ∧ s.time.stepDue = none ∧ s.md.resetAt = none :=
  ⟨{ Tests.plant .run with set := { next := [(4, 3), (4, 5)], done := [⟨⟨0, 5, 1⟩, 8, [], false⟩] } }, by decide +kernel⟩
theorem test_witness_TimeAdvancesAtTheBoundary_2 : ∃ (s : State), s.md.powered = true ∧ s.md.ticking = false ∧
    s.md.mode ≠ .halt :=
  ⟨{ Tests.kiln with md := { Tests.kiln.md with lampTicks := 9 } }, by decide +kernel⟩
theorem test_witness_TimeAdvancesAtTheBoundary_3 : ∃ (s : State), s.md.powered = true ∧ s.md.ticking = false ∧
    s.md.mode = .halt ∧ s.md.resetAt = none :=
  ⟨{ Tests.kiln with md := { Tests.kiln.md with mode := .halt, slot := 1 } }, by decide +kernel⟩
theorem test_witness_TimeAdvancesAtTheBoundary_4 : ∃ (s : State), s.md.powered = true ∧ s.md.ticking = false ∧
    s.md.mode = .halt ∧ s.md.resetAt ≠ none ∧ onTwin s = false ∧ s.md.role = .solo :=
  ⟨{ Tests.kiln with md := { Tests.kiln.md with mode := .halt, resetAt := some 3 } }, by decide +kernel⟩
theorem test_witness_InputImageIsWhole_1 : ∃ (s : State), imaged s = true ∧ coursesRun s = false ∧ s.md.mode ≠ .change
    ∧ s.mortar.cascade = [] :=
  ⟨{ Tests.plant .stop with crs := { imageMirages := [⟨0, 1, 0, 0, 1, false⟩] } }, by decide +kernel⟩
theorem test_witness_InputImageIsWhole_2 : ∃ (s : State), imaged s = true ∧ coursesRun s = true ∧ s.md.mode = .run ∧
    s.mortar.cascade = [] ∧ inWindow s = false ∧ (∀ c, c < 9 → courseDue s c = true → c = 0) ∧ (courseDef (theImage s)
    0).isSome = true ∧ (course s 0).state = 0 ∧ 0 < maxScan s ∧ ((course s 0).endLate = true → (course s 0).endTick ≠
    s.time.tick) :=
  ⟨{ Tests.plant .run with time := { (Tests.plant .run).time with tick := 100001 } }, by decide +kernel⟩
theorem test_witness_CommitAppliesTheLayers_1 : ∃ (s : State), s.md.powered = true ∧ s.md.ticking = true ∧ drives s =
    true :=
  ⟨{ Tests.plant .run with crs := { mirages := [(5, ⟨1, 1, 0, 1, 1, false⟩)] } }, by decide +kernel⟩
theorem test_witness_CommitAppliesTheLayers_2 : ∃ (s : State), s.md.powered = true ∧ s.md.ticking = true ∧ drives s =
    false ∧ s.field.overlap = none :=
  ⟨{ Tests.at .sync with md := (Tests.twin .sync .standby).md, field := { State.reset.field with terminal := [(3, 1)] } }, by decide +kernel⟩
theorem test_witness_CourseWatchesAndTraps_1 : ∃ (s : State), coursesRun s = true ∧ inWindow s = false ∧ (course s
    0).state = 1 ∧ (course s 0).watchTick ≠ s.time.tick ∧ (course s 0).warned = false ∧ (course s 0).elapsed + 1 =
    maxScan s :=
  ⟨{ Tests.plant .run with crs := { c := [(0, { state := 1, elapsed := 79 })] } }, by decide +kernel⟩
theorem test_witness_CourseWatchesAndTraps_2 : ∃ (s : State), faultable s = true ∧ (course s 0).state = 1 ∧ (course s
    0).watchTick ≠ s.time.tick ∧ (course s 0).elapsed + 1 = 4 * maxScan s :=
  ⟨{ Tests.plant .run with crs := { c := [(0, { state := 1, elapsed := 319, warned := true })] } }, by decide +kernel⟩
theorem test_witness_CourseWatchesAndTraps_3 : ∃ (s : State) (c : Nat), faultable s = true ∧ c ≠ 0 ∧ (course s
    c).state ≠ 0 ∧ courseDue s c = true ∧ (course s c).watchTick ≠ s.time.tick ∧ ((courseDef (theImage s) c).map
    (·.limit)).getD 8 ≤ min ((course s c).consec + 1) 255 :=
  ⟨{ Tests.plant .run with crs := { c := [(1, { state := 2, consec := 1 })] } }, 1, by decide +kernel⟩
theorem test_witness_CourseWatchesAndTraps_4 : ∃ (s : State) (c brick o : Nat), faultable s = true ∧ (course s
    c).state = 1 ∧ brickOrder s c brick = some o ∧ (course s c).pos ≤ o + 1 :=
  ⟨{ Tests.plant .run with crs := { c := [(0, { state := 1 })] } }, 0, 1, 0, by decide +kernel⟩
theorem test_witness_ActivationEndReleasesOneSet : ∃ (s : State) (c : Nat), (course s c).state = 1 ∧ coursesRun s =
    true :=
  ⟨{ Tests.plant .run with crs := { c := [(0, { state := 1, from_ := 12500000020000 })] } }, 0, by decide +kernel⟩
theorem test_witness_BreakpointsFreezeOrPass_1 : ∃ (s : State) (brick b : Nat) (p : BreakSt), (s.crs.bp.find? fun e =>
    e.2.armed && e.2.brick == brick) = some (b, p) ∧ (course s 0).state = 1 ∧ (course s 0).pos ≤ (brickOrder s 0
    brick).getD 0 ∧ coursesRun s = true ∧ holds s = true :=
  ⟨{ Tests.plant .run with crs := { c := [(0, { state := 1 })], bp := [(2, { armed := true, brick := 1 })] } }, 1, 2, { armed := true, brick := 1 }, by decide +kernel⟩
theorem test_witness_BreakpointsFreezeOrPass_2 : ∃ (s : State) (brick b : Nat) (p : BreakSt), (s.crs.bp.find? fun e =>
    e.2.armed && e.2.brick == brick) = some (b, p) ∧ (course s 0).state = 1 ∧ (course s 0).pos ≤ (brickOrder s 0
    brick).getD 0 ∧ coursesRun s = true ∧ holds s = false :=
  ⟨{ Tests.plant .degraded with crs := { c := [(0, { state := 1 })], bp := [(2, { armed := true, brick := 1 })] } }, 1, 2, { armed := true, brick := 1 }, by decide +kernel⟩
theorem test_witness_BreakpointsFreezeOrPass_3 : ∃ (s : State) (r : Req) (b : Nat) (v : W32), servedOutside s r (w32
    (0x02200000 + b)) = true ∧ b ≤ 15 ∧ v.toNat / 65536 % 8192 = 0 ∧ (tget ({} : BreakSt) s.crs.bp b).armed = false ∧
    (v.toNat / 2 ^ 31 = 1 → brickCourse s (v.toNat % 65536) = some 0) :=
  ⟨Tests.plant .run, Tests.req, 3, 0x80000001#32, by decide +kernel⟩
theorem test_witness_BreakpointsFreezeOrPass_4 : ∃ (s : State) (r : Req) (c : Nat), servedOutside s r (w32 (0x02190000
    + c)) = true ∧ c ≤ 8 ∧ (tfind s.crs.c c).isSome = true :=
  ⟨{ Tests.plant .run with crs := { c := [(0, { overruns := 4 })] } }, Tests.req, 0, by decide +kernel⟩
theorem test_witness_ExchangeIsStagedAndActivated_1 : ∃ (s : State) (r : Req), servedOutside s r exchObj = true ∧
    exchRefusal s [.stop, .run, .hold, .degraded, .oasis] [0, 3, 5, 6, 7] = none ∧ (s.md.role = .active → (sess s
    r.session).role = false) :=
  ⟨Tests.plant .run, Tests.req, by decide +kernel⟩
theorem test_witness_ExchangeIsStagedAndActivated_2 : ∃ (s : State) (r : Req), servedOutside s r exchObj = true ∧
    exchRefusal s [.stop, .run, .hold, .degraded, .oasis] [0, 3, 5, 6, 7] = none ∧ s.md.role = .active ∧ (sess s
    r.session).role = true :=
  ⟨{ Tests.roleSession (Tests.twin .run .active) with kiln := Tests.keyed }, Tests.req, by decide +kernel⟩
theorem test_witness_ExchangeIsStagedAndActivated_3 : ∃ (s : State), s.exch.state = 1 ∧ (tablesHeld s = true →
    s.exch.stageTick + 32000 ≤ s.time.tick) :=
  ⟨{ Tests.plant .run with exch := { state := 1 } }, by decide +kernel⟩
theorem test_witness_ExchangeIsStagedAndActivated_4 : ∃ (s : State) (r : Req) (b : Nat) (ni : Image), servedOutside s
    r exchObj = true ∧ exchRefusal s [.stop, .run, .degraded] [2] = none ∧ s.exch.staged = some (b, ni) ∧ (∀ e ∈
    s.tickets, e.2.status = 3 → regionReplaced (theImage s) ni e.2.kind e.2.index = false) :=
  ⟨{ Tests.plant .run with exch := { state := 2, staged := some (1, Tests.image) } }, Tests.req, 1, Tests.image, by decide +kernel⟩
theorem test_witness_ExchangeIsStagedAndActivated_5 : ∃ (s : State) (r : Req), servedOutside s r exchObj = true ∧
    exchRefusal s [.load, .stop, .sync, .track, .run, .hold, .degraded, .oasis, .halt] [2] = none :=
  ⟨{ Tests.plant .run with exch := { state := 2, staged := some (1, Tests.image) } }, Tests.req, by decide +kernel⟩
theorem test_witness_WindowEndsWithoutQuietTickOrByRollback_1 : ∃ (s : State), inWindow s = true ∧ s.exch.phase = 2 ∧
    s.exch.swapped = false ∧ timedBusy s = true ∧ s.exch.waitFrom + maxScan s ≤ s.time.tick :=
  ⟨{ Tests.plant .change with exch := { state := 4, phase := 2, waitFrom := 99920 }, crs := { c := [(1, { state := 2 })] } }, by decide +kernel⟩
theorem test_witness_WindowEndsWithoutQuietTickOrByRollback_2 : ∃ (s : State) (reason d : Nat) (o : OldVersion),
    inWindow s = true ∧ s.exch.rollback = some (reason, d) ∧ d ≤ s.time.tick ∧ s.exch.old = some o :=
  ⟨{ Tests.plant .change with exch := { state := 4, phase := 3, swapped := true, rollback := some (10, 100000), old := some Tests.oldVersion } }, 10, 100000, Tests.oldVersion, by decide +kernel⟩
theorem test_witness_RegionRequestsAndTheirData_1 : ∃ (s : State) (r : Req) (c : RegionCmd) (k : Nat), servedOutside s
    r 0xE0000000#32 = true ∧ regionCmdOk c = true ∧ (inControl s = true ∨ c.kind = 4) ∧ (s.md.mode = .load → c.kind =
    4) ∧ nextTicket s = some k :=
  ⟨Tests.plant .run, Tests.req, ⟨3, 1, 1, 8, 5, false⟩, 0, by decide +kernel⟩
theorem test_witness_RegionRequestsAndTheirData_2 : ∃ (s : State) (r : Req) (k : Nat) (d : Bytes), served s r (w32
    (0xE0020000 + k)) = true ∧ k ≤ 255 ∧ (ticket s k).status = 1 ∧ (ticket s k).complete = false ∧ (ticket s
    k).data.length + d.length ≤ (ticket s k).length :=
  ⟨{ Tests.plant .run with tickets := [(2, { status := 1, kind := 3, index := 1, length := 8, data := [1, 2] })] }, Tests.req, 2, [3, 4], by decide +kernel⟩
theorem test_witness_RegionRequestsAndTheirData_3 : ∃ (s : State) (r : Req) (k : Nat), served s r (w32 (0xE0040000 +
    k)) = true ∧ k ≤ 255 ∧ 1 ≤ (ticket s k).status ∧ (ticket s k).status ≤ 3 ∧ (ticket s k).committed = false :=
  ⟨{ Tests.plant .run with tickets := [(2, { status := 2, kind := 3, index := 1 })] }, Tests.req, 2, by decide +kernel⟩
theorem test_witness_RegionRequestsAndTheirData_4 : ∃ (s : State) (k : Nat), (ticket s k).status = 1 ∧ (ticket s
    k).complete = false ∧ (ticket s k).lastData + 80000 ≤ s.time.tick :=
  ⟨{ Tests.plant .run with tickets := [(2, { status := 1, kind := 3, index := 1, length := 8, lastData := 20000 })] }, 2, by decide +kernel⟩
theorem test_witness_RegionUpdatesRunOneAtATime_1 : ∃ (s : State) (k : Nat), (ticket s k).status = 1 ∧ (ticket s
    k).complete = true :=
  ⟨{ Tests.plant .run with tickets := [(2, { status := 1, kind := 3, index := 1, length := 8, complete := true, crc := 1 })] }, 2, by decide +kernel⟩
theorem test_witness_RegionUpdatesRunOneAtATime_2 : ∃ (s : State) (k : Nat), (ticket s k).status = 2 ∧ regionFree s k
    = true :=
  ⟨{ Tests.plant .run with tickets := [(2, { status := 2, kind := 3, index := 1 })] }, 2, by decide +kernel⟩
theorem test_witness_RegionUpdatesRunOneAtATime_3 : ∃ (s : State) (k : Nat) (x : TicketSt), s.kiln.follow = none ∧
    (s.tickets.find? fun e => e.2.kind == 4 && e.2.status == 3 && e.2.complete) = some (k, x) :=
  ⟨{ Tests.plant .run with tickets := [(2, { status := 3, kind := 4, data := [1], complete := true })] }, 2, { status := 3, kind := 4, data := [1], complete := true }, by decide +kernel⟩
theorem test_witness_RegionUpdatesRunOneAtATime_4 : ∃ (s : State) (d : Bytes), s.kiln.follow = some d :=
  ⟨{ Tests.twin .track .standby with kiln := { Tests.keyed with follow := some [9] } }, [9], by decide +kernel⟩
theorem test_witness_RegionUpdatesRunOneAtATime_5 : ∃ (s : State), s.md.role = .standby ∧ (s.md.mode = .load ∨
    evaluates s.md.mode = true) :=
  ⟨Tests.twin .track .standby, by decide +kernel⟩
theorem test_witness_RegionUpdatesRunOneAtATime_6 : ∃ (s : State), s.md.role = .standby ∧ (s.md.mode = .load ∨
    evaluates s.md.mode = true) ∧ s.kiln.keyPresent = true :=
  ⟨{ Tests.twin .track .standby with kiln := Tests.keyed }, by decide +kernel⟩
theorem test_witness_RegionUpdatesRunOneAtATime_7 : ∃ (s : State), s.md.role = .standby ∧ (s.md.mode = .load ∨
    evaluates s.md.mode = true) ∧ s.kiln.keyPresent = false :=
  ⟨Tests.twin .track .standby, by decide +kernel⟩
theorem test_witness_RegionUpdatesRunOneAtATime_8 : ∃ (s : State), s.md.role = .standby ∧ (s.md.mode = .load ∨
    evaluates s.md.mode = true) :=
  ⟨Tests.twin .track .standby, by decide +kernel⟩
theorem test_witness_LoopSampleFollowsTheLaw_1 : ∃ (s : State) (c n : Nat) (d : LoopDef), loopDef (theImage s) c =
    some d ∧ running s = true ∧ 30000 ≤ n ∧ n < 90000 ∧ (laneLeft s d.lane).head? = some c ∧ plainAuto s c d = true :=
  ⟨Tests.looped .run, 0, 40000, Tests.loopRec, by decide +kernel⟩
theorem test_witness_LoopSampleFollowsTheLaw_2 : ∃ (s : State) (lane c : Nat) (l : List Nat), running s = true ∧
    laneLeft s lane = c :: l ∧ (c :: l).Nodup :=
  ⟨{ Tests.looped .run with loops := { (Tests.looped .run).loops with inj := [(0, { state := 2 })] } }, 0, 0, [], by decide +kernel⟩
theorem test_witness_LoopRequestsWaitForASample_1 : ∃ (s : State) (r : Req) (c : Nat), servedOutside s r (0x10010000 +
    w32 c) = true ∧ loopModeCheck s c 0 = none :=
  ⟨Tests.looped .run, Tests.req, 0, by decide +kernel⟩
theorem test_witness_LoopRequestsWaitForASample_2 : ∃ (s : State) (r : Req) (c : Nat), servedOutside s r (0x10010000 +
    w32 c) = true ∧ loopModeCheck s c 1 = none :=
  ⟨Tests.looped .run, Tests.req, 0, by decide +kernel⟩
theorem test_witness_LoopRequestsWaitForASample_3 : ∃ (s : State) (r : Req) (c : Nat), servedOutside s r (0x10010000 +
    w32 c) = true ∧ loopModeCheck s c 2 = none :=
  ⟨Tests.looped .run, Tests.req, 1, by decide +kernel⟩
theorem test_witness_LoopRequestsWaitForASample_4 : ∃ (s : State) (r : Req) (c : Nat), servedOutside s r (0x10010000 +
    w32 c) = true ∧ loopModeCheck s c 3 = none :=
  ⟨Tests.looped .run, Tests.req, 1, by decide +kernel⟩
theorem test_witness_LoopRequestsWaitForASample_5 : ∃ (s : State) (r : Req) (c : Nat), servedOutside s r (0x10010000 +
    w32 c) = true ∧ loopModeCheck s c 4 = none :=
  ⟨Tests.looped .run, Tests.req, 0, by decide +kernel⟩
theorem test_witness_LoopRequestsWaitForASample_6 : ∃ (s : State) (r : Req) (c : Nat), servedOutside s r (0x10030000 +
    w32 c) = true ∧ manualCheck s c = none :=
  ⟨{ Tests.looped .stop with loops := {} }, Tests.req, 0, by decide +kernel⟩
theorem test_witness_LoopRequestsWaitForASample_7 : ∃ (s : State) (r : Req) (c : Nat), servedOutside s r (0x10040000 +
    w32 c) = true ∧ applyCheck s c 1 = none :=
  ⟨Tests.looped .run, Tests.req, 0, by decide +kernel⟩
theorem test_witness_TablesAreRebuiltInTheBackground_1 : ∃ (s : State) (k : Nat) (b : Bytes), (tableSt s k).back =
    some b ∧ (tableSt s k).rebuilding = true ∧ (tableSt s k).localDone = false ∧ (tableSt s k).completeTick = none ∧
    tabPointsFinite b = true :=
  ⟨{ Tests.looped .run with loops := { t := [(3, { back := some (toLe 72 0), rebuilding := true })] } }, 3, toLe 72 0, by decide +kernel⟩
theorem test_witness_TablesAreRebuiltInTheBackground_2 : ∃ (s : State) (k : Nat) (b : Bytes) (q : Nat), (tableSt s
    k).back = some b ∧ (tableSt s k).rebuilding = true ∧ (tableSt s k).localDone = false ∧ tabPointsFinite b = false ∧
    (tableSt s k).ticket = some q :=
  ⟨{ Tests.looped .run with loops := { t := [(3, { back := some (toLe 4 2 ++ toLe 60 1 ++ toLe 8 0x7FF0000000000000), rebuilding := true, ticket := some 2 })] }, tickets := [(2, { status := 3, kind := 1, index := 3 })] }, 3, toLe 4 2 ++ toLe 60 1 ++ toLe 8 0x7FF0000000000000, 2, by decide +kernel⟩
theorem test_witness_TablesAreRebuiltInTheBackground_3 : ∃ (s : State) (k q : Nat), (tableSt s k).ticket = some q ∧
    (tableSt s k).rebuilding = true ∧ (tableSt s k).completeTick = none ∧ (tableSt s k).overdue = false ∧ (ticket s
    q).runTick + tabBound (tableSt s k).fore ≤ s.time.tick :=
  ⟨{ Tests.looped .run with loops := { t := [(3, { rebuilding := true, ticket := some 2 })] }, tickets := [(2, { status := 3, kind := 1, index := 3 })] }, 3, 2, by decide +kernel⟩
theorem test_witness_InjectionAndCaptureCommands_1 : ∃ (s : State) (r : Req) (c : Nat) (q : InjCmd), servedOutside s r
    (0x10300000 + w32 c) = true ∧ injStartCheck s c q = none :=
  ⟨{ Tests.limited with md := { (Tests.looped .run).md with injection := true } }, Tests.req, 0, Tests.inj, by decide +kernel⟩
theorem test_witness_InjectionAndCaptureCommands_2 : ∃ (s : State) (r : Req) (c : Nat), servedOutside s r (0x10300000
    + w32 c) = true ∧ (loopDef (theImage s) c).isSome = true ∧ ((injSt s c).state = 1 ∨ (injSt s c).state = 2) :=
  ⟨{ Tests.looped .run with loops := { (Tests.looped .run).loops with inj := [(0, { state := 2 })] } }, Tests.req, 0, by decide +kernel⟩
theorem test_witness_InjectionAndCaptureCommands_3 : ∃ (s : State) (r : Req) (d : Bytes), servedOutside s r
    0xB0000000#32 = true ∧ s.loops.cap.state ≠ 1 ∧ s.loops.cap.state ≠ 2 ∧ captureOk (theImage s) d = true :=
  ⟨Tests.plant .run, Tests.req, Tests.capConfig, by decide +kernel⟩
theorem test_witness_InjectionAndCaptureCommands_4 : ∃ (s : State) (r : Req), servedOutside s r 0xB0010000#32 = true ∧
    captureOk (theImage s) s.loops.cap.config = true ∧ (capTrigger s.loops.cap.config = 5 → s.time.tick + 1 + capPre
    s.loops.cap.config * capRate s.loops.cap.config ≤ le s.loops.cap.config 0x10 8) :=
  ⟨{ Tests.plant .run with loops := { cap := { config := Tests.capConfig } } }, Tests.req, by decide +kernel⟩
theorem test_witness_InjectionAndCaptureCommands_5 : ∃ (s : State) (r : Req), servedOutside s r 0xB0010000#32 = true ∧
    s.loops.cap.state = 1 :=
  ⟨{ Tests.plant .run with loops := { cap := { state := 1 } } }, Tests.req, by decide +kernel⟩
theorem test_witness_InjectionAndCaptureCommands_6 : ∃ (s : State) (r : Req), servedOutside s r 0xB0010000#32 = true ∧
    (s.loops.cap.state = 1 ∨ s.loops.cap.state = 2) :=
  ⟨{ Tests.plant .run with loops := { cap := { state := 2 } } }, Tests.req, by decide +kernel⟩
theorem test_witness_CaptureTakesRowsAroundItsTrigger_1 : ∃ (s : State), rowDue s = true ∧ s.loops.cap.state = 1 ∧
    captureTriggers s (captureSel s) = false :=
  ⟨{ Tests.plant .run with loops := { cap := { config := Tests.capConfig, state := 1 } } }, by decide +kernel⟩
theorem test_witness_CaptureTakesRowsAroundItsTrigger_2 : ∃ (s : State), rowDue s = true ∧ s.loops.cap.state = 1 ∧
    captureTriggers s (captureSel s) = true ∧ 2 ≤ capDepth s.loops.cap.config - capPre s.loops.cap.config :=
  ⟨{ Tests.plant .run with loops := { cap := { config := Tests.capConfig, state := 1, forced := true, rows := [(99998, [0]), (99999, [0])] } } }, by decide +kernel⟩
theorem test_witness_CaptureTakesRowsAroundItsTrigger_3 : ∃ (s : State), rowDue s = true ∧ s.loops.cap.state = 1 ∧
    captureTriggers s (captureSel s) = true ∧ capDepth s.loops.cap.config - capPre s.loops.cap.config ≤ 1 :=
  ⟨{ Tests.plant .run with loops := { cap := { config := toLe 2 1 ++ toLe 2 0 ++ toLe 4 16 ++ toLe 4 15 ++ toLe 2 0 ++ toLe 2 1 ++ toLe 72 0, state := 1, forced := true, rows := List.replicate 15 (99999, [0]) } } }, by decide +kernel⟩
theorem test_witness_CaptureTakesRowsAroundItsTrigger_4 : ∃ (s : State), rowDue s = true ∧ s.loops.cap.state = 2 ∧
    capDepth s.loops.cap.config - capPre s.loops.cap.config ≤ s.loops.cap.after + 1 :=
  ⟨{ Tests.plant .run with loops := { cap := { config := Tests.capConfig, state := 2, after := 13 } } }, by decide +kernel⟩
theorem test_witness_SolverFramesAndJobs_1 : ∃ (s : State) (c : Nat) (p : Bytes) (u : Nat), solverRec (theImage s) c =
    some p ∧ frameDue s c p = true ∧ plainSnapshot s c p = true ∧ (solv2 s c).unit = some u :=
  ⟨{ Tests.solving .run 0xFFFF with solver := { (Tests.solving .run 0xFFFF).solver with j := [(0, { unit := some 0, warm := none, signature := signatureOf (Tests.solverBytes 0xFFFF) })] } }, 0, Tests.solverBytes 0xFFFF, 0, by decide +kernel⟩
theorem test_witness_SolverFramesAndJobs_2 : ∃ (s : State) (c : Nat) (p : Bytes), solverRec (theImage s) c = some p ∧
    frameDue s c p = true ∧ plainSnapshot s c p = true ∧ (solv2 s c).unit = none :=
  ⟨{ Tests.solving .run 0xFFFF with solver := { State.reset.solver with j := [(0, {})] } }, 0, Tests.solverBytes 0xFFFF, by decide +kernel⟩
theorem test_witness_SolverFramesAndJobs_3 : ∃ (s : State) (c : Nat) (p : Bytes) (u i : Nat) (q : Nat × Bool),
    solverRec (theImage s) c = some p ∧ frameDue s c p = true ∧ (solv2 s c).update = none ∧ (solv2 s c).courseParams =
    [] ∧ (solv2 s c).unit = some u ∧ (solverTags (solverOf p) p)[i]? = some q ∧ q.2 = true ∧ (tagValue s q.1).2 =
    false ∧ (∀ e ∈ (solverTags (solverOf p) p).zipIdx, e.2 ≠ i → (tagValue s e.1.1).2 = true) :=
  ⟨{ Tests.plant .run with kiln := { (Tests.plant .run).kiln with image := some ⟨Tests.image.header, Tests.image.recs ++ [⟨0x30, 0, 0, Tests.tagBytes⟩]⟩ }, solver := { State.reset.solver with j := [(0, { unit := some 0 })] } }, 0, Tests.tagBytes, 0, 0, (0x01000005, true), by decide +kernel⟩
theorem test_witness_SolverFramesAndJobs_4 : ∃ (s : State) (ctx n : Nat) (j : JobSt) (o : Outcome9), jobAt s ctx n =
    some j ∧ j.state = 2 ∧ s.time.tick < j.deadline ∧ runJob j = .outcome o :=
  ⟨Tests.jobbed, 0, 60000, Tests.job, { Tests.solved with x := [0], residual := some 0, tau := 0x3EB0C6F7A0B5ED8D, signature := signatureOf (Tests.solverBytes 0xFFFF) }, by decide +kernel⟩
theorem test_witness_SolverFramesAndJobs_5 : ∃ (s : State) (ctx n : Nat) (j : JobSt) (k : Nat), jobAt s ctx n = some j
    ∧ j.state = 2 ∧ s.time.tick < j.deadline ∧ runJob j = .invalid k :=
  ⟨{ Tests.jobbed with solver := { Tests.jobbed.solver with j := [(0, { unit := some 0, frame := some 99998, job := some Tests.badJob })] } }, 0, 60000, Tests.badJob, 0, by decide +kernel⟩
theorem test_witness_SolverFramesAndJobs_6 : ∃ (s : State) (ctx : Nat) (j : JobSt), (solv2 s ctx).job = some j ∧
    j.deadline ≤ s.time.tick :=
  ⟨{ Tests.jobbed with time := { Tests.jobbed.time with tick := 100004 } }, 0, Tests.job, by decide +kernel⟩
theorem test_witness_SolverPublishesAtTheFrameEnd_1 : ∃ (s : State) (c : Nat) (d : SolverDef) (f : Nat) (o :
    Outcome9), frameEnds s c d f = true ∧ ownOutcome s c f o = true ∧ o.fresh = true ∧ (solv s c).fallback = false ∧ 1
    ≤ d.heldLimit :=
  ⟨Tests.framed 0xFFFF { goodX := [0], consecHeld := 2 } Tests.solved, 0, solverOf (Tests.solverBytes 0xFFFF), 99992, Tests.solved, by decide +kernel⟩
theorem test_witness_SolverPublishesAtTheFrameEnd_2 : ∃ (s : State) (c : Nat) (d : SolverDef) (f : Nat) (o :
    Outcome9), frameEnds s c d f = true ∧ ownOutcome s c f o = true ∧ o.fresh = false ∧ (solv s c).fallback = false ∧
    (d.fbBrick = 0xFFFF ∨ (solv s c).consecHeld + 1 < d.heldLimit) :=
  ⟨Tests.framed 0xFFFF { goodX := [0], consecHeld := 1 } (heldOutcome 5 0), 0, solverOf (Tests.solverBytes 0xFFFF), 99992, heldOutcome 5 0, by decide +kernel⟩
theorem test_witness_SolverPublishesAtTheFrameEnd_3 : ∃ (s : State) (c : Nat) (d : SolverDef) (f : Nat) (o :
    Outcome9), frameEnds s c d f = true ∧ ownOutcome s c f o = true ∧ o.fresh = false ∧ (solv s c).fallback = false ∧
    d.fbBrick ≠ 0xFFFF ∧ d.heldLimit ≤ (solv s c).consecHeld + 1 ∧ 1 ≤ d.recover :=
  ⟨Tests.framed 1 { goodX := [0], consecHeld := 2 } (heldOutcome 5 0), 0, solverOf (Tests.solverBytes 1), 99992, heldOutcome 5 0, by decide +kernel⟩
theorem test_witness_SolverPublishesAtTheFrameEnd_4 : ∃ (s : State) (c : Nat) (d : SolverDef) (f : Nat) (o :
    Outcome9), frameEnds s c d f = true ∧ ownOutcome s c f o = true ∧ o.fresh = true ∧ (solv s c).fallback = true ∧ 1
    ≤ d.heldLimit :=
  ⟨Tests.framed 1 { goodX := [0], fallback := true, freshCount := 1 } Tests.solved, 0, solverOf (Tests.solverBytes 1), 99992, Tests.solved, by decide +kernel⟩
theorem test_witness_SolverPublishesAtTheFrameEnd_5 : ∃ (s : State) (c : Nat) (d : SolverDef) (f : Nat) (q :
    OutcomeMortar), frameEnds s c d f = true ∧ s.md.role = .standby ∧ (solv2 s c).mortar = some q ∧ q.frame = f ∧
    q.fallback = false ∧ (solv s c).fallback = false ∧ (d.fbBrick ≠ 0xFFFF ∨ q.consecHeld < d.heldLimit) :=
  ⟨Tests.told, 0, solverOf (Tests.solverBytes 0xFFFF), 99992, Tests.toldOutcome, by decide +kernel⟩
theorem test_witness_SolverPublishesAtTheFrameEnd_6 : ∃ (s : State) (c : Nat) (d : SolverDef) (f : Nat) (q :
    OutcomeMortar), frameEnds s c d f = true ∧ s.md.role = .standby ∧ (solv2 s c).mortar = some q ∧ q.frame = f ∧
    q.fallback = true :=
  ⟨{ Tests.told with solver := { State.reset.solver with s := [(0, { goodX := [0], fallback := true })], j := [(0, { unit := some 0, frame := some 99992, outcome := some (99992, heldOutcome 5 0), mortar := some { Tests.toldOutcome with fallback := true }, fallbackVals := [7] })] } }, 0, solverOf (Tests.solverBytes 0xFFFF), 99992, { Tests.toldOutcome with fallback := true }, by decide +kernel⟩
theorem test_witness_LostTilesShrinkTheirUnits_1 : ∃ (s : State) (i : Nat) (x : TileSt), s.md.powered = true ∧
    s.ev.running = true ∧ s.solver.tiles[i]? = some x ∧ x.online = true ∧ i < 4 :=
  ⟨{ Tests.solving .run 0xFFFF with solver := { (Tests.solving .run 0xFFFF).solver with tiles := [⟨true, false, 0, 0, 4⟩, ⟨true, false, 0, 0, 4⟩, ⟨true, false, 0, 0, 4⟩, ⟨true, false, 0, 0, 4⟩] } }, 1, ⟨true, false, 0, 0, 4⟩, by decide +kernel⟩
theorem test_witness_LostTilesShrinkTheirUnits_2 : ∃ (s : State), s.md.powered = true ∧ s.ev.running = true :=
  ⟨Tests.solving .run 0xFFFF, by decide +kernel⟩
theorem test_witness_LostTilesShrinkTheirUnits_3 : ∃ (s : State) (i : Nat) (x : TileSt), s.md.powered = true ∧
    s.ev.running = true ∧ s.solver.tiles[i]? = some x ∧ x.online = true ∧ i < 4 :=
  ⟨Tests.solving .run 0xFFFF, 3, ⟨true, false, 0, 3, 1⟩, by decide +kernel⟩
theorem test_witness_PartnerReportsDecideTheRole_1 : ∃ (s : State) (lane : Nat) (f : StatusFrame), linkServed s = true
    ∧ lane ≤ 1 ∧ f.mode ≠ 3 ∧ f.mode ≠ 4 ∧ f.ownToken = false :=
  ⟨Tests.tracked .run, 0, Tests.statusFrame 5 false, by decide +kernel⟩
theorem test_witness_PartnerReportsDecideTheRole_2 : ∃ (s : State) (lane : Nat) (f : StatusFrame), linkServed s = true
    ∧ lane ≤ 1 ∧ (f.mode = 3 ∨ f.mode = 4) ∧ f.ownToken = false ∧ s.md.role = .solo ∧ s.md.token = true ∧ s.md.mode ≠
    .halt ∧ s.pair.roleDue ≠ some .active :=
  ⟨{ Tests.twin .run .solo with md := { (Tests.twin .run .solo).md with token := true } }, 0, Tests.statusFrame 3 false, by decide +kernel⟩
theorem test_witness_PartnerReportsDecideTheRole_3 : ∃ (s : State) (lane : Nat) (f : StatusFrame), linkServed s = true
    ∧ lane ≤ 1 ∧ f.ownToken = true ∧ wiringWindow s = false ∧ s.md.token = true ∧ s.md.mode ≠ .halt :=
  ⟨{ Tests.tracked .run with md := { (Tests.tracked .run).md with token := true } }, 0, Tests.statusFrame 5 true, by decide +kernel⟩
theorem test_witness_PartnerReportsDecideTheRole_4 : ∃ (s : State) (k : Nat), linkServed s = true ∧ s.pair.shadowTick
    = some k ∧ k + 8 ≤ s.time.tick ∧ s.md.role = .active ∧ s.md.mode ≠ .halt ∧ s.pair.roleDue ≠ some .solo :=
  ⟨{ Tests.tracked .run with pair := { Tests.linked with shadowTick := some 99992 } }, 99992, by decide +kernel⟩
theorem test_witness_AbdicationLeadsToTakeover_1 : ∃ (s : State), linkServed s = true :=
  ⟨Tests.shadow .track, by decide +kernel⟩
theorem test_witness_AbdicationLeadsToTakeover_2 : ∃ (s : State) (one : Bool) (n : Nat), linkServed s = true ∧ shadows
    s = true ∧ s.pair.detected = none ∧ lineReleased s one n = true :=
  ⟨{ Tests.shadow .track with pair := { (Tests.shadow .track).pair with partnerToken := false } }, false, 30000, by decide +kernel⟩
theorem test_witness_AbdicationLeadsToTakeover_3 : ∃ (s : State) (one : Bool) (n : Nat), linkServed s = true ∧
    s.md.role = .standby ∧ s.md.mode = .sync ∧ s.pair.detected = none ∧ lineReleased s one n = true :=
  ⟨{ Tests.shadow .sync with pair := { (Tests.shadow .sync).pair with partnerToken := false } }, false, 30000, by decide +kernel⟩
theorem test_witness_AbdicationLeadsToTakeover_4 : ∃ (s : State) (k : Nat), linkServed s = true ∧ shadows s = true ∧
    s.pair.detected = some k ∧ k < s.time.tick ∧ [Mode.stop, .run, .change, .degraded, .oasis].contains (takeoverMode
    s) = true :=
  ⟨{ Tests.shadow .track with pair := { (Tests.shadow .track).pair with detected := some 99999 } }, 99999, by decide +kernel⟩
theorem test_witness_AbdicationLeadsToTakeover_5 : ∃ (s : State), (∀ k, s.pair.detected = some k → s.time.tick ≤ k) :=
  ⟨{ Tests.shadow .track with pair := { (Tests.shadow .track).pair with detected := some 100000 } }, by decide +kernel⟩
theorem test_witness_RolesSwapAtTheirTick_1 : ∃ (s : State) (k : Nat), linkServed s = true ∧ s.md.swapAt = some k ∧ k
    ≤ s.time.tick ∧ s.md.role = .active ∧ swapMode s.md.mode = true ∧ partnerTracks s = true :=
  ⟨{ Tests.tracked .run with md := { (Tests.tracked .run).md with token := true, swapAt := some 100000 } }, 100000, by decide +kernel⟩
theorem test_witness_RolesSwapAtTheirTick_2 : ∃ (s : State) (k : Nat), linkServed s = true ∧ s.md.swapAt = some k ∧ k
    ≤ s.time.tick ∧ s.md.role = .standby ∧ s.md.mode = .track ∧ swapMode (modeOfCode s.mortar.activeMode) = true :=
  ⟨{ Tests.shadow .track with md := { (Tests.shadow .track).md with swapAt := some 100000 } }, 100000, by decide +kernel⟩
theorem test_witness_RolesSwapAtTheirTick_3 : ∃ (s : State) (k : Nat), linkServed s = true ∧ s.md.swapAt = some k ∧ k
    ≤ s.time.tick ∧ s.md.role = .active ∧ (swapMode s.md.mode && partnerTracks s) = false :=
  ⟨{ Tests.twin .run .active with md := { (Tests.twin .run .active).md with token := true, swapAt := some 100000 } }, 100000, by decide +kernel⟩
theorem test_witness_RehearsalsLanesAndForming_1 : ∃ (s : State) (k : Nat), s.pair.watchFrom = some k ∧ k + 8000 ≤
    s.time.tick ∧ drives s = true ∧ s.pair.watchFault = false ∧ s.pair.rehearsing = true :=
  ⟨{ Tests.tracked .run with pair := { Tests.linked with watchFrom := some 92000, rehearsing := true } }, 92000, by decide +kernel⟩
theorem test_witness_RehearsalsLanesAndForming_2 : ∃ (s : State), s.md.role = .active ∧ (mortarSel (theImage
    s)).rehearsalDays ≠ 0 ∧ (mortarSel (theImage s)).rehearsalDays < ownDays s ∧ s.pair.overdueAt = none :=
  ⟨Tests.tracked .run, by decide +kernel⟩
theorem test_witness_RehearsalsLanesAndForming_3 : ∃ (s : State) (lane : Nat), linkServed s = true ∧ lane ≤ 1 ∧
    (s.pair.lanes.getD lane {}).state = 2 ∧ (s.pair.lanes.getD (1 - lane) {}).state = 2 ∧ s.pair.lanes.length = 2 :=
  ⟨Tests.tracked .run, 1, by decide +kernel⟩
theorem test_witness_RehearsalsLanesAndForming_4 : ∃ (s : State) (lane : Nat), linkServed s = true ∧ lane ≤ 1 ∧
    (s.pair.lanes.getD lane {}).state = 2 ∧ (s.pair.lanes.getD (1 - lane) {}).state ≠ 2 ∧ s.pair.lanes.length = 2 :=
  ⟨{ Tests.shadow .track with pair := { Tests.linked with lanes := [{ state := 2, lastTick := 99990 }, {}] } }, 0, by decide +kernel⟩
theorem test_witness_RehearsalsLanesAndForming_5 : ∃ (s : State) (lane : Nat), linkServed s = true ∧ lane ≤ 1 ∧
    (s.pair.lanes.getD lane {}).state ≠ 2 ∧ 80 ≤ (s.pair.lanes.getD lane {}).run :=
  ⟨{ Tests.twin .run .active with pair := { State.reset.pair with lanes := [{}, { state := 1, run := 80 }] } }, 1, by decide +kernel⟩
theorem test_witness_RehearsalsLanesAndForming_6 : ∃ (s : State), linkServed s = true :=
  ⟨Tests.twin .load .standby, by decide +kernel⟩
theorem test_witness_RehearsalsLanesAndForming_7 : ∃ (s : State), linkServed s = true ∧ linkLost s = false ∧
    s.pair.noCommon = false ∧ s.md.role = .active ∧ partnerIn s [.sync] = true :=
  ⟨{ Tests.tracked .run with pair := { Tests.linked with status := some (Tests.statusFrame 3 false) } }, by decide +kernel⟩
theorem test_witness_RehearsalsLanesAndForming_8 : ∃ (s : State) (f : StatusFrame), linkServed s = true ∧ linkLost s =
    false ∧ s.pair.noCommon = false ∧ s.md.role = .standby ∧ s.md.mode = .sync ∧ s.pair.status = some f :=
  ⟨Tests.shadow .sync, ⟨99999, modeCode .run, 1, true, false, 0, 0, [], 0, []⟩, by decide +kernel⟩
theorem test_witness_RehearsalsLanesAndForming_9 : ∃ (s : State), linkServed s = true ∧ linkLost s = false ∧ s.md.role
    = .standby ∧ s.md.mode = .sync ∧ bulkArrived s = true ∧ (∀ k ∈ [0, 1, 2, 3], s.pair.stale.getD k 0 ≤ staleLimit s
    k) ∧ s.exch.state ≠ 4 :=
  ⟨{ Tests.shadow .sync with pair := { (Tests.shadow .sync).pair with bulk := some 4096, syncTick := 90000 }, mortar := { (Tests.shadow .sync).mortar with tick := some ⟨99999, [], [], [], 0, false, none, 0, true⟩, nextSet := [(0, 4)] } }, by decide +kernel⟩
theorem test_witness_RehearsalsLanesAndForming_10 : ∃ (s : State) (stage : Nat), s.md.powered = true ∧ ifaceAnswers s
    1 = true ∧ (s.net.lan.getD 2 {}).up = true ∧ 1 ≤ stage ∧ stage ≤ 6 :=
  ⟨{ Tests.at .stop with net := { (Tests.at .stop).net with lan := [{}, {}, { up := true }] } }, 3, by decide +kernel⟩
theorem test_witness_MortarIsTakenAndApplied_1 : ∃ (s : State) (f : TickMortar), linkServed s = true ∧ follows s =
    true ∧ s.pair.noCommon = false ∧ f.closes = true ∧ f.exch = 0 ∧ (f.loops.map (·.ctx)).Nodup :=
  ⟨Tests.shadow .track, ⟨99999, [], [(1, 1)], [], 0, false, none, 0, true⟩, by decide +kernel⟩
theorem test_witness_MortarIsTakenAndApplied_2 : ∃ (s : State) (f : TickMortar), linkServed s = true ∧ follows s =
    true ∧ s.pair.noCommon = false ∧ f.closes = false :=
  ⟨Tests.shadow .track, ⟨99999, [], [(1, 1)], [], 0, false, none, 0, false⟩, by decide +kernel⟩
theorem test_witness_MortarIsTakenAndApplied_3 : ∃ (s : State) (m : Mortar), linkServed s = true ∧ follows s = true ∧
    s.pair.noCommon = false ∧ waitsForBoundary m = true :=
  ⟨Tests.shadow .track, .settings 1 9, by decide +kernel⟩
theorem test_witness_MortarIsTakenAndApplied_4 : ∃ (s : State), linkServed s = true ∧ s.pair.noCommon = false :=
  ⟨Tests.shadow .track, by decide +kernel⟩
theorem test_witness_MortarIsTakenAndApplied_5 : ∃ (s : State) (cls : Nat), linkServed s = true ∧ shadows s = true ∧
    cls ≤ 3 ∧ staleLimit s cls < s.pair.stale.getD cls 0 :=
  ⟨{ Tests.shadow .track with pair := { (Tests.shadow .track).pair with stale := [0, 0, 70000, 0] } }, 2, by decide +kernel⟩
theorem test_witness_SafetyDecisionSetsEveryPermit_1 : ∃ (s : State), evaluates s.md.mode = true ∧ s.safe.evalTick ≠
    some s.time.tick :=
  ⟨Tests.guarded .run, by decide +kernel⟩
theorem test_witness_SafetyDecisionSetsEveryPermit_2 : ∃ (s : State) (la : Nat) (da : Bool) (i : Nat) (d : SiDef) (j :
    Nat) (ax : AxisDef), evaluates s.md.mode = true ∧ s.safe.evalTick ≠ some s.time.tick ∧ (i, d) ∈ siDefs (theImage
    s) ∧ (j, ax) ∈ axisDefs (theImage s) ∧ s.safe.chA = true ∧ la = 0 ∧ da = true ∧ (siSt s i).lostA = false ∧ ((siSt
    s i).a = false ∨ (siSt s i).b = false) ∧ (siSt s i).lostB = false ∧ ax.ss1 = false ∧ ax.demand.testBit i = true ∧
    (axSt s j).state = 1 :=
  ⟨Tests.opened, 0, true, 0, ⟨1, false, 4, 10⟩, 0, axisOf ((recOf Tests.guards 0x40 0x20).getD []), by decide +kernel⟩
theorem test_witness_SafetyDecisionSetsEveryPermit_3 : ∃ (s : State) (la : Nat), s.md.mode = .run ∧ inControl s = true
    ∧ s.safe.evalTick ≠ some s.time.tick ∧ s.safe.chA = true ∧ la ≠ 0 :=
  ⟨Tests.guarded .run, 2, by decide +kernel⟩
theorem test_witness_SafetyDecisionSetsEveryPermit_4 : ∃ (s : State), (s.safe.evalTick = some s.time.tick ∨ evaluates
    s.md.mode = false) :=
  ⟨{ Tests.guarded .run with safe := { (Tests.guarded .run).safe with evalTick := some 100000 } }, by decide +kernel⟩
theorem test_witness_SafetyTestsResetsAndTimeouts_1 : ∃ (s : State), onTwin s = true ∧ evaluates s.md.mode = true :=
  ⟨{ Tests.guarded .run with md := { (Tests.guarded .run).md with slot := 1, role := .active } }, by decide +kernel⟩
theorem test_witness_SafetyTestsResetsAndTimeouts_2 : ∃ (s : State) (i c : Nat) (d : SiDef), siDef (theImage s) i =
    some d ∧ evaluates s.md.mode = true ∧ d.mode ≠ 3 ∧ c ≤ 1 ∧ pulseDue s i c = true ∧ (if c = 0 then (siSt s i).lostA
    else (siSt s i).lostB) = false :=
  ⟨Tests.pulsed (Tests.guarded .run), 0, 0, ⟨1, false, 4, 10⟩, by decide +kernel⟩
theorem test_witness_SafetyTestsResetsAndTimeouts_3 : ∃ (s : State) (i c : Nat) (d : SiDef), siDef (theImage s) i =
    some d ∧ evaluates s.md.mode = true ∧ d.mode ≠ 3 ∧ c ≤ 1 ∧ pulseDue s i c = true ∧ (if c = 0 then (siSt s i).lostA
    else (siSt s i).lostB) = true ∧ (siSt s i).restored = false :=
  ⟨Tests.pulsed { Tests.guarded .run with safe := { (Tests.guarded .run).safe with si := [(0, { lostA := true, passes := 7 })] } }, 0, 0, ⟨1, false, 4, 10⟩, by decide +kernel⟩
theorem test_witness_SafetyTestsResetsAndTimeouts_4 : ∃ (s : State) (j w : Nat) (below on : Bool), (axisDef (theImage
    s) j).isSome = true ∧ evaluates s.md.mode = true ∧ w ≤ 1 ∧ (if w = 0 then (axSt s j).pfaultA else (axSt s
    j).pfaultB) = false ∧ (!below || ((if w = 0 then (axSt s j).swA else (axSt s j).swB) && !on)) = true :=
  ⟨Tests.guarded .run, 0, 0, false, true, by decide +kernel⟩
theorem test_witness_SafetyTestsResetsAndTimeouts_5 : ∃ (s : State) (src k : Nat), s.safe.resetSeen = some (src, k) ∧
    k ≤ s.time.tick ∧ evaluates s.md.mode = true :=
  ⟨{ Tests.guarded .degraded with safe := { (Tests.guarded .degraded).safe with resetSeen := some (1, 100000), expiry := some (10 ^ 15), loss := 3 } }, 1, 100000, by decide +kernel⟩
theorem test_witness_SafetyTestsResetsAndTimeouts_6 : ∃ (s : State) (k : Nat) (d : ConnDef), connDef (theImage s) k =
    some d ∧ evaluates s.md.mode = true ∧ d.kind ≠ 3 ∧ (connSt s k).expired = false ∧ (connSt s k).lastTick + d.wd ≤
    s.time.tick :=
  ⟨{ Tests.guarded .run with safe := { (Tests.guarded .run).safe with conn := [(0, { valid := true, lastTick := 99992 })] } }, 0, ⟨1, 1, 0, 0, 8, 5⟩, by decide +kernel⟩
theorem test_witness_SafetyTestsResetsAndTimeouts_7 : ∃ (s : State) (n x : Nat), s.safe.expiry = some x ∧ evaluates
    s.md.mode = true ∧ s.safe.expired = false ∧ x - (s.time.ns + n) ≤ 3600 * 10 ^ 9 ∧ s.safe.notices < (if x -
    (s.time.ns + n) ≤ 600 * 10 ^ 9 then 2 else 1) :=
  ⟨{ Tests.guarded .degraded with safe := { (Tests.guarded .degraded).safe with expiry := some (12500000000000 + 3600 * 10 ^ 9) } }, 0, 12500000000000 + 3600 * 10 ^ 9, by decide +kernel⟩
theorem test_witness_SafetyTestsResetsAndTimeouts_8 : ∃ (s : State) (n x : Nat), s.safe.expiry = some x ∧ evaluates
    s.md.mode = true ∧ s.safe.expired = false ∧ x ≤ s.time.ns + n :=
  ⟨{ Tests.guarded .degraded with safe := { (Tests.guarded .degraded).safe with expiry := some 12500000000000 } }, 0, 12500000000000, by decide +kernel⟩
theorem test_witness_InputsAreStampedAndJudged_1 : ∃ (s : State) (kk : Nat) (v : Bool) (n : Nat) (e : IoEntry),
    ioByKind (theImage s) kk [1, 2, 3] = some (n, e) ∧ fieldRuns s = true ∧ (chan s kk).level ≠ v ∧ s.field.soe.length
    < 8192 :=
  ⟨Tests.fielded .run, 0, true, 0, ioEntryAt (Tests.channel 1 0 1 1 0 1 5 0 false) 0, by decide +kernel⟩
theorem test_witness_InputsAreStampedAndJudged_2 : ∃ (s : State) (r : Req), servedRead s r 0x30100000#32 = true :=
  ⟨{ Tests.fielded .run with field := { (Tests.fielded .run).field with soe := [⟨5000, 0, true, 2, 0⟩, ⟨6000, 0, false, 2, 1⟩] } }, Tests.req, by decide +kernel⟩
theorem test_witness_InputsAreStampedAndJudged_3 : ∃ (s : State) (a : Nat), a ≤ 15 ∧ 4 ≤ (chanRun s (0x30 + a)).under
    ∧ (chan s (0x30 + a)).under = false :=
  ⟨Tests.chanIs (Tests.fielded .run) 0x30 {} { under := 4 }, 0, by decide +kernel⟩
theorem test_witness_InputsAreStampedAndJudged_4 : ∃ (s : State) (a : Nat), a ≤ 15 ∧ 4 ≤ (chanRun s (0x30 + a)).above
    ∧ (chan s (0x30 + a)).above = false :=
  ⟨Tests.chanIs (Tests.fielded .run) 0x3F {} { above := 4 }, 15, by decide +kernel⟩
theorem test_witness_InputsAreStampedAndJudged_5 : ∃ (s : State) (a : Nat), a ≤ 15 ∧ ((chan s (0x30 + a)).under &&
    decide (80 ≤ (chanRun s (0x30 + a)).good) || (chan s (0x30 + a)).above && decide (80 ≤ (chanRun s (0x30 +
    a)).goodOver)) = true :=
  ⟨Tests.chanIs (Tests.fielded .run) 0x30 { under := true } { good := 80 }, 0, by decide +kernel⟩
theorem test_witness_InputsAreStampedAndJudged_6 : ∃ (s : State) (p : Nat), p ≤ 1 ∧ (chanRun s (0x48 + p)).fault ≠ 0 ∧
    (chan s (0x48 + p)).signal = false :=
  ⟨Tests.chanIs (Tests.fielded .run) 0x49 {} { fault := 3 }, 1, by decide +kernel⟩
theorem test_witness_InputsAreStampedAndJudged_7 : ∃ (s : State) (p : Nat), p ≤ 1 ∧ s.field.fault = false ∧ 8 ≤
    (chanRun s (0x48 + p)).clean ∧ (chan s (0x48 + p)).signal = true :=
  ⟨Tests.chanIs (Tests.fielded .run) 0x48 { signal := true, measured := 0x4028000000000000 } { clean := 8 }, 0, by decide +kernel⟩
theorem test_witness_OutputsAreProtectedAndReadBack_1 : ∃ (s : State) (kk : Nat) (e : IoEntry), doEntry s kk = some e
    ∧ doOn s kk = true :=
  ⟨Tests.fielded .run, 1, ioEntryAt (Tests.channel 4 1 1 1 1 8 0 80 false) 0, by decide +kernel⟩
theorem test_witness_OutputsAreProtectedAndReadBack_2 : ∃ (s : State) (kk : Nat) (e : IoEntry), doEntry s kk = some e
    ∧ doOn s kk = true :=
  ⟨Tests.fielded .run, 1, ioEntryAt (Tests.channel 4 1 1 1 1 8 0 80 false) 0, by decide +kernel⟩
theorem test_witness_OutputsAreProtectedAndReadBack_3 : ∃ (s : State) (kk : Nat) (e : IoEntry), doEntry s kk = some e
    ∧ (chan s kk).tripped = true ∧ (chan s kk).latched = false ∧ ((chan s kk).targets.getD 0 none).isSome = true ∧
    (chan s kk).offTick + e.param ≤ s.time.tick :=
  ⟨Tests.chanIs (Tests.fielded .run) 2 { tripped := true, overload := true, offTick := 99920, targets := [some 0x3FF0000000000000] } {}, 2, ioEntryAt (Tests.channel 4 1 1 1 2 0 0 80 false) 0, by decide +kernel⟩
theorem test_witness_OutputsAreProtectedAndReadBack_4 : ∃ (s : State) (r : Req) (kk : Nat), servedOutside s r
    (0x30020000 + w32 kk) = true ∧ kk ≤ 0x49 ∧ chanClass s kk ≠ 0 :=
  ⟨Tests.chanIs (Tests.fielded .run) 1 { tripped := true, latched := true, retries := 5, readback := true } { readbackOk := false }, Tests.req, 1, by decide +kernel⟩
theorem test_witness_OutputsAreProtectedAndReadBack_5 : ∃ (s : State) (g : Nat) (cs : List Nat), 80 ≤ (groupSt s
    g).overRun ∧ (cs.filter fun k => groupOf k == g && (doEntry s k).isSome && doOn s k) ≠ [] :=
  ⟨{ Tests.fielded .run with field := { (Tests.fielded .run).field with group := [(1, { overRun := 80 })] } }, 1, [2, 1, 9], by decide +kernel⟩
theorem test_witness_OutputsAreProtectedAndReadBack_6 : ∃ (s : State) (kk : Nat), (doEntry s kk).isSome = true ∧ (chan
    s kk).openWire = false ∧ 80 ≤ (chanRun s kk).open_ :=
  ⟨Tests.chanIs (Tests.fielded .run) 1 {} { open_ := 80 }, 1, by decide +kernel⟩
theorem test_witness_OutputsAreProtectedAndReadBack_7 : ∃ (s : State) (kk : Nat), (doEntry s kk).isSome = true ∧ (chan
    s kk).openWire = true ∧ 80 ≤ (chanRun s kk).closed :=
  ⟨Tests.chanIs (Tests.fielded .run) 1 { openWire := true } { closed := 80 }, 1, by decide +kernel⟩
theorem test_witness_OutputsAreProtectedAndReadBack_8 : ∃ (s : State) (g : Nat), 1 ≤ g ∧ g ≤ 6 ∧ (groupSt s g).fell =
    true ∧ (groupSt s g).low = false ∧ fieldRuns s = true :=
  ⟨{ Tests.fielded .run with field := { (Tests.fielded .run).field with group := [(6, { fell := true, volts := 0x4031000000000000 })] } }, 6, by decide +kernel⟩
theorem test_witness_OutputsAreProtectedAndReadBack_9 : ∃ (s : State) (g : Nat), (groupSt s g).low = true ∧ 80 ≤
    (groupSt s g).good :=
  ⟨{ Tests.fielded .run with field := { (Tests.fielded .run).field with group := [(6, { low := true, good := 80 })] } }, 6, by decide +kernel⟩
theorem test_witness_OutputsAreProtectedAndReadBack_10 : ∃ (s : State) (kk : Nat), 3 ≤ (chanRun s kk).readback ∧ (0x30
    ≤ kk ∨ ((chan s kk).targets.getD 0 none).isSome = true) ∧ (chan s kk).readback = false ∧ s.pair.watchFrom = none
    :=
  ⟨Tests.chanIs (Tests.fielded .run) 1 { targets := [some 0x3FF0000000000000] } { readback := 3 }, 1, by decide +kernel⟩
theorem test_witness_OutputsAreProtectedAndReadBack_11 : ∃ (s : State) (kk k : Nat), 3 ≤ (chanRun s kk).readback ∧ kk
    < 0x30 ∧ (chan s kk).targets.getD 0 none = none ∧ (chan s kk).extDrive = false ∧ s.pair.watchFrom = some k ∧
    s.time.tick < k + 8000 :=
  ⟨{ Tests.chanIs (Tests.fielded .run) 1 { targets := [none] } { readback := 3 } with pair := { State.reset.pair with watchFrom := some 99000 } }, 1, 99000, by decide +kernel⟩
theorem test_witness_OutputsAreProtectedAndReadBack_12 : ∃ (s : State) (a : Nat), a ≤ 7 ∧ 4 ≤ (chanRun s (0x40 +
    a)).lost ∧ (chan s (0x40 + a)).compliance = false :=
  ⟨Tests.chanIs (Tests.fielded .run) 0x40 {} { lost := 4 }, 0, by decide +kernel⟩
theorem test_witness_OutputsAreProtectedAndReadBack_13 : ∃ (s : State) (a : Nat), a ≤ 7 ∧ 80 ≤ (chanRun s (0x40 +
    a)).regained ∧ (chan s (0x40 + a)).compliance = true :=
  ⟨Tests.chanIs (Tests.fielded .run) 0x47 { compliance := true } { regained := 80 }, 7, by decide +kernel⟩
theorem test_witness_SilenceWatchdogAndTrim_1 : ∃ (s : State) (n : Nat), drives s = true ∧ s.field.refreshed = true ∧
    s.field.silence = false ∧ tSilence (theImage s) * tickNs + 105000 ≤ (s.time.tick - s.field.lastRefresh) * tickNs +
    n :=
  ⟨{ Tests.fielded .run with field := { (Tests.fielded .run).field with lastRefresh := 99839 } }, 105000, by decide +kernel⟩
theorem test_witness_SilenceWatchdogAndTrim_2 : ∃ (s : State), drives s = true ∧ s.field.refreshed = true ∧
    s.field.fault = false :=
  ⟨Tests.fielded .run, by decide +kernel⟩
theorem test_witness_SilenceWatchdogAndTrim_3 : ∃ (s : State) (r : Req), servedOutside s r 0x30210000#32 = true ∧
    inControl s = true ∧ s.md.mode = .stop :=
  ⟨Tests.fielded .stop, Tests.req, by decide +kernel⟩
theorem test_witness_SilenceWatchdogAndTrim_4 : ∃ (s : State) (r : Req) (a : Nat) (v : F64), servedOutside s r
    (0x30200000 + w32 a) = true ∧ a ≤ 7 ∧ chanClass s (0x40 + a) ≠ 0 ∧ (fLe 0 v && fLe v (fOfInt 24)) = true :=
  ⟨Tests.fielded .stop, Tests.req, 0, 0x4028000000000000, by decide +kernel⟩
theorem test_witness_RingCyclesJoinsAndHops_1 : ∃ (s : State) (f : RingFrame) (d : StationDef), newCycle s f d = true
    ∧ f.tick = s.time.tick ∧ f.at_ ≤ 20000 :=
  ⟨Tests.ringed .run { state := 3, lastCycle := some 99999, mods := [(2, { valid := true, data := [4, 4] })] }, Tests.ringFrame 100000 20000, Tests.ringStation, by decide +kernel⟩
theorem test_witness_RingCyclesJoinsAndHops_2 : ∃ (s : State) (f : RingFrame) (d : StationDef), newCycle s f d = true
    ∧ f.tick = s.time.tick ∧ 20000 < f.at_ :=
  ⟨Tests.ringed .run { state := 3, lastCycle := some 99999 }, Tests.ringFrame 100000 20001, Tests.ringStation, by decide +kernel⟩
theorem test_witness_RingCyclesJoinsAndHops_3 : ∃ (s : State) (f : RingFrame), s.ring.forwarding = true ∧ (s.md.mode
    == .load || evaluates s.md.mode) = true ∧ (stationDef (theImage s) f.station).isSome = true ∧ frameSound f = false
    :=
  ⟨Tests.ringed .run { state := 3 }, { Tests.ringFrame 100000 20000 with fcsOk := false }, by decide +kernel⟩
theorem test_witness_RingCyclesJoinsAndHops_4 : ∃ (s : State) (k : Nat) (d : StationDef), stationDef (theImage s) k =
    some d ∧ (stn s k).state = 3 ∧ 1 ≤ s.time.tick ∧ cycleTick d (s.time.tick - 1) = true ∧ ((stn s k).lastCycle.elim
    true fun n => decide (n < s.time.tick - 1)) = true :=
  ⟨Tests.ringed .run { state := 3, lastCycle := some 99998, mods := [(1, { valid := true })] }, 3, Tests.ringStation, by decide +kernel⟩
theorem test_witness_RingCyclesJoinsAndHops_5 : ∃ (s : State), s.ring.opened = true ∧ s.ring.hopsDown = [] :=
  ⟨{ Tests.ringed .run {} with ring := { (Tests.ringed .run {}).ring with opened := true, openHop := 3, hopsDown := [], hopsTold := [3] } }, by decide +kernel⟩
theorem test_witness_RingCyclesJoinsAndHops_6 : ∃ (s : State) (a : Discovered) (d : StationDef), discovers s = true ∧
    stationDef (theImage s) a.station = some d ∧ a.ident = d.ident :=
  ⟨Tests.ringed .run { state := 1 }, ⟨3, 9, 4, [], []⟩, Tests.ringStation, by decide +kernel⟩
theorem test_witness_RingCyclesJoinsAndHops_7 : ∃ (s : State) (a : Discovered), discovers s = true ∧ stationDef
    (theImage s) a.station = none :=
  ⟨Tests.ringed .run { state := 1 }, ⟨7, 9, 4, [], []⟩, by decide +kernel⟩
theorem test_witness_RingCyclesJoinsAndHops_8 : ∃ (s : State) (a b : Discovered), discovers s = true ∧ (stationDef
    (theImage s) a.station).isSome = true ∧ a.station = b.station :=
  ⟨Tests.ringed .run { state := 1 }, ⟨3, 9, 4, [], []⟩, ⟨3, 9, 6, [], []⟩, by decide +kernel⟩
theorem test_witness_RingCyclesJoinsAndHops_9 : ∃ (s : State) (k : Nat) (d : StationDef), stationDef (theImage s) k =
    some d ∧ (stn s k).state = 2 ∧ cycleTick d s.time.tick = true :=
  ⟨Tests.ringed .run { state := 2, missed := 2 }, 3, Tests.ringStation, by decide +kernel⟩
theorem test_witness_RingCyclesJoinsAndHops_10 : ∃ (s : State), s.ring.forwarding = true :=
  ⟨Tests.ringed .run { state := 3 }, by decide +kernel⟩
theorem test_witness_CanFramesListsAndErrors_1 : ∃ (s : State) (f : CanFrame) (k : Nat) (d : FilterDef), canListens s
    f.port = true ∧ (filterDefs (theImage s)).find? (fun e => filterTakes e.2 f) = some (k, d) ∧ d.slot = false :=
  ⟨Tests.canned .run { state := 1 }, Tests.canFrame 0x123, 0, filterOf ([1, 2, 0, 0] ++ toLe 4 0x123 ++ toLe 4 0x7FF ++ toLe 4 2), by decide +kernel⟩
theorem test_witness_CanFramesListsAndErrors_2 : ∃ (s : State) (f : CanFrame) (k : Nat) (d : FilterDef), canListens s
    f.port = true ∧ (filterDefs (theImage s)).find? (fun e => filterTakes e.2 f) = some (k, d) ∧ d.slot = true :=
  ⟨Tests.canned .run { state := 1 }, Tests.canFrame 0x200, 1, filterOf ([1, 2, 1, 0] ++ toLe 4 0x200 ++ toLe 4 0x7FF ++ toLe 4 0), by decide +kernel⟩
theorem test_witness_CanFramesListsAndErrors_3 : ∃ (s : State) (f : CanFrame), canListens s f.port = true ∧ (∀ e ∈
    filterDefs (theImage s), filterTakes e.2 f = false) :=
  ⟨Tests.canned .run { state := 1 }, Tests.canFrame 0x7FF, by decide +kernel⟩
theorem test_witness_CanFramesListsAndErrors_4 : ∃ (s : State) (k : Nat) (d : SlotDef), slotDef (theImage s) k = some
    d ∧ d.tx = false ∧ (slotSt s k).tick + d.period ≤ s.time.tick :=
  ⟨Tests.canned .run { state := 1 }, 0, slotOf ([0, 1, 0, 0] ++ toLe 4 0 ++ toLe 2 80 ++ toLe 6 0), by decide +kernel⟩
theorem test_witness_CanFramesListsAndErrors_5 : ∃ (s : State) (h p : Nat) (e : TxEntry), s.can.cancels.contains h =
    true ∧ findEntry s h = some (p, e) :=
  ⟨Tests.canned .run { state := 1, fifo := [Tests.entry 4 0 none, Tests.entry 5 1 none] }, 4, 1, Tests.entry 4 0 none, by decide +kernel⟩
theorem test_witness_CanFramesListsAndErrors_6 : ∃ (s : State) (h : Nat), s.can.cancels.contains h = true ∧ findEntry
    s h = none :=
  ⟨Tests.canned .run { state := 1 }, 6, by decide +kernel⟩
theorem test_witness_CanFramesListsAndErrors_7 : ∃ (s : State) (p n : Nat) (e : TxEntry), canSends s = true ∧ (port s
    p).state ∈ [1, 2] ∧ (port s p).onBus = none ∧ lateEntries s p (isLate (setPhase s n) p) = [] ∧ offered s p n =
    some e :=
  ⟨Tests.canned .run { state := 1, fifo := [Tests.entry 4 0 none], launch := [Tests.entry 5 1 (some 12500000040000)] }, 1, 55000, Tests.entry 5 1 (some 12500000040000), by decide +kernel⟩
theorem test_witness_CanFramesListsAndErrors_8 : ∃ (s : State) (p n : Nat), lateEntries s p (limitCome (setPhase s n)
    p) ≠ [] :=
  ⟨Tests.canned .run { state := 1, launch := [Tests.entry 5 1 (some 1), Tests.entry 4 2 (some 12500000060000)] }, 1, 55000, by decide +kernel⟩
theorem test_witness_CanFramesListsAndErrors_9 : ∃ (s : State) (p : Nat), canSends s = true ∧ (port s p).state ∈ [1,
    2] ∧ (port s p).onBus = none :=
  ⟨Tests.canned .run { state := 1, launch := [Tests.entry 5 1 (some 1), Tests.entry 4 2 (some 12500000060000)] }, 1, by decide +kernel⟩
theorem test_witness_CanFramesListsAndErrors_10 : ∃ (s : State) (p : Nat) (e : TxEntry), (port s p).onBus = some e :=
  ⟨Tests.canned .run { state := 1, txErr := 1, fifo := [Tests.entry 4 0 none], onBus := some (Tests.entry 4 0 none) }, 1, Tests.entry 4 0 none, by decide +kernel⟩
theorem test_witness_CanFramesListsAndErrors_11 : ∃ (s : State) (p : Nat) (e : TxEntry), (port s p).onBus = some e :=
  ⟨Tests.canned .run { state := 1, fifo := [Tests.entry 4 0 none], onBus := some (Tests.entry 4 0 none) }, 1, Tests.entry 4 0 none, by decide +kernel⟩
theorem test_witness_CanFramesListsAndErrors_12 : ∃ (s : State) (p : Nat) (e : TxEntry), (port s p).onBus = some e ∧
    (port s p).state ∈ [1, 2] ∧ (port s p).cancelOnBus = false ∧ canSends s = true :=
  ⟨Tests.canned .run { state := 2, txErr := 248, fifo := [Tests.entry 4 0 none], onBus := some (Tests.entry 4 0 none) }, 1, Tests.entry 4 0 none, by decide +kernel⟩
theorem test_witness_CanFramesListsAndErrors_13 : ∃ (s : State) (p : Nat), (port s p).state ∈ [1, 2] :=
  ⟨Tests.canned .run { state := 1, rxErr := 127 }, 1, by decide +kernel⟩
theorem test_witness_CanFramesListsAndErrors_14 : ∃ (s : State) (r : Req) (p : Nat), servedOutside s r (portObj p) =
    true ∧ portGate s p = none ∧ (port s p).state = 3 :=
  ⟨Tests.canned .run { state := 3, txErr := 256 }, Tests.req, 1, by decide +kernel⟩
theorem test_witness_CanFramesListsAndErrors_15 : ∃ (s : State) (p : Nat), (port s p).state = 4 :=
  ⟨Tests.canned .run { state := 4, txErr := 256, rxErr := 3 }, 1, by decide +kernel⟩
theorem test_witness_CanFramesListsAndErrors_16 : ∃ (s : State) (r : Req) (p : Nat), servedOutside s r (portObj p) =
    true ∧ portGate s p = none :=
  ⟨Tests.canned .run { state := 1, fifo := [Tests.entry 4 0 none, Tests.entry 5 1 none], onBus := some (Tests.entry 4 0 none) }, Tests.req, 1, by decide +kernel⟩
theorem test_witness_TimeFollowsItsMaster_1 : ∃ (s : State) (p : Nat) (gm : W64) (cls : Nat) (raw o : Int), o =
    ptpOffset s p raw ∧ ptpCounts s p gm cls = true ∧ ptpBeyond s p gm o = false :=
  ⟨Tests.timed .run { Tests.slave with servo := 0, goodRun := 15 }, 1, 9, 6, -22, -100, by decide +kernel⟩
theorem test_witness_TimeFollowsItsMaster_2 : ∃ (s : State) (p : Nat) (gm : W64) (cls : Nat) (raw : Int), ptpCounts s
    p gm cls = true ∧ ptpBeyond s p gm (ptpOffset s p raw) = true ∧ ptpBad s gm < 4 :=
  ⟨Tests.timed .run { Tests.slave with badRun := 2, badGm := 9 }, 1, 9, 6, -923, by decide +kernel⟩
theorem test_witness_TimeFollowsItsMaster_3 : ∃ (s : State) (p : Nat) (gm : W64) (cls : Nat) (raw o : Int), o =
    ptpOffset s p raw ∧ ptpCounts s p gm cls = true ∧ ptpBeyond s p gm o = true ∧ 4 ≤ ptpBad s gm :=
  ⟨Tests.timed .run { Tests.slave with badRun := 3, badGm := 9 }, 1, 9, 6, 5078, 5000, by decide +kernel⟩
theorem test_witness_TimeFollowsItsMaster_4 : ∃ (s : State) (p : Nat) (raw o : Int), o = ptpOffset s p raw ∧ ptpRuns s
    p = true ∧ s.md.mode = .load ∧ s.time.set = false :=
  ⟨Tests.timed .load { seen := [(9, 1, 1), (9, 1, 1), (9, 2, 1)] }, 1, -12500000059922, -12500000060000, by decide +kernel⟩
theorem test_witness_TimeFollowsItsMaster_5 : ∃ (s : State) (p : Nat) (gm : W64) (cls : Nat) (raw o : Int), o =
    ptpOffset s p raw ∧ ptpRuns s p = true ∧ s.md.role = .standby ∧ s.md.mode ≠ .load ∧ ptpSelects s p gm cls = true
    :=
  ⟨{ Tests.timed .track Tests.slave with md := { (Tests.at .track).md with slot := 2, role := .standby } }, 1, 9, 6, 118, 40, by decide +kernel⟩
theorem test_witness_TimeFollowsItsMaster_6 : ∃ (s : State), s.md.powered = true ∧ (s.md.mode = .load ∨ evaluates
    s.md.mode = true) ∧ s.time.port ≠ 0 :=
  ⟨Tests.timed .run Tests.slave, by decide +kernel⟩
theorem test_witness_TimeFollowsItsMaster_7 : ∃ (s : State), s.md.powered = true ∧ s.time.servo = 2 ∧ (netNow s).clock
    = 1 ∧ s.time.holdFrom + 28800000 ≤ s.time.tick :=
  ⟨{ Tests.timed .run {} with time := { servo := 2, tick := 28800000 } }, by decide +kernel⟩
theorem test_witness_TimeFollowsItsMaster_8 : ∃ (s : State) (r : Req) (rate : Nat), timeServed s r = true ∧ timeBusy s
    = false ∧ timeOpen s = true ∧ evaluates s.md.mode = true ∧ 1 ≤ rate ∧ rate ≤ 100 :=
  ⟨Tests.timed .run Tests.jumped, Tests.req, 100, by decide +kernel⟩
theorem test_witness_TimeFollowsItsMaster_9 : ∃ (s : State) (r : Req), timeServed s r = true ∧ timeBusy s = false ∧
    timeOpen s = true ∧ s.md.mode = .stop :=
  ⟨Tests.timed .stop Tests.jumped, Tests.req, by decide +kernel⟩
theorem test_witness_TimeFollowsItsMaster_10 : ∃ (s : State) (r : Req), timeServed s r = true ∧ timeBusy s = false ∧
    s.time.jump = true :=
  ⟨Tests.timed .run Tests.jumped, Tests.req, by decide +kernel⟩
theorem test_witness_TimeFollowsItsMaster_11 : ∃ (s : State) (r : Req), timeServed s r = true ∧ s.time.servo = 3 :=
  ⟨Tests.waits (Tests.timed .run { Tests.jumped with servo := 3, slewLeft := 1600, slewRate := 100, slewOrigin := some ⟨0, 5, 1⟩ }) 5 timeObj, Tests.req, by decide +kernel⟩
theorem test_witness_TimeFollowsItsMaster_12 : ∃ (s : State) (p : Nat), s.md.powered = true ∧ p ≤ 2 ∧ (s.net.lan.getD
    p {}).up = true :=
  ⟨Tests.timed .run Tests.slave, 0, by decide +kernel⟩
theorem test_witness_TimeFollowsItsMaster_13 : ∃ (s : State) (p : Nat), s.md.powered = true ∧ p ≤ 2 ∧ p <
    s.net.lan.length ∧ (s.net.lan.getD p {}).up = false :=
  ⟨{ Tests.timed .run Tests.slave with net := { (Tests.at .run).net with lan := [{ up := true }, {}, {}] } }, 1, by decide +kernel⟩
theorem test_witness_TimeFollowsItsMaster_14 : ∃ (s : State) (k : Nat) (l : List Nat), s.md.powered = true ∧ s.net.arp
    = k :: l ∧ k ≤ s.time.tick ∧ s.net.roleAddr = true :=
  ⟨{ Tests.timed .run Tests.slave with net := { (Tests.timed .run Tests.slave).net with arp := [100000, 108000], roleAddr := true } }, 100000, [108000], by decide +kernel⟩
theorem test_witness_TimeFollowsItsMaster_15 : ∃ (s : State) (p : Nat), s.md.powered = true ∧ s.ev.running = true ∧ p
    ≤ 1 ∧ (s.net.lan.getD p {}).up = true :=
  ⟨Tests.timed .run Tests.slave, 1, by decide +kernel⟩
theorem test_witness_SessionsAnswerTheirHosts_1 : ∃ (s : State) (iface : Nat) (role : Bool) (lo hi : Nat) (au : Option
    Nat) (g i : Nat), canOpen s iface role = true ∧ authenticated s iface au = true ∧ commonGen lo hi = some g ∧
    freeSession s iface = some i :=
  ⟨Tests.hosted .run, 0, false, 1, 9, some 0, 3, 1, by decide +kernel⟩
theorem test_witness_SessionsAnswerTheirHosts_2 : ∃ (s : State) (iface : Nat) (role : Bool) (lo hi : Nat) (au : Option
    Nat), canOpen s iface role = true ∧ authenticated s iface au = true ∧ (commonGen lo hi = none ∨ freeSession s
    iface = none) :=
  ⟨Tests.hosted .run, 0, false, 4, 9, some 0, by decide +kernel⟩
theorem test_witness_SessionsAnswerTheirHosts_3 : ∃ (s : State) (r : Req), arrives s r = true :=
  ⟨Tests.hosted .run, Tests.req, by decide +kernel⟩
theorem test_witness_SessionsAnswerTheirHosts_4 : ∃ (s : State) (k : Nat), (sess s k).open_ = true ∧ (sess s
    k).lastTick + 8000 * (netNow s).idleS ≤ s.time.tick :=
  ⟨{ Tests.hosted .run with time := { (Tests.hosted .run).time with tick := 240000 } }, 0, by decide +kernel⟩
theorem test_witness_SessionsAnswerTheirHosts_5 : ∃ (s : State) (r : Req) (m : Byte), operates s r 2 streamObj = true
    ∧ m.toNat ≤ 15 :=
  ⟨Tests.hosted .run, Tests.req, 15, by decide +kernel⟩
theorem test_witness_SessionsAnswerTheirHosts_6 : ∃ (s : State) (r : Req) (obj : W32) (n : Nat), operates s r 3 obj =
    true ∧ (boundaryObject (touch s r) obj).isSome = true ∧ (objAccess obj).isSome = true ∧ 1 ≤ n ∧ n ≤ 8000 ∧ (((sess
    s r.session).subs.any fun b => b.object == obj) = true ∨ (sess s r.session).subs.length < 64) :=
  ⟨Tests.hosted .run, Tests.req, 0x02000000, 8000, by decide +kernel⟩
theorem test_witness_SessionsAnswerTheirHosts_7 : ∃ (s : State) (r : Req), servedRead s r 0xA0020000#32 = true :=
  ⟨Tests.hosted .run, Tests.req, by decide +kernel⟩
theorem test_witness_SessionsAnswerTheirHosts_8 : ∃ (s : State) (r : Req) (l : List BatchEntry) (i x : Nat),
    batchServed s r l = true ∧ batchRefusal (touch s r) l 0 = some (i, x) :=
  ⟨Tests.manual .run, Tests.req, [Tests.manualEntry 0, Tests.manualEntry 7], 1, rfImage, by decide +kernel⟩
theorem test_witness_SessionsAnswerTheirHosts_9 : ∃ (s : State) (r : Req) (l : List BatchEntry), batchServed s r l =
    true ∧ batchRefusal (touch s r) l 0 = none ∧ l.all isManual = true :=
  ⟨Tests.manual .run, Tests.req, [Tests.manualEntry 0, Tests.manualEntry 0], by decide +kernel⟩
theorem test_witness_SessionsAnswerTheirHosts_10 : ∃ (s : State) (r : Req) (e : BatchEntry) (c m : Nat), batchServed s
    r [e] = true ∧ batchRefusal (touch s r) [e] 0 = none ∧ batchItem e = .loopMode c m :=
  ⟨Tests.manual .run, Tests.req, ⟨0x10010000, toLe 2 2⟩, 0, 1, by decide +kernel⟩
theorem test_witness_SessionsAnswerTheirHosts_11 : ∃ (s : State) (r : Req) (obj : W32), served s r obj = true ∧
    objAccess obj ∈ [none, some .ro, some .named] :=
  ⟨Tests.hosted .run, Tests.req, 0x0F000000, by decide +kernel⟩
theorem test_witness_SessionsAnswerTheirHosts_12 : ∃ (s : State) (r : Req) (c : Nat) (d : Bytes), servedOutside s r
    (0x10030000#32 + w32 c) = true ∧ c ≤ 127 ∧ d.length = 8 ∧ manualCheck (touch s r) c = none :=
  ⟨Tests.manual .run, Tests.req, 0, toLe 8 0x3FF0000000000000, by decide +kernel⟩
theorem test_witness_SessionsAnswerTheirHosts_13 : ∃ (s : State) (r : Req) (d : Bytes), served s r 0x02010000#32 =
    true ∧ (d.length ≠ 2 ∨ 256 ≤ le d 0 2) :=
  ⟨Tests.manual .run, Tests.req, [1, 1], by decide +kernel⟩
theorem test_witness_AbdicationHaltsTheModule_1 : ∃ (s : State) (pair : Nat), canAbdicate s = true ∧ pair ≤ 2 :=
  ⟨Tests.busy, 1, by decide +kernel⟩
theorem test_witness_AbdicationHaltsTheModule_2 : ∃ (s : State) (b : Nat), canAbdicate s = true ∧ b ≤ 48 ∧ b ≠ 47 :=
  ⟨Tests.busy, 48, by decide +kernel⟩
theorem test_witness_AbdicationHaltsTheModule_3 : ∃ (s : State) (domain : Nat), canAbdicate s = true ∧ domain ≤ 12 :=
  ⟨Tests.busy, 8, by decide +kernel⟩
theorem test_witness_AbdicationHaltsTheModule_4 : ∃ (s : State), canAbdicate s = true ∧ (noFeed s = true → s.md.mode ≠
    .kiln ∧ s.md.mode ≠ .load) :=
  ⟨Tests.busy, by decide +kernel⟩
theorem test_witness_SupplyAndTemperature_1 : ∃ (s : State) (feed : Nat), s.md.powered = true ∧ s.sup.inRange.getD
    feed false = true :=
  ⟨{ Tests.at .run with sup := { inRange := [true, true] } }, 1, by decide +kernel⟩
theorem test_witness_SupplyAndTemperature_2 : ∃ (s : State) (feed : Nat), s.md.powered = true ∧ s.sup.inRange.getD
    feed true = false :=
  ⟨{ Tests.at .run with sup := { inRange := [true, false] } }, 1, by decide +kernel⟩
theorem test_witness_SupplyAndTemperature_3 : ∃ (s : State) (d : Nat), s.md.powered = true ∧ s.sup.railsOffAt = some d
    ∧ (s.md.ticking = true → d ≤ s.time.tick) :=
  ⟨{ Tests.at .halt with sup := { inRange := [false, true], railsOffAt := some 100000 } }, 100000, by decide +kernel⟩
theorem test_witness_SupplyAndTemperature_4 : ∃ (s : State) (c : Int), s.md.powered = true ∧ s.sup.hot = false ∧ 100 ≤
    c :=
  ⟨Tests.at .run, 100, by decide +kernel⟩
theorem test_witness_SupplyAndTemperature_5 : ∃ (s : State) (c : Int), s.md.powered = true ∧ s.sup.hot = true ∧ c < 95
    :=
  ⟨{ Tests.at .run with sup := { hot := true } }, 94, by decide +kernel⟩
theorem test_witness_MemoryErrorsAreCountedPerBank_1 : ∃ (s : State) (b : Nat), s.md.powered = true ∧ b ≤ 48 :=
  ⟨{ Tests.at .run with sec := { State.reset.sec with lastEv240 := [(3, 92000)] } }, 3, by decide +kernel⟩
theorem test_witness_MemoryErrorsAreCountedPerBank_2 : ∃ (s : State) (b : Nat), s.md.powered = true ∧ b ≤ 48 :=
  ⟨Tests.at .run, 5, by decide +kernel⟩
theorem test_witness_SecureBankIsWiped_1 : ∃ (s : State) (cause : Nat), s.md.powered = true ∧ 4 ≤ cause ∧ cause ≤ 7 :=
  ⟨Tests.at .run, 4, by decide +kernel⟩
theorem test_witness_SecureBankIsWiped_2 : ∃ (s : State), s.md.powered = true :=
  ⟨Tests.at .run, by decide +kernel⟩
theorem test_witness_SecureBankIsWiped_3 : ∃ (s : State), s.md.powered = true :=
  ⟨Tests.at .run, by decide +kernel⟩
theorem test_witness_SecureBankIsWiped_4 : ∃ (s : State), s.md.powered = false ∧ s.sec.unpowered = none :=
  ⟨State.reset, by decide +kernel⟩
theorem test_witness_SecureBankIsWiped_5 : ∃ (s : State) (d : Nat), s.md.powered = true ∧ s.sec.envFrom = some d ∧ d +
    8000 ≤ s.time.tick :=
  ⟨{ Tests.at .run with sec := { State.reset.sec with envFrom := some 92000 } }, 92000, by decide +kernel⟩
theorem test_witness_EnrolmentWaitsForThePress_1 : ∃ (s : State) (r : Req) (slot : Nat) (d : Bytes), servedOutside s r
    (w32 (0x01100030 + slot)) = true ∧ slot ≤ 3 ∧ enrolRefusal (touch s r) r true slot d = none :=
  ⟨{ Tests.at .stop with sec := { State.reset.sec with life := 1 } }, Tests.req, 2, List.replicate 120 0, by decide +kernel⟩
theorem test_witness_EnrolmentWaitsForThePress_2 : ∃ (s : State) (r : Req) (slot : Nat) (d : Bytes), servedOutside s r
    (w32 (0xC0030010 + slot)) = true ∧ slot ≤ 3 ∧ enrolRefusal (touch s r) r false slot d = none :=
  ⟨{ Tests.at .stop with sec := { State.reset.sec with life := 1 } }, Tests.req, 3, [1, 2], by decide +kernel⟩
theorem test_witness_EnrolmentWaitsForThePress_3 : ∃ (s : State) (e : EnrolSt) (obj : W32), s.sec.enrol = some e ∧
    e.deadline < s.time.tick ∧ isOutstanding s e.origin obj = true :=
  ⟨{ (Tests.waits (Tests.at .stop) 5 0xC0030010#32) with sec := { State.reset.sec with enrol := some ⟨⟨0, 5, 1⟩, false, 0, [1], 99999⟩ } }, ⟨⟨0, 5, 1⟩, false, 0, [1], 99999⟩, 0xC0030010#32, by decide +kernel⟩
theorem test_witness_PanelAndJournalRecordConditions_1 : ∃ (s : State), panelPair s = true ∧ s.panel.comp = 0 ∧
    s.panel2.mapDue = none ∧ s.panel2.map ≠ [] ∧ compFrames (bandDef s.panel2.map (s.panel.decided.getD s.panel.band))
    s.panel.ledger = 0 :=
  ⟨{ Tests.paneled with panel := { Tests.paneled.panel with decided := some 1, lampDue := true } }, by decide +kernel⟩
theorem test_witness_PanelAndJournalRecordConditions_2 : ∃ (s : State), panelPair s = true ∧ s.panel.comp = 0 ∧
    s.panel2.mapDue = none ∧ s.panel2.map ≠ [] ∧ 0 < compFrames (bandDef s.panel2.map (s.panel.decided.getD
    s.panel.band)) s.panel.ledger :=
  ⟨{ Tests.paneled with panel := { Tests.paneled.panel with ledger := [(3, 400000)] } }, by decide +kernel⟩
theorem test_witness_PanelAndJournalRecordConditions_3 : ∃ (s : State), panelPair s = true ∧ s.panel.comp ≠ 0 :=
  ⟨{ Tests.paneled with panel := { Tests.paneled.panel with ledger := [(3, 400000)], comp := 2 }, panel2 := { Tests.paneled.panel2 with next := [3, 7] } }, by decide +kernel⟩
theorem test_witness_PanelAndJournalRecordConditions_4 : ∃ (s : State), s.panel.driving = true ∧ s.panel2.releasing =
    true :=
  ⟨{ Tests.paneled with panel2 := { Tests.paneled.panel2 with releasing := true } }, by decide +kernel⟩
theorem test_witness_PanelAndJournalRecordConditions_5 : ∃ (s : State) (x : Int), panelServed s = true ∧ -500 ≤ x ∧ x
    ≤ 1000 ∧ callsUp s x = true ∧ callsDown s x = false :=
  ⟨{ Tests.paneled with panel := { Tests.paneled.panel with rise := 2 } }, 200, by decide +kernel⟩
theorem test_witness_PanelAndJournalRecordConditions_6 : ∃ (s : State) (x : Int), panelServed s = true ∧ -500 ≤ x ∧ x
    ≤ 1000 ∧ callsUp s x = false ∧ callsDown s x = true :=
  ⟨{ Tests.paneled with panel := { Tests.paneled.panel with band := 1, fall := 2 } }, -500, by decide +kernel⟩
theorem test_witness_PanelAndJournalRecordConditions_7 : ∃ (s : State) (x : Int), panelServed s = true ∧ (x < -500 ∨
    1000 < x) :=
  ⟨Tests.paneled, -501, by decide +kernel⟩
theorem test_witness_PanelAndJournalRecordConditions_8 : ∃ (s : State), s.panel.driving = true :=
  ⟨{ Tests.paneled with panel := { Tests.paneled.panel with loopKind := 2, loopRun := 2 } }, by decide +kernel⟩
theorem test_witness_PanelAndJournalRecordConditions_9 : ∃ (s : State) (r : Req), servedOutside s r 0xD0050000#32 =
    true ∧ inControl s = true ∧ s.panel.driving = true :=
  ⟨Tests.paneled, Tests.req, by decide +kernel⟩
theorem test_witness_PanelAndJournalRecordConditions_10 : ∃ (s : State), journals s = true ∧ blockDue s = true ∧
    (s.kiln.keyPresent = true ∨ s.ev.held.length < 64) :=
  ⟨{ Tests.hosted .run with ev := { (Tests.hosted .run).ev with open_ := [Tests.rec 1], openTick := 92000 } }, by decide +kernel⟩
theorem test_witness_PanelAndJournalRecordConditions_11 : ∃ (s : State), journals s = true ∧ blockDue s = true ∧
    s.kiln.keyPresent = false ∧ s.ev.held.length = 64 :=
  ⟨{ Tests.hosted .run with ev := { (Tests.hosted .run).ev with open_ := [Tests.rec 2], openTick := 92000, held := List.replicate 64 { recs := [Tests.rec 1] } } }, by decide +kernel⟩
theorem test_witness_PanelAndJournalRecordConditions_12 : ∃ (s : State) (b : JBlock) (l : List JBlock), s.ev.held = b
    :: l ∧ s.ev.writing = true ∧ s.kiln.keyPresent = true :=
  ⟨{ Tests.hosted .run with kiln := { State.reset.kiln with keyPresent := true }, ev := { (Tests.hosted .run).ev with writing := true, jseq := 4, held := [{ recs := [Tests.rec 1] }] } }, { recs := [Tests.rec 1] }, [], by decide +kernel⟩
end

section
/-! SUPPORT. The steps of a tick boundary leave vessel time alone: one lemma for each operation that a boundary reaches. The
laws of Laws/Keeps say so of everything but the phase, which every command may set; at a boundary the phase stays 0. -/

namespace Sys2Proof.Machine

theorem foldl_pair_inv {α β γ : Type} {P : α → Prop} (l : List γ) (g : α × β → γ → α × β) (x : α × β) (h0 : P x.1)
    (h : ∀ y b, P y.1 → P (g y b).1) : P (l.foldl g x).1 := by
  induction l generalizing x with
  | nil => exact h0
  | cons b l ih => exact ih _ (h _ _ h0)

@[simp] theorem foldl_time_eq {α : Type} (l : List α) (g : State → α → State) (s : State)
    (h : ∀ u b, (g u b).time = u.time) : (l.foldl g s).time = s.time := by
  induction l generalizing s with
  | nil => rfl
  | cons b l ih => rw [List.foldl_cons, ih, h]

/-! ### Release and latch of a boundary -/

@[simp] theorem toCourses_time (s : State) (r : EvRec) : (toCourses s r).time = s.time := by rfl
@[simp] theorem releaseOne_time (s : State) (r : EvRec) : (releaseOne s r).time = s.time := by simp [releaseOne]
@[simp] theorem releaseEventRecs_time (s : State) : (releaseEventRecs s).time = s.time := by simp [releaseEventRecs]
@[simp] theorem latchGroup_time (s : State) (l : Latch) (g : Nat) : (latchGroup s l g).time = s.time := by rfl
@[simp] theorem setChan_time (s : State) (kk : Nat) (c : ChanSt) : (setChan s kk c).time = s.time := by rfl
@[simp] theorem setRun_time (s : State) (kk : Nat) (c : RunSt) : (setRun s kk c).time = s.time := by rfl
@[simp] theorem latchDigital_time (s : State) (l : Latch) (kk : Nat) : (latchDigital s l kk).time = s.time := by
  unfold latchDigital
  (repeat' split) <;> simp

@[simp] theorem latchAi_time (s : State) (l : Latch) (a : Nat) : (latchAi s l a).time = s.time := by
  unfold latchAi
  (repeat' split) <;> simp

@[simp] theorem latchAo_time (s : State) (l : Latch) (a : Nat) : (latchAo s l a).time = s.time := by
  unfold latchAo
  dsimp only
  (repeat' split) <;> simp

@[simp] theorem latchPos_time (s : State) (l : Latch) (p : Nat) : (latchPos s l p).time = s.time := by
  unfold latchPos
  dsimp only
  (repeat' split) <;> simp

@[simp] theorem latchField_time (s : State) (l : Latch) : (latchField s l).time = s.time := by simp [latchField]
@[simp] theorem setSlot_time (s : State) (k : Nat) (x : SlotSt) : (setSlot s k x).time = s.time := by rfl
@[simp] theorem canSlotImage_time (s : State) : (canSlotImage s).time = s.time := by
  unfold canSlotImage
  refine foldl_time_eq _ _ _ fun u b => ?_
  dsimp only
  (repeat' split) <;> simp

/-! ### Completions, modes, courses and tickets -/

@[simp] theorem setSess_time (s : State) (i : Nat) (x : SessSt) : (setSess s i x).time = s.time := by rfl
@[simp] theorem send_time (s : State) (m : OutMsg) : (send s m).time = s.time := by rfl
@[simp] theorem completeOne_time (s : State) (o : Origin) (status : Nat) :
    (completeOne s o status).time = s.time := by
  unfold completeOne
  dsimp only
  (repeat' split) <;> simp

@[simp] theorem complete_time (s : State) (o : Origin) (status : Nat) : (complete s o status).time = s.time := by
  unfold complete
  (repeat' split) <;> simp

@[simp] theorem completeOpt_time (s : State) (o : Option Origin) (status : Nat) :
    (completeOpt s o status).time = s.time := by
  unfold completeOpt
  (repeat' split) <;> simp

@[simp] theorem stopInjection_time (s : State) (ctx cause : Nat) : (stopInjection s ctx cause).time = s.time := by
  simp [stopInjection]
@[simp] theorem stopInjections_time (s : State) (cause : Nat) : (stopInjections s cause).time = s.time := by
  simp [stopInjections]
@[simp] theorem injectionSetOff_time (s : State) : (injectionSetOff s).time = s.time := by simp [injectionSetOff]
@[simp] theorem raiseCombo_time (s : State) (m m' : Mode) (r r' : Role) (inj inj' mir mir' : Bool) :
    (raiseCombo s m m' r r' inj inj' mir mir').time = s.time := by simp [raiseCombo]
@[simp] theorem resolve_time (s : State) (m : Mode) : (resolve s m).time = s.time := by simp [resolve]
@[simp] theorem roleAddrSettle_time (s : State) : (roleAddrSettle s).time = s.time := by rfl
@[simp] theorem panelSettle_time (s : State) : (panelSettle s).time = s.time := by simp [panelSettle]
@[simp] theorem setHandle_time (s : State) (h st : Nat) : (setHandle s h st).time = s.time := by rfl
@[simp] theorem setEntryHandle_time (s : State) (e : TxEntry) (st : Nat) : (setEntryHandle s e st).time = s.time := by
  simp [setEntryHandle]
@[simp] theorem canSettle_time (s : State) : (canSettle s).time = s.time := by
  unfold canSettle
  refine foldl_time_eq _ _ _ fun u b => ?_
  dsimp only
  (repeat' split) <;> simp

@[simp] theorem settle_time (s : State) : (settle s).time = s.time := by simp [settle]
@[simp] theorem putData_time (s : State) (brick off : Nat) (b : Bytes) : (putData s brick off b).time = s.time := by
  rfl
@[simp] theorem ownData_time (s : State) (c : Nat) (l : List (Nat × Nat × Bytes)) : (ownData s c l).time = s.time := by
  simp [ownData]
@[simp] theorem setCourse_time (s : State) (c : Nat) (x : CourseSt) : (setCourse s c x).time = s.time := by rfl
@[simp] theorem releaseDiv0_time (s : State) (c : Nat) (l : List (Nat × Nat)) :
    (releaseDiv0 s c l).time = s.time := by
  unfold releaseDiv0
  (repeat' split) <;> simp

@[simp] theorem canTaken_time (s : State) (l : List Nat) : (canTaken s l).time = s.time := by simp [canTaken]
@[simp] theorem eventsTaken_time (s : State) (c n : Nat) : (eventsTaken s c n).time = s.time := by rfl
@[simp] theorem releaseEvents_time (s : State) (c : Nat) (l : List (Nat × W32 × Nat)) :
    (releaseEvents s c l).time = s.time := by simp [releaseEvents]
@[simp] theorem leaveDone_time (s : State) (c : Nat) (done : Release) : (leaveDone s c done).time = s.time := by
  simp [leaveDone]
@[simp] theorem leaveUndone_time (s : State) (c : Nat) : (leaveUndone s c).time = s.time := by simp [leaveUndone]
@[simp] theorem abandonOne_time (s : State) (c : Nat) : (abandonOne s c).time = s.time := by simp [abandonOne]
@[simp] theorem abandonCourses_time (s : State) : (abandonCourses s).time = s.time := by simp [abandonCourses]
@[simp] theorem stopSolver_time (s : State) : (stopSolver s).time = s.time := by rfl
@[simp] theorem stopLoops_time (s : State) : (stopLoops s).time = s.time := by rfl
@[simp] theorem abortCapture_time (s : State) (cause : Nat) : (abortCapture s cause).time = s.time := by
  simp [abortCapture]
@[simp] theorem canDropWaiting_time (s : State) (port : Nat) (fifo launch : Bool) :
    (canDropWaiting s port fifo launch).1.time = s.time := by simp [canDropWaiting]
@[simp] theorem canFlush_time (s : State) (port : Nat) : (canFlush s port).time = s.time := by simp [canFlush]
@[simp] theorem enterEffects_time (s : State) (old m : Mode) : (enterEffects s old m).time = s.time := by
  simp [enterEffects]
@[simp] theorem changeMode_time (s : State) (m : Mode) (cause : Nat) : (changeMode s m cause).time = s.time := by
  simp [changeMode]
@[simp] theorem setTicket_time (s : State) (t : Nat) (x : TicketSt) : (setTicket s t x).time = s.time := by rfl
@[simp] theorem keepUpdate_time (s : State) (kind index : Nat) (data : Bytes) :
    (keepUpdate s kind index data).time = s.time := by rfl
@[simp] theorem lanePut_time (s : State) (lane order bytes : Nat) : (lanePut s lane order bytes).time = s.time := by
  rfl
@[simp] theorem sendLink_time (s : State) (order bytes : Nat) (m : OutMsg) :
    (sendLink s order bytes m).time = s.time := by simp [sendLink]
@[simp] theorem sendMortarAt_time (order : Nat) (s : State) (m : Mortar) : (sendMortarAt order s m).time = s.time := by
  simp [sendMortarAt]
@[simp] theorem sendMortar_time (s : State) (m : Mortar) : (sendMortar s m).time = s.time := by simp [sendMortar]
@[simp] theorem ticketEnd_time (s : State) (t status reason : Nat) : (ticketEnd s t status reason).time = s.time := by
  simp [ticketEnd]

/-! ### Lanes, role, transitions -/

@[simp] theorem latchToken_time (s : State) (l : Latch) : (latchToken s l).time = s.time := by simp [latchToken]
@[simp] theorem sampleButton_time (s : State) (closed : Bool) : (sampleButton s closed).time = s.time := by rfl
@[simp] theorem latchAll_time (s : State) (l : Latch) : (latchAll s l).time = s.time := by simp [latchAll]
@[simp] theorem lampTick_time (s : State) : (lampTick s).time = s.time := by rfl
@[simp] theorem lanCount_time (s : State) (port i : Nat) : (lanCount s port i).time = s.time := by rfl
@[simp] theorem prpTick_time (s : State) : (prpTick s).time = s.time := by simp [prpTick]
@[simp] theorem pairCount_time (s : State) (i : Nat) : (pairCount s i).time = s.time := by rfl
@[simp] theorem laneMove_time (s : State) (lane : Nat) : (laneMove s lane).time = s.time := by rfl
@[simp] theorem toSync_time (s : State) (cause : Nat) : (toSync s cause).time = s.time := by simp [toSync]
@[simp] theorem laneLost_time (s : State) (lane : Nat) : (laneLost s lane).time = s.time := by simp [laneLost]
@[simp] theorem laneTick_time (s : State) (lane : Nat) : (laneTick s lane).time = s.time := by simp [laneTick]
@[simp] theorem lanesTick_time (s : State) : (lanesTick s).time = s.time := by simp [lanesTick]
@[simp] theorem setStale_time (s : State) (cls n : Nat) : (setStale s cls n).time = s.time := by rfl
@[simp] theorem staleTickBoundary_time (s : State) : (staleTickBoundary s).time = s.time := by
  simp [staleTickBoundary]
@[simp] theorem announceRole_time (s : State) : (announceRole s).time = s.time := by rfl
@[simp] theorem roleBoundary_time (s : State) : (roleBoundary s).time = s.time := by
  unfold roleBoundary
  dsimp only
  (repeat' split) <;> simp

@[simp] theorem linkTick_time (s : State) : (linkTick s).time = s.time := by rfl
@[simp] theorem cmdEnds_time (s : State) (o : Option Origin) : (cmdEnds s o).time = s.time := by simp [cmdEnds]
@[simp] theorem panelAck_time (s : State) : (panelAck s).time = s.time := by simp [panelAck]
@[simp] theorem ackRecords_time (s : State) (boundary : Nat) : (ackRecords s boundary).time = s.time := by rfl
@[simp] theorem applyAck_time (s : State) (reset : Bool) : (applyAck s reset).time = s.time := by simp [applyAck]
@[simp] theorem dropStagedTables_time (s : State) : (dropStagedTables s).time = s.time := by rfl
@[simp] theorem exchComplete_time (s : State) : (exchComplete s).time = s.time := by simp [exchComplete]
@[simp] theorem exchAbandon_time (s : State) (reason : Nat) : (exchAbandon s reason).time = s.time := by
  simp [exchAbandon]
@[simp] theorem exchEnd_time (s : State) (reason : Nat) : (exchEnd s reason).time = s.time := by simp [exchEnd]
@[simp] theorem openWindow_time (s : State) (before : Mode) : (openWindow s before).time = s.time := by
  simp [openWindow]
@[simp] theorem takeTrans_time (s : State) (t : Trans) : (takeTrans s t).time = s.time := by simp [takeTrans]
@[simp] theorem takeTransitions_time (s : State) : (takeTransitions s).time = s.time := by simp [takeTransitions]

/-! ### Mortar and the exchange that it follows -/

@[simp] theorem waitsAlone_time (s : State) : (waitsAlone s).time = s.time := by simp [waitsAlone]
@[simp] theorem settingsBoundary_time (s : State) : (settingsBoundary s).time = s.time := by rfl
@[simp] theorem setSolv_time (s : State) (c : Nat) (x : SolvSt) : (setSolv s c x).time = s.time := by rfl
@[simp] theorem setSolv2_time (s : State) (c : Nat) (x : SolvSt2) : (setSolv2 s c x).time = s.time := by rfl
@[simp] theorem adoptOutcomes_time (s : State) : (adoptOutcomes s).time = s.time := by
  unfold adoptOutcomes
  split
  · rfl
  · refine foldl_time_eq _ _ _ fun u b => ?_
    dsimp only
    (repeat' split) <;> simp

@[simp] theorem setApplied_time (s : State) (c release : Nat) : (setApplied s c release).time = s.time := by rfl
@[simp] theorem takeCourseEnd_time (s : State) (c release : Nat) (data : List (Nat × Nat × Bytes))
    (settings : List (Nat × W64)) (mirages : List (Nat × Option MirageCmd)) :
    (takeCourseEnd s c release data settings mirages).time = s.time := by simp [takeCourseEnd]
@[simp] theorem swapData_time (s : State) (oi ni : Image) : (swapData s oi ni).time = s.time := by
  unfold swapData
  dsimp only
  rw [foldl_time_eq _ _ _ fun u b => by (repeat' split) <;> simp]

@[simp] theorem swapIo_time (s : State) (oi ni : Image) : (swapIo s oi ni).time = s.time := by rfl
@[simp] theorem setLoop2_time (s : State) (c : Nat) (x : LoopSt2) : (setLoop2 s c x).time = s.time := by rfl
@[simp] theorem swapSettings_time (s : State) (oi ni : Image) : (swapSettings s oi ni).time = s.time := by
  unfold swapSettings
  rw [foldl_time_eq _ _ _ fun u b => by dsimp only; (repeat' split) <;> simp]

@[simp] theorem swapLoops_time (s : State) (oi ni : Image) (keptL : Tab LoopSt) (keptM : Tab LoopSt2) (back : Bool) :
    (swapLoops s oi ni keptL keptM back).time = s.time := by rfl
@[simp] theorem swapSolverOne_time (oi : Image) (keptS : Tab SolvSt) (keptJ : Tab SolvSt2) (s : State)
    (e : Nat × SolverDef) :
    (swapSolverOne oi keptS keptJ s e).time = s.time := by
  unfold swapSolverOne
  dsimp only
  (repeat' split) <;> simp

@[simp] theorem noteUnit_time (s : State) (u : Nat) : (noteUnit s u).time = s.time := by
  unfold noteUnit
  dsimp only
  (repeat' split) <;> simp

@[simp] theorem setJob_time (s : State) (k : Nat) (j : JobSt) (st at_ : Nat) : (setJob s k j st at_).time = s.time := by
  rfl
@[simp] theorem scheduleUnit_time (s : State) (u : Nat) : (scheduleUnit s u).time = s.time := by
  unfold scheduleUnit
  (repeat' split) <;> simp

@[simp] theorem schedule_time (s : State) : (schedule s).time = s.time := by simp [schedule]
@[simp] theorem setOutcome_time (s : State) (c f : Nat) (o : Outcome9) : (setOutcome s c f o).time = s.time := by rfl
@[simp] theorem jobLate_time (s : State) (c : Nat) (why : Nat) : (jobLate s c why).time = s.time := by
  unfold jobLate
  (repeat' split) <;> simp

@[simp] theorem rejoin_time (s : State) (c k : Nat) (d : SolverDef) (u g : Nat) :
    (rejoin s c k d u g).time = s.time := by
  unfold rejoin
  dsimp only
  (repeat' split) <;> simp

@[simp] theorem rehomeOne_time (s : State) (e : Nat × SolverDef) : (rehomeOne s e).time = s.time := by
  unfold rehomeOne
  (repeat' split) <;> simp

@[simp] theorem rehome_time (s : State) (cs : List (Nat × SolverDef)) : (rehome s cs).time = s.time := by
  simp [rehome]
@[simp] theorem swapSolver_time (s : State) (oi : Image) (keptS : Tab SolvSt) (keptJ : Tab SolvSt2) :
    (swapSolver s oi keptS keptJ).time = s.time := by simp [swapSolver]
@[simp] theorem setTable_time (s : State) (t : Nat) (x : TableSt) : (setTable s t x).time = s.time := by rfl
@[simp] theorem swapTable_time (s : State) (t : Nat) (fore : Bytes) : (swapTable s t fore).time = s.time := by
  unfold swapTable
  dsimp only
  (repeat' split) <;> simp

@[simp] theorem swapTables_time (s : State) (oi ni : Image) (kept : Tab TableSt) :
    (swapTables s oi ni kept).time = s.time := by simp [swapTables]
@[simp] theorem swapPanel_time (s : State) (oi ni : Image) : (swapPanel s oi ni).time = s.time := by simp [swapPanel]
@[simp] theorem supersede_time (s : State) (oi ni : Image) : (supersede s oi ni).time = s.time := by simp [supersede]
@[simp] theorem setBank_time (s : State) (b : Nat) (x : BankSt) : (setBank s b x).time = s.time := by simp [setBank]
@[simp] theorem runBank_time (s : State) (b : Nat) : (runBank s b).time = s.time := by simp [runBank]
@[simp] theorem extendK7_time (s : State) (h : Bytes) : (extendK7 s h).time = s.time := by rfl
@[simp] theorem exchSwap_time (s : State) : (exchSwap s).time = s.time := by
  unfold exchSwap
  (repeat' split) <;> simp

@[simp] theorem exchRollback_time (s : State) (reason : Nat) : (exchRollback s reason).time = s.time := by
  unfold exchRollback
  (repeat' split) <;> simp

@[simp] theorem followEnd_time (s : State) (state : Nat) : (followEnd s state).time = s.time := by simp [followEnd]
@[simp] theorem followOpen_time (s : State) (before : Mode) : (followOpen s before).time = s.time := by
  simp [followOpen]
@[simp] theorem followMode_time (s : State) (m state phase : Nat) : (followMode s m state phase).time = s.time := by
  simp [followMode]
@[simp] theorem setLoop_time (s : State) (c : Nat) (x : LoopSt) : (setLoop s c x).time = s.time := by rfl
@[simp] theorem commitFollowed_time (s : State) (t : Nat) : (commitFollowed s t).time = s.time := by
  simp [commitFollowed]
@[simp] theorem dropSpare_time (s : State) : (dropSpare s).time = s.time := by simp [dropSpare]
@[simp] theorem dropRegion_time (s : State) (x : TicketSt) : (dropRegion s x).time = s.time := by
  unfold dropRegion
  (repeat' split) <;> simp

@[simp] theorem followRegion_time (s : State) (t status kind index reason : Nat) :
    (followRegion s t status kind index reason).time = s.time := by simp [followRegion]
@[simp] theorem setPort_time (s : State) (p : Nat) (x : PortSt) : (setPort s p x).time = s.time := by rfl
@[simp] theorem takeContent_time (s : State) (kind index : Nat) (data : Bytes) :
    (takeContent s kind index data).time = s.time := by
  unfold takeContent
  (repeat' split) <;> simp

@[simp] theorem applyMortar_time (s : State) (m : Mortar) : (applyMortar s m).time = s.time := by
  unfold applyMortar
  (repeat' split) <;> simp

@[simp] theorem applyQueued_time (acc : State × List Mortar) (m : Mortar) :
    (applyQueued acc m).1.time = acc.1.time := by
  unfold applyQueued
  dsimp only
  (repeat' split) <;> simp

@[simp] theorem applyQueue_time (s : State) : (applyQueue s).time = s.time := by
  unfold applyQueue
  refine foldl_pair_inv (P := fun u : State => u.time = s.time) _ _ _ rfl fun y b h => ?_
  exact foldl_pair_inv (P := fun u : State => u.time = s.time) _ _ _ h fun z m k => by
    rw [applyQueued_time, k]

@[simp] theorem mortarBoundary_time (s : State) : (mortarBoundary s).time = s.time := by simp [mortarBoundary]

/-! ### What takes effect at a boundary -/

@[simp] theorem trimBoundary_time (s : State) : (trimBoundary s).time = s.time := by rfl
@[simp] theorem coursesBoundary_time (s : State) : (coursesBoundary s).time = s.time := by rfl
@[simp] theorem paramsVisible_time (s : State) : (paramsVisible s).time = s.time := by rfl
@[simp] theorem miragesBoundary_time (s : State) : (miragesBoundary s).time = s.time := by rfl
@[simp] theorem loadTables_time (s : State) (ts : List (Nat × Bytes)) : (loadTables s ts).time = s.time := by rfl
@[simp] theorem stagingLoads_time (s : State) : (stagingLoads s).time = s.time := by
  unfold stagingLoads
  (repeat' split) <;> simp

@[simp] theorem tableCompletes_time (s : State) (t : Nat) : (tableCompletes s t).time = s.time := by
  simp [tableCompletes]
@[simp] theorem tableDue_time (s : State) (t : Nat) : (tableDue s t).time = s.time := by
  unfold tableDue
  dsimp only
  (repeat' split) <;> simp

@[simp] theorem tablesBoundary_time (s : State) : (tablesBoundary s).time = s.time := by simp [tablesBoundary]
@[simp] theorem commitInstance_time (s : State) (t : Nat) : (commitInstance s t).time = s.time := by
  simp [commitInstance]
@[simp] theorem regionsBoundary_time (s : State) : (regionsBoundary s).time = s.time := by simp [regionsBoundary]
@[simp] theorem compareNone_time (s : State) : (compareNone s).time = s.time := by rfl
@[simp] theorem compareOne_time (l : Latch) (f : TickMortar) (s : State) (o : Nat × IoEntry) :
    (compareOne l f s o).time = s.time := by
  unfold compareOne
  dsimp only
  (repeat' split) <;> simp

@[simp] theorem compareOutputs_time (s : State) (l : Latch) : (compareOutputs s l).time = s.time := by
  unfold compareOutputs
  (repeat' split) <;> simp

@[simp] theorem ringSent_time (s : State) : (ringSent s).time = s.time := by rfl
@[simp] theorem setStn_time (s : State) (n : Nat) (x : StationSt) : (setStn s n x).time = s.time := by rfl
@[simp] theorem ringLaunch_time (s : State) : (ringLaunch s).time = s.time := by simp [ringLaunch]
@[simp] theorem captureQuotes_time (s : State) : (captureQuotes s).time = s.time := by rfl
@[simp] theorem setSi_time (s : State) (i : Nat) (x : SiSt) : (setSi s i x).time = s.time := by rfl
@[simp] theorem seeReset_time (s : State) (source tick : Nat) : (seeReset s source tick).time = s.time := by rfl
@[simp] theorem latchSi_time (s : State) (l : Latch) (i : Nat) : (latchSi s l i).time = s.time := by simp [latchSi]
@[simp] theorem latchSafety_time (s : State) (l : Latch) : (latchSafety s l).time = s.time := by simp [latchSafety]
@[simp] theorem sendStatus_time (s : State) : (sendStatus s).time = s.time := by simp [sendStatus]
@[simp] theorem streamBoundary_time (s : State) (i : Nat) : (streamBoundary s i).time = s.time := by
  unfold streamBoundary
  dsimp only
  (repeat' split) <;> simp

@[simp] theorem subsBoundary_time (s : State) (i : Nat) : (subsBoundary s i).time = s.time := by
  unfold subsBoundary
  extract_lets x l s1
  rw [foldl_time_eq _ _ _ fun u b => by split <;> simp]
  simp [s1]

@[simp] theorem sessionsBoundary_time (s : State) : (sessionsBoundary s).time = s.time := by
  unfold sessionsBoundary
  simp

@[simp] theorem objectsBoundary_time (s : State) : (objectsBoundary s).time = s.time := by rfl
@[simp] theorem sequencePixel_time (s : State) (d : PixelDef) : (sequencePixel s d).time = s.time := by
  unfold sequencePixel
  (repeat' split) <;> simp

@[simp] theorem panelNote_time (s : State) : (panelNote s).time = s.time := by
  unfold panelNote
  (repeat' split) <;> simp

end Sys2Proof.Machine
namespace Sys2Proof.Machine

end Sys2Proof.Machine
end

section
/-! SUPPORT. What the steps of a tick boundary do to mode and role (R64, R67, R70). -/

namespace Sys2Proof.Machine

/-- The modes that the transitions of a boundary lead to (Table 02.2): neither the start nor an end of service. -/
def inService : Mode → Bool
  | .kiln | .load | .halt | .sealed => false
  | _ => true

/-- What the work of a boundary does to mode and role: the role stays and no reset is asked for, and a mode that is entered
is one of service. -/
structure ModeMoves (s t : State) : Prop where
  role : t.md.role = s.md.role
  resetAt : t.md.resetAt = s.md.resetAt
  mode : t.md.mode = s.md.mode ∨ inService t.md.mode = true

theorem ModeMoves.of_md {s t : State} (h : t.md = s.md) : ModeMoves s t := ⟨by rw [h], by rw [h], .inl (by rw [h])⟩

theorem ModeMoves.trans {s t u : State} (h : ModeMoves s t) (k : ModeMoves t u) : ModeMoves s u := by
  refine ⟨k.role.trans h.role, k.resetAt.trans h.resetAt, ?_⟩
  rcases k.mode with e | e
  · rw [e]; exact h.mode
  · exact .inr e

theorem ModeMoves.md_trans {s t u : State} (h : ModeMoves s t) (k : u.md = t.md) : ModeMoves s u := h.trans (.of_md k)

theorem ModeMoves.foldl {α : Type} (l : List α) (g : State → α → State) (s : State) (h : ∀ u b, ModeMoves u (g u b)) :
    ModeMoves s (l.foldl g s) := foldl_inv l g s (.of_md rfl) fun u b k => k.trans (h u b)

theorem ModeMoves.pastStart {s t : State} (h : ModeMoves s t) (hk : s.md.mode ≠ .kiln) (hl : s.md.mode ≠ .load) :
    t.md.mode ≠ .kiln ∧ t.md.mode ≠ .load := by
  rcases h.mode with e | e
  · rw [e]; exact ⟨hk, hl⟩
  · constructor <;> (intro c; simp [c, inService] at e)

theorem ModeMoves.inControl {s t : State} (h : ModeMoves s t) : inControl t = inControl s := by
  simp [Machine.inControl, h.role]

/-- A change to a mode of service is such a move. -/
theorem changeMode_moves (s : State) (m : Mode) (cause : Nat) (h : inService m = true) :
    ModeMoves s (changeMode s m cause) := by
  refine ⟨changeMode_role s m cause ?_ ?_, ?_, .inr (by simpa using h)⟩
  · rintro rfl; simp [inService] at h
  · rintro rfl; simp [inService] at h
  · rw [changeMode_md]; split <;> rfl

theorem toSync_moves (s : State) (cause : Nat) : ModeMoves s (toSync s cause) := by
  unfold toSync
  extract_lets p m s1
  exact ModeMoves.trans (t := s1) (.of_md rfl) (changeMode_moves s1 .sync cause rfl)

theorem laneLost_moves (s : State) (lane : Nat) : ModeMoves s (laneLost s lane) := by
  unfold laneLost
  extract_lets l p s1 s2 last s3 q s4
  have h2 : ModeMoves s s2 := .of_md (by simp [s2, s1])
  have h4 : ModeMoves s s4 := h2.md_trans (by simp [s4, s3])
  split
  · exact h2
  split
  · exact h4.trans (toSync_moves _ causePair)
  · exact h4

theorem laneTick_moves (s : State) (lane : Nat) : ModeMoves s (laneTick s lane) := by
  unfold laneTick
  extract_lets l run p s1
  have h1 : ModeMoves s s1 := .of_md rfl
  split
  · exact h1.trans (laneLost_moves _ lane)
  · exact h1

theorem lanesTick_moves (s : State) : ModeMoves s (lanesTick s) := by
  unfold lanesTick
  split
  · exact (laneTick_moves s 0).trans (laneTick_moves _ 1)
  · exact .of_md rfl

theorem applyAck_moves (s : State) (reset : Bool) : ModeMoves s (applyAck s reset) := by
  unfold applyAck
  extract_lets s1 s2
  have h : ModeMoves s s2 := .of_md (by simp [s2, s1])
  split
  · exact .of_md rfl
  split
  · exact h.trans (changeMode_moves _ .stop causeButton rfl)
  · exact h

theorem transAllowed_inService {s : State} {t : Trans} (h : transAllowed s t = true) : inService t.dest = true := by
  unfold transAllowed at h
  cases e : t.dest <;> simp_all [inService]

theorem cmdEnds_moves (s : State) (o : Option Origin) : ModeMoves s (cmdEnds s o) := by
  unfold cmdEnds
  split
  · exact ⟨rfl, rfl, .inl rfl⟩
  · exact .of_md rfl

theorem openWindow_moves (s : State) (before : Mode) : ModeMoves s (openWindow s before) := by
  unfold openWindow
  exact ModeMoves.md_trans (t := { s with md := { s.md with beforeChange := before } }) ⟨rfl, rfl, .inl rfl⟩ (by simp)

theorem takeTrans_moves (s : State) (t : Trans) : ModeMoves s (takeTrans s t) := by
  unfold takeTrans
  extract_lets s1 e s2 before s3 s4
  have h1 : ModeMoves s s1 := cmdEnds_moves s t.origin
  split
  · exact h1.trans (applyAck_moves _ false)
  split
  · exact h1.md_trans (by simp [s2])
  next h =>
    simp only [Bool.or_eq_true, Bool.not_eq_true', not_or, Bool.not_eq_false] at h
    have h3 : ModeMoves s s3 := h1.md_trans (by simp [s3])
    have h4 : ModeMoves s s4 := h3.trans (changeMode_moves _ t.dest t.cause (transAllowed_inService h.2))
    split
    · exact h4.trans (openWindow_moves _ _)
    · exact h4.md_trans (by simp)

theorem takeTransitions_moves (s : State) : ModeMoves s (takeTransitions s) := by
  unfold takeTransitions
  exact ModeMoves.trans (t := { s with md := { s.md with trans := [] } }) ⟨rfl, rfl, .inl rfl⟩
    (.foldl _ _ _ takeTrans_moves)

theorem followEnd_moves (s : State) (state : Nat) : ModeMoves s (followEnd s state) := by
  unfold followEnd
  generalize hu : (if state = 5 then _ else _ : State) = u
  have h : u.md = s.md := by subst hu; (repeat' split) <;> simp
  dsimp only
  split
  · exact (ModeMoves.of_md h).trans (changeMode_moves u .track causeExchange rfl)
  · exact .of_md h

theorem followOpen_moves (s : State) (before : Mode) : ModeMoves s (followOpen s before) := by
  unfold followOpen
  refine ModeMoves.trans ?_ (openWindow_moves _ before)
  split
  · exact changeMode_moves s .change causeExchange rfl
  · exact .of_md rfl

theorem enterEffects_moves (s : State) (old m : Mode) : ModeMoves s (enterEffects s old m) := by
  constructor <;> simp [enterEffects_md]

theorem followMode_moves (s : State) (m state phase : Nat) : ModeMoves s (followMode s m state phase) := by
  unfold followMode
  extract_lets old new p q s1 s2 s3 e s4
  have h1 : ModeMoves s s1 := ⟨rfl, rfl, .inl rfl⟩
  have h2 : ModeMoves s1 s2 := by
    simp only [s2]
    split
    · exact followEnd_moves _ _
    split
    · exact followOpen_moves _ _
    · exact .of_md rfl
  have h3 : ModeMoves s2 s3 := by
    simp only [s3]
    split
    · exact changeMode_moves s2 .track causeExchange rfl
    · exact .of_md rfl
  have h4 : ModeMoves s s4 := ((h1.trans h2).trans h3).md_trans (by simp only [s4]; split <;> rfl)
  split
  · exact h4
  · exact h4.trans (enterEffects_moves _ _ _)

theorem applyMortar_moves (s : State) (m : Mortar) : ModeMoves s (applyMortar s m) := by
  cases m
  case mode m state phase => exact followMode_moves s m state phase
  case swap t => exact ⟨rfl, rfl, .inl rfl⟩
  all_goals exact .of_md (by simp [applyMortar])

theorem applyQueued_moves (acc : State × List Mortar) (m : Mortar) : ModeMoves acc.1 (applyQueued acc m).1 := by
  have h := applyMortar_moves acc.1 m
  have h0 : ModeMoves acc.1 acc.1 := .of_md rfl
  unfold applyQueued
  split
  · dsimp only
    (repeat' split) <;> assumption
  · exact h

theorem applyQueue_moves (s : State) : ModeMoves s (applyQueue s) := by
  unfold applyQueue
  refine ModeMoves.md_trans (t := (s.mortar.queue.foldl _ (s, s.mortar.queue)).1) ?_ rfl
  refine foldl_pair_inv (P := ModeMoves s) _ _ _ (.of_md rfl) fun y b h => ?_
  exact foldl_pair_inv (P := ModeMoves s) _ _ _ h fun z m k => k.trans (applyQueued_moves z m)

theorem mortarBoundary_moves (s : State) : ModeMoves s (mortarBoundary s) := by
  unfold mortarBoundary
  extract_lets m s1 due n s2
  have h1 : ModeMoves s s1 := by
    simp only [s1]
    split
    · exact (applyQueue_moves s).md_trans (by simp)
    · exact .of_md rfl
  have h2 : ModeMoves s s2 := h1.md_trans rfl
  split
  · exact h2.trans (toSync_moves _ causeReaction)
  · exact h2

end Sys2Proof.Machine
end

section
/-! The tick boundary (R20, R39, R44, R59, R88, R121, R123). -/

namespace Sys2Proof.Machine

@[simp] theorem latchToken_md (s : State) (l : Latch) : (latchToken s l).md = s.md := by
  unfold latchToken
  split <;> rfl
@[simp] theorem latchToken_set (s : State) (l : Latch) : (latchToken s l).set = s.set := by
  unfold latchToken
  split <;> rfl
@[simp] theorem latchAll_md (s : State) (l : Latch) : (latchAll s l).md = s.md := by simp [latchAll]
@[simp] theorem latchAll_set (s : State) (l : Latch) : (latchAll s l).set = s.set := by simp [latchAll]

/-- The button is read once in every tick (R82). -/
@[simp] theorem latchAll_samples (s : State) (l : Latch) : (latchAll s l).btn.samples = s.btn.samples + 1 := by
  simp [latchAll, sampleButton]

/-- The role that is due is taken, the mode stays and no reset is asked for; outside HALT a module in control stays so. -/
theorem roleBoundary_md (s : State) : (roleBoundary s).md.mode = s.md.mode ∧ (roleBoundary s).md.resetAt = s.md.resetAt ∧
    (s.md.mode ≠ .halt → inControl s = true → inControl (roleBoundary s) = true) := by
  unfold roleBoundary inControl
  dsimp only
  (repeat' split) <;> simp_all

/-- A slew that ends or goes on changes neither the tick nor the vessel time of the boundary. -/
theorem slewTick_clock (s : State) : (slewTick s).time.tick = s.time.tick ∧ (slewTick s).time.ns = s.time.ns ∧
    (slewTick s).time.phase = s.time.phase := by
  unfold slewTick slewDone
  dsimp only
  (repeat' split) <;> simp

theorem stepTime_none {s : State} (h : s.time.stepDue = none) : stepTime s = s := by
  unfold stepTime
  rw [h]

theorem resetBoundary_none {s : State} (h : s.md.resetAt = none) : resetBoundary s = s := by
  unfold resetBoundary
  rw [h]

theorem leaveLoad_outside {s : State} (h : s.md.mode ≠ .load) : leaveLoad s = s := by
  simp [leaveLoad, loadDone, h]

/-- The beginning of a boundary: the next tick, the release of the last tick's events, and the latch (R39, R40). -/
def boundaryLatched (s : State) (l : Latch) : State :=
  latchAll (lampTick (slewTick (stepTime (prpTick (releaseEventRecs (advance s)))))) l

/-- What follows up to the reset: role, mode and acknowledgement. -/
def boundaryMoves (s : State) : State := takeTransitions (lanesTick (staleTickBoundary (roleBoundary (linkTick s))))

/-- The rest of a boundary: what takes effect in the new tick. -/
def boundaryEffects (s : State) (l : Latch) : State :=
  let s := waitsAlone (settingsBoundary (mortarBoundary s))
  let s := trimBoundary (coursesBoundary (paramsVisible s))
  let s := schedule (miragesBoundary (stagingLoads (tablesBoundary (regionsBoundary s))))
  let s := compareOutputs (ringLaunch (captureQuotes (latchSafety (leaveLoad s) l))) l
  let s := if takeoverDue s then s else sendStatus s
  sendChanges (sessionsBoundary (objectsBoundary (panelNote s)))

theorem boundary_eq (s : State) (l : Latch) : boundary s l =
    let t := resetBoundary (boundaryMoves (boundaryLatched s l))
    if t.md.mode = .kiln then t else boundaryEffects t l := by
  unfold boundary boundaryMoves boundaryEffects boundaryLatched
  rfl

theorem boundaryLatched_clock {s : State} (l : Latch) (h : s.time.stepDue = none) :
    (boundaryLatched s l).time.tick = (s.time.tick + 1) % 2 ^ 64 ∧
    (boundaryLatched s l).time.ns = (s.time.tick + 1) % 2 ^ 64 * 125000 ∧ (boundaryLatched s l).time.phase = 0 := by
  have e : stepTime (prpTick (releaseEventRecs (advance s))) = prpTick (releaseEventRecs (advance s)) :=
    stepTime_none (by simpa [advance] using h)
  simp only [boundaryLatched, e, latchAll_time, lampTick_time, slewTick_clock, prpTick_time, releaseEventRecs_time]
  exact ⟨rfl, rfl, rfl⟩

theorem boundaryLatched_samples (s : State) (l : Latch) : (boundaryLatched s l).btn.samples = s.btn.samples + 1 := by
  simp [boundaryLatched]

theorem boundaryLatched_rest {s : State} (l : Latch) (h : s.time.stepDue = none) :
    ModeMoves s (boundaryLatched s l) ∧ (boundaryLatched s l).md.mode = s.md.mode ∧ (boundaryLatched s l).set = s.set := by
  have e : stepTime (prpTick (releaseEventRecs (advance s))) = prpTick (releaseEventRecs (advance s)) :=
    stepTime_none (by simpa [advance] using h)
  have hm : (boundaryLatched s l).md = { s.md with lampTicks := s.md.lampTicks - 1 } := by
    simp [boundaryLatched, e, lampTick]
  exact ⟨⟨by rw [hm], by rw [hm], .inl (by rw [hm])⟩, by rw [hm], by simp [boundaryLatched, e]⟩

@[simp] theorem boundaryMoves_keeps (s : State) : (boundaryMoves s).time = s.time ∧ (boundaryMoves s).btn = s.btn ∧
    (boundaryMoves s).set = s.set := by simp [boundaryMoves]

/-- After the latch, before the reset: the mode is not one of the start, no reset is asked for, and outside HALT a module in
control stays so. -/
theorem boundaryMoves_md (s : State) : (boundaryMoves s).md.resetAt = s.md.resetAt ∧
    (s.md.mode ≠ .kiln → s.md.mode ≠ .load → (boundaryMoves s).md.mode ≠ .kiln ∧ (boundaryMoves s).md.mode ≠ .load) ∧
    (s.md.mode ≠ .halt → inControl s = true → inControl (boundaryMoves s) = true) := by
  have hl : (linkTick s).md = s.md := by simp
  obtain ⟨hm, hr, hc⟩ := roleBoundary_md (linkTick s)
  have h : ModeMoves (roleBoundary (linkTick s)) (boundaryMoves s) :=
    ((ModeMoves.of_md (by simp)).trans (lanesTick_moves _)).trans (takeTransitions_moves _)
  rw [hl] at hm hr hc
  refine ⟨h.resetAt.trans hr, fun h1 h2 => h.pastStart (by rwa [hm]) (by rwa [hm]), fun h1 h2 => ?_⟩
  rw [h.inControl]
  exact hc h1 h2

/-- A module in control takes nothing from mortar. -/
theorem mortarBoundary_set {s : State} (h : inControl s = true) : (mortarBoundary s).set = s.set := by
  have hs : s.md.role ≠ .standby := by simpa [inControl] using h
  simp [mortarBoundary, follows, shadows, hs]

/-- What waits for a partner in TRACK does not touch the settings in force. -/
theorem waitsAlone_set (s : State) : ∃ w, (waitsAlone s).set = { s.set with waiting := w } := by
  unfold waitsAlone
  split
  · exact ⟨_, rfl⟩
  · exact ⟨[], by simp⟩

theorem boundaryEffects_keeps {s : State} (l : Latch) (h : s.md.mode ≠ .kiln) (h' : s.md.mode ≠ .load) :
    (boundaryEffects s l).time = s.time ∧ (boundaryEffects s l).btn = s.btn ∧
    ∃ w, (boundaryEffects s l).set = { (settingsBoundary (mortarBoundary s)).set with waiting := w } := by
  have hm := ((mortarBoundary_moves s).pastStart h h').2
  obtain ⟨w, hw⟩ := waitsAlone_set (settingsBoundary (mortarBoundary s))
  have hl : ∀ u : State, u.md = (mortarBoundary s).md → leaveLoad u = u := fun u e => leaveLoad_outside (by rwa [e])
  unfold boundaryEffects
  dsimp only
  rw [hl _ (by simp)]
  exact ⟨by simp, by simp, w, by simp [hw]⟩

/-- Completed declarations in their order: the last one has set the GENERATION, and the STATE unless a write followed it. -/
theorem foldl_declarations (l : List Decl) (st : Nat) (g : W32) :
    l.foldl (fun (_ : Nat × W32) d => (if d.written then 1 else 2, d.generation)) (st, g) =
      (l.getLast?.elim st fun d => if d.written then 1 else 2, l.getLast?.elim g (·.generation)) := by
  induction l using List.reverseRecOn with
  | nil => rfl
  | append_singleton l d => simp

/-- Settings at a boundary (R121, R123). -/
theorem settingsBoundary_set (s : State) : (settingsBoundary s).set = { s.set with
    values := s.set.next.foldl (fun v e => tset v e.1 e.2) s.set.values, next := [], done := []
    state := s.set.done.getLast?.elim s.set.state fun d => if d.written then 1 else 2
    generation := s.set.done.getLast?.elim s.set.generation (·.generation) } := by
  simp only [settingsBoundary, foldl_declarations]

/-- A boundary of a module that has left LOAD, with no time step and no reset due. -/
theorem boundary_regular {s : State} (l : Latch) (hk : s.md.mode ≠ .kiln) (hl : s.md.mode ≠ .load)
    (hs : s.time.stepDue = none) (hr : s.md.resetAt = none) : ∃ u : State,
    boundary s l = boundaryEffects u l ∧ u.md.mode ≠ .kiln ∧ u.md.mode ≠ .load ∧
    u.time = (boundaryLatched s l).time ∧ u.btn = (boundaryLatched s l).btn ∧ u.set = s.set ∧
    (s.md.mode ≠ .halt → inControl s = true → inControl u = true) := by
  obtain ⟨hm, hmode, hset⟩ := boundaryLatched_rest l hs
  obtain ⟨hreset, hpast, hctl⟩ := boundaryMoves_md (boundaryLatched s l)
  obtain ⟨htime, hbtn, hset'⟩ := boundaryMoves_keeps (boundaryLatched s l)
  rw [hmode] at hpast hctl
  rw [hm.inControl] at hctl
  have hres : resetBoundary (boundaryMoves (boundaryLatched s l)) = boundaryMoves (boundaryLatched s l) :=
    resetBoundary_none (by rw [hreset, hm.resetAt, hr])
  refine ⟨boundaryMoves (boundaryLatched s l), ?_, (hpast hk hl).1, (hpast hk hl).2, htime, hbtn, hset'.trans hset, hctl⟩
  rw [boundary_eq, hres]
  exact if_neg (hpast hk hl).1

theorem execTickBoundary_ticking {s : State} (l : Latch) (hp : s.md.powered = true) (ht : s.md.ticking = true) :
    exec (.tickBoundary l) s = .next (boundary s l) := by
  show execTickBoundary l s = _
  simp [execTickBoundary, hp, ht]

theorem execTickBoundary_core {s : State} (l : Latch) (hp : s.md.powered = true) (ht : s.md.ticking = false) :
    exec (.tickBoundary l) s = .next (coreTick s l) := by
  show execTickBoundary l s = _
  simp [execTickBoundary, hp, ht]

/-- The reading that a tick adds to the button: a run of like readings goes on or begins (R82). -/
theorem sampleButton_eq (s : State) (closed : Bool) : sampleButton s closed = { s with btn := { s.btn with
    samples := s.btn.samples + 1, raw := closed
    run := if 0 < s.btn.samples ∧ s.btn.raw = closed then s.btn.run + 1 else 1
    level := (sampleButton s closed).btn.level } } := by
  have h : (s.btn.samples ≠ 0 ∧ closed = s.btn.raw) = (0 < s.btn.samples ∧ s.btn.raw = closed) := by
    rw [Nat.pos_iff_ne_zero, eq_comm (a := closed)]
  simp only [sampleButton, h]

/-- Before the tick counter runs, outside HALT, the button and the LED test alone are served (R81, R82). -/
theorem coreTick_outsideHalt {s : State} (l : Latch) (h : s.md.mode ≠ .halt) :
    coreTick s l = lampTick (sampleButton s l.button) := by
  unfold coreTick
  exact if_pos h

/-- Before the tick counter runs, a HALT reads the partner line besides, and it decides the role (R59). -/
def haltTick (s : State) (l : Latch) : State :=
  objectsBoundary (roleBoundary (latchToken (lampTick (sampleButton s l.button)) l))

theorem haltTick_md {s : State} (l : Latch) (h : s.md.mode = .halt) : (haltTick s l).md = { s.md with
    lampTicks := s.md.lampTicks - 1
    role := if onTwin s = false then s.md.role else if l.partnerToken || s.pair.report then .standby else .solo } := by
  cases ht : onTwin s <;>
    simp_all [haltTick, roleBoundary, latchToken, lampTick, onTwin, haltRole, partnerLive, sampleButton]

theorem haltTick_rest (s : State) (l : Latch) :
    (haltTick s l).btn.samples = s.btn.samples + 1 ∧ (haltTick s l).time = s.time := by
  simp [haltTick, sampleButton]

theorem coreTick_halt {s : State} (l : Latch) (h : s.md.mode = .halt) (hr : s.md.resetAt = none) :
    coreTick s l = haltTick s l := by
  have hn : (haltTick s l).md.resetAt.isNone = true := by simp [haltTick_md l h, hr]
  unfold coreTick
  exact (if_neg (not_not_intro h)).trans (if_pos hn)

@[simp] theorem enterKiln_md (s : State) : (enterKiln s).md.mode = .kiln ∧ (enterKiln s).md.powered = s.md.powered ∧
    (enterKiln s).md.resetAt = none := ⟨rfl, rfl, rfl⟩

/-- A reset that is honoured in HALT leads to KILN (R88). -/
theorem coreTick_reset {s : State} (l : Latch) (h : s.md.mode = .halt) (hr : s.md.resetAt ≠ none)
    (ho : resetOutcome (haltTick s l) = .kiln) : ∃ u : State, coreTick s l = enterKiln u ∧ u.md.powered = s.md.powered := by
  have hn : ¬ (haltTick s l).md.resetAt.isNone = true := by simpa [haltTick_md l h] using hr
  refine ⟨completeOpt { haltTick s l with md := { (haltTick s l).md with cmd := none } }
    ((haltTick s l).md.cmd.map (·.origin)) stDone, ?_, by simp [haltTick_md l h]⟩
  unfold coreTick
  exact (if_neg (not_not_intro h)).trans ((if_neg hn).trans (if_pos ho))

/-- Settles O23: a boundary is the next tick for every step of it leaves time, and no module in control takes settings from
mortar; the rest is the management core's own timer. -/
theorem timeAdvancesAtTheBoundary : Obligations.TimeAdvancesAtTheBoundary := by
  unfold Obligations.TimeAdvancesAtTheBoundary
  refine ⟨fun s l hp ht hk hl hs hr => ?_, fun s l hp ht hm => ?_, fun s l hp ht hm hr => ?_, fun s l hp ht hm hr htw hro => ?_⟩
  · obtain ⟨u, hb, huk, hul, htime, hbtn, hset, hctl⟩ := boundary_regular l hk hl hs hr
    obtain ⟨etime, ebtn, w, eset⟩ := boundaryEffects_keeps l huk hul
    obtain ⟨ctick, cns, cphase⟩ := boundaryLatched_clock l hs
    refine ⟨_, execTickBoundary_ticking l hp ht, ?_⟩
    rw [hb, etime, ebtn, eset, htime, hbtn]
    refine ⟨ctick, cns, cphase, boundaryLatched_samples s l, fun hc hh => ?_⟩
    rw [settingsBoundary_set, mortarBoundary_set (hctl hh hc), hset]
    exact ⟨rfl, rfl, rfl, rfl, rfl⟩
  · refine ⟨_, (execTickBoundary_core l hp ht).trans (congrArg _ (coreTick_outsideHalt l hm)), ?_⟩
    rw [sampleButton_eq]
    rfl
  · have e := coreTick_halt l hm hr
    refine ⟨_, (execTickBoundary_core l hp ht).trans (congrArg _ e), ?_⟩
    obtain ⟨hsamples, htime⟩ := haltTick_rest s l
    rw [haltTick_md l hm]
    exact ⟨hm, hsamples, htime, rfl⟩
  · have ho : resetOutcome (haltTick s l) = .kiln := by simp [resetOutcome, haltTick_md l hm, hm, htw, hro]
    obtain ⟨u, hu, hpow⟩ := coreTick_reset l hm hr ho
    refine ⟨_, (execTickBoundary_core l hp ht).trans (congrArg _ hu), ?_⟩
    obtain ⟨kmode, kpow, kreset⟩ := enterKiln_md u
    exact ⟨kmode, kpow.trans (hpow.trans hp), kreset⟩

end Sys2Proof.Machine
end

section
/-! Hosts and their requests: what a refusal leaves behind (R75, R262, R510). -/

namespace Sys2Proof.Machine

/-- An event for which an armed capture waits, with its PRE rows complete, marks the capture (R262). -/
theorem raise_marks_capture {s : State} {ev : Nat} (arg : List W32) (hr : s.ev.running = true)
    (hc : captureSees s ev = true) : (raise s ev arg).loops.cap.evSeen = true := by
  have h : ∀ u : State, u.loops = s.loops → captureSees u ev = true := fun u e => by
    rw [← hc]; simp only [captureSees, e]
  unfold raise raiseAt
  rw [if_pos hr]
  dsimp only
  split <;> exact congrArg (fun u : State => u.loops.cap.evSeen) (if_pos (h _ rfl))

/-- A refusal raises EV009 (R75), which a capture may wait for. -/
theorem refuse_marks_capture {s : State} (r : Req) (obj : W32) (status : Nat) (hr : s.ev.running = true)
    (hc : captureSees s 9 = true) : (refuse s r obj status).loops.cap.evSeen = true := by
  have hl : (reply s r obj status).loops = s.loops := by rw [reply_eq]
  have he : (reply s r obj status).ev = s.ev := by rw [reply_eq]
  exact raise_marks_capture _ (by rw [he, hr]) (by rw [← hc]; simp only [captureSees, hl])

/-- A mode command of the wrong size is refused by its form (R510). -/
theorem execObjectWrite_mode_sized (s : State) (r : Req) {d : Bytes} (hd : d.length ≠ 2) :
    exec (.objectWrite r modeObj d) s = refuseWrite r modeObj rfRange s := by
  show execObjectWrite r modeObj d s = _
  have ha : objAccess modeObj = some .wo := by decide
  unfold execObjectWrite
  rw [ha]
  exact if_pos (show d.length ≠ 2 ∨ 256 ≤ payload d from .inl hd)

/-- A served request that its owner refuses marks a capture that waits for EV009. -/
theorem refuseWrite_marks_capture {s t : State} {r : Req} {obj : W32} {code : Nat} (h : served s r obj = true)
    (hr : s.ev.running = true) (hc : captureSees s 9 = true) (ht : refuseWrite r obj code s = .next t) :
    t.loops.cap.evSeen = true := by
  obtain rfl : hostWrite s r obj (refuse · r obj code) = t := by simpa [refuseWrite] using ht
  obtain ⟨-, -, -, -, -, -, hl, -⟩ := sendChanges_net (wrote (refuse (touch s r) r obj code) obj)
  rw [hostWrite_served h, hl]
  exact refuse_marks_capture r obj code hr hc

/-- A capture ARMED for the next EV009, with a configuration of Table 07.9: RATE_DIV 1, TRIGGER EVENT, DEPTH 16, PRE 0,
TRIG_EVENT 9, channel 0. -/
def awaitingRefusal : CaptureSt :=
  { state := 1
    config := toLe 2 1 ++ toLe 1 3 ++ toLe 1 0 ++ toLe 4 16 ++ toLe 4 0 ++ toLe 2 9 ++ toLe 2 1 ++ toLe 72 0 }

/-- CAPTURE_CONFIGURE takes this configuration with any image: the counterexample is a capture that a host can arm (R260). -/
theorem awaitingRefusal_ok (img : Image) : captureOk img awaitingRefusal.config = true := rfl

/-- A SOLO module in RUN with one session of generation SP3, whose capture waits for a refusal. -/
def captureOnRefusal : State :=
  { State.reset with
    md := { State.reset.md with powered := true, mode := .run, ticking := true }
    ev := { State.reset.ev with running := true }
    loops := { State.reset.loops with cap := awaitingRefusal }
    net := { State.reset.net with sess := [(0, { open_ := true, opening := 1, gen := 3 })], openings := 1 } }

/-- Refutes O54: a refused write leaves the loop engine as it was but for the capture's note of its event (`loopsCore`). An
armed capture whose TRIG_EVENT is 9 notes the EV009 of the refusal (R262), so that `t.loops = s.loops` fails: here for a mode
command without bytes. -/
theorem not_sessionsAnswerTheirHosts : ¬ Obligations.SessionsAnswerTheirHosts := by
  unfold Obligations.SessionsAnswerTheirHosts
  rintro ⟨-, -, -, -, -, -, -, -, -, -, -, -, hwrite⟩
  have hs : served captureOnRefusal ⟨0, 7, 50000⟩ modeObj = true := by decide
  obtain ⟨t, ht, -, -, -, hloops, -⟩ := hwrite captureOnRefusal ⟨0, 7, 50000⟩ [] hs (.inl (by decide))
  have hseen := refuseWrite_marks_capture hs rfl (by decide)
    ((execObjectWrite_mode_sized captureOnRefusal ⟨0, 7, 50000⟩ (by decide)).symm.trans ht)
  rw [hloops] at hseen
  exact absurd hseen (by decide)

end Sys2Proof.Machine
end

section
/-! The queue of commands (R502, R512). -/

namespace Sys2Proof.Machine

/-- Settles O1: the two equations of `step`, by the form of the queue. -/
theorem stepRunsTheFrontCommand : Obligations.StepRunsTheFrontCommand := by
  unfold Obligations.StepRunsTheFrontCommand step
  exact ⟨fun s c l h => by rw [h], fun s h => by rw [h]⟩

end Sys2Proof.Machine
end

section
/-! SUPPORT. A sparse table filled by a fold, and the entries of the I/O map. -/

namespace Sys2Proof.Machine

@[simp] theorem tfind_tset_self {α : Type} (t : Tab α) (k : Nat) (v : α) : tfind (tset t k v) k = some v := by
  induction t with
  | nil => simp [tset, tfind]
  | cons e t ih => grind [tset, tfind]

theorem tfind_tset_ne {α : Type} (t : Tab α) {k j : Nat} (v : α) (h : j ≠ k) : tfind (tset t k v) j = tfind t j := by
  induction t with
  | nil => grind [tset, tfind]
  | cons e t ih => grind [tset, tfind]

theorem tget_eq_tfind {α : Type} (d : α) (t : Tab α) (k : Nat) : tget d t k = (tfind t k).getD d := by
  induction t with
  | nil => rfl
  | cons e t ih => grind [tget, tfind]

/-- A table that a list fills, key by key, reads under a key what the list's entries of that key agree on. -/
theorem tfind_foldl_tset {α β : Type} {l : List β} {b : β} (key : β → Nat) (val : β → α) (t : Tab α) (hb : b ∈ l)
    (h : ∀ c ∈ l, key c = key b → val c = val b) :
    tfind (l.foldl (fun t c => tset t (key c) (val c)) t) (key b) = some (val b) := by
  induction l using List.reverseRecOn with
  | nil => simp at hb
  | append_singleton l c ih =>
    rw [List.foldl_append, List.foldl_cons, List.foldl_nil]
    by_cases e : key c = key b
    · rw [e, tfind_tset_self, h c (by simp) e]
    · rw [tfind_tset_ne _ _ (Ne.symm e)]
      refine ih ?_ fun x hx => h x (by simp [hx])
      rcases List.mem_append.mp hb with hl | hc
      · exact hl
      · exact absurd (congrArg key (List.mem_singleton.mp hc)) (Ne.symm e)

theorem tget_foldl_tset {α β : Type} {l : List β} {b : β} (d : α) (key : β → Nat) (val : β → α) (t : Tab α) (hb : b ∈ l)
    (h : ∀ c ∈ l, key c = key b → val c = val b) :
    tget d (l.foldl (fun t c => tset t (key c) (val c)) t) (key b) = val b := by
  rw [tget_eq_tfind, tfind_foldl_tset key val t hb h]
  rfl

theorem mem_ioNum {img : Image} {e : Nat × IoEntry} : e ∈ ioNum img ↔ ioEntry img e.1 = some e.2 := by
  simp only [ioNum, ioEntry, List.mem_map, Prod.exists, List.mem_zipIdx_iff_getElem?]
  constructor
  · rintro ⟨a, i, h, rfl⟩
    exact h
  · exact fun h => ⟨e.2, e.1, h, rfl⟩

end Sys2Proof.Machine
end

section
/-! The output commit of phase 105 µs (R31, R42, R142, R161, R427, R595). -/

namespace Sys2Proof.Machine

/-! ### The instant of a commit -/

@[simp] theorem setPhase_time (s : State) (n : Nat) : (setPhase s n).time = { s.time with phase := n } := by rfl
@[simp] theorem putOut_time (s : State) (n : Nat) (v : W64) : (putOut s n v).time = s.time := by rfl
@[simp] theorem takeLate_time (s : State) : (takeLate s).time = s.time := by simp [takeLate]
@[simp] theorem setAx_time (s : State) (j : Nat) (x : AxisSt) : (setAx s j x).time = s.time := by rfl
@[simp] theorem markOverrides_time (s : State) : (markOverrides s).time = s.time := by simp [markOverrides]
@[simp] theorem keepFallbacks_time (s : State) : (keepFallbacks s).time = s.time := by simp [keepFallbacks]
@[simp] theorem sendOutcome_time (s : State) (c : Nat) : (sendOutcome s c).time = s.time := by
  unfold sendOutcome
  dsimp only
  (repeat' split) <;> simp
@[simp] theorem sendOutcomes_time (s : State) : (sendOutcomes s).time = s.time := by simp [sendOutcomes]
@[simp] theorem keepCommit_time (s : State) (vals : List (Nat × IoEntry × Applied)) : (keepCommit s vals).time = s.time := by
  simp [keepCommit]
@[simp] theorem endSilence_time (s : State) : (endSilence s).time = s.time := by simp [endSilence]
@[simp] theorem commitChan_time (s : State) (e : IoEntry) (a : Applied) : (commitChan s e a).time = s.time := by
  unfold commitChan
  split <;> simp
@[simp] theorem driveOnboard_time (s : State) (vals : List (Nat × IoEntry × Applied)) :
    (driveOnboard s vals).time = s.time := by simp [driveOnboard]
@[simp] theorem releaseOnboard_time (s : State) : (releaseOnboard s).time = s.time := by
  unfold releaseOnboard
  split <;> rfl
@[simp] theorem ringQueue_time (s : State) (vals : List (Nat × IoEntry × W64)) : (ringQueue s vals).time = s.time := by
  simp [ringQueue]
@[simp] theorem canRefuse_time (s : State) (p : Nat) (e : TxEntry) : (canRefuse s p e).time = s.time := by
  simp [canRefuse]
@[simp] theorem canEnter_time (s : State) (e : TxEntry) : (canEnter s e).time = s.time := by simp [canEnter]
@[simp] theorem canSlotQueue_time (s : State) (vals : List (Nat × IoEntry × W64)) : (canSlotQueue s vals).time = s.time := by
  simp [canSlotQueue]
@[simp] theorem sendTick_time (s : State) (outputs : List (Nat × W64)) : (sendTick s outputs).time = s.time := by
  simp [sendTick]

/-! ### What the layers depend on -/

theorem foldl_putOut_setPhase (l : List (Nat × W64 × Nat)) (s : State) (n : Nat) :
    l.foldl (fun u e => putOut u e.1 e.2.1) (setPhase s n) = setPhase (l.foldl (fun u e => putOut u e.1 e.2.1) s) n :=
  List.foldl_hom (setPhase · n) fun _ _ => rfl

/-- Late releases enter the output image whatever the phase is (R42). -/
theorem takeLate_setPhase (s : State) (n : Nat) : takeLate (setPhase s n) = setPhase (takeLate s) n :=
  foldl_putOut_setPhase _
    { s with crs := { s.crs with outLate := s.crs.outLate.filter fun e => decide (s.time.tick < e.2.2) } } n

/-- What every event may touch in mortar is not the active's mode. -/
theorem activeMode_of_mortarCore {m n : MortarSt} (h : mortarCore m = mortarCore n) : m.activeMode = n.activeMode :=
  congrArg (·.activeMode) h

theorem takeLate_mirages (s : State) : (takeLate s).crs.mirages = s.crs.mirages := by
  unfold takeLate
  exact foldl_inv (P := fun u : State => u.crs.mirages = s.crs.mirages) _ _ _ rfl fun u b h => h

theorem theImage_takeLate (s : State) : theImage (takeLate s) = theImage s := by simp [theImage]

theorem overrideValue_takeLate (s : State) (n : Nat) (e : IoEntry) :
    overrideValue (takeLate s) n e = overrideValue s n e := by
  have h : overrides (takeLate s) = overrides s := by simp [overrides, theImage, axSt, leadB]
  rw [overrideValue, h, overrideValue]

theorem mirageValue_takeLate (s : State) (n : Nat) : mirageValue (takeLate s) n = mirageValue s n := by
  have hm : (takeLate s).mortar.activeMode = s.mortar.activeMode := activeMode_of_mortarCore (by simp)
  simp [mirageValue, programMode, planMode, takeLate_mirages, hm]

/-! ### The values of a commit -/

theorem mem_commitValues {s : State} {v : Nat × IoEntry × Applied} (h : v ∈ commitValues s) :
    ioEntry (theImage s) v.1 = some v.2.1 ∧ v.2.2 = commitValue s v.1 v.2.1 := by
  obtain ⟨e, he, rfl⟩ := List.mem_map.mp h
  exact ⟨mem_ioNum.mp (List.mem_filter.mp he).1, rfl⟩

theorem commitValues_mem {s : State} {n : Nat} {e : IoEntry} (h : ioEntry (theImage s) n = some e) (ho : e.output = true) :
    (n, e, commitValue s n e) ∈ commitValues s :=
  List.mem_map.mpr ⟨(n, e), List.mem_filter.mpr ⟨mem_ioNum.mpr h, ho⟩, rfl⟩

theorem keepCommit_committed (s : State) (vals : List (Nat × IoEntry × Applied)) : (keepCommit s vals).crs.committed =
    vals.foldl (fun t v => tset t v.1 (appliedRaw v.2.1 v.2.2)) s.crs.committed := by
  simp [keepCommit]

/-- A commit keeps, for each output, the raw value of what it applies. -/
theorem keepCommit_output {s : State} {n : Nat} {e : IoEntry} (h : ioEntry (theImage s) n = some e)
    (ho : e.output = true) :
    tget 0 (keepCommit s (commitValues s)).crs.committed n = appliedRaw e (commitValue s n e) := by
  rw [keepCommit_committed]
  refine tget_foldl_tset 0 (fun v : Nat × IoEntry × Applied => v.1) (fun v => appliedRaw v.2.1 v.2.2) _
    (commitValues_mem h ho) fun v hv hn => ?_
  obtain ⟨he, ha⟩ := mem_commitValues hv
  obtain rfl : v.2.1 = e := by simpa [hn, h] using he.symm
  exact congrArg (appliedRaw v.2.1) (by rw [ha, hn])

/-! ### The field controller at a commit -/

theorem driveOnboard_refresh (s : State) (vals : List (Nat × IoEntry × Applied)) :
    (driveOnboard s vals).field.refreshed = true ∧ (driveOnboard s vals).field.lastRefresh = s.time.tick :=
  ⟨rfl, congrArg (·.tick) (by simp : _ = s.time)⟩

/-- A module that is in no overlap releases every terminal and every stage (R331). -/
theorem releaseOnboard_drops {s : State} (h : s.field.overlap = none) : (releaseOnboard s).field.terminal = [] ∧
    ∀ e ∈ (releaseOnboard s).field.ch, e.2.targets = [] := by
  have e : releaseOnboard s =
      releaseStages { s with field := { s.field with terminal := [], refreshed := false, overlap := none } } := by
    unfold releaseOnboard
    exact if_neg (by simp [h])
  rw [e]
  refine ⟨rfl, fun x hx => ?_⟩
  obtain ⟨y, -, rfl⟩ := List.mem_map.mp hx
  rfl

/-! ### OUTPUT_COMMIT -/

/-- The permit containers that a commit queues (R390). -/
def permitted (s : State) (ps : List (Nat × Bytes)) : State := { s with safe := { s.safe with permits := ps } }

@[simp] theorem permitted_safe (s : State) (ps : List (Nat × Bytes)) :
    (permitted s ps).safe = { s.safe with permits := ps } := by rfl
@[simp] theorem permitted_keeps (s : State) (ps : List (Nat × Bytes)) : (permitted s ps).md = s.md ∧
    (permitted s ps).crs = s.crs ∧ (permitted s ps).field = s.field ∧ (permitted s ps).time = s.time :=
  ⟨rfl, rfl, rfl, rfl⟩

/-- What a commit works on: the instant is phase 105 µs, and what was released late has entered the output image. -/
def committing (s : State) : State := takeLate (setPhase s 105000)

/-- The values that a commit applies: none on a module that takes no commit. -/
def appliedValues (s : State) : List (Nat × IoEntry × Applied) := if commits s then commitValues s else []

/-- The raw values that stand for them. -/
def appliedRaws (s : State) : List (Nat × IoEntry × W64) :=
  (appliedValues s).map fun v => (v.1, v.2.1, appliedRaw v.2.1 v.2.2)

/-- The module once it has kept a commit, with the permit containers that it queues. -/
def keptCommit (s : State) : State :=
  let k := if commits s then keepCommit s (appliedValues s) else s
  permitted k (if drives k then permitContainers k else [])

/-- The outputs of a commit: driven, or released. -/
def drivenCommit (s : State) : State :=
  if drives (keptCommit s) then
    canSlotQueue (ringQueue (driveOnboard (keptCommit s) (appliedValues s)) (appliedRaws s)) (appliedRaws s)
  else releaseOnboard (keptCommit s)

/-- The module after a commit. -/
def afterCommit (s : State) : State :=
  sendChanges (sendTick (drivenCommit (committing s)) ((appliedRaws (committing s)).map fun v => (v.1, v.2.2)))

theorem execOutputCommit_ticking {s : State} (hp : s.md.powered = true) (ht : s.md.ticking = true) :
    exec .outputCommit s = .next (afterCommit s) := by
  show execOutputCommit s = _
  unfold execOutputCommit
  exact congrArg Host.Outcome.next (if_neg (by simp [hp, ht]))

@[simp] theorem committing_md (s : State) : (committing s).md = s.md := by simp [committing]
@[simp] theorem committing_time (s : State) : (committing s).time = { s.time with phase := 105000 } := by
  simp [committing]

@[simp] theorem keptCommit_keeps (s : State) :
    (keptCommit s).md = s.md ∧ (keptCommit s).time = s.time ∧ (keptCommit s).field = s.field := by
  simp [keptCommit]

theorem drives_of_md {s t : State} (h : t.md = s.md) : drives t = drives s := by simp only [drives, inControl, h]

@[simp] theorem drivenCommit_keeps (s : State) : (drivenCommit s).md = s.md ∧ (drivenCommit s).time = s.time ∧
    (drivenCommit s).crs = (keptCommit s).crs := by
  simp [drivenCommit]

/-- Sending changes neither mode, time, outputs nor permits. -/
@[simp] theorem afterCommit_keeps (s : State) : (afterCommit s).md = s.md ∧
    (afterCommit s).time = { s.time with phase := 105000 } ∧ (afterCommit s).crs = (keptCommit (committing s)).crs ∧
    (afterCommit s).field = (drivenCommit (committing s)).field ∧
    (afterCommit s).safe = (drivenCommit (committing s)).safe := by
  simp [afterCommit]

theorem drives_keptCommit (s : State) : drives (keptCommit s) = drives s := drives_of_md (keptCommit_keeps s).1

theorem appliedValues_driving {s : State} (h : drives s = true) : appliedValues s = commitValues s :=
  if_pos (by simp [commits, h])

/-- A module that drives keeps for each output the raw value that it applies (R42). -/
theorem keptCommit_output {s : State} (h : drives s = true) {n : Nat} {e : IoEntry} (he : ioEntry (theImage s) n = some e)
    (ho : e.output = true) : tget 0 (keptCommit s).crs.committed n = appliedRaw e (commitValue s n e) := by
  have hk : (keptCommit s).crs = (keepCommit s (commitValues s)).crs := by
    simp [keptCommit, appliedValues_driving h, commits, h]
  rw [hk, keepCommit_output he ho]

/-- A module that drives refreshes the field controller (R42, R429). -/
theorem drivenCommit_refresh {s : State} (h : drives s = true) :
    (drivenCommit s).field.refreshed = true ∧ (drivenCommit s).field.lastRefresh = s.time.tick := by
  have hf : (drivenCommit s).field = (driveOnboard (keptCommit s) (appliedValues s)).field := by
    simp [drivenCommit, drives_keptCommit, h]
  obtain ⟨hr, hl⟩ := driveOnboard_refresh (keptCommit s) (appliedValues s)
  rw [hf]
  exact ⟨hr, hl.trans (congrArg (·.tick) (keptCommit_keeps s).2.1)⟩

/-- A module that does not drive and is in no overlap drives no terminal and queues no permit (R331). -/
theorem drivenCommit_released {s : State} (h : drives s = false) (ho : s.field.overlap = none) :
    (drivenCommit s).field.terminal = [] ∧ (drivenCommit s).safe.permits = [] ∧
    ∀ e ∈ (drivenCommit s).field.ch, e.2.targets = [] := by
  have hd : drivenCommit s = releaseOnboard (keptCommit s) := by simp [drivenCommit, drives_keptCommit, h]
  have hp : (keptCommit s).safe.permits = [] := if_neg (by rw [drives_of_md (s := s) (by simp), h]; decide)
  obtain ⟨ht, hc⟩ := releaseOnboard_drops (s := keptCommit s) (by rw [(keptCommit_keeps s).2.2, ho])
  rw [hd]
  exact ⟨ht, by simp [hp], hc⟩

/-! ### The layers at phase 105 µs -/

/-- The phase plays no part in what a commit applies. -/
theorem commitValue_committing (s : State) (n : Nat) (e : IoEntry) :
    commitValue (committing s) n e = commitValue (takeLate s) n e := by
  rw [committing, takeLate_setPhase]
  rfl

/-- Settles O25: the value kept of an output is that of its highest layer, which the phase and late releases leave as it was
but for the program's; a module that drives refreshes the field controller, and any other releases its terminals. -/
theorem commitAppliesTheLayers : Obligations.CommitAppliesTheLayers := by
  unfold Obligations.CommitAppliesTheLayers
  refine ⟨fun s hp ht hd => ?_, fun s hp ht hd ho => ?_⟩
  · have hc : drives (committing s) = true := (drives_of_md (committing_md s)).trans hd
    obtain ⟨hmd, htime, hcrs, hfield, -⟩ := afterCommit_keeps s
    obtain ⟨hr, hl⟩ := drivenCommit_refresh hc
    refine ⟨_, execOutputCommit_ticking hp ht, hmd, by rw [htime], by rw [hfield, hr], by rw [hfield, hl]; simp, ?_⟩
    intro n e he hout
    have hi : ioEntry (theImage (committing s)) n = some e := by rwa [committing, theImage_takeLate]
    rw [hcrs, keptCommit_output hc hi hout, commitValue_committing, commitValue,
      overrideValue_takeLate, mirageValue_takeLate]
    refine ⟨fun v h => ?_, fun v h1 h2 => ?_, fun v h1 h2 h3 => ?_, fun h1 h2 h3 => ?_⟩
    · rw [h]; rfl
    · rw [h1, h2]; rfl
    · rw [h1, h2, h3]; rfl
    · rw [h1, h2, h3]
  · have hc : drives (committing s) = false := (drives_of_md (committing_md s)).trans hd
    obtain ⟨hmd, -, -, hfield, hsafe⟩ := afterCommit_keeps s
    obtain ⟨hterm, hperm, htarg⟩ := drivenCommit_released hc (by simpa [committing] using ho)
    exact ⟨_, execOutputCommit_ticking hp ht, hmd, by rw [hfield, hterm], by rw [hsafe, hperm], by rwa [hfield]⟩

end Sys2Proof.Machine
end

section
/-! SUPPORT. The intake of the event controller only grows within a tick (R566): one lemma for each operation that a change of
mode, HALT and the end of sessions reach. -/

namespace Sys2Proof.Machine

/-- What the event controller has taken in this tick stays, in its order. -/
structure Raises (s t : State) : Prop where
  intake : s.ev.intake <+: t.ev.intake

theorem Raises.of_intake {s t : State} (h : t.ev.intake = s.ev.intake) : Raises s t := ⟨by rw [h]⟩

theorem Raises.refl (s : State) : Raises s s := .of_intake rfl

theorem Raises.trans {s t u : State} (h : Raises s t) (k : Raises t u) : Raises s u := ⟨h.intake.trans k.intake⟩

theorem Raises.foldl {α : Type} (l : List α) (g : State → α → State) (s : State) (h : ∀ u b, Raises u (g u b)) :
    Raises s (l.foldl g s) :=
  foldl_inv (P := Raises s) l g s (.refl s) fun u b hu => hu.trans (h u b)

/-- An event is added behind what has been taken (R566). -/
theorem Raises.raiseAt {s t : State} (h : Raises s t) (stamp ev : Nat) (arg : List W32) :
    Raises s (raiseAt t stamp ev arg) := by
  refine h.trans ⟨?_⟩
  rw [raiseAt_ev]
  split
  · exact ⟨_, rfl⟩
  · exact ⟨[], List.append_nil _⟩

theorem Raises.raise {s t : State} (h : Raises s t) (ev : Nat) (arg : List W32) : Raises s (raise t ev arg) :=
  h.raiseAt (vtime t) ev arg

theorem Raises.setCourse {s t : State} (h : Raises s t) (c : Nat) (x : CourseSt) : Raises s (setCourse t c x) :=
  ⟨h.intake⟩

theorem Raises.completeOpt {s t : State} (h : Raises s t) (o : Option Origin) (st : Nat) : Raises s (completeOpt t o st) :=
  h.trans (.of_intake (by simp))

theorem releaseDiv0_raises (s : State) (c : Nat) (l : List (Nat × Nat)) : Raises s (releaseDiv0 s c l) := by
  unfold releaseDiv0
  split
  · exact .refl s
  · exact ((Raises.refl s).setCourse _ _).raiseAt _ _ _

theorem releaseEvents_raises (s : State) (c : Nat) (l : List (Nat × W32 × Nat)) : Raises s (releaseEvents s c l) := by
  unfold releaseEvents
  refine Raises.setCourse ?_ _ _
  exact Raises.foldl _ _ s fun u _ => (Raises.refl u).raiseAt _ _ _

theorem leaveDone_raises (s : State) (c : Nat) (done : Release) : Raises s (leaveDone s c done) := by
  have h1 : Raises s (ownData (releaseDiv0 s c done.div0) c done.data) :=
    (releaseDiv0_raises s c done.div0).trans (.of_intake (by simp))
  have h2 := h1.trans (releaseEvents_raises _ c done.events)
  exact h2.trans (.of_intake (by simp [leaveDone]))

theorem leaveUndone_raises (s : State) (c : Nat) : Raises s (leaveUndone s c) :=
  ⟨(leaveDone_raises { s with free := s.free + 1 } c (Config.leftRelease s.free c)).intake⟩

theorem abandonOne_raises (s : State) (c : Nat) : Raises s (abandonOne s c) := by
  unfold abandonOne
  split
  · exact .refl s
  · exact (leaveUndone_raises s c).setCourse _ _

theorem abandonCourses_raises (s : State) : Raises s (abandonCourses s) := by
  unfold abandonCourses
  exact ⟨(Raises.foldl _ abandonOne s abandonOne_raises).intake⟩

theorem stopInjection_raises (s : State) (ctx cause : Nat) : Raises s (stopInjection s ctx cause) := by
  unfold stopInjection
  dsimp only
  split
  · refine Raises.completeOpt ?_ _ _
    exact Raises.raise (.of_intake (by rfl)) _ _
  · exact .refl s

theorem stopInjections_raises (s : State) (cause : Nat) : Raises s (stopInjections s cause) :=
  Raises.foldl _ _ s fun u c => stopInjection_raises u c cause

theorem abortCapture_raises (s : State) (cause : Nat) : Raises s (abortCapture s cause) := by
  unfold abortCapture
  split
  · exact Raises.raise (.of_intake (by rfl)) _ _
  · exact .refl s

theorem canFlush_raises (s : State) (port : Nat) : Raises s (canFlush s port) := by
  have h : Raises s (canDropWaiting s port true true).1 := .of_intake (by simp)
  unfold canFlush
  dsimp only
  split
  · exact h
  · exact Raises.raise (.trans h (.of_intake (by rfl))) _ _

/-! ### A change of mode -/

theorem injectionSetOff_raises (s : State) : Raises s (injectionSetOff s) :=
  ⟨(stopInjections_raises { s with md := { s.md with injection := false } } 11).intake⟩

theorem resolve_raises (s : State) (m : Mode) : Raises s (resolve s m) := by
  unfold resolve
  extract_lets r r' inj n inj' mir' _ s1 s2 _ s3
  have h2 : Raises s s2 := by
    simp only [s2]
    split
    · exact ⟨(injectionSetOff_raises s1).intake⟩
    · exact .of_intake (by rfl)
  have h3 : Raises s s3 := by
    simp only [s3]
    split
    · exact Raises.raise (h2.trans (.of_intake (by rfl))) _ _
    · exact h2
  split
  · exact h3.raise _ _
  · exact h3

theorem enterEffects_raises (s : State) (old m : Mode) : Raises s (enterEffects s old m) := by
  unfold enterEffects
  extract_lets s1 _ s2 _ _ s3 _ s4 s5 s6 s7 _ s8 _ s9
  have h1 : Raises s s1 := by
    simp only [s1]
    split
    · exact .refl s
    · exact abandonCourses_raises s
  have h4 : Raises s s4 := h1.trans (.of_intake (by simp only [s4, s3, s2]; (repeat' split) <;> rfl))
  have h5 : Raises s s5 := by
    simp only [s5]
    split
    · exact (h4.trans (stopInjections_raises s4 11)).trans (.of_intake (by simp))
    · exact h4
  have h6 : Raises s s6 := by
    simp only [s6]
    split
    · exact h5
    · exact h5.trans (abortCapture_raises s5 2)
  have h7 : Raises s s7 := by
    simp only [s7]
    split
    · exact h6.trans (.foldl _ _ _ canFlush_raises)
    · exact h6
  exact h7.trans (.of_intake (by simp only [s9, s8]; (repeat' split) <;> rfl))

theorem changeMode_raises (s : State) (m : Mode) (cause : Nat) : Raises s (changeMode s m cause) := by
  unfold changeMode
  extract_lets old s1 s2 _ s3
  split
  · exact .refl s
  · have h2 : Raises s s2 := ((Raises.refl s).raise _ _).trans (resolve_raises s1 m)
    have h3 : Raises s s3 := h2.trans (.of_intake (by rfl))
    exact (h3.trans (enterEffects_raises s3 old m)).trans (.of_intake (by simp))

/-! ### HALT and the end of sessions -/

theorem ticketEnd_raises (s : State) (t status reason : Nat) : Raises s (ticketEnd s t status reason) := by
  unfold ticketEnd
  extract_lets x s1 s2 s3 s4
  have h2 : Raises s s2 := by
    simp only [s2]
    split <;> exact .of_intake (by rfl)
  have h3 : Raises s s3 := by
    simp only [s3]
    (repeat' split) <;> exact h2.raise _ _
  exact Raises.completeOpt (h3.trans (.of_intake (by simp [s4]))) _ _

theorem endSessions_raises (s : State) (p : Nat → SessSt → Bool) : Raises s (endSessions s p) := by
  unfold endSessions
  extract_lets gone mine _ _ s1
  refine .trans (t := s1) (.of_intake (by rfl)) (.foldl _ _ s1 fun u e => ?_)
  split
  · exact ticketEnd_raises u e.1 6 8
  · exact .refl u

/-- HALT raises what its change of mode and the end of its sessions raise. -/
theorem enterHalt_raises (s : State) (cause : Nat) : Raises s (enterHalt s cause) := by
  unfold enterHalt
  extract_lets ctl s1 s2 s3 s4 s5 s6
  have h1 : Raises s s1 := by
    simp only [s1]
    split
    · exact (Raises.refl s).raise _ _
    · exact .refl s
  have h2 : Raises s s2 := h1.trans (.of_intake (by simp [s2, dropTransitions, voidSwap]))
  have h3 : Raises s s3 := h2.trans (changeMode_raises s2 .halt cause)
  have h4 : Raises s s4 := h3.trans (.of_intake (by simp [s4]))
  have h6 : Raises s s6 := (h4.trans (.of_intake (by simp [s5]))).trans (endSessions_raises s5 _)
  exact h6.trans (.of_intake (by simp))

end Sys2Proof.Machine
end

section
/-! HALT and abdication (R35, R347, R349, R532, R578). -/

namespace Sys2Proof.Machine

/-! ### The instant of HALT -/

@[simp] theorem voidSwap_time (s : State) : (voidSwap s).time = s.time := by simp [voidSwap]
@[simp] theorem dropTransitions_time (s : State) : (dropTransitions s).time = s.time := by simp [dropTransitions]
@[simp] theorem dropOutputs_time (s : State) : (dropOutputs s).time = s.time := by rfl
@[simp] theorem dropWaits_time (s : State) : (dropWaits s).time = s.time := by simp [dropWaits]
@[simp] theorem settingsRoleLost_time (s : State) : (settingsRoleLost s).time = s.time := by simp [settingsRoleLost]
@[simp] theorem endSessions_time (s : State) (p : Nat → SessSt → Bool) : (endSessions s p).time = s.time := by
  simp [endSessions]
@[simp] theorem enterHalt_time (s : State) (cause : Nat) : (enterHalt s cause).time = s.time := by simp [enterHalt]

/-! ### What HALT drops -/

/-- Nothing is driven, permitted or queued for the ring (R349). -/
structure Dropped (s : State) : Prop where
  terminal : s.field.terminal = []
  permits : s.safe.permits = []
  switches : ∀ e ∈ s.safe.axis, e.2.swA = false ∧ e.2.swB = false
  ring : ∀ e ∈ s.ring.st, e.2.queued = [] ∧ e.2.launched = []

theorem Dropped.keep {s t : State} (h : Dropped s) (hf : t.field = s.field) (hs : t.safe = s.safe) (hr : t.ring = s.ring) :
    Dropped t :=
  ⟨by rw [hf, h.terminal], by rw [hs, h.permits], by rw [hs]; exact h.switches, by rw [hr]; exact h.ring⟩

theorem dropOutputs_dropped (s : State) : Dropped (dropOutputs s) := by
  refine ⟨rfl, rfl, fun e he => ?_, fun e he => ?_⟩
  · obtain ⟨x, -, rfl⟩ := List.mem_map.mp he
    exact ⟨rfl, rfl⟩
  · obtain ⟨x, -, rfl⟩ := List.mem_map.mp he
    exact ⟨rfl, rfl⟩

theorem enterHalt_dropped (s : State) (cause : Nat) : Dropped (enterHalt s cause) := by
  unfold enterHalt
  extract_lets ctl s1 s2 s3 s4 s5 s6
  exact (dropOutputs_dropped s4).keep (by simp [s6, s5]) (by simp [s6, s5]) (by simp [s6, s5])

theorem voidSwap_md (s : State) :
    (voidSwap s).md = { s.md with swapAt := none, swapReset := false, swapCmd := none } := by simp [voidSwap]

theorem dropTransitions_md (s : State) : (dropTransitions s).md =
    { s.md with cmd := none, trans := s.md.trans.filter (·.code == 4), resetAt := none } := by simp [dropTransitions]

/-- HALT without the token; the management pair and the slot are as before. -/
theorem enterHalt_md (s : State) (cause : Nat) : (enterHalt s cause).md.mode = .halt ∧
    (enterHalt s cause).md.token = false ∧ (enterHalt s cause).md.mgmtAlive = s.md.mgmtAlive ∧
    (enterHalt s cause).md.slot = s.md.slot := by
  have h : ∀ u : State, (changeMode u .halt cause).md.mgmtAlive = u.md.mgmtAlive ∧
      (changeMode u .halt cause).md.slot = u.md.slot := fun u => by
    rw [changeMode_md]
    split <;> exact ⟨rfl, rfl⟩
  simp [enterHalt, h, dropTransitions_md, voidSwap_md]

theorem enterHalt_forwarding (s : State) (cause : Nat) : (enterHalt s cause).ring.forwarding = s.ring.forwarding := by
  have h : ∀ u : State, (dropOutputs u).ring.forwarding = u.ring.forwarding := fun u => rfl
  simp [enterHalt, h]

/-! ### Abdication -/

@[simp] theorem recorded_nil (s : State) (ph : Nat) : recorded s ph [] = s.ev := by
  unfold recorded
  split <;> simp

theorem intake_recorded (s : State) (ph : Nat) (evs : List (Nat × List W32)) :
    s.ev.intake <+: (recorded s ph evs).intake := by
  unfold recorded
  split
  · exact ⟨_, rfl⟩
  · exact ⟨[], List.append_nil _⟩

theorem recorded_one {s : State} (h : s.ev.running = true) (ph ev : Nat) (arg : List W32) :
    (recorded s ph [(ev, arg)]).intake =
      s.ev.intake ++ [{ stamp := s.time.ns + ph, ev := ev, arg := arg.take 4, quality := timeQuality s }] := by
  rw [recorded, if_pos h]
  rfl

theorem running_of_evCore {e f : EventSt} (h : evCore e = evCore f) : e.running = f.running :=
  (congrArg EventSt.running h : (evCore e).running = (evCore f).running)

/-- The ABDICATE frame, while the management pair can act (R349). -/
def abdicateFrame (s : State) (cause : Nat) : State :=
  if s.md.mgmtAlive && onTwin s && s.ev.running then sendLink s 1 (min (Config.frameBytes 1) frameMax) (.abdicate cause)
  else s

theorem abdicateFrame_eq (s : State) (cause : Nat) : ∃ n, abdicateFrame s cause = { s with net := n } ∧
    (s.md.mgmtAlive = true → onTwin s = true → s.ev.running = true → .abdicate cause ∈ n.outbox) := by
  unfold abdicateFrame
  split
  · obtain ⟨lo, lf, k, h⟩ := sendLink_eq s 1 (min (Config.frameBytes 1) frameMax) (.abdicate cause)
    exact ⟨_, h, fun _ _ _ => by simp [linkNet]⟩
  next h => exact ⟨s.net, rfl, fun h1 h2 h3 => absurd (by simp [h1, h2, h3]) h⟩

/-- HALT, the ABDICATE frame, and EV032 with the cause. -/
def abdicating (s : State) (cause : Nat) : State := raise (abdicateFrame (enterHalt s causeSelf) cause) 32 [w32 cause]

/-- An abdication is that, and the pair part keeps the cause (R349). -/
theorem abdicate_eq {s : State} (cause : Nat) (hm : s.md.mode ≠ .halt) (hm' : s.md.mode ≠ .sealed) :
    ∃ p : PairSt, p.cause = cause ∧ abdicate s cause = { abdicating s cause with pair := p } := by
  unfold abdicate
  rw [if_neg (not_or.mpr ⟨hm, hm'⟩)]
  by_cases hc : (inControl s && s.md.mode != .kiln) = true
  · exact ⟨_, rfl, if_pos hc⟩
  · exact ⟨_, rfl, if_neg hc⟩

/-- The parts of a module that has abdicated: those of HALT, with EV032 behind what HALT has raised. -/
theorem abdicate_parts {s : State} (cause : Nat) (hm : s.md.mode ≠ .halt) (hm' : s.md.mode ≠ .sealed) :
    (abdicate s cause).md = (enterHalt s causeSelf).md ∧ Dropped (abdicate s cause) ∧
    (abdicate s cause).ring.forwarding = s.ring.forwarding ∧ (abdicate s cause).pair.cause = cause ∧
    (abdicate s cause).ev = recorded (enterHalt s causeSelf) s.time.phase [(32, [w32 cause])] ∧
    ((enterHalt s causeSelf).md.mgmtAlive = true → onTwin (enterHalt s causeSelf) = true →
      (enterHalt s causeSelf).ev.running = true → .abdicate cause ∈ (abdicate s cause).net.outbox) := by
  obtain ⟨p, hp, h⟩ := abdicate_eq cause hm hm'
  obtain ⟨n, hn, hout⟩ := abdicateFrame_eq (enterHalt s causeSelf) cause
  have ha : abdicating s cause = raise { enterHalt s causeSelf with net := n } 32 [w32 cause] := by rw [abdicating, hn]
  rw [h, ha]
  refine ⟨by simp, (enterHalt_dropped s causeSelf).keep (by simp) (by simp) (by simp), ?_, hp, ?_, ?_⟩
  · simp [enterHalt_forwarding]
  · simp [recorded, timeQuality]
  · simpa using hout

/-- Behind the events given, an abdication raises EV032 at the same instant. -/
theorem abdicated_of_abdicate {s u : State} {cause phase : Nat} {first : List (Nat × List W32)}
    (hm : u.md.mode ≠ .halt) (hm' : u.md.mode ≠ .sealed) (hev : u.ev = recorded s phase first)
    (ht : u.time = { s.time with phase := phase }) (hslot : u.md.slot = s.md.slot) :
    abdicated s (abdicate u cause) cause phase first := by
  obtain ⟨hmd, hdrop, -, hcause, hrec, hframe⟩ := abdicate_parts cause hm hm'
  obtain ⟨hmode, htoken, -, hslot'⟩ := enterHalt_md u causeSelf
  have hrun : (enterHalt u causeSelf).ev.running = s.ev.running :=
    running_of_evCore (e := (enterHalt u causeSelf).ev) (by simp [hev])
  have hpre : (recorded s phase first).intake <+: (enterHalt u causeSelf).ev.intake := by
    rw [← hev]; exact (enterHalt_raises u causeSelf).intake
  have htwin : onTwin (enterHalt u causeSelf) = onTwin s := by rw [onTwin, hslot', hslot, onTwin]
  refine ⟨by rw [hmd, hmode], by rw [hmd, htoken], hdrop.terminal, hdrop.permits, hdrop.switches, hdrop.ring, hcause, ?_, ?_, ?_⟩
  · rw [hrec]
    exact hpre.trans (intake_recorded ..)
  · intro hr
    rw [hrec, recorded_one (hrun.trans hr), List.drop_append_of_le_length hpre.length_le]
    exact ⟨_, List.mem_append_right _ (List.mem_singleton.mpr rfl), rfl, rfl, by simp [ht]⟩
  · rw [hmd]
    exact fun h1 h2 h3 => hframe h1 (htwin.trans h2) (hrun.trans h3)

/-! ### The faults of Table 10.8 -/

theorem canAbdicate_iff {s : State} : canAbdicate s = true ↔
    s.md.powered = true ∧ s.md.mode ≠ .halt ∧ s.md.mode ≠ .sealed := by
  simp [canAbdicate, and_assoc]

/-- A mismatch of the management pair leaves it unable to act (R349). -/
def mismatched (s : State) (pair : Nat) : State :=
  { s with md := { s.md with mgmtAlive := s.md.mgmtAlive && pair != 2 } }

theorem execLockstepMismatch_powered {s : State} {pair : Nat} (n : Nat) (hp : s.md.powered = true) (h : pair ≤ 2) :
    exec (.lockstepMismatch pair n) s = .next (abdicate (mismatched (setPhase s n) pair) 1) := by
  show execLockstepMismatch pair n s = _
  unfold execLockstepMismatch
  exact congrArg Host.Outcome.next (if_neg (by simp [hp, h]))

theorem execUncorrectableEccError_powered {s : State} {b : Nat} (word n : Nat) (hp : s.md.powered = true) (h : b ≤ 48)
    (h' : b ≠ 47) : exec (.uncorrectableEccError b word n) s =
      .next (abdicate (raise (setPhase s n) 241 [bankArg b, w32 word]) 2) := by
  show execUncorrectableEccError b word n s = _
  unfold execUncorrectableEccError
  exact congrArg Host.Outcome.next ((if_neg (by simp [hp, h])).trans (if_neg h'))

/-- A failed RING clock breaks the ring at the module (R435). -/
def clockFailed (s : State) (domain : Nat) : State :=
  if domain = 8 then { s with ring := { s.ring with forwarding := false } } else s

theorem clockFailed_forwarding (s : State) (domain : Nat) :
    (clockFailed s domain).ring.forwarding = (s.ring.forwarding && domain != 8) := by
  unfold clockFailed
  split <;> simp_all

theorem execClockMonitorFault_powered {s : State} {domain : Nat} (n : Nat) (hp : s.md.powered = true) (h : domain ≤ 12) :
    exec (.clockMonitorFault domain n) s = .next (abdicate (clockFailed (setPhase s n) domain) 3) := by
  show execClockMonitorFault domain n s = _
  unfold execClockMonitorFault
  exact congrArg Host.Outcome.next (if_neg (by simp [hp, h]))

/-- With no feed in range the rails go off 40 ticks after the fault (R578). -/
def railsDue (s : State) : State :=
  if noFeed s && s.sup.railsOffAt.isNone then { s with sup := { s.sup with railsOffAt := some (s.time.tick + 40) } } else s

theorem railsDue_rest (s : State) : ∃ x, railsDue s = { s with sup := x } := by
  unfold railsDue
  split
  · exact ⟨_, rfl⟩
  · exact ⟨s.sup, rfl⟩

@[simp] theorem abdicate_time (s : State) (cause : Nat) : (abdicate s cause).time = s.time := by simp [abdicate]

theorem noFeed_abdicate (s : State) (n cause : Nat) : noFeed (abdicate (setPhase s n) cause) = noFeed s := by
  simp [noFeed]

theorem execSupplyMonitorFault_powered {s : State} (n : Nat) (hp : s.md.powered = true)
    (h : noFeed s = true → s.md.mode ≠ .kiln ∧ s.md.mode ≠ .load) :
    exec (.supplyMonitorFault n) s = .next (railsDue (abdicate (setPhase s n) 4)) := by
  show execSupplyMonitorFault n s = _
  have hs : (noFeed s && (s.md.mode == .kiln || s.md.mode == .load)) = false := by
    cases hn : noFeed s
    · rfl
    · simp [h hn]
  have ht : (abdicate (setPhase s n) 4).time.tick = s.time.tick := by simp
  unfold execSupplyMonitorFault railsDue
  rw [ht]
  exact congrArg Host.Outcome.next ((if_neg (by simp [hp])).trans (if_neg (by simp [hs])))

/-- Settles O55: each fault is an abdication at its instant, of a state that the fault alone has touched. -/
theorem abdicationHaltsTheModule : Obligations.AbdicationHaltsTheModule := by
  unfold Obligations.AbdicationHaltsTheModule
  refine ⟨fun s pair n hc hp => ?_, fun s b word n hc hb hb' => ?_, fun s domain n hc hd => ?_, fun s n hc hf => ?_⟩ <;>
    obtain ⟨hpow, hm, hm'⟩ := canAbdicate_iff.mp hc
  · refine ⟨_, execLockstepMismatch_powered n hpow hp, abdicated_of_abdicate hm hm' (by rw [recorded_nil]; rfl) rfl rfl, ?_⟩
    obtain ⟨hmd, -⟩ := abdicate_parts (s := mismatched (setPhase s n) pair) 1 hm hm'
    obtain ⟨-, -, halive, -⟩ := enterHalt_md (mismatched (setPhase s n) pair) causeSelf
    rw [hmd, halive]
    rfl
  · exact ⟨_, execUncorrectableEccError_powered word n hpow hb hb',
      abdicated_of_abdicate (by simpa using hm) (by simpa using hm') (by rw [raise_ev]; rfl) (by simp) (by simp)⟩
  · have hmd : (clockFailed (setPhase s n) domain).md = s.md := by simp [clockFailed]
    have hm2 : (clockFailed (setPhase s n) domain).md.mode ≠ .halt := by rwa [hmd]
    have hm2' : (clockFailed (setPhase s n) domain).md.mode ≠ .sealed := by rwa [hmd]
    obtain ⟨-, -, hforward, -⟩ := abdicate_parts 3 hm2 hm2'
    refine ⟨_, execClockMonitorFault_powered n hpow hd,
      abdicated_of_abdicate hm2 hm2' (by rw [recorded_nil]; simp [clockFailed, setPhase]) (by simp [clockFailed]) (by rw [hmd]), ?_⟩
    rw [hforward, clockFailed_forwarding]
    rfl
  · obtain ⟨x, hx⟩ := railsDue_rest (abdicate (setPhase s n) 4)
    refine ⟨_, execSupplyMonitorFault_powered n hpow hf, ?_, fun h1 h2 => ?_, fun h1 => ?_⟩
    · rw [hx]
      exact abdicated_of_abdicate hm hm' (by rw [recorded_nil]; rfl) rfl rfl
    · simp [railsDue, noFeed_abdicate, h1, h2]
    · simp [railsDue, noFeed_abdicate, h1]

end Sys2Proof.Machine
end

section
/-! SUPPORT. Up to the start of the base scan, the steps of phase 20 µs keep the instant and raise no deadline event (R348). -/

namespace Sys2Proof.Machine

/-- The instant and the deadline events of the cascade are the same. -/
structure Quiet (s t : State) : Prop where
  time : t.time = s.time
  cascade : t.mortar.cascade = s.mortar.cascade

theorem Quiet.refl (s : State) : Quiet s s := ⟨rfl, rfl⟩

theorem Quiet.trans {s t u : State} (h : Quiet s t) (k : Quiet t u) : Quiet s u :=
  ⟨k.time.trans h.time, k.cascade.trans h.cascade⟩

theorem Quiet.foldl {α : Type} (l : List α) (g : State → α → State) (s : State) (h : ∀ u b, Quiet u (g u b)) :
    Quiet s (l.foldl g s) :=
  foldl_inv (P := Quiet s) l g s (.refl s) fun u b hu => hu.trans (h u b)

/-- An event other than EV098, EV128 and EV160 is none of the cascade's. -/
theorem Quiet.raise {s t : State} (h : Quiet s t) {ev : Nat} (arg : List W32)
    (he : ¬ (ev = 98 ∨ ev = 128 ∨ ev = 160)) : Quiet s (raise t ev arg) := by
  refine h.trans ⟨by simp, ?_⟩
  unfold Sys2Proof.Machine.raise raiseAt
  dsimp only
  rw [if_neg he]
  (repeat' split) <;> rfl

theorem Quiet.setStn {s t : State} (h : Quiet s t) (n : Nat) (x : StationSt) : Quiet s (setStn t n x) :=
  ⟨h.time, h.cascade⟩

theorem Quiet.takeFree {s t : State} (h : Quiet s t) : Quiet s (takeFree t).2 := ⟨h.time, h.cascade⟩

theorem takeModule_quiet (s : State) (st n : Nat) (blocks : List (Nat × Byte × Bytes)) (d : RModDef) :
    Quiet s (takeModule s st n blocks d) := by
  have h : ∀ x, Quiet s (setStn s st x) := (Quiet.refl s).setStn st
  unfold takeModule
  dsimp only
  split
  · split
    · exact h _
    · exact Quiet.raise (h _) _ (by decide)
  split
  · split
    · exact h _
    · exact Quiet.raise (h _).takeFree _ (by decide)
  split
  · exact Quiet.raise (h _) _ (by decide)
  split
  · exact Quiet.raise (h _) _ (by decide)
  · exact h _

theorem takeUndeclared_quiet (s : State) (st : Nat) (d : StationDef) (b : Nat × Byte × Bytes) :
    Quiet s (takeUndeclared s st d b) := by
  unfold takeUndeclared
  dsimp only
  split
  · exact .refl s
  split
  · exact .refl s
  · exact Quiet.raise (Quiet.setStn (.refl s) st _).takeFree _ (by decide)

theorem takeBlocks_quiet (s : State) (d : StationDef) (n : Nat) (blocks : List (Nat × Byte × Bytes)) :
    Quiet s (takeBlocks s d n blocks) :=
  (Quiet.foldl _ _ s fun u m => takeModule_quiet u d.station n blocks m).trans
    (.foldl _ _ _ fun u b => takeUndeclared_quiet u d.station d b)

theorem applyLateFrames_quiet (s : State) : Quiet s (applyLateFrames s) := by
  refine Quiet.foldl _ _ s fun u d => ?_
  split
  · exact (Quiet.setStn (.refl u) d.station _).trans (takeBlocks_quiet ..)
  · exact .refl u

theorem reportOpen_quiet (s : State) : Quiet s (reportOpen s) := by
  unfold reportOpen
  extract_lets now new _ s1
  refine Quiet.trans (t := s1) ⟨rfl, rfl⟩ (.foldl _ _ s1 fun u h => ?_)
  refine Quiet.raise ?_ _ (by decide)
  exact ⟨rfl, rfl⟩

theorem ringHistories_quiet (s : State) : Quiet s (ringHistories s) := Quiet.foldl _ _ s fun _ _ => ⟨rfl, rfl⟩

theorem loopsLoad_quiet (s : State) : Quiet s (loopsLoad s) := by
  unfold loopsLoad
  extract_lets t s1 s2
  have h1 : Quiet s s1 := Quiet.foldl _ _ s fun _ _ => ⟨by rfl, by rfl⟩
  have h2 : Quiet s s2 := h1.trans (Quiet.foldl _ _ s1 fun _ _ => ⟨by rfl, by rfl⟩)
  exact ⟨h2.time, h2.cascade⟩

theorem sendMortar_quiet (s : State) (m : Mortar) : Quiet s (sendMortar s m) := by
  obtain ⟨ms, lo, lf, k, h⟩ := sendMortarAt_eq 4 s m
  rw [sendMortar, h]
  exact ⟨rfl, rfl⟩

theorem completeOne_quiet (s : State) (o : Origin) (st : Nat) : Quiet s (completeOne s o st) := by
  unfold completeOne
  dsimp only
  (repeat' split) <;> exact ⟨rfl, rfl⟩

theorem complete_quiet (s : State) (o : Origin) (st : Nat) : Quiet s (complete s o st) := by
  unfold complete
  split
  · exact completeOne_quiet s o st
  dsimp only
  split
  · exact ⟨rfl, rfl⟩
  · exact ⟨(completeOne_quiet _ o st).time, (completeOne_quiet _ o st).cascade⟩

theorem completeOpt_quiet (s : State) (o : Option Origin) (st : Nat) : Quiet s (completeOpt s o st) := by
  unfold completeOpt
  split
  · exact complete_quiet s _ st
  · exact .refl s

theorem ticketEnd_quiet (s : State) (t status reason : Nat) : Quiet s (ticketEnd s t status reason) := by
  unfold ticketEnd
  extract_lets x s1 s2 s3 s4
  have h2 : Quiet s s2 := by
    simp only [s2]
    split <;> exact ⟨rfl, rfl⟩
  have h3 : Quiet s s3 := by
    simp only [s3]
    (repeat' split) <;> exact h2.raise _ (by decide)
  exact (h3.trans (sendMortar_quiet s3 _)).trans (completeOpt_quiet s4 _ _)

theorem commitRegions_quiet (s : State) (c : Nat) : Quiet s (commitRegions s c) := by
  have h : ∀ (u : State) (t : Nat), Quiet u (commitInstance u t) := fun u t =>
    ⟨(ticketEnd_quiet (putData u _ 0 _) t 4 0).time, (ticketEnd_quiet (putData u _ 0 _) t 4 0).cascade⟩
  refine Quiet.foldl _ _ s fun u e => ?_
  split
  · exact h u e.1
  · exact .refl u

theorem writeForced_quiet (s : State) (l : List (Nat × Nat × Bytes)) : Quiet s (writeForced s l) :=
  Quiet.foldl _ _ s fun _ _ => ⟨by rfl, by rfl⟩

theorem startCourse_quiet (s : State) (c n : Nat) : Quiet s (startCourse s c n) := by
  unfold startCourse
  extract_lets s1 x f s2 s3
  have h2 : Quiet s s2 := (commitRegions_quiet s c).trans ⟨rfl, rfl⟩
  exact (h2.trans (writeForced_quiet s2 f)).trans ⟨rfl, rfl⟩

end Sys2Proof.Machine
end

section
/-! The input image of phase 20 µs, and the start of the base scan on it (R45, R47, R138, R160, R401). -/

namespace Sys2Proof.Machine

/-! ### The cells -/

/-- The table of this tick's cells, before the mirages. -/
def liveTable (s : State) : Tab InCell :=
  ((ioNum (theImage s)).filter fun e => !e.2.output).foldl
    (fun t e => tset t e.1 (keepCell (tget ({} : InCell) s.crs.live e.1) (liveCell s e.1 e.2))) []

/-- An input mirage lies over the cell of its input, if there is one (R160). -/
def layMirage (tick : Nat) (t : Tab InCell) (m : Mirage) : Tab InCell :=
  if (tfind t m.index).isSome then tset t m.index ⟨m.value, true, tick⟩ else t

theorem buildImage_inp (s : State) :
    (buildImage s).crs.inp = s.crs.imageMirages.foldl (layMirage s.time.tick) (liveTable s) := rfl

theorem tfind_liveTable {s : State} {i : Nat} {e : IoEntry} (h : ioEntry (theImage s) i = some e)
    (ho : e.output = false) :
    tfind (liveTable s) i = some (keepCell (tget {} s.crs.live i) (liveCell s i e)) := by
  have hm : (i, e) ∈ (ioNum (theImage s)).filter fun e => !e.2.output :=
    List.mem_filter.mpr ⟨mem_ioNum.mpr h, by simp [ho]⟩
  refine tfind_foldl_tset (fun e : Nat × IoEntry => e.1)
    (fun e => keepCell (tget {} s.crs.live e.1) (liveCell s e.1 e.2)) [] hm fun x hx hi => ?_
  obtain rfl : i = x.1 := hi.symm
  obtain rfl : x.2 = e := by simpa [h] using (mem_ioNum.mp (List.mem_filter.mp hx).1).symm
  rfl

theorem tfind_layMirage_self {t : Tab InCell} {m : Mirage} (tick : Nat) (h : (tfind t m.index).isSome = true) :
    tfind (layMirage tick t m) m.index = some ⟨m.value, true, tick⟩ := by
  rw [layMirage, if_pos h, tfind_tset_self]

theorem tfind_layMirage_ne {m : Mirage} {i : Nat} (tick : Nat) (t : Tab InCell) (h : m.index ≠ i) :
    tfind (layMirage tick t m) i = tfind t i := by
  unfold layMirage
  split
  · exact tfind_tset_ne t _ h.symm
  · rfl

theorem tfind_layMirages_ne {l : List Mirage} {i : Nat} (tick : Nat) (t : Tab InCell) (h : ∀ m ∈ l, m.index ≠ i) :
    tfind (l.foldl (layMirage tick) t) i = tfind t i := by
  induction l generalizing t with
  | nil => rfl
  | cons m l ih =>
    rw [List.foldl_cons, ih _ fun n hn => h n (by simp [hn]), tfind_layMirage_ne tick t (h m (by simp))]

/-- Mirages take no cell away. -/
theorem isSome_layMirages (l : List Mirage) {i : Nat} (tick : Nat) {t : Tab InCell} (h : (tfind t i).isSome = true) :
    (tfind (l.foldl (layMirage tick) t) i).isSome = true := by
  induction l generalizing t with
  | nil => exact h
  | cons m l ih =>
    refine ih ?_
    by_cases hi : m.index = i
    · subst hi
      simp [tfind_layMirage_self tick h]
    · rwa [tfind_layMirage_ne tick t hi]

/-- The cell of an input under a mirage, if no other mirage names it. -/
theorem tfind_layMirages {l : List Mirage} {m : Mirage} (tick : Nat) {t : Tab InCell} (hm : m ∈ l)
    (hu : ∀ n ∈ l, n.index = m.index → n = m) (h : (tfind t m.index).isSome = true) :
    tfind (l.foldl (layMirage tick) t) m.index = some ⟨m.value, true, tick⟩ := by
  induction l using List.reverseRecOn with
  | nil => simp at hm
  | append_singleton l c ih =>
    rw [List.foldl_append, List.foldl_cons, List.foldl_nil]
    by_cases hc : c.index = m.index
    · obtain rfl := hu c (by simp) hc
      exact tfind_layMirage_self tick (isSome_layMirages l tick h)
    · rw [tfind_layMirage_ne tick _ hc]
      refine ih ?_ fun n hn => hu n (by simp [hn])
      rcases List.mem_append.mp hm with hl | he
      · exact hl
      · exact absurd (congrArg (·.index) (List.mem_singleton.mp he)) (Ne.symm hc)

/-- What the channels give depends on no more than the field, the safety channels, the positions and the tick. -/
theorem onboardCell_congr {s t : State} (hk : t.kiln = s.kiln) (hf : t.field = s.field) (hs : t.safe = s.safe)
    (hl : loopsCore t.loops = loopsCore s.loops) (ht : t.time.tick = s.time.tick) (e : IoEntry) :
    onboardCell t e = onboardCell s e := by
  have hpos : t.loops.pos = s.loops.pos := (congrArg LoopsSt.pos hl : (loopsCore t.loops).pos = _)
  have hgood : t.loops.posGood = s.loops.posGood := 
    (congrArg LoopsSt.posGood hl : (loopsCore t.loops).posGood = _)
  simp only [onboardCell, safetyBit, chanStatus, chanClass, chanBad, moduleValid, feedLow, groupSt, chan, theImage, hk, hf,
    hs, hpos, hgood, ht] <;> rfl

/-! ### The image is whole -/

/-- What the image is built from: the late frames and the ring's counts are in. -/
def imageSources (s : State) : State := ringHistories (applyLateFrames (setPhase s 20000))

/-- The image is built, and the loop engine has loaded. -/
def imageLoaded (s : State) : State := loopsLoad (reportOpen (buildImage (imageSources s)))

/-- Nothing but the ring has changed of what the onboard image is built from. -/
@[simp] theorem imageSources_keeps (s : State) : (imageSources s).kiln = s.kiln ∧ (imageSources s).crs = s.crs ∧
    (imageSources s).field = s.field ∧ (imageSources s).safe = s.safe ∧
    loopsCore (imageSources s).loops = loopsCore s.loops := by
  simp [imageSources]

theorem imageSources_quiet (s : State) : Quiet (setPhase s 20000) (imageSources s) :=
  (applyLateFrames_quiet _).trans (ringHistories_quiet _)

theorem imageLoaded_quiet (s : State) : Quiet (setPhase s 20000) (imageLoaded s) :=
  have hb : Quiet (imageSources s) (buildImage (imageSources s)) := ⟨rfl, rfl⟩
  (((imageSources_quiet s).trans hb).trans (reportOpen_quiet _)).trans (loopsLoad_quiet _)

@[simp] theorem imageLoaded_keeps (s : State) : (imageLoaded s).md = s.md ∧ (imageLoaded s).kiln = s.kiln ∧
    (imageLoaded s).exch = s.exch ∧ mortarCore (imageLoaded s).mortar = mortarCore s.mortar := by
  simp [imageLoaded, imageSources]

/-- The loop engine leaves the courses and the image alone. -/
theorem loopsLoad_courses (s : State) : (loopsLoad s).crs.inp = s.crs.inp ∧ (loopsLoad s).crs.c = s.crs.c := by
  simp [loopsLoad]

@[simp] theorem imageLoaded_crs (s : State) : (imageLoaded s).crs.inp = (buildImage (imageSources s)).crs.inp ∧
    (imageLoaded s).crs.c = s.crs.c := by
  obtain ⟨hi, hc⟩ := loopsLoad_courses (reportOpen (buildImage (imageSources s)))
  refine ⟨hi.trans (by simp), hc.trans ?_⟩
  simp [buildImage]

/-- The cell of an onboard input (R401). -/
theorem imageLoaded_cell {s : State} {i : Nat} {e : IoEntry} (h : ioEntry (theImage s) i = some e)
    (ho : e.output = false) (hb : onboard e = true) (hm : ∀ m ∈ s.crs.imageMirages, m.index ≠ i) :
    tget {} (imageLoaded s).crs.inp i = keepCell (tget {} s.crs.live i) (onboardCell s e) := by
  obtain ⟨hk, hc, hf, hs, hl⟩ := imageSources_keeps s
  have himg : ioEntry (theImage (imageSources s)) i = some e := by rwa [theImage, hk]
  have hcell : liveCell (imageSources s) i e = onboardCell s e := by
    obtain ⟨hring, hcan⟩ : e.ring = false ∧ e.can = false := by simpa [onboard] using hb
    rw [← onboardCell_congr hk hf hs hl (congrArg (·.tick) (imageSources_quiet s).time) e]
    simp [liveCell, hring, hcan]
  rw [(imageLoaded_crs s).1, buildImage_inp, hc, tget_eq_tfind, tfind_layMirages_ne _ _ hm, tfind_liveTable himg ho, hc,
    hcell]
  rfl

/-- The cell of an input under a mirage (R160). -/
theorem imageLoaded_mirage {s : State} {m : Mirage} {e : IoEntry} (hm : m ∈ s.crs.imageMirages)
    (hu : ∀ n ∈ s.crs.imageMirages, n.index = m.index → n = m) (h : ioEntry (theImage s) m.index = some e)
    (ho : e.output = false) : tget {} (imageLoaded s).crs.inp m.index = ⟨m.value, true, s.time.tick⟩ := by
  obtain ⟨hk, hc, -⟩ := imageSources_keeps s
  have himg : ioEntry (theImage (imageSources s)) m.index = some e := by rwa [theImage, hk]
  have htick : (imageSources s).time.tick = s.time.tick := congrArg (·.tick) (imageSources_quiet s).time
  rw [(imageLoaded_crs s).1, buildImage_inp, hc, htick, tget_eq_tfind,
    tfind_layMirages _ hm hu (by simp [tfind_liveTable himg ho])]
  rfl

/-! ### The steps behind the image -/

theorem coursesRun_congr {s t : State} (hm : t.md = s.md) (ha : mortarCore t.mortar = mortarCore s.mortar) :
    coursesRun t = coursesRun s := by
  simp only [coursesRun, running, hm, activeMode_of_mortarCore ha]

theorem foldl_eq_self {α β : Type} {l : List α} {g : β → α → β} {s : β} (h : ∀ b ∈ l, g s b = s) : l.foldl g s = s := by
  induction l with
  | nil => rfl
  | cons b l ih => rw [List.foldl_cons, h b (by simp), ih fun x hx => h x (by simp [hx])]

theorem baseWatch_idle {s : State} (h : (course s 0).state ≠ 1 ∨ coursesRun s = false) : baseWatch s = s := by
  unfold baseWatch
  refine if_pos ?_
  rcases h with h | h
  · exact .inl h
  · exact .inr (.inr (by simp [h]))

theorem windowStep_outside {s : State} (h : inWindow s = false) : windowStep s = s := by
  have hr : rollbackDue s = s := by
    unfold rollbackDue
    split
    · exact if_neg (by simp [h])
    · rfl
  unfold windowStep
  dsimp only
  rw [hr]
  exact if_neg (by simp [h])

/-- No timed course starts or overruns where courses do not run or none is due. -/
theorem dispatch_idle {s : State} (h : ∀ c, c < 9 → c ≠ 0 → (coursesRun s && courseDue s c) = false) :
    dispatch s = arbitrate s := by
  unfold dispatch
  refine congrArg arbitrate (foldl_eq_self fun i hi => ?_)
  have hd := h (i + 1) (by have := List.mem_range.mp hi; omega) (by omega)
  exact if_pos (by cases hc : coursesRun s <;> simp_all)

@[simp] theorem arbitrate_inp (s : State) : (arbitrate s).crs.inp = s.crs.inp := rfl

/-- Core pair 1 does not run the base course (R135). -/
theorem course_arbitrate (s : State) : course (arbitrate s) 0 = course s 0 := by
  have h : ∀ (f : Nat × CourseSt → CourseSt) (l : Tab CourseSt),
      tget ({} : CourseSt) (l.map fun e => if e.1 = 0 ∨ e.2.state = 0 then e else (e.1, f e)) 0 = tget {} l 0 := by
    intro f l
    induction l with
    | nil => rfl
    | cons e l ih => by_cases h0 : e.1 = 0 <;> by_cases h1 : e.2.state = 0 <;> simp_all [tget]
  unfold arbitrate course
  exact h _ _

theorem arbitrate_quiet (s : State) : Quiet s (arbitrate s) := ⟨rfl, rfl⟩

theorem coursesRun_arbitrate (s : State) : coursesRun (arbitrate s) = coursesRun s := coursesRun_congr rfl rfl

theorem startBase_idle {s : State} (h : coursesRun s = false) : startBase s = s := by
  unfold startBase
  exact if_pos (by simp [h])

/-- In RUN an idle base course starts a scan once the last one has ended in an earlier tick (R137). -/
theorem startBase_starts {s : State} (hm : s.md.mode = .run) (hr : coursesRun s = true)
    (hd : (courseDef (theImage s) 0).isSome = true) (hs : (course s 0).state = 0) (h0 : 0 < maxScan s)
    (he : (course s 0).endLate = true → (course s 0).endTick ≠ s.time.tick) : startBase s = startCourse s 0 0 := by
  have hscan : maxScan (startCourse s 0 0) = maxScan s := by simp [maxScan, theImage]
  obtain ⟨d, hd⟩ := Option.isSome_iff_exists.mp hd
  simp [startBase, hm, hr, hs, hd, hscan, Nat.not_le.mpr h0]
  exact fun h1 h2 => absurd h2 (he h1)

theorem cascade_none {s : State} (h : s.mortar.cascade = []) : cascade s = s := by
  have hw : ∀ n, cascadeIn [] n = false := fun n => rfl
  unfold cascade
  rw [h]
  simp only [List.filter_nil, hw]
  simp [← h]

/-- An update of brick data that commits touches neither the image nor a course. -/
theorem commitRegions_courses (s : State) (c : Nat) :
    (commitRegions s c).crs.inp = s.crs.inp ∧ (commitRegions s c).crs.c = s.crs.c := by
  refine foldl_inv (P := fun u : State => u.crs.inp = s.crs.inp ∧ u.crs.c = s.crs.c) _ _ _ ⟨rfl, rfl⟩ fun u e h => ?_
  split
  · have hc : (commitInstance u e.1).crs = (putData u (ticket u e.1).index 0 (ticket u e.1).data).crs := by
      simp [commitInstance]
    rw [hc]
    exact h
  · exact h

/-- The base scan that starts takes the image as it is (R138). -/
theorem startCourse_base (s : State) : (course (startCourse s 0 0) 0).state = 1 ∧
    (course (startCourse s 0 0) 0).startTick = s.time.tick ∧ (course (startCourse s 0 0) 0).elapsed = 0 ∧
    (course (startCourse s 0 0) 0).firstScan = (course s 0).firstDue ∧
    (course (startCourse s 0 0) 0).image = s.crs.inp ∧ (startCourse s 0 0).crs.inp = s.crs.inp := by
  obtain ⟨hi, hc⟩ := commitRegions_courses s 0
  have hw : ∀ (u : State) (l : List (Nat × Nat × Bytes)), (writeForced u l).crs.c = u.crs.c ∧
      (writeForced u l).crs.inp = u.crs.inp := fun u l =>
    foldl_inv (P := fun v : State => v.crs.c = u.crs.c ∧ v.crs.inp = u.crs.inp) _ _ _ ⟨rfl, rfl⟩ fun v b h => h
  have hx : course (commitRegions s 0) 0 = course s 0 := by rw [course, hc, course]
  have ht := (commitRegions_quiet s 0).time
  unfold startCourse
  extract_lets s1 x f s2 s3 y
  have hy : y = course s2 0 := congrArg (tget ({} : CourseSt) · 0) (hw s2 f).1
  rw [course_setCourse_self] at hy
  rw [course_setCourse_self, setCourse_inp, (hw s2 f).2]
  exact ⟨congrArg (·.state) hy, (congrArg (·.startTick) hy).trans (congrArg (·.tick) ht), congrArg (·.elapsed) hy,
    (congrArg (·.firstScan) hy).trans (congrArg (·.firstDue) hx), (congrArg (·.image) hy).trans hi, hi⟩

/-! ### INPUT_IMAGE_COMPLETE -/

theorem execInputImageComplete_imaged {s : State} (h : imaged s = true) : exec .inputImageComplete s =
    .next (sendChanges (panelNote (cascade (startBase (dispatch (windowStep (baseWatch (imageLoaded s)))))))) := by
  show execInputImageComplete s = _
  unfold execInputImageComplete
  exact congrArg Host.Outcome.next (if_neg (by simp [h]))

/-- What the notes of the panel and the mortar behind them leave alone. -/
theorem noted_keeps (s : State) : (sendChanges (panelNote s)).md = s.md ∧ (sendChanges (panelNote s)).crs = s.crs ∧
    (sendChanges (panelNote s)).time = s.time := by simp

theorem imageLoaded_tick (s : State) : (imageLoaded s).time.tick = s.time.tick := by
  rw [(imageLoaded_quiet s).time, setPhase_time]

theorem coursesRun_imageLoaded (s : State) : coursesRun (imageLoaded s) = coursesRun s := by
  obtain ⟨hm, -, -, hq⟩ := imageLoaded_keeps s
  exact coursesRun_congr hm hq

theorem inWindow_imageLoaded (s : State) : inWindow (imageLoaded s) = inWindow s := by
  obtain ⟨hm, -, he, -⟩ := imageLoaded_keeps s
  simp only [inWindow, inControl, hm, he]

/-- Where no course runs, only the note of the arbitration follows the image. -/
theorem imageComplete_idle {s : State} (hi : imaged s = true) (hr : coursesRun s = false) (hw : inWindow s = false)
    (hq : s.mortar.cascade = []) :
    exec .inputImageComplete s = .next (sendChanges (panelNote (arbitrate (imageLoaded s)))) := by
  have ur : coursesRun (imageLoaded s) = false := (coursesRun_imageLoaded s).trans hr
  have uq : (arbitrate (imageLoaded s)).mortar.cascade = [] :=
    ((imageLoaded_quiet s).trans (arbitrate_quiet _)).cascade.trans hq
  rw [execInputImageComplete_imaged hi, baseWatch_idle (.inr ur), windowStep_outside ((inWindow_imageLoaded s).trans hw),
    dispatch_idle fun _ _ _ => by rw [ur]; rfl, startBase_idle ((coursesRun_arbitrate _).trans ur), cascade_none uq]

/-- In RUN without a due timed course, an idle base course starts on the image. -/
theorem imageComplete_starts {s : State} (hi : imaged s = true) (hr : coursesRun s = true) (hm : s.md.mode = .run)
    (hq : s.mortar.cascade = []) (hw : inWindow s = false) (hdue : ∀ c, c < 9 → courseDue s c = true → c = 0)
    (hdef : (courseDef (theImage s) 0).isSome = true) (hst : (course s 0).state = 0) (h0 : 0 < maxScan s)
    (hend : (course s 0).endLate = true → (course s 0).endTick ≠ s.time.tick) : exec .inputImageComplete s =
      .next (sendChanges (panelNote (startCourse (arbitrate (imageLoaded s)) 0 0))) := by
  obtain ⟨umd, ukiln, -, -⟩ := imageLoaded_keeps s
  have utick := imageLoaded_tick s
  have uimg : theImage (imageLoaded s) = theImage s := by rw [theImage, ukiln, theImage]
  have ucourse : course (imageLoaded s) 0 = course s 0 := by rw [course, (imageLoaded_crs s).2, course]
  have udue : ∀ c, c < 9 → c ≠ 0 → (coursesRun (imageLoaded s) && courseDue (imageLoaded s) c) = false :=
    fun c h9 hc => by
      have hd : courseDue (imageLoaded s) c = courseDue s c := by rw [courseDue, uimg, utick, courseDue]
      rw [hd, Bool.eq_false_iff.mpr fun h => hc (hdue c h9 h), Bool.and_false]
  have uq : (startCourse (arbitrate (imageLoaded s)) 0 0).mortar.cascade = [] :=
    (((imageLoaded_quiet s).trans (arbitrate_quiet _)).trans (startCourse_quiet _ 0 0)).cascade.trans hq
  have astart : startBase (arbitrate (imageLoaded s)) = startCourse (arbitrate (imageLoaded s)) 0 0 := by
    have akiln : (arbitrate (imageLoaded s)).kiln = s.kiln := by simp
    have aimg : theImage (arbitrate (imageLoaded s)) = theImage s := by rw [theImage, akiln, theImage]
    have acourse := (course_arbitrate (imageLoaded s)).trans ucourse
    have amd : (arbitrate (imageLoaded s)).md = s.md := by simp
    have atick : (arbitrate (imageLoaded s)).time.tick = s.time.tick := by rw [(arbitrate_quiet _).time, utick]
    refine startBase_starts (by rw [amd, hm]) ?_ (by rw [aimg, hdef]) (by rw [acourse, hst]) ?_ ?_
    · rw [coursesRun_arbitrate, coursesRun_imageLoaded, hr]
    · rwa [maxScan, aimg]
    · rw [acourse]
      exact fun h1 h2 => hend h1 (h2.trans atick)
  rw [execInputImageComplete_imaged hi, baseWatch_idle (.inl (by rw [ucourse, hst]; decide)),
    windowStep_outside ((inWindow_imageLoaded s).trans hw), dispatch_idle udue, astart, cascade_none uq]

/-- Settles O24: the steps behind the image leave it alone, and where no timed course is due they come to the start of the
base scan on it. -/
theorem inputImageIsWhole : Obligations.InputImageIsWhole := by
  unfold Obligations.InputImageIsWhole
  refine ⟨fun s hi hr hc hq => ?_, fun s hi hr hm hq hw hdue hdef hst h0 hend => ?_⟩
  · have hw : inWindow s = false := by simp [inWindow, hc]
    obtain ⟨tmd, tcrs, ttime⟩ := noted_keeps (arbitrate (imageLoaded s))
    have atime := ((imageLoaded_quiet s).trans (arbitrate_quiet _)).time
    refine ⟨_, imageComplete_idle hi hr hw hq, tmd.trans (by simp), by rw [ttime, atime, setPhase_time], ?_, ?_⟩ <;>
      rw [tcrs, arbitrate_inp]
    · exact fun i e h ho hb hn => imageLoaded_cell h ho hb hn
    · exact fun m e hm hu h ho => imageLoaded_mirage hm hu h ho
  · obtain ⟨tmd, tcrs, -⟩ := noted_keeps (startCourse (arbitrate (imageLoaded s)) 0 0)
    obtain ⟨cstate, ctick, celapsed, cfirst, cimage, cinp⟩ := startCourse_base (arbitrate (imageLoaded s))
    have acourse : course (arbitrate (imageLoaded s)) 0 = course s 0 := by
      rw [course_arbitrate, course, (imageLoaded_crs s).2, course]
    have atick : (arbitrate (imageLoaded s)).time.tick = s.time.tick := by
      rw [(arbitrate_quiet _).time, imageLoaded_tick]
    have amd : (arbitrate (imageLoaded s)).md = s.md := by simp
    refine ⟨_, imageComplete_starts hi hr hm hq hw hdue hdef hst h0 hend, tmd.trans ?_, ?_⟩
    · simp
    · rw [course, tcrs]
      exact ⟨cstate, ctick.trans atick, celapsed, cfirst.trans (congrArg (·.firstDue) acourse), cimage.trans cinp.symm⟩

end Sys2Proof.Machine
end

section
/-! SUPPORT. The injection attribute stays in its modes (R73): a change of mode resolves it (Table 02.3), KILN and power-off
clear it, INJECTION_ON asks for a mode that allows it, and nothing else touches it. One lemma for each operation that reaches
the mode state. -/

namespace Sys2Proof.Machine

/-- The attribute is set in RUN and DEGRADED alone (`injectionInMode`). -/
structure InjectionFits (s : State) : Prop where
  inMode : injectionInMode s

/-- An operation that leaves the attribute and the mode alone. -/
theorem InjectionFits.of_fields {s t : State} (h : InjectionFits s) (hi : t.md.injection = s.md.injection)
    (hm : t.md.mode = s.md.mode) : InjectionFits t := by
  refine ⟨fun ht => ?_⟩
  rw [hm]
  exact h.inMode (hi ▸ ht)

theorem InjectionFits.keep {s t : State} (h : InjectionFits s) (k : t.md = s.md) : InjectionFits t :=
  h.of_fields (by rw [k]) (by rw [k])

theorem InjectionFits.of_off {s : State} (h : s.md.injection = false) : InjectionFits s := ⟨fun ht => by simp [h] at ht⟩

theorem setPhase_fits {s : State} (h : InjectionFits s) (n : Nat) : InjectionFits (setPhase s n) := h.keep rfl

theorem ite_fits {c : Prop} [Decidable c] {s t : State} (hs : InjectionFits s) (ht : InjectionFits t) :
    InjectionFits (if c then s else t) := by
  split <;> assumption

theorem foldl_fits {α : Type} {l : List α} {g : State → α → State} {s : State} (h : InjectionFits s)
    (hg : ∀ u b, InjectionFits u → InjectionFits (g u b)) : InjectionFits (l.foldl g s) := foldl_inv l g s h hg

/-! ### Changes of mode -/

/-- The injection attribute behind a change of mode is that of before, unless mode or role forbid it (R70, R73). -/
theorem changeMode_fits {s : State} (h : InjectionFits s) (m : Mode) (cause : Nat) :
    InjectionFits (changeMode s m cause) := by
  by_cases hm : s.md.mode = m
  · exact h.keep (by rw [changeMode_md, if_pos hm])
  · refine ⟨fun ht => ?_⟩
    rw [changeMode_md, if_neg hm] at ht ⊢
    cases m <;> simp_all [injectionMode]

@[simp] theorem injectionSetOff_md (s : State) : (injectionSetOff s).md = { s.md with injection := false } := by
  simp [injectionSetOff]

theorem injectionSetOff_fits (s : State) : InjectionFits (injectionSetOff s) := .of_off (by simp [injectionSetOff_md])

theorem enterEffects_fits {s : State} (h : InjectionFits s) (old m : Mode) : InjectionFits (enterEffects s old m) :=
  h.of_fields (by rw [enterEffects_md]) (by rw [enterEffects_md])

theorem voidSwap_fits {s : State} (h : InjectionFits s) : InjectionFits (voidSwap s) :=
  h.of_fields (by rw [voidSwap_md]) (by rw [voidSwap_md])

theorem dropTransitions_fits {s : State} (h : InjectionFits s) : InjectionFits (dropTransitions s) :=
  h.of_fields (by rw [dropTransitions_md]) (by rw [dropTransitions_md])

theorem enterHalt_fits {s : State} (h : InjectionFits s) (cause : Nat) : InjectionFits (enterHalt s cause) := by
  unfold enterHalt
  extract_lets ctl s1 s2 s3 s4 s5 s6 m
  have h1 : InjectionFits s1 := h.keep (by simp [s1])
  have h3 : InjectionFits s3 := changeMode_fits (dropTransitions_fits (voidSwap_fits h1)) .halt cause
  have h6 : InjectionFits s6 := h3.keep (by simp [s6, s5, s4])
  exact h6.of_fields (by simp [m]) (by simp [m])

theorem abdicate_fits {s : State} (h : InjectionFits s) (cause : Nat) : InjectionFits (abdicate s cause) := by
  unfold abdicate
  extract_lets ctl s1 s2 s3
  have h3 : InjectionFits s3 := (enterHalt_fits h causeSelf).keep (by simp [s3, s2, s1])
  exact ite_fits h (ite_fits (h3.keep rfl) (h3.keep rfl))

theorem leaveChange_fits {s : State} (h : InjectionFits s) : InjectionFits (leaveChange s) := h.of_fields rfl rfl

theorem toSync_fits {s : State} (h : InjectionFits s) (cause : Nat) : InjectionFits (toSync s cause) := by
  unfold toSync
  refine changeMode_fits ?_ .sync cause
  exact h.keep rfl

theorem oasisReaction_fits {s : State} (h : InjectionFits s) : InjectionFits (oasisReaction s) := by
  unfold oasisReaction
  split
  · split
    case h_5 => exact changeMode_fits (h.keep (by simp)) _ _
    case h_6 => exact h
    all_goals exact changeMode_fits h _ _
  · exact ite_fits (h.keep rfl) h

theorem degradedMode_fits {s : State} (h : InjectionFits s) : InjectionFits (degradedMode s) := by
  unfold degradedMode
  refine ite_fits ?_ h
  split
  · exact changeMode_fits h _ _
  · exact changeMode_fits h _ _
  · exact changeMode_fits (h.keep (by simp)) _ _
  · exact h

theorem degradedReaction_fits {s : State} (h : InjectionFits s) : InjectionFits (degradedReaction s) :=
  degradedMode_fits (h.keep (by simp))

/-! ### Requests (R516, R517) -/

theorem hostWrite_fits {s : State} (h : InjectionFits s) (r : Req) (obj : W32) {k : State → State}
    (hk : ∀ u, InjectionFits u → InjectionFits (k u)) : InjectionFits (hostWrite s r obj k) := by
  unfold hostWrite withSession
  extract_lets x s1
  have h1 : InjectionFits (setSess s1 r.session { x with lastTick := s1.time.tick }) := h.keep rfl
  refine ite_fits (ite_fits (h1.keep (by simp)) (ite_fits (h1.keep (by simp)) ?_)) h
  exact (hk _ h1).keep (by simp)

theorem hostCommand_fits {s : State} (h : InjectionFits s) (r : Req) (obj : W32) {k : State → State}
    (hk : ∀ u, InjectionFits u → InjectionFits (k u)) : InjectionFits (hostCommand s r obj k) :=
  hostWrite_fits h r obj fun u hu => ite_fits (hu.keep (by simp)) (hk u hu)

/-- A mode command acts in the modes alone that its gate lets pass. -/
theorem modeCommand_fits {s : State} (h : InjectionFits s) (r : Req) (g : ModeGate) {k : State → State}
    (hk : ∀ u, InjectionFits u → g.mode u = false → InjectionFits (k u)) : InjectionFits (modeCommand r g k s) := by
  refine hostWrite_fits h r modeObj fun u hu => ?_
  have hr : ∀ code, InjectionFits (refuse u r modeObj code) := fun code => hu.keep (by simp)
  refine ite_fits (hr _) (ite_fits (hr _) (ite_fits (hr _) ?_))
  split
  · exact hr _
  next hm => exact hk u hu (by simpa using hm)

theorem acceptTransition_fits {s : State} (h : InjectionFits s) (r : Req) (code : Nat) (dest : Mode) :
    InjectionFits (acceptTransition r code dest s) :=
  h.of_fields (by simp [acceptTransition]) (by simp [acceptTransition])

theorem acceptAck_fits {s : State} (h : InjectionFits s) : InjectionFits (acceptAck s) := h.of_fields rfl rfl

theorem acceptSwap_fits {s : State} (h : InjectionFits s) (reset : Bool) (cmd : Option Origin) :
    InjectionFits (acceptSwap s reset cmd) := h.of_fields rfl rfl

theorem resetToKiln_fits {s : State} (h : InjectionFits s) : InjectionFits (resetToKiln s) := h.of_fields rfl rfl

theorem injectionOn_fits {s : State} (r : Req) (h : injectionMode s.md.mode = true) :
    InjectionFits (reply { s with md := { s.md with injection := true } } r modeObj stDone) := by
  refine ⟨fun _ => ?_⟩
  simp only [reply_keeps]
  cases hm : s.md.mode <;> simp_all [injectionMode]

/-! ### KILN, power and the start (R65, R89, R94) -/

theorem cleared_injection (s : State) : (cleared s).md.injection = false := rfl

theorem enterKiln_fits (s : State) : InjectionFits (enterKiln s) := .of_off (cleared_injection s)

theorem powerOff_fits (s : State) : InjectionFits (powerOff s) := .of_off (cleared_injection s)

theorem startAgain_fits (s : State) : InjectionFits (startAgain s) := .of_off (cleared_injection s)

theorem measureStages_fits {s : State} (h : InjectionFits s) (l : List Nat) : InjectionFits (measureStages l s) := by
  induction l generalizing s with
  | nil => exact h
  | cons i l ih =>
    have h1 : InjectionFits (measureStage s i (tget ({} : FwStage) s.kiln.fw i).code) := h.keep (by simp)
    exact ite_fits (ih h1) (enterHalt_fits h1 causeStart)

theorem enterLoad_fits {s : State} (h : InjectionFits s) : InjectionFits (enterLoad s) := by
  unfold enterLoad
  extract_lets again m t e s1 s2 b s3 s4 c s5 r
  have h1 : InjectionFits s1 := h.of_fields rfl rfl
  have h2 : InjectionFits s2 := changeMode_fits h1 .load causeStart
  exact h2.keep (by simp [s5, s4, s3])

theorem kilnLoader_fits {s : State} (h : InjectionFits s) : InjectionFits (kilnLoader s) := by
  unfold kilnLoader
  extract_lets s1 x s2
  have h1 : InjectionFits s1 := measureStages_fits h _
  have h2 : InjectionFits s2 := h1.keep rfl
  exact ite_fits h1 (ite_fits (changeMode_fits h2 _ _) (enterLoad_fits h2))

/-! ### The exchange and the courses (R141, R150, R173 to R178) -/

theorem changeFault_fits {s : State} (h : InjectionFits s) (reason : Nat) : InjectionFits (changeFault s reason) := by
  unfold changeFault
  exact ite_fits h (ite_fits (leaveChange_fits (h.keep (by simp))) (ite_fits h (h.keep rfl)))

theorem rollbackDue_fits {s : State} (h : InjectionFits s) : InjectionFits (rollbackDue s) := by
  unfold rollbackDue
  split
  · exact ite_fits (leaveChange_fits (h.keep (by simp))) h
  · exact h

theorem noQuietTick_fits {s : State} (h : InjectionFits s) : InjectionFits (noQuietTick s) :=
  ite_fits (changeFault_fits h 9) h

theorem windowStep_fits {s : State} (h : InjectionFits s) : InjectionFits (windowStep s) := by
  unfold windowStep
  extract_lets s1 s2
  have h1 : InjectionFits s1 := rollbackDue_fits h
  have h2 : InjectionFits s2 := h1.keep (by simp [s2])
  exact ite_fits (ite_fits (noQuietTick_fits h1) (ite_fits (leaveChange_fits (h2.keep (by simp))) (h2.keep rfl))) h1

theorem windowScanEnd_fits {s : State} (h : InjectionFits s) : InjectionFits (windowScanEnd s) := by
  unfold windowScanEnd
  extract_lets e s1
  refine ite_fits h ?_
  split
  · exact h.keep rfl
  · exact h.keep rfl
  · exact leaveChange_fits (h.keep (by simp [s1]))
  · exact h.keep rfl

theorem openWindow_fits {s : State} (h : InjectionFits s) (before : Mode) : InjectionFits (openWindow s before) :=
  h.of_fields (by simp [openWindow]) (by simp [openWindow])

theorem courseOasis_fits {s : State} (h : InjectionFits s) : InjectionFits (courseOasis s) :=
  oasisReaction_fits (h.keep (by simp))

theorem watchScan_fits {s : State} (h : InjectionFits s) (n : Nat) : InjectionFits (watchScan s n) := by
  unfold watchScan
  extract_lets x at1 s1 s2
  have h1 : InjectionFits s1 := h.keep (by simp [s1])
  have h2 : InjectionFits s2 := ite_fits (changeFault_fits (h1.keep (by simp)) 10) h1
  exact ite_fits (courseOasis_fits (h2.keep (by simp))) h2

theorem baseWatch_fits {s : State} (h : InjectionFits s) : InjectionFits (baseWatch s) := ite_fits h (watchScan_fits h _)

theorem overrun_fits {s : State} (h : InjectionFits s) (c : Nat) : InjectionFits (overrun s c) := by
  unfold overrun
  extract_lets x n s1 s2 s3
  have h3 : InjectionFits s3 := changeFault_fits (h.keep (by simp [s2, s1])) 11
  exact ite_fits h (ite_fits (courseOasis_fits (h3.keep (by simp))) h3)

theorem dispatch_fits {s : State} (h : InjectionFits s) : InjectionFits (dispatch s) := by
  unfold dispatch
  have hf : ∀ (u : State) (c : Nat), InjectionFits u → InjectionFits (if !coursesRun u || !courseDue u c then u
      else if (course u c).state ≠ 0 then overrun u c else startCourse u c 0) := fun u c hu =>
    ite_fits hu (ite_fits (overrun_fits hu c) (hu.keep (by simp)))
  have hd := foldl_fits (l := List.range 8) h fun u i hu => hf u (i + 1) hu
  exact hd.keep (by simp)

theorem startBase_fits {s : State} (h : InjectionFits s) : InjectionFits (startBase s) := by
  unfold startBase
  extract_lets x waits frozen scanB n s1
  have h1 : InjectionFits s1 := h.keep (by simp [s1])
  exact ite_fits h (ite_fits (watchScan_fits h1 n) h1)

/-! ### The safety function (chapter 11) -/

theorem compareFault_fits {s : State} (h : InjectionFits s) (datum : Nat) : InjectionFits (compareFault s datum) :=
  ite_fits h (oasisReaction_fits (h.keep (by simp)))

theorem loseChannel_fits {s : State} (h : InjectionFits s) (b : Bool) (cause : Nat) :
    InjectionFits (loseChannel s b cause) := by
  unfold loseChannel
  extract_lets c s1 s2 s3
  have h3 : InjectionFits s3 := h.keep (by simp [s3, s2, s1])
  exact ite_fits (ite_fits (compareFault_fits h3 255) h3) h

theorem safeLosses_fits {s : State} (h : InjectionFits s) (lossA lossB : Nat) (dataA dataB : Bool) :
    InjectionFits (safeLosses s lossA lossB dataA dataB) := by
  unfold safeLosses
  extract_lets c s1 s2
  have h1 : InjectionFits s1 := h.keep rfl
  have h2 : InjectionFits s2 := ite_fits (loseChannel_fits h1 _ _) (ite_fits (loseChannel_fits h1 _ _) h1)
  exact ite_fits (loseChannel_fits h2 _ _) (ite_fits (loseChannel_fits h2 _ _) h2)

theorem evalSi_fits {s : State} (h : InjectionFits s) (i : Nat) (d : SiDef) : InjectionFits (evalSi s i d) := by
  unfold evalSi
  extract_lets x dA dB hitA hitB hit fault raw waiting run s1 s2
  have h2 : InjectionFits s2 := h.keep (by simp [s2, s1])
  exact ite_fits (compareFault_fits h2 i) h2

theorem evalSpeed_fits {s : State} (h : InjectionFits s) (j : Nat) (d : AxisDef) : InjectionFits (evalSpeed s j d) := by
  unfold evalSpeed
  refine ite_fits ?_ h
  split
  · exact h.keep (by simp)
  · extract_lets x valid v vB run runA runB hit lead s1 s2 s3
    have h3 : InjectionFits s3 := h.keep (by simp [s3, s2, s1])
    exact ite_fits (compareFault_fits h3 _) h3

theorem loseInput_fits {s : State} (h : InjectionFits s) (i channel : Nat) : InjectionFits (loseInput s i channel) :=
  degradedReaction_fits (h.keep (by simp))

/-! ### Acknowledgement and the return (R84, R573) -/

theorem applyAck_fits {s : State} (h : InjectionFits s) (reset : Bool) : InjectionFits (applyAck s reset) := by
  unfold applyAck
  extract_lets s1 s2
  have h2 : InjectionFits s2 := h.keep (by simp [s2, s1])
  exact ite_fits h (ite_fits (changeMode_fits h2 .stop causeButton) h2)

theorem enterSealed_fits {s : State} (h : InjectionFits s) : InjectionFits (enterSealed s) := by
  unfold enterSealed
  extract_lets s1 s2 s3 m
  have h1 : InjectionFits s1 := dropTransitions_fits (voidSwap_fits h)
  have h3 : InjectionFits s3 := (changeMode_fits h1 .sealed causeHost).keep (by simp [s3, s2])
  exact h3.of_fields (by simp [m]) (by simp [m])

theorem confirmReturn_fits {s : State} (h : InjectionFits s) : InjectionFits (confirmReturn s) := by
  unfold confirmReturn
  split
  · exact h
  · refine ite_fits h ?_
    extract_lets e s1 s2 s3 s4 s5 c s6
    refine ite_fits (h.keep (by simp [s1])) (enterSealed_fits (h.keep (by simp [s6, s5, s4, s3, s2, s1])))

theorem pressAck_fits {s : State} (h : InjectionFits s) : InjectionFits (pressAck s) := by
  unfold pressAck
  extract_lets s1 reset s2 s3
  have h1 : InjectionFits s1 := h.keep (by simp [s1])
  have h2 : InjectionFits s2 := applyAck_fits h1 reset
  have h3 : InjectionFits s3 := ite_fits h (ite_fits (ite_fits (h2.keep (by simp)) h2) (h1.keep (by simp)))
  exact confirmReturn_fits (h3.keep (by simp))

theorem pressReset_fits {s : State} (h : InjectionFits s) : InjectionFits (pressReset s) := by
  have hr : ∀ ev, InjectionFits (raise s ev) := fun ev => h.keep (by simp)
  unfold pressReset
  split
  · exact hr 13
  · exact resetToKiln_fits (hr 12)
  · exact acceptSwap_fits (hr 12) true none

theorem press_fits {s : State} (h : InjectionFits s) (d : Nat) : InjectionFits (press s d) :=
  ite_fits h (ite_fits (pressAck_fits h) (ite_fits (pressReset_fits h) (h.keep (by simp))))

/-! ### Vessel time -/

theorem setClock_fits {s : State} (h : InjectionFits s) (boundary phase : Nat) :
    InjectionFits (setClock s boundary phase) :=
  h.of_fields rfl rfl

theorem stepTime_fits {s : State} (h : InjectionFits s) : InjectionFits (stepTime s) := by
  unfold stepTime
  split
  · exact h
  next off o _ =>
    extract_lets m s1 old s2 t s3
    have h1 : InjectionFits s1 := h.keep rfl
    have h2 : InjectionFits s2 := setClock_fits h1 _ 0
    have h3 : InjectionFits s3 := h2.keep (by simp [s3])
    exact ite_fits (h1.keep (by simp)) (h3.keep (by simp))

theorem ptpInLoad_fits {s : State} (h : InjectionFits s) (port : Nat) (gm : W64) (cls steps : Nat) (offset : Int) :
    InjectionFits (ptpInLoad s port gm cls steps offset) := by
  unfold ptpInLoad
  extract_lets n a s1 s2
  have h1 : InjectionFits s1 := h.keep rfl
  have h2 : InjectionFits s2 := setClock_fits h1 _ _
  exact ite_fits h1 (h2.keep rfl)

theorem followClock_fits {s : State} (h : InjectionFits s) : InjectionFits (followClock s) := by
  unfold followClock
  split
  · exact h
  · exact setClock_fits h _ _

theorem startClock_fits {s : State} (h : InjectionFits s) : InjectionFits (startClock s) := by
  unfold startClock
  extract_lets t s1
  have h1 : InjectionFits s1 := setClock_fits h _ 0
  exact ite_fits h (h1.keep rfl)

/-! ### The standby (R66, R69, R194, R339) -/

theorem followSwap_fits {s : State} (h : InjectionFits s) : InjectionFits (followSwap s) := by
  unfold followSwap
  extract_lets s1 e s2
  have h1 : InjectionFits s1 := h.keep (by simp [s1])
  exact ite_fits h1 (startBase_fits (dispatch_fits (h1.keep (by simp [s2]))))

theorem takeTick_fits {s : State} (h : InjectionFits s) (f : TickMortar) : InjectionFits (takeTick s f) := by
  unfold takeTick
  extract_lets s1 m s2 s3
  have h2 : InjectionFits s2 := h.keep (by simp [s2, s1])
  have h3 : InjectionFits s3 := h2.keep (by simp [s3])
  have h4 := startBase_fits (dispatch_fits h3)
  exact ite_fits (h.keep (by simp)) (ite_fits (followSwap_fits h2) (ite_fits (ite_fits h4 h3) h2))

theorem followEnd_fits {s : State} (h : InjectionFits s) (state : Nat) : InjectionFits (followEnd s state) := by
  unfold followEnd
  generalize hu : (if state = 5 then _ else _ : State) = u
  have hk : InjectionFits u := h.keep (by subst hu; (repeat' split) <;> simp)
  exact ite_fits (changeMode_fits hk .track causeExchange) hk

theorem followOpen_fits {s : State} (h : InjectionFits s) (before : Mode) : InjectionFits (followOpen s before) :=
  openWindow_fits (ite_fits (changeMode_fits h .change causeExchange) h) before

theorem followMode_fits {s : State} (h : InjectionFits s) (m state phase : Nat) :
    InjectionFits (followMode s m state phase) := by
  unfold followMode
  extract_lets old new p q s1 s2 s3 e s4
  have h1 : InjectionFits s1 := h.of_fields rfl rfl
  have h2 : InjectionFits s2 := ite_fits (followEnd_fits h1 state) (ite_fits (followOpen_fits h1 old) h1)
  have h3 : InjectionFits s3 := ite_fits (changeMode_fits h2 .track causeExchange) h2
  have h4 : InjectionFits s4 := ite_fits (h3.keep rfl) h3
  exact ite_fits h4 (enterEffects_fits h4 old new)

theorem applyMortar_fits {s : State} (h : InjectionFits s) (m : Mortar) : InjectionFits (applyMortar s m) := by
  cases m
  case mode m state phase => exact followMode_fits h m state phase
  case swap t => exact h.of_fields rfl rfl
  all_goals exact h.keep (by simp [applyMortar])

theorem applyQueued_fits {acc : State × List Mortar} (h : InjectionFits acc.1) (m : Mortar) :
    InjectionFits (applyQueued acc m).1 := by
  have hm := applyMortar_fits h m
  unfold applyQueued
  split
  · dsimp only
    (repeat' split) <;> assumption
  · exact hm

theorem applyQueue_fits {s : State} (h : InjectionFits s) : InjectionFits (applyQueue s) := by
  unfold applyQueue
  refine InjectionFits.keep (s := (s.mortar.queue.foldl _ (s, s.mortar.queue)).1) ?_ rfl
  refine foldl_pair_inv (P := InjectionFits) _ _ _ h fun y b hy => ?_
  exact foldl_pair_inv (P := InjectionFits) _ _ _ hy fun z m hz => applyQueued_fits hz m

theorem mortarBoundary_fits {s : State} (h : InjectionFits s) : InjectionFits (mortarBoundary s) := by
  unfold mortarBoundary
  extract_lets m s1 due n s2
  have h1 : InjectionFits s1 := ite_fits ((applyQueue_fits h).keep (by simp)) (h.keep rfl)
  have h2 : InjectionFits s2 := h1.keep rfl
  exact ite_fits (toSync_fits h2 causeReaction) h2

theorem activeReceive_fits {s : State} (h : InjectionFits s) (m : Mortar) : InjectionFits (activeReceive s m) := by
  unfold activeReceive
  split
  · exact ite_fits (acceptAck_fits h) h
  all_goals exact h.keep (by (repeat' split) <;> simp)

theorem laneLost_fits {s : State} (h : InjectionFits s) (lane : Nat) : InjectionFits (laneLost s lane) := by
  unfold laneLost
  extract_lets l p s1 s2 last s3 q s4
  have h2 : InjectionFits s2 := h.keep (by simp [s2, s1])
  have h4 : InjectionFits s4 := h2.keep (by simp [s4, s3])
  exact ite_fits h2 (ite_fits (toSync_fits h4 causePair) h4)

theorem laneTick_fits {s : State} (h : InjectionFits s) (lane : Nat) : InjectionFits (laneTick s lane) := by
  unfold laneTick
  extract_lets l run p s1
  have h1 : InjectionFits s1 := h.keep rfl
  exact ite_fits (laneLost_fits h1 lane) h1

theorem lanesTick_fits {s : State} (h : InjectionFits s) : InjectionFits (lanesTick s) :=
  ite_fits (laneTick_fits (laneTick_fits h 0) 1) h

theorem roleBoundary_fits {s : State} (h : InjectionFits s) : InjectionFits (roleBoundary s) := by
  refine h.of_fields ?_ (roleBoundary_md s).1
  unfold roleBoundary
  dsimp only
  (repeat' split) <;> simp

theorem refuseSwap_fits {s : State} (h : InjectionFits s) : InjectionFits (refuseSwap s) := by
  unfold refuseSwap
  extract_lets reset s1 o m
  have h1 : InjectionFits s1 := voidSwap_fits h
  exact ite_fits h1 (h1.of_fields (by simp [m]) (by simp [m]))

theorem swapIn_fits (s : State) : InjectionFits (swapIn s) := by
  unfold swapIn
  extract_lets m f p s1
  have h1 : InjectionFits (failTickets (injectionSetOff s1)) := (injectionSetOff_fits s1).keep (by simp)
  have h2 := changeMode_fits h1 (modeOfCode s1.mortar.activeMode) causePair
  exact h2.keep (by simp)

theorem swapAway_fits {s : State} (h : InjectionFits s) : InjectionFits (swapAway s) := by
  unfold swapAway
  extract_lets cmd reset mode s1 s2 s3 a b c d e s4 s5 s6
  have h3 : InjectionFits s3 := h.keep (by simp [s3, s2, s1])
  have h4 : InjectionFits s4 := h3.of_fields rfl rfl
  have h6 : InjectionFits s6 := (toSync_fits h4 causePair).keep (by simp [s6, s5])
  exact ite_fits (h6.of_fields rfl rfl) h6

/-! ### The tick boundary (R64, R67, R88) -/

theorem cmdEnds_fits {s : State} (h : InjectionFits s) (o : Option Origin) : InjectionFits (cmdEnds s o) :=
  ite_fits (h.of_fields rfl rfl) h

theorem takeTrans_fits {s : State} (h : InjectionFits s) (t : Trans) : InjectionFits (takeTrans s t) := by
  unfold takeTrans
  extract_lets s1 e s2 before s3 s4
  have h1 : InjectionFits s1 := cmdEnds_fits h t.origin
  have h4 : InjectionFits s4 := changeMode_fits (h1.keep (by simp [s3])) t.dest t.cause
  exact ite_fits (applyAck_fits h1 false) (ite_fits (h1.keep (by simp [s2]))
    (ite_fits (openWindow_fits h4 before) (h4.keep (by simp))))

theorem takeTransitions_fits {s : State} (h : InjectionFits s) : InjectionFits (takeTransitions s) := by
  unfold takeTransitions
  extract_lets l m
  exact foldl_fits (h.of_fields rfl rfl) fun u t hu => takeTrans_fits hu t

theorem resetDrop_fits {s : State} (h : InjectionFits s) : InjectionFits (resetDrop s) := by
  unfold resetDrop
  exact h.of_fields (by simp) (by simp)

theorem resetBoundary_fits {s : State} (h : InjectionFits s) : InjectionFits (resetBoundary s) := by
  unfold resetBoundary
  split
  · exact h
  · have hd := resetDrop_fits h
    exact ite_fits h (ite_fits (ite_fits (h.of_fields rfl rfl) hd) (ite_fits (enterKiln_fits _) hd))

theorem leaveLoad_fits {s : State} (h : InjectionFits s) : InjectionFits (leaveLoad s) := by
  have hc : InjectionFits (raise (startClock s) 5) := (startClock_fits h).keep (by simp)
  unfold leaveLoad
  dsimp only
  refine ite_fits h (ite_fits (changeMode_fits (hc.of_fields ?_ ?_) _ _) ?_)
  · simp
  · simp
  · split
    · exact h
    · refine ite_fits h (ite_fits (ite_fits h (h.keep (by simp))) (toSync_fits (hc.of_fields ?_ ?_) _)) <;> simp

/-! ### The boundary and the commands -/

theorem boundaryLatched_fits {s : State} (h : InjectionFits s) (l : Latch) : InjectionFits (boundaryLatched s l) := by
  have h1 : InjectionFits (stepTime (prpTick (releaseEventRecs (advance s)))) := stepTime_fits (h.keep (by simp))
  have h2 : InjectionFits (lampTick (slewTick (stepTime (prpTick (releaseEventRecs (advance s)))))) :=
    h1.of_fields (by simp [lampTick]) (by simp [lampTick])
  exact h2.keep (by simp [boundaryLatched])

theorem boundaryMoves_fits {s : State} (h : InjectionFits s) : InjectionFits (boundaryMoves s) := by
  have h1 : InjectionFits (roleBoundary (linkTick s)) := roleBoundary_fits (h.keep (by simp))
  exact takeTransitions_fits (lanesTick_fits (h1.keep (by simp)))

theorem boundaryEffects_fits {s : State} (h : InjectionFits s) (l : Latch) : InjectionFits (boundaryEffects s l) := by
  unfold boundaryEffects
  extract_lets s1 s2 s3 s4 s5
  have h3 : InjectionFits s3 := (mortarBoundary_fits h).keep (by simp [s3, s2, s1])
  have h4 : InjectionFits s4 := (leaveLoad_fits h3).keep (by simp [s4])
  exact h4.keep (by simp [s5])

theorem boundary_fits {s : State} (h : InjectionFits s) (l : Latch) : InjectionFits (boundary s l) := by
  rw [boundary_eq]
  have ht := resetBoundary_fits (boundaryMoves_fits (boundaryLatched_fits h l))
  exact ite_fits ht (boundaryEffects_fits ht l)

theorem coreTick_fits {s : State} (h : InjectionFits s) (l : Latch) : InjectionFits (coreTick s l) := by
  unfold coreTick
  extract_lets s1 s2 o m
  have h1 : InjectionFits s1 := h.of_fields rfl rfl
  have h2 : InjectionFits s2 := (roleBoundary_fits (h1.keep (by simp))).keep rfl
  exact ite_fits h1 (ite_fits h2 (ite_fits (enterKiln_fits _) (resetDrop_fits h2)))

theorem cascade_fits {s : State} (h : InjectionFits s) : InjectionFits (cascade s) := by
  unfold cascade
  extract_lets t l m s1
  have h1 : InjectionFits s1 := h.keep rfl
  exact ite_fits (abdicate_fits h1 5) h1

/-- A command's outcome: a next state keeps the attribute in its modes. -/
def NextFits (o : Host.Outcome State Fault Refusal) : Prop := ∀ t, o = .next t → InjectionFits t

theorem nextFits {s : State} (h : InjectionFits s) : NextFits (.next s) := by
  intro t ht
  cases ht
  exact h

theorem execPowerOn_fits {s : State} (h : InjectionFits s) (slot : Nat) (a b : Bool) :
    NextFits (execPowerOn slot a b s) := by
  unfold execPowerOn
  refine nextFits (ite_fits h ?_)
  extract_lets c m c1
  have hc : InjectionFits c1 := .of_off rfl
  split
  · exact hc
  · exact hc.keep (by simp)

theorem execStartSupplyLoss_fits {s : State} (h : InjectionFits s) : NextFits (execStartSupplyLoss s) :=
  nextFits (ite_fits (startAgain_fits s) h)

theorem execSramClearComplete_fits {s : State} (h : InjectionFits s) : NextFits (execSramClearComplete s) := by
  unfold execSramClearComplete
  extract_lets k e s1 s2 s3
  have h3 : InjectionFits s3 := measureStages_fits (h.keep (by simp [s2, s1])) _
  exact nextFits (ite_fits h (ite_fits (kilnLoader_fits h3) h3))

theorem execDramClearComplete_fits {s : State} (h : InjectionFits s) : NextFits (execDramClearComplete s) := by
  unfold execDramClearComplete
  extract_lets k s1
  have h1 : InjectionFits s1 := h.keep rfl
  exact nextFits (ite_fits h (ite_fits (kilnLoader_fits h1) h1))

theorem execClearTimeout_fits {s : State} (h : InjectionFits s) : NextFits (execClearTimeout s) :=
  nextFits (ite_fits (enterHalt_fits h _) h)

theorem execKilnRemeasureComplete_fits {s : State} (h : InjectionFits s) (stage : Nat) (code : Bytes) (n : Nat) :
    NextFits (execKilnRemeasureComplete stage code n s) :=
  nextFits (ite_fits (abdicate_fits (h.keep (by simp)) 6) h)

theorem execTickBoundary_fits {s : State} (h : InjectionFits s) (l : Latch) : NextFits (execTickBoundary l s) :=
  nextFits (ite_fits h (ite_fits (coreTick_fits h l) (boundary_fits h l)))

theorem execInputImageComplete_fits {s : State} (h : InjectionFits s) : NextFits (execInputImageComplete s) := by
  unfold execInputImageComplete
  extract_lets s1 s2 s3 s4
  have h3 : InjectionFits s3 := baseWatch_fits (h.keep (by simp [s2, s1]))
  have h4 : InjectionFits s4 := startBase_fits (dispatch_fits (windowStep_fits h3))
  exact nextFits (ite_fits h ((cascade_fits h4).keep (by simp)))

theorem execOverrunLimitReached_fits {s : State} (h : InjectionFits s) (c : Nat) :
    NextFits (execOverrunLimitReached c s) :=
  nextFits (ite_fits (overrun_fits (h.keep (by simp)) c) h)

theorem execMaxScanReached_fits {s : State} (h : InjectionFits s) : NextFits (execMaxScanReached s) :=
  nextFits (ite_fits (baseWatch_fits (h.keep (by simp))) h)

theorem execScanWatchExpiry_fits {s : State} (h : InjectionFits s) : NextFits (execScanWatchExpiry s) :=
  nextFits (ite_fits (baseWatch_fits (h.keep (by simp))) h)

theorem execCourseActivationEnd_fits {s : State} (h : InjectionFits s) (c : Nat) (rel : Release) (n : Nat) :
    NextFits (execCourseActivationEnd c rel n s) := by
  unfold execCourseActivationEnd
  extract_lets c' s1 s2 s3 s4 s5 s6 s7 s8 s9 m s10 s11
  have h9 : InjectionFits s9 := h.keep (by simp only [s9, s8, s7, s6, s5, s4, s3, s2, s1]; split <;> simp)
  have h10 : InjectionFits s10 := ite_fits (h9.of_fields rfl rfl) (h9.keep (by simp))
  have h11 : InjectionFits s11 := h10.keep (by simp [s11])
  have h12 : InjectionFits (if c' = 0 then windowScanEnd s11 else s11) := ite_fits (windowScanEnd_fits h11) h11
  exact nextFits (ite_fits h (h12.keep (by simp)))

theorem execExecutionTrap_fits {s : State} (h : InjectionFits s) (c brick offset n : Nat) :
    NextFits (execExecutionTrap c brick offset n s) := by
  unfold execExecutionTrap
  extract_lets c' s1 x s2 s3
  have h3 : InjectionFits s3 := h.keep (by simp [s3, s2, s1])
  exact nextFits (ite_fits h (ite_fits (ite_fits (changeFault_fits h3 12) (courseOasis_fits (h3.keep (by simp))))
    (courseOasis_fits h3)))

theorem execBreakpointReached_fits {s : State} (h : InjectionFits s) (brick n : Nat) :
    NextFits (execBreakpointReached brick n s) := by
  unfold execBreakpointReached
  refine nextFits ?_
  extract_lets x
  split
  · exact h
  · rename_i o s1 c _ b p _
    extract_lets s2 y s3
    have h1 : InjectionFits s1 := h.keep (by simp [s1])
    exact ite_fits h (ite_fits (changeMode_fits (h1.keep (by simp [s3, s2])) _ _) (h1.keep (by simp)))

/-! Mode commands (R77, R78). -/

theorem execModeStart_fits {s : State} (h : InjectionFits s) (r : Req) : NextFits (execModeStart r s) :=
  nextFits (modeCommand_fits h r _ fun _ hu _ => acceptTransition_fits hu r _ _)

theorem execModeStop_fits {s : State} (h : InjectionFits s) (r : Req) : NextFits (execModeStop r s) :=
  nextFits (modeCommand_fits h r _ fun _ hu _ => acceptTransition_fits hu r _ _)

theorem execModeContinue_fits {s : State} (h : InjectionFits s) (r : Req) : NextFits (execModeContinue r s) :=
  nextFits (modeCommand_fits h r _ fun _ hu _ => acceptTransition_fits hu r _ _)

theorem execModeAcknowledge_fits {s : State} (h : InjectionFits s) (r : Req) : NextFits (execModeAcknowledge r s) := by
  refine nextFits (modeCommand_fits h r _ fun u hu _ => ?_)
  have ha : InjectionFits (if inControl u then acceptAck u else forwardAck u) :=
    ite_fits (acceptAck_fits hu) (hu.keep (by simp))
  exact ha.keep (by simp)

theorem execModeReset_fits {s : State} (h : InjectionFits s) (r : Req) : NextFits (execModeReset r s) := by
  refine nextFits (modeCommand_fits h r _ fun u hu _ => ?_)
  extract_lets o out s1 m s2
  have h1 : InjectionFits s1 := hu.keep (by simp [s1])
  have h2 : InjectionFits s2 := h1.of_fields rfl rfl
  exact ite_fits (acceptSwap_fits h2 true none) (resetToKiln_fits h2)

theorem execModeRoleSwap_fits {s : State} (h : InjectionFits s) (r : Req) : NextFits (execModeRoleSwap r s) :=
  nextFits (modeCommand_fits h r _ fun _ hu _ => acceptSwap_fits (hu.keep (by simp)) _ _)

/-- INJECTION_ON is served in the modes of Table 02.3 alone. -/
theorem execInjectionOn_fits {s : State} (h : InjectionFits s) (r : Req) : NextFits (execInjectionOn r s) :=
  nextFits (modeCommand_fits h r _ fun _ _ hm => injectionOn_fits r (by simpa using hm))

theorem execInjectionOff_fits {s : State} (h : InjectionFits s) (r : Req) : NextFits (execInjectionOff r s) :=
  nextFits (modeCommand_fits h r _ fun u _ _ => (injectionSetOff_fits u).keep (by simp))

theorem execButtonReleaseRecognised_fits {s : State} (h : InjectionFits s) :
    NextFits (execButtonReleaseRecognised s) := by
  unfold execButtonReleaseRecognised
  extract_lets s1 opened b s2
  have h2 : InjectionFits s2 := h.keep rfl
  have h3 := ite_fits (c := s2.btn.stuck = true) h2 (press_fits h2 (opened - s2.btn.closedAt))
  exact nextFits (ite_fits h (h3.keep (by simp)))

/-! The exchange. -/

theorem execExchangeActivate_fits {s : State} (h : InjectionFits s) (r : Req) :
    NextFits (execExchangeActivate r s) := by
  refine nextFits (hostCommand_fits h r exchObj fun u hu => ?_)
  split
  · exact hu.keep (by simp)
  · exact hu.keep (by simp)
  · exact ite_fits (hu.keep (by simp)) (hu.of_fields (by simp) (by simp))

theorem execExchangeNoQuietTick_fits {s : State} (h : InjectionFits s) : NextFits (execExchangeNoQuietTick s) :=
  nextFits (noQuietTick_fits (h.keep rfl))

theorem execExchangeRollback_fits {s : State} (h : InjectionFits s) : NextFits (execExchangeRollback s) :=
  nextFits (rollbackDue_fits (h.keep rfl))

/-! The pair. -/

theorem execStatusFrameReceive_fits {s : State} (h : InjectionFits s) (lane : Nat) (f : StatusFrame) (n : Nat) :
    NextFits (execStatusFrameReceive lane f n s) := by
  unfold execStatusFrameReceive
  extract_lets s1 l shadow p s2 s3
  have h3 : InjectionFits s3 := h.keep (by simp [s3, s2, s1])
  have h4 := abdicate_fits (h3.keep (by simp) : InjectionFits (raise s3 52)) 7
  exact nextFits (ite_fits h (ite_fits (ite_fits (h3.keep (by simp)) h3) (ite_fits h4 h3)))

theorem execAbdicateFrameReceive_fits {s : State} (h : InjectionFits s) (cause n : Nat) :
    NextFits (execAbdicateFrameReceive cause n s) :=
  nextFits (ite_fits h (h.keep rfl))

theorem execAbdicationDetected_fits {s : State} (h : InjectionFits s) (one : Bool) (n : Nat) :
    NextFits (execAbdicationDetected one n s) := by
  unfold execAbdicationDetected
  extract_lets s1 cause p m s2 q m2
  have h2 : InjectionFits s2 := h.of_fields (by simp [s2, p, s1]) (by simp [s2, p, s1])
  exact nextFits (ite_fits h (ite_fits (h2.keep rfl) (h2.of_fields rfl rfl)))

theorem execTakeover_fits {s : State} (h : InjectionFits s) : NextFits (execTakeover s) := by
  unfold execTakeover
  extract_lets s1 wiring held s2 m p s3 s4 s5 s6 s7 s8 s9 s10
  have h5 : InjectionFits s5 := (injectionSetOff_fits s4).keep (by simp [s5])
  have h9 : InjectionFits s9 := h5.keep (by simp [s9, s8, s7, s6])
  exact nextFits (ite_fits h ((changeMode_fits h9 (takeoverMode s9) causePair).keep (by simp [s10])))

theorem execRoleSwapTick_fits {s : State} (h : InjectionFits s) : NextFits (execRoleSwapTick s) := by
  unfold execRoleSwapTick
  refine nextFits (ite_fits h ?_)
  extract_lets s1
  have h1 : InjectionFits s1 := h.keep rfl
  split
  · have ht := ite_fits (c := (swapMode s1.md.mode && partnerTracks s1) = true) (swapAway_fits h1) (refuseSwap_fits h1)
    exact ht.keep (by simp)
  · exact ite_fits (swapIn_fits s1) (h1.of_fields rfl rfl)
  · exact (refuseSwap_fits h1).keep (by simp)

theorem execLaneDown_fits {s : State} (h : InjectionFits s) (lane n : Nat) : NextFits (execLaneDown lane n s) :=
  nextFits (ite_fits h (laneLost_fits (setPhase_fits h n) lane))

theorem execMortarTickFrameReceive_fits {s : State} (h : InjectionFits s) (f : TickMortar) :
    NextFits (execMortarTickFrameReceive f s) :=
  nextFits (ite_fits h (ite_fits (takeTick_fits (setPhase_fits h _) f) (ite_fits (h.keep (by simp)) h)))

theorem execMortarFrameReceive_fits {s : State} (h : InjectionFits s) (ok : Bool) (m : Mortar) (n : Nat) :
    NextFits (execMortarFrameReceive ok m n s) := by
  unfold execMortarFrameReceive
  extract_lets s1 s2 q s3
  have h3 : InjectionFits s3 := h.keep (by simp [s3, s1])
  refine nextFits (ite_fits h (ite_fits (h.keep (by simp [s2, s1])) (ite_fits (h3.keep (by simp)) (ite_fits ?_ h3))))
  exact (activeReceive_fits h3 m).keep (by simp)

theorem execMortarStale_fits {s : State} (h : InjectionFits s) (cls n : Nat) : NextFits (execMortarStale cls n s) :=
  nextFits (ite_fits h (toSync_fits (h.keep (by simp)) _))

theorem execBulkCopyStart_fits {s : State} (h : InjectionFits s) (bytes n : Nat) :
    NextFits (execBulkCopyStart bytes n s) := by
  unfold execBulkCopyStart
  extract_lets s1 p s2 q m
  have h2 : InjectionFits s2 := followClock_fits (h.keep rfl)
  exact nextFits (ite_fits h (ite_fits (h.keep (by simp [s1])) (ite_fits (h2.keep rfl) h)))

theorem execTrackReached_fits {s : State} (h : InjectionFits s) (n : Nat) : NextFits (execTrackReached n s) := by
  unfold execTrackReached
  extract_lets current s1 ticks p s2 s3
  have h2 : InjectionFits s2 := by
    refine changeMode_fits ?_ .track causePair
    exact h.keep rfl
  have h3 : InjectionFits s3 := ite_fits (changeMode_fits h2 .change causeExchange) h2
  exact nextFits (ite_fits h (h3.keep (by simp)))

/-! Faults and supplies. -/

theorem execLockstepMismatch_fits {s : State} (h : InjectionFits s) (pair n : Nat) :
    NextFits (execLockstepMismatch pair n s) := by
  have hm : InjectionFits (mismatched (setPhase s n) pair) := h.of_fields rfl rfl
  exact nextFits (ite_fits h (abdicate_fits hm 1))

theorem execUncorrectableEccError_fits {s : State} (h : InjectionFits s) (bank word n : Nat) :
    NextFits (execUncorrectableEccError bank word n s) :=
  nextFits (ite_fits h (ite_fits (h.keep (by simp)) (abdicate_fits (h.keep (by simp)) 2)))

theorem execClockMonitorFault_fits {s : State} (h : InjectionFits s) (domain n : Nat) :
    NextFits (execClockMonitorFault domain n s) :=
  have hc : InjectionFits (clockFailed (setPhase s n) domain) := h.keep (by simp [clockFailed])
  nextFits (ite_fits h (abdicate_fits hc 3))

theorem execSupplyMonitorFault_fits {s : State} (h : InjectionFits s) (n : Nat) :
    NextFits (execSupplyMonitorFault n s) := by
  unfold execSupplyMonitorFault
  extract_lets t s1 u
  have h1 : InjectionFits s1 := abdicate_fits (setPhase_fits h n) 4
  exact nextFits (ite_fits h (ite_fits (startAgain_fits s) (ite_fits (h1.keep rfl) h1)))

theorem execInternalRailsOff_fits {s : State} (h : InjectionFits s) : NextFits (execInternalRailsOff s) := by
  unfold execInternalRailsOff
  refine nextFits ?_
  split
  · exact h
  · exact ite_fits (powerOff_fits s) h

theorem execFirmwareLoad_fits {s : State} (h : InjectionFits s) (stage : Nat) (code : Bytes) (signed : Bool)
    (version : W32) :
    NextFits (execFirmwareLoad stage code signed version s) :=
  nextFits (ite_fits h (ite_fits (enterKiln_fits _) (h.keep rfl)))

/-! Safety, field and time. -/

theorem execSafetyDecision_fits {s : State} (h : InjectionFits s) (lossA lossB : Nat) (dataA dataB : Bool) :
    NextFits (execSafetyDecision lossA lossB dataA dataB s) := by
  unfold execSafetyDecision
  extract_lets s1 e s2 had s3 lost s4 s5 s6 s7 s8 p s9 s10
  have h2 : InjectionFits s2 := h.keep rfl
  have h3 : InjectionFits s3 := safeLosses_fits h2 lossA lossB dataA dataB
  have h5 : InjectionFits s5 := foldl_fits (h3.keep (by simp [s4])) fun u e hu => evalSi_fits hu e.1 e.2
  have h6 : InjectionFits s6 := foldl_fits h5 fun u e hu => evalSpeed_fits hu e.1 e.2
  have h9 : InjectionFits s9 := h6.keep (by simp [s9, s8, s7])
  have h10 : InjectionFits s10 := ite_fits (degradedMode_fits h9) h9
  exact nextFits (ite_fits h (ite_fits (oasisReaction_fits h10) h10))

theorem execTestPulse_fits {s : State} (h : InjectionFits s) (input channel : Nat) (readsClosed : Bool) (n : Nat) :
    NextFits (execTestPulse input channel readsClosed n s) := by
  unfold execTestPulse
  refine nextFits ?_
  split
  · exact h
  · extract_lets s1 x lost s2
    have h1 : InjectionFits s1 := h.keep rfl
    exact ite_fits h (ite_fits (ite_fits (h1.keep (by simp)) (loseInput_fits h1 _ _))
      (ite_fits (h1.keep (by simp [s2])) h1))

theorem execSafetyReset_fits {s : State} (h : InjectionFits s) (source n : Nat) :
    NextFits (execSafetyReset source n s) := by
  unfold execSafetyReset
  refine nextFits ?_
  split
  · exact h
  · extract_lets s1 e s2 s3 s4 s5 f s6 m
    have h5 : InjectionFits s5 := h.keep (by simp [s5, s4, s3, s2, s1])
    have h6 : InjectionFits s6 := h5.keep rfl
    exact ite_fits h (ite_fits (ite_fits (h6.of_fields rfl rfl) h6) h5)

theorem execLogicSilence_fits {s : State} (h : InjectionFits s) (n : Nat) : NextFits (execLogicSilence n s) := by
  unfold execLogicSilence
  extract_lets s1 outs term s2 f s3
  have h2 : InjectionFits s2 := by
    refine foldl_fits (h.keep rfl) fun u e hu => hu.keep ?_
    cases kkOf e.2 <;> simp
  exact nextFits (ite_fits h (oasisReaction_fits (h2.keep (by simp [s3]))))

theorem execFieldControllerWatchdog_fits {s : State} (h : InjectionFits s) (n : Nat) :
    NextFits (execFieldControllerWatchdog n s) :=
  nextFits (ite_fits h (oasisReaction_fits (h.keep (by simp))))

theorem execPtpMeasurement_fits {s : State} (h : InjectionFits s) (port : Nat) (gm : W64) (cls steps : Nat) (raw : Int)
    (n : Nat) : NextFits (execPtpMeasurement port gm cls steps raw n s) := by
  unfold execPtpMeasurement
  extract_lets offset s1 t s2 u
  have h1 : InjectionFits s1 := h.keep rfl
  exact nextFits (ite_fits h (ite_fits (ptpInLoad_fits h1 _ _ _ _ _) (ite_fits (ite_fits (h1.keep rfl) h1)
    (ite_fits (ite_fits (h1.keep (by simp [s2])) (h1.keep rfl)) (ite_fits h1 (h1.keep (by simp)))))))

/-! Object writes. -/

theorem refuseWrite_fits {s : State} (h : InjectionFits s) (r : Req) (obj : W32) (code : Nat) :
    NextFits (refuseWrite r obj code s) := nextFits (h.keep (by simp))

theorem writeMode_fits {s : State} (h : InjectionFits s) (r : Req) (code : Nat) : NextFits (writeMode r code s) := by
  unfold writeMode
  split
  · exact execModeStart_fits h r
  · exact execModeStop_fits h r
  · exact execModeContinue_fits h r
  · exact execModeAcknowledge_fits h r
  · exact execModeReset_fits h r
  · exact execModeRoleSwap_fits h r
  · exact execInjectionOn_fits h r
  · exact execInjectionOff_fits h r
  · exact fun t ht => h.keep (by simp [execArmBreakpoints_keeps r s t ht])
  · exact fun t ht => h.keep (by simp [execDisarmBreakpoints_keeps r s t ht])
  · exact fun t ht => h.keep (by simp [execPrepareReturn_keeps r s t ht])
  · exact nextFits (modeCommand_fits h r _ fun _ hu _ => hu)

theorem writeExchange_fits {s : State} (h : InjectionFits s) (r : Req) (code : Nat) :
    NextFits (writeExchange r code s) := by
  unfold writeExchange
  split
  · exact fun t ht => h.keep (by simp [execExchangeStage_keeps r s t ht])
  · exact execExchangeActivate_fits h r
  · exact fun t ht => h.keep (by simp [execExchangeUnstage_keeps r s t ht])
  · exact nextFits (h.keep (by simp))

theorem code16_fits {s : State} (h : InjectionFits s) (r : Req) (obj : W32) (d : Bytes)
    {k : Nat → Host.Outcome State Fault Refusal} (hk : ∀ c, NextFits (k c)) : NextFits (code16 r obj d s k) := by
  unfold code16
  split
  · exact refuseWrite_fits h r obj _
  · exact hk _

theorem sized_fits {s : State} (h : InjectionFits s) (r : Req) (obj : W32) (n : Nat) (d : Bytes)
    {k : Nat → Host.Outcome State Fault Refusal} (hk : ∀ c, NextFits (k c)) : NextFits (sized r obj n d s k) := by
  unfold sized
  split
  · exact refuseWrite_fits h r obj _
  · exact hk _

theorem writeLow_fits {s : State} (h : InjectionFits s) (r : Req) (obj : W32) (d : Bytes) :
    NextFits (writeLow r obj d s) := by
  unfold writeLow
  extract_lets i
  split
  · exact fun t ht => h.keep (by simp [execSignerEnrol_keeps r _ d s t ht])
  · exact code16_fits h r obj d (writeMode_fits h r)
  · exact sized_fits h r obj 4 d fun v t ht => h.keep (by simp [execCourseCounterClear_keeps r _ _ s t ht])
  · exact sized_fits h r obj 4 d fun v t ht => h.keep (by simp [execBreakpointWrite_keeps r _ _ s t ht])
  · exact fun t ht => h.keep (by simp [writeMirage_keeps r d s t ht])
  · exact code16_fits h r obj d (writeExchange_fits h r)
  · exact code16_fits h r obj d fun c t ht => h.keep (by simp [writeLoopMode_keeps r _ c s t ht])
  · exact sized_fits h r obj 8 d fun v t ht => h.keep (by simp [execManualValueWrite_keeps r _ _ s t ht])
  · exact sized_fits h r obj 4 d fun v t ht => h.keep (by simp [execApply_keeps r _ _ s t ht])
  · exact fun t ht => h.keep (by simp [writeInjection_keeps r i d s t ht])

theorem execObjectWrite_fits {s : State} (h : InjectionFits s) (r : Req) (obj : W32) (d : Bytes) :
    NextFits (execObjectWrite r obj d s) := by
  unfold execObjectWrite
  split
  · exact refuseWrite_fits h r obj _
  · exact refuseWrite_fits h r obj _
  · exact refuseWrite_fits h r obj _
  · split
    · exact writeLow_fits h r obj d
    · exact fun t ht => h.keep (by simp [writeHigh_keeps r obj d s t ht])

/-- A command that does not list the mode state among what it may change leaves it alone: one line for each. -/
theorem exec_md {c : Instr} {s t : State} (hc : .md ∉ mayChange c) (h : exec c s = .next t) : t.md = s.md := by
  cases c
  case bankHeadersRead at_ => simp [execBankHeadersRead_keeps at_ s t h]
  case bankFullCheckComplete at_ => simp [execBankFullCheckComplete_keeps at_ s t h]
  case imageApplied at_ => simp [execImageApplied_keeps at_ s t h]
  case acqWaitExpiry at_ => simp [execAcqWaitExpiry_keeps at_ s t h]
  case imageKeyRemoved at_ => simp [execImageKeyRemoved_keeps at_ s t h]
  case imageKeyInserted key at_ => simp [execImageKeyInserted_keeps key at_ s t h]
  case loopSample ctx at_ => simp [execLoopSample_keeps ctx at_ s t h]
  case loopDeadline lane => simp [execLoopDeadline_keeps lane s t h]
  case outputCommit => simp [execOutputCommit_keeps s t h]
  case armBreakpoints r => simp [execArmBreakpoints_keeps r s t h]
  case disarmBreakpoints r => simp [execDisarmBreakpoints_keeps r s t h]
  case prepareReturn r => simp [execPrepareReturn_keeps r s t h]
  case prepareReturnTimeout => simp [execPrepareReturnTimeout_keeps s t h]
  case buttonClosingRecognised => simp [execButtonClosingRecognised_keeps s t h]
  case buttonStuck => simp [execButtonStuck_keeps s t h]
  case buttonStuckEnd => simp [execButtonStuckEnd_keeps s t h]
  case settingWrite r index data => simp [execSettingWrite_keeps r index data s t h]
  case settingsComplete r generation => simp [execSettingsComplete_keeps r generation s t h]
  case settingsDeclarationDone session => simp [execSettingsDeclarationDone_keeps session s t h]
  case attestationNonce r nonce => simp [execAttestationNonce_keeps r nonce s t h]
  case quoteReady session at_ => simp [execQuoteReady_keeps session at_ s t h]
  case breakpointWrite r bp value => simp [execBreakpointWrite_keeps r bp value s t h]
  case miragePlace r cmd => simp [execMiragePlace_keeps r cmd s t h]
  case mirageRelease r cmd => simp [execMirageRelease_keeps r cmd s t h]
  case mirageReleaseAll r => simp [execMirageReleaseAll_keeps r s t h]
  case courseCounterClear r course value => simp [execCourseCounterClear_keeps r course value s t h]
  case exchangeStage r => simp [execExchangeStage_keeps r s t h]
  case stagingComplete tablesLoaded partner unwrittenNew unwrittenOld at_ =>
    simp [execStagingComplete_keeps tablesLoaded partner unwrittenNew unwrittenOld at_ s t h]
  case exchangeUnstage r => simp [execExchangeUnstage_keeps r s t h]
  case regionUpdateRequest r cmd => simp [execRegionUpdateRequest_keeps r cmd s t h]
  case regionDataWrite r ticket data => simp [execRegionDataWrite_keeps r ticket data s t h]
  case regionDataChecked ticket at_ => simp [execRegionDataChecked_keeps ticket at_ s t h]
  case regionPendingStart ticket => simp [execRegionPendingStart_keeps ticket s t h]
  case regionCancel r ticket value => simp [execRegionCancel_keeps r ticket value s t h]
  case regionDataTimeout ticket at_ => simp [execRegionDataTimeout_keeps ticket at_ s t h]
  case imageWriteComplete partnerPassed at_ => simp [execImageWriteComplete_keeps partnerPassed at_ s t h]
  case loopModeManual r ctx => simp [execLoopModeManual_keeps r ctx s t h]
  case loopModeAuto r ctx => simp [execLoopModeAuto_keeps r ctx s t h]
  case loopModeCascade r ctx => simp [execLoopModeCascade_keeps r ctx s t h]
  case loopModeExternal r ctx => simp [execLoopModeExternal_keeps r ctx s t h]
  case loopModeHold r ctx => simp [execLoopModeHold_keeps r ctx s t h]
  case manualValueWrite r ctx value => simp [execManualValueWrite_keeps r ctx value s t h]
  case apply r ctx value => simp [execApply_keeps r ctx value s t h]
  case tableRebuildComplete table at_ => simp [execTableRebuildComplete_keeps table at_ s t h]
  case rebuildOverdue table => simp [execRebuildOverdue_keeps table s t h]
  case injectionStart r ctx cmd => simp [execInjectionStart_keeps r ctx cmd s t h]
  case injectionStop r ctx => simp [execInjectionStop_keeps r ctx s t h]
  case captureConfigure r data => simp [execCaptureConfigure_keeps r data s t h]
  case captureArm r => simp [execCaptureArm_keeps r s t h]
  case captureForceTrigger r => simp [execCaptureForceTrigger_keeps r s t h]
  case captureAbort r => simp [execCaptureAbort_keeps r s t h]
  case captureRow => simp [execCaptureRow_keeps s t h]
  case solverFrameStart ctx => simp [execSolverFrameStart_keeps ctx s t h]
  case solverJobEnd ctx at_ => simp [execSolverJobEnd_keeps ctx at_ s t h]
  case solverJobDeadline ctx => simp [execSolverJobDeadline_keeps ctx s t h]
  case solverPublish ctx => simp [execSolverPublish_keeps ctx s t h]
  case tileOffline tile cause at_ => simp [execTileOffline_keeps tile cause at_ s t h]
  case tileSelfTest tile passed at_ => simp [execTileSelfTest_keeps tile passed at_ s t h]
  case partnerReportLapse => simp [execPartnerReportLapse_keeps s t h]
  case latentFaultWindowEnd => simp [execLatentFaultWindowEnd_keeps s t h]
  case rehearsalOverdue => simp [execRehearsalOverdue_keeps s t h]
  case singleBitCorrection bank word at_ => simp [execSingleBitCorrection_keeps bank word at_ s t h]
  case scrubPass bank corrected at_ => simp [execScrubPass_keeps bank corrected at_ s t h]
  case logicFeedLow feed volts at_ => simp [execLogicFeedLow_keeps feed volts at_ s t h]
  case logicFeedRestored feed at_ => simp [execLogicFeedRestored_keeps feed at_ s t h]
  case laneUp lane at_ => simp [execLaneUp_keeps lane at_ s t h]
  case linkUpNegotiation lvLow lvHigh mf missing at_ =>
    simp [execLinkUpNegotiation_keeps lvLow lvHigh mf missing at_ s t h]
  case partnerAxisStateReceive axes => simp [execPartnerAxisStateReceive_keeps axes s t h]
  case permitOffPulse axis switch below on at_ => simp [execPermitOffPulse_keeps axis switch below on at_ s t h]
  case ringSafetyWatchdog conn => simp [execRingSafetyWatchdog_keeps conn s t h]
  case degradedExpiryNear at_ => simp [execDegradedExpiryNear_keeps at_ s t h]
  case degradedExpiry at_ => simp [execDegradedExpiry_keeps at_ s t h]
  case digitalInputChange channel level changedNs => simp [execDigitalInputChange_keeps channel level changedNs s t h]
  case soeRead r => simp [execSoeRead_keeps r s t h]
  case outputOverload channel at_ => simp [execOutputOverload_keeps channel at_ s t h]
  case outputOvertemp channel at_ => simp [execOutputOvertemp_keeps channel at_ s t h]
  case outputRetry channel cooled => simp [execOutputRetry_keeps channel cooled s t h]
  case channelClear r kk value => simp [execChannelClear_keeps r kk value s t h]
  case groupOvercurrent group channels at_ => simp [execGroupOvercurrent_keeps group channels at_ s t h]
  case openWire channel open_ => simp [execOpenWire_keeps channel open_ s t h]
  case fieldFeedLow group => simp [execFieldFeedLow_keeps group s t h]
  case fieldFeedRestored group => simp [execFieldFeedRestored_keeps group s t h]
  case readbackFailure kk => simp [execReadbackFailure_keeps kk s t h]
  case analogueUnderRange ai => simp [execAnalogueUnderRange_keeps ai s t h]
  case analogueOverRange ai => simp [execAnalogueOverRange_keeps ai s t h]
  case analogueRangeClear ai => simp [execAnalogueRangeClear_keeps ai s t h]
  case complianceLost ao => simp [execComplianceLost_keeps ao s t h]
  case complianceRegained ao => simp [execComplianceRegained_keeps ao s t h]
  case positionSignalFault pos => simp [execPositionSignalFault_keeps pos s t h]
  case positionSignalClear pos => simp [execPositionSignalClear_keeps pos s t h]
  case trimModeWrite r mask => simp [execTrimModeWrite_keeps r mask s t h]
  case trimCurrentWrite r ao value => simp [execTrimCurrentWrite_keeps r ao value s t h]
  case ringInputFrameReceive f => simp [execRingInputFrameReceive_keeps f s t h]
  case ringCycleMissed station => simp [execRingCycleMissed_keeps station s t h]
  case ringClosed => simp [execRingClosed_keeps s t h]
  case ringLinkUp answers at_ => simp [execRingLinkUp_keeps answers at_ s t h]
  case stationJoin station => simp [execStationJoin_keeps station s t h]
  case hopSpeedNegotiated hop bothGen2 gigabit at_ => simp [execHopSpeedNegotiated_keeps hop bothGen2 gigabit at_ s t h]
  case canFrameReceived f at_ => simp [execCanFrameReceived_keeps f at_ s t h]
  case canReceiveSlotTimeout slot => simp [execCanReceiveSlotTimeout_keeps slot s t h]
  case sysCanCancel handle at_ => simp [execSysCanCancel_keeps handle at_ s t h]
  case canSelectionPoint port at_ => simp [execCanSelectionPoint_keeps port at_ s t h]
  case canTransmitEnd port result stampNs stampFrac at_ =>
    simp [execCanTransmitEnd_keeps port result stampNs stampFrac at_ s t h]
  case canLaunchLate port at_ => simp [execCanLaunchLate_keeps port at_ s t h]
  case canRecover r port => simp [execCanRecover_keeps r port s t h]
  case canRecoveryComplete port at_ => simp [execCanRecoveryComplete_keeps port at_ s t h]
  case flushFifo r port => simp [execFlushFifo_keeps r port s t h]
  case flushLaunch r port => simp [execFlushLaunch_keeps r port s t h]
  case flushAll r port => simp [execFlushAll_keeps r port s t h]
  case lanLinkDown port at_ => simp [execLanLinkDown_keeps port at_ s t h]
  case lanLinkUp port speed at_ => simp [execLanLinkUp_keeps port speed at_ s t h]
  case announceTimeout at_ => simp [execAnnounceTimeout_keeps at_ s t h]
  case timeSlew r rate => simp [execTimeSlew_keeps r rate s t h]
  case timeStep r => simp [execTimeStep_keeps r s t h]
  case timeReject r => simp [execTimeReject_keeps r s t h]
  case haltSlew r => simp [execHaltSlew_keeps r s t h]
  case sessionOpen iface role minGen maxGen authority seq at_ =>
    simp [execSessionOpen_keeps iface role minGen maxGen authority seq at_ s t h]
  case sessionClose r => simp [execSessionClose_keeps r s t h]
  case sessionIdleTimeout session => simp [execSessionIdleTimeout_keeps session s t h]
  case streamEvents r op mask fromSeq => simp [execStreamEvents_keeps r op mask fromSeq s t h]
  case subscribe r object action minTicks => simp [execSubscribe_keeps r object action minTicks s t h]
  case batchWrite r entries => simp [execBatchWrite_keeps r entries s t h]
  case eventRecordsRead r => simp [execEventRecordsRead_keeps r s t h]
  case intrusion mesh at_ => simp [execIntrusion_keeps mesh at_ s t h]
  case environmentalWipe cause at_ => simp [execEnvironmentalWipe_keeps cause at_ s t h]
  case identityKeyReload at_ => simp [execIdentityKeyReload_keeps at_ s t h]
  case signerEnrol r slot data => simp [execSignerEnrol_keeps r slot data s t h]
  case authorityEnrol r slot cert => simp [execAuthorityEnrol_keeps r slot cert s t h]
  case enrolmentTimeout => simp [execEnrolmentTimeout_keeps s t h]
  case framePairBoundary at_ => simp [execFramePairBoundary_keeps at_ s t h]
  case ntcRead deciC at_ => simp [execNtcRead_keeps deciC at_ s t h]
  case crackLoopMeasure ohms mv at_ => simp [execCrackLoopMeasure_keeps ohms mv at_ s t h]
  case lampTest r => simp [execLampTest_keeps r s t h]
  case journalBlockClose at_ => simp [execJournalBlockClose_keeps at_ s t h]
  case journalWriteComplete readBackOk at_ => simp [execJournalWriteComplete_keeps readBackOk at_ s t h]
  case dieTemperatureWarning celsius at_ => simp [execDieTemperatureWarning_keeps celsius at_ s t h]
  case canBusError port rise at_ => simp [execCanBusError_keeps port rise at_ s t h]
  case forwardingReceive f at_ => simp [execForwardingReceive_keeps f at_ s t h]
  case gratuitousArpRepeat at_ => simp [execGratuitousArpRepeat_keeps at_ s t h]
  case holdoverClockClassChange at_ => simp [execHoldoverClockClassChange_keeps at_ s t h]
  case prpSupervisionFrame lan peer at_ => simp [execPrpSupervisionFrame_keeps lan peer at_ s t h]
  all_goals simp [mayChange] at hc

/-- No command sets the attribute outside its modes: one line for each command that may change the mode state. -/
theorem exec_fits {s : State} (h : InjectionFits s) (c : Instr) : NextFits (exec c s) := by
  by_cases hc : .md ∈ mayChange c
  case neg => exact fun t ht => h.keep (exec_md hc ht)
  cases c
  case powerOn slot feedA feedB => exact execPowerOn_fits h slot feedA feedB
  case sramClearComplete => exact execSramClearComplete_fits h
  case dramClearComplete => exact execDramClearComplete_fits h
  case clearTimeout => exact execClearTimeout_fits h
  case startSupplyLoss => exact execStartSupplyLoss_fits h
  case kilnRemeasureComplete stage code at_ => exact execKilnRemeasureComplete_fits h stage code at_
  case tickBoundary latch => exact execTickBoundary_fits h latch
  case inputImageComplete => exact execInputImageComplete_fits h
  case overrunLimitReached course => exact execOverrunLimitReached_fits h course
  case maxScanReached => exact execMaxScanReached_fits h
  case scanWatchExpiry => exact execScanWatchExpiry_fits h
  case courseActivationEnd course rel at_ => exact execCourseActivationEnd_fits h course rel at_
  case executionTrap course brick offset at_ => exact execExecutionTrap_fits h course brick offset at_
  case breakpointReached brick at_ => exact execBreakpointReached_fits h brick at_
  case modeStart r => exact execModeStart_fits h r
  case modeStop r => exact execModeStop_fits h r
  case modeContinue r => exact execModeContinue_fits h r
  case modeAcknowledge r => exact execModeAcknowledge_fits h r
  case modeReset r => exact execModeReset_fits h r
  case modeRoleSwap r => exact execModeRoleSwap_fits h r
  case roleSwapTick => exact execRoleSwapTick_fits h
  case injectionOn r => exact execInjectionOn_fits h r
  case injectionOff r => exact execInjectionOff_fits h r
  case buttonReleaseRecognised => exact execButtonReleaseRecognised_fits h
  case exchangeActivate r => exact execExchangeActivate_fits h r
  case exchangeNoQuietTick => exact execExchangeNoQuietTick_fits h
  case exchangeRollback => exact execExchangeRollback_fits h
  case statusFrameReceive lane f at_ => exact execStatusFrameReceive_fits h lane f at_
  case abdicateFrameReceive cause at_ => exact execAbdicateFrameReceive_fits h cause at_
  case abdicationDetected oneSample at_ => exact execAbdicationDetected_fits h oneSample at_
  case takeover => exact execTakeover_fits h
  case lockstepMismatch pair at_ => exact execLockstepMismatch_fits h pair at_
  case uncorrectableEccError bank word at_ => exact execUncorrectableEccError_fits h bank word at_
  case clockMonitorFault domain at_ => exact execClockMonitorFault_fits h domain at_
  case supplyMonitorFault at_ => exact execSupplyMonitorFault_fits h at_
  case internalRailsOff => exact execInternalRailsOff_fits h
  case laneDown lane at_ => exact execLaneDown_fits h lane at_
  case mortarTickFrameReceive f => exact execMortarTickFrameReceive_fits h f
  case mortarFrameReceive crcOk m at_ => exact execMortarFrameReceive_fits h crcOk m at_
  case mortarStale cls at_ => exact execMortarStale_fits h cls at_
  case bulkCopyStart bytes at_ => exact execBulkCopyStart_fits h bytes at_
  case trackReached at_ => exact execTrackReached_fits h at_
  case safetyDecision lossA lossB dataA dataB => exact execSafetyDecision_fits h lossA lossB dataA dataB
  case testPulse input channel readsClosed at_ => exact execTestPulse_fits h input channel readsClosed at_
  case safetyReset source at_ => exact execSafetyReset_fits h source at_
  case logicSilence at_ => exact execLogicSilence_fits h at_
  case fieldControllerWatchdog at_ => exact execFieldControllerWatchdog_fits h at_
  case ptpMeasurement port gm cls steps offset at_ => exact execPtpMeasurement_fits h port gm cls steps offset at_
  case objectWrite r object data => exact execObjectWrite_fits h r object data
  case firmwareLoad stage code signed version => exact execFirmwareLoad_fits h stage code signed version
  all_goals simp [mayChange] at hc

/-- Settles O4: a step runs one command, and every command keeps the attribute in its modes. -/
theorem injectionOnlyInItsModes : Obligations.InjectionOnlyInItsModes := by
  unfold Obligations.InjectionOnlyInItsModes
  intro s t h ht
  unfold step at ht
  split at ht
  · cases ht
    exact h
  next c rest _ =>
    have hq : InjectionFits { s with pending := rest } := ⟨h⟩
    exact (exec_fits hq c t ht).inMode

end Sys2Proof.Machine
end

section
/-! Mode commands of the host (R64, R68, R69, R73, R78, R84, R85, R153, R257), and the state at reset. -/

namespace Sys2Proof.Machine

/-- Settles O3: at reset the attribute is off, and no axis is configured and no event kept. -/
theorem resetMeetsTheInvariants : Obligations.ResetMeetsTheInvariants := by
  unfold Obligations.ResetMeetsTheInvariants
  have hi : State.reset.md.injection = false := rfl
  have ha : State.reset.safe.axis = [] := rfl
  have hb : State.reset.ev.buffer = [] := rfl
  refine ⟨fun h => ?_, fun _ e he => ?_, ?_, rfl, rfl, rfl, rfl⟩
  · simp [hi] at h
  · simp [ha] at he
  · simp [hb]

/-! ### A mode command that its gate lets pass -/

theorem servedOutside_iff {s : State} {r : Req} {o : W32} :
    servedOutside s r o = true ↔ served s r o = true ∧ s.md.mode ≠ .change := by
  simp [servedOutside]

/-- Outside CHANGE, with no command outstanding, the role, image and mode columns of the gate decide (R78). -/
theorem modeCommand_idle {s : State} {r : Req} {g : ModeGate} (h : servedOutside s r modeObj = true)
    (hb : cmdBusy s = false) (h1 : g.busy (touch s r) = false) (h2 : g.role (touch s r) = false)
    (h3 : g.image (touch s r) = false) (h4 : g.mode (touch s r) = false) (k : State → State) :
    modeCommand r g k s = sendChanges (wrote (k (touch s r)) modeObj) := by
  obtain ⟨hs, hm⟩ := servedOutside_iff.mp h
  exact modeCommand_pass hs (by simp [hm]) (by simp [hb]) h1 h2 h3 h4 k

theorem acceptedFor_sendChanges {s u : State} {r : Req} {o : W32}
    (hu : u.net.outbox = .response r.session r.seq stAccepted [] :: s.net.outbox)
    (hw : (sess u r.session).waiting = (sess s r.session).waiting ++ [(r.seq, o)]) :
    acceptedFor s (sendChanges u) r o :=
  ⟨answers_sendChanges hu, by rw [sess_sendChanges, hw]⟩

/-- Behind ACCEPTED stands the reply, and the request waits at its session (R514). -/
theorem acceptedFor_of_reply {s u : State} {r : Req} {o : W32} (hu : u.net = (reply (touch s r) r o stAccepted).net) :
    acceptedFor s (sendChanges (wrote u o)) r o := by
  refine acceptedFor_sendChanges ?_ ?_
  · rw [wrote_outbox, hu, reply_eq]
    rfl
  · show (tget {} u.net.sess r.session).waiting = _
    simp [hu, reply_eq, sess]

@[simp] theorem reply_time (s : State) (r : Req) (o : W32) (st : Nat) (p : Bytes) :
    (reply s r o st p).time = s.time := by rw [reply_eq]

/-! ### START, STOP and CONTINUE -/

theorem acceptTransition_accepted (s : State) (r : Req) (code : Nat) (dest : Mode) :
    acceptedFor s (sendChanges (wrote (acceptTransition r code dest (touch s r)) modeObj)) r modeObj :=
  acceptedFor_of_reply rfl

theorem acceptTransition_md (s : State) (r : Req) (code : Nat) (dest : Mode) :
    (sendChanges (wrote (acceptTransition r code dest (touch s r)) modeObj)).md = awaiting s r code dest := by
  simp [acceptTransition, awaiting]

/-- Settles O8: the three commands pass their gates in these modes, and wait for their transition. -/
theorem transitionCommandsAreAccepted : Obligations.TransitionCommandsAreAccepted := by
  unfold Obligations.TransitionCommandsAreAccepted
  refine ⟨fun s r h hb hc hm => ?_, fun s r h hb hc hm => ?_, fun s r h hb hc hm => ?_⟩
  · refine ⟨_, congrArg Host.Outcome.next (modeCommand_idle h hb rfl ?_ rfl ?_ _),
      acceptTransition_accepted s r 1 .run, acceptTransition_md s r 1 .run⟩
    · simp [standbyRole, hc]
    · simp [hm]
  · refine ⟨_, congrArg Host.Outcome.next (modeCommand_idle h hb rfl ?_ rfl ?_ _),
      acceptTransition_accepted s r 2 .stop, acceptTransition_md s r 2 .stop⟩
    · simp [standbyRole, hc]
    · rcases hm with hm | hm | hm <;> simp [hm]
  · refine ⟨_, congrArg Host.Outcome.next (modeCommand_idle h hb rfl ?_ rfl ?_ _),
      acceptTransition_accepted s r 3 .run, acceptTransition_md s r 3 .run⟩
    · simp [standbyRole, hc]
    · simp [hm]

/-! ### ACKNOWLEDGE, RESET and ROLE_SWAP -/

theorem sendChanges_notActive {s : State} (h : s.md.role ≠ .active) : sendChanges s = s := by simp [sendChanges, h]

/-- A STANDBY with a live partner forwards an acknowledgement in a mortar frame (R84). -/
theorem forwardAck_sends {s : State} (hp : partnerLive s = true) (hl : linkLost s = false) :
    ∃ lo lf k, forwardAck s = { s with net := linkNet s.net [.mortar .ackForward] lo lf k } := by
  obtain ⟨lo, lf, k, h⟩ := sendLink_eq s 4 (mortarBytes .ackForward) (.mortar .ackForward)
  exact ⟨lo, lf, k, by rw [forwardAck, hp, hl]; exact h⟩

/-- The boundary at which an accepted swap is due: the first that lies at least 2 ticks later (R69). -/
theorem acceptSwap_md {s : State} (h : s.md.swapAt = none) (reset : Bool) (cmd : Option Origin) :
    (acceptSwap s reset cmd).md = { s.md with
      swapAt := some (if s.time.phase = 0 then s.time.tick + 2 else s.time.tick + 3)
      swapReset := s.md.swapReset || reset, swapCmd := if cmd.isSome then cmd else s.md.swapCmd } := by
  simp [acceptSwap, h]

theorem acknowledges_touch (s : State) (r : Req) : acknowledges (touch s r) = acknowledges s := rfl

/-- Settles O9: each command passes its gate, and its owner's effect on the mode state is as stated. -/
theorem acknowledgeResetAndRoleSwapCommands : Obligations.AcknowledgeResetAndRoleSwapCommands := by
  unfold Obligations.AcknowledgeResetAndRoleSwapCommands
  refine ⟨fun s r h ha hc => ?_, fun s r h ha hc hp hl => ?_, fun s r h hb ho => ?_, fun s r h hb hn ho => ?_,
    fun s r h hb hn hr hm hp => ?_⟩
  · refine ⟨_, congrArg Host.Outcome.next (modeCommand_pass h rfl rfl rfl rfl rfl (by simp [acknowledges_touch, ha]) _),
      ?_, ?_⟩
    · refine answers_sendChanges ?_
      simp [hc, reply_eq, acceptAck]
    · simp [hc, acceptAck]
  · have hr : s.md.role ≠ .active := fun e => by simp [inControl, e] at hc
    obtain ⟨lo, lf, k, hf⟩ := forwardAck_sends (s := touch s r) (by simpa using hp) (by simpa using hl)
    refine ⟨_, congrArg Host.Outcome.next ((modeCommand_pass h rfl rfl rfl rfl rfl ?_ _).trans (sendChanges_notActive ?_)),
      ?_, ?_⟩
    · simp [acknowledges_touch, ha]
    · simpa [hc, hf] using hr
    · simp [hc, hf]
    · simp [hc, hf, reply_eq, linkNet]
  · refine ⟨_, congrArg Host.Outcome.next (modeCommand_idle h hb rfl rfl rfl (by simp [ho]) _), ?_, ?_⟩
    · refine acceptedFor_of_reply ?_
      simp [ho, resetToKiln]
    · simp [ho, resetToKiln]
  · refine ⟨_, congrArg Host.Outcome.next (modeCommand_idle h hb rfl rfl rfl (by simp [ho]) _), ?_, ?_⟩
    · refine acceptedFor_of_reply ?_
      simp [ho]
    · simp [ho, acceptSwap_md, hn]
      rfl
  · refine ⟨_, congrArg Host.Outcome.next (modeCommand_idle h hb (by simp [hn]) (by simp [hr]) rfl (by simp [hm, hp]) _),
      acceptedFor_of_reply rfl, ?_⟩
    simp [acceptSwap_md, hn]

/-! ### The injection attribute and the breakpoints -/

theorem injectionSetOff_outbox (s : State) : ∃ l, (injectionSetOff s).net.outbox = l ++ s.net.outbox :=
  foldl_outbox _ (fun u c => stopInjection_outbox u c 11) _ { s with md := { s.md with injection := false } }

/-- Every breakpoint's ARMED field once all are armed or disarmed (R153). -/
theorem armAll_crs (s : State) (f : BreakSt → Bool) : (armAll s f).crs =
    { s.crs with bp := s.crs.bp.map fun e => (e.1, { e.2 with armed := f e.2 }) } := rfl

/-- Settles O10: INJECTION_OFF stops each running injection on the way, the other three only set their attributes. -/
theorem injectionAndBreakpointCommands : Obligations.InjectionAndBreakpointCommands := by
  unfold Obligations.InjectionAndBreakpointCommands
  refine ⟨fun s r h hb hc hm => ?_, fun s r h => ?_, fun s r h hb hc hm hr => ?_, fun s r h hb => ?_⟩
  · have hi : injectionMode s.md.mode = true := by rcases hm with hm | hm <;> simp [hm, injectionMode]
    refine ⟨_, congrArg Host.Outcome.next (modeCommand_idle h hb rfl (by simp [standbyRole, hc]) rfl (by simp [hi]) _),
      answers_sendChanges ?_, ?_⟩
    · simp [reply_eq]
    · simp
  · refine ⟨_, congrArg Host.Outcome.next (modeCommand_pass h rfl rfl rfl rfl rfl rfl _), ?_, ?_, fun c hc => ?_⟩
    · simp [injectionSetOff]
    · obtain ⟨l, hl⟩ := injectionSetOff_outbox (touch s r)
      obtain ⟨ms, hms⟩ := answers_sendChanges (s := injectionSetOff (touch s r)) (r := r) (st := stDone) (p := [])
        (u := wrote (reply (injectionSetOff (touch s r)) r modeObj stDone) modeObj) (by simp [reply_eq])
      exact ⟨ms, l, by rw [hms, hl, touch_outbox]⟩
    · have hloops : (sendChanges (wrote (reply (injectionSetOff (touch s r)) r modeObj stDone) modeObj)).loops =
          (injectionSetOff (touch s r)).loops := by simp [reply_eq, wrote]
      rw [hloops]
      exact stopInjections_inj _ 11 c hc
  · refine ⟨_, congrArg Host.Outcome.next (modeCommand_idle h hb rfl (by simp [standbyRole, hc]) ?_ (by simp [hm]) _),
      answers_sendChanges (by simp [reply_eq, armAll]), ?_⟩
    · simpa [holdOnActive] using hr
    · simp [armAll_crs]
  · refine ⟨_, congrArg Host.Outcome.next (modeCommand_pass h rfl (by simp [hb]) rfl rfl rfl rfl _),
      answers_sendChanges (by simp [reply_eq, armAll]), ?_⟩
    simp [armAll_crs]

end Sys2Proof.Machine
end

section
/-! The ACK/RESET button (R82 to R87). -/

namespace Sys2Proof.Machine

/-! ### Closing and stuck -/

/-- A button that is declared stuck raises EV014 (R86). -/
theorem declareStuck_running {s : State} (h : s.btn.stuck = false) (hr : s.ev.running = true) :
    declareStuck s = raise { s with btn := { s.btn with stuck := true } } 14 := by
  simp [declareStuck, h, hr]

/-- Before LOAD, EV014 waits for the event controller (R87). -/
theorem declareStuck_beforeLoad {s : State} (h : s.btn.stuck = false) (hr : s.ev.running = false) :
    declareStuck s = { s with btn := { s.btn with stuck := true, ev014Due := true } } := by
  simp [declareStuck, h, hr]

/-- Settles O12: a closing is stamped at the first of its samples, and stuck is declared and ended once. -/
theorem buttonEdgesAreStampedAndStuckIsDeclared : Obligations.ButtonEdgesAreStampedAndStuckIsDeclared := by
  unfold Obligations.ButtonEdgesAreStampedAndStuckIsDeclared
  refine ⟨fun s hd hl => ?_, fun s hp hl hr hs hn he => ?_, fun s hd hl hs he => ?_, fun s hp hs hl hn => ?_⟩
  · have hi : s.btn.level.isNone = false := by simp [Option.isNone_eq_false_iff, Option.isSome_iff_ne_none, hl]
    refine ⟨closeButton (setPhase s 0), by simp [exec, execButtonClosingRecognised, hd], ?_⟩
    simp [closeButton, hi, setPhase]
  · have hd : closingDue s = false := by simp [closingDue, hl]
    refine ⟨declareStuck (setPhase s 0), by simp [exec, execButtonStuck, hd, hp, hl, hr, hn], ?_⟩
    rw [declareStuck_running (s := setPhase s 0) hs he]
    refine ⟨by simp, ?_⟩
    rw [raise_ev]
    rfl
  · refine ⟨closeButton (setPhase s 0), by simp [exec, execButtonStuck, hd, hl], ?_⟩
    have hc : closeButton (setPhase s 0) = declareStuck { setPhase s 0 with btn := { s.btn with
        level := some true, closedAt := s.btn.samples - s.btn.run } } := by
      simp [closeButton, hl, setPhase]
    rw [hc, declareStuck_beforeLoad (by exact hs) (by exact he)]
    exact ⟨rfl, rfl⟩
  · refine ⟨raise { setPhase s 0 with btn := { s.btn with stuck := false } } 15,
      by simp [exec, execButtonStuckEnd, hp, hs, hl, hn, setPhase], by simp, by simp, ?_⟩
    rw [raise_ev]
    rfl

/-! ### Release -/

/-- The module behind the opening, stamped at the first of its samples (R82). -/
def opening (s : State) : State := { setPhase s 0 with btn := released s }

@[simp] theorem opening_btn (s : State) : (opening s).btn = released s := rfl
@[simp] theorem opening_md (s : State) : (opening s).md = s.md := rfl
@[simp] theorem opening_ev (s : State) : (opening s).ev = s.ev := rfl
@[simp] theorem opening_field (s : State) : (opening s).field = s.field := rfl
@[simp] theorem opening_safe (s : State) : (opening s).safe = s.safe := rfl
@[simp] theorem opening_panel (s : State) : (opening s).panel = s.panel := rfl
@[simp] theorem opening_tick (s : State) : (opening s).time.tick = s.time.tick := rfl
@[simp] theorem opening_phase (s : State) : (opening s).time.phase = 0 := rfl
@[simp] theorem recorded_opening (s : State) (ph : Nat) (evs : List (Nat × List W32)) :
    recorded (opening s) ph evs = recorded s ph evs := rfl

theorem execButtonReleaseRecognised_due {s : State} (h : releaseDue s = true) : exec .buttonReleaseRecognised s =
    .next (sendChanges (if s.btn.stuck then opening s else press (opening s) (pressTicks s))) := by
  simp only [releaseDue, Bool.and_eq_true, Bool.not_eq_true', decide_eq_true_eq] at h
  obtain ⟨⟨⟨hp, hr⟩, hn⟩, hl⟩ := h
  show execButtonReleaseRecognised s = _
  unfold execButtonReleaseRecognised
  refine congrArg Host.Outcome.next (if_neg ?_)
  simp [hp, hr, Nat.not_lt.mpr hn, beq_iff_eq.mp hl]

/-- An acknowledgement outside the driven panel's alarm raises nothing, and takes the records that it acknowledges (R596). -/
theorem panelAck_ev {s : State} (h : s.panel.untrusted = false) : (panelAck s).ev = s.ev := by
  unfold panelAck
  extract_lets q true_ p s1
  have h1 : s1.ev = s.ev ∧ s1.panel = s.panel := by
    simp only [s1]
    split <;> simp [p]
  rw [if_neg (by rw [h1.2, h]; simp), h1.1]

theorem prepare_of_evCore {e f : EventSt} (h : evCore e = evCore f) : e.prepare = f.prepare :=
  (congrArg EventSt.prepare h : (evCore e).prepare = (evCore f).prepare)

/-- The acknowledgement itself, before OASIS without a cause ends (R84). -/
def acknowledged (s : State) (reset : Bool) : State :=
  let u := panelAck (ackRecords s s.time.tick)
  sendMortar u (.ack u.time.tick reset)

theorem acknowledged_keeps (s : State) (reset : Bool) : (acknowledged s reset).md = s.md ∧
    (acknowledged s reset).btn = s.btn ∧ (acknowledged s reset).sec = s.sec ∧ (acknowledged s reset).field = s.field ∧
    (acknowledged s reset).safe = s.safe ∧ (acknowledged s reset).ev.prepare = s.ev.prepare := by
  refine ⟨by simp [acknowledged], by simp [acknowledged], by simp [acknowledged], by simp [acknowledged],
    by simp [acknowledged], ?_⟩
  exact prepare_of_evCore (f := (ackRecords s s.time.tick).ev) (by simp [acknowledged])

theorem applyAck_acknowledged {s : State} (h : acknowledges s = true) (reset : Bool) : applyAck s reset =
    if s.md.mode == .oasis && !oasisCause s then changeMode (acknowledged s reset) .stop causeButton
    else acknowledged s reset := by
  obtain ⟨hm, -, -, hf, hs, -⟩ := acknowledged_keeps s reset
  unfold applyAck
  rw [if_neg (by simp [h])]
  show (if (acknowledged s reset).md.mode == .oasis && !oasisCause (acknowledged s reset) then
    changeMode (acknowledged s reset) .stop causeButton else acknowledged s reset) = _
  have e : oasisCause (acknowledged s reset) = oasisCause s := by simp only [oasisCause, hf, hs]
  rw [hm, e]

theorem confirmEnrol_none {s : State} (h : s.sec.enrol = none) : confirmEnrol s = s := by simp [confirmEnrol, h]

theorem confirmReturn_none {s : State} (h : s.ev.prepare = none) : confirmReturn s = s := by simp [confirmReturn, h]

theorem applyAck_prepare {s : State} (h : acknowledges s = true) (reset : Bool) :
    (applyAck s reset).ev.prepare = s.ev.prepare := by
  obtain ⟨-, -, -, -, -, hp⟩ := acknowledged_keeps s reset
  rw [applyAck_acknowledged h, ← hp]
  split
  · exact prepare_of_evCore (by simp)
  · rfl

/-- An acknowledge-class press of a unit in control, with no PREPARE_RETURN and no enrolment to confirm: EV011 and the
acknowledgement, which may be a safety reset too (R84, R392). -/
theorem pressAck_idle {s : State} (ha : acknowledges s = true) (hc : inControl s = true) (hp : s.ev.prepare = none)
    (he : s.sec.enrol = none) : ∃ reset, (pressAck s).md = (applyAck (raise s 11) reset).md ∧
      (pressAck s).btn = (applyAck (raise s 11) reset).btn ∧ (pressAck s).ev = (applyAck (raise s 11) reset).ev := by
  have ha' : acknowledges (raise s 11) = true := by simpa [acknowledges] using ha
  have hc' : inControl (raise s 11) = true := by simpa [inControl] using hc
  obtain ⟨-, -, -, -, -, -, -, -, -, -, -, -, -, -, -, -, -, -, -, -, hprep⟩ :=
    recorded_fields s s.time.phase [(11, [])]
  have hq : ∀ reset, (applyAck (raise s 11) reset).ev.prepare = none := fun reset => by
    rw [applyAck_prepare ha', raise_ev, hprep, hp]
  have hu : ∀ u : State, u.ev.prepare = none → u.sec.enrol = none → confirmReturn (confirmEnrol u) = u :=
    fun u h h' => by rw [confirmEnrol_none h', confirmReturn_none h]
  unfold pressAck
  rw [if_neg (by simp [ha])]
  dsimp only
  rw [if_pos hc']
  split
  · refine ⟨(safeGen (theImage (raise s 11))).resetSrc == 0, ?_⟩
    rw [hu _ (by exact hq _) (by simp [he, seeReset])]
    exact ⟨rfl, rfl, rfl⟩
  · refine ⟨(safeGen (theImage (raise s 11))).resetSrc == 0, ?_⟩
    rw [hu _ (by exact hq _) (by simp [he])]
    exact ⟨rfl, rfl, rfl⟩

theorem press_ack {s : State} {d : Nat} (h : 400 ≤ d) (h' : d < 16000) : press s d = pressAck s := by
  rw [press, if_neg (Nat.not_lt.mpr h), if_pos h']

theorem press_reset {s : State} {d : Nat} (h : 16000 ≤ d) (h' : d ≤ 64000) : press s d = pressReset s := by
  rw [press, if_neg (by omega), if_neg (by omega), if_pos h']

/-- An acknowledgement takes the records released before this tick out of those that wait for one (R596). -/
theorem acknowledged_ev {s : State} (h : s.panel.untrusted = false) (reset : Bool) : (acknowledged s reset).ev =
    { s.ev with unacked := s.ev.unacked.filter fun u => decide (s.time.tick ≤ u.2.2.2) } := by
  simp only [acknowledged, sendMortar_ev]
  rw [panelAck_ev (s := ackRecords s s.time.tick) h]
  rfl

/-- What a reset request leads to, stamped at the phase of its tick (R85). -/
theorem pressReset_effect (s : State) :
    (resetOutcome s = .refused → (pressReset s).md = s.md ∧ (pressReset s).ev = recorded s s.time.phase [(13, [])]) ∧
    (resetOutcome s = .kiln → (pressReset s).md = { s.md with resetAt := some (s.time.tick + 2) } ∧
      (pressReset s).ev = recorded s s.time.phase [(12, [])]) ∧
    (resetOutcome s = .swap → (pressReset s).md = (acceptSwap (raise s 12) true none).md ∧
      (pressReset s).ev = recorded s s.time.phase [(12, [])]) := by
  refine ⟨fun h => ?_, fun h => ?_, fun h => ?_⟩ <;> simp [pressReset, h, resetToKiln, acceptSwap, raise_ev]

theorem pressReset_btn (s : State) : (pressReset s).btn = s.btn := by
  unfold pressReset
  split <;> simp [resetToKiln, acceptSwap]

/-- What the release leads to, its mortar apart: mode state, button and events are those of the press. -/
theorem release_press {s : State} (h : releaseDue s = true) (hs : s.btn.stuck = false) :
    ∃ t, exec .buttonReleaseRecognised s = .next t ∧ t.btn = (press (opening s) (pressTicks s)).btn ∧
      t.md = (press (opening s) (pressTicks s)).md ∧ t.ev = (press (opening s) (pressTicks s)).ev :=
  ⟨_, by rw [execButtonReleaseRecognised_due h, if_neg (by simp [hs])], by simp, by simp, by simp⟩

/-- Settles O13: the class of the press decides, and its action is the acknowledgement's or the reset request's. -/
theorem releasedPressActsByItsClass : Obligations.ReleasedPressActsByItsClass := by
  unfold Obligations.ReleasedPressActsByItsClass
  refine ⟨fun s h hd => ?_, fun s h hs h4 h16 ha hc hp he hm hu => ?_, fun s h hs h4 h16 hc hp he hm ho => ?_,
    fun s h hs h16 h64 => ?_⟩
  · refine ⟨_, execButtonReleaseRecognised_due h, ?_⟩
    have hpress : (if s.btn.stuck = true then opening s else press (opening s) (pressTicks s)) = opening s := by
      rcases hd with hd | hd
      · exact if_pos hd
      · simp [press, hd]
    simp [hpress]
  · obtain ⟨t, ht, tbtn, tmd, tev⟩ := release_press h hs
    obtain ⟨reset, pmd, pbtn, pev⟩ := pressAck_idle (s := opening s) ha hc hp he
    have ha' : acknowledges (raise (opening s) 11) = true := by simpa [acknowledges] using ha
    obtain ⟨hmd, hbtn, -⟩ := acknowledged_keeps (raise (opening s) 11) reset
    have hx : applyAck (raise (opening s) 11) reset = acknowledged (raise (opening s) 11) reset := by
      rw [applyAck_acknowledged ha', if_neg (by simp [hm])]
    rw [press_ack h4 h16] at tbtn tmd tev
    rw [hx] at pmd pbtn pev
    refine ⟨t, ht, ?_, ?_, ?_⟩
    · rw [tbtn, pbtn, hbtn]; simp
    · rw [tmd, pmd, hmd]; simp
    · rw [tev, pev, acknowledged_ev (by simpa using hu), raise_ev]
      simp
  · have ha : acknowledges s = true := by simp [acknowledges, hm]
    obtain ⟨t, ht, tbtn, tmd, -⟩ := release_press h hs
    obtain ⟨reset, pmd, pbtn, -⟩ := pressAck_idle (s := opening s) ha hc hp he
    have ha' : acknowledges (raise (opening s) 11) = true := by simpa [acknowledges] using ha
    have ho' : oasisCause (raise (opening s) 11) = false := by simpa [oasisCause] using ho
    obtain ⟨hmd, hbtn, -⟩ := acknowledged_keeps (raise (opening s) 11) reset
    rw [press_ack h4 h16] at tbtn tmd
    rw [applyAck_acknowledged ha', if_pos (by simp [ho', hm])] at pmd pbtn
    have tmd' := tmd.trans pmd
    refine ⟨t, ht, ?_, ?_, ?_⟩
    · rw [tbtn, pbtn]; simp [hbtn]
    · rw [tmd', changeMode_mode]
    · rw [tmd', changeMode_md, hmd]; simp [hm]
  · obtain ⟨t, ht, tbtn, tmd, tev⟩ := release_press h hs
    rw [press_reset h16 h64] at tbtn tmd tev
    obtain ⟨hrefused, hkiln, hswap⟩ := pressReset_effect (opening s)
    refine ⟨t, ht, by rw [tbtn, pressReset_btn]; rfl, fun hr => ?_, fun hr => ?_, fun hr hn => ?_⟩
    · obtain ⟨pmd, pev⟩ := hrefused hr
      exact ⟨tmd.trans pmd, tev.trans pev⟩
    · obtain ⟨pmd, pev⟩ := hkiln hr
      exact ⟨tmd.trans pmd, tev.trans pev⟩
    · obtain ⟨pmd, pev⟩ := hswap hr
      refine ⟨?_, tev.trans pev⟩
      rw [tmd, pmd, acceptSwap_md (by simpa using hn)]
      simp

end Sys2Proof.Machine
end

section
/-! Partner reports and their lapse (R59, R61, R334, R354). -/

namespace Sys2Proof.Machine

theorem linkServed_iff {s : State} : linkServed s = true ↔ s.md.powered = true ∧ onTwin s = true ∧
    s.md.ticking = true ∧ s.md.mode ≠ .kiln ∧ s.md.mode ≠ .sealed := by
  simp [linkServed, and_assoc]

/-- The pair part with the partner report of a STATUS frame (R334); `last` is the last abdication seen. -/
def reportedPair (s : State) (lane : Nat) (f : StatusFrame) (last : Nat × Nat × Nat) : PairSt :=
  { s.pair with
    lanes := lset s.pair.lanes lane { (s.pair.lanes.getD lane {}) with
      lastTick := s.time.tick
      state := if (s.pair.lanes.getD lane {}).state = 0 then 1 else (s.pair.lanes.getD lane {}).state }
    status := some f, statusTick := s.time.tick, report := true, partnerDays := f.rehearsalDays, lastAbd := last
    shadowTick := if f.mode = 3 ∨ f.mode = 4 then some s.time.tick else s.pair.shadowTick }

/-- The module behind the report of a STATUS frame, before the role and the token are looked at. -/
def reported (s : State) (lane : Nat) (f : StatusFrame) (n : Nat) (last : Nat × Nat × Nat) : State :=
  { setPhase s n with pair := reportedPair s lane f last }

/-- The first report of SYNC or TRACK may make the module ACTIVE. -/
def syncSeen (s : State) (f : StatusFrame) : State := if f.mode = 3 ∨ f.mode = 4 then firstSync s else s

/-- The token word of a STATUS frame: the wiring row, or a token conflict (R354). -/
def tokenSeen (s : State) (f : StatusFrame) : State :=
  if f.ownToken && wiringWindow s then (if f.cause = 0 then wiringFrame s else s)
  else if f.ownToken && s.md.token then abdicate (raise s 52) 7
  else s

theorem execStatusFrameReceive_served {s : State} {lane : Nat} (f : StatusFrame) (n : Nat) (h : linkServed s = true)
    (hl : lane ≤ 1) : ∃ last, exec (.statusFrameReceive lane f n) s =
      .next (tokenSeen (syncSeen (reported s lane f n last) f) f) := by
  have hcause : ∃ last, seeCause (setPhase s n) f = { setPhase s n with pair := { s.pair with lastAbd := last } } := by
    unfold seeCause
    dsimp only
    split
    · exact ⟨_, rfl⟩
    · exact ⟨s.pair.lastAbd, rfl⟩
  obtain ⟨last, hlast⟩ := hcause
  refine ⟨last, ?_⟩
  show execStatusFrameReceive lane f n s = _
  unfold execStatusFrameReceive
  rw [if_neg (by simp [h, hl]), hlast]
  simp only [decide_eq_true_eq]
  rfl

/-! ### The role -/

/-- SYNC or TRACK first reported to a SOLO module with the token: ACTIVE is due, with EV034 (R61). -/
theorem firstSync_solo {s : State} (hr : s.md.role = .solo) (ht : s.md.token = true) (hm : s.md.mode ≠ .halt)
    (hd : s.pair.roleDue ≠ some .active) :
    firstSync s = raise { s with pair := { s.pair with roleDue := some .active } } 34 := by
  simp [firstSync, hr, ht, hm, hd]

/-- A partner that shadows leaves all as it is, or changes the role that is due, with EV034. -/
theorem firstSync_cases (s : State) : firstSync s = s ∨
    ∃ due, firstSync s = raise { s with pair := { s.pair with roleDue := due } } 34 := by
  unfold firstSync
  dsimp only
  split
  · exact .inr ⟨_, rfl⟩
  · exact .inl rfl

/-- What the report leaves of mode state and time, and the events that it brings: none, or EV034. -/
theorem syncSeen_reported (s : State) (lane : Nat) (f : StatusFrame) (n : Nat) (last : Nat × Nat × Nat) :
    let u := syncSeen (reported s lane f n last) f
    u.md = s.md ∧ u.time = { s.time with phase := n } ∧ wiringWindow u = wiringWindow s ∧
      ∃ first, u.ev = recorded s n first := by
  have h0 : syncSeen (reported s lane f n last) f = reported s lane f n last ∨
      ∃ due, syncSeen (reported s lane f n last) f =
        raise { reported s lane f n last with pair := { reportedPair s lane f last with roleDue := due } } 34 := by
    unfold syncSeen
    split
    · exact firstSync_cases _
    · exact .inl rfl
  rcases h0 with h0 | ⟨due, h0⟩ <;> simp only [h0]
  · exact ⟨rfl, rfl, rfl, [], (recorded_nil s n).symm⟩
  · exact ⟨by simp [reported, setPhase], by simp [reported, setPhase],
      by simp [wiringWindow, reported, reportedPair, setPhase], [(34, [])], by rw [raise_ev]; rfl⟩

/-- The report of SYNC or TRACK that lapses makes an ACTIVE module SOLO at the next boundary, with EV033 (R59, R61). -/
theorem shadowLapse_active {s : State} {k : Nat} (hk : s.pair.shadowTick = some k) (h8 : k + 8 ≤ s.time.tick)
    (hr : s.md.role = .active) (hm : s.md.mode ≠ .halt) (hd : s.pair.roleDue ≠ some .solo) :
    (shadowLapse s).pair.shadowTick = none ∧ (shadowLapse s).pair.roleDue = some .solo ∧
    (shadowLapse s).ev = recorded s s.time.phase [(33, [])] := by
  have h : shadowLapse s = raise { s with pair := { s.pair with shadowTick := none, roleDue := some .solo } } 33 := by
    simp [shadowLapse, hk, h8, hr, hm, hd]
  rw [h]
  exact ⟨by simp, by simp, raise_ev ..⟩

theorem execPartnerReportLapse_served {s : State} (h : linkServed s = true) : ∃ report, exec .partnerReportLapse s =
    .next (sendChanges (shadowLapse { s with pair := { s.pair with report := report } })) := by
  have hu : ∃ report, (if s.pair.statusTick + 8 ≤ s.time.tick then { s with pair := { s.pair with report := false } }
      else s) = { s with pair := { s.pair with report := report } } := by
    split
    · exact ⟨_, rfl⟩
    · exact ⟨s.pair.report, rfl⟩
  obtain ⟨report, hu⟩ := hu
  refine ⟨report, ?_⟩
  show execPartnerReportLapse s = _
  unfold execPartnerReportLapse
  rw [if_neg (by simp [h]), ← hu]

/-! ### The token conflict -/

theorem tokenSeen_noToken {s : State} {f : StatusFrame} (h : f.ownToken = false) : tokenSeen s f = s := by
  simp [tokenSeen, h]

theorem tokenSeen_conflict {s : State} {f : StatusFrame} (h : f.ownToken = true) (hw : wiringWindow s = false)
    (ht : s.md.token = true) : tokenSeen s f = abdicate (raise s 52) 7 := by
  simp [tokenSeen, h, hw, ht]

/-- Events raised at one instant, the earlier ones first. -/
theorem recorded_append {s u : State} {n : Nat} {first : List (Nat × List W32)} (h : u.ev = recorded s n first)
    (ht : u.time = { s.time with phase := n }) (evs : List (Nat × List W32)) :
    recorded u n evs = recorded s n (first ++ evs) := by
  unfold recorded at *
  by_cases hr : s.ev.running = true
  · simp only [hr, if_true] at h ⊢
    simp [h, ht, timeQuality]
  · simp only [hr] at h ⊢
    simp [h, hr]

/-- An abdication behind other events is one behind none. -/
theorem abdicated_nil {s t : State} {cause n : Nat} {first : List (Nat × List W32)} (h : abdicated s t cause n first) :
    abdicated s t cause n [] := by
  obtain ⟨h1, h2, h3, h4, h5, h6, h7, hpre, h32, hframe⟩ := h
  refine ⟨h1, h2, h3, h4, h5, h6, h7, ?_, fun hr => ?_, hframe⟩
  · rw [recorded_nil]
    exact (intake_recorded s n first).trans hpre
  · obtain ⟨e, he, hev⟩ := h32 hr
    rw [recorded_nil]
    exact ⟨e, List.drop_subset_drop_left _ (intake_recorded s n first).length_le he, hev⟩

/-- The last event of those that an abdication comes behind is among those raised since. -/
theorem conflict_raised {s t : State} {n ev : Nat} {first : List (Nat × List W32)} (hr : s.ev.running = true)
    (h : (recorded s n (first ++ [(ev, [])])).intake <+: t.ev.intake) :
    ∃ e ∈ t.ev.intake.drop s.ev.intake.length, e.ev = ev ∧ e.arg = [] ∧ e.stamp = s.time.ns + n := by
  obtain ⟨rest, hrest⟩ := h
  rw [← hrest, recorded, if_pos hr]
  exact ⟨{ stamp := s.time.ns + n, ev := ev, arg := [], quality := timeQuality s }, by simp, rfl, rfl, rfl⟩

/-- Settles O41: the report is kept, the role that is due follows from it, and two held tokens end in abdication. -/
theorem partnerReportsDecideTheRole : Obligations.PartnerReportsDecideTheRole := by
  unfold Obligations.PartnerReportsDecideTheRole
  refine ⟨fun s lane f n h hl h3 h4 ho => ?_, fun s lane f n h hl hm ho hr ht hh hd => ?_,
    fun s lane f n h hl ho hw ht hh => ?_, fun s k h hk h8 hr hh hd => ?_⟩
  · obtain ⟨last, he⟩ := execStatusFrameReceive_served f n h hl
    refine ⟨_, he, ?_⟩
    rw [tokenSeen_noToken ho, syncSeen, if_neg (by simp [h3, h4])]
    simp [reported, reportedPair, setPhase, h3, h4]
  · obtain ⟨last, he⟩ := execStatusFrameReceive_served f n h hl
    refine ⟨_, he, ?_⟩
    rw [tokenSeen_noToken ho, syncSeen, if_pos hm, firstSync_solo (by exact hr) (by exact ht) (by exact hh) (by exact hd)]
    refine ⟨by simp [reported, setPhase], by simp [reported, reportedPair], by simp [reported, reportedPair, hm],
      by simp, ?_⟩
    rw [raise_ev]
    rfl
  · obtain ⟨last, he⟩ := execStatusFrameReceive_served f n h hl
    obtain ⟨hmd, htime, hwin, first, hev⟩ := syncSeen_reported s lane f n last
    refine ⟨_, he, ?_⟩
    rw [tokenSeen_conflict ho (hwin.trans hw) (by rw [hmd, ht])]
    have hab : abdicated s (abdicate (raise (syncSeen (reported s lane f n last) f) 52) 7) 7 n (first ++ [(52, [])]) := by
      refine abdicated_of_abdicate (by simp [hmd, hh]) (by simp [hmd, (linkServed_iff.mp h).2.2.2.2]) ?_
        (by simp [htime]) (by simp [hmd])
      rw [raise_ev, htime]
      exact recorded_append hev htime [(52, [])]
    refine ⟨abdicated_nil hab, fun hrun => conflict_raised (first := first) hrun ?_⟩
    obtain ⟨-, -, -, -, -, -, -, hpre, -⟩ := hab
    exact hpre
  · obtain ⟨report, he⟩ := execPartnerReportLapse_served h
    obtain ⟨hst, hrd, hev⟩ := shadowLapse_active (s := { s with pair := { s.pair with report := report } })
      hk h8 hr hh hd
    refine ⟨_, he, by simp, by simp [hst], by simp [hrd], ?_⟩
    have hs : ∀ u : State, (sendChanges u).ev = u.ev := fun u => by simp
    exact (hs _).trans (hev.trans rfl)

end Sys2Proof.Machine
end

section
/-! Role swap (R69, R355, R357). -/

namespace Sys2Proof.Machine

theorem ev_of_evCore {e f : EventSt} (h : evCore e = evCore f) (hi : e.intake = f.intake) : e = f := by
  cases e
  cases f
  simp_all [evCore]

@[simp] theorem canYield_time (s : State) : (canYield s).time = s.time := by
  unfold canYield
  refine foldl_time_eq _ _ _ fun u b => ?_
  dsimp only
  (repeat' split) <;> simp

@[simp] theorem canTake_time (s : State) (takeover : Bool) : (canTake s takeover).time = s.time := by
  unfold canTake
  refine (foldl_time_eq _ _ _ fun u b => ?_).trans rfl
  dsimp only
  (repeat' split) <;> simp

@[simp] theorem failTickets_time (s : State) : (failTickets s).time = s.time := by
  unfold failTickets
  refine foldl_time_eq _ _ _ fun u b => ?_
  split <;> simp

@[simp] theorem ledgerTake_time (s : State) : (ledgerTake s).time = s.time := by
  unfold ledgerTake
  (repeat' split) <;> rfl

/-- What the link served and a swap due at this tick lead an ACTIVE and a STANDBY in TRACK to (R357). -/
theorem execRoleSwapTick_due {s : State} {k : Nat} (h : linkServed s = true) (hk : s.md.swapAt = some k)
    (hd : k ≤ s.time.tick) :
    (s.md.role = .active → exec .roleSwapTick s = .next (sendChanges
      (if swapMode s.md.mode && partnerTracks s then swapAway (setPhase s 0) else refuseSwap (setPhase s 0)))) ∧
    (s.md.role = .standby → s.md.mode = .track → exec .roleSwapTick s = .next (swapIn (setPhase s 0))) := by
  have hpass : ¬ (!linkServed s || !(s.md.swapAt.elim false fun t => decide (t ≤ s.time.tick))) = true := by
    simp [h, hk, hd]
  refine ⟨fun hr => ?_, fun hr hm => ?_⟩ <;> show execRoleSwapTick s = _ <;> unfold execRoleSwapTick <;>
    rw [if_neg hpass] <;> dsimp only [setPhase] <;> rw [hr]
  · rfl
  · exact congrArg Host.Outcome.next (if_pos hm)

/-! ### The old ACTIVE -/

/-- The old ACTIVE once it has handed over what is the role's: no sessions to the role address, no region updates, no
declarations, no frames in its CAN controllers. -/
def handedOver (s : State) : State :=
  canYield (dropWaits (settingsRoleLost (failTickets (endSessions s fun _ x => x.role))))

/-- STANDBY without the token, before it enters SYNC (R69). -/
def yielded (s : State) : State :=
  let u := handedOver s
  { u with
    panel2 := { u.panel2 with releasing := u.panel.driving }
    md := { u.md with role := .standby, token := false, swapAt := none, swapReset := false, swapCmd := none }
    mortar := { u.mortar with activeMode := modeCode s.md.mode, loops := [], courseData := [], outputs := [], tick := none }
    field := { u.field with overlap := some u.time.tick }
    pair := { u.pair with counters := bump u.pair.counters 2, watchFrom := none, shadowTick := none, roleDue := none } }

theorem yielded_md (s : State) : (yielded s).md = { s.md with
    role := .standby, token := false, swapAt := none, swapReset := false, swapCmd := none } := by
  simp [yielded, handedOver]

/-- In SYNC, with the command that made the swap told its end. -/
def swappedAway (s : State) : State := completeOpt (settle (toSync (yielded s) causePair)) s.md.swapCmd stDone

theorem swapAway_eq (s : State) : swapAway s = if s.md.swapReset then
    { swappedAway s with md := { (swappedAway s).md with resetAt := some (s.time.tick + 2) } } else swappedAway s := by
  have h : (swappedAway s).time.tick = s.time.tick := by simp [swappedAway, yielded, handedOver]
  rw [← h]
  unfold swapAway swappedAway yielded handedOver
  rfl

theorem swappedAway_md {s : State} (hm : s.md.mode ≠ .sync) : (swappedAway s).md.role = .standby ∧
    (swappedAway s).md.mode = .sync ∧ (swappedAway s).md.token = false ∧ (swappedAway s).md.injection = false ∧
    (swappedAway s).md.swapAt = none ∧ (swappedAway s).md.resetAt = s.md.resetAt := by
  have h : (swappedAway s).md = (toSync (yielded s) causePair).md := by simp [swappedAway]
  rw [h, toSync, changeMode_md]
  simp [yielded_md, hm, resolveRole]

theorem swappedAway_watch (s : State) : (swappedAway s).pair.watchFrom = none := by
  have h : (swappedAway s).pair = (toSync (yielded s) causePair).pair := by simp [swappedAway]
  rw [h]
  simp [toSync, yielded]

/-- The old ACTIVE becomes STANDBY in SYNC; a reset request leads to KILN from there (R69, R85). -/
theorem swapAway_ends {s : State} (hm : s.md.mode ≠ .sync) : (swapAway s).md.role = .standby ∧
    (swapAway s).md.mode = .sync ∧ (swapAway s).md.token = false ∧ (swapAway s).md.injection = false ∧
    (swapAway s).md.swapAt = none ∧ (swapAway s).pair.watchFrom = none ∧
    (swapAway s).md.resetAt = if s.md.swapReset then some (s.time.tick + 2) else s.md.resetAt := by
  obtain ⟨hrole, hmode, htoken, hinj, hat, hreset⟩ := swappedAway_md hm
  have hwatch := swappedAway_watch s
  rw [swapAway_eq]
  split
  · exact ⟨hrole, hmode, htoken, hinj, hat, hwatch, rfl⟩
  · exact ⟨hrole, hmode, htoken, hinj, hat, hwatch, hreset⟩

/-! ### The new ACTIVE -/

/-- ACTIVE with the token, before it takes the active's mode (R69). -/
def swapTaken (s : State) : State :=
  { s with
    md := { s.md with role := .active, token := true, swapAt := none }
    field := { s.field with overlap := some s.time.tick }
    pair := { s.pair with counters := bump s.pair.counters 2, shadowTick := some s.time.tick, roleDue := none } }

/-- Its mode is the active's, and control is taken. -/
theorem swapIn_eq (s : State) : swapIn s = takeControl (changeMode (failTickets (injectionSetOff (swapTaken s)))
    (modeOfCode s.mortar.activeMode) causePair) false := rfl

/-- Control is taken: the watch for latent faults runs from this tick (R358). -/
theorem takeControl_watch (s : State) (takeover : Bool) :
    (takeControl s takeover).pair.watchFrom = some s.time.tick := by
  unfold takeControl
  cases takeover <;> simp

theorem swapIn_md {s : State} (hm : s.md.mode = .track) (hs : swapMode (modeOfCode s.mortar.activeMode) = true) :
    (swapIn s).md.role = .active ∧ (swapIn s).md.mode = modeOfCode s.mortar.activeMode ∧ (swapIn s).md.token = true ∧
    (swapIn s).md.injection = false ∧ (swapIn s).md.swapAt = none := by
  have hmode : modeOfCode s.mortar.activeMode ≠ .track ∧
      ∀ u, resolveRole u (modeOfCode s.mortar.activeMode) = u.md.role := by
    revert hs
    cases modeOfCode s.mortar.activeMode <;> simp [swapMode, resolveRole]
  have h : (swapIn s).md = (changeMode (failTickets (injectionSetOff (swapTaken s)))
      (modeOfCode s.mortar.activeMode) causePair).md := by
    rw [swapIn_eq]; simp
  rw [h, changeMode_md]
  simp [swapTaken, hm, hmode.1.symm, hmode.2]

theorem swapIn_watch (s : State) : (swapIn s).pair.watchFrom = some s.time.tick := by
  rw [swapIn_eq, takeControl_watch]
  simp [swapTaken]

/-! ### A swap that does not take place -/

theorem refuseSwap_md (s : State) : (refuseSwap s).md.role = s.md.role ∧ (refuseSwap s).md.mode = s.md.mode ∧
    (refuseSwap s).md.token = s.md.token ∧ (refuseSwap s).md.swapAt = none := by
  unfold refuseSwap
  dsimp only
  split <;> simp [voidSwap_md]

theorem refuseSwap_ev (s : State) : (refuseSwap s).ev = s.ev :=
  ev_of_evCore (by simp) (by simp)

/-- Settles O43: each side's mode state at the swap tick, and that of a swap whose conditions fail. -/
theorem rolesSwapAtTheirTick : Obligations.RolesSwapAtTheirTick := by
  unfold Obligations.RolesSwapAtTheirTick
  refine ⟨fun s k h hk hd hr hm hp => ?_, fun s k h hk hd hr hm hs => ?_, fun s k h hk hd hr hn => ?_⟩
  · refine ⟨_, (execRoleSwapTick_due h hk hd).1 hr, ?_⟩
    have hsync : s.md.mode ≠ .sync := fun e => by simp [e, swapMode] at hm
    obtain ⟨hrole, hmode, htoken, hinj, hat, hwatch, hreset⟩ := swapAway_ends (s := setPhase s 0) hsync
    rw [if_pos (by simp [hm, hp])]
    exact ⟨by simpa using hrole, by simpa using hmode, by simpa using htoken, by simpa using hinj, by simpa using hat,
      by simpa using hwatch, by simpa using hreset⟩
  · refine ⟨_, (execRoleSwapTick_due h hk hd).2 hr hm, ?_⟩
    obtain ⟨hrole, hmode, htoken, hinj, hat⟩ := swapIn_md (s := setPhase s 0) hm hs
    exact ⟨hrole, hmode, htoken, hinj, hat, swapIn_watch _⟩
  · refine ⟨_, (execRoleSwapTick_due h hk hd).1 hr, ?_⟩
    obtain ⟨hrole, hmode, htoken, hat⟩ := refuseSwap_md (setPhase s 0)
    rw [if_neg (by simp [hn])]
    refine ⟨by simpa [hr] using hrole, by simpa using hmode, by simpa using htoken, by simpa using hat, by simp, ?_⟩
    have hs : ∀ u : State, (sendChanges u).ev = u.ev := fun u => by simp
    rw [hs, refuseSwap_ev]
    rfl

end Sys2Proof.Machine
end

section
/-! Abdication of the partner, and the takeover (R66, R346, R351, R352, R353, R556). -/

namespace Sys2Proof.Machine

/-! ### The detection -/

/-- The record of the last abdication seen: the ABDICATE frame's, else the cause of the last STATUS frame, else 8 (Table
10.13). -/
def abdicationRecord (s : State) : Nat × Nat × Nat :=
  let cause := s.pair.abdicate.getD ((s.pair.status.map (·.cause)).getD 0)
  if s.pair.abdicate.isSome then s.pair.lastAbd else (s.time.tick, if cause = 0 then 8 else cause, partnerSlot s)

/-- The module at the detection, with the ledger carried on from this instant (R556). -/
def abdicationSeen (s : State) (one : Bool) (n : Nat) : State :=
  ledgerCarry { setPhase s n with
    pair := { s.pair with partnerToken := false, oneSample := one, wiringFrames := 0, lastAbd := abdicationRecord s }
    md := { s.md with swapAt := none } }

theorem abdicationSeen_keeps (s : State) (one : Bool) (n : Nat) :
    (abdicationSeen s one n).md = { s.md with swapAt := none } ∧
    (abdicationSeen s one n).ev = s.ev ∧ (abdicationSeen s one n).crs = s.crs ∧
    (abdicationSeen s one n).time.tick = s.time.tick ∧ (abdicationSeen s one n).pair =
      { s.pair with partnerToken := false, oneSample := one, wiringFrames := 0, lastAbd := abdicationRecord s } := by
  unfold abdicationSeen ledgerCarry
  (repeat' split) <;> exact ⟨rfl, rfl, rfl, rfl, rfl⟩

/-- A module that receives mortar and sees the token line released: in TRACK and CHANGE it notes the instant, in SYNC it
is to become SOLO in OASIS (R353). -/
theorem execAbdicationDetected_seen {s : State} {one : Bool} {n : Nat} (h : linkServed s = true) (hf : follows s = true)
    (hd : s.pair.detected = none) (hl : lineReleased s one n = true) :
    exec (.abdicationDetected one n) s = .next (
      let u := abdicationSeen s one n
      if shadows u then { u with pair := { u.pair with detected := some u.time.tick } }
      else { u with pair := { u.pair with roleDue := some .solo }
                    md := { u.md with trans := u.md.trans ++ [⟨3, .oasis, causePair, none, 0⟩] } }) := by
  show execAbdicationDetected one n s = _
  unfold execAbdicationDetected
  rw [if_neg (by simp [h, hf, hd, hl])]
  rfl

theorem follows_of_shadows {s : State} (h : shadows s = true) : follows s = true := by
  simp only [shadows, follows, Bool.and_eq_true] at *
  refine ⟨h.1, ?_⟩
  have := h.2
  revert this
  cases s.md.mode <;> simp

/-! ### The takeover -/

/-- What the module is told to be at the takeover: SOLO with the token, with EV039, and with EV040 for the wiring row. -/
def tokenTaken (s : State) : State :=
  let u := raise (setPhase s 0) 39 [Config.detectionPathCode s.pair.oneSample, w32 (s.pair.abdicate.getD 0)]
  let u := { u with
    md := { u.md with role := .solo, token := true, swapAt := none }
    pair := { u.pair with
      ownToken := true, detected := none, abdicate := none, counters := bump u.pair.counters 0
      wiringFault := u.pair.wiringFault || decide (2 ≤ s.pair.wiringFrames) } }
  if decide (2 ≤ s.pair.wiringFrames) then raise u 40 [w32 (partnerSlot u)] else u

/-- Injection off, the window of an exchange closed, and EV036 when the active was in HOLD (R66, R195). -/
def holdEnded (s : State) : State :=
  let u := takeoverWindow (injectionSetOff (tokenTaken s))
  if s.mortar.activeMode = modeCode .hold then raise u 36 else u

/-- Courses, loops, data and outputs as mortared, and the region updates that have failed (R346, R201). -/
def mortarTaken (s : State) : State :=
  let u := takeoverCourses (holdEnded s)
  failTickets (takeoverOutputs (takeoverData (u.mortar.loops.foldl (fun s e => takeLoop s e.2) u)))

theorem execTakeover_due {s : State} {k : Nat} (h : linkServed s = true) (hs : shadows s = true)
    (hd : s.pair.detected = some k) (hk : k < s.time.tick) : exec .takeover s = .next (sendStatus (takeControl
      (changeMode (mortarTaken s) (takeoverMode (mortarTaken s)) causePair) true)) := by
  show execTakeover s = _
  unfold execTakeover
  rw [if_neg (by simp [h, hs, hd, hk])]
  rfl

theorem execTakeover_early {s : State} (h : ∀ k, s.pair.detected = some k → s.time.tick ≤ k) :
    exec .takeover s = .next s := by
  show execTakeover s = _
  unfold execTakeover
  have hd : (s.pair.detected.elim false fun t => decide (t < s.time.tick)) = false := by
    cases hp : s.pair.detected with
    | none => rfl
    | some k => simpa using h k hp
  rw [if_pos (by simp [hd])]

/-! ### What the takeover leaves -/

theorem tokenTaken_parts (s : State) : (tokenTaken s).md = { s.md with role := .solo, token := true, swapAt := none } ∧
    (tokenTaken s).pair = { s.pair with
      ownToken := true, detected := none, abdicate := none, counters := bump s.pair.counters 0
      wiringFault := s.pair.wiringFault || decide (2 ≤ s.pair.wiringFrames) } ∧
    (tokenTaken s).time = { s.time with phase := 0 } ∧ (tokenTaken s).exch = s.exch ∧
    (tokenTaken s).mortar.activeMode = s.mortar.activeMode := by
  unfold tokenTaken
  dsimp only
  refine ⟨?_, ?_, ?_, ?_, ?_⟩
  · split <;> simp [setPhase]
  · split <;> simp [setPhase]
  · split <;> simp [setPhase]
  · split <;> simp [setPhase]
  · refine activeMode_of_mortarCore ?_
    split <;> simp [setPhase]

@[simp] theorem takeoverWindow_time (s : State) : (takeoverWindow s).time = s.time := by
  unfold takeoverWindow
  (repeat' split) <;> simp

/-- An exchange is in its window past the swap after the takeover exactly when it was before (R195). -/
theorem takeoverWindow_exch (s : State) : (takeoverWindow s).exch.state = 4 ∧ (takeoverWindow s).exch.swapped = true ↔
    s.exch.state = 4 ∧ s.exch.swapped = true := by
  unfold takeoverWindow
  split
  · rfl
  · split
    · rfl
    · simp_all [exchAbandon]

theorem holdEnded_parts (s : State) : (holdEnded s).md =
      { s.md with role := .solo, token := true, swapAt := none, injection := false } ∧
    (holdEnded s).pair = (tokenTaken s).pair ∧ (holdEnded s).time.tick = s.time.tick ∧
    ((holdEnded s).exch.state = 4 ∧ (holdEnded s).exch.swapped = true ↔ s.exch.state = 4 ∧ s.exch.swapped = true) ∧
    (holdEnded s).mortar.activeMode = s.mortar.activeMode := by
  obtain ⟨hmd, -, htime, hexch, hact⟩ := tokenTaken_parts s
  have hw := takeoverWindow_exch (injectionSetOff (tokenTaken s))
  have he : (injectionSetOff (tokenTaken s)).exch = s.exch := by simp [hexch]
  rw [he] at hw
  unfold holdEnded
  dsimp only
  refine ⟨?_, ?_, ?_, ?_, ?_⟩
  · split <;> simp [hmd]
  · split <;> simp
  · split <;> simp [htime]
  · split <;> simpa using hw
  · refine (activeMode_of_mortarCore ?_).trans hact
    split <;> simp

/-- A region update that fails leaves the pair part as it is: only one that is done is kept there. -/
theorem ticketEnd_pair {status : Nat} (h : status ≠ 4) (s : State) (t reason : Nat) :
    (ticketEnd s t status reason).pair = s.pair := by
  unfold ticketEnd
  simp only [h, false_and, if_false]
  split <;> simp

@[simp] theorem failTickets_pair (s : State) : (failTickets s).pair = s.pair := by
  unfold failTickets
  refine foldl_inv (P := fun u => u.pair = s.pair) _ _ _ rfl fun u b hu => ?_
  split
  · rw [ticketEnd_pair (by decide)]
    simpa using hu
  · exact hu

@[simp] theorem takeLoop_time (s : State) (q : LoopMortar) : (takeLoop s q).time = s.time := by
  unfold takeLoop
  split <;> rfl

@[simp] theorem takeoverData_time (s : State) : (takeoverData s).time = s.time := by
  unfold takeoverData
  simp

@[simp] theorem takeoverCourses_time (s : State) : (takeoverCourses s).time = s.time := by
  simp [takeoverCourses]

@[simp] theorem takeoverOutputs_time (s : State) : (takeoverOutputs s).time = s.time := rfl

theorem mortarTaken_parts (s : State) : (mortarTaken s).md = (holdEnded s).md ∧
    (mortarTaken s).pair = (holdEnded s).pair ∧ (mortarTaken s).time.tick = (holdEnded s).time.tick ∧
    (mortarTaken s).exch = (holdEnded s).exch ∧
    (mortarTaken s).mortar.activeMode = (holdEnded s).mortar.activeMode := by
  unfold mortarTaken
  dsimp only
  refine ⟨by simp, by simp, by simp, by simp, activeMode_of_mortarCore (by simp)⟩

/-- The mode of a takeover goes by what the module held before it (R66). -/
theorem takeoverMode_mortarTaken (s : State) : takeoverMode (mortarTaken s) = takeoverMode s := by
  obtain ⟨hmd, -, -, hexch, hact⟩ := mortarTaken_parts s
  obtain ⟨hmd', -, -, hexch', hact'⟩ := holdEnded_parts s
  unfold takeoverMode
  rw [hact, hact', hexch, hmd, hmd']
  split
  · rfl
  · simp only [hexch']
  · rfl

/-! ### The events of a takeover -/

/-- An event raised where nothing else has been. -/
theorem raises_raise {s t : State} (h : t.ev.intake = s.ev.intake) (ev : Nat) (arg : List W32) :
    Raises s (raise t ev arg) := (Raises.of_intake h).raise ev arg

theorem takeoverWindow_raises (s : State) : Raises s (takeoverWindow s) := by
  unfold takeoverWindow exchAbandon
  split
  · exact .refl s
  · split
    · exact .of_intake (by rfl)
    · exact raises_raise (by rfl) _ _

theorem takeoverCourses_raises (s : State) : Raises s (takeoverCourses s) := ⟨(abandonCourses_raises s).intake⟩

theorem failTickets_raises (s : State) : Raises s (failTickets s) := by
  unfold failTickets
  refine Raises.foldl _ _ s fun u b => ?_
  split
  · exact Raises.trans (.of_intake (by simp)) (ticketEnd_raises ..)
  · exact .refl u

theorem canTake_raises (s : State) (takeover : Bool) : Raises s (canTake s takeover) := by
  unfold canTake
  refine Raises.trans ?_ (Raises.foldl _ _ _ fun u b => ?_)
  · exact .of_intake (by rfl)
  · dsimp only
    split
    · exact .of_intake (by rfl)
    · exact raises_raise (by rfl) _ _

theorem enterHoldover_raises (s : State) (why : Nat) : Raises s (enterHoldover s why) := by
  unfold enterHoldover
  split
  · exact .refl s
  · exact raises_raise (by rfl) _ _

theorem takeoverServo_raises (s : State) : Raises s (takeoverServo s) := by
  unfold takeoverServo
  split
  · exact .of_intake (by rfl)
  · split
    · exact .of_intake (by rfl)
    · exact (enterHoldover_raises s 3).trans (raises_raise (by rfl) _ _)

theorem takeControl_raises (s : State) (takeover : Bool) : Raises s (takeControl s takeover) := by
  unfold takeControl
  extract_lets s1 s2 s3
  have h1 : Raises s s1 := .of_intake (by simp only [s1]; cases takeover <;> simp)
  have h3 : Raises s2 s3 := .of_intake (by simp only [s3]; split <;> simp)
  refine ((h1.trans (canTake_raises s1 takeover)).trans h3).trans (Raises.trans ?_ (takeoverServo_raises _))
  exact .of_intake (by rfl)

/-- EV039 has been raised at the boundary (R352). -/
def toldTakeover (s : State) : State :=
  raise (setPhase s 0) 39 [Config.detectionPathCode s.pair.oneSample, w32 (s.pair.abdicate.getD 0)]

theorem tokenTaken_raises (s : State) : Raises (toldTakeover s) (tokenTaken s) := by
  unfold tokenTaken toldTakeover
  dsimp only
  split
  · exact raises_raise (by rfl) _ _
  · exact .of_intake (by rfl)

/-- The module with the injection off and the exchange's window closed, behind EV039. -/
theorem windowClosed_raises (s : State) :
    Raises (toldTakeover s) (takeoverWindow (injectionSetOff (tokenTaken s))) :=
  ((tokenTaken_raises s).trans (injectionSetOff_raises _)).trans (takeoverWindow_raises _)

theorem holdEnded_raises (s : State) : Raises (toldTakeover s) (holdEnded s) := by
  unfold holdEnded
  dsimp only
  split
  · exact (windowClosed_raises s).raise _ _
  · exact windowClosed_raises s

theorem mortarTaken_raises (s : State) : Raises (holdEnded s) (mortarTaken s) := by
  unfold mortarTaken
  refine (takeoverCourses_raises (holdEnded s)).trans (Raises.trans ?_ (failTickets_raises _))
  exact .of_intake (by simp)

/-- HOLD, of the codes of Table 02.1, is code 6 alone. -/
theorem modeOfCode_hold {x : Nat} (h : modeOfCode x = .hold) (hx : x ≤ 11) : x = modeCode .hold := by
  have : ∀ x ≤ 11, modeOfCode x = .hold → x = 6 := by decide
  exact this x hx h

/-- EV036 when the active was in HOLD (R66). -/
theorem holdEnded_ev36 {s : State} (hr : s.ev.running = true) (h : s.mortar.activeMode = modeCode .hold) :
    ∃ e ∈ (holdEnded s).ev.intake.drop s.ev.intake.length, e.ev = 36 := by
  have hpre : s.ev.intake <+: (takeoverWindow (injectionSetOff (tokenTaken s))).ev.intake := by
    have h0 : Raises s (toldTakeover s) := raises_raise (by rfl) _ _
    exact (h0.trans (windowClosed_raises s)).intake
  have hcore : evCore (takeoverWindow (injectionSetOff (tokenTaken s))).ev = evCore s.ev := by
    simp only [tokenTaken]
    split <;> simp [setPhase]
  have hrun := (running_of_evCore hcore).trans hr
  rw [holdEnded, if_pos h, raise_ev, recorded_one hrun, List.drop_append_of_le_length hpre.length_le]
  exact ⟨_, List.mem_append_right _ (List.mem_singleton.mpr rfl), rfl⟩

/-! ### The module in control -/

/-- The module at the end of the takeover (R352). -/
def takenOver (s : State) : State :=
  sendStatus (takeControl (changeMode (mortarTaken s) (takeoverMode s) causePair) true)

theorem takenOver_md {s : State} (h : [Mode.stop, .run, .change, .degraded, .oasis].contains (takeoverMode s) = true) :
    (takenOver s).md.role = .solo ∧ (takenOver s).md.token = true ∧ (takenOver s).md.injection = false ∧
    (takenOver s).md.swapAt = none ∧ (takenOver s).md.mode = takeoverMode s := by
  obtain ⟨hmd, -⟩ := mortarTaken_parts s
  obtain ⟨hmd', -⟩ := holdEnded_parts s
  have hrole : resolveRole (mortarTaken s) (takeoverMode s) = (mortarTaken s).md.role := by
    revert h
    cases takeoverMode s <;> simp [resolveRole]
  have ht : (takenOver s).md = (changeMode (mortarTaken s) (takeoverMode s) causePair).md := by simp [takenOver]
  rw [ht, changeMode_md, hrole, hmd, hmd']
  split <;> simp_all

theorem takenOver_pair (s : State) : (takenOver s).pair.detected = none ∧ (takenOver s).pair.abdicate = none ∧
    (takenOver s).pair.watchFrom = some s.time.tick ∧ (takenOver s).pair.counters = bump s.pair.counters 0 := by
  obtain ⟨-, hpair, htick, -⟩ := mortarTaken_parts s
  obtain ⟨-, hpair', htick', -⟩ := holdEnded_parts s
  obtain ⟨-, hpair'', -⟩ := tokenTaken_parts s
  have hp : (takenOver s).pair = { (mortarTaken s).pair with
      watchFrom := some (mortarTaken s).time.tick, watchFault := false, rehearsing := false } := by
    simp [takenOver, takeControl]
  rw [hp, hpair, hpair', hpair'', htick, htick']
  exact ⟨rfl, rfl, rfl, rfl⟩

theorem takenOver_raises (s : State) : Raises (holdEnded s) (takenOver s) := by
  have h := (mortarTaken_raises s).trans (changeMode_raises (mortarTaken s) (takeoverMode s) causePair)
  exact (h.trans (takeControl_raises _ true)).trans (.of_intake (by simp [takenOver]))

/-- The mode of a takeover, by the active's (R66). -/
theorem takeoverMode_eq (s : State) : takeoverMode s = if modeOfCode s.mortar.activeMode = .hold then .run
    else if modeOfCode s.mortar.activeMode ≠ .change then modeOfCode s.mortar.activeMode
    else if s.exch.state = 4 ∧ s.exch.swapped = true then .change else s.md.beforeChange := by
  unfold takeoverMode
  cases modeOfCode s.mortar.activeMode <;> simp

/-- Settles O42: what is noted at the detection, and what the takeover makes of mode, role, pair and events. -/
theorem abdicationLeadsToTakeover : Obligations.AbdicationLeadsToTakeover := by
  unfold Obligations.AbdicationLeadsToTakeover
  refine ⟨fun s cause n h => ?_, fun s one n h hs hd hl => ?_, fun s one n h hr hm hd hl => ?_,
    fun s k h hs hd hk hm => ?_, fun s h => execTakeover_early h⟩
  · refine ⟨_, congrArg Host.Outcome.next (if_neg (by simp [h])), rfl, rfl, rfl⟩
  · obtain ⟨hmd, hev, hcrs, htick, hpair⟩ := abdicationSeen_keeps s one n
    refine ⟨_, execAbdicationDetected_seen h (follows_of_shadows hs) hd hl, ?_⟩
    have hsh : shadows (abdicationSeen s one n) = true := by simpa [shadows, hmd] using hs
    dsimp only
    rw [if_pos hsh, hmd, hev, hcrs, htick, hpair]
    exact ⟨rfl, rfl, rfl, rfl, rfl, rfl⟩
  · obtain ⟨hmd, hev, hcrs, htick, hpair⟩ := abdicationSeen_keeps s one n
    have hf : follows s = true := by simp [follows, hr, hm]
    refine ⟨_, execAbdicationDetected_seen h hf hd hl, ?_⟩
    have hsh : ¬ shadows (abdicationSeen s one n) = true := by simp [shadows, hmd, hm]
    dsimp only
    rw [if_neg hsh, hmd, hev, hpair]
    exact ⟨rfl, hd, rfl, rfl⟩
  · obtain ⟨hrole, htoken, hinj, hat, hmode⟩ := takenOver_md hm
    obtain ⟨hdet, habd, hwatch, hcount⟩ := takenOver_pair s
    have hrest := takenOver_raises s
    refine ⟨takenOver s, ?_, hrole, htoken, hinj, hat, hmode.trans (takeoverMode_eq s), hdet, habd, hwatch, hcount,
      fun hrun hhold h11 => ?_, ?_⟩
    · rw [execTakeover_due h hs hd hk, takeoverMode_mortarTaken, takenOver]
    · obtain ⟨e, he, h36⟩ := holdEnded_ev36 hrun (modeOfCode_hold hhold h11)
      exact ⟨e, (hrest.intake.drop _).subset he, h36⟩
    · have h39 : (toldTakeover s).ev = recorded s 0
          [(39, [Config.detectionPathCode s.pair.oneSample, w32 (s.pair.abdicate.getD 0)])] := raise_ev ..
      rw [← h39]
      exact ((holdEnded_raises s).trans hrest).intake

end Sys2Proof.Machine
end

section
/-! Power-on, the clears, and the measurement of the stages (R64, R90 to R96, R575). -/

namespace Sys2Proof.Machine

/-! ### Power-on -/

/-- Without sessions and region requests nothing ends. -/
theorem endSessions_idle {s : State} (hs : s.net.sess = []) (ht : s.tickets = []) (p : Nat → SessSt → Bool) :
    endSessions s p = s := by
  unfold endSessions
  rw [hs, ht]
  simp only [List.filter_nil, List.any_nil, Bool.not_false, List.filter_true, List.foldl_nil]
  rw [← hs, ← ht]

theorem wipeBank_idle {s : State} (hs : s.net.sess = []) (ht : s.tickets = []) (cause : Nat) :
    wipeBank s cause = { s with sec := { s.sec with loaded := false, lastWipe := cause } } := by
  unfold wipeBank
  rw [endSessions_idle (by exact hs) (by exact ht)]
  simp [ht]

/-- The module at the entry to KILN by power-on, before an intrusion of the time without power acts (R64, R577). -/
def poweredOn (s : State) (slot : Nat) (fa fb : Bool) : State :=
  let c := cleared (powerOff s)
  { c with
    md := { c.md with
      powered := true, slot := slot, role := if slot = 0 then .solo else .standby, fromPowerOn := true, lampTicks := 4000 }
    sup := { inRange := [fa, fb] } }

/-- Of the sealed state, the entry to KILN says only that the identity key is not loaded. -/
theorem poweredOn_atKilnEntry (s : State) (slot : Nat) (fa fb : Bool) {x : SecSt} (hx : x.loaded = false) :
    atKilnEntry { poweredOn s slot fa fb with sec := x } :=
  ⟨rfl, rfl, rfl, rfl, rfl, rfl, rfl, rfl, rfl, rfl, rfl, rfl, rfl, rfl, rfl, rfl, rfl, rfl, rfl, rfl, rfl, rfl, hx,
    rfl, rfl⟩

/-- An intrusion of the time without power erases the keys before K0 is measured (R539). -/
theorem intrude_poweredOn (s : State) (slot : Nat) (fa fb mesh : Bool) :
    ∃ x : SecSt, x.identity = [] ∧ x.signers = [] ∧ x.authorities = [] ∧ x.intruded = true ∧ x.loaded = false ∧
      intrude { poweredOn s slot fa fb with sec := { (poweredOn s slot fa fb).sec with unpowered := none } } mesh =
        { poweredOn s slot fa fb with sec := x } := by
  refine ⟨_, ?_, ?_, ?_, ?_, ?_, wipeBank_idle (by rfl) (by rfl) _⟩ <;> rfl

/-- EV242 of such an intrusion waits for the event controller (R87). -/
def noteIntrusion (s : State) (mesh : Bool) : State :=
  { s with sec := { s.sec with ev242Due := s.sec.ev242Due ++ [(mesh, false)] } }

theorem execPowerOn_poweredOn {s : State} {slot : Nat} {fa fb : Bool} (hp : s.md.powered = false)
    (hf : (fa || fb) = true) : (s.sec.unpowered = none → exec (.powerOn slot fa fb) s = .next (poweredOn s slot fa fb)) ∧
    (s.sec.unpowered ≠ none → ∃ x : SecSt, x.identity = [] ∧ x.signers = [] ∧ x.authorities = [] ∧
      x.intruded = true ∧ x.loaded = false ∧
      exec (.powerOn slot fa fb) s = .next { poweredOn s slot fa fb with sec := x }) := by
  have hpass : ¬ (s.md.powered || !(fa || fb)) = true := by simp [hp, hf]
  refine ⟨fun hu => ?_, fun hu => ?_⟩
  · show execPowerOn slot fa fb s = _
    unfold execPowerOn
    rw [if_neg hpass, hu]
    rfl
  · obtain ⟨mesh, hmesh⟩ := Option.ne_none_iff_exists'.mp hu
    obtain ⟨x, h1, h2, h3, h4, h5, hx⟩ := intrude_poweredOn s slot fa fb mesh
    refine ⟨{ x with ev242Due := x.ev242Due ++ [(mesh, false)] }, h1, h2, h3, h4, h5, ?_⟩
    show execPowerOn slot fa fb s = _
    unfold execPowerOn
    rw [if_neg hpass, hmesh]
    exact congrArg (fun c => Host.Outcome.next (noteIntrusion c mesh)) hx

/-! ### The stages -/

theorem measureStage_k (s : State) (i : Nat) (stage : Bytes) :
    (measureStage s i stage).kiln.k = measuredInto s.kiln.k i stage := by
  simp only [measureStage, measuredInto]

/-- The module once these stages, as stored, have been measured in order (R95). -/
def measuredStages (s : State) (is : List Nat) : State :=
  is.foldl (fun u i => measureStage u i (tget ({} : FwStage) u.kiln.fw i).code) s

theorem measuredStages_cons (s : State) (i : Nat) (is : List Nat) : measuredStages s (i :: is) =
    measuredStages (measureStage s i (tget ({} : FwStage) s.kiln.fw i).code) is := rfl

theorem stagesInto_cons (s : State) (i : Nat) (is : List Nat) (k : List Bytes) : stagesInto s (i :: is) k =
    stagesInto s is (measuredInto k i (tget ({} : FwStage) s.kiln.fw i).code) := rfl

theorem measuredStages_parts (is : List Nat) (s : State) : (measuredStages s is).kiln.k = stagesInto s is s.kiln.k ∧
    (measuredStages s is).kiln.dramDone = s.kiln.dramDone ∧ (measuredStages s is).kiln.sramDone = s.kiln.sramDone ∧
    (measuredStages s is).md = s.md ∧ (measuredStages s is).sec = s.sec := by
  induction is generalizing s with
  | nil => exact ⟨rfl, rfl, rfl, rfl, rfl⟩
  | cons i is ih =>
    obtain ⟨hk, hd, hs, hmd, hsec⟩ := ih (measureStage s i (tget ({} : FwStage) s.kiln.fw i).code)
    rw [measuredStages_cons, stagesInto_cons]
    refine ⟨hk.trans ?_, hd, hs, hmd, hsec⟩
    rw [measureStage_k]
    rfl

/-- Stages that all pass are measured, and the start goes on (R94). -/
theorem measureStages_pass {is : List Nat} {s : State} (h : ∀ i ∈ is, stagePasses s i = true) (js : List Nat) :
    measureStages (is ++ js) s = measureStages js (measuredStages s is) := by
  induction is generalizing s with
  | nil => rfl
  | cons i is ih =>
    obtain ⟨hi, his⟩ := List.forall_mem_cons.mp h
    rw [measuredStages_cons, ← ih (by exact his)]
    exact if_pos hi

/-- The first stage that fails is measured, and leads to HALT (R96). -/
theorem measureStages_fail {is : List Nat} {j : Nat} {s : State} (h : ∀ i ∈ is, stagePasses s i = true)
    (hj : stagePasses s j = false) (js : List Nat) :
    measureStages (is ++ j :: js) s = enterHalt (measuredStages s (is ++ [j])) causeStart := by
  have hfw : ∀ l : List Nat, ∀ u, (measuredStages u l).kiln.fw = u.kiln.fw := fun l => by
    induction l with
    | nil => exact fun u => rfl
    | cons i l ih => exact fun u => (ih _).trans rfl
  have hj' : ¬ (tget ({} : FwStage) (measuredStages s is).kiln.fw j).signed = true := by
    rw [hfw]; simpa [stagePasses] using hj
  have happ : measuredStages s (is ++ [j]) = measureStage (measuredStages s is) j
      (tget ({} : FwStage) (measuredStages s is).kiln.fw j).code := by
    rw [measuredStages, List.foldl_append]
    rfl
  rw [measureStages_pass h, happ]
  exact if_neg hj'

/-! ### HALT and LOAD -/

/-- The start's state beside the quotes that sessions wait for. -/
def quotesApart (k : KilnSt) : KilnSt := { k with quotes := [] }

theorem quotesApart_eq {k l : KilnSt} (h : quotesApart k = quotesApart l) : k = { l with quotes := k.quotes } := by
  cases k
  cases l
  simp_all [quotesApart]

theorem endSessions_quotesApart (s : State) (p : Nat → SessSt → Bool) :
    quotesApart (endSessions s p).kiln = quotesApart s.kiln := by
  unfold endSessions
  refine foldl_inv (P := fun v => quotesApart v.kiln = quotesApart s.kiln) _ _ _ rfl fun v b hv => ?_
  split
  · simpa using hv
  · exact hv

/-- HALT ends sessions, and with them their quotes: of the start nothing else is lost. -/
theorem enterHalt_kiln (s : State) (cause : Nat) :
    (enterHalt s cause).kiln = { s.kiln with quotes := (enterHalt s cause).kiln.quotes } := by
  refine quotesApart_eq ?_
  unfold enterHalt
  extract_lets ctl s1 s2 s3 s4 s5 s6
  have h1 : s1.kiln = s.kiln := by simp only [s1]; split <;> simp
  have h4 : s4.kiln = s3.kiln := by simp only [s4]; split <;> simp
  have h5 : s5.kiln = s.kiln := (show s5.kiln = s4.kiln from rfl).trans (h4.trans (by simp [s3, s2, h1]))
  have h6 : quotesApart s6.kiln = quotesApart s.kiln := by rw [← h5]; exact endSessions_quotesApart s5 _
  simpa using h6

@[simp] theorem setBank_k (s : State) (b : Nat) (x : BankSt) :
    (setBank s b x).kiln.k = s.kiln.k ∧ (setBank s b x).kiln.dramDone = s.kiln.dramDone := by
  unfold setBank
  split <;> exact ⟨rfl, rfl⟩

/-- The module enters LOAD from KILN: ticks and the event controller run, the kiln registers stay (R44, R87, R120). -/
theorem enterLoad_parts {s : State} (hm : s.md.mode = .kiln) : (enterLoad s).md.mode = .load ∧
    (enterLoad s).md.prevMode = .kiln ∧ (enterLoad s).md.ticking = true ∧ (enterLoad s).ev.running = true ∧
    (enterLoad s).kiln.k = s.kiln.k ∧ (enterLoad s).kiln.dramDone = s.kiln.dramDone := by
  refine ⟨by simp [enterLoad], by simp [enterLoad, changeMode_md, hm], by simp [enterLoad, changeMode_md, hm],
    ?_, by simp [enterLoad], by simp [enterLoad]⟩
  refine running_of_evCore (f := { s.ev with
    running := true, ready := s.kiln.keyPresent, rehearsed := s.ev.keyRehearsed
    startNo := if ∃ x ∈ s.ev.key, x.startNo = s.ev.startNo then s.ev.startNo + 1 else s.ev.startNo }) ?_
  simp [enterLoad]

theorem kilnLoader_pass {s : State} (hm : s.md.mode = .kiln) (h : ∀ i ∈ [2, 3, 4, 5, 6], stagePasses s i = true) :
    (kilnLoader s).kiln.k = stagesInto s [2, 3, 4, 5, 6] s.kiln.k ∧ (kilnLoader s).kiln.dramDone = s.kiln.dramDone ∧
    (s.sec.life = 3 → (kilnLoader s).md.mode = .sealed) ∧
    (s.sec.life ≠ 3 → (kilnLoader s).md.mode = .load ∧ (kilnLoader s).md.prevMode = .kiln ∧
      (kilnLoader s).ev.running = true ∧ (kilnLoader s).md.ticking = true) := by
  obtain ⟨hk, hd, -, hmd, hsec⟩ := measuredStages_parts [2, 3, 4, 5, 6] s
  have hstages : measureStages [2, 3, 4, 5, 6] s = measuredStages s [2, 3, 4, 5, 6] := measureStages_pass h []
  have hloader : kilnLoader s =
      let u := { measuredStages s [2, 3, 4, 5, 6] with
        ring := { (measuredStages s [2, 3, 4, 5, 6]).ring with forwarding := true } }
      if u.sec.life = 3 then changeMode u .sealed causeStart else enterLoad u := by
    unfold kilnLoader
    rw [hstages]
    exact if_neg (by simp [hmd, hm])
  rw [hloader]
  dsimp only
  rw [hsec]
  split
  next hl => exact ⟨by simpa using hk, by simpa using hd, by simp, fun h => absurd hl h⟩
  next hl =>
    obtain ⟨hmode, hprev, htick, hrun, hk', hd'⟩ := enterLoad_parts (s := { measuredStages s [2, 3, 4, 5, 6] with
      ring := { (measuredStages s [2, 3, 4, 5, 6]).ring with forwarding := true } }) (by simp [hmd, hm])
    exact ⟨hk'.trans hk, hd'.trans hd, fun h => absurd h hl, fun _ => ⟨hmode, hprev, hrun, htick⟩⟩

/-- Stages 2 to 6 up to the one that fails. -/
theorem stages_split : ∀ j ∈ [2, 3, 4, 5, 6],
    [2, 3, 4, 5, 6] = [2, 3, 4, 5, 6].take (j - 2) ++ j :: [2, 3, 4, 5, 6].drop (j - 1) ∧
    [2, 3, 4, 5, 6].take (j - 2) ++ [j] = [2, 3, 4, 5, 6].take (j - 1) ∧
    ∀ i ∈ [2, 3, 4, 5, 6].take (j - 2), i < j := by
  decide

theorem kilnLoader_fail {s : State} {j : Nat} (hj : j ∈ [2, 3, 4, 5, 6])
    (h : ∀ i ∈ [2, 3, 4, 5, 6], i < j → stagePasses s i = true) (hf : stagePasses s j = false) :
    kilnLoader s = enterHalt (measuredStages s ([2, 3, 4, 5, 6].take (j - 1))) causeStart := by
  obtain ⟨hall, htake, hlt⟩ := stages_split j hj
  have hpass : ∀ i ∈ [2, 3, 4, 5, 6].take (j - 2), stagePasses s i = true := fun i hi =>
    h i (List.mem_of_mem_take hi) (hlt i hi)
  have hstages : measureStages [2, 3, 4, 5, 6] s =
      enterHalt (measuredStages s ([2, 3, 4, 5, 6].take (j - 1))) causeStart := by
    rw [← htake]
    exact (congrArg (measureStages · s) hall).trans (measureStages_fail hpass hf _)
  unfold kilnLoader
  rw [hstages]
  obtain ⟨hmode, -⟩ := enterHalt_md (measuredStages s ([2, 3, 4, 5, 6].take (j - 1))) causeStart
  exact if_pos (by simp [hmode])

/-! ### The clears -/

/-- The SRAM clear has completed: the identity key is loaded and K0 is measured (R90, R94). -/
def romStarted (s : State) : State :=
  measureStage { s with
    kiln := { s.kiln with sramDone := true }, sec := { s.sec with loaded := !s.sec.identity.isEmpty } } 0
    (Config.k0Report s.sec.life s.sec.intruded s.md.fromPowerOn s.md.slot)

theorem execSramClearComplete_first {s : State} (hp : s.md.powered = true) (hm : s.md.mode = .kiln)
    (hs : s.kiln.sramDone = false) (hd : s.kiln.dramDone = false) (h : stagePasses s 1 = true) :
    exec .sramClearComplete s = .next (measuredStages (romStarted s) [1]) := by
  have hstage : measureStages [1] (romStarted s) = measuredStages (romStarted s) [1] :=
    measureStages_pass (is := [1]) (s := romStarted s) (List.forall_mem_singleton.mpr h) []
  have hlater : ¬ ((measuredStages (romStarted s) [1]).md.mode == .kiln &&
      (measuredStages (romStarted s) [1]).kiln.dramDone) = true := by
    obtain ⟨-, hdone, -⟩ := measuredStages_parts [1] (romStarted s)
    simp [hdone, show (romStarted s).kiln.dramDone = false from hd]
  show execSramClearComplete s = _
  unfold execSramClearComplete
  rw [if_neg (by simp [hp, hm, hs])]
  show Host.Outcome.next (if ((measureStages [1] (romStarted s)).md.mode == .kiln &&
    (measureStages [1] (romStarted s)).kiln.dramDone) = true then _ else measureStages [1] (romStarted s)) = _
  rw [hstage]
  exact congrArg Host.Outcome.next (if_neg hlater)

theorem execDramClearComplete_second {s : State} (hp : s.md.powered = true) (hm : s.md.mode = .kiln)
    (hs : s.kiln.sramDone = true) (hd : s.kiln.dramDone = false) :
    exec .dramClearComplete s = .next (kilnLoader { s with kiln := { s.kiln with dramDone := true } }) := by
  show execDramClearComplete s = _
  unfold execDramClearComplete
  rw [if_neg (by simp [hp, hm, hd])]
  exact congrArg Host.Outcome.next (if_pos hs)

/-- Settles O15: power-on, and the stages that each clear measures, up to the first that fails. -/
theorem startMeasuresEveryStage : Obligations.StartMeasuresEveryStage := by
  unfold Obligations.StartMeasuresEveryStage
  refine ⟨fun s slot fa fb hp hf => ?_, fun s hp hm hs hd h => ?_, fun s hp hm hs hd h => ?_,
    fun s j hp hm hs hd hj h hf => ?_, fun s hp hm hd => ?_⟩
  · obtain ⟨hnone, hsome⟩ := execPowerOn_poweredOn (slot := slot) hp hf
    by_cases hu : s.sec.unpowered = none
    · exact ⟨_, hnone hu, poweredOn_atKilnEntry s slot fa fb (x := (poweredOn s slot fa fb).sec) rfl, rfl, rfl,
        rfl, rfl, rfl, fun _ => ⟨rfl, rfl, rfl⟩, fun h => absurd hu h⟩
    · obtain ⟨x, hid, hsign, hauth, hintr, hload, he⟩ := hsome hu
      exact ⟨_, he, poweredOn_atKilnEntry s slot fa fb hload, rfl, rfl, rfl, rfl, rfl, fun h => absurd h hu,
        fun _ => ⟨hid, hsign, hauth, hintr⟩⟩
  · obtain ⟨hk, -, hdone, hmd, hsec⟩ := measuredStages_parts [1] (romStarted s)
    refine ⟨_, execSramClearComplete_first hp hm hs hd h, hmd, hdone, by rw [hsec]; rfl, hk.trans ?_⟩
    rw [romStarted, measureStage_k]
    rfl
  · obtain ⟨hk, hd', hseal, hload⟩ := kilnLoader_pass (s := { s with kiln := { s.kiln with dramDone := true } }) hm h
    exact ⟨_, execDramClearComplete_second hp hm hs hd, hd', hk, hseal, hload⟩
  · obtain ⟨hk, -⟩ := measuredStages_parts ([2, 3, 4, 5, 6].take (j - 1))
      { s with kiln := { s.kiln with dramDone := true } }
    refine ⟨_, (execDramClearComplete_second hp hm hs hd).trans (congrArg Host.Outcome.next (kilnLoader_fail hj h hf)),
      (enterHalt_md ..).1, ?_⟩
    rw [enterHalt_kiln]
    exact hk
  · refine ⟨_, congrArg Host.Outcome.next (if_pos (by simp [hp, hm, hd])), (enterHalt_md ..).1, enterHalt_kiln ..⟩

end Sys2Proof.Machine
end

section
/-! The start again after a supply loss, and the choice of the image (R93, R104, R110, R111). -/

namespace Sys2Proof.Machine

/-! ### The start again -/

theorem startAgain_atKilnEntry (s : State) : atKilnEntry (startAgain s) :=
  ⟨rfl, rfl, rfl, rfl, rfl, rfl, rfl, rfl, rfl, rfl, rfl, rfl, rfl, rfl, rfl, rfl, rfl, rfl, rfl, rfl, rfl, rfl, rfl,
    rfl, rfl⟩

theorem execStartSupplyLoss_starting {s : State} (hp : s.md.powered = true)
    (hm : s.md.mode = .kiln ∨ s.md.mode = .load) : exec .startSupplyLoss s = .next (startAgain s) :=
  congrArg Host.Outcome.next (if_pos (by simpa [hp] using hm))

theorem execSupplyMonitorFault_starting {s : State} (n : Nat) (hp : s.md.powered = true)
    (hm : s.md.mode = .kiln ∨ s.md.mode = .load) (hf : noFeed s = true) :
    exec (.supplyMonitorFault n) s = .next (startAgain s) :=
  congrArg Host.Outcome.next ((if_neg (by simp [hp])).trans (if_pos (by simpa [hf] using hm)))

/-- Settles O16: both commands start again, and what `startAgain` leaves is the entry to KILN with the stores kept. -/
theorem supplyLossDuringStartBeginsAgain : Obligations.SupplyLossDuringStartBeginsAgain := by
  unfold Obligations.SupplyLossDuringStartBeginsAgain
  refine ⟨fun s hp hm => ?_, fun s n hp hm hf => ?_⟩
  · exact ⟨_, execStartSupplyLoss_starting hp hm, startAgain_atKilnEntry s, hp, rfl, rfl⟩
  · exact ⟨_, execSupplyMonitorFault_starting n hp hm hf, execStartSupplyLoss_starting hp hm⟩

/-! ### Events of one instant -/

/-- `t` stands at a phase of the tick of `s`, and has handed in these events behind those of `s` (R50, R566). -/
structure Noted (s : State) (n : Nat) (evs : List (Nat × List W32)) (t : State) : Prop where
  ev : t.ev = recorded s n evs
  time : t.time = { s.time with phase := n }

theorem Noted.start (s : State) (n : Nat) : Noted s n [] (setPhase s n) := ⟨(recorded_nil s n).symm, rfl⟩

theorem Noted.keep {s t u : State} {n : Nat} {evs : List (Nat × List W32)} (h : Noted s n evs t) (he : u.ev = t.ev)
    (ht : u.time = t.time) : Noted s n evs u := ⟨he.trans h.ev, ht.trans h.time⟩

theorem Noted.withKiln {s t : State} {n : Nat} {evs : List (Nat × List W32)} (h : Noted s n evs t) (k : KilnSt) :
    Noted s n evs { t with kiln := k } := h.keep rfl rfl

theorem Noted.raise {s t : State} {n : Nat} {evs : List (Nat × List W32)} (h : Noted s n evs t) (ev : Nat)
    (arg : List W32) : Noted s n (evs ++ [(ev, arg)]) (raise t ev arg) := by
  refine ⟨?_, by simpa using h.time⟩
  rw [raise_ev, show t.time.phase = n by rw [h.time]]
  exact recorded_append h.ev h.time _

theorem Noted.raiseSkipped {s t : State} {n : Nat} {evs : List (Nat × List W32)} (h : Noted s n evs t)
    (ts : List Nat) : Noted s n (evs ++ ts.map fun ty => (19, [w32 ty])) (raiseSkipped t ts) := by
  unfold Machine.raiseSkipped
  induction ts generalizing t evs with
  | nil => simpa using h
  | cons ty ts ih => simpa using ih (h.raise 19 [w32 ty])

/-! ### Banks -/

@[simp] theorem bank_setBank_self (s : State) (b : Nat) (x : BankSt) : bank (setBank s b x) b = x := by
  unfold bank setBank
  split <;> rfl

@[simp] theorem setBank_rest (s : State) (b : Nat) (x : BankSt) : (setBank s b x).ev = s.ev ∧
    (setBank s b x).kiln.trying = s.kiln.trying ∧ (setBank s b x).kiln.other = s.kiln.other ∧
    (setBank s b x).kiln.firstFailed = s.kiln.firstFailed ∧ (setBank s b x).kiln.selected = s.kiln.selected ∧
    (setBank s b x).kiln.keyPresent = s.kiln.keyPresent ∧ (setBank s b x).kiln.image = s.kiln.image ∧
    (setBank s b x).kiln.imageBank = s.kiln.imageBank ∧ (setBank s b x).kiln.follow = s.kiln.follow := by
  unfold setBank
  split <;> simp

theorem bank_of_banks {s t : State} (hA : t.kiln.bankA = s.kiln.bankA) (hB : t.kiln.bankB = s.kiln.bankB) (b : Nat) :
    bank t b = bank s b := by simp only [bank, hA, hB]

theorem bank_of_kiln {s t : State} (h : t.kiln = s.kiln) (b : Nat) : bank t b = bank s b :=
  bank_of_banks (by rw [h]) (by rw [h]) b

theorem headerCheck_of_sec {s t : State} (h : t.sec = s.sec) (x : Bytes) : headerCheck t x = headerCheck s x := by
  have hsig : signatureOk t x = signatureOk s x := by simp only [signatureOk, signersIn, h]
  unfold headerCheck
  rw [hsig]

/-- FAIL_REASON 11 says that a header has passed: no check of R110 gives it. -/
theorem headerCheck_ne (s : State) (x : Bytes) : headerCheck s x ≠ 11 := by
  unfold headerCheck
  (repeat' split) <;> decide

/-- Status of a bank whose header has been read (R110). -/
def readBank (s : State) (b : Nat) : BankSt :=
  { bank s b with valid := false, failReason := if headerReason s b = 0 then 11 else headerReason s b }

theorem bank_readHeaders {b : Nat} (s : State) (h : b < 2) : bank (readHeaders s) b = readBank s b := by
  interval_cases b <;> rfl

theorem readBank_reason (s : State) (b : Nat) : (readBank s b).failReason = 11 ↔ headerReason s b = 0 := by
  have h : headerReason s b ≠ 11 := headerCheck_ne s _
  by_cases h0 : headerReason s b = 0 <;> simp [readBank, h0, h]

/-! ### The headers are read (R111) -/

/-- The state once both headers have been read, before the events of banks that fail there. -/
def headersIn (s : State) (n : Nat) : State :=
  { readHeaders (setPhase s n) with kiln := { (readHeaders (setPhase s n)).kiln with headersRead := true } }

/-- EV003 of a bank that fails at its header and is not erased (R111). -/
def tellHeader (s : State) (b : Nat) : State :=
  if (bank s b).failReason = 9 then s else raise s 3 [w32 b, w32 (bank s b).failReason]

/-- The state behind the events of the headers. -/
def headersTold (s : State) (n : Nat) : State :=
  ((List.range 2).filter fun b => (bank (headersIn s n) b).failReason != 11).foldl tellHeader (headersIn s n)

/-- The bank to be tried among those whose headers have passed: the one with the higher SEQUENCE, A of equals (R111). -/
def chooseBank (s : State) : State :=
  match (List.range 2).filter fun b => (bank s b).failReason == 11 with
  | [] => raise s 1 []
  | [b] => { s with kiln := { s.kiln with trying := some b, other := none } }
  | _ =>
    let first := if bankSeqNo s 0 < bankSeqNo s 1 then 1 else 0
    { s with kiln := { s.kiln with trying := some first, other := some (1 - first) } }

theorem execBankHeadersRead_keyed {s : State} (n : Nat) (hm : s.md.mode = .load) (hr : s.kiln.headersRead = false)
    (hk : s.kiln.keyPresent = true) : exec (.bankHeadersRead n) s = .next (chooseBank (headersTold s n)) :=
  congrArg Host.Outcome.next ((if_neg (by simp [hm, hr])).trans (if_neg (by simp [hk])))

theorem execBankHeadersRead_keyless {s : State} (n : Nat) (hm : s.md.mode = .load) (hr : s.kiln.headersRead = false)
    (hk : s.kiln.keyPresent = false) : exec (.bankHeadersRead n) s =
      .next (raise { setPhase s n with kiln := { s.kiln with headersRead := true } } 1) :=
  congrArg Host.Outcome.next ((if_neg (by simp [hm, hr])).trans (if_pos (by simp [hk])))

theorem bank_headersIn {s : State} {b : Nat} (n : Nat) (h : b < 2) : bank (headersIn s n) b = readBank s b :=
  bank_readHeaders (setPhase s n) h

theorem tellHeader_keeps (s : State) (b : Nat) : (tellHeader s b).kiln = s.kiln ∧ (tellHeader s b).md = s.md := by
  simp [tellHeader]

theorem headersTold_keeps (s : State) (n : Nat) :
    (headersTold s n).kiln = (headersIn s n).kiln ∧ (headersTold s n).md = s.md :=
  ⟨foldl_kiln _ _ _ fun u b => (tellHeader_keeps u b).1,
    (foldl_md _ _ _ fun u b => (tellHeader_keeps u b).2).trans (by simp [headersIn])⟩

theorem bank_headersTold {s : State} {b : Nat} (n : Nat) (h : b < 2) : bank (headersTold s n) b = readBank s b :=
  (bank_of_kiln (headersTold_keeps s n).1 b).trans (bank_headersIn n h)

theorem Noted.tellHeaders {s t : State} {n : Nat} {evs : List (Nat × List W32)} (h : Noted s n evs t) (l : List Nat) :
    Noted s n (evs ++ (l.filter fun b => (bank t b).failReason != 9).map fun b =>
      (3, [w32 b, w32 (bank t b).failReason])) (l.foldl tellHeader t) := by
  induction l generalizing t evs with
  | nil => simpa using h
  | cons b l ih =>
    have hb : ∀ j, bank (tellHeader t b) j = bank t j := bank_of_kiln (tellHeader_keeps t b).1
    by_cases h9 : (bank t b).failReason = 9
    · simpa [tellHeader, h9] using ih h
    · have hk : Noted s n (evs ++ [(3, [w32 b, w32 (bank t b).failReason])]) (tellHeader t b) := by
        simpa [tellHeader, h9] using h.raise 3 [w32 b, w32 (bank t b).failReason]
      simpa [hb, h9] using ih hk

/-- Of the banks whose headers have failed, those that are not erased raise EV003 (R111). -/
theorem headerEvents_eq (s : State) (n : Nat) : headerEvents s =
    (((List.range 2).filter fun b => (bank (headersIn s n) b).failReason != 11).filter fun b =>
      (bank (headersIn s n) b).failReason != 9).map fun b => (3, [w32 b, w32 (bank (headersIn s n) b).failReason]) := by
  have hl : ((List.range 2).filter fun b => (bank (headersIn s n) b).failReason != 9 &&
      (bank (headersIn s n) b).failReason != 11) =
      (List.range 2).filter fun b => headerReason s b != 0 && headerReason s b != 9 := by
    refine List.filter_congr fun b hb => ?_
    have h11 : (headerReason s b == 11) = false := beq_eq_false_iff_ne.mpr (headerCheck_ne s _)
    rw [bank_headersIn n (List.mem_range.mp hb)]
    by_cases h0 : headerReason s b = 0 <;> simp [readBank, bne, h0, h11]
  rw [List.filter_filter, hl]
  refine List.map_congr_left fun b hb => ?_
  obtain ⟨hb, hr⟩ := List.mem_filter.mp hb
  rw [bank_headersIn n (List.mem_range.mp hb)]
  simp_all [readBank]

theorem headersTold_noted (s : State) (n : Nat) : Noted s n (headerEvents s) (headersTold s n) := by
  have h : Noted s n [] (headersIn s n) := (Noted.start s n).keep rfl rfl
  rw [headerEvents_eq s n]
  exact h.tellHeaders _

/-! ### The bank that is tried (R111) -/

theorem chooseBank_keeps (s : State) : (chooseBank s).md = s.md ∧ (chooseBank s).kiln.bankA = s.kiln.bankA ∧
    (chooseBank s).kiln.bankB = s.kiln.bankB ∧ (chooseBank s).kiln.headersRead = s.kiln.headersRead := by
  unfold chooseBank
  split <;> simp

theorem chooseBank_both {s : State} (h0 : (bank s 0).failReason = 11) (h1 : (bank s 1).failReason = 11) :
    chooseBank s = { s with kiln := { s.kiln with
      trying := some (if bankSeqNo s 0 < bankSeqNo s 1 then 1 else 0)
      other := some (1 - if bankSeqNo s 0 < bankSeqNo s 1 then 1 else 0) } } := by
  simp [chooseBank, List.range_succ, h0, h1]

theorem chooseBank_first {s : State} (h0 : (bank s 0).failReason = 11) (h1 : (bank s 1).failReason ≠ 11) :
    chooseBank s = { s with kiln := { s.kiln with trying := some 0, other := none } } := by
  simp [chooseBank, List.range_succ, h0, h1]

theorem chooseBank_second {s : State} (h0 : (bank s 0).failReason ≠ 11) (h1 : (bank s 1).failReason = 11) :
    chooseBank s = { s with kiln := { s.kiln with trying := some 1, other := none } } := by
  simp [chooseBank, List.range_succ, h0, h1]

theorem chooseBank_none {s : State} (h0 : (bank s 0).failReason ≠ 11) (h1 : (bank s 1).failReason ≠ 11) :
    chooseBank s = raise s 1 [] := by
  simp [chooseBank, List.range_succ, h0, h1]

/-! ### The full check (R110, R111) -/

/-- The tried bank with the result of its full check. -/
def checkedBank (s : State) (b n : Nat) : State :=
  bankStatus (raiseSkipped (setPhase s n) (fullCheck s (bank s b).bytes).skipped) b
    (fullCheck s (bank s b).bytes).reason

/-- The bank that has passed runs, as a fall-back after a failed first one. -/
def bankPassed (s : State) (b : Nat) : State :=
  setBank s b { bank s b with running := true, fallback := s.kiln.firstFailed }

/-- A bank that has passed is selected, with EV002 as a fall-back (R111). -/
def selectBank (s : State) (b : Nat) (img : Image) : State :=
  let u := { bankPassed s b with kiln := { (bankPassed s b).kiln with
    trying := none, other := none, selected := some (b, img) } }
  if s.kiln.firstFailed then raise u 2 [] else u

/-- EV003 of the first bank that fails its full check (R111). -/
def bankFailed (s : State) (b reason : Nat) : State :=
  if s.kiln.firstFailed then s else raise s 3 [w32 b, w32 reason]

/-- The other bank is tried; EV001 when none is left (R111). -/
def otherBank (s : State) : State :=
  let u := { s with kiln := { s.kiln with trying := s.kiln.other, other := none, firstFailed := s.kiln.other.isSome } }
  if s.kiln.other.isSome then u else raise u 1 []

theorem execBankFullCheckComplete_passed {s : State} {b : Nat} {img : Image} (n : Nat) (hm : s.md.mode = .load)
    (hk : s.kiln.keyPresent = true) (ht : s.kiln.trying = some b)
    (hi : (fullCheck s (bank s b).bytes).image = some img) :
    exec (.bankFullCheckComplete n) s = .next (selectBank (checkedBank s b n) b img) := by
  have hi' : (fullCheck (setPhase s n) (bank (setPhase s n) b).bytes).image = some img := hi
  show execBankFullCheckComplete n s = _
  unfold execBankFullCheckComplete
  simp only [ht]
  rw [if_neg (by simp [hm, hk])]
  simp only [hi']
  rfl

theorem execBankFullCheckComplete_failed {s : State} {b : Nat} (n : Nat) (hm : s.md.mode = .load)
    (hk : s.kiln.keyPresent = true) (ht : s.kiln.trying = some b)
    (hi : (fullCheck s (bank s b).bytes).image = none) : exec (.bankFullCheckComplete n) s =
      .next (otherBank (bankFailed (checkedBank s b n) b (fullCheck s (bank s b).bytes).reason)) := by
  have hi' : (fullCheck (setPhase s n) (bank (setPhase s n) b).bytes).image = none := hi
  show execBankFullCheckComplete n s = _
  unfold execBankFullCheckComplete
  simp only [ht]
  rw [if_neg (by simp [hm, hk])]
  simp only [hi']
  rfl

theorem checkedBank_keeps (s : State) (b n : Nat) : (checkedBank s b n).md = s.md ∧
    (bank (checkedBank s b n) b).failReason = (fullCheck s (bank s b).bytes).reason ∧
    (checkedBank s b n).kiln.other = s.kiln.other ∧ (checkedBank s b n).kiln.firstFailed = s.kiln.firstFailed ∧
    (checkedBank s b n).kiln.selected = s.kiln.selected := by
  simp [checkedBank, bankStatus]

theorem checkedBank_noted (s : State) (b n : Nat) :
    Noted s n ((fullCheck s (bank s b).bytes).skipped.map fun ty => (19, [w32 ty])) (checkedBank s b n) := by
  have h := (Noted.start s n).raiseSkipped (fullCheck s (bank s b).bytes).skipped
  exact h.keep (by simp [checkedBank, bankStatus]) (by simp [checkedBank, bankStatus])

theorem selectBank_parts (s : State) (b : Nat) (img : Image) : (selectBank s b img).md = s.md ∧
    (selectBank s b img).kiln =
      { (bankPassed s b).kiln with trying := none, other := none, selected := some (b, img) } ∧
    bank (selectBank s b img) b = { bank s b with running := true, fallback := s.kiln.firstFailed } := by
  have hk : (selectBank s b img).kiln =
      { (bankPassed s b).kiln with trying := none, other := none, selected := some (b, img) } := by simp [selectBank]
  refine ⟨by simp [selectBank, bankPassed], hk, ?_⟩
  rw [bank_of_banks (s := bankPassed s b) (by rw [hk]) (by rw [hk]), bankPassed, bank_setBank_self]

theorem Noted.selectBank {s t : State} {n : Nat} {evs : List (Nat × List W32)} (h : Noted s n evs t) (b : Nat)
    (img : Image) : Noted s n (evs ++ if t.kiln.firstFailed then [(2, [])] else []) (selectBank t b img) := by
  have hu : Noted s n evs (bankPassed t b) := h.keep (setBank_rest ..).1 (setBank_time ..)
  unfold Machine.selectBank
  dsimp only
  split
  · exact (hu.withKiln _).raise 2 []
  · rw [List.append_nil]
    exact hu.withKiln _

theorem bankFailed_keeps (s : State) (b reason : Nat) :
    (bankFailed s b reason).md = s.md ∧ (bankFailed s b reason).kiln = s.kiln := by
  simp [bankFailed]

theorem Noted.bankFailed {s t : State} {n : Nat} {evs : List (Nat × List W32)} (h : Noted s n evs t) (b reason : Nat) :
    Noted s n (evs ++ if t.kiln.firstFailed then [] else [(3, [w32 b, w32 reason])]) (bankFailed t b reason) := by
  unfold Machine.bankFailed
  split
  · simpa using h
  · exact h.raise 3 _

theorem otherBank_parts (s : State) : (otherBank s).md = s.md ∧ (otherBank s).kiln =
    { s.kiln with trying := s.kiln.other, other := none, firstFailed := s.kiln.other.isSome } := by
  simp [otherBank]

theorem Noted.otherBank {s t : State} {n : Nat} {evs : List (Nat × List W32)} (h : Noted s n evs t) :
    Noted s n (evs ++ if t.kiln.other = none then [(1, [])] else []) (otherBank t) := by
  unfold Machine.otherBank
  dsimp only
  cases t.kiln.other with
  | none => exact (h.withKiln _).raise 1 []
  | some o =>
    rw [if_neg (by simp), List.append_nil]
    exact h.withKiln _

/-- Settles O17: the headers decide the order, and the full check selects or goes on to the other bank. -/
theorem imageIsChosenBySequence : Obligations.ImageIsChosenBySequence := by
  unfold Obligations.ImageIsChosenBySequence
  refine ⟨fun s n hm hr hk => ?_, fun s n hm hr hk => ?_, fun s b n hm hk ht => ?_⟩
  · obtain ⟨hkiln, hmd⟩ := headersTold_keeps s n
    obtain ⟨hmd', hA, hB, hread⟩ := chooseBank_keeps (headersTold s n)
    have hbank : ∀ b, b < 2 → bank (chooseBank (headersTold s n)) b = readBank s b := fun b hb => by
      rw [← bank_headersTold n hb, bank, bank, hA, hB]
    have hreason : ∀ b, b < 2 → ((bank (headersTold s n) b).failReason = 11 ↔ headerReason s b = 0) :=
      fun b hb => by rw [bank_headersTold n hb, readBank_reason]
    have hseq : ∀ b, b < 2 → bankSeqNo (headersTold s n) b = bankSeqNo s b := fun b hb => by
      rw [bankSeqNo, bank_headersTold n hb]; rfl
    have h0 := hreason 0 (by decide)
    have h1 := hreason 1 (by decide)
    have hev := headersTold_noted s n
    refine ⟨_, execBankHeadersRead_keyed n hm hr hk, hread.trans (by rw [hkiln]; rfl), hmd'.trans hmd, hbank,
      fun z0 z1 => ?_, fun z0 z1 => ?_, fun z0 z1 => ?_, ?_⟩
    · rw [chooseBank_both (h0.mpr z0) (h1.mpr z1), hseq 0 (by decide), hseq 1 (by decide)]
      split <;> exact ⟨rfl, rfl⟩
    · rw [chooseBank_first (h0.mpr z0) (mt h1.mp z1)]
      exact ⟨rfl, rfl⟩
    · rw [chooseBank_second (mt h0.mp z0) (h1.mpr z1)]
      exact ⟨rfl, rfl⟩
    · by_cases z0 : headerReason s 0 = 0 <;> by_cases z1 : headerReason s 1 = 0
      · rw [chooseBank_both (h0.mpr z0) (h1.mpr z1)]; simpa [z0] using hev.ev
      · rw [chooseBank_first (h0.mpr z0) (mt h1.mp z1)]; simpa [z0] using hev.ev
      · rw [chooseBank_second (mt h0.mp z0) (h1.mpr z1)]; simpa [z1] using hev.ev
      · rw [chooseBank_none (mt h0.mp z0) (mt h1.mp z1), if_pos ⟨z0, z1⟩]
        exact (hev.raise 1 []).ev
  · exact ⟨_, execBankHeadersRead_keyless n hm hr hk, by simp, by simp,
      (((Noted.start s n).withKiln _).raise 1 []).ev⟩
  · obtain ⟨hmd, hfr, hother, hff, hsel⟩ := checkedBank_keeps s b n
    have hev := checkedBank_noted s b n
    cases hi : (fullCheck s (bank s b).bytes).image with
    | some img =>
      obtain ⟨hmd', hk', hb⟩ := selectBank_parts (checkedBank s b n) b img
      refine ⟨_, execBankFullCheckComplete_passed n hm hk ht hi, hmd'.trans hmd, by rw [hk'], by rw [hb]; exact hfr,
        ?_, nofun⟩
      rintro _ ⟨⟩
      exact ⟨by rw [hk'], by rw [hk'], by rw [hb], by rw [hb, ← hff],
        by rw [← hff]; exact (hev.selectBank b img).ev⟩
    | none =>
      obtain ⟨hmd1, hk1⟩ := bankFailed_keeps (checkedBank s b n) b (fullCheck s (bank s b).bytes).reason
      obtain ⟨hmd2, hk2⟩ := otherBank_parts (bankFailed (checkedBank s b n) b (fullCheck s (bank s b).bytes).reason)
      have hev' := (hev.bankFailed b (fullCheck s (bank s b).bytes).reason).otherBank
      rw [hk1] at hk2
      rw [hk1, hff, hother] at hev'
      refine ⟨_, execBankFullCheckComplete_failed n hm hk ht hi, hmd2.trans (hmd1.trans hmd), by rw [hk2], ?_,
        nofun, fun _ => ⟨?_, ?_, ?_, hev'.ev⟩⟩
      · rw [bank_of_banks (s := checkedBank s b n) (by rw [hk2]) (by rw [hk2]), hfr]
      · rw [hk2, ← hsel]
      · rw [hk2, ← hother]
      · rw [hk2, ← hother]

end Sys2Proof.Machine
end

section
/-! An image is measured into K7 and applied (R97, R112, R120, R492). -/

namespace Sys2Proof.Machine

/-! ### Sparse tables filled by a fold -/

theorem mem_tset {α : Type} {t : Tab α} {k : Nat} {v : α} {e : Nat × α} (h : e ∈ tset t k v) :
    e ∈ t ∨ e = (k, v) := by
  induction t with
  | nil => exact .inr (List.mem_singleton.mp h)
  | cons a t ih => grind [tset]

theorem mem_foldl_tset {α β : Type} {l : List β} {key : β → Nat} {val : β → α} {t : Tab α} {e : Nat × α}
    (h : e ∈ l.foldl (fun t b => tset t (key b) (val b)) t) : e ∈ t ∨ ∃ b ∈ l, e = (key b, val b) := by
  induction l generalizing t with
  | nil => exact .inl h
  | cons b l ih =>
    obtain h | ⟨c, hc, he⟩ := ih h
    · obtain h | h := mem_tset h
      · exact .inl h
      · exact .inr ⟨b, List.mem_cons_self, h⟩
    · exact .inr ⟨c, List.mem_cons_of_mem _ hc, he⟩

/-- A table in which every entry is the default reads as the empty one. -/
theorem tget_of_default {α : Type} {d : α} {t : Tab α} (h : ∀ e ∈ t, e.2 = d) (k : Nat) : tget d t k = d := by
  induction t with
  | nil => rfl
  | cons a t ih =>
    obtain ⟨ha, ht⟩ := List.forall_mem_cons.mp h
    unfold tget
    split
    · exact ha
    · exact ih ht

/-! ### What LOAD leaves of an earlier program -/

/-- The start's state once an image is measured and runs, before the blocks take their configuration. -/
def imageMeasured (s : State) (b : Nat) (img : Image) : State :=
  { s with kiln := { s.kiln with
    k := headerInto s.kiln.k img.header, image := some img, imageBank := b, oldImage := none, selected := none
    applied := true, differs := false } }

/-- The blocks that hold programs, with the configuration of the image (R112, Table 03.11). -/
def programApplied (s : State) (b : Nat) (img : Image) : State := applyLoops (applyCourses (imageMeasured s b img))

theorem applyImage_eq (s : State) (b : Nat) (img : Image) :
    applyImage s b img = settle (applyIo (applySafety (applySolver (programApplied s b img)))) := rfl

theorem applyImage_program (s : State) (b : Nat) (img : Image) : (applyImage s b img).md = s.md ∧
    (applyImage s b img).kiln = (imageMeasured s b img).kiln ∧
    (applyImage s b img).set = (programApplied s b img).set ∧
    (applyImage s b img).exch = (programApplied s b img).exch ∧
    (applyImage s b img).crs = (programApplied s b img).crs ∧
    loopsCore (applyImage s b img).loops = loopsCore (programApplied s b img).loops := by
  rw [applyImage_eq]
  simp [programApplied, applyLoops, applyCourses, imageMeasured]

theorem programApplied_course (s : State) (b : Nat) (img : Image) (c : Nat) :
    course (programApplied s b img) c = {} := by
  refine tget_of_default (d := ({} : CourseSt)) ?_ c
  refine List.foldlRecOn (motive := fun t : Tab CourseSt => ∀ e ∈ t, e.2 = {}) _ _ (by simp) fun t ht k _ e he => ?_
  split at he
  · obtain he | rfl := mem_tset he
    · exact ht e he
    · rfl
  · exact ht e he

theorem programApplied_loop {s : State} {b : Nat} {img : Image} {e : Nat × LoopSt2}
    (he : e ∈ (programApplied s b img).loops.m) : ∃ d ∈ loopDefs img, d.1 = e.1 ∧ e.2.params = d.2.params := by
  obtain h | ⟨d, hd, rfl⟩ := mem_foldl_tset (key := fun d : Nat × LoopDef => d.1)
    (val := fun d => ({ params := d.2.params } : LoopSt2)) he
  · cases h
  · exact ⟨d, hd, rfl, rfl⟩

theorem m_of_loopsCore {l k : LoopsSt} (h : loopsCore l = loopsCore k) : l.m = k.m :=
  (congrArg LoopsSt.m h : (loopsCore l).m = (loopsCore k).m)

theorem execImageApplied_selected {s : State} {b : Nat} {img : Image} (n : Nat) (hm : s.md.mode = .load)
    (hs : s.kiln.selected = some (b, img)) : exec (.imageApplied n) s = .next (applyImage (setPhase s n) b img) := by
  show execImageApplied n s = _
  unfold execImageApplied
  simp only [hs]
  exact congrArg Host.Outcome.next (if_pos (by simp [hm]))

/-- Settles O18: applying replaces what the program blocks hold, and the end of the wait sets its note alone. -/
theorem imageIsMeasuredAndApplied : Obligations.ImageIsMeasuredAndApplied := by
  unfold Obligations.ImageIsMeasuredAndApplied
  refine ⟨fun s b n img hm hs => ?_, fun s n hm hw => ?_⟩
  · obtain ⟨hmd, hkiln, hset, hexch, hcrs, hloops⟩ := applyImage_program (setPhase s n) b img
    refine ⟨_, execImageApplied_selected n hm hs, hmd, hkiln, hset, hexch, by rw [hcrs]; rfl, by rw [hcrs]; rfl,
      by rw [hcrs]; rfl, fun c => ?_, fun e he => ?_⟩
    · rw [course, hcrs]
      exact programApplied_course _ b img c
    · rw [m_of_loopsCore hloops] at he
      exact programApplied_loop he
  · exact ⟨_, congrArg Host.Outcome.next (if_pos (by simpa [hm] using hw)), rfl⟩

end Sys2Proof.Machine
end

section
/-! The Image Key's removal and insertion, and the background re-measurement (R98, R104, R197, R570). -/

namespace Sys2Proof.Machine

/-! ### The end of region requests -/

/-- A region request once it has ended (Table 05.9). -/
def endedTicket (x : TicketSt) (status reason : Nat) : TicketSt :=
  { x with status := status, reason := reason, origin := none, data := [] }

theorem ticketEnd_tickets (s : State) (k status reason : Nat) :
    (ticketEnd s k status reason).tickets = tset s.tickets k (endedTicket (ticket s k) status reason) := by
  simp [ticketEnd, setTicket, endedTicket]

theorem ticket_ticketEnd_self (s : State) (k status reason : Nat) :
    ticket (ticketEnd s k status reason) k = endedTicket (ticket s k) status reason := by
  rw [ticket, ticketEnd_tickets, tget_tset_self]

theorem ticket_ticketEnd_ne (s : State) {k j : Nat} (status reason : Nat) (h : j ≠ k) :
    ticket (ticketEnd s k status reason) j = ticket s j := by
  rw [ticket, ticketEnd_tickets, tget_tset_ne _ _ _ _ _ h, ticket]

theorem ticketEnd_cases (s : State) (k j status reason : Nat) :
    ticket (ticketEnd s k status reason) j = endedTicket (ticket s j) status reason ∨
      ticket (ticketEnd s k status reason) j = ticket s j := by
  by_cases h : j = k
  · exact .inl (h ▸ ticket_ticketEnd_self ..)
  · exact .inr (ticket_ticketEnd_ne _ _ _ h)

/-! ### Removal (R104, R572) -/

/-- The write of an image in progress fails with a REASON (R104). -/
def failWrite (reason : Nat) (s : State) (e : Nat × TicketSt) : State :=
  if e.2.kind = 4 ∧ (e.2.status = 1 ∨ e.2.status = 2 ∨ e.2.status = 3) then ticketEnd s e.1 7 reason else s

/-- A failed request stays failed while further image writes fail. -/
theorem failWrites_keep {s : State} {k reason : Nat} (h : (ticket s k).status = 7 ∧ (ticket s k).reason = reason)
    (l : List (Nat × TicketSt)) : (ticket (l.foldl (failWrite reason) s) k).status = 7 ∧
      (ticket (l.foldl (failWrite reason) s) k).reason = reason := by
  refine foldl_inv (P := fun u => (ticket u k).status = 7 ∧ (ticket u k).reason = reason) l _ s h fun u e hu => ?_
  unfold failWrite
  split
  · obtain he | he := ticketEnd_cases u e.1 k 7 reason <;> rw [he]
    · exact ⟨rfl, rfl⟩
    · exact hu
  · exact hu

theorem failWrites_fail (s : State) {l : List (Nat × TicketSt)} {e : Nat × TicketSt} (reason : Nat) (he : e ∈ l)
    (hk : e.2.kind = 4) (hs : e.2.status = 1 ∨ e.2.status = 2 ∨ e.2.status = 3) :
    (ticket (l.foldl (failWrite reason) s) e.1).status = 7 ∧
      (ticket (l.foldl (failWrite reason) s) e.1).reason = reason := by
  induction l generalizing s with
  | nil => cases he
  | cons a l ih =>
    obtain rfl | he := List.mem_cons.mp he
    · refine failWrites_keep ?_ l
      rw [failWrite, if_pos ⟨hk, hs⟩, ticket_ticketEnd_self]
      exact ⟨rfl, rfl⟩
    · exact ih _ he

theorem failImageWrites_raises (s : State) (reason : Nat) : Raises s (failImageWrites s reason) :=
  Raises.foldl _ _ s fun u e => by
    split
    · exact ticketEnd_raises ..
    · exact .refl u

/-- A bank without its key (R104). -/
def bankGone (x : BankSt) : BankSt := { x with bytes := [], valid := false, writing := false, failReason := 13 }

/-- The module without its Image Key (R104, R570). -/
def keyGone (s : State) : State :=
  { s with
    kiln := { s.kiln with
      keyPresent := false, follow := none, bankA := bankGone s.kiln.bankA, bankB := bankGone s.kiln.bankB
      headersRead := false, trying := none, other := none, firstFailed := false }
    ev := { s.ev with key := [], startNo := 0, newest := 0, keyRehearsed := none, writing := false, ready := false } }

theorem execImageKeyRemoved_present {s : State} (n : Nat) (hp : s.md.powered = true) (hr : s.ev.running = true)
    (hk : s.kiln.keyPresent = true) :
    exec (.imageKeyRemoved n) s = .next (failImageWrites (raise (setPhase (keyGone s) n) 17 []) 6) :=
  congrArg Host.Outcome.next ((if_neg (by simp [hk])).trans (if_neg (by simp [hp, hr])))

theorem key_of_evCore {e f : EventSt} (h : evCore e = evCore f) : e.key = f.key :=
  (congrArg EventSt.key h : (evCore e).key = (evCore f).key)

theorem recorded_keyGone (s : State) (n : Nat) (evs : List (Nat × List W32)) :
    (recorded (keyGone s) n evs).intake = (recorded s n evs).intake := by
  have hr : (keyGone s).ev.running = s.ev.running := rfl
  unfold recorded
  rw [hr]
  split <;> rfl

/-! ### Insertion (R104, R570) -/

/-- A bank with the content that the key brings. -/
def bankPut (x : BankSt) (b : Bytes) : BankSt := { x with bytes := b.take bankMax, failReason := 11 }

/-- The module with a key that can be read, before its headers are read. -/
def keyPut (s : State) (key : KeyContent) : State :=
  keyJournal { s with kiln := { s.kiln with
    keyPresent := true, bankA := bankPut s.kiln.bankA key.bankA, bankB := bankPut s.kiln.bankB key.bankB } } key

theorem execImageKeyInserted_elsewhere {s : State} {key : KeyContent} (n : Nat) (hp : s.md.powered = true)
    (hr : s.ev.running = true) (hk : s.kiln.keyPresent = false) (hread : key.readable = true) (hm : s.md.mode ≠ .load)
    (hm' : s.md.mode ≠ .sealed) :
    exec (.imageKeyInserted key n) s = .next (readHeaders (setPhase (keyPut s key) n)) :=
  congrArg Host.Outcome.next ((if_neg (by simp [hk, hread])).trans
    ((if_neg (by simp [keyJournal, hp, hr, hm'])).trans (if_neg hm)))

theorem execImageKeyInserted_load {s : State} {key : KeyContent} (n : Nat) (hp : s.md.powered = true)
    (hr : s.ev.running = true) (hk : s.kiln.keyPresent = false) (hread : key.readable = true) (hm : s.md.mode = .load) :
    exec (.imageKeyInserted key n) s = .next (restartSelection { setPhase (keyPut s key) n with
      ev := { (keyPut s key).ev with rehearsed := key.rehearsal } }) :=
  congrArg Host.Outcome.next ((if_neg (by simp [hk, hread])).trans
    ((if_neg (by simp [keyJournal, hp, hr, hm])).trans (if_pos hm)))

/-- The journal goes on behind every JSEQ of the key (R570). -/
theorem keyPut_jseq (s : State) {key : KeyContent} {j : Nat} (h : j ∈ key.journal) : j < (keyPut s key).ev.jseq := by
  have hne : key.journal ≠ [] := List.ne_nil_of_mem h
  have hle : j ≤ key.journal.foldl max 0 := by
    rw [List.foldl_max_eq_max hne]
    exact (List.le_max_of_mem h).trans (Nat.le_max_right ..)
  have hj : (keyPut s key).ev.jseq = key.journal.foldl max 0 + 1 := by simp [keyPut, keyJournal, hne]
  omega

/-! ### The background re-measurement (R98) -/

theorem abdicate_k (s : State) (cause : Nat) : (abdicate s cause).kiln.k = s.kiln.k := by
  by_cases hm : s.md.mode = .halt ∨ s.md.mode = .sealed
  · rw [abdicate, if_pos hm]
  · obtain ⟨hm, hm'⟩ := not_or.mp hm
    obtain ⟨p, -, h⟩ := abdicate_eq cause hm hm'
    obtain ⟨n, hn, -⟩ := abdicateFrame_eq (enterHalt s causeSelf) cause
    have hk : (abdicate s cause).kiln = (enterHalt s causeSelf).kiln := by rw [h]; simp [abdicating, hn]
    rw [hk, enterHalt_kiln]

theorem execKilnRemeasureComplete_differs {s : State} {i : Nat} {code : Bytes} (n : Nat) (hp : s.md.powered = true)
    (hm : s.md.mode = .load ∨ evaluates s.md.mode = true) (ho : s.md.mode ≠ .oasis) (h2 : 2 ≤ i) (h6 : i ≤ 6)
    (hd : tfind s.kiln.measured i ≠ some (sha384 code)) :
    exec (.kilnRemeasureComplete i code n) s = .next (abdicate (raise (setPhase s n) 4 []) 6) :=
  congrArg Host.Outcome.next (if_pos (by simp [hp, ho, h2, h6, hd, hm]))

/-- Settles O19: removal and insertion touch the banks and the journal, and a differing stage is an abdication. -/
theorem keyRemovalAndInsertionLeaveTheRunningImage : Obligations.KeyRemovalAndInsertionLeaveTheRunningImage := by
  unfold Obligations.KeyRemovalAndInsertionLeaveTheRunningImage
  refine ⟨fun s n hp hr hk => ?_, fun s key n hp hr hk hread hm hm' => ?_, fun s key n hp hr hk hread hm => ?_,
    fun s i code n hc hm ho h2 h6 hd => ?_, fun s i code n h => ?_⟩
  · have hkiln : (failImageWrites (raise (setPhase (keyGone s) n) 17 []) 6).kiln = (keyGone s).kiln := by simp
    refine ⟨_, execImageKeyRemoved_present n hp hr hk, by simp [keyGone], by rw [hkiln]; rfl, by rw [hkiln]; rfl,
      by rw [hkiln]; rfl, ?_, fun b hb => ?_, ?_, fun e he h4 hs => ?_⟩
    · exact key_of_evCore (f := (keyGone s).ev) (by simp)
    · rw [bank_of_kiln hkiln]
      interval_cases b <;> rfl
    · rw [← recorded_keyGone]
      refine List.IsPrefix.trans ?_ (failImageWrites_raises _ 6).intake
      rw [raise_ev]
      exact ⟨[], List.append_nil _⟩
    · refine failWrites_fail _ 6 ?_ h4 hs
      simpa [keyGone] using he
  · refine ⟨_, execImageKeyInserted_elsewhere n hp hr hk hread hm hm', rfl, rfl, rfl, rfl, rfl, rfl, fun b hb => ?_,
      fun b hb => ?_, ?_, fun j hj => keyPut_jseq s hj, rfl⟩
    · interval_cases b <;> rfl
    · interval_cases b <;> exact ⟨rfl, rfl⟩
    · show (key.journal.map fun j => ({ jseq := j } : JBlock)).map (·.jseq) = _
      simp [Function.comp_def]
  · exact ⟨_, execImageKeyInserted_load n hp hr hk hread hm, rfl, rfl, rfl, rfl, rfl, rfl, rfl, rfl⟩
  · obtain ⟨hp, h1, h1'⟩ := canAbdicate_iff.mp hc
    refine ⟨_, execKilnRemeasureComplete_differs n hp hm ho h2 h6 hd,
      abdicated_of_abdicate (by simpa using h1) (by simpa using h1') (by rw [raise_ev]; rfl) (by simp) (by simp), ?_⟩
    rw [abdicate_k]
    simp
  · exact ⟨_, congrArg Host.Outcome.next (if_neg (by simp [h])), rfl⟩

end Sys2Proof.Machine
end

section
/-! Quotes of sessions, settings writes and declarations (R99, R100, R121 to R124, R227). -/

namespace Sys2Proof.Machine

/-! ### The answer to a served request -/

/-- An owner that leaves the messages to its reply answers with it (R499). -/
theorem answers_of_reply {s u : State} {r : Req} {o : W32} {st : Nat} {p : Bytes}
    (hu : u.net = (reply (touch s r) r o st p).net) : answers s (sendChanges (wrote u o)) r st p := by
  refine answers_sendChanges ?_
  rw [wrote_outbox, hu, reply_eq]
  rfl

theorem reply_net {u v : State} (h : u.net = v.net) (r : Req) (o : W32) (st : Nat) (p : Bytes) :
    (reply u r o st p).net = (reply v r o st p).net := by simp only [reply_eq, sess, h]

@[simp] theorem reply_loops (s : State) (r : Req) (o : W32) (st : Nat) (p : Bytes) :
    (reply s r o st p).loops = s.loops := by
  rw [reply_eq]

@[simp] theorem reply_ev (s : State) (r : Req) (o : W32) (st : Nat) (p : Bytes) : (reply s r o st p).ev = s.ev := by
  rw [reply_eq]

@[simp] theorem wrote_ev (s : State) (o : W32) : (wrote s o).ev = s.ev := rfl

@[simp] theorem wrote_loops (s : State) (o : W32) : (wrote s o).loops = s.loops := rfl

theorem Noted.touch (s : State) (r : Req) : Noted s r.at_ [] (touch s r) := ⟨(recorded_nil s _).symm, rfl⟩

/-! ### Attestation (R99, R100) -/

theorem execAttestationNonce_served {s : State} {r : Req} {nonce : Bytes} (h : served s r nonceObj = true)
    (hl : nonce.length = 32) : exec (.attestationNonce r nonce) s =
      .next (sendChanges (wrote (reply (nonceAccept (touch s r) r.session nonce) r nonceObj stDone) nonceObj)) :=
  congrArg Host.Outcome.next ((hostWrite_served h _).trans
    (congrArg (fun u => sendChanges (wrote u nonceObj)) (if_neg (by simp [hl]))))

/-- The quote that a session waits for is readable. -/
def quoteRead (s : State) (session : Nat) : State :=
  { s with kiln := { s.kiln with quotes := s.kiln.quotes.map fun q =>
      if q.session == session && q.captured.isSome then { q with ready := true } else q } }

theorem execQuoteReady_captured {s : State} {i : Nat} (n : Nat) (hl : s.sec.loaded = true)
    (hm : s.md.mode = .halt → s.md.mgmtAlive = true)
    (hq : ∃ q ∈ s.kiln.quotes, q.session = i ∧ q.captured ≠ none ∧ q.ready = false) :
    exec (.quoteReady i n) s = .next (raise (setPhase (quoteRead s i) n) 16 []) := by
  have hany : (s.kiln.quotes.any fun q => q.session == i && q.captured.isSome && !q.ready) = true := by
    obtain ⟨q, hq, hi, hc, hr⟩ := hq
    exact List.any_eq_true.mpr ⟨q, hq, by simp [hi, hr, Option.isSome_iff_ne_none.mpr hc]⟩
  have hmode : (s.md.mode != .halt || s.md.mgmtAlive) = true := by
    by_cases h : s.md.mode = .halt
    · simp [hm h]
    · simp [h]
  exact congrArg Host.Outcome.next (if_neg (by rw [hany, hmode, hl]; decide))

/-- Settles O20: each command touches the quotes of its own session. -/
theorem quotesAreServedPerSession : Obligations.QuotesAreServedPerSession := by
  unfold Obligations.QuotesAreServedPerSession
  refine ⟨fun s r nonce h hl => ?_, fun s i n hl hm hq => ?_⟩
  · exact ⟨_, execAttestationNonce_served h hl, answers_of_reply (reply_net rfl ..), by simp [nonceAccept],
      by simp [nonceAccept]⟩
  · refine ⟨_, execQuoteReady_captured n hl hm hq, by simp [quoteRead],
      (((Noted.start s n).withKiln (quoteRead s i).kiln).raise 16 []).ev, ?_⟩
    simp [quoteRead, Option.isSome_iff_ne_none]

/-! ### Settings writes (R121, R122, R227) -/

theorem settingCheck_touch (s : State) (r : Req) (i : Nat) (data : Bytes) :
    settingCheck (touch s r) i data = settingCheck s i data := rfl

theorem settingAccept_done (s : State) (o : Origin) (i : Nat) (data : Bytes) :
    (settingAccept s o i data).2 = !partnerTracks s := rfl

theorem settingAccept_net (s : State) (o : Origin) (i : Nat) (data : Bytes) :
    (settingAccept s o i data).1.net = s.net := by
  unfold settingAccept
  dsimp only
  split
  · rfl
  · split <;> rfl

theorem settingAccept_set (s : State) (o : Origin) (i : Nat) (data : Bytes) :
    (settingAccept s o i data).1.set = { settingTaken s i data with
      waiting := if partnerTracks s then s.set.waiting ++ [⟨o, i, s.time.tick⟩] else s.set.waiting } := by
  unfold settingAccept
  dsimp only
  split
  · rfl
  · split <;> rfl

/-- A setting that is bound to no loop leaves the loops. -/
theorem settingAccept_unbound {s : State} {o : Origin} {i : Nat} {data : Bytes} {d : SettingDef}
    (hd : settingByLow (theImage s) i = some d) (hb : d.bindCtx = 0xFF) :
    (settingAccept s o i data).1.loops = s.loops := by
  unfold settingAccept
  dsimp only
  split
  · rfl
  next e he =>
    obtain rfl : e = d := Option.some.inj (he.symm.trans hd)
    rw [if_pos hb]

/-- A bound parameter's change joins its loop (R227). -/
theorem settingAccept_bound {s : State} {o : Origin} {i : Nat} {data : Bytes} {d : SettingDef}
    (hd : settingByLow (theImage s) i = some d) (hb : d.bindCtx ≠ 0xFF) :
    (loop2 (settingAccept s o i data).1 d.bindCtx).changes =
      (loop2 s d.bindCtx).changes ++ [(d.bindOffset, writtenValue data, s.time.tick)] := by
  unfold settingAccept
  dsimp only
  split
  next he => exact absurd (he.symm.trans hd) nofun
  next e he =>
    obtain rfl : e = d := Option.some.inj (he.symm.trans hd)
    rw [if_neg hb, loop2_setLoop2_self]
    rfl

/-- The state behind an accepted write that is answered with a STATUS. -/
def settingWritten (s : State) (r : Req) (i : Nat) (data : Bytes) (st : Nat) : State :=
  sendChanges (wrote (reply (settingAccept (touch s r) (originOf s r) i data).1 r (settingObj i) st) (settingObj i))

/-- An accepted write is DONE, or waits for a partner in TRACK (R122). -/
theorem execSettingWrite_accepted {s : State} {r : Req} {i : Nat} {data : Bytes}
    (h : servedOutside s r (settingObj i) = true) (hc : settingCheck s i data = none) :
    exec (.settingWrite r i data) s =
      .next (settingWritten s r i data (if !partnerTracks s then stDone else stAccepted)) := by
  show execSettingWrite r i data s = _
  unfold execSettingWrite
  rw [hostCommand_served h]
  simp only [settingCheck_touch, hc, settingAccept_done, originOf_touch, partnerTracks_touch, settingWritten]

/-- What an accepted write sets, whatever its answer (R121 to R123, R227). -/
theorem settingWritten_parts (s : State) (r : Req) (i : Nat) (data : Bytes) (st : Nat) :
    (settingWritten s r i data st).md = s.md ∧
    (settingWritten s r i data st).set = { settingTaken s i data with
      waiting := if partnerTracks s then s.set.waiting ++ [⟨originOf s r, i, s.time.tick⟩] else s.set.waiting } ∧
    (∀ d, settingByLow (theImage s) i = some d → d.bindCtx = 0xFF →
      (settingWritten s r i data st).loops = s.loops) ∧
    (∀ d, settingByLow (theImage s) i = some d → d.bindCtx ≠ 0xFF →
      (loop2 (settingWritten s r i data st) d.bindCtx).changes =
        (loop2 s d.bindCtx).changes ++ [(d.bindOffset, writtenValue data, s.time.tick)]) := by
  have hl : (settingWritten s r i data st).loops = (settingAccept (touch s r) (originOf s r) i data).1.loops := by
    simp [settingWritten]
  refine ⟨by simp [settingWritten], ?_, fun d hd hb => hl.trans (settingAccept_unbound hd hb), fun d hd hb => ?_⟩
  · have hs : (settingWritten s r i data st).set = (settingAccept (touch s r) (originOf s r) i data).1.set := by
      simp [settingWritten]
    exact hs.trans (settingAccept_set ..)
  · rw [loop2, hl]
    exact settingAccept_bound (s := touch s r) hd hb

/-! ### Declarations (R123) -/

theorem declCheck_touch (s : State) (r : Req) (g : W32) : declCheck (touch s r) g = declCheck s g := rfl

/-- A session that holds no declaration replaces none. -/
theorem replaceHeld_none {s : State} {o : Origin} (h : ∀ d ∈ s.set.held, sameSession d.origin o = false) :
    replaceHeld s o = s := by
  have hold : (s.set.held.filter fun d => sameSession d.origin o) = [] :=
    List.filter_eq_nil_iff.mpr fun d hd => by simp [h d hd]
  have hkeep : (s.set.held.filter fun d => !sameSession d.origin o) = s.set.held :=
    List.filter_eq_self.mpr fun d hd => by simp [h d hd]
  unfold replaceHeld
  rw [hold, hkeep]
  rfl

/-- The SEQs of a session's writes that have not reported DONE. -/
def seqsWaiting (s : State) (o : Origin) : List W32 :=
  (s.set.waiting.filter fun w => sameSession w.origin o).map fun w => w.origin.seq

theorem declAccept_eq {s : State} {o : Origin} (g : W32) (h : ∀ d ∈ s.set.held, sameSession d.origin o = false) :
    declAccept s o g = if (seqsWaiting s o).isEmpty then (declComplete s ⟨o, g, seqsWaiting s o, false⟩, true)
      else ({ s with set := { s.set with held := s.set.held ++ [⟨o, g, seqsWaiting s o, false⟩] } }, false) := by
  unfold declAccept
  rw [replaceHeld_none h]
  rfl

theorem seqsWaiting_isEmpty {s : State} {o : Origin} :
    (seqsWaiting s o).isEmpty = true ↔ ∀ w ∈ s.set.waiting, sameSession w.origin o = false := by
  simp [seqsWaiting]

theorem execSettingsComplete_accepted {s : State} {r : Req} {g : W32} (h : servedOutside s r declObj = true)
    (hc : declCheck s g = none) : exec (.settingsComplete r g) s = .next (sendChanges (wrote
      (reply (declAccept (touch s r) (originOf s r) g).1 r declObj
        (if (declAccept (touch s r) (originOf s r) g).2 then stDone else stAccepted)) declObj)) := by
  show execSettingsComplete r g s = _
  unfold execSettingsComplete
  rw [hostCommand_served h]
  simp only [declCheck_touch, hc, originOf_touch]

theorem declComplete_parts (s : State) (d : Decl) : (declComplete s d).net = s.net ∧
    (declComplete s d).set = { s.set with done := s.set.done ++ [d] } := by
  simp [declComplete]

theorem Noted.declComplete {s t : State} {n : Nat} {evs : List (Nat × List W32)} (h : Noted s n evs t) (d : Decl) :
    Noted s n (evs ++ [(6, [])]) (declComplete t d) := by
  have hu : Noted s n evs { t with set := { t.set with done := t.set.done ++ [d] } } := h.keep rfl rfl
  exact hu.raise 6 []

/-! ### Completion of an outstanding request (R504, R514) -/

theorem isOutstanding_net {s u : State} (h : u.net = s.net) (o : Origin) (obj : W32) :
    isOutstanding u o obj = isOutstanding s o obj := by
  unfold isOutstanding sess
  rw [h]

/-- A session finds the request that it waits for under its SEQ. -/
theorem find_outstanding {l : List (W32 × W32)} {q obj : W32} (h : l.contains (q, obj) = true)
    (ha : (l.all fun w => w.1 != q || w == (q, obj)) = true) : l.find? (fun w => w.1 == q) = some (q, obj) := by
  cases hf : l.find? fun w => w.1 == q with
  | none =>
    have hq := List.find?_eq_none.mp hf (q, obj) (List.contains_iff_mem.mp h)
    simp at hq
  | some w =>
    have hw : w.1 = q := by simpa using List.find?_some hf
    have hall := List.all_eq_true.mp ha w (List.mem_of_find?_eq_some hf)
    simp_all

theorem complete_outstanding {s : State} {o : Origin} {obj : W32} (st : Nat) (h : isOutstanding s o obj = true) :
    (complete s o st).net.outbox = .completion o.session o.seq obj st :: s.net.outbox := by
  simp only [isOutstanding, Bool.and_eq_true, decide_eq_true_eq] at h
  obtain ⟨⟨⟨⟨⟨hb, ho⟩, hopen⟩, hg⟩, hc⟩, ha⟩ := h
  have hbatch : (s.net.batches.find? fun b => b.origin == o) = none :=
    List.find?_eq_none.mpr fun b hbm => by simpa using List.all_eq_true.mp hb b hbm
  unfold complete
  rw [hbatch]
  unfold completeOne
  rw [if_pos (by rw [ho, hopen]; rfl), find_outstanding hc ha]
  dsimp only
  rw [if_pos hg]
  rfl

theorem execSettingsDeclarationDone_found {s : State} {i : Nat} {d : Decl}
    (h : (s.set.held.find? fun d => d.origin.session == i && !declWaits s d) = some d) :
    exec (.settingsDeclarationDone i) s = .next (complete
      (declComplete { s with set := { s.set with held := s.set.held.erase d } } d) d.origin stDone) := by
  show execSettingsDeclarationDone i s = _
  unfold execSettingsDeclarationDone
  rw [h]

/-- Settles O21: an accepted write takes its place by the partner's state, a declaration by its session's writes. -/
theorem settingsWritesAndDeclarations : Obligations.SettingsWritesAndDeclarations := by
  unfold Obligations.SettingsWritesAndDeclarations
  refine ⟨fun s r i data h hc hp => ?_, fun s r i data h hc hp => ?_, fun s r g h hc hh hw => ?_,
    fun s r g h hc hh hw => ?_, fun s i d hf ho => ?_⟩
  · obtain ⟨hmd, hset, hfree, hbound⟩ := settingWritten_parts s r i data stDone
    have he := execSettingWrite_accepted h hc
    rw [hp] at he hset
    exact ⟨_, he, answers_of_reply (reply_net (settingAccept_net ..) ..), hmd, hset, hfree, hbound⟩
  · obtain ⟨hmd, hset, hfree, hbound⟩ := settingWritten_parts s r i data stAccepted
    have he := execSettingWrite_accepted h hc
    rw [hp] at he hset
    exact ⟨_, he, acceptedFor_of_reply (reply_net (settingAccept_net ..) ..), hmd, hset, hfree, hbound⟩
  · have he := execSettingsComplete_accepted h hc
    have hempty : (seqsWaiting (touch s r) (originOf s r)).isEmpty = true := seqsWaiting_isEmpty.mpr hw
    rw [declAccept_eq g (by exact hh), if_pos hempty, List.isEmpty_iff.mp hempty] at he
    obtain ⟨hnet, hset⟩ := declComplete_parts (touch s r) ⟨originOf s r, g, [], false⟩
    refine ⟨_, he, answers_of_reply (reply_net hnet ..), by simp, by simp [hset], ?_⟩
    simpa using ((Noted.touch s r).declComplete _).ev
  · have he := execSettingsComplete_accepted h hc
    have hsome : ¬ (seqsWaiting (touch s r) (originOf s r)).isEmpty = true := by
      rw [seqsWaiting_isEmpty]
      simpa using hw
    rw [declAccept_eq g (by exact hh), if_neg hsome] at he
    exact ⟨_, he, acceptedFor_of_reply (reply_net rfl ..), by simp, by simp, by simp [seqsWaiting]⟩
  · obtain ⟨hnet, hset⟩ := declComplete_parts { s with set := { s.set with held := s.set.held.erase d } } d
    refine ⟨_, execSettingsDeclarationDone_found hf, by simp, by simp [hset], ?_, ?_⟩
    · rw [complete_outstanding stDone (by rwa [isOutstanding_net (hnet.trans rfl)]), hnet]
    · have hs : Noted s s.time.phase [] { s with set := { s.set with held := s.set.held.erase d } } :=
        ⟨(recorded_nil s _).symm, rfl⟩
      simpa using (hs.declComplete d).ev

end Sys2Proof.Machine
end

section
/-! Region updates and image writes: the check of complete data, pending updates, written banks and what a standby
follows (R115 to R117, R193, R197, R201). -/

namespace Sys2Proof.Machine

/-! ### The end and the start of a request -/

theorem Noted.failTicket {s t : State} {n : Nat} {evs : List (Nat × List W32)} (h : Noted s n evs t) (k reason : Nat) :
    Noted s n (evs ++ [(113, [w32 k, w32 reason])]) (ticketEnd t k 7 reason) := by
  have ht : Noted s n evs (setTicket t k (endedTicket (ticket t k) 7 reason)) := h.keep rfl rfl
  refine (ht.raise 113 [w32 k, w32 reason]).keep ?_ (by simp [setTicket])
  simp [ticketEnd, endedTicket]

theorem startRegion_tickets (s : State) (k : Nat) : (startRegion s k).tickets =
    tset s.tickets k { ticket s k with status := 3, runTick := s.time.tick } := by
  unfold startRegion
  dsimp only
  split <;> simp [setTicket]

theorem ticket_startRegion_self (s : State) (k : Nat) :
    ticket (startRegion s k) k = { ticket s k with status := 3, runTick := s.time.tick } := by
  rw [ticket, startRegion_tickets, tget_tset_self]

theorem ticket_startRegion_ne (s : State) {k j : Nat} (h : j ≠ k) : ticket (startRegion s k) j = ticket s j := by
  rw [ticket, startRegion_tickets, tget_tset_ne _ _ _ _ _ h, ticket]

/-- Requests of a list, each superseded (R197). -/
def supersedeAll (s : State) (l : List Nat) : State := l.foldl (fun s q => ticketEnd s q 5 0) s

theorem supersedeAll_keeps (s : State) (l : List Nat) {q : Nat} (h : (ticket s q).status = 5) :
    (ticket (supersedeAll s l) q).status = 5 := by
  refine foldl_inv (P := fun u => (ticket u q).status = 5) l _ s h fun u b hu => ?_
  obtain he | he := ticketEnd_cases u b q 5 0 <;> rw [he]
  · rfl
  · exact hu

theorem supersedeAll_status (s : State) {l : List Nat} {q : Nat} (h : q ∈ l) :
    (ticket (supersedeAll s l) q).status = 5 := by
  induction l generalizing s with
  | nil => cases h
  | cons a l ih =>
    obtain rfl | h := List.mem_cons.mp h
    · refine supersedeAll_keeps _ l ?_
      rw [ticket_ticketEnd_self]
      rfl
    · exact ih _ h

theorem regionWith_ne {s : State} {k st q : Nat} (h : q ∈ regionWith s k st) : q ≠ k := by
  obtain ⟨e, he, rfl⟩ := List.mem_map.mp h
  obtain ⟨-, he⟩ := List.mem_filter.mp he
  simp only [Bool.and_eq_true, bne_iff_ne] at he
  obtain ⟨⟨⟨hne, -⟩, -⟩, -⟩ := he
  exact hne

/-- A request PENDING in place of an earlier one (R197). -/
def pendRegion (s : State) (k : Nat) : State :=
  sendMortar (setTicket (supersedeAll s (regionWith s k 2)) k { ticket s k with status := 2 })
    (.region k 2 (ticket s k).kind (ticket s k).index 0)

theorem pendRegion_tickets (s : State) (k : Nat) : (pendRegion s k).tickets =
    tset (supersedeAll s (regionWith s k 2)).tickets k { ticket s k with status := 2 } := by
  simp [pendRegion, setTicket]

theorem pendRegion_parts (s : State) (k : Nat) : (pendRegion s k).md = s.md ∧
    (ticket (pendRegion s k) k).status = 2 ∧
    ∀ q ∈ regionWith s k 2, (ticket (pendRegion s k) q).status = 5 := by
  refine ⟨by simp [pendRegion, supersedeAll, setTicket], ?_, fun q hq => ?_⟩
  · rw [ticket, pendRegion_tickets, tget_tset_self]
  · rw [ticket, pendRegion_tickets, tget_tset_ne _ _ _ _ _ (regionWith_ne hq)]
    exact supersedeAll_status s hq

theorem execRegionDataChecked_failed {s : State} {k : Nat} (n : Nat) (h1 : (ticket s k).status = 1)
    (hc : (ticket s k).complete = true) (hf : regionFault s (ticket s k) ≠ 0) : exec (.regionDataChecked k n) s =
      .next (ticketEnd (setPhase s n) k 7 (regionFault s (ticket s k))) :=
  congrArg Host.Outcome.next ((if_neg (by simp [h1, hc])).trans (if_pos hf))

theorem execRegionDataChecked_free {s : State} {k : Nat} (n : Nat) (h1 : (ticket s k).status = 1)
    (hc : (ticket s k).complete = true) (hf : regionFault s (ticket s k) = 0) (hr : regionFree s k = true) :
    exec (.regionDataChecked k n) s = .next (startRegion (setPhase s n) k) :=
  congrArg Host.Outcome.next ((if_neg (by simp [h1, hc])).trans ((if_neg (not_not.mpr hf)).trans (if_pos hr)))

theorem execRegionDataChecked_pending {s : State} {k : Nat} (n : Nat) (h1 : (ticket s k).status = 1)
    (hc : (ticket s k).complete = true) (hf : regionFault s (ticket s k) = 0) (hr : regionFree s k = false) :
    exec (.regionDataChecked k n) s = .next (pendRegion (setPhase s n) k) :=
  congrArg Host.Outcome.next ((if_neg (by simp [h1, hc])).trans
    ((if_neg (not_not.mpr hf)).trans (if_neg (Bool.eq_false_iff.mp hr))))

/-! ### Written banks (R115, R116) -/

theorem writtenCheck_congr {s t : State} (hs : t.sec = s.sec) (hr : runningImage t = runningImage s) (d : Bytes) :
    writtenCheck t d = writtenCheck s d := by
  have hh : headerCheck t = headerCheck s := funext (headerCheck_of_sec hs)
  unfold writtenCheck
  rw [hh, hr]

theorem restartSelection_tickets (s : State) : (restartSelection s).tickets = s.tickets := by simp

theorem runningImage_of_kiln {s t : State} (h : t.kiln = s.kiln) : runningImage t = runningImage s := by
  unfold runningImage
  rw [h]

/-- The bank that takes the data is the spare one of a state with the same banks and the same running image. -/
theorem finishBank_written {s u : State} (d : Bytes) (hs : u.sec = s.sec) (hr : runningImage u = runningImage s)
    (hb : spareBank u = spareBank s) : (finishBank u d).2 = writtenReason s d ∧
      writtenBank s (finishBank u d).1 d := by
  have hcheck : writtenCheck (raiseSkipped u (bodyCheck (bankHeader d) (d.drop 256)).skipped) d = writtenCheck s d :=
    writtenCheck_congr (by simp [hs]) ((runningImage_of_kiln (by simp)).trans hr) d
  have hreason : writtenReason (raiseSkipped u (bodyCheck (bankHeader d) (d.drop 256)).skipped) d = writtenReason s d :=
    congrArg Prod.fst hcheck
  unfold writtenBank finishBank
  dsimp only
  rw [hcheck, hreason, hb, bank_setBank_self]
  exact ⟨rfl, rfl, rfl, rfl⟩

theorem writtenBank_of_kiln {s t u : State} {d : Bytes} (h : writtenBank s u d) (hk : t.kiln = u.kiln) :
    writtenBank s t d := by
  unfold writtenBank at *
  rwa [bank_of_kiln hk]

/-- The state once the bank of an image write has been checked. -/
def checkedWrite (s : State) (n k : Nat) (x : TicketSt) : State :=
  (finishBank (setTicket (setPhase s n) k { x with committed := true }) x.data).1

theorem checkedWrite_parts (s : State) (n k : Nat) (x : TicketSt) : (checkedWrite s n k x).md = s.md ∧
    (finishBank (setTicket (setPhase s n) k { x with committed := true }) x.data).2 = writtenReason s x.data ∧
    writtenBank s (checkedWrite s n k x) x.data :=
  ⟨by simp [checkedWrite, setTicket], finishBank_written _ rfl rfl rfl⟩

theorem partnerBank_of_md {s t : State} (h : t.md = s.md) (x : TicketSt) (p : Option Bool) :
    partnerBank t x p = partnerBank s x p := by
  unfold partnerBank
  rw [h]

section
variable {s : State} {k : Nat} {x : TicketSt} (p : Option Bool) (n : Nat) (hf : s.kiln.follow = none)
  (hx : (s.tickets.find? fun e => e.2.kind == 4 && e.2.status == 3 && e.2.complete) = some (k, x))

include hf hx

/-- The request fails unless its own bank and, for the role address, the standby's have passed (R117). -/
theorem execImageWriteComplete_failed (h : writtenReason s x.data ≠ 0 ∨ partnerBank s x p = false) :
    exec (.imageWriteComplete p n) s = .next (ticketEnd (checkedWrite s n k x) k 7 6) := by
  obtain ⟨hmd, he, -⟩ := checkedWrite_parts s n k x
  show execImageWriteComplete p n s = _
  unfold execImageWriteComplete
  simp only [hf, hx]
  refine congrArg Host.Outcome.next (if_pos ?_)
  rw [he, partnerBank_of_md (t := (finishBank _ _).1) hmd]
  simpa using h

/-- After DONE in LOAD the choice of the image begins again (R116). -/
theorem execImageWriteComplete_passed (h : writtenReason s x.data = 0) (hp : partnerBank s x p = true) :
    exec (.imageWriteComplete p n) s = .next (if s.md.mode = .load then
      restartSelection (ticketEnd (checkedWrite s n k x) k 4 0) else ticketEnd (checkedWrite s n k x) k 4 0) := by
  obtain ⟨hmd, he, -⟩ := checkedWrite_parts s n k x
  have hmode : (ticketEnd (checkedWrite s n k x) k 4 0).md.mode = s.md.mode := by simp [hmd]
  show execImageWriteComplete p n s = _
  unfold execImageWriteComplete
  simp only [hf, hx]
  rw [← hmode]
  refine congrArg Host.Outcome.next (if_neg ?_)
  rw [he, partnerBank_of_md (t := (finishBank _ _).1) hmd]
  simp [h, hp]

end

/-- The data that the active has forwarded, written to the spare bank. -/
def followedBank (s : State) (n : Nat) (d : Bytes) : State × Nat :=
  finishBank { setPhase s n with kiln := { s.kiln with follow := none } } d

theorem execImageWriteComplete_followed {s : State} {d : Bytes} (p : Option Bool) (n : Nat)
    (hf : s.kiln.follow = some d) : exec (.imageWriteComplete p n) s =
      .next (linkMortar (followedBank s n d).1 (.imageResult ((followedBank s n d).2 == 0))) := by
  show execImageWriteComplete p n s = _
  unfold execImageWriteComplete
  simp only [hf]
  rfl

theorem mem_linkMortar (s : State) (m : Mortar) : OutMsg.mortar m ∈ (linkMortar s m).net.outbox := by
  obtain ⟨lo, lf, k, h⟩ := sendLink_eq s 4 (mortarBytes m) (.mortar m)
  rw [linkMortar, h]
  exact List.mem_cons_self

/-! ### What a standby follows (R117, R193, R201) -/

/-- A region request that the active has forwarded (R201). -/
def followedRequest (kind i : Nat) (d : Bytes) : TicketSt :=
  { status := 3, kind := kind, index := i, length := d.length, data := d, complete := true }

/-- The standby runs the update on its own copy. -/
def followedRegion (s : State) (n k kind i : Nat) (d : Bytes) : State :=
  startRegion (setTicket (setPhase s n) k (followedRequest kind i d)) k

/-- An update of a kind without a rebuild is ready at once, and the active learns it (R201). -/
def toldRegion (s : State) (n k kind i : Nat) (d : Bytes) : State :=
  if kind = 2 ∨ kind = 3 then linkMortar (followedRegion s n k kind i d) (.regionReady k)
  else followedRegion s n k kind i d

theorem toldRegion_parts (s : State) (n k kind i : Nat) (d : Bytes) : (toldRegion s n k kind i d).md = s.md ∧
    ticket (toldRegion s n k kind i d) k = { followedRequest kind i d with runTick := s.time.tick } ∧
    (kind = 2 ∨ kind = 3 → OutMsg.mortar (.regionReady k) ∈ (toldRegion s n k kind i d).net.outbox) := by
  have htickets : (toldRegion s n k kind i d).tickets = (followedRegion s n k kind i d).tickets := by simp [toldRegion]
  have hset : ticket (setTicket (setPhase s n) k (followedRequest kind i d)) k = followedRequest kind i d :=
    tget_tset_self ..
  refine ⟨by simp [toldRegion, followedRegion, setTicket], ?_, fun h => ?_⟩
  · rw [ticket, htickets, ← ticket, followedRegion, ticket_startRegion_self, hset]
    rfl
  · rw [toldRegion, if_pos h]
    exact mem_linkMortar ..

theorem unstageRewritten_kiln (s : State) : (unstageRewritten s).kiln = s.kiln := by simp

/-- The bank that an image is written to has its header erased (R115). -/
theorem eraseSpare_spare {s u : State} (d : Bytes) (hb : spareBank u = spareBank s) :
    (eraseSpare u d).kiln.follow = u.kiln.follow ∧ bank (eraseSpare u d) (spareBank s) = { bank u (spareBank s) with
      bytes := (erasedHeader ++ d.drop 256).take bankMax, valid := false, failReason := 10, writing := true } := by
  unfold eraseSpare
  dsimp only
  rw [bank_of_kiln (unstageRewritten_kiln _), unstageRewritten_kiln, hb]
  exact ⟨by simp, bank_setBank_self ..⟩

/-- FORWARDING_RECEIVE is served by a STANDBY in LOAD and wherever the safety channels evaluate. -/
theorem execForwardingReceive_served {s : State} (hr : s.md.role = .standby)
    (hm : s.md.mode = .load ∨ evaluates s.md.mode = true) :
    ¬ (s.md.role != .standby || !(s.md.mode == .load || evaluates s.md.mode)) = true := by
  obtain h | h := hm <;> simp [hr, h]

/-- Settles O32: each command by what the request, the bank or the forwarded item is, in the order of the statement. -/
theorem regionUpdatesRunOneAtATime : Obligations.RegionUpdatesRunOneAtATime := by
  unfold Obligations.RegionUpdatesRunOneAtATime
  refine ⟨fun s k n h1 hc => ?_, fun s k h2 hr => ?_, fun s p n k x hf hx => ?_, fun s p n d hf => ?_,
    fun s k kind i d n hr hm => ?_, fun s d n hr hm hk => ?_, fun s d n hr hm hk => ?_, fun s g n hr hm => ?_⟩
  · by_cases hf : regionFault s (ticket s k) = 0
    · by_cases hr : regionFree s k = true
      · refine ⟨_, execRegionDataChecked_free n h1 hc hf hr, by simp, fun h => absurd hf h, fun _ _ => ?_,
          fun _ h => absurd hr (by simp [h])⟩
        rw [ticket_startRegion_self]
        exact ⟨rfl, rfl⟩
      · obtain ⟨hmd, hk, hq⟩ := pendRegion_parts (setPhase s n) k
        exact ⟨_, execRegionDataChecked_pending n h1 hc hf (by simpa using hr), hmd, fun h => absurd hf h,
          fun _ h => absurd h hr, fun _ _ => ⟨hk, hq⟩⟩
    · refine ⟨_, execRegionDataChecked_failed n h1 hc hf, by simp, fun _ => ?_, fun h => absurd h hf,
        fun h => absurd h hf⟩
      rw [ticket_ticketEnd_self]
      exact ⟨rfl, rfl, ((Noted.start s n).failTicket k _).ev⟩
  · refine ⟨startRegion (setPhase s 0) k, congrArg Host.Outcome.next (if_pos ⟨h2, hr⟩), by simp, ?_, ?_,
      fun j hj => ?_⟩
    · rw [ticket_startRegion_self]
    · rw [ticket_startRegion_self]; rfl
    · exact ticket_startRegion_ne _ hj
  · obtain ⟨hmd, -, hb⟩ := checkedWrite_parts s n k x
    have hend : ∀ st re, writtenBank s (ticketEnd (checkedWrite s n k x) k st re) x.data := fun st re =>
      writtenBank_of_kiln hb (by simp)
    have hticket : ∀ st re, ticket (ticketEnd (checkedWrite s n k x) k st re) k = endedTicket _ st re := fun st re =>
      ticket_ticketEnd_self ..
    by_cases hok : writtenReason s x.data ≠ 0 ∨ partnerBank s x p = false
    · refine ⟨_, execImageWriteComplete_failed p n hf hx hok, by simp [hmd], fun h0 hp => ?_, fun _ => ?_,
        fun _ _ => ?_⟩
      · simp [h0, hp] at hok
      · rw [hticket]; exact ⟨rfl, rfl, hend 7 6⟩
      · rw [hticket]; exact ⟨rfl, rfl, hend 7 6⟩
    · obtain ⟨h0, hp⟩ := not_or.mp hok
      refine ⟨_, execImageWriteComplete_passed p n hf hx (not_not.mp h0) (by simpa using hp), by simp [hmd],
        fun _ _ => ?_, fun h => absurd h h0, fun _ h => absurd h hp⟩
      split
      next hl =>
        exact ⟨by rw [ticket, restartSelection_tickets, ← ticket, hticket]; rfl, fun _ => ⟨rfl, rfl⟩,
          fun h => absurd hl h⟩
      next hl => exact ⟨by rw [hticket]; rfl, fun h => absurd h hl, fun _ => hend 4 0⟩
  · obtain ⟨he, hb⟩ := finishBank_written (s := s)
      (u := { setPhase s n with kiln := { s.kiln with follow := none } }) d rfl rfl rfl
    refine ⟨_, execImageWriteComplete_followed p n hf, by simp [followedBank], by simp [followedBank, finishBank],
      writtenBank_of_kiln hb (by simp [followedBank]), ?_⟩
    rw [← he]
    exact mem_linkMortar ..
  · obtain ⟨hmd, hk, hsent⟩ := toldRegion_parts s n k kind i d
    refine ⟨toldRegion s n k kind i d, congrArg Host.Outcome.next (if_neg (execForwardingReceive_served hr hm)),
      hmd, ?_⟩
    rw [hk]
    exact ⟨rfl, rfl, rfl, rfl, rfl, hsent⟩
  · refine ⟨eraseSpare { setPhase s n with kiln := { s.kiln with follow := some d } } d, congrArg Host.Outcome.next
      ((if_neg (execForwardingReceive_served hr hm)).trans (if_pos hk)), by simp, ?_⟩
    obtain ⟨hfollow, hb⟩ := eraseSpare_spare (s := s)
      (u := { setPhase s n with kiln := { s.kiln with follow := some d } }) d rfl
    rw [hb]
    exact ⟨hfollow, rfl, rfl, rfl⟩
  · exact ⟨linkMortar (setPhase s n) (.imageResult false), congrArg Host.Outcome.next
      ((if_neg (execForwardingReceive_served hr hm)).trans (if_neg (by simp [hk]))), by simp, by simp,
      mem_linkMortar ..⟩
  · exact ⟨_, congrArg Host.Outcome.next (if_neg (execForwardingReceive_served hr hm)), rfl⟩

end Sys2Proof.Machine
end

section
/-! SUPPORT. What an activation's end, and the course reactions, leave of the courses' runs and of what has been released
(R141, R145): one lemma for each operation that they reach. -/

namespace Sys2Proof.Machine

/-! ### The instant of an activation's end -/

/-- An output released at or after phase 105 µs waits for the commit of the next tick (R42). -/
def putLate (s : State) (i : Nat) (v : W64) : State :=
  { s with crs := { s.crs with outLate := s.crs.outLate ++ [(i, v, commitTick s)] } }

/-- One output that is released: it is withheld, or it enters the output image, or it waits (R42, R149). -/
theorem releaseOutputs_one (s : State) (e : Nat × W64) : releaseOutputs s [e] = s ∨
    ∃ d, ioEntry (theImage s) e.1 = some d ∧
      releaseOutputs s [e] = if s.time.phase < 105000 then putOut s e.1 (asWritten d e.2)
        else putLate s e.1 (asWritten d e.2) := by
  rw [releaseOutputs, List.foldl_cons, List.foldl_nil]
  split
  next => exact .inl rfl
  next d hd =>
    dsimp only
    split
    · exact .inl rfl
    · exact .inr ⟨d, hd, rfl⟩

@[simp] theorem releaseOutputs_time (s : State) (l : List (Nat × W64)) : (releaseOutputs s l).time = s.time := by
  refine foldl_time_eq l _ s fun u e => (?_ : (releaseOutputs u [e]).time = u.time)
  rcases releaseOutputs_one u e with h | ⟨d, -, h⟩
  · rw [h]
  · rw [h]
    split <;> rfl

@[simp] theorem releaseEngines_time (s : State) (c : Nat) (rel : Release) : (releaseEngines s c rel).time = s.time := by
  unfold releaseEngines
  exact foldl_time_eq rel.params _ _ fun u e => by dsimp only; (repeat' split) <;> rfl

@[simp] theorem writeForced_time (s : State) (l : List (Nat × Nat × Bytes)) : (writeForced s l).time = s.time :=
  foldl_time_eq l _ s fun _ _ => rfl

@[simp] theorem releaseData_time (s : State) (c : Nat) (l : List (Nat × Nat × Bytes)) :
    (releaseData s c l).time = s.time := by simp [releaseData, showData]

@[simp] theorem canRequest_time (s : State) (r : CanReq) : (canRequest s r).time = s.time := by
  unfold canRequest
  (repeat' split) <;> simp

@[simp] theorem portCommand_time (s : State) (p code : Nat) : (portCommand s p code).1.time = s.time := by
  unfold portCommand
  (repeat' split) <;> simp

@[simp] theorem canRelease_time (s : State) (rel : Release) : (canRelease s rel).time = s.time := by simp [canRelease]

/-! ### The courses' runs -/

/-- A course's state beside its counts of calls and its queue of events, which an activation moves before its end. -/
def runCore (x : CourseSt) : CourseSt := { x with div0 := 0, suppressed := 0, paramRefused := 0, events := [] }

/-- Every course stands where it stood. -/
structure RunsOn (s t : State) : Prop where
  courses : ∀ c, runCore (course t c) = runCore (course s c)

theorem RunsOn.of_table {s t : State} (h : t.crs.c = s.crs.c) : RunsOn s t := ⟨fun c => by rw [course, h, course]⟩

theorem RunsOn.refl (s : State) : RunsOn s s := .of_table rfl

theorem RunsOn.trans {s t u : State} (h : RunsOn s t) (k : RunsOn t u) : RunsOn s u :=
  ⟨fun c => (k.courses c).trans (h.courses c)⟩

theorem RunsOn.foldl {α : Type} (l : List α) (g : State → α → State) (s : State) (h : ∀ u b, RunsOn u (g u b)) :
    RunsOn s (l.foldl g s) :=
  foldl_inv (P := RunsOn s) l g s (.refl s) fun u b hu => hu.trans (h u b)

theorem course_setCourse (s : State) (k j : Nat) (x : CourseSt) :
    course (setCourse s k x) j = if j = k then x else course s j := by
  split
  next h => rw [h, course_setCourse_self]
  next h => exact course_setCourse_ne s k j x h

theorem RunsOn.setCourse (s : State) {c : Nat} {x : CourseSt} (h : runCore x = runCore (course s c)) :
    RunsOn s (setCourse s c x) := by
  refine ⟨fun j => ?_⟩
  rw [course_setCourse]
  split
  next e => rw [h, e]
  next => rfl

theorem RunsOn.raiseAt (s : State) (stamp ev : Nat) (arg : List W32) : RunsOn s (raiseAt s stamp ev arg) :=
  .of_table (by simp)

theorem releaseDiv0_runsOn (s : State) (c : Nat) (l : List (Nat × Nat)) : RunsOn s (releaseDiv0 s c l) := by
  unfold releaseDiv0
  split
  · exact .refl s
  · exact (RunsOn.setCourse s (by rfl)).trans (.raiseAt ..)

theorem releaseEvents_runsOn (s : State) (c : Nat) (l : List (Nat × W32 × Nat)) : RunsOn s (releaseEvents s c l) := by
  unfold releaseEvents
  exact (RunsOn.foldl _ _ s fun u _ => .raiseAt u _ _ _).trans (.setCourse _ (by rfl))

theorem eventsTaken_runsOn (s : State) (c n : Nat) : RunsOn s (eventsTaken s c n) := .setCourse s (by rfl)

theorem putData_runsOn (s : State) (i off : Nat) (b : Bytes) : RunsOn s (putData s i off b) := .of_table rfl

theorem ownData_runsOn (s : State) (c : Nat) (l : List (Nat × Nat × Bytes)) : RunsOn s (ownData s c l) :=
  .foldl _ _ s fun u e => by
    dsimp only
    split
    · exact putData_runsOn ..
    · exact .refl u

theorem writeForced_runsOn (s : State) (l : List (Nat × Nat × Bytes)) : RunsOn s (writeForced s l) :=
  .foldl _ _ s fun _ _ => putData_runsOn ..

theorem releaseData_runsOn (s : State) (c : Nat) (l : List (Nat × Nat × Bytes)) : RunsOn s (releaseData s c l) := by
  have h : RunsOn s ((l.filter fun e => e.1 == 0 && decide (e.2.1 + e.2.2.length ≤
      ((brickInst (theImage s) 0).map (·.len)).getD 0)).foldl (fun s e => putData s e.1 e.2.1 e.2.2) (ownData s c l)) :=
    (ownData_runsOn s c l).trans (.foldl _ _ _ fun _ _ => putData_runsOn ..)
  exact (h.trans (writeForced_runsOn _ _)).trans (.of_table rfl)

theorem releaseOutputs_runsOn (s : State) (l : List (Nat × W64)) : RunsOn s (releaseOutputs s l) :=
  .foldl _ _ s fun u e => (by
    rcases releaseOutputs_one u e with h | ⟨d, -, h⟩
    · rw [h]
      exact .refl u
    · rw [h]
      split <;> exact .of_table rfl : RunsOn u (releaseOutputs u [e]))

theorem releaseEngines_runsOn (s : State) (c : Nat) (rel : Release) : RunsOn s (releaseEngines s c rel) := by
  unfold releaseEngines
  extract_lets t sp mr _ u
  refine .trans (t := u) (.of_table rfl) (.foldl _ _ u fun v e => ?_)
  dsimp only
  (repeat' split)
  · exact .of_table rfl
  · exact .setCourse v (by rfl)
  · exact .refl v

theorem leaveUndone_runsOn (s : State) (c : Nat) : RunsOn s (leaveUndone s c) := by
  have h : ∀ (u : State) (d : Release), RunsOn u (leaveDone u c d) := fun u d =>
    ((((releaseDiv0_runsOn u c d.div0).trans (ownData_runsOn _ c d.data)).trans (releaseEvents_runsOn _ c d.events)).trans
      (eventsTaken_runsOn _ c d.eventsRead)).trans (.of_table (by simp [leaveDone]))
  exact ⟨fun j => (h _ _).courses j⟩

/-! ### What has been released -/

/-- Outputs, set-points and mode requests released and not yet committed or sampled (R42, R141) stay as they are. -/
structure ReleasedKept (s t : State) : Prop where
  out : t.crs.out = s.crs.out
  outLate : t.crs.outLate = s.crs.outLate
  setpoints : t.crs.setpoints = s.crs.setpoints
  modeReqs : t.crs.modeReqs = s.crs.modeReqs

theorem ReleasedKept.of_crs {s t : State} (h : t.crs = s.crs) : ReleasedKept s t := by constructor <;> rw [h]

theorem ReleasedKept.refl (s : State) : ReleasedKept s s := .of_crs rfl

theorem ReleasedKept.trans {s t u : State} (h : ReleasedKept s t) (k : ReleasedKept t u) : ReleasedKept s u :=
  ⟨k.out.trans h.out, k.outLate.trans h.outLate, k.setpoints.trans h.setpoints, k.modeReqs.trans h.modeReqs⟩

theorem ReleasedKept.foldl {α : Type} (l : List α) (g : State → α → State) (s : State)
    (h : ∀ u b, ReleasedKept u (g u b)) : ReleasedKept s (l.foldl g s) :=
  foldl_inv (P := ReleasedKept s) l g s (.refl s) fun u b hu => hu.trans (h u b)

theorem setCourse_released (s : State) (c : Nat) (x : CourseSt) : ReleasedKept s (setCourse s c x) := ⟨rfl, rfl, rfl, rfl⟩

theorem putData_released (s : State) (i off : Nat) (b : Bytes) : ReleasedKept s (putData s i off b) := ⟨rfl, rfl, rfl, rfl⟩

theorem raiseAt_released (s : State) (stamp ev : Nat) (arg : List W32) : ReleasedKept s (raiseAt s stamp ev arg) :=
  .of_crs (by simp)

theorem releaseDiv0_released (s : State) (c : Nat) (l : List (Nat × Nat)) : ReleasedKept s (releaseDiv0 s c l) := by
  unfold releaseDiv0
  split
  · exact .refl s
  · exact (setCourse_released ..).trans (raiseAt_released ..)

theorem releaseEvents_released (s : State) (c : Nat) (l : List (Nat × W32 × Nat)) :
    ReleasedKept s (releaseEvents s c l) := by
  unfold releaseEvents
  exact (ReleasedKept.foldl _ _ s fun _ _ => raiseAt_released ..).trans (setCourse_released ..)

theorem ownData_released (s : State) (c : Nat) (l : List (Nat × Nat × Bytes)) : ReleasedKept s (ownData s c l) :=
  .foldl _ _ s fun u e => by
    dsimp only
    split
    · exact putData_released ..
    · exact .refl u

theorem releaseData_released (s : State) (c : Nat) (l : List (Nat × Nat × Bytes)) :
    ReleasedKept s (releaseData s c l) := by
  have h : ReleasedKept s ((l.filter fun e => e.1 == 0 && decide (e.2.1 + e.2.2.length ≤
      ((brickInst (theImage s) 0).map (·.len)).getD 0)).foldl (fun s e => putData s e.1 e.2.1 e.2.2) (ownData s c l)) :=
    (ownData_released s c l).trans (.foldl _ _ _ fun _ _ => putData_released ..)
  exact (h.trans (.foldl _ _ _ fun _ _ => putData_released ..)).trans ⟨rfl, rfl, rfl, rfl⟩

theorem eventsTaken_released (s : State) (c n : Nat) : ReleasedKept s (eventsTaken s c n) := setCourse_released ..

theorem endCourse_released (s : State) (c : Nat) : ReleasedKept s (endCourse s c) := ⟨rfl, rfl, rfl, rfl⟩

theorem arbitrate_released (s : State) : ReleasedKept s (arbitrate s) := ⟨rfl, rfl, rfl, rfl⟩

end Sys2Proof.Machine
end

section
/-! An activation's end (R141, R142, R145, R149). -/

namespace Sys2Proof.Machine

/-! ### Outputs -/

theorem releaseOutputs_append (s : State) (l k : List (Nat × W64)) :
    releaseOutputs s (l ++ k) = releaseOutputs (releaseOutputs s l) k := List.foldl_append

@[simp] theorem theImage_releaseOutputs (s : State) (l : List (Nat × W64)) :
    theImage (releaseOutputs s l) = theImage s := by simp [theImage]

/-- A finite value of an output is released as the output's type holds it. -/
theorem releaseOutputs_finite {s : State} {i : Nat} {v : W64} {d : IoEntry} (hd : ioEntry (theImage s) i = some d)
    (ho : d.output = true) (hf : rawNonFinite d.ty (asWritten d v) = false) : releaseOutputs s [(i, v)] =
      if s.time.phase < 105000 then putOut s i (asWritten d v) else putLate s i (asWritten d v) := by
  rw [releaseOutputs, List.foldl_cons, List.foldl_nil]
  split
  next h => exact absurd (h.symm.trans hd) nofun
  next e h =>
    obtain rfl : e = d := Option.some.inj (h.symm.trans hd)
    exact if_neg (by rw [ho]; exact ne_true_of_eq_false hf)

/-- A release leaves the cells of the outputs that it does not name. -/
theorem releaseOutputs_one_ne (s : State) {e : Nat × W64} {i : Nat} (h : i ≠ e.1) :
    tget {} (releaseOutputs s [e]).crs.out i = tget {} s.crs.out i := by
  rcases releaseOutputs_one s e with h' | ⟨d, -, h'⟩
  · rw [h']
  · rw [h']
    split
    · exact tget_tset_ne _ _ _ _ _ h
    · rfl

theorem releaseOutputs_ne (s : State) {l : List (Nat × W64)} {i : Nat} (h : ∀ v, (i, v) ∉ l) :
    tget {} (releaseOutputs s l).crs.out i = tget {} s.crs.out i := by
  induction l using List.reverseRecOn with
  | nil => rfl
  | append_singleton l e ih =>
    have he : i ≠ e.1 := fun hi => h e.2 (by simp [hi])
    rw [releaseOutputs_append, releaseOutputs_one_ne _ he, ih fun v hv => h v (by simp [hv])]

/-- Before phase 105 µs an output holds the one value that the activation wrote to it (R42, R141). -/
theorem releaseOutputs_early {s : State} {l : List (Nat × W64)} {i : Nat} {v : W64} {d : IoEntry}
    (hp : s.time.phase < 105000) (hm : (i, v) ∈ l) (hu : ∀ w, (i, w) ∈ l → w = v) (hd : ioEntry (theImage s) i = some d)
    (ho : d.output = true) (hf : rawNonFinite d.ty (asWritten d v) = false) :
    tget {} (releaseOutputs s l).crs.out i = ⟨asWritten d v, true⟩ := by
  induction l using List.reverseRecOn with
  | nil => simp at hm
  | append_singleton l e ih =>
    obtain ⟨j, w⟩ := e
    rw [releaseOutputs_append]
    by_cases hj : i = j
    · subst hj
      obtain rfl := hu w (by simp)
      rw [releaseOutputs_finite (by simpa using hd) ho hf, releaseOutputs_time, if_pos hp]
      exact tget_tset_self ..
    · rw [releaseOutputs_one_ne _ hj]
      exact ih (by simpa [hj] using hm) fun w hw => hu w (by simp [hw])

/-- From phase 105 µs on, what is released waits (R42). -/
theorem releaseOutputs_one_late {s : State} (hp : 105000 ≤ s.time.phase) (e : Nat × W64) :
    (releaseOutputs s [e]).crs.out = s.crs.out ∧ s.crs.outLate <+: (releaseOutputs s [e]).crs.outLate := by
  rcases releaseOutputs_one s e with h | ⟨d, -, h⟩
  · rw [h]
    exact ⟨rfl, List.prefix_rfl⟩
  · rw [h, if_neg (Nat.not_lt.mpr hp)]
    exact ⟨rfl, List.prefix_append ..⟩

theorem releaseOutputs_out {s : State} (l : List (Nat × W64)) (hp : 105000 ≤ s.time.phase) :
    (releaseOutputs s l).crs.out = s.crs.out := by
  induction l using List.reverseRecOn with
  | nil => rfl
  | append_singleton l e ih =>
    rw [releaseOutputs_append, (releaseOutputs_one_late (by simpa using hp) e).1, ih]

theorem releaseOutputs_late {s : State} {l : List (Nat × W64)} {i : Nat} {v : W64} {d : IoEntry}
    (hp : 105000 ≤ s.time.phase) (hm : (i, v) ∈ l) (hd : ioEntry (theImage s) i = some d) (ho : d.output = true)
    (hf : rawNonFinite d.ty (asWritten d v) = false) :
    (i, asWritten d v, s.time.tick + 1) ∈ (releaseOutputs s l).crs.outLate := by
  induction l using List.reverseRecOn with
  | nil => simp at hm
  | append_singleton l e ih =>
    rw [releaseOutputs_append]
    rcases List.mem_append.mp hm with hl | he
    · exact (releaseOutputs_one_late (by simpa using hp) e).2.subset (ih hl)
    · obtain rfl := List.mem_singleton.mp he
      rw [releaseOutputs_finite (by simpa using hd) ho hf, releaseOutputs_time, if_neg (Nat.not_lt.mpr hp)]
      simp [putLate, commitTick, Nat.not_lt.mpr hp]

/-! ### Set-points and mode requests -/

theorem releaseOutputs_requests (s : State) (l : List (Nat × W64)) :
    (releaseOutputs s l).crs.setpoints = s.crs.setpoints ∧ (releaseOutputs s l).crs.modeReqs = s.crs.modeReqs := by
  induction l using List.reverseRecOn with
  | nil => exact ⟨rfl, rfl⟩
  | append_singleton l e ih =>
    rw [releaseOutputs_append]
    rcases releaseOutputs_one (releaseOutputs s l) e with h | ⟨d, -, h⟩
    · rwa [h]
    · rw [h]
      split <;> exact ih

/-- The set-points and mode requests of an activation follow those that wait, with the commit that carries them (R141). -/
def withRequests (s : State) (rel : Release) : State :=
  { s with crs := { s.crs with
      setpoints := s.crs.setpoints ++ (rel.setpoints.filter fun e =>
        fIsFinite e.2 && (loopDef (theImage s) e.1).isSome).map fun e => (e.1, e.2, commitTick s)
      modeReqs := s.crs.modeReqs ++ (rel.modeReqs.filter fun e => (loopDef (theImage s) e.1).isSome).map fun e =>
        (e.1, e.2, commitTick s) } }

/-- Behind them, solver parameters touch none of what waits for a commit. -/
theorem releaseEngines_released (s : State) (c : Nat) (rel : Release) :
    ReleasedKept (withRequests s rel) (releaseEngines s c rel) := by
  unfold releaseEngines
  extract_lets t sp mr _ u
  refine ReleasedKept.foldl rel.params _ u fun v e => ?_
  dsimp only
  (repeat' split) <;> exact ⟨rfl, rfl, rfl, rfl⟩

/-! ### The set of one activation -/

/-- The name of the first withheld datum is told (EV105, R149). -/
def withheldTold (s : State) (c : Nat) (rel : Release) : State :=
  match firstWithheld s rel with
  | some d => raise s 105 [w32 c, w32 rel.nonFinite, d]
  | none => s

/-- Its withheld values and its divisions by zero are told before an activation's outputs are released. -/
def callsTold (s : State) (c : Nat) (rel : Release) (n : Nat) : State :=
  releaseDiv0 (withheldTold (setPhase s n) c rel) c rel.div0

/-- The outputs of an activation are released at a phase of the tick. -/
def outputsReleased (s : State) (c : Nat) (rel : Release) (n : Nat) : State :=
  releaseOutputs (callsTold s c rel n) rel.outputs

/-- Everything that an activation has produced is released. -/
def setReleased (s : State) (c : Nat) (rel : Release) (n : Nat) : State :=
  canRelease (eventsTaken (releaseEvents (releaseData (releaseEngines (outputsReleased s c rel n) c rel) c rel.data) c
    rel.events) c rel.eventsRead) rel

/-- Behind its end, a course of core pair 1 gives way to the next one (R135), and the first base scan ends the oasis values
(R142); the class 1 set follows (R339). -/
def handedOn (s : State) (c : Nat) : State :=
  sendCourseEnd (if c = 0 then { s with md := { s.md with oasisUntilScan := false } } else arbitrate s) c

/-- The state behind an activation's end, before its notes. -/
def activationEnded (s : State) (c : Nat) (rel : Release) (n : Nat) : State :=
  if c = 0 then windowScanEnd (handedOn (endCourse (setReleased s c rel n) c) c)
  else handedOn (endCourse (setReleased s c rel n) c) c

theorem execCourseActivationEnd_running {s : State} {c : Nat} (rel : Release) (n : Nat) (h : (course s c).state = 1)
    (hr : coursesRun s = true) : exec (.courseActivationEnd c rel n) s =
      .next (sendChanges (panelNote (activationEnded s c rel n))) :=
  congrArg Host.Outcome.next (if_neg (by simp [h, hr]))

theorem withheldTold_keeps (s : State) (c : Nat) (rel : Release) : (withheldTold s c rel).crs = s.crs ∧
    (withheldTold s c rel).time = s.time ∧ (withheldTold s c rel).kiln = s.kiln ∧ (withheldTold s c rel).md = s.md := by
  unfold withheldTold
  split <;> simp

/-- Up to the outputs, nothing has been released. -/
theorem callsTold_released (s : State) (c : Nat) (rel : Release) (n : Nat) : ReleasedKept s (callsTold s c rel n) :=
  .trans (t := withheldTold (setPhase s n) c rel) (.of_crs (withheldTold_keeps _ c rel).1) (releaseDiv0_released ..)

theorem callsTold_keeps (s : State) (c : Nat) (rel : Release) (n : Nat) :
    (callsTold s c rel n).time = { s.time with phase := n } ∧ (callsTold s c rel n).kiln = s.kiln ∧
    (callsTold s c rel n).md = s.md := by
  obtain ⟨-, htime, hkiln, hmd⟩ := withheldTold_keeps (setPhase s n) c rel
  simp [callsTold, htime, hkiln, hmd]

theorem outputsReleased_runsOn (s : State) (c : Nat) (rel : Release) (n : Nat) : RunsOn s (outputsReleased s c rel n) := by
  have h : RunsOn s (withheldTold (setPhase s n) c rel) := .of_table (congrArg (·.c) (withheldTold_keeps _ c rel).1)
  exact (h.trans (releaseDiv0_runsOn ..)).trans (releaseOutputs_runsOn ..)

theorem setReleased_time (s : State) (c : Nat) (rel : Release) (n : Nat) :
    (setReleased s c rel n).time = { s.time with phase := n } := by
  simp [setReleased, outputsReleased, callsTold_keeps]

theorem setReleased_md (s : State) (c : Nat) (rel : Release) (n : Nat) : (setReleased s c rel n).md = s.md := by
  simp [setReleased, outputsReleased, callsTold_keeps]

theorem setReleased_runsOn (s : State) (c : Nat) (rel : Release) (n : Nat) : RunsOn s (setReleased s c rel n) :=
  (((((outputsReleased_runsOn s c rel n).trans (releaseEngines_runsOn _ c rel)).trans
    (releaseData_runsOn _ c rel.data)).trans (releaseEvents_runsOn _ c rel.events)).trans
    (eventsTaken_runsOn _ c rel.eventsRead)).trans (.of_table (by simp [setReleased]))

/-- Behind the outputs and the requests, nothing of the set waits for a commit. -/
theorem setReleased_released (s : State) (c : Nat) (rel : Release) (n : Nat) :
    ReleasedKept (withRequests (outputsReleased s c rel n) rel) (setReleased s c rel n) :=
  ((((releaseEngines_released _ c rel).trans (releaseData_released _ c rel.data)).trans
    (releaseEvents_released _ c rel.events)).trans (eventsTaken_released _ c rel.eventsRead)).trans
    (.of_crs (by simp [setReleased]))

/-! ### The end of the course (Table 04.9) -/

theorem course_endCourse {s : State} {c : Nat} (h : (course s c).state = 1) :
    (course (endCourse s c) c).state = 0 ∧
    (course (endCourse s c) c).consec = (if (course s c).overran then (course s c).consec else 0) ∧
    (course (endCourse s c) c).lastTime = min (((course s c).ranNs + (nowNs s - (course s c).from_)) / 1000) 0xFFFFFFFF ∧
    (course (endCourse s c) c).maxTime =
      max (course s c).maxTime (min (((course s c).ranNs + (nowNs s - (course s c).from_)) / 1000) 0xFFFFFFFF) := by
  have hx : endStretch s (course s c) = { course s c with
      busy := (course s c).busy ++ [((course s c).from_, nowNs s)]
      ranNs := (course s c).ranNs + (nowNs s - (course s c).from_), from_ := nowNs s } := if_pos (.inl h)
  unfold endCourse
  extract_lets x us u
  have hu : course { u with exch := { u.exch with added := u.exch.added.filter fun i => brickCourse u i != some c } } c =
      course u c := rfl
  rw [hu, course_setCourse_self]
  simp only [us, x, hx, and_self]

/-- A course that does not run is left alone by the arbitration (R135). -/
theorem course_arbitrate_idle {s : State} {c : Nat} (h : (course s c).state = 0) :
    course (arbitrate s) c = course s c := by
  have hl : ∀ (f : Nat × CourseSt → CourseSt) (l : Tab CourseSt), (tget ({} : CourseSt) l c).state = 0 →
      tget ({} : CourseSt) (l.map fun e => if e.1 = 0 ∨ e.2.state = 0 then e else (e.1, f e)) c = tget {} l c := by
    intro f l
    induction l with
    | nil => exact fun _ => rfl
    | cons e l ih =>
      obtain ⟨j, x⟩ := e
      intro h
      by_cases hj : j = c
      · have hx : x.state = 0 := by simpa [tget, hj] using h
        simp [tget, hj, hx]
      · have hc : ∀ (y : CourseSt) (k : Tab CourseSt), tget ({} : CourseSt) ((j, y) :: k) c = tget {} k c :=
          fun y k => if_neg hj
        rw [hc] at h ⊢
        rw [← ih h, List.map_cons]
        split <;> exact hc ..
  exact hl _ _ h

theorem sendCourseEnd_leaves (s : State) (c : Nat) :
    RunsOn s (sendCourseEnd s c) ∧ ReleasedKept s (sendCourseEnd s c) := by
  unfold sendCourseEnd
  split
  · exact ⟨.of_table (by simp), .of_crs (by simp)⟩
  · split
    · exact ⟨.of_table (by simp), .of_crs (by simp)⟩
    · exact ⟨.of_table (by simp), by constructor <;> simp⟩

theorem exchComplete_leaves (s : State) : RunsOn s (exchComplete s) ∧ ReleasedKept s (exchComplete s) := by
  unfold exchComplete
  dsimp only
  split
  · exact ⟨.of_table (by simp), .of_crs (by simp)⟩
  · exact ⟨.of_table (by simp), by constructor <;> simp⟩

/-- The end of a base scan moves the window on, and nothing of the courses or of what they have released (R173). -/
theorem windowScanEnd_leaves (s : State) : RunsOn s (windowScanEnd s) ∧ ReleasedKept s (windowScanEnd s) ∧
    (windowScanEnd s).md.oasisUntilScan = s.md.oasisUntilScan := by
  have h0 : ∀ t : State, t.crs = s.crs → t.md = s.md → RunsOn s t ∧ ReleasedKept s t ∧
      t.md.oasisUntilScan = s.md.oasisUntilScan := fun t hc hm =>
    ⟨.of_table (by rw [hc]), .of_crs hc, by rw [hm]⟩
  unfold windowScanEnd
  split
  · exact h0 s rfl rfl
  · extract_lets _ u
    split
    · exact h0 _ rfl rfl
    · exact h0 _ rfl rfl
    · obtain ⟨hr, hk⟩ := exchComplete_leaves u
      refine ⟨⟨hr.courses⟩, ⟨hk.out, hk.outLate, hk.setpoints, hk.modeReqs⟩, ?_⟩
      simp [leaveChange, u]
    · exact h0 u rfl rfl

theorem handedOn_leaves {s : State} {c : Nat} (h : (course s c).state = 0) :
    runCore (course (handedOn s c) c) = runCore (course s c) ∧ ReleasedKept s (handedOn s c) ∧
    (c = 0 → (handedOn s c).md.oasisUntilScan = false) ∧ (c ≠ 0 → (handedOn s c).md = s.md) := by
  unfold handedOn
  by_cases hc : c = 0
  · rw [if_pos hc]
    obtain ⟨hr, hk⟩ := sendCourseEnd_leaves { s with md := { s.md with oasisUntilScan := false } } c
    exact ⟨hr.courses c, ⟨hk.out, hk.outLate, hk.setpoints, hk.modeReqs⟩, fun _ => by simp, fun h => absurd hc h⟩
  · rw [if_neg hc]
    obtain ⟨hr, hk⟩ := sendCourseEnd_leaves (arbitrate s) c
    refine ⟨(hr.courses c).trans (by rw [course_arbitrate_idle h]), (arbitrate_released s).trans hk, fun h => absurd h hc,
      fun _ => by simp⟩

/-- The course stands at its end, and what has been released stands as its set has left it. -/
theorem activationEnded_parts {s : State} {c : Nat} (rel : Release) (n : Nat) (h : (course s c).state = 1) :
    runCore (course (activationEnded s c rel n) c) = runCore (course (endCourse (setReleased s c rel n) c) c) ∧
    ReleasedKept (withRequests (outputsReleased s c rel n) rel) (activationEnded s c rel n) ∧
    (c = 0 → (activationEnded s c rel n).md.oasisUntilScan = false) ∧
    (c ≠ 0 → (activationEnded s c rel n).md = s.md) := by
  have hrun : (course (setReleased s c rel n) c).state = 1 :=
    (congrArg (·.state) ((setReleased_runsOn s c rel n).courses c)).trans h
  obtain ⟨hr, hk, hz, hm⟩ := handedOn_leaves (course_endCourse hrun).1
  have hk := ((setReleased_released s c rel n).trans (endCourse_released ..)).trans hk
  unfold activationEnded
  by_cases hc : c = 0
  · obtain ⟨wr, wk, wz⟩ := windowScanEnd_leaves (handedOn (endCourse (setReleased s c rel n) c) c)
    rw [if_pos hc]
    exact ⟨(wr.courses c).trans hr, hk.trans wk, fun h => wz.trans (hz h), fun h => absurd hc h⟩
  · rw [if_neg hc]
    exact ⟨hr, hk, hz, fun h => (hm h).trans (by simp [setReleased_md])⟩

/-- The course of the activation at its end (R145, Table 04.9). -/
theorem course_activationEnded {s : State} {c : Nat} (rel : Release) (n : Nat) (h : (course s c).state = 1) :
    (course (activationEnded s c rel n) c).state = 0 ∧
    (course (activationEnded s c rel n) c).lastTime = executionUs s c n ∧
    (course (activationEnded s c rel n) c).maxTime = max (course s c).maxTime (executionUs s c n) ∧
    (course (activationEnded s c rel n) c).consec = if (course s c).overran then (course s c).consec else 0 := by
  have hset := (setReleased_runsOn s c rel n).courses c
  have hover : (course (setReleased s c rel n) c).overran = (course s c).overran := congrArg (·.overran) hset
  have hconsec : (course (setReleased s c rel n) c).consec = (course s c).consec := congrArg (·.consec) hset
  have hmax : (course (setReleased s c rel n) c).maxTime = (course s c).maxTime := congrArg (·.maxTime) hset
  have hran : (course (setReleased s c rel n) c).ranNs = (course s c).ranNs := congrArg (·.ranNs) hset
  have hfrom : (course (setReleased s c rel n) c).from_ = (course s c).from_ := congrArg (·.from_) hset
  have hnow : nowNs (setReleased s c rel n) = s.time.tick * 125000 + n := by
    rw [nowNs, setReleased_time, tickNs]
  obtain ⟨estate, econsec, elast, emax⟩ := course_endCourse ((congrArg (·.state) hset).trans h)
  obtain ⟨hend, -⟩ := activationEnded_parts rel n h
  rw [hover, hconsec] at econsec
  rw [hran, hfrom, hnow] at elast emax
  rw [hmax] at emax
  exact ⟨(congrArg (·.state) hend).trans estate, (congrArg (·.lastTime) hend).trans elast,
    (congrArg (·.maxTime) hend).trans emax, (congrArg (·.consec) hend).trans econsec⟩

/-- Settles O27: what the set releases, the course at its end, and the steps behind it that leave both alone. -/
theorem activationEndReleasesOneSet : Obligations.ActivationEndReleasesOneSet := by
  unfold Obligations.ActivationEndReleasesOneSet
  intro s c rel n h hr
  obtain ⟨-, kept, hzero, hmd⟩ := activationEnded_parts rel n h
  obtain ⟨cstate, clast, cmax, cconsec⟩ := course_activationEnded rel n h
  obtain ⟨tmd, tcrs, -⟩ := noted_keeps (activationEnded s c rel n)
  have divided := callsTold_released s c rel n
  obtain ⟨utime, ukiln, -⟩ := callsTold_keeps s c rel n
  have uimage : theImage (callsTold s c rel n) = theImage s := by rw [theImage, ukiln, theImage]
  have otime : (outputsReleased s c rel n).time = { s.time with phase := n } := (releaseOutputs_time ..).trans utime
  have oimage : theImage (outputsReleased s c rel n) = theImage s := (theImage_releaseOutputs ..).trans uimage
  obtain ⟨osets, omodes⟩ := releaseOutputs_requests (callsTold s c rel n) rel.outputs
  have ocommit : commitTick (outputsReleased s c rel n) = carriedBy s n := by rw [commitTick, otime, carriedBy]
  refine ⟨_, execCourseActivationEnd_running rel n h hr, ?_⟩
  rw [course, tcrs]
  refine ⟨cstate, clast, cmax, cconsec, fun hc => by rw [tmd, hzero hc], fun hc => by rw [tmd, hmd hc], ?_⟩
  rw [kept.out, kept.outLate, kept.setpoints, kept.modeReqs]
  refine ⟨fun i v d hm hu hd ho hf => ?_, fun hp => ?_, fun i hi => ?_, ?_, ?_⟩
  · split
    next hp => exact releaseOutputs_early (by rwa [utime]) hm hu (by rwa [uimage]) ho hf
    next hp =>
      have hl := releaseOutputs_late (by rw [utime]; exact Nat.not_lt.mp hp) hm (by rwa [uimage]) ho hf
      rwa [utime] at hl
  · exact (releaseOutputs_out rel.outputs (by rwa [utime])).trans divided.out
  · exact (releaseOutputs_ne _ hi).trans (by rw [divided.out])
  · rw [withRequests, oimage, ocommit]
    exact congrArg (· ++ _) (osets.trans divided.setpoints)
  · rw [withRequests, oimage, ocommit]
    exact congrArg (· ++ _) (omodes.trans divided.modeReqs)

end Sys2Proof.Machine
end

section
/-! SUPPORT. A course fault (R150): every activation is abandoned and nothing of it is released, and the mode changes. -/

namespace Sys2Proof.Machine

/-! ### What abandoned activations leave alone -/

/-- Nothing that the plant or another course could see has been released (R141). -/
structure NothingReleased (s t : State) : Prop where
  kiln : t.kiln = s.kiln
  released : ReleasedKept s t
  globals : ∀ i, brickCourse s i = none → brickData t i = brickData s i

theorem brickCourse_of_kiln {s t : State} (h : t.kiln = s.kiln) (i : Nat) : brickCourse t i = brickCourse s i := by
  rw [brickCourse, theImage, h, brickCourse, theImage]

theorem brickData_of_kiln {s t : State} (h : t.kiln = s.kiln) (hd : t.crs.data = s.crs.data) (i : Nat) :
    brickData t i = brickData s i := by
  unfold brickData
  rw [hd, theImage, h, theImage]

theorem NothingReleased.of_data {s t : State} (hk : t.kiln = s.kiln) (hr : ReleasedKept s t)
    (hd : t.crs.data = s.crs.data) : NothingReleased s t :=
  ⟨hk, hr, fun i _ => brickData_of_kiln hk hd i⟩

theorem NothingReleased.of_crs {s t : State} (hk : t.kiln = s.kiln) (hc : t.crs = s.crs) : NothingReleased s t :=
  .of_data hk (.of_crs hc) (by rw [hc])

theorem NothingReleased.refl (s : State) : NothingReleased s s := .of_crs rfl rfl

theorem NothingReleased.trans {s t u : State} (h : NothingReleased s t) (k : NothingReleased t u) :
    NothingReleased s u :=
  ⟨k.kiln.trans h.kiln, h.released.trans k.released, fun i hi =>
    (k.globals i ((brickCourse_of_kiln h.kiln i).trans hi)).trans (h.globals i hi)⟩

theorem NothingReleased.foldl {α : Type} (l : List α) (g : State → α → State) (s : State)
    (h : ∀ u b, NothingReleased u (g u b)) : NothingReleased s (l.foldl g s) :=
  foldl_inv (P := NothingReleased s) l g s (.refl s) fun u b hu => hu.trans (h u b)

theorem NothingReleased.raise (s : State) (ev : Nat) (arg : List W32) : NothingReleased s (raise s ev arg) :=
  .of_crs (by simp) (by simp)

theorem setCourse_releases (s : State) (c : Nat) (x : CourseSt) : NothingReleased s (setCourse s c x) :=
  .of_data rfl (setCourse_released ..) rfl

theorem eventsTaken_releases (s : State) (c n : Nat) : NothingReleased s (eventsTaken s c n) := setCourse_releases ..

theorem arbitrate_releases (s : State) : NothingReleased s (arbitrate s) := .of_data rfl (arbitrate_released s) rfl

theorem brickData_putData_ne (s : State) {i j : Nat} (off : Nat) (b : Bytes) (h : j ≠ i) :
    brickData (putData s i off b) j = brickData s j := by
  unfold brickData
  have hf : tfind (putData s i off b).crs.data j = tfind s.crs.data j := tfind_tset_ne _ _ h
  rw [hf]
  rfl

/-- Bricks write in their own data alone (R131). -/
theorem ownData_releases (s : State) (c : Nat) (l : List (Nat × Nat × Bytes)) : NothingReleased s (ownData s c l) :=
  .foldl _ _ s fun u e => by
    dsimp only
    split
    next h =>
      refine ⟨rfl, putData_released .., fun i hi => brickData_putData_ne u _ _ fun hie => ?_⟩
      rw [← hie, hi] at h
      exact absurd h.1 nofun
    next => exact .refl u

theorem leaveUndone_releases (s : State) (c : Nat) : NothingReleased s (leaveUndone s c) := by
  have h : ∀ (u : State) (d : Release), NothingReleased u (leaveDone u c d) := fun u d => by
    have hdiv : NothingReleased u (releaseDiv0 u c d.div0) :=
      .of_data (by simp) (releaseDiv0_released ..) (by unfold releaseDiv0; split <;> simp)
    have hev : ∀ v : State, NothingReleased v (releaseEvents v c d.events) := fun v =>
      .of_data (by simp) (releaseEvents_released ..) (by simp [releaseEvents])
    exact (((hdiv.trans (ownData_releases _ c d.data)).trans (hev _)).trans (eventsTaken_releases _ c d.eventsRead)).trans
      (.of_crs (by simp [leaveDone]) (by simp [leaveDone]))
  have k := h { s with free := s.free + 1 } (Config.leftRelease s.free c)
  exact ⟨k.kiln, ⟨k.released.out, k.released.outLate, k.released.setpoints, k.released.modeReqs⟩, k.globals⟩

theorem abandonOne_releases (s : State) (c : Nat) : NothingReleased s (abandonOne s c) := by
  unfold abandonOne
  split
  · exact .refl s
  · exact (leaveUndone_releases s c).trans (setCourse_releases ..)

theorem abandonCourses_releases (s : State) : NothingReleased s (abandonCourses s) :=
  (NothingReleased.foldl _ _ s abandonOne_releases).trans (.of_data rfl ⟨rfl, rfl, rfl, rfl⟩ rfl)

/-! ### The courses -/

/-- What counts for a course beyond its activation (Table 04.8, Table 04.9). -/
def tally (x : CourseSt) : Nat × Nat × Nat × Bool := (x.overruns, x.skipped, x.consec, x.trapped)

theorem RunsOn.tally {s t : State} (h : RunsOn s t) (c : Nat) :
    Machine.tally (course t c) = Machine.tally (course s c) :=
  (congrArg Machine.tally (h.courses c) : Machine.tally (runCore _) = Machine.tally (runCore _))

theorem RunsOn.state {s t : State} (h : RunsOn s t) (c : Nat) : (course t c).state = (course s c).state :=
  congrArg (·.state) (h.courses c)

theorem abandonOne_course (s : State) (c j : Nat) : tally (course (abandonOne s c) j) = tally (course s j) ∧
    (course (abandonOne s c) j).state = if j = c then 0 else (course s j).state := by
  unfold abandonOne
  split
  next h =>
    refine ⟨rfl, ?_⟩
    split
    next e => rw [e, h]
    next => rfl
  next h =>
    have hr := leaveUndone_runsOn s c
    rw [course_setCourse]
    split
    next e =>
      refine ⟨.trans ?_ (hr.tally j), rfl⟩
      rw [e, endStretch]
      split <;> rfl
    next => exact ⟨hr.tally j, hr.state j⟩

theorem tget_unlisted {α : Type} (d : α) {t : Tab α} {k : Nat} (h : k ∉ t.map (·.1)) : tget d t k = d := by
  induction t with
  | nil => rfl
  | cons e t ih =>
    have hk : e.1 ≠ k := fun hk => h (by simp [hk])
    exact (if_neg hk).trans (ih fun hm => h (by simp [hm]))

theorem abandonAll_course (l : List Nat) (s : State) (j : Nat) :
    tally (course (l.foldl abandonOne s) j) = tally (course s j) ∧
    (course (l.foldl abandonOne s) j).state = if j ∈ l then 0 else (course s j).state := by
  induction l generalizing s with
  | nil => exact ⟨rfl, rfl⟩
  | cons c l ih =>
    obtain ⟨ht, hs⟩ := abandonOne_course s c j
    obtain ⟨iht, ihs⟩ := ih (abandonOne s c)
    refine ⟨iht.trans ht, ihs.trans ?_⟩
    rw [hs]
    by_cases hj : j = c <;> by_cases hl : j ∈ l <;> simp [hj, hl]

theorem abandonCourses_tally (s : State) (c : Nat) : tally (course (abandonCourses s) c) = tally (course s c) :=
  (abandonAll_course _ s c).1

theorem abandonCourses_idle (s : State) (c : Nat) : (course (abandonCourses s) c).state = 0 := by
  refine (abandonAll_course _ s c).2.trans ?_
  split
  next => rfl
  next h => rw [course, tget_unlisted _ h]

/-- Where every course is idle there is nothing to abandon but the marks of a breakpoint. -/
theorem abandonCourses_again {s : State} (h : ∀ c, (course s c).state = 0) : (abandonCourses s).crs = { s.crs with
    frozenAt := 0, bp := s.crs.bp.map fun e => (e.1, { e.2 with reached := false }) } := by
  unfold abandonCourses
  dsimp only
  rw [foldl_eq_self fun c _ => if_pos (h c)]

/-! ### The change of mode -/

theorem resolve_crs (s : State) {m : Mode} (h : mirageFree m = false) : (resolve s m).crs = s.crs := by
  unfold resolve
  simp [h]

/-- Entry to a mode in which no course runs abandons the activations (R137). -/
theorem enterEffects_crs_stopped (s : State) (old : Mode) {m : Mode} (h : runs m = false) :
    (enterEffects s old m).crs = (abandonCourses s).crs := by
  have hm : m ≠ .run := by rintro rfl; simp [runs] at h
  unfold enterEffects
  simp [h, hm]

/-- In OASIS every course is idle, and nothing has been released on the way (R141). -/
theorem changeMode_oasis_crs {s : State} (cause : Nat) (hm : s.md.mode ≠ .oasis) (h : ∀ c, (course s c).state = 0) :
    (changeMode s .oasis cause).crs = { s.crs with
      frozenAt := 0, bp := s.crs.bp.map fun e => (e.1, { e.2 with reached := false }) } := by
  unfold changeMode
  extract_lets old u v _ w
  rw [if_neg hm]
  have hw : w.crs = s.crs := (resolve_crs u rfl).trans (by simp [u])
  have hc : (settle (enterEffects w old .oasis)).crs = (abandonCourses w).crs := by
    rw [← enterEffects_crs_stopped w old (m := .oasis) rfl]
    simp
  rw [hc, abandonCourses_again fun c => by rw [course, hw]; exact h c, hw]

end Sys2Proof.Machine
end

section
/-! MAX_SCAN, OVERRUN_LIMIT and execution traps (R144, R145, R147, R150). -/

namespace Sys2Proof.Machine

/-! ### The reaction (R150) -/

theorem faultable_iff {s : State} : faultable s = true ↔ inControl s = true ∧ coursesRun s = true ∧
    (s.md.mode = .run ∨ s.md.mode = .hold ∨ s.md.mode = .degraded) := by
  simp [faultable, and_assoc]

theorem inWindow_of_faultable {s u : State} (h : faultable s = true) (hm : u.md = s.md) : inWindow u = false := by
  obtain ⟨-, -, hmode⟩ := faultable_iff.mp h
  have : s.md.mode ≠ .change := by rintro e; simp [e] at hmode
  simp [inWindow, hm, this]

/-- A unit in control goes to OASIS from RUN, HOLD and DEGRADED, its activations abandoned before (R150). -/
theorem courseOasis_eq {s u : State} (h : faultable s = true) (hm : u.md = s.md) :
    courseOasis u = changeMode (abandonCourses u) .oasis causeReaction := by
  obtain ⟨hc, -, hmode⟩ := faultable_iff.mp h
  have hc : inControl (abandonCourses u) = true := by simpa [inControl, hm] using hc
  unfold courseOasis oasisReaction
  rw [if_pos hc]
  rcases hmode with h | h | h <;> simp [hm, h]

theorem courseOasis_raises {s u : State} (h : faultable s = true) (hm : u.md = s.md) : Raises u (courseOasis u) := by
  rw [courseOasis_eq h hm]
  exact (abandonCourses_raises u).trans (changeMode_raises ..)

/-- The courses that the reaction leaves are those that it has abandoned. -/
theorem courseOasis_crs {s u : State} (h : faultable s = true) (hm : u.md = s.md) : (courseOasis u).crs =
    { (abandonCourses u).crs with
      frozenAt := 0, bp := (abandonCourses u).crs.bp.map fun e => (e.1, { e.2 with reached := false }) } := by
  obtain ⟨-, -, hmode⟩ := faultable_iff.mp h
  rw [courseOasis_eq h hm]
  refine changeMode_oasis_crs _ ?_ (abandonCourses_idle u)
  rcases hmode with h | h | h <;> simp [hm, h]

theorem courseOasis_tally {s u : State} (h : faultable s = true) (hm : u.md = s.md) (c : Nat) :
    tally (course (courseOasis u) c) = tally (course u c) := by
  rw [course, courseOasis_crs h hm]
  exact abandonCourses_tally u c

theorem faulted_of_courseOasis {s u : State} (h : faultable s = true) (hm : u.md = s.md) (hn : NothingReleased s u) :
    faulted s (courseOasis u) := by
  have hcrs := courseOasis_crs h hm
  have hk : (courseOasis u).kiln = u.kiln := by
    rw [courseOasis_eq h hm]
    simp
  obtain ⟨-, -, hmode⟩ := faultable_iff.mp h
  have hne : s.md.mode ≠ .oasis := by rintro e; simp [e] at hmode
  have hn : NothingReleased s (courseOasis u) := (hn.trans (abandonCourses_releases u)).trans
    (.of_data (by simp [hk]) ⟨by rw [hcrs], by rw [hcrs], by rw [hcrs], by rw [hcrs]⟩ (by rw [hcrs]))
  refine ⟨?_, ?_, fun c => ?_, hn.released.out, hn.released.outLate, hn.released.setpoints, hn.released.modeReqs,
    hn.globals⟩
  · rw [courseOasis_eq h hm, changeMode_mode]
  · rw [courseOasis_eq h hm, changeMode_md]
    simp [hm, hne]
  · rw [course, hcrs]
    exact abandonCourses_idle u c

theorem intake_of_noted {s u : State} {n : Nat} {evs : List (Nat × List W32)} (h : faultable s = true)
    (hm : u.md = s.md) (hu : Noted s n evs u) : (recorded s n evs).intake <+: (courseOasis u).ev.intake := by
  rw [← hu.ev]
  exact (courseOasis_raises h hm).intake

theorem changeFault_outside {s : State} (h : inWindow s = false) (reason : Nat) : changeFault s reason = s :=
  if_pos (by simp [h])

/-! ### The watch of the base scan (R144) -/

/-- The base scan has run for n ticks, and is warned. -/
def watchedCourse (s : State) (n : Nat) : CourseSt :=
  { course s 0 with
    elapsed := n, watchTick := s.time.tick, warned := true
    overruns := if (course s 0).warned then (course s 0).overruns else satAdd 32 (course s 0).overruns 1 }

/-- The watch at MAX_SCAN: the scan is counted and told once. -/
def watchWarned (s : State) (n : Nat) : State :=
  if (course s 0).warned then setCourse s 0 (watchedCourse s n)
  else raise (setCourse s 0 (watchedCourse s n)) 96 ([0] ++ w64 (course s 0).startTick)

theorem watchWarned_parts (s : State) (n : Nat) : (watchWarned s n).md = s.md ∧ (watchWarned s n).exch = s.exch ∧
    maxScan (watchWarned s n) = maxScan s ∧ course (watchWarned s n) 0 = watchedCourse s n ∧
    NothingReleased s (watchWarned s n) := by
  unfold watchWarned
  split
  · exact ⟨rfl, rfl, rfl, course_setCourse_self .., setCourse_releases ..⟩
  · refine ⟨by simp, by simp, by simp [maxScan, theImage], ?_, (setCourse_releases ..).trans (.raise ..)⟩
    rw [course, (raise_keeps _ 96 _).2.1.1]
    exact course_setCourse_self ..

theorem Noted.watchWarned {s t : State} {n : Nat} {evs : List (Nat × List W32)} (h : Noted s n evs t) (k : Nat) :
    Noted s n (evs ++ if (course t 0).warned then [] else [(96, [0] ++ w64 (course t 0).startTick)])
      (watchWarned t k) := by
  have hs : Noted s n evs (setCourse t 0 (watchedCourse t k)) := h.keep rfl rfl
  unfold Machine.watchWarned
  split
  · rwa [List.append_nil]
  · exact hs.raise ..

theorem watchScan_eq {s : State} {n : Nat} (hw : inWindow s = false) (hn : maxScan s ≤ n) : watchScan s n =
    if 4 * maxScan s ≤ n then courseOasis (raise (watchWarned s n) 97 ([0] ++ w64 (course s 0).startTick))
    else watchWarned s n := by
  obtain ⟨hmd, hexch, hmax, -⟩ := watchWarned_parts s n
  have hout : inWindow (watchWarned s n) = false := by simpa [inWindow, inControl, hmd, hexch] using hw
  rw [← hmax]
  unfold watchScan
  extract_lets x at1 u v
  have hv : v = watchWarned s n := by
    cases h : (course s 0).warned
    · have h1 : at1 = true := by simp [at1, x, h, hn]
      have hu : watchWarned s n = raise u 96 ([0] ++ w64 x.startTick) := by
        simp [watchWarned, watchedCourse, u, x, h, h1]
      simp only [v, h1, if_true]
      rw [← hu, changeFault_outside hout]
    · have h1 : at1 = false := by simp [at1, x, h]
      simp [v, u, x, h, h1, watchWarned, watchedCourse]
  rw [hv]

/-- The watch looks at a base scan that runs, once in each tick. -/
theorem baseWatch_watches {s : State} (hr : coursesRun s = true) (hs : (course s 0).state = 1)
    (ht : (course s 0).watchTick ≠ s.time.tick) :
    baseWatch (setPhase s 20000) = watchScan (setPhase s 20000) ((course s 0).elapsed + 1) := by
  have hr : coursesRun (setPhase s 20000) = true := hr
  unfold baseWatch
  refine if_neg ?_
  rintro (h | h | h)
  · exact h hs
  · exact ht h
  · simp [hr] at h

/-! ### Overruns (R145) -/

/-- A due course that still runs has overrun (R145). -/
def overrunCourse (s : State) (c : Nat) : CourseSt :=
  { course s c with
    overruns := satAdd 32 (course s c).overruns 1, skipped := satAdd 32 (course s c).skipped 1
    consec := min ((course s c).consec + 1) 255, overran := true, watchTick := s.time.tick }

/-- CONSEC of a course with one overrun more (R145). -/
def overrunRun (s : State) (c : Nat) : Nat := min ((course s c).consec + 1) 255

/-- The overrun is counted and told. -/
def overrunTold (s : State) (c : Nat) : State :=
  raise (setCourse s c (overrunCourse s c)) 98 ([w32 c, w32 (overrunRun s c)] ++ w64 s.time.tick)

/-- The overrun is the last that its limit allows, and that is told. -/
def limitTold (s : State) (c : Nat) : State := raise (overrunTold s c) 99 [w32 c, w32 (overrunRun s c)]

theorem overrun_atLimit {s : State} {c : Nat} (hw : inWindow s = false) (ht : (course s c).watchTick ≠ s.time.tick)
    (hl : ((courseDef (theImage s) c).map (·.limit)).getD 8 ≤ overrunRun s c) :
    overrun s c = courseOasis (limitTold s c) := by
  have hout : inWindow (overrunTold s c) = false := by simpa [inWindow, inControl, overrunTold] using hw
  have himg : theImage (overrunTold s c) = theImage s := by simp [theImage, overrunTold]
  unfold overrun
  extract_lets x n u v w
  have hwv : w = overrunTold s c := changeFault_outside hout 11
  rw [if_neg ht, hwv, himg]
  exact if_pos hl

theorem limitTold_parts (s : State) (c : Nat) : (limitTold s c).md = s.md ∧
    course (limitTold s c) c = overrunCourse s c ∧ NothingReleased s (limitTold s c) := by
  refine ⟨by simp [limitTold, overrunTold], ?_, ((setCourse_releases s c _).trans (.raise _ 98 _)).trans (.raise _ 99 _)⟩
  have hcrs : (limitTold s c).crs = (setCourse s c (overrunCourse s c)).crs := by simp [limitTold, overrunTold]
  rw [course, hcrs]
  exact course_setCourse_self ..

theorem Noted.limitTold {s t : State} {n : Nat} {evs : List (Nat × List W32)} (h : Noted s n evs t) (c : Nat) :
    Noted s n (evs ++ [(98, [w32 c, w32 (overrunRun t c)] ++ w64 t.time.tick), (99, [w32 c, w32 (overrunRun t c)])])
      (limitTold t c) := by
  have hs : Noted s n evs (setCourse t c (overrunCourse t c)) := h.keep rfl rfl
  unfold Machine.limitTold Machine.overrunTold
  simpa using (hs.raise 98 _).raise 99 _

/-! ### The commands -/

theorem inWindow_setPhase (s : State) (n : Nat) : inWindow (setPhase s n) = inWindow s := rfl

theorem maxScan_setPhase (s : State) (n : Nat) : maxScan (setPhase s n) = maxScan s := rfl

theorem course_setPhase (s : State) (n c : Nat) : course (setPhase s n) c = course s c := rfl

theorem setPhase_releases (s : State) (n : Nat) : NothingReleased s (setPhase s n) := .of_crs rfl rfl

theorem execMaxScanReached_watches {s : State} (hr : coursesRun s = true) (hs : (course s 0).state = 1)
    (ht : (course s 0).watchTick ≠ s.time.tick) (hw : (course s 0).warned = false)
    (hn : maxScan s ≤ (course s 0).elapsed + 1) :
    exec .maxScanReached s = .next (watchScan (setPhase s 20000) ((course s 0).elapsed + 1)) :=
  congrArg Host.Outcome.next ((if_pos ⟨hn, hw⟩).trans (baseWatch_watches hr hs ht))

theorem execScanWatchExpiry_watches {s : State} (hr : coursesRun s = true) (hs : (course s 0).state = 1)
    (ht : (course s 0).watchTick ≠ s.time.tick) (hn : 4 * maxScan s ≤ (course s 0).elapsed + 1) :
    exec .scanWatchExpiry s = .next (watchScan (setPhase s 20000) ((course s 0).elapsed + 1)) :=
  congrArg Host.Outcome.next ((if_pos hn).trans (baseWatch_watches hr hs ht))

theorem execOverrunLimitReached_due {s : State} {c : Nat} (hr : coursesRun s = true) (hc : c ≠ 0)
    (hs : (course s c).state ≠ 0) (hd : courseDue s c = true)
    (hl : ((courseDef (theImage s) c).map (·.limit)).getD 8 ≤ (course s c).consec + 1) :
    exec (.overrunLimitReached c) s = .next (overrun (setPhase s 20000) c) :=
  congrArg Host.Outcome.next (if_pos ⟨hc, hs, hr, hd, hl⟩)

/-- The activation is abandoned where a brick trapped (R147). -/
def trappedCourse (s : State) (c n : Nat) : CourseSt :=
  { endStretch s (course s c) with
    state := 0, firstScan := false, firstDue := false, takeoverScan := false, takeoverDue := false, warned := false
    trapped := true, endTick := s.time.tick, endLate := decide (20000 ≤ n) }

/-- The trap is told once its activation is abandoned (EV101). -/
def trapTold (s : State) (c brick off n : Nat) : State :=
  raise (arbitrate (setCourse (leaveUndone (setPhase s n) c) c (trappedCourse (leaveUndone (setPhase s n) c) c n))) 101
    [w32 c, w32 brick, w32 off]

theorem trapTold_md (s : State) (c brick off n : Nat) : (trapTold s c brick off n).md = s.md := by simp [trapTold]

theorem execExecutionTrap_faultable {s : State} {c brick o : Nat} (off n : Nat) (h : faultable s = true)
    (hs : (course s c).state = 1) (ho : brickOrder s c brick = some o) (hp : (course s c).pos ≤ o + 1) :
    exec (.executionTrap c brick off n) s = .next (courseOasis (trapTold s c brick off n)) := by
  obtain ⟨-, hr, -⟩ := faultable_iff.mp h
  have hw : inWindow (trapTold s c brick off n) = false := inWindow_of_faultable h (trapTold_md ..)
  refine congrArg Host.Outcome.next ((if_neg ?_).trans (if_neg (ne_true_of_eq_false hw)))
  simp [hs, hr, ho, hp]

/-- Behind its trap the course is idle and marked, also if the arbitration looks at it. -/
theorem course_trapTold (s : State) (c brick off n : Nat) : (course (trapTold s c brick off n) c).trapped = true := by
  have hself : course (setCourse (leaveUndone (setPhase s n) c) c (trappedCourse (leaveUndone (setPhase s n) c) c n)) c =
    trappedCourse (leaveUndone (setPhase s n) c) c n := course_setCourse_self ..
  rw [trapTold, course, (raise_keeps _ 101 _).2.1.1]
  exact congrArg (·.trapped) ((course_arbitrate_idle (by rw [hself]; rfl)).trans hself)

theorem trapTold_releases (s : State) (c brick off n : Nat) : NothingReleased s (trapTold s c brick off n) := by
  exact (((setPhase_releases s n).trans (leaveUndone_releases _ c)).trans (setCourse_releases _ c _)).trans
    ((arbitrate_releases _).trans (.raise _ 101 _))

/-- An event raised behind those of `s` is among those that stand behind them later. -/
theorem raised_since {s u t : State} {ev : Nat} {arg : List W32} (hs : Raises s u) (hr : u.ev.running = true)
    (ht : Raises (raise u ev arg) t) :
    ∃ e ∈ t.ev.intake.drop s.ev.intake.length, e.ev = ev ∧ e.arg = arg.take 4 ∧ e.stamp = vtime u := by
  obtain ⟨a, ha⟩ := hs.intake
  obtain ⟨b, hb⟩ := ht.intake
  rw [raise_ev, recorded_one hr, ← ha] at hb
  rw [← hb]
  refine ⟨{ stamp := vtime u, ev := ev, arg := arg.take 4, quality := timeQuality u }, ?_, rfl, rfl, rfl⟩
  simp [vtime]

theorem trapTold_raises {s t : State} {c brick off n : Nat} (hr : s.ev.running = true)
    (ht : Raises (trapTold s c brick off n) t) : ∃ e ∈ t.ev.intake.drop s.ev.intake.length,
      e.ev = 101 ∧ e.arg = [w32 c, w32 brick, w32 off] ∧ e.stamp = s.time.ns + n := by
  have hs : Raises s (leaveUndone (setPhase s n) c) := ⟨(leaveUndone_raises (setPhase s n) c).intake⟩
  have hcore : evCore (leaveUndone (setPhase s n) c).ev = evCore s.ev := by simp
  have hu : Raises s (arbitrate (setCourse (leaveUndone (setPhase s n) c) c
      (trappedCourse (leaveUndone (setPhase s n) c) c n))) := ⟨hs.intake⟩
  obtain ⟨e, he, hev, harg, hstamp⟩ := raised_since hu ((running_of_evCore hcore).trans hr) ht
  refine ⟨e, he, hev, harg, hstamp.trans ?_⟩
  have htime : (leaveUndone (setPhase s n) c).time = { s.time with phase := n } := by simp
  exact congrArg (fun t : TimeSt => t.ns + t.phase) htime

/-- Settles O26: the watch, an overrun at its limit and a trap come to the reaction of R150, which releases nothing. -/
theorem courseWatchesAndTraps : Obligations.CourseWatchesAndTraps := by
  unfold Obligations.CourseWatchesAndTraps
  refine ⟨fun s hr hw hs ht hwarn hn => ?_, fun s h hs ht hn => ?_, fun s c h hc hs hd ht hl => ?_,
    fun s c brick off n o h hs ho hp => ?_⟩
  · obtain ⟨hmd, -, -, hcourse, -⟩ := watchWarned_parts (setPhase s 20000) (maxScan s)
    have he := execMaxScanReached_watches hr hs ht hwarn hn.ge
    rw [hn, watchScan_eq (by rwa [inWindow_setPhase]) (by rw [maxScan_setPhase]), maxScan_setPhase,
      if_neg (by omega)] at he
    have hev := ((Noted.start s 20000).watchWarned (maxScan s)).ev
    rw [course_setPhase, hwarn] at hev
    refine ⟨_, he, hmd, hcourse.trans ?_, hev⟩
    simp only [watchedCourse, course_setPhase, hwarn]
    rfl
  · obtain ⟨hmd, -, -, -, hnone⟩ := watchWarned_parts (setPhase s 20000) (4 * maxScan s)
    have he := execScanWatchExpiry_watches (faultable_iff.mp h).2.1 hs ht hn.ge
    rw [hn, watchScan_eq (s := setPhase s 20000) (inWindow_of_faultable h rfl) (by rw [maxScan_setPhase]; omega),
      maxScan_setPhase,
      if_pos le_rfl] at he
    have hnoted := ((Noted.start s 20000).watchWarned (4 * maxScan s)).raise 97 ([0] ++ w64 (course s 0).startTick)
    have hmd := ((raise_keeps _ 97 ([0] ++ w64 (course s 0).startTick)).2.2.2.2.1).trans hmd
    exact ⟨_, he, faulted_of_courseOasis h hmd (((setPhase_releases s _).trans hnone).trans (.raise ..)),
      intake_of_noted h hmd hnoted⟩
  · obtain ⟨hmd, hcourse, hnone⟩ := limitTold_parts (setPhase s 20000) c
    have he := execOverrunLimitReached_due (faultable_iff.mp h).2.1 hc hs hd (hl.trans (min_le_left ..))
    rw [overrun_atLimit (s := setPhase s 20000) (inWindow_of_faultable h rfl) ht hl] at he
    have htally := (courseOasis_tally h hmd c).trans (congrArg tally hcourse)
    exact ⟨_, he, faulted_of_courseOasis h hmd ((setPhase_releases s _).trans hnone), congrArg (·.1) htally,
      congrArg (·.2.1) htally, congrArg (·.2.2.1) htally, intake_of_noted h hmd ((Noted.start s 20000).limitTold c)⟩
  · have hmd := trapTold_md s c brick off n
    have htally := courseOasis_tally h hmd c
    refine ⟨_, execExecutionTrap_faultable off n h hs ho hp, faulted_of_courseOasis h hmd (trapTold_releases ..), ?_,
      fun hr => trapTold_raises hr (courseOasis_raises h hmd)⟩
    exact (congrArg (·.2.2.2) htally).trans (course_trapTold s c brick off n)

end Sys2Proof.Machine
end

section
/-! Breakpoints and the course counters' clear (R152, R153, R154, R167). -/

namespace Sys2Proof.Machine

/-! ### A breakpoint that is reached -/

theorem changeMode_hold_crs {s : State} (cause : Nat) (h : s.md.mode = .run) :
    (changeMode s .hold cause).crs = s.crs := by
  have enter : ∀ u : State, (enterEffects u .run .hold).crs = u.crs := fun u => by
    simp [enterEffects, runs]
  unfold changeMode
  extract_lets old u v _ w
  have hold : old = .run := h
  rw [hold, if_neg (by simp)]
  calc (settle (enterEffects w .run .hold)).crs = w.crs := by simp [enter]
    _ = u.crs := resolve_crs u rfl
    _ = s.crs := by simp [u]

/-- The base course has come to its brick. -/
def breakReached (s : State) (brick n : Nat) : State :=
  setCourse (setPhase s n) 0 { course s 0 with pos := (brickOrder s 0 brick).getD 0 + 1 }

/-- The breakpoints once that before a brick has been reached: it is disarmed and marked (R153). -/
def breakMarks (s : State) (brick b : Nat) : Tab BreakSt :=
  s.crs.bp.map fun e =>
    if e.2.armed && e.2.brick == brick then (e.1, { e.2 with armed := false, reached := e.1 == b }) else e

/-- The base course is frozen before its brick (R153). -/
def breakMarked (s : State) (brick b : Nat) : State :=
  setCourse { s with crs := { s.crs with frozenAt := brick, bp := breakMarks s brick b } } 0
    { endStretch s (course s 0) with state := 3 }

/-- That is told with EV100. -/
def breakFrozen (s : State) (brick b : Nat) : State := raise (breakMarked s brick b) 100 [0, w32 b, w32 brick]

/-- A pass is counted instead (R153). -/
def breakCounted (s : State) (b : Nat) (p : BreakSt) : State :=
  { s with crs := { s.crs with bp := tset s.crs.bp b { p with passes := p.passes + 1 } } }

/-- That is told with EV037. -/
def breakPassed (s : State) (b : Nat) (p : BreakSt) : State := raise (breakCounted s b p) 37

theorem execBreakpointReached_armed {s : State} {brick b : Nat} {p : BreakSt} (n : Nat)
    (hf : (s.crs.bp.find? fun e => e.2.armed && e.2.brick == brick) = some (b, p)) (h : (course s 0).state = 1)
    (hp : (course s 0).pos ≤ (brickOrder s 0 brick).getD 0) (hr : coursesRun s = true) :
    exec (.breakpointReached brick n) s = .next
      (if holds s then changeMode (breakFrozen (breakReached s brick n) brick b) .hold causeBreakpoint
        else breakPassed (breakReached s brick n) b p) := by
  show execBreakpointReached brick n s = _
  unfold execBreakpointReached
  simp only [hf]
  rw [if_neg (by simp [h, hr, hp])]
  rfl

theorem breakFrozen_parts (s : State) (brick b : Nat) : (breakFrozen s brick b).md = s.md ∧
    (course (breakFrozen s brick b) 0).state = 3 ∧ (breakFrozen s brick b).crs.frozenAt = brick ∧
    (breakFrozen s brick b).crs.bp = breakMarks s brick b := by
  obtain ⟨-, ⟨hcrs, -⟩, -, -, hmd, -⟩ := raise_keeps (breakMarked s brick b) 100 [0, w32 b, w32 brick]
  refine ⟨hmd, ?_, congrArg (·.frozenAt) hcrs, congrArg (·.bp) hcrs⟩
  rw [breakFrozen, course, hcrs]
  exact congrArg (·.state) (course_setCourse_self ..)

theorem Noted.breakFrozen {s t : State} {n : Nat} {evs : List (Nat × List W32)} (h : Noted s n evs t) (brick b : Nat) :
    Noted s n (evs ++ [(100, [0, w32 b, w32 brick])]) (breakFrozen t brick b) := by
  have hm : Noted s n evs (breakMarked t brick b) := h.keep rfl rfl
  exact hm.raise ..

theorem Noted.breakPassed {s t : State} {n : Nat} {evs : List (Nat × List W32)} (h : Noted s n evs t) (b : Nat)
    (p : BreakSt) : Noted s n (evs ++ [(37, [])]) (breakPassed t b p) := by
  have hp : Noted s n evs (breakCounted t b p) := h.keep rfl rfl
  exact hp.raise ..

theorem Noted.breakReached (s : State) (brick n : Nat) : Noted s n [] (breakReached s brick n) :=
  (Noted.start s n).keep rfl rfl

theorem mode_of_holds {s : State} (h : holds s = true) : s.md.mode = .run := by
  unfold holds at h
  simp only [Bool.and_eq_true, beq_iff_eq] at h
  exact h.1

/-! ### Writes of the host -/

/-- A write of a breakpoint that no check refuses (R152). -/
theorem execBreakpointWrite_done {s : State} {r : Req} {b : Nat} {v : W32}
    (h : servedOutside s r (w32 (0x02200000 + b)) = true) (hb : b ≤ 15) (hz : v.toNat / 65536 % 8192 = 0)
    (ha : (tget ({} : BreakSt) s.crs.bp b).armed = false)
    (hc : v.toNat / 2 ^ 31 = 1 → brickCourse s (v.toNat % 65536) = some 0) :
    exec (.breakpointWrite r b v) s = .next (sendChanges (wrote (reply { touch s r with
      crs := { s.crs with bp := tset s.crs.bp b { tget ({} : BreakSt) s.crs.bp b with
        defined := v.toNat / 2 ^ 31 == 1, brick := v.toNat % 65536 } } } r (w32 (0x02200000 + b)) stDone)
      (w32 (0x02200000 + b)))) := by
  have hd : v.getLsbD 31 = (v.toNat / 2 ^ 31 == 1) := by
    have := v.isLt
    rw [BitVec.getLsbD, Nat.testBit_eq_decide_div_mod_eq]
    rw [show v.toNat / 2 ^ 31 % 2 = v.toNat / 2 ^ 31 by omega]
    rfl
  have hc : ¬(v.getLsbD 31 && brickCourse (touch s r) (v.toNat % 65536) != some 0) = true := by
    rw [hd, show brickCourse (touch s r) = brickCourse s from rfl]
    simpa using hc
  refine congrArg Host.Outcome.next ((hostCommand_served h _).trans ?_)
  dsimp only
  rw [if_neg (by omega), if_neg (by omega), if_neg (by simpa using ha), if_neg hc, hd]
  rfl

theorem execCourseCounterClear_done {s : State} {r : Req} {c : Nat}
    (h : servedOutside s r (w32 (0x02190000 + c)) = true) (hc : c ≤ 8) (hf : (tfind s.crs.c c).isSome = true) :
    exec (.courseCounterClear r c 1) s = .next (sendChanges (wrote
      (reply (setCourse (touch s r) c { course s c with clearDue := true }) r (w32 (0x02190000 + c)) stDone)
      (w32 (0x02190000 + c)))) := by
  have hf : ¬(tfind (touch s r).crs.c c).isNone = true := by simpa [Option.isSome_iff_ne_none] using hf
  refine congrArg Host.Outcome.next ((hostCommand_served h _).trans ?_)
  dsimp only
  rw [if_neg (by omega), if_neg hf, if_neg (by decide), if_pos rfl]
  rfl

/-- Settles O28: the base course freezes or goes on, and the two writes of the host. -/
theorem breakpointsFreezeOrPass : Obligations.BreakpointsFreezeOrPass := by
  unfold Obligations.BreakpointsFreezeOrPass
  refine ⟨fun s brick n b p hf hs hp hr hh => ?_, fun s brick n b p hf hs hp hr hh => ?_,
    fun s r b v h hb hz ha hc => ?_, fun s r c h hc hf => ?_⟩
  · obtain ⟨hmd, hcourse, hat, hbp⟩ := breakFrozen_parts (breakReached s brick n) brick b
    have hrun : (breakFrozen (breakReached s brick n) brick b).md.mode = .run := by rw [hmd]; exact mode_of_holds hh
    have hcrs := changeMode_hold_crs causeBreakpoint hrun
    refine ⟨_, (execBreakpointReached_armed n hf hs hp hr).trans (by rw [if_pos hh]), changeMode_mode .., ?_, ?_, ?_, ?_,
      ?_⟩
    · simp [changeMode_md, hrun]
    · rw [course, hcrs]
      exact hcourse
    · rw [hcrs, hat]
    · rw [hcrs, hbp]
      rfl
    · have hev := ((Noted.breakReached s brick n).breakFrozen brick b).ev
      exact hev ▸ (changeMode_raises ..).intake
  · obtain ⟨-, ⟨hcrs, -⟩, -, -, hmd, -⟩ := raise_keeps (breakCounted (breakReached s brick n) b p) 37 []
    exact ⟨_, (execBreakpointReached_armed n hf hs hp hr).trans (by rw [hh, if_neg (by simp), breakPassed]), hmd,
      ((Noted.breakReached s brick n).breakPassed b p).ev, hcrs⟩
  · exact ⟨_, execBreakpointWrite_done h hb hz ha hc, answers_of_reply (reply_net rfl ..), by simp, by simp⟩
  · exact ⟨_, execCourseCounterClear_done h hc hf, answers_of_reply (reply_net rfl ..), by simp, by simp; rfl⟩

end Sys2Proof.Machine
end

section
/-! Mirages (R157, R159, R162, R163). -/

namespace Sys2Proof.Machine

/-! ### A command and its answer -/

theorem mirageCommand_served {s : State} {r : Req} (h : servedOutside s r mirageObj = true) (hg : loopGate s = none)
    (k : State → State) : mirageCommand r k s = sendChanges (wrote (k (touch s r)) mirageObj) := by
  have hg : loopGate (touch s r) = none := hg
  rw [mirageCommand, hostCommand_served h, hg]

/-- The mirage list is replaced, and that is told (R162). -/
def mirageTold (s : State) (ms : Tab Mirage) (ev : Nat) (arg : List W32) : State :=
  raise { s with crs := { s.crs with mirages := ms } } ev arg

theorem mirageTold_parts (s : State) (ms : Tab Mirage) (ev : Nat) (arg : List W32) :
    (mirageTold s ms ev arg).crs = { s.crs with mirages := ms } ∧ (mirageTold s ms ev arg).md = s.md ∧
    (mirageTold s ms ev arg).pair = s.pair ∧ (mirageTold s ms ev arg).loops.inj = s.loops.inj ∧
    (mirageTold s ms ev arg).kiln = s.kiln ∧ (mirageTold s ms ev arg).time = s.time ∧
    (mirageTold s ms ev arg).net = s.net := by
  simp [mirageTold]

theorem Noted.mirageTold {s t : State} {n : Nat} {evs : List (Nat × List W32)} (h : Noted s n evs t) (ms : Tab Mirage)
    (ev : Nat) (arg : List W32) : Noted s n (evs ++ [(ev, arg)]) (mirageTold t ms ev arg) := by
  have hm : Noted s n evs { t with crs := { t.crs with mirages := ms } } := h.keep rfl rfl
  exact hm.raise ..

/-- The answer to a mirage command leaves the mirages alone. -/
theorem mirageReply_parts (s : State) (r : Req) (l : List Nat) :
    (mirageReply s r l).net = (reply s r mirageObj (if partnerTracks s then stAccepted else stDone)).net ∧
    (mirageReply s r l).crs.mirages = s.crs.mirages ∧ (mirageReply s r l).ev = s.ev ∧
    (mirageReply s r l).loops = s.loops := by
  unfold mirageReply
  split <;> simp [reply_eq, sess]

theorem partnerTracks_congr {s t : State} (hp : t.pair = s.pair) (hm : t.md = s.md) :
    partnerTracks t = partnerTracks s := by
  simp [partnerTracks, onTwin, partnerIn, hp, hm]

theorem mirageAnswered_told (s : State) (r : Req) (ms : Tab Mirage) (ev : Nat) (arg : List W32) (l : List Nat) :
    mirageAnswered s (sendChanges (wrote (mirageReply (mirageTold (touch s r) ms ev arg) r l) mirageObj)) r l := by
  obtain ⟨hcrs, hmd, hpair, -, -, htime, hnet⟩ := mirageTold_parts (touch s r) ms ev arg
  have htracks : partnerTracks (mirageTold (touch s r) ms ev arg) = partnerTracks s :=
    partnerTracks_congr hpair hmd
  have hanswer := (mirageReply_parts (mirageTold (touch s r) ms ev arg) r l).1.trans (reply_net hnet ..)
  have horigin : originOf (mirageTold (touch s r) ms ev arg) r = originOf s r := by
    rw [← originOf_touch]
    simp [originOf, sess, hnet]
  refine ⟨fun h => ⟨?_, ?_⟩, fun h => ⟨?_, ?_, ?_⟩⟩
  · rw [htracks, h] at hanswer
    exact answers_of_reply hanswer
  · simp [mirageReply, htracks, h, hcrs]
  · rw [htracks, h] at hanswer
    exact acceptedFor_of_reply hanswer
  · simp [mirageReply, htracks, h, hcrs, horigin, htime]
  · simp [mirageReply, htracks, h, hcrs, htime]

/-- What a command that changes the list leaves once it is answered. -/
theorem mirageTold_answered {s t : State} {r : Req} {ms : Tab Mirage} {ev : Nat} {arg : List W32} {l : List Nat}
    (ht : t = sendChanges (wrote (mirageReply (mirageTold (touch s r) ms ev arg) r l) mirageObj)) :
    mirageAnswered s t r l ∧ t.md = s.md ∧ t.crs.mirages = ms ∧ t.ev = recorded s r.at_ [(ev, arg)] := by
  subst ht
  obtain ⟨hcrs, hmd, -⟩ := mirageTold_parts (touch s r) ms ev arg
  obtain ⟨-, hreply, hev, -⟩ := mirageReply_parts (mirageTold (touch s r) ms ev arg) r l
  refine ⟨mirageAnswered_told .., by simp [hmd], by simp [hreply, hcrs], ?_⟩
  have hnoted := ((Noted.touch s r).mirageTold ms ev arg).ev
  simpa [hev] using hnoted

/-! ### PLACE -/

/-- Arguments of EV102 (R162). -/
def placedArgs (c : MirageCmd) : List W32 :=
  [w32 (c.kind + 65536 * c.brick), w32 c.index, w32 (c.value.toNat % 2 ^ 32), w32 (c.value.toNat / 2 ^ 32)]

theorem mirageArgs_value (c : MirageCmd) : mirageArgs c.kind c.brick c.index ((w64 c.value.toNat).getD 0 0)
    ((w64 c.value.toNat).getD 1 0) = placedArgs c := by
  have h : w32 c.value.toNat = w32 (c.value.toNat % 2 ^ 32) := BitVec.eq_of_toNat_eq (by simp [w32])
  exact congrArg (fun w => [_, _, w, _]) h

theorem placeCheck_touch (s : State) (r : Req) (c : MirageCmd) : placeCheck (touch s r) c = placeCheck s c := by
  have ht : targetFault (touch s r) c = targetFault s c := rfl
  have hm : mirageAt (touch s r) = mirageAt s := rfl
  have hf : freeMirage (touch s r) = freeMirage s := by rw [freeMirage, touch_crs, freeMirage]
  rw [placeCheck, ht, hm, hf, placeCheck]

theorem execMiragePlace_ok {s : State} {r : Req} {c : MirageCmd} {i : Nat} (h : servedOutside s r mirageObj = true)
    (hg : loopGate s = none) (hc : placeCheck s c = .ok i) : exec (.miragePlace r c) s = .next (sendChanges
      (wrote (mirageReply (mirageStops (mirageTold (touch s r) (tset s.crs.mirages i (placed c)) 102 (placedArgs c)) c) r
        [i]) mirageObj)) := by
  refine congrArg Host.Outcome.next ((mirageCommand_served h hg _).trans ?_)
  simp only [placeCheck_touch, hc, mirageArgs_value]
  rfl

/-! ### The injections that a PLACE stops -/

/-- The injection has stopped with cause 10 (Table 07.7). -/
def stoppedByMirage (j : InjSt) : Prop := j.state = 4 ∧ j.cause = 10

theorem stoppedByMirage_keeps {s : State} {e : Nat} (h : stoppedByMirage (tget {} s.loops.inj e)) (l : List (Nat × LoopDef)) :
    stoppedByMirage (tget {} (l.foldl (fun s e => stopInjection s e.1 10) s).loops.inj e) := by
  refine foldl_inv (P := fun u => stoppedByMirage (tget {} u.loops.inj e)) l _ s h fun u x hu => ?_
  rw [stopInjection_inj]
  split
  next => exact ⟨rfl, rfl⟩
  next => exact hu

theorem stopInjection_stops (s : State) {e : Nat} (h : (tget {} s.loops.inj e).state = 2) :
    stoppedByMirage (tget {} (stopInjection s e 10).loops.inj e) := by
  rw [stopInjection_inj, if_pos ⟨rfl, .inr h⟩]
  exact ⟨rfl, rfl⟩

theorem stopAll_stops {l : List (Nat × LoopDef)} {s : State} {e : Nat} {d : LoopDef} (hm : (e, d) ∈ l)
    (h : (tget {} s.loops.inj e).state = 2) :
    stoppedByMirage (tget {} (l.foldl (fun s e => stopInjection s e.1 10) s).loops.inj e) := by
  induction l generalizing s with
  | nil => simp at hm
  | cons x l ih =>
    by_cases hx : e = x.1
    · subst hx
      exact stoppedByMirage_keeps (stopInjection_stops s h) l
    · refine ih ?_ ?_
      · rcases List.mem_cons.mp hm with rfl | hm
        · exact absurd rfl hx
        · exact hm
      · rw [stopInjection_inj, if_neg fun hs => hx hs.1]
        exact h

theorem mirageStops_output {s : State} {c : MirageCmd} (hk : c.kind = 1) : mirageStops s c =
    ((loopDefs (theImage s)).filter fun e => e.2.dst == some c.index).foldl (fun s e => stopInjection s e.1 10) s :=
  if_neg (by simp [hk])

theorem mirageStops_stops {s : State} {c : MirageCmd} (hk : c.kind = 1) {e : Nat} {d : LoopDef}
    (hm : (e, d) ∈ loopDefs (theImage s)) (hd : d.dst = some c.index) (h : (tget {} s.loops.inj e).state = 2) :
    stoppedByMirage (tget {} (mirageStops s c).loops.inj e) := by
  rw [mirageStops_output hk]
  exact stopAll_stops (List.mem_filter.mpr ⟨hm, by simp [hd]⟩) h

theorem mirageStops_raises {s : State} {c : MirageCmd} (hk : c.kind = 1) : Raises s (mirageStops s c) := by
  rw [mirageStops_output hk]
  exact Raises.foldl _ _ s fun u _ => stopInjection_raises u _ 10

theorem mirageStops_outbox {s : State} {c : MirageCmd} (hk : c.kind = 1) :
    ∃ l, (mirageStops s c).net.outbox = l ++ s.net.outbox := by
  rw [mirageStops_output hk]
  exact foldl_outbox _ (fun u _ => stopInjection_outbox u _ 10) _ s

/-- Behind completions that have left before, the answer is the last message but mortar. -/
theorem answersLast_of_reply {s u v : State} {r : Req} {o : W32} {st : Nat} (hu : u.net = (reply v r o st).net)
    (hv : ∃ l, v.net.outbox = l ++ s.net.outbox) : answersLast s (sendChanges (wrote u o)) r st := by
  obtain ⟨l, hl⟩ := hv
  obtain ⟨ms, hms⟩ := answers_sendChanges (s := v) (u := wrote u o) (r := r) (st := st) (p := [])
    (by rw [wrote_outbox, hu, reply_eq])
  exact ⟨ms, l, by rw [hms, hl]⟩

/-- What a PLACE on an output leaves once it is answered. -/
theorem mirageStops_answered {s t : State} {r : Req} {c : MirageCmd} {ms : Tab Mirage} {ev : Nat} {arg : List W32}
    {l : List Nat} (hk : c.kind = 1) (ht : t = sendChanges
      (wrote (mirageReply (mirageStops (mirageTold (touch s r) ms ev arg) c) r l) mirageObj)) :
    t.md = s.md ∧ t.crs.mirages = ms ∧ answersLast s t r (if partnerTracks s = true then stAccepted else stDone) ∧
    (recorded s r.at_ [(ev, arg)]).intake <+: t.ev.intake ∧
    ∀ e d, (e, d) ∈ loopDefs (theImage s) → d.dst = some c.index → (tget {} s.loops.inj e).state = 2 →
      stoppedByMirage (tget {} t.loops.inj e) := by
  subst ht
  obtain ⟨hcrs, hmd, hpair, hinj, hkiln, -, hnet⟩ := mirageTold_parts (touch s r) ms ev arg
  have hnoted := ((Noted.touch s r).mirageTold ms ev arg).ev
  generalize mirageTold (touch s r) ms ev arg = u at *
  have htracks : partnerTracks (mirageStops u c) = partnerTracks s :=
    partnerTracks_congr (.trans (by simp) hpair) (.trans (by simp) hmd)
  obtain ⟨hanswer, hreply, hev, hloops⟩ := mirageReply_parts (mirageStops u c) r l
  rw [htracks] at hanswer
  refine ⟨.trans (by simp) hmd, by simp [hreply, hcrs], ?_, ?_, fun e d hm hd h => ?_⟩
  · obtain ⟨m, hm⟩ := mirageStops_outbox (s := u) hk
    exact answersLast_of_reply hanswer ⟨m, hm.trans (by rw [hnet, touch_outbox])⟩
  · have hraised := (mirageStops_raises (s := u) hk).intake
    rw [hnoted] at hraised
    simpa [hev] using hraised
  · have himage : theImage u = theImage s := by rw [theImage, hkiln, touch_kiln, theImage]
    have hstopped := mirageStops_stops hk (himage ▸ hm) hd (by rwa [hinj, touch_loops])
    simpa [hloops] using hstopped

/-! ### RELEASE and RELEASE_ALL -/

theorem execMirageRelease_found {s : State} {r : Req} {c : MirageCmd} {i : Nat}
    (h : servedOutside s r mirageObj = true) (hg : loopGate s = none) (hr : c.reserved = false)
    (hi : mirageAt s c.kind c.brick c.index = some i) : exec (.mirageRelease r c) s = .next (sendChanges
      (wrote (mirageReply (mirageTold (touch s r) (tdel s.crs.mirages i) 103
        (mirageArgs c.kind c.brick c.index 1 0)) r [i]) mirageObj)) := by
  have hi : mirageAt (touch s r) c.kind c.brick c.index = some i := hi
  refine congrArg Host.Outcome.next ((mirageCommand_served h hg _).trans ?_)
  simp only [hr, hi]
  rfl

theorem execMirageReleaseAll_served {s : State} {r : Req} (h : servedOutside s r mirageObj = true)
    (hg : loopGate s = none) : exec (.mirageReleaseAll r) s = .next (sendChanges
      (wrote (mirageReply (mirageTold (touch s r) [] 103 (mirageArgs 0xFF 0 0 (w32 s.crs.mirages.length) 0)) r
        (s.crs.mirages.map (·.1))) mirageObj)) := by
  refine congrArg Host.Outcome.next ((mirageCommand_served h hg _).trans ?_)
  simp only [List.length_map, touch_crs]
  rfl

/-- Settles O22: a PLACE on an output stops injections on the way; the others change the list and answer. -/
theorem miragesForceAndRelease : Obligations.MiragesForceAndRelease := by
  unfold Obligations.MiragesForceAndRelease
  refine ⟨fun s r c i h hg hc hk => ?_, fun s r c i h hg hc hk => ?_, fun s r c i h hg hr hi => ?_,
    fun s r h hg => ?_⟩
  · have he := execMiragePlace_ok h hg hc
    rw [show mirageStops _ c = _ from if_pos hk] at he
    exact ⟨_, he, mirageTold_answered rfl⟩
  · exact ⟨_, execMiragePlace_ok h hg hc, mirageStops_answered hk rfl⟩
  · exact ⟨_, execMirageRelease_found h hg hr hi, mirageTold_answered rfl⟩
  · exact ⟨_, execMirageReleaseAll_served h hg, mirageTold_answered rfl⟩

end Sys2Proof.Machine
end

section
/-! The window of an exchange: its end without a quiet tick, and the rollback (R173, R176, R178, R179). -/

namespace Sys2Proof.Machine

/-! ### No quiet tick (R173) -/

/-- Before the swap, a happening of Table 05.4 abandons the exchange (R176). -/
theorem changeFault_unswapped {s : State} (reason : Nat) (h : inWindow s = true) (hs : s.exch.swapped = false) :
    changeFault s reason = leaveChange (exchAbandon s reason) := by
  simp [changeFault, h, hs]

theorem execExchangeNoQuietTick_late {s : State} (h : inWindow s = true) (hp : s.exch.phase = 2)
    (hs : s.exch.swapped = false) (hb : timedBusy s = true) (hl : s.exch.waitFrom + maxScan s ≤ s.time.tick) :
    exec .exchangeNoQuietTick s = .next (leaveChange (exchAbandon (setPhase s 20000) 9)) := by
  have hlate : (inWindow s && s.exch.phase == 2 && timedBusy s &&
      decide (s.exch.waitFrom + maxScan s ≤ s.time.tick)) = true := by simp [h, hp, hb, hl]
  exact congrArg Host.Outcome.next ((if_pos hlate).trans (changeFault_unswapped 9 h hs))

theorem Noted.exchAbandon {s t : State} {n : Nat} {evs : List (Nat × List W32)} (h : Noted s n evs t) (reason : Nat) :
    Noted s n (evs ++ [(110, [w32 reason])]) (exchAbandon t reason) := by
  have hu : Noted s n evs (dropStagedTables { t with exch := { t.exch with
      state := 7, reason := reason, phase := 0, staged := none, scans := 0 } }) := h.keep rfl rfl
  exact hu.raise 110 [w32 reason]

theorem exchAbandon_exch (s : State) (reason : Nat) : (exchAbandon s reason).exch = { s.exch with
    state := 7, reason := reason, phase := 0, staged := none, scans := 0 } := by
  simp [exchAbandon]

/-! ### The rollback (R178) -/

theorem execExchangeRollback_due {s : State} {reason d : Nat} (h : inWindow s = true)
    (hr : s.exch.rollback = some (reason, d)) (hd : d ≤ s.time.tick) :
    exec .exchangeRollback s = .next (leaveChange (exchRollback (setPhase s 20000) reason)) := by
  have hr' : (setPhase s 20000).exch.rollback = some (reason, d) := hr
  have hdue : (inWindow (setPhase s 20000) && decide (d ≤ (setPhase s 20000).time.tick)) = true := by
    rw [show inWindow (setPhase s 20000) = true from h]
    simpa using hd
  refine congrArg Host.Outcome.next ?_
  unfold rollbackDue
  rw [hr']
  exact if_pos hdue

theorem tfind_foldl_tset_ne {α β : Type} {l : List β} {key : β → Nat} {i : Nat} (val : β → α) (t : Tab α)
    (h : ∀ b ∈ l, key b ≠ i) : tfind (l.foldl (fun t b => tset t (key b) (val b)) t) i = tfind t i := by
  induction l generalizing t with
  | nil => rfl
  | cons b l ih =>
    obtain ⟨hb, hl⟩ := List.forall_mem_cons.mp h
    rw [List.foldl_cons, ih _ hl, tfind_tset_ne _ _ (Ne.symm hb)]

/-- The data of a brick that no brick of the new image carries returns as it stood (R178). -/
theorem backData_uncarried (s : State) {o : OldVersion} {cur : Image} {i : Nat}
    (h : ∀ e ∈ bricks cur, matchBrick o.image cur e.2 ≠ .carried i) :
    tfind (backData s o cur) i = tfind o.data i := by
  refine tfind_foldl_tset_ne (fun b : Nat × Bytes => b.2) o.data fun b hb hi => ?_
  obtain ⟨e, he, hm⟩ := List.mem_filterMap.mp hb
  split at hm
  next k hk =>
    obtain rfl := Option.some.inj hm
    exact h e he (hk.trans (congrArg BrickMatch.carried hi))
  next => cases hm

section
variable {s : State} {o : OldVersion} (reason : Nat) (ho : s.exch.old = some o)
include ho

/-- The old image, its bank, settings, mirages and data are in force again (R178, R179). -/
theorem exchRollback_program : (exchRollback s reason).kiln.image = some o.image ∧
    (exchRollback s reason).kiln.imageBank = o.bank ∧
    (exchRollback s reason).set.values = o.settings ∧ (exchRollback s reason).set.generation = o.setGeneration ∧
    (exchRollback s reason).crs.mirages = o.mirages ∧
    (exchRollback s reason).crs.data = backData (abandonCourses s) o (theImage s) := by
  have himage : theImage (abandonCourses s) = theImage s := by simp [theImage]
  unfold exchRollback
  simp [ho, swapIo, runBank, himage]

theorem exchRollback_exch : (exchRollback s reason).exch.state = 6 ∧ (exchRollback s reason).exch.reason = reason ∧
    (exchRollback s reason).exch.rollback = none ∧ (exchRollback s reason).exch.swapped = false := by
  unfold exchRollback
  simp [ho]

/-- EV109 is the last event of a rollback, at its instant. -/
theorem exchRollback_raises : ∃ u arg, exchRollback s reason = raise u 109 arg ∧ u.time = s.time ∧
    evCore u.ev = evCore s.ev := by
  unfold exchRollback
  simp only [ho]
  exact ⟨_, _, rfl, by simp, by simp⟩

end

theorem mem_intake_raise {s : State} (h : s.ev.running = true) (ev : Nat) (arg : List W32) :
    ∃ e ∈ (raise s ev arg).ev.intake, e.ev = ev ∧ e.stamp = vtime s := by
  rw [raise_ev, recorded_one h]
  exact ⟨_, List.mem_append_right _ (List.mem_singleton_self _), rfl, rfl⟩

/-- Settles O30: the abandonment before the swap, and the rollback behind it; both leave CHANGE. -/
theorem windowEndsWithoutQuietTickOrByRollback : Obligations.WindowEndsWithoutQuietTickOrByRollback := by
  unfold Obligations.WindowEndsWithoutQuietTickOrByRollback
  refine ⟨fun s h hp hs hb hl => ?_, fun s reason d o h hr hd ho => ?_⟩
  · have hexch := exchAbandon_exch (setPhase s 20000) 9
    refine ⟨_, execExchangeNoQuietTick_late h hp hs hb hl, ?_, ?_, ?_, by simp, by simp, ?_, ?_⟩
    · simp [hexch]
    · simp [hexch]
    · simp [hexch]
    · exact ((Noted.start s 20000).exchAbandon 9).ev
    · simp [leaveChange]
  · have ho' : (setPhase s 20000).exch.old = some o := ho
    obtain ⟨himage, hbank, hvalues, hgeneration, hmirages, hdata⟩ := exchRollback_program reason ho'
    obtain ⟨hstate, hreason, hroll, hswapped⟩ := exchRollback_exch reason ho'
    obtain ⟨u, arg, htold, htime, hev⟩ := exchRollback_raises reason ho'
    refine ⟨_, execExchangeRollback_due h hr hd, himage, hbank, hstate, hreason, hroll, hswapped, hmirages, hvalues,
      hgeneration, fun i hi => ?_, fun hrun => ?_, ?_⟩
    · exact (congrArg (tfind · i) hdata).trans (backData_uncarried _ hi)
    · have hstamp : vtime u = s.time.ns + 20000 := by rw [vtime, htime]; rfl
      have hu : u.ev.running = true := (running_of_evCore hev).trans hrun
      obtain ⟨e, he, hno, hat⟩ := mem_intake_raise hu 109 arg
      exact ⟨e, htold ▸ he, hno, hat.trans hstamp⟩
    · simp [leaveChange]

end Sys2Proof.Machine
end

section
/-! SUPPORT. What mortar and completions leave of the outbox and of the events of an instant (R339, R514). -/

namespace Sys2Proof.Machine

theorem sendMortar_outbox (s : State) (m : Mortar) :
    ∃ ms : List Mortar, (sendMortar s m).net.outbox = ms.map .mortar ++ s.net.outbox := by
  obtain ⟨ms, lo, lf, k, h⟩ := sendMortarAt_eq 4 s m
  exact ⟨ms, by rw [sendMortar, h]; rfl⟩

theorem sendChanges_outbox (s : State) :
    ∃ ms : List Mortar, (sendChanges s).net.outbox = ms.map .mortar ++ s.net.outbox := by
  obtain ⟨ms, lo, lf, k, n, h⟩ := sendChanges_sent s
  exact ⟨ms, by rw [h]; rfl⟩

theorem Noted.completeOpt {s t : State} {n : Nat} {evs : List (Nat × List W32)} (h : Noted s n evs t)
    (o : Option Origin) (st : Nat) : Noted s n evs (completeOpt t o st) :=
  h.keep (completeOpt_loops ..).2 (completeOpt_time ..)

end Sys2Proof.Machine
end

section
/-! Staging of an exchange, its end, activation and unstaging (R168 to R173, R193, R250). -/

namespace Sys2Proof.Machine

/-! ### STAGE (R168, R169, R193) -/

theorem exchRefusal_touch (s : State) (r : Req) (modes : List Mode) (states : List Nat) :
    exchRefusal (touch s r) modes states = exchRefusal s modes states := rfl

/-- The state once a STAGE has been answered and the free tables are loaded (R169, R250). -/
def stageBegun (s : State) (r : Req) : State :=
  stagingLoads (reply { touch s r with exch := { s.exch with
    state := 1, reason := 0, staged := none, stageOrigin := some (originOf s r), stageTick := s.time.tick
    unwrittenNew := [], unwrittenOld := [] } } r exchObj stAccepted)

/-- The active names the digest of its spare bank to the standby (R193). -/
def stageForwarded (s : State) (r : Req) : State :=
  sendLink (stageBegun s r) 5 48 (.forward (.exchange (hdrDigest (bankHeader (bank s (spareBank s)).bytes))))

theorem execExchangeStage_accepted {s : State} {r : Req} (h : servedOutside s r exchObj = true)
    (hg : exchRefusal s [.stop, .run, .hold, .degraded, .oasis] [0, 3, 5, 6, 7] = none) :
    exec (.exchangeStage r) s = .next (sendChanges (wrote
      (if s.md.role == .active && (sess s r.session).role then stageForwarded s r else stageBegun s r) exchObj)) := by
  have hrole : (sess (touch s r) r.session).role = (sess s r.session).role := by rw [sess_touch]
  refine congrArg Host.Outcome.next ((hostCommand_served h _).trans ?_)
  simp only [exchRefusal_touch, hg, originOf_touch, hrole]
  rfl

theorem stageBegun_net (s : State) (r : Req) : (stageBegun s r).net = (reply (touch s r) r exchObj stAccepted).net := by
  simp only [stageBegun, stagingLoads_keeps]
  exact reply_net rfl r exchObj stAccepted []

theorem stageBegun_exch (s : State) (r : Req) : (stageBegun s r).exch = { s.exch with
    state := 1, reason := 0, staged := none, stageOrigin := some (originOf s r), stageTick := s.time.tick
    unwrittenNew := [], unwrittenOld := [] } := by
  simp [stageBegun]

theorem stageForwarded_outbox (s : State) (r : Req) : (stageForwarded s r).net.outbox =
    .forward (.exchange (hdrDigest (bankHeader (bank s (spareBank s)).bytes))) ::
      .response r.session r.seq stAccepted [] :: s.net.outbox := by
  obtain ⟨lo, lf, k, h⟩ := sendLink_eq (stageBegun s r) 5 48
    (.forward (.exchange (hdrDigest (bankHeader (bank s (spareBank s)).bytes))))
  rw [stageForwarded, h]
  simp [linkNet, stageBegun_net, reply_eq]

/-! ### The end of staging (R169 to R172, R250) -/

/-- The full check of the spare bank (R110). -/
@[reducible] def spareCheck (s : State) : FullCheck := fullCheck s (bank s (spareBank s)).bytes

/-- The spare bank with the result of its full check, and the record types that the check has skipped (R109, R110). -/
def stageChecked (s : State) (n : Nat) : State :=
  raiseSkipped (bankStatus (setPhase s n) (spareBank s)
    (if s.kiln.keyPresent then (spareCheck s).reason else 13))
    (spareCheck s).skipped

section
variable {s : State} {loaded : Bool} {partner : Option Bytes}

/-- The digest that staging compares with: what the partner names, on a standby what its active has named (R193). -/
def stagePartner (s : State) (partner : Option Bytes) : Option Bytes :=
  if inControl s then partner else s.exch.partnerDigest

theorem stageReason_unreadable (hi : (spareCheck s).image = none) :
    stageReason s loaded partner = 1 := by
  simp only [stageReason, hi]

theorem stageReason_readable {ni : Image} (hi : (spareCheck s).image = some ni) :
    stageReason s loaded partner =
      if stageCheck s ni (stagePartner s partner) ≠ 0 then stageCheck s ni (stagePartner s partner)
      else if loaded && !tablesHeld s then 0 else 16 := by
  simp only [stageReason, hi]
  rfl

theorem tablesHeld_readable {ni : Image} (hi : (spareCheck s).image = some ni) :
    tablesHeld s = (changedTables (theImage s) ni).any fun t => tableRuns s t.1 := by
  simp only [tablesHeld, hi, Option.elim_some]

theorem image_of_stageReason (h : stageReason s loaded partner = 0) :
    ∃ ni, (spareCheck s).image = some ni := by
  cases hi : (spareCheck s).image with
  | none => simp [stageReason_unreadable hi] at h
  | some ni => exact ⟨ni, rfl⟩

variable (a b : List Nat) (n : Nat) (hs : s.exch.state = 1)
  (hw : tablesHeld s = true → s.exch.stageTick + 32000 ≤ s.time.tick)
include hs hw

/-- No update holds the end of staging back any more: the checks decide it (R169, R250). -/
theorem execStagingComplete_readable {ni : Image}
    (hi : (spareCheck s).image = some ni) :
    exec (.stagingComplete loaded partner a b n) s = .next (
      if stageCheck s ni (stagePartner s partner) ≠ 0 then
        stageFailed (stageChecked s n) (stageCheck s ni (stagePartner s partner))
      else if loaded && !tablesHeld s then stageDone (stageChecked s n) (spareBank s) ni a b
      else stageFailed (stageChecked s n) 16) := by
  have hwait : ¬ (stageCheck s ni (stagePartner s partner) = 0 ∧ loaded = true ∧ tablesHeld s = true ∧
      s.time.tick < s.exch.stageTick + 32000) := fun ⟨_, _, h, hl⟩ => absurd (hw h) (Nat.not_le.mpr hl)
  show execStagingComplete loaded partner a b n s = _
  unfold execStagingComplete
  refine congrArg Host.Outcome.next ((if_neg (not_not.mpr hs)).trans ?_)
  simp only [hi, Option.elim_some, ← tablesHeld_readable hi]
  refine (if_neg hwait).trans ?_
  rw [show (!loaded || tablesHeld s) = !(loaded && !tablesHeld s) by simp]
  cases loaded && !tablesHeld s <;> rfl

theorem execStagingComplete_failed (hr : stageReason s loaded partner ≠ 0) :
    exec (.stagingComplete loaded partner a b n) s =
      .next (stageFailed (stageChecked s n) (stageReason s loaded partner)) := by
  cases hi : (spareCheck s).image with
  | none =>
    rw [stageReason_unreadable hi]
    show execStagingComplete loaded partner a b n s = _
    unfold execStagingComplete
    refine congrArg Host.Outcome.next ((if_neg (not_not.mpr hs)).trans ?_)
    simp only [hi, Option.elim_none]
    exact if_neg nofun
  | some ni =>
    rw [execStagingComplete_readable a b n hs hw hi]
    rw [stageReason_readable hi] at hr ⊢
    split
    next => rfl
    next hc =>
      rw [if_neg hc] at hr
      have hlate : ¬ (loaded && !tablesHeld s) = true := fun h => hr (if_pos h)
      rw [if_neg hlate, if_neg hlate]

theorem execStagingComplete_staged (hr : stageReason s loaded partner = 0) {ni : Image}
    (hi : (spareCheck s).image = some ni) :
    exec (.stagingComplete loaded partner a b n) s =
      .next (stageDone (stageChecked s n) (spareBank s) ni a b) := by
  rw [execStagingComplete_readable a b n hs hw hi]
  rw [stageReason_readable hi] at hr
  split at hr
  next hc => exact absurd hr hc
  next hc =>
    split at hr
    next hfree => rw [if_neg hc, if_pos hfree]
    next => cases hr

end

theorem stageChecked_parts (s : State) (n : Nat) : (stageChecked s n).exch = s.exch ∧
    theImage (stageChecked s n) = theImage s ∧
    (bank (stageChecked s n) (spareBank s)).failReason =
      if s.kiln.keyPresent then (spareCheck s).reason else 13 := by
  refine ⟨by simp [stageChecked], by simp [stageChecked, theImage, bankStatus], ?_⟩
  have hk : (stageChecked s n).kiln = (bankStatus (setPhase s n) (spareBank s)
    (if s.kiln.keyPresent then (spareCheck s).reason else 13)).kiln := by simp [stageChecked]
  rw [bank_of_kiln hk, bankStatus, bank_setBank_self]

theorem stageChecked_noted (s : State) (n : Nat) : Noted s n
    ((spareCheck s).skipped.map fun ty => (19, [w32 ty])) (stageChecked s n) := by
  have h : Noted s n [] (bankStatus (setPhase s n) (spareBank s)
      (if s.kiln.keyPresent then (spareCheck s).reason else 13)) :=
    (Noted.start s n).keep (by simp [bankStatus]) (by simp [bankStatus])
  exact h.raiseSkipped _

theorem stageFailed_exch (s : State) (reason : Nat) : (stageFailed s reason).exch = { s.exch with
    state := 3, reason := reason, stageOrigin := none } := by
  simp [stageFailed]

theorem Noted.stageFailed {s t : State} {n : Nat} {evs : List (Nat × List W32)} (h : Noted s n evs t) (reason : Nat) :
    Noted s n (evs ++ [(106, [3, w32 reason])]) (stageFailed t reason) := by
  have hu : Noted s n evs (dropStagedTables { t with exch := { t.exch with
      state := 3, reason := reason, stageOrigin := none } }) := h.keep rfl rfl
  exact (hu.raise 106 [3, w32 reason]).completeOpt _ _

theorem stageDone_exch (s : State) (b : Nat) (ni : Image) (new old : List Nat) :
    (stageDone s b ni new old).exch = { s.exch with
      state := 2, reason := 0, staged := some (b, ni), stageOrigin := none, unwrittenNew := new
      unwrittenOld := old, plan := planCounts (theImage s) ni new.length } := by
  simp [stageDone, theImage]

theorem Noted.stageDone {s t : State} {n : Nat} {evs : List (Nat × List W32)} (h : Noted s n evs t) (b : Nat)
    (ni : Image) (new old : List Nat) : Noted s n (evs ++ [(106, [2, 0])]) (stageDone t b ni new old) := by
  have hu : Noted s n evs { loadTables t (changedTables (theImage t) ni) with exch := { t.exch with
      state := 2, reason := 0, staged := some (b, ni), stageOrigin := none, unwrittenNew := new
      unwrittenOld := old, plan := planCounts (theImage t) ni new.length } } := h.keep rfl rfl
  exact (hu.raise 106 [2, 0]).completeOpt _ _

/-! ### ACTIVATE and UNSTAGE (R168, R171, R173) -/

/-- The state once an ACTIVATE has been answered: CHANGE is the transition that waits. -/
def activationAwaited (s : State) (r : Req) : State :=
  { reply (touch s r) r exchObj stAccepted with
    exch := { s.exch with reason := 0, origin := some (originOf s r) }
    md := { s.md with trans := s.md.trans ++ [⟨6, .change, causeExchange, some (originOf s r), 0⟩] } }

theorem execExchangeActivate_accepted {s : State} {r : Req} {b : Nat} {ni : Image}
    (h : servedOutside s r exchObj = true) (hg : exchRefusal s [.stop, .run, .degraded] [2] = none)
    (hs : s.exch.staged = some (b, ni))
    (hr : ∀ e ∈ s.tickets, e.2.status = 3 → regionReplaced (theImage s) ni e.2.kind e.2.index = false) :
    exec (.exchangeActivate r) s = .next (sendChanges (wrote (activationAwaited s r) exchObj)) := by
  have hnone : ¬ (s.tickets.any fun e =>
      e.2.status == 3 && regionReplaced (theImage s) ni e.2.kind e.2.index) = true := by
    simpa using fun k x hx h3 => hr (k, x) hx h3
  refine congrArg Host.Outcome.next ((hostCommand_served h _).trans ?_)
  simp only [exchRefusal_touch, hg, touch_exch, hs, touch_tickets, theImage_touch, if_neg hnone, originOf_touch]
  simp [activationAwaited]

theorem execExchangeUnstage_accepted {s : State} {r : Req} (h : servedOutside s r exchObj = true)
    (hg : exchRefusal s [.load, .stop, .sync, .track, .run, .hold, .degraded, .oasis, .halt] [2] = none) :
    exec (.exchangeUnstage r) s = .next (sendChanges (wrote (reply (dropStagedTables { touch s r with
      exch := { s.exch with state := 0, reason := 0, staged := none } }) r exchObj stDone) exchObj)) := by
  refine congrArg Host.Outcome.next ((hostCommand_served h _).trans ?_)
  simp only [exchRefusal_touch, hg]
  rfl

/-- Settles O29: each command is accepted as Table 05.1 says, and staging ends by its checks. -/
theorem exchangeIsStagedAndActivated : Obligations.ExchangeIsStagedAndActivated := by
  unfold Obligations.ExchangeIsStagedAndActivated
  refine ⟨fun s r h hg hr => ?_, fun s r h hg ha hr => ?_, fun s loaded partner a b n hs hw => ?_,
    fun s r b ni h hg hs hr => ?_, fun s r h hg => ?_⟩
  · have hlocal : ¬ (s.md.role == .active && (sess s r.session).role) = true := by simpa using hr
    have he := execExchangeStage_accepted h hg
    rw [if_neg hlocal] at he
    exact ⟨_, he, acceptedFor_of_reply (stageBegun_net s r), by simp [stageBegun], by simp [stageBegun_exch]⟩
  · have he := execExchangeStage_accepted h hg
    rw [if_pos (by simp [ha, hr])] at he
    obtain ⟨ms, hms⟩ := sendChanges_outbox (wrote (stageForwarded s r) exchObj)
    have hexch : (stageForwarded s r).exch = (stageBegun s r).exch := by simp [stageForwarded]
    exact ⟨_, he, by simp [stageForwarded, stageBegun], by simp [hexch, stageBegun_exch],
      by simp [hexch, stageBegun_exch], ms, by rw [hms, wrote_outbox, stageForwarded_outbox]⟩
  · obtain ⟨hexch, himage, hbank⟩ := stageChecked_parts s n
    have hnoted := stageChecked_noted s n
    by_cases hr : stageReason s loaded partner = 0
    · obtain ⟨ni, hi⟩ := image_of_stageReason hr
      have hd := stageDone_exch (stageChecked s n) (spareBank s) ni a b
      rw [hexch, himage] at hd
      have hkiln : (stageDone (stageChecked s n) (spareBank s) ni a b).kiln = (stageChecked s n).kiln := by simp
      refine ⟨_, execStagingComplete_staged a b n hs hw hr hi, by simp [stageChecked], by rw [hd], by rw [hd, hr], ?_,
        fun h => absurd hr h, fun _ => ?_, ?_⟩
      · rw [bank_of_kiln hkiln, hbank]
      · rw [hd]
        exact ⟨rfl, rfl, rfl, ni, hi, rfl, rfl⟩
      · rw [hd]
        exact (hnoted.stageDone ..).ev
    · have hd := stageFailed_exch (stageChecked s n) (stageReason s loaded partner)
      have hkiln : (stageFailed (stageChecked s n) (stageReason s loaded partner)).kiln = (stageChecked s n).kiln := by
        simp
      refine ⟨_, execStagingComplete_failed a b n hs hw hr, by simp [stageChecked], by rw [hd], by rw [hd], ?_,
        fun _ => by rw [hd], fun h => absurd h hr, ?_⟩
      · rw [bank_of_kiln hkiln, hbank]
      · rw [hd]
        exact (hnoted.stageFailed ..).ev
  · exact ⟨_, execExchangeActivate_accepted h hg hs hr, acceptedFor_of_reply rfl, by simp [activationAwaited],
      by simp [activationAwaited]⟩
  · exact ⟨_, execExchangeUnstage_accepted h hg, answers_of_reply (reply_net rfl ..), by simp, by simp,
      by simp [dropStagedTables]⟩

end Sys2Proof.Machine
end

section
/-! Region requests: their data, CANCEL and the time limit for data (R197, R198, R199, R514). -/

namespace Sys2Proof.Machine

/-! ### Tickets -/

theorem ticket_of_tickets {s t : State} (h : t.tickets = s.tickets) (k : Nat) : ticket t k = ticket s k := by
  rw [ticket, h, ticket]

theorem ticket_of_tset {s t : State} {k : Nat} {x : TicketSt} (h : t.tickets = tset s.tickets k x) :
    ticket t k = x ∧ ∀ j, j ≠ k → ticket t j = ticket s j := by
  refine ⟨?_, fun j hj => ?_⟩
  · rw [ticket, h, tget_tset_self]
  · rw [ticket, h, tget_tset_ne _ _ _ _ _ hj, ticket]

/-! ### A request (R198) -/

/-- The ticket of a request that has been accepted (R198). -/
def requestTicket (s : State) (r : Req) (c : RegionCmd) : TicketSt :=
  { status := 1, kind := c.kind, index := c.index, length := c.length, crc := c.crc
    origin := some (originOf s r), lastData := s.time.tick, role := (sess s r.session).role
    complete := c.length == 0 }

/-- The state with a request's ticket taken and named to its session. -/
def ticketTaken (s : State) (r : Req) (c : RegionCmd) (k : Nat) : State :=
  { setSess (setTicket (touch s r) k (requestTicket s r c)) r.session
      { sess (touch s r) r.session with ticket := k } with lastTicket := k }

/-- The state once an accepted request has been told to the partner and answered. -/
def requestAccepted (s : State) (r : Req) (c : RegionCmd) (k : Nat) : State :=
  reply (sendMortar (ticketTaken s r c k) (.region k 1 c.kind c.index 0)) r 0xE0000000#32 stAccepted

theorem execRegionUpdateRequest_accepted {s : State} {r : Req} {c : RegionCmd} {k : Nat}
    (h : servedOutside s r 0xE0000000#32 = true) (hc : regionCmdOk c = true) (hr : inControl s = true ∨ c.kind = 4)
    (hl : s.md.mode = .load → c.kind = 4) (hk : nextTicket s = some k) :
    exec (.regionUpdateRequest r c) s = .next (sendChanges (wrote (requestAccepted s r c k) 0xE0000000#32)) := by
  have hload : ¬ (s.md.mode == .load && c.kind != 4) = true := by simpa using hl
  have hrole : ¬ (!inControl s && c.kind != 4) = true := by
    rcases hr with hr | hr <;> simp [hr]
  have hnext : nextTicket (touch s r) = some k := hk
  refine congrArg Host.Outcome.next ((hostCommand_served h _).trans ?_)
  simp only [touch_md, if_neg hload, hc, inControl_touch, if_neg hrole, hnext, originOf_touch]
  simp [requestAccepted, ticketTaken, requestTicket]

theorem requestAccepted_parts (s : State) (r : Req) (c : RegionCmd) (k : Nat) :
    (requestAccepted s r c k).md = s.md ∧ (requestAccepted s r c k).lastTicket = k ∧
    (requestAccepted s r c k).tickets = tset s.tickets k (requestTicket s r c) := by
  simp [requestAccepted, ticketTaken, setTicket]

/-- The session of an accepted request, with the ticket it was given and one more request that waits (R198, R514). -/
theorem requestAccepted_sess (s : State) (r : Req) (c : RegionCmd) (k : Nat) :
    (sess (requestAccepted s r c k) r.session).ticket = k ∧ (sess (requestAccepted s r c k) r.session).waiting =
      (sess s r.session).waiting ++ [(r.seq, 0xE0000000#32)] := by
  obtain ⟨ms, lo, lf, n, h⟩ := sendMortarAt_eq 4 (ticketTaken s r c k) (.region k 1 c.kind c.index 0)
  rw [requestAccepted, sendMortar, h, reply_eq]
  simp [sess, linkNet, ticketTaken, setSess]

theorem requestAccepted_answered (s : State) (r : Req) (c : RegionCmd) (k : Nat) :
    answeredAmid s (sendChanges (wrote (requestAccepted s r c k) 0xE0000000#32)) r stAccepted := by
  obtain ⟨ns, hns⟩ := sendMortar_outbox (ticketTaken s r c k) (.region k 1 c.kind c.index 0)
  obtain ⟨ms, hms⟩ := sendChanges_outbox (wrote (requestAccepted s r c k) 0xE0000000#32)
  refine ⟨ms, ns, ?_⟩
  rw [hms, wrote_outbox, requestAccepted, reply_eq, hns]
  rfl

/-! ### Its data (R198) -/

/-- A ticket with more of its data (R198). -/
def withData (s : State) (x : TicketSt) (d : Bytes) : TicketSt :=
  { x with data := x.data ++ d, lastData := s.time.tick, complete := x.data.length + d.length == x.length }

theorem execRegionDataWrite_accepted {s : State} {r : Req} {k : Nat} {d : Bytes}
    (h : served s r (w32 (0xE0020000 + k)) = true) (hk : k ≤ 255) (h1 : (ticket s k).status = 1)
    (hc : (ticket s k).complete = false) (hl : (ticket s k).data.length + d.length ≤ (ticket s k).length) :
    exec (.regionDataWrite r k d) s = .next (sendChanges (wrote
      (reply (setTicket (touch s r) k (withData s (ticket s k) d)) r (w32 (0xE0020000 + k)) stDone)
      (w32 (0xE0020000 + k)))) := by
  have hticket : ticket (touch s r) k = ticket s k := rfl
  refine congrArg Host.Outcome.next ((hostWrite_served h _).trans ?_)
  simp only [hticket]
  rw [if_neg (Nat.not_lt.mpr hk), if_neg (by simp [h1, hc, hl])]
  simp [withData]

/-! ### CANCEL and the time limit (R198, R199) -/

theorem Noted.cancelTicket {s t : State} {n : Nat} {evs : List (Nat × List W32)} (h : Noted s n evs t)
    (k reason : Nat) : Noted s n (evs ++ [(114, [w32 k, 6])]) (ticketEnd t k 6 reason) := by
  have ht : Noted s n evs (setTicket t k (endedTicket (ticket t k) 6 reason)) := h.keep rfl rfl
  have hm : Noted s n (evs ++ [(114, [w32 k, 6])])
      (sendMortar (Machine.raise (setTicket t k (endedTicket (ticket t k) 6 reason)) 114 [w32 k, 6])
        (.region k 6 (ticket t k).kind (ticket t k).index reason)) :=
    (Noted.raise ht 114 [w32 k, 6]).keep (sendMortar_ev ..) (sendMortar_time ..)
  exact hm.completeOpt _ _

/-- What has left the module before a request ends has left it after the end. -/
theorem ticketEnd_outbox (s : State) (k status reason : Nat) :
    ∃ l, (ticketEnd s k status reason).net.outbox = l ++ s.net.outbox := by
  unfold ticketEnd
  extract_lets x s1 s2 s3 s4
  have hnet : s3.net = s.net := by simp [s3, s2, s1, setTicket]
  obtain ⟨ms, hms⟩ := sendMortar_outbox s3 (.region k status x.kind x.index reason)
  obtain ⟨l, hl⟩ := completeOpt_outbox s4 x.origin
    (if status = 4 then stDone else Config.finalCode 0xE000 (16 * status + reason))
  exact ⟨l ++ ms.map .mortar, by rw [hl, hms, hnet, List.append_assoc]⟩

/-- The state once an accepted CANCEL has ended its request. -/
def cancelled (s : State) (r : Req) (k : Nat) : State :=
  ticketEnd (dropRegion (reply (touch s r) r (w32 (0xE0040000 + k)) stDone) (ticket s k)) k 6 0

theorem cancelled_parts (s : State) (r : Req) (k : Nat) : (cancelled s r k).md = s.md ∧
    ticket (cancelled s r k) k = endedTicket (ticket s k) 6 0 ∧
    Noted s r.at_ [(114, [w32 k, 6])] (cancelled s r k) := by
  have hnoted : Noted s r.at_ [] (dropRegion (reply (touch s r) r (w32 (0xE0040000 + k)) stDone) (ticket s k)) :=
    (Noted.touch s r).keep (ev_of_evCore (by simp) (by simp)) (by simp)
  refine ⟨by simp [cancelled], ?_, hnoted.cancelTicket k 0⟩
  rw [cancelled, ticket_ticketEnd_self, ticket_of_tickets (s := s) (by simp)]

theorem mem_cancelled_outbox (s : State) (r : Req) (k : Nat) :
    .response r.session r.seq stDone [] ∈ (cancelled s r k).net.outbox := by
  have hnet : (dropRegion (reply (touch s r) r (w32 (0xE0040000 + k)) stDone) (ticket s k)).net.outbox =
      .response r.session r.seq stDone [] :: s.net.outbox := by simp [reply_eq]
  obtain ⟨l, hl⟩ := ticketEnd_outbox
    (dropRegion (reply (touch s r) r (w32 (0xE0040000 + k)) stDone) (ticket s k)) k 6 0
  rw [cancelled, hl, hnet]
  simp

theorem execRegionCancel_accepted {s : State} {r : Req} {k : Nat} (h : served s r (w32 (0xE0040000 + k)) = true)
    (hk : k ≤ 255) (h1 : 1 ≤ (ticket s k).status) (h3 : (ticket s k).status ≤ 3)
    (hc : (ticket s k).committed = false) : exec (.regionCancel r k 1) s = .next (sendChanges (wrote
      (cancelled s r k) (w32 (0xE0040000 + k)))) := by
  have hticket : ticket (touch s r) k = ticket s k := rfl
  have hopen : ¬ ((ticket s k).status = 0 ∨ 4 ≤ (ticket s k).status ∨ (ticket s k).committed = true) := by
    rintro (h | h | h)
    · omega
    · omega
    · exact absurd (h.symm.trans hc) nofun
  refine congrArg Host.Outcome.next ((hostWrite_served h _).trans ?_)
  simp only [hticket]
  rw [if_neg (Nat.not_lt.mpr hk), if_neg (by decide), if_neg (by decide), if_neg hopen, cancelled]

theorem execRegionDataTimeout_due {s : State} {k : Nat} (n : Nat) (h1 : (ticket s k).status = 1)
    (hc : (ticket s k).complete = false) (hd : (ticket s k).lastData + 80000 ≤ s.time.tick) :
    exec (.regionDataTimeout k n) s = .next (ticketEnd (setPhase s n) k 6 8) :=
  congrArg Host.Outcome.next (if_pos ⟨h1, by simp [hc], hd⟩)

/-- Settles O31: what each command makes of its ticket, and how it answers. Data and CANCEL are served in CHANGE too
(assumption 52). -/
theorem regionRequestsAndTheirData : Obligations.RegionRequestsAndTheirData := by
  unfold Obligations.RegionRequestsAndTheirData
  refine ⟨fun s r c k h hc hr hl hk => ?_, fun s r k d h hk h1 hc hl => ?_, fun s r k h hk h1 h3 hc => ?_,
    fun s k n h1 hc hd => ?_⟩
  · obtain ⟨hmd, hlast, htickets⟩ := requestAccepted_parts s r c k
    obtain ⟨hticket, hwaiting⟩ := requestAccepted_sess s r c k
    have hsess : ∀ i, sess (sendChanges (wrote (requestAccepted s r c k) 0xE0000000#32)) i =
        sess (requestAccepted s r c k) i := fun i => by rw [sess_sendChanges]; rfl
    refine ⟨_, execRegionUpdateRequest_accepted h hc hr hl hk, requestAccepted_answered s r c k, by simp [hmd],
      by simp [hlast], by rw [hsess, hticket], by rw [hsess, hwaiting], ticket_of_tset (.trans (by simp) htickets)⟩
  · refine ⟨_, execRegionDataWrite_accepted h hk h1 hc hl, answers_of_reply (reply_net rfl ..), by simp,
      ticket_of_tset ?_⟩
    simp [setTicket, withData]
  · obtain ⟨hmd, hticket, hnoted⟩ := cancelled_parts s r k
    obtain ⟨ms, hms⟩ := sendChanges_outbox (wrote (cancelled s r k) (w32 (0xE0040000 + k)))
    have htickets : ticket (sendChanges (wrote (cancelled s r k) (w32 (0xE0040000 + k)))) k =
        endedTicket (ticket s k) 6 0 := (ticket_of_tickets (by simp) k).trans hticket
    refine ⟨_, execRegionCancel_accepted h hk h1 h3 hc, .trans (by simp) hmd, ?_, ?_, ?_,
      .trans (by simp) hnoted.ev, ?_⟩
    · rw [htickets]; rfl
    · rw [htickets]; rfl
    · rw [htickets]; rfl
    · rw [hms, wrote_outbox]
      exact List.mem_append_right _ (mem_cancelled_outbox s r k)
  · refine ⟨_, execRegionDataTimeout_due n h1 hc hd, by simp, ?_, ?_, ((Noted.start s n).cancelTicket k 8).ev⟩
    · rw [ticket_ticketEnd_self]; rfl
    · rw [ticket_ticketEnd_self]; rfl

end Sys2Proof.Machine
end

section
/-! One sample of a loop in AUTO, and samples missed at phase 90 µs (R208 to R212, R220). -/

namespace Sys2Proof.Machine

/-! ### What a plain sample passes through -/

theorem fallbackDue_below {s : State} {c : Nat} {d : LoopDef}
    (h : (loop s c).consecMiss < d.missLimit ∧ (loop s c).consecPvBad < d.pvbadLimit) : fallbackDue s c d = s := by
  obtain ⟨hm, hp⟩ := h
  exact if_pos (by simp [hm, hp])

theorem requestsDue_none {s : State} {c : Nat} (hh : (loop2 s c).hostReq = []) (hc : (loop2 s c).courseReq = none) :
    requestsDue s c = s := by
  simp [requestsDue, hh, hc]

theorem rampStep_outermost (s : State) (c : Nat) {d : LoopDef} (h : d.outer = 0xFF) : rampStep s c d = s := if_pos h

theorem tableTerm_absent (s : State) {d : LoopDef} (h : d.table = 0xFFFF) : tableTerm s d = (0, s) := if_pos (.inl h)

theorem injectSample_none {s : State} {c : Nat} (d : LoopDef) (i : SampleIn) (h : (injSt s c).cmd = none) :
    injectSample s c d i = (0, false, s) := by
  simp [injectSample, h]

theorem swapAll_none (s : State) (c : Nat) (d : LoopDef) (x : LoopSt) (r y h : F64) {m : LoopSt2} (acc : Int)
    (hd : m.due = []) (ha : m.dueAll = none) : swapAll s c d x r y h m acc = (s, ⟨m.params, acc, none, 0⟩) := by
  simp [swapAll, hd, ha]

theorem outerDone_innermost {s : State} {c : Nat} (u : F64) (h : innerOf (theImage s) c = none) : outerDone s c u = s := by
  simp [outerDone, h]

/-! ### The law of a sample in AUTO -/

/-- What a sample in AUTO reads: process value, set-point, feed-forward values and time, and nothing to track. -/
def autoIn (s : State) (c : Nat) (d : LoopDef) : SampleIn where
  y := (srcVal s d.lane d.pvSrc).1
  yOk := true
  r := localSp s d (loop2 s c)
  spOk := true
  w0 := (srcVal s d.lane d.ff0).1
  w1 := (srcVal s d.lane d.ff1).1
  t := 0
  h := sampleH s c d
  track := none
  innerSat := 0

/-- The conditions under which the law alone decides a sample (Table 06.6). -/
structure PlainAuto (s : State) (c : Nat) (d : LoopDef) : Prop where
  mode : (loop s c).mode = 1
  hostReq : (loop2 s c).hostReq = []
  courseReq : (loop2 s c).courseReq = none
  restart : (loop s c).restart = false
  bumpless : (loop2 s c).bumpless = false
  due : (loop2 s c).due = []
  dueAll : (loop2 s c).dueAll = none
  injection : (injSt s c).cmd = none
  table : d.table = 0xFFFF
  outer : d.outer = 0xFF
  inner : innerOf (theImage s) c = none
  spCourse : d.spCourse = false
  limits : (loop s c).consecMiss < d.missLimit ∧ (loop s c).consecPvBad < d.pvbadLimit
  track : trackOf s c d = none
  pv : (srcVal s d.lane d.pvSrc).2 = true

theorem PlainAuto.of_plainAuto {s : State} {c : Nat} {d : LoopDef} (h : plainAuto s c d = true) : PlainAuto s c d := by
  simp only [plainAuto, Bool.and_eq_true, Bool.not_eq_true', beq_iff_eq, decide_eq_true_eq, List.isEmpty_iff,
    Option.isNone_iff_eq_none, and_assoc] at h
  obtain ⟨hmode, hreq, hcourse, hrestart, hbumpless, hdue, hall, hinj, htable, houter, hinner, hsp, hmiss, hbad, htrack,
    hpv⟩ := h
  exact ⟨hmode, hreq, hcourse, hrestart, hbumpless, hdue, hall, hinj, htable, houter, hinner, hsp, ⟨hmiss, hbad⟩, htrack,
    hpv⟩

theorem loopSample_plain {s : State} {c : Nat} {d : LoopDef} (h : PlainAuto s c d) :
    loopSample s c d = lawSample s c d (autoIn s c d) := by
  unfold loopSample
  simp only [fallbackDue_below h.limits, requestsDue_none h.hostReq h.courseReq, h.spCourse,
    rampStep_outermost _ _ h.outer, tableTerm_absent _ h.table, Bool.false_and, Bool.false_eq_true, if_false, h.inner]
  cases hs : (loop2 s c).sampled <;> simp [autoIn, sampleH, hs, h.mode, h.restart, h.track, h.pv]

/-- What a sample in AUTO stores of the law (R208 to R212). -/
structure LawStored (s : State) (c : Nat) (d : LoopDef) (x : LoopSt) : Prop where
  u : x.u = autoU s c d
  v : x.v = autoV s c d
  sat : x.sat = satOf (autoU s c d) (autoV s c d)
  acc : x.acc = integrate d (loop2 s c).params (loop s c) 0 (sampleH s c d)
  e : x.e = fSub (autoR s c d) (srcVal s d.lane d.pvSrc).1
  sPrev : x.sPrev = (autoPd s c d).2.1
  d : x.d = (autoPd s c d).2.2
  consecMiss : x.consecMiss = 0
  consecPvBad : x.consecPvBad = 0

/-- What a sample in AUTO leaves (R208 to R212, R220). -/
structure AutoSampled (s : State) (c : Nat) (d : LoopDef) (t : State) : Prop where
  stored : LawStored s c d (loop t c)
  lastTick : (loop2 t c).lastTick = s.time.tick
  doneTick : (loop2 t c).doneTick = some s.time.tick
  others : ∀ j, j ≠ c → loop t j = loop s j ∧ loop2 t j = loop2 s j
  out : ∀ o e, d.dst = some o → ioEntry (theImage s) o = some e → tyReal e.ty = true →
    tget {} t.crs.out o = ⟨rawOfF64 e.ty (autoU s c d), true⟩

/-! The phase of the tick is nothing that a sample reads. -/

theorem autoU_setPhase (s : State) (n c : Nat) (d : LoopDef) : autoU (setPhase s n) c d = autoU s c d := rfl

theorem autoV_setPhase (s : State) (n c : Nat) (d : LoopDef) : autoV (setPhase s n) c d = autoV s c d := rfl

theorem autoR_setPhase (s : State) (n c : Nat) (d : LoopDef) : autoR (setPhase s n) c d = autoR s c d := rfl

theorem autoPd_setPhase (s : State) (n c : Nat) (d : LoopDef) : autoPd (setPhase s n) c d = autoPd s c d := rfl

theorem srcVal_setPhase (s : State) (n lane w : Nat) : srcVal (setPhase s n) lane w = srcVal s lane w := rfl

theorem plainAuto_setPhase (s : State) (n c : Nat) (d : LoopDef) : plainAuto (setPhase s n) c d = plainAuto s c d := rfl

theorem LawStored.of_setPhase {s : State} {n c : Nat} {d : LoopDef} {x : LoopSt} (h : LawStored (setPhase s n) c d x) :
    LawStored s c d x := by
  obtain ⟨hu, hv, hsat, hacc, he, hsPrev, hd, hmiss, hbad⟩ := h
  rw [autoU_setPhase] at hu hsat
  rw [autoV_setPhase] at hv hsat
  rw [autoR_setPhase, srcVal_setPhase] at he
  rw [autoPd_setPhase] at hsPrev hd
  exact ⟨hu, hv, hsat, hacc, he, hsPrev, hd, hmiss, hbad⟩

/-- Output, SAT and integral of a sample whose unlimited output is v (R212). -/
def limitedOut (p : List F64) (uPrev h v : F64) (acc : Int) (step : Option F64) : LawOut :=
  ⟨lawLimit p uPrev h v, v, satOf (lawLimit p uPrev h v) v, acc, step, false⟩

/-- In AUTO, with nothing to track, a valid process value, no transfer and no new parameters, the output is that of
P + I + D + F (R209 to R212). -/
theorem lawOut_auto {d : LoopDef} {x : LoopSt} {i : SampleIn} {w : SwapSt} {inj : Nat → F64 → F64} (hm : x.mode = 1)
    (ht : i.track = none) (hy : i.yOk = true) (hw : w.full = none) (hi : ∀ n v, inj n v = v) (pr dp ff : F64) :
    ∃ step, lawOut d x i w false pr dp ff inj =
      limitedOut w.params x.u i.h (sumV pr (accVal d.intExp w.acc) dp ff) w.acc step := by
  simp [lawOut, limitedOut, hm, ht, hy, hw, hi]

@[simp] theorem lawEvents_parts (s : State) (c : Nat) (d : LoopDef) (x : LoopSt) (i : SampleIn) (step : Option F64) :
    (lawEvents s c d x i step).loops.l = s.loops.l ∧ (lawEvents s c d x i step).loops.m = s.loops.m ∧
    (lawEvents s c d x i step).time = s.time := by
  unfold lawEvents
  cases step <;> dsimp only [Option.elim] <;> (repeat' split) <;> simp

@[simp] theorem publishOut_loops (s : State) (d : LoopDef) (u : F64) : (publishOut s d u).loops = s.loops := by
  unfold publishOut
  split <;> rfl

/-- A published real output stands in the output image (R207). -/
theorem publishOut_out {s : State} {d : LoopDef} {u : F64} {o : Nat} {e : IoEntry} (ho : d.dst = some o)
    (he : ioEntry (theImage s) o = some e) (hr : tyReal e.ty = true) :
    tget {} (publishOut s d u).crs.out o = ⟨rawOfF64 e.ty u, true⟩ := by
  unfold publishOut
  simp [ho, he, hr, putOut]

theorem loop_of_tset {s t : State} {c : Nat} {x : LoopSt} (h : t.loops.l = tset s.loops.l c x) :
    loop t c = x ∧ ∀ j, j ≠ c → loop t j = loop s j := by
  refine ⟨?_, fun j hj => ?_⟩
  · rw [loop, h, tget_tset_self]
  · rw [loop, h, tget_tset_ne _ _ _ _ _ hj, loop]

theorem loop2_of_tset {s t : State} {c : Nat} {m : LoopSt2} (h : t.loops.m = tset s.loops.m c m) :
    loop2 t c = m ∧ ∀ j, j ≠ c → loop2 t j = loop2 s j := by
  refine ⟨?_, fun j hj => ?_⟩
  · rw [loop2, h, tget_tset_self]
  · rw [loop2, h, tget_tset_ne _ _ _ _ _ hj, loop2]

theorem theImage_publishOut (s : State) (d : LoopDef) (u : F64) : theImage (publishOut s d u) = theImage s := by
  simp [theImage]

/-- The tail of a sample, from the loop state that it stores to the lane's cycles (R207, R217, R222). -/
theorem AutoSampled.of_stored {s u : State} {c : Nat} {d : LoopDef} {x : LoopSt} {m : LoopSt2} (k : Nat)
    (hl : u.loops.l = s.loops.l) (hm : u.loops.m = s.loops.m) (hi : theImage u = theImage s)
    (hinner : innerOf (theImage s) c = none) (hx : LawStored s c d x) (hlast : m.lastTick = s.time.tick)
    (hdone : m.doneTick = some s.time.tick) : AutoSampled s c d
      (laneUse (outerDone (publishOut (setLoop2 (setLoop u c x) c m) d (autoU s c d)) c (autoU s c d)) d.lane k) := by
  have himg : theImage (setLoop2 (setLoop u c x) c m) = theImage s := hi
  rw [outerDone_innermost _ (by rw [theImage_publishOut, himg]; exact hinner)]
  have hloops : (publishOut (setLoop2 (setLoop u c x) c m) d (autoU s c d)).loops.l = tset s.loops.l c x ∧
      (publishOut (setLoop2 (setLoop u c x) c m) d (autoU s c d)).loops.m = tset s.loops.m c m := by
    rw [publishOut_loops, ← hl, ← hm]
    exact ⟨rfl, rfl⟩
  generalize ht : publishOut (setLoop2 (setLoop u c x) c m) d (autoU s c d) = t at hloops ⊢
  obtain ⟨hself, hothers⟩ := loop_of_tset (t := laneUse t d.lane k) hloops.1
  obtain ⟨hself2, hothers2⟩ := loop2_of_tset (t := laneUse t d.lane k) hloops.2
  constructor
  case stored => rwa [hself]
  case lastTick => rw [hself2, hlast]
  case doneTick => rw [hself2, hdone]
  case others => exact fun j hj => ⟨hothers j hj, hothers2 j hj⟩
  case out =>
    intro o e hd he hr
    rw [← ht]
    exact publishOut_out hd (by rw [himg, he]) hr

/-- Nothing is injected, tracked, swapped or transferred, so the law gives the stored values and the output (R208 to R212). -/
theorem lawSample_auto {s : State} {c : Nat} {d : LoopDef} (h : PlainAuto s c d) :
    AutoSampled s c d (lawSample s c d (autoIn s c d)) := by
  unfold lawSample
  extract_lets x m e88 law g sig injected s1 point inj a0 takes lim clampSp rNow r y e sw s2 w p swapped opposite held t dp ff
    o s3 x' s4 m' cnt s5 s6 s7 s8
  have hg : g = (0, false, s) := injectSample_none d _ h.injection
  have hs : s1 = s := by simp [s1, hg]
  have hi : injected = false := by simp [injected, hg]
  have ha : a0 = integrate d (loop2 s c).params (loop s c) 0 (sampleH s c d) :=
    if_neg (by simp [x, law, autoIn, h.restart, h.mode])
  have hlim : lim = (loop2 s c).params := by simp [lim, m, h.due, h.dueAll]
  have hr : r = autoR s c d := by simp [r, rNow, clampSp, hlim, hi, autoR, autoIn]
  have hsw : sw = (s, ⟨(loop2 s c).params, a0, none, 0⟩) :=
    (swapAll_none s1 c d x r y _ a0 h.due h.dueAll).trans (by rw [hs])
  have hs2 : s2 = s := congrArg Prod.fst hsw
  have hw : w = ⟨(loop2 s c).params, a0, none, 0⟩ := congrArg Prod.snd hsw
  have hp : p = (loop2 s c).params := congrArg SwapSt.params hw
  have ht : t = autoPd s c d := by simp [t, hr, hp, autoPd, autoIn, y, x]
  obtain ⟨step, ho⟩ : ∃ step, o =
      limitedOut (loop2 s c).params (loop s c).u (sampleH s c d) (autoV s c d) a0 step := by
    obtain ⟨step, ho⟩ := lawOut_auto (d := d) (x := x) (i := autoIn s c d) (w := w) (inj := inj) h.mode rfl rfl
      (by rw [hw]) (by simp [inj, hi]) t.1 dp ff
    refine ⟨step, .trans ?_ (ho.trans ?_)⟩
    · simp [o, m, x, h.bumpless, h.restart]
    · simp [hw, autoV, autoIn, ha, dp, ff, hp, ht, x]
  have hu : o.u = autoU s c d := by rw [ho]; rfl
  have hv : o.v = autoV s c d := by rw [ho]; rfl
  have hsat : o.sat = satOf (autoU s c d) (autoV s c d) := by rw [ho]; rfl
  have hacc : o.acc = integrate d (loop2 s c).params (loop s c) 0 (sampleH s c d) := by rw [ho]; exact ha
  have hs3 : s3 = lawEvents s c d (loop s c) (autoIn s c d) o.step := by simp only [s3, hs2, x]
  have hs6 : s6 = s5 := if_neg (by simp [hi])
  have hs8 : s8 = outerDone (publishOut s5 d (autoU s c d)) c (autoU s c d) := by simp only [s8, s7, hs6, hu]
  have htick : s4.time.tick = s.time.tick := by simp [s4, hs3, setLoop]
  rw [hs8]
  exact .of_stored _ (by simp [hs3]) (by simp [hs3]) (by simp [hs3, theImage]) h.inner
    ⟨hu, hv, hsat, hacc, congrArg (fSub · y) hr, congrArg (·.2.1) ht, congrArg (·.2.2) ht, rfl, rfl⟩ htick
    (congrArg some htick)

theorem sendLoop_eq (s : State) (c : Nat) : ∃ n, sendLoop s c = { s with net := n } := by
  unfold sendLoop
  split
  · obtain ⟨lo, lf, k, h⟩ := sendLink_eq s 3 96 (.tickLoop (loopMortar s c))
    exact ⟨_, h⟩
  · exact ⟨s.net, rfl⟩

theorem execLoopSample_due {s : State} {c n : Nat} {d : LoopDef} (hd : loopDef (theImage s) c = some d)
    (hr : running s = true) (h1 : 30000 ≤ n) (h2 : n < 90000) (hl : (laneLeft s d.lane).head? = some c) :
    exec (.loopSample c n) s = .next (sendLoop (loopSample (setPhase s n) c d) c) := by
  show execLoopSample c n s = _
  unfold execLoopSample
  simp only [hd]
  exact congrArg Host.Outcome.next (if_neg (by simp [hr, hl]; omega))

/-- The segment that leaves with a sample changes the messages alone (R342). -/
theorem AutoSampled.sent {s : State} {c : Nat} {d : LoopDef} {t : State} (h : AutoSampled s c d t) :
    AutoSampled s c d (sendLoop t c) := by
  obtain ⟨n, hn⟩ := sendLoop_eq t c
  rw [hn]
  exact ⟨h.stored, h.lastTick, h.doneTick, h.others, h.out⟩

/-! ### Missed samples (R220) -/

/-- A context's state before and after it has missed its sample of a tick (R220). -/
structure MissedSample (tick : Nat) (x x' : LoopSt) (m m' : LoopSt2) (i i' : InjSt) : Prop where
  consecMiss : x'.consecMiss = min (x.consecMiss + 1) 255
  u : x'.u = x.u
  acc : x'.acc = x.acc
  mode : x'.mode = x.mode
  doneTick : m'.doneTick = some tick
  lastTick : m'.lastTick = m.lastTick
  injection : i.state = 2 → i'.state = 4 ∧ i'.cause = 5

/-- Context j missed its sample between two states. -/
def MissedAt (s t : State) (j : Nat) : Prop :=
  MissedSample s.time.tick (loop s j) (loop t j) (loop2 s j) (loop2 t j) (injSt s j) (injSt t j)

/-- Context j is the same in two states. -/
structure SameAt (s t : State) (j : Nat) : Prop where
  loop : loop t j = loop s j
  loop2 : loop2 t j = loop2 s j
  inj : injSt t j = injSt s j

theorem MissedAt.of_same_before {s u t : State} {j : Nat} (h : MissedAt u t j) (hs : SameAt s u j)
    (ht : u.time.tick = s.time.tick) : MissedAt s t j := by
  unfold MissedAt at *
  rwa [hs.loop, hs.loop2, hs.inj, ht] at h

theorem MissedAt.of_same_after {s u t : State} {j : Nat} (h : MissedAt s u j) (hs : SameAt u t j) : MissedAt s t j := by
  unfold MissedAt at *
  rwa [hs.loop, hs.loop2, hs.inj]

theorem SameAt.trans {s u t : State} {j : Nat} (h : SameAt s u j) (k : SameAt u t j) : SameAt s t j :=
  ⟨k.loop.trans h.loop, k.loop2.trans h.loop2, k.inj.trans h.inj⟩

theorem stopInjection_loops (s : State) (c n : Nat) :
    (stopInjection s c n).loops.l = s.loops.l ∧ (stopInjection s c n).loops.m = s.loops.m := by
  unfold stopInjection
  dsimp only
  split <;> simp

/-- The loop state of a context that has missed its sample, with its ramp's count (R217, R220). -/
def missLoop (s : State) (c n : Nat) : LoopSt :=
  { loop s c with rampJ := n, consecMiss := min ((loop s c).consecMiss + 1) 255 }

/-- The second part of its state. -/
def missLoop2 (s : State) (c : Nat) : LoopSt2 :=
  { loop2 s c with counters := bump (loop2 s c).counters 0, doneTick := some s.time.tick }

/-- The state once the miss is counted, with the loop states l, before an injection stops. -/
def missCounted (s : State) (c : Nat) (l : Tab LoopSt) : State :=
  { s with loops := { s.loops with l := l, m := tset s.loops.m c (missLoop2 s c) } }

/-- The loop states l are those of s but for context c, which has missed its sample. -/
def MissTable (s : State) (c : Nat) (l : Tab LoopSt) : Prop :=
  (∃ n, tget {} l c = missLoop s c n) ∧ ∀ j, j ≠ c → tget {} l j = loop s j

/-- A missed sample counts, with one instant of the inner set-point's ramp, and stops an injection (R217, R220). -/
theorem loopMiss_eq (s : State) (c : Nat) : ∃ l, MissTable s c l ∧ loopMiss s c =
    if (injSt s c).state = 2 then stopInjection (missCounted s c l) c 5 else missCounted s c l := by
  have plain : MissTable s c (tset s.loops.l c (missLoop s c (loop s c).rampJ)) :=
    ⟨⟨_, tget_tset_self _ _ _ _⟩, fun j hj => tget_tset_ne _ _ _ _ _ hj⟩
  unfold loopMiss
  cases loopDef (theImage s) c with
  | none => exact ⟨_, plain, rfl⟩
  | some d =>
    dsimp only [Option.elim]
    by_cases ho : d.outer = 0xFF
    · rw [rampStep_outermost s c ho]
      exact ⟨_, plain, rfl⟩
    · rw [show rampStep s c d = _ from if_neg ho]
      refine ⟨_, ⟨⟨min ((loop s c).rampJ + 1) 256, ?_⟩, fun j hj => ?_⟩, rfl⟩
      · rw [loop_setLoop_self]
        exact tget_tset_self _ _ _ _
      · exact (tget_tset_ne _ _ _ _ _ hj).trans (tget_tset_ne _ _ _ _ _ hj)

theorem loopMiss_rest (s : State) (c : Nat) :
    (loopMiss s c).md = s.md ∧ (loopMiss s c).crs = s.crs ∧ (loopMiss s c).time = s.time := by
  obtain ⟨l, -, h⟩ := loopMiss_eq s c
  rw [h]
  split <;> simp [missCounted]

theorem loopMiss_raises (s : State) (c : Nat) : Raises s (loopMiss s c) := by
  obtain ⟨l, -, h⟩ := loopMiss_eq s c
  have hu : Raises s (missCounted s c l) := .of_intake rfl
  rw [h]
  split
  · exact hu.trans (stopInjection_raises _ c 5)
  · exact hu

theorem loopMiss_tables (s : State) (c : Nat) : MissTable s c (loopMiss s c).loops.l ∧
    (loopMiss s c).loops.m = tset s.loops.m c (missLoop2 s c) := by
  obtain ⟨l, hl, h⟩ := loopMiss_eq s c
  rw [h]
  split
  · rw [(stopInjection_loops ..).1, (stopInjection_loops ..).2]
    exact ⟨hl, rfl⟩
  · exact ⟨hl, rfl⟩

theorem injSt_loopMiss (s : State) (c j : Nat) : injSt (loopMiss s c) j =
    if j = c ∧ (injSt s c).state = 2 then { injSt s c with state := 4, cause := 5, origin := none, satRun := 0 }
    else injSt s j := by
  obtain ⟨l, -, h⟩ := loopMiss_eq s c
  rw [h]
  by_cases hs : (injSt s c).state = 2
  · rw [if_pos hs, injSt, stopInjection_inj]
    have h2 : (tget ({} : InjSt) (missCounted s c l).loops.inj c).state = 2 := hs
    simp only [h2, hs, or_true, and_true]
    rfl
  · simp [hs]
    rfl

theorem loopMiss_missed (s : State) (c : Nat) : MissedAt s (loopMiss s c) c := by
  obtain ⟨⟨⟨n, hl⟩, -⟩, hm⟩ := loopMiss_tables s c
  have hloop : loop (loopMiss s c) c = missLoop s c n := hl
  unfold MissedAt
  rw [hloop, (loop2_of_tset hm).1, injSt_loopMiss]
  exact ⟨rfl, rfl, rfl, rfl, rfl, rfl, fun h => by simp [h]⟩

theorem loopMiss_same (s : State) {c j : Nat} (h : j ≠ c) : SameAt s (loopMiss s c) j := by
  obtain ⟨⟨-, hl⟩, hm⟩ := loopMiss_tables s c
  exact ⟨hl j h, (loop2_of_tset hm).2 j h, by rw [injSt_loopMiss, if_neg fun a => h a.1]⟩

theorem loopMiss_foldl (l : List Nat) (s : State) (h : l.Nodup) :
    (∀ j ∈ l, MissedAt s (l.foldl loopMiss s) j) ∧ ∀ j, j ∉ l → SameAt s (l.foldl loopMiss s) j := by
  induction l generalizing s with
  | nil => exact ⟨nofun, fun j _ => ⟨rfl, rfl, rfl⟩⟩
  | cons c l ih =>
    obtain ⟨hc, hl⟩ := List.nodup_cons.mp h
    obtain ⟨hmiss, hsame⟩ := ih (loopMiss s c) hl
    refine ⟨fun j hj => ?_, fun j hj => ?_⟩
    · rcases List.mem_cons.mp hj with rfl | hj
      · exact (loopMiss_missed s j).of_same_after (hsame j hc)
      · have hne : j ≠ c := fun e => hc (e ▸ hj)
        exact (hmiss j hj).of_same_before (loopMiss_same s hne) (by rw [(loopMiss_rest s c).2.2])
    · obtain ⟨hne, hj⟩ := not_or.mp (mt List.mem_cons.mpr hj)
      exact (loopMiss_same s hne).trans (hsame j hj)

/-- The state in which EV128 has been raised at the deadline. -/
def deadlineRaised (s : State) (lane c n : Nat) : State := raise (setPhase s 90000) 128 [w32 lane, w32 c, w32 n]

theorem deadlineRaised_same (s : State) (lane c n j : Nat) : SameAt s (deadlineRaised s lane c n) j := by
  constructor <;> simp [deadlineRaised, loop, loop2, injSt] <;> rfl

/-- The state behind a deadline that c and then l have missed. -/
def deadlineMissed (s : State) (lane c : Nat) (l : List Nat) : State :=
  laneUse ((c :: l).foldl loopMiss (deadlineRaised s lane c (l.length + 1))) lane 24000

theorem execLoopDeadline_missed {s : State} {lane c : Nat} {l : List Nat} (hr : running s = true)
    (hl : laneLeft s lane = c :: l) : exec (.loopDeadline lane) s = .next (deadlineMissed s lane c l) := by
  show execLoopDeadline lane s = _
  unfold execLoopDeadline
  rw [if_neg (by simp [hr]), hl]
  rfl

theorem deadlineMissed_rest (s : State) (lane c : Nat) (l : List Nat) :
    (deadlineMissed s lane c l).md = s.md ∧ (deadlineMissed s lane c l).crs = s.crs ∧
    (recorded s 90000 [(128, [w32 lane, w32 c, w32 (l.length + 1)])]).intake <+: (deadlineMissed s lane c l).ev.intake := by
  have hev := (Raises.foldl (c :: l) loopMiss (deadlineRaised s lane c (l.length + 1)) loopMiss_raises).intake
  rw [deadlineRaised, raise_ev] at hev
  refine ⟨?_, ?_, hev⟩
  · exact (foldl_md _ _ _ fun u b => (loopMiss_rest u b).1).trans (by simp [deadlineRaised])
  · exact (foldl_crs _ _ _ fun u b => (loopMiss_rest u b).2.1).trans (by simp [deadlineRaised])

theorem deadlineMissed_contexts (s : State) (lane : Nat) {c : Nat} {l : List Nat} (h : (c :: l).Nodup) :
    (∀ j ∈ c :: l, MissedAt s (deadlineMissed s lane c l) j) ∧
    ∀ j, j ∉ c :: l → SameAt s (deadlineMissed s lane c l) j := by
  have hfirst := deadlineRaised_same s lane c (l.length + 1)
  have hlast : ∀ u j, SameAt u (laneUse u lane 24000) j := fun u j => ⟨rfl, rfl, rfl⟩
  obtain ⟨hmiss, hsame⟩ := loopMiss_foldl (c :: l) (deadlineRaised s lane c (l.length + 1)) h
  refine ⟨fun j hj => ?_, fun j hj => ((hfirst j).trans (hsame j hj)).trans (hlast _ j)⟩
  exact ((hmiss j hj).of_same_before (hfirst j) (by simp [deadlineRaised])).of_same_after (hlast _ j)

/-- Settles O33: a plain sample in AUTO is the law's values at its context, and a missed one its count. The anti-windup term
is rounded as the model does (assumption 53). -/
theorem loopSampleFollowsTheLaw : Obligations.LoopSampleFollowsTheLaw := by
  unfold Obligations.LoopSampleFollowsTheLaw
  refine ⟨fun s c n d hd hr h1 h2 hl ha => ?_, fun s lane c l hr hl hn => ?_⟩
  · have ha : PlainAuto (setPhase s n) c d := PlainAuto.of_plainAuto ((plainAuto_setPhase ..).trans ha)
    have hs := (lawSample_auto ha).sent
    rw [← loopSample_plain ha] at hs
    obtain ⟨hx, hlast, hdone, hothers, hout⟩ := hs
    have hx := hx.of_setPhase
    rw [autoU_setPhase] at hout
    exact ⟨_, execLoopSample_due hd hr h1 h2 hl, by simp, hx.u, hx.v, hx.sat, hx.acc, hx.e, hx.sPrev, hx.d, hx.consecMiss,
      hx.consecPvBad, hlast, hdone, hothers, hout⟩
  · obtain ⟨hmd, hcrs, hev⟩ := deadlineMissed_rest s lane c l
    obtain ⟨hmiss, hsame⟩ := deadlineMissed_contexts s lane hn
    refine ⟨_, execLoopDeadline_missed hr hl, hmd, fun j hj => ?_, fun j hj => ?_, congrArg (·.out) hcrs, hev⟩
    · obtain ⟨hc, hu, ha, hm, hd, ht, hi⟩ := hmiss j hj
      exact ⟨hc, hu, ha, hm, hd, ht, hi⟩
    · obtain ⟨h, h2, -⟩ := hsame j hj
      exact ⟨h, h2⟩

end Sys2Proof.Machine
end

section
/-! Loop mode requests, the manual value and APPLY (R224, R225, R228, R514). -/

namespace Sys2Proof.Machine

/-! ### Loop mode requests (R224) -/

theorem loopModeCheck_touch (s : State) (r : Req) (c code : Nat) :
    loopModeCheck (touch s r) c code = loopModeCheck s c code := rfl

theorem manualCheck_touch (s : State) (r : Req) (c : Nat) : manualCheck (touch s r) c = manualCheck s c := rfl

theorem applyCheck_touch (s : State) (r : Req) (c : Nat) (v : W32) : applyCheck (touch s r) c v = applyCheck s c v := rfl

/-- The state behind a request of the loop engine whose owner made u of it. -/
def loopAnswered (u : State) (r : Req) (obj : W32) (status : Nat) : State :=
  sendChanges (wrote (reply u r obj status) obj)

@[simp] theorem loopAnswered_parts (u : State) (r : Req) (obj : W32) (status : Nat) :
    (loopAnswered u r obj status).md = u.md ∧ (loopAnswered u r obj status).loops = u.loops := by
  simp [loopAnswered]

@[simp] theorem loop_loopAnswered (u : State) (r : Req) (obj : W32) (status j : Nat) :
    loop (loopAnswered u r obj status) j = loop u j := by rw [loop, (loopAnswered_parts ..).2, loop]

@[simp] theorem loop2_loopAnswered (u : State) (r : Req) (obj : W32) (status j : Nat) :
    loop2 (loopAnswered u r obj status) j = loop2 u j := by rw [loop2, (loopAnswered_parts ..).2, loop2]

theorem loopModeRequest_accepted {s : State} {r : Req} {c code : Nat}
    (h : servedOutside s r (0x10010000 + w32 c) = true) (hc : loopModeCheck s c code = none) :
    loopModeRequest r c code s =
      loopAnswered (loopModeAccept (touch s r) r c code) r (0x10010000 + w32 c) stAccepted := by
  unfold loopModeRequest
  rw [hostCommand_served h]
  simp only [loopModeCheck_touch, hc, loopAnswered]

/-- An accepted request waits at its context with the tick of its acceptance, behind those before it. -/
theorem loopModeRequest_requested {s : State} {r : Req} {c code : Nat}
    (h : servedOutside s r (0x10010000 + w32 c) = true) (hc : loopModeCheck s c code = none) :
    loopRequested s (loopModeRequest r c code s) r c code := by
  rw [loopModeRequest_accepted h hc]
  refine ⟨acceptedFor_of_reply (reply_net rfl ..), by simp [loopModeAccept], fun j => ?_, ?_, fun j hj => ?_⟩
  · rw [loop_loopAnswered]
    rfl
  · rw [loop2_loopAnswered, loopModeAccept, loop2_setLoop2_self, originOf_touch]
    rfl
  · rw [loop2_loopAnswered, loopModeAccept, loop2_setLoop2_ne _ _ _ _ hj]
    rfl

/-! ### The manual value and APPLY (R225, R228) -/

theorem execManualValueWrite_accepted {s : State} {r : Req} {c : Nat} (v : F64)
    (h : servedOutside s r (0x10030000 + w32 c) = true) (hc : manualCheck s c = none) :
    exec (.manualValueWrite r c v) s =
      .next (loopAnswered (manualAccept (touch s r) c v) r (0x10030000 + w32 c) stDone) := by
  refine congrArg Host.Outcome.next ((hostCommand_served h _).trans ?_)
  simp only [manualCheck_touch, hc, loopAnswered]

theorem execApply_accepted {s : State} {r : Req} {c : Nat} (h : servedOutside s r (0x10040000 + w32 c) = true)
    (hc : applyCheck s c 1 = none) : exec (.apply r c 1) s =
      .next (loopAnswered (applyAccept (touch s r) c 1) r (0x10040000 + w32 c) stDone) := by
  refine congrArg Host.Outcome.next ((hostCommand_served h _).trans ?_)
  simp only [applyCheck_touch, hc, loopAnswered]

theorem applyAccept_one (s : State) (c : Nat) :
    applyAccept s c 1 = setLoop2 s c { loop2 s c with applyAt := some s.time.tick } := if_pos rfl

/-- Settles O34: every mode request is the one shared request with its code, the two writes set their one field. -/
theorem loopRequestsWaitForASample : Obligations.LoopRequestsWaitForASample := by
  unfold Obligations.LoopRequestsWaitForASample
  have mode : ∀ (s : State) (r : Req) (c code : Nat), servedOutside s r (0x10010000 + w32 c) = true →
      loopModeCheck s c code = none →
      ∃ t, Host.Outcome.next (loopModeRequest r c code s) = (.next t : Host.Outcome State Fault Refusal) ∧
        loopRequested s t r c code :=
    fun s r c code h hc => ⟨_, rfl, loopModeRequest_requested h hc⟩
  refine ⟨fun s r c => mode s r c 0, fun s r c => mode s r c 1, fun s r c => mode s r c 2, fun s r c => mode s r c 3,
    fun s r c => mode s r c 4, fun s r c v h hc => ?_, fun s r c h hc => ?_⟩
  · refine ⟨_, execManualValueWrite_accepted v h hc, answers_of_reply (reply_net rfl ..), by simp [manualAccept], ?_,
      fun j hj => ?_, by simp [manualAccept]⟩
    · rw [loop_loopAnswered, manualAccept, loop_setLoop_self]
      rfl
    · rw [loop_loopAnswered, manualAccept, loop_setLoop_ne _ _ _ _ hj]
      rfl
  · have he := execApply_accepted h hc
    rw [applyAccept_one] at he
    refine ⟨_, he, answers_of_reply (reply_net rfl ..), by simp, by simp, ?_, fun j hj => ?_⟩
    · rw [loop2_loopAnswered, loop2_setLoop2_self]
      rfl
    · rw [loop2_loopAnswered, loop2_setLoop2_ne _ _ _ _ hj]
      rfl

end Sys2Proof.Machine
end

section
/-! Tick frames, mortar frames and stale classes on a STANDBY (R234, R286, R339, R342 to R344). -/

namespace Sys2Proof.Machine

/-! ### The loop states of a tick frame (R234) -/

/-- What a tick frame makes of a configured context. -/
structure TakenLoop (q : LoopMortar) (x : LoopSt) (m : LoopSt2) : Prop where
  acc : x.acc = q.acc
  u : x.u = q.u
  d : x.d = q.d
  e : x.e = q.e
  restart : x.restart = false
  lastTick : m.lastTick = q.lastTick

theorem takeLoop_taken {s : State} {q : LoopMortar} (h : (loopDef (theImage s) q.ctx).isSome = true) :
    TakenLoop q (loop (takeLoop s q) q.ctx) (loop2 (takeLoop s q) q.ctx) := by
  have htake : takeLoop s q = _ := if_neg (by simpa [Option.isSome_iff_ne_none] using h)
  have hx : loop (takeLoop s q) q.ctx = _ := (congrArg (loop · q.ctx) htake).trans (tget_tset_self _ _ _ _)
  have hm : loop2 (takeLoop s q) q.ctx = _ := (congrArg (loop2 · q.ctx) htake).trans (tget_tset_self _ _ _ _)
  rw [hx, hm]
  exact ⟨rfl, rfl, rfl, rfl, rfl, rfl⟩

theorem takeLoop_other (s : State) (q : LoopMortar) {c : Nat} (h : c ≠ q.ctx) :
    loop (takeLoop s q) c = loop s c ∧ loop2 (takeLoop s q) c = loop2 s c := by
  unfold takeLoop
  split
  · exact ⟨rfl, rfl⟩
  · exact ⟨loop_setLoop_ne s _ _ _ h, loop2_setLoop2_ne _ _ _ _ h⟩

theorem takeLoop_rest (s : State) (q : LoopMortar) : (takeLoop s q).ev = s.ev ∧ theImage (takeLoop s q) = theImage s := by
  unfold takeLoop
  split <;> exact ⟨rfl, rfl⟩

theorem takeLoops_other (l : List LoopMortar) (s : State) {c : Nat} (h : c ∉ l.map (·.ctx)) :
    loop (l.foldl takeLoop s) c = loop s c ∧ loop2 (l.foldl takeLoop s) c = loop2 s c := by
  induction l generalizing s with
  | nil => exact ⟨rfl, rfl⟩
  | cons q l ih =>
    rw [List.map_cons, List.mem_cons, not_or] at h
    obtain ⟨hl, hm⟩ := ih (takeLoop s q) h.2
    obtain ⟨hl', hm'⟩ := takeLoop_other s q h.1
    exact ⟨hl.trans hl', hm.trans hm'⟩

theorem takeLoops_taken {l : List LoopMortar} {s : State} {q : LoopMortar} (h : (l.map (·.ctx)).Nodup) (hq : q ∈ l)
    (hd : (loopDef (theImage s) q.ctx).isSome = true) :
    TakenLoop q (loop (l.foldl takeLoop s) q.ctx) (loop2 (l.foldl takeLoop s) q.ctx) := by
  induction l generalizing s with
  | nil => cases hq
  | cons p l ih =>
    rw [List.map_cons, List.nodup_cons] at h
    rcases List.mem_cons.mp hq with rfl | hq
    · obtain ⟨hl, hm⟩ := takeLoops_other l (takeLoop s q) h.1
      rw [List.foldl_cons, hl, hm]
      exact takeLoop_taken hd
    · exact ih h.2 hq (by rwa [(takeLoop_rest s p).2])

theorem takeLoops_rest (l : List LoopMortar) (s : State) : (l.foldl takeLoop s).md = s.md ∧
    (l.foldl takeLoop s).ev = s.ev ∧ (l.foldl takeLoop s).crs = s.crs ∧ (l.foldl takeLoop s).pair = s.pair :=
  ⟨foldl_md _ _ _ (by simp), foldl_inv (P := fun u => u.ev = s.ev) l _ s rfl fun u q hu => (takeLoop_rest u q).1.trans hu,
    foldl_crs _ _ _ (by simp), foldl_pair _ _ _ (by simp)⟩

/-! ### A tick frame (R342) -/

/-- The state behind a tick frame that closes and tells of no swap (R342). -/
def tickTaken (s : State) (f : TickMortar) : State :=
  setStale { f.loops.foldl takeLoop s with mortar := { (f.loops.foldl takeLoop s).mortar with
    tick := some f, outputs := f.outputs
    loops := f.loops.foldl (fun t q => tset t q.ctx q) (f.loops.foldl takeLoop s).mortar.loops } } 0 0

theorem takeTick_closed {s : State} {f : TickMortar} (hc : f.closes = true) (he : f.exch = 0) :
    takeTick s f = tickTaken s f := by
  simp [takeTick, hc, he, tickTaken]

theorem execMortarTickFrameReceive_follows {s : State} (f : TickMortar) (hl : linkServed s = true) (hf : follows s = true)
    (hn : s.pair.noCommon = false) : exec (.mortarTickFrameReceive f) s = .next (takeTick (setPhase s 105000) f) := by
  show execMortarTickFrameReceive f s = _
  simp [execMortarTickFrameReceive, hl, hf, hn]

/-! ### Other frames (R339, R343) -/

theorem frameCame_awaited (s : State) (cls : Nat) : ∃ l, frameCame s cls =
    { s with mortar := { s.mortar with awaited := l } } := by
  unfold frameCame
  split
  · exact ⟨_, rfl⟩
  · exact ⟨s.mortar.awaited, rfl⟩

theorem frameCame_setPhase (s : State) (n cls : Nat) : frameCame (setPhase s n) cls = setPhase (frameCame s cls) n := by
  unfold frameCame
  rw [show (setPhase s n).mortar = s.mortar from rfl]
  cases s.mortar.awaited.find? fun e => e.1 == cls with
  | none => rfl
  | some e => rfl

/-- The state with a frame behind those that wait for the boundary (R339). -/
def frameQueued (s : State) (m : Mortar) : State :=
  { s with mortar := { s.mortar with queue := s.mortar.queue ++ [m] } }

theorem standbyReceive_waits (s : State) {m : Mortar} (h : waitsForBoundary m = true) :
    standbyReceive s m = frameQueued s m := by
  cases m with
  | outcome | step | tableReady => cases h
  | ack b reset =>
    cases reset
    · rfl
    · cases h
  | _ => rfl

theorem execMortarFrameReceive_waits {s : State} {m : Mortar} (n : Nat) (hl : linkServed s = true) (hf : follows s = true)
    (hn : s.pair.noCommon = false) (hw : waitsForBoundary m = true) : exec (.mortarFrameReceive true m n) s =
      .next (frameQueued (setPhase (frameCame s (mortarClass m)) n) m) := by
  obtain ⟨l, h⟩ := frameCame_awaited s (mortarClass m)
  have hf : follows (setPhase (frameCame s (mortarClass m)) n) = true := by rwa [h]
  show execMortarFrameReceive true m n s = _
  simp only [execMortarFrameReceive, hl, hn, frameCame_setPhase, hf, standbyReceive_waits _ hw]
  rfl

/-- The state behind a frame that fails its CRC: counted, and awaited again (R343). -/
def frameFailed (s : State) (m : Mortar) : State :=
  { pairCount s 6 with mortar := { s.mortar with awaited := s.mortar.awaited ++ [(mortarClass m, s.time.tick)] } }

theorem execMortarFrameReceive_failed {s : State} (m : Mortar) (n : Nat) (hl : linkServed s = true)
    (hn : s.pair.noCommon = false) : exec (.mortarFrameReceive false m n) s = .next (frameFailed (setPhase s n) m) := by
  show execMortarFrameReceive false m n s = _
  simp only [execMortarFrameReceive, hl, hn]
  rfl

/-! ### Stale classes (R344) -/

theorem execMortarStale_beyond {s : State} {cls : Nat} (n : Nat) (hl : linkServed s = true) (hs : shadows s = true)
    (hc : cls ≤ 3) (hb : staleLimit s cls < s.pair.stale.getD cls 0) : exec (.mortarStale cls n) s =
      .next (toSync (raise (setPhase s n) 44 [w32 cls, w32 (s.pair.stale.getD cls 0)]) causePair) :=
  congrArg Host.Outcome.next (if_neg (by simp [-List.getD_eq_getElem?_getD, hl, hs, hc, hb]))

/-- What leaving for SYNC notes before the mode changes (R194, R344). -/
def syncNoted (s : State) : State :=
  { s with
    pair := { s.pair with syncTick := s.time.tick, bulk := none }
    mortar := { s.mortar with shadowFault := false } }

theorem toSync_eq (s : State) (cause : Nat) : toSync s cause = changeMode (syncNoted s) .sync cause := rfl

theorem toSync_parts (s : State) (cause : Nat) : (toSync s cause).md.mode = .sync ∧
    (toSync s cause).md.role = s.md.role ∧ Raises s (toSync s cause) := by
  have hnoted : Raises s (syncNoted s) := .of_intake rfl
  rw [toSync_eq]
  exact ⟨changeMode_mode .., changeMode_role _ _ _ nofun nofun, hnoted.trans (changeMode_raises ..)⟩

/-- Settles O45: a closed frame sets the contexts it lists, another frame the queue or the awaited ones, and a stale class
leads to SYNC. The outputs of a frame wait for a takeover (assumption 58). -/
theorem mortarIsTakenAndApplied : Obligations.MortarIsTakenAndApplied := by
  unfold Obligations.MortarIsTakenAndApplied
  refine ⟨fun s f hl hf hn hc he hd => ?_, fun s f hl hf hn hc => ?_, fun s m n hl hf hn hw => ?_, fun s m n hl hn => ?_,
    fun s cls n hl hs hc hb => ?_⟩
  · have hx := execMortarTickFrameReceive_follows f hl hf hn
    rw [takeTick_closed hc he] at hx
    obtain ⟨hmd, hev, hcrs, hpair⟩ := takeLoops_rest f.loops (setPhase s 105000)
    refine ⟨_, hx, hmd, hev, rfl, rfl, hcrs, congrArg (fun p : PairSt => lset p.stale 0 0) hpair, fun q hq hi => ?_,
      fun c hnot => takeLoops_other f.loops (setPhase s 105000) hnot⟩
    obtain ⟨ha, hu, hdq, heq, hr, ht⟩ := takeLoops_taken (s := setPhase s 105000) hd hq hi
    exact ⟨ha, hu, hdq, heq, hr, ht⟩
  · have hx := execMortarTickFrameReceive_follows f hl hf hn
    rw [takeTick, if_pos (by simp [hc])] at hx
    exact ⟨_, hx, rfl, rfl, rfl, rfl⟩
  · obtain ⟨l, h⟩ := frameCame_awaited s (mortarClass m)
    have hx := execMortarFrameReceive_waits n hl hf hn hw
    rw [h] at hx
    rw [h]
    exact ⟨_, hx, rfl, rfl, rfl, rfl, rfl, rfl⟩
  · exact ⟨_, execMortarFrameReceive_failed m n hl hn, rfl, rfl, rfl⟩
  · obtain ⟨hmode, hrole, hev⟩ :=
      toSync_parts (raise (setPhase s n) 44 [w32 cls, w32 (s.pair.stale.getD cls 0)]) causePair
    have hstandby : s.md.role = .standby := by
      simp only [shadows, Bool.and_eq_true, beq_iff_eq] at hs
      exact hs.1
    refine ⟨_, execMortarStale_beyond n hl hs hc hb, hmode, hrole.trans (.trans (by simp) hstandby), ?_⟩
    have h := hev.intake
    rw [raise_ev] at h
    exact h

end Sys2Proof.Machine
end

section
/-! The rows of a capture (R261, R262). -/

namespace Sys2Proof.Machine

/-! ### The capture unit behind the row of a tick -/

/-- The row of this tick is the trigger row (R262). -/
def rowTriggers (s : State) : Bool := s.loops.cap.state == 1 && captureTriggers s (captureSel s)

/-- How many rows stand from the trigger row on (R262). -/
def rowAfter (s : State) : Nat :=
  if rowTriggers s then 1 else if s.loops.cap.state = 2 then s.loops.cap.after + 1 else 0

/-- ARMED before the trigger row; from it on TRIGGERED, and COMPLETE once DEPTH rows stand (R262). -/
def rowState (s : State) : Nat :=
  if rowTriggers s ∨ s.loops.cap.state = 2 then
    if capDepth s.loops.cap.config - capPre s.loops.cap.config ≤ rowAfter s then 3 else 2
  else 1

/-- The rows with the one of this tick behind them. -/
def rowsNow (s : State) : List (Nat × List F64) := s.loops.cap.rows ++ [(s.time.tick, captureRowNow s)]

/-- The rows that are kept: PRE rows before the trigger row, and it with PRE rows before it (R262). -/
def rowsKept (s : State) : List (Nat × List F64) :=
  if rowState s = 1 then (rowsNow s).drop ((rowsNow s).length - capPre s.loops.cap.config)
  else if rowTriggers s then (rowsNow s).drop ((rowsNow s).length - (capPre s.loops.cap.config + 1))
  else rowsNow s

/-- The capture unit behind the row of this tick. -/
def captureBehind (s : State) : CaptureSt :=
  { s.loops.cap with
    state := rowState s, rows := rowsKept s, after := rowAfter s
    trigTick := if rowTriggers s then some s.time.tick else s.loops.cap.trigTick
    prevSel := captureSel s, lastRow := some s.time.tick
    preAt := if s.loops.cap.preAt.isNone && decide (capPre s.loops.cap.config ≤ (rowsKept s).length) then
      some s.time.tick else s.loops.cap.preAt }

/-- The state at phase 90 µs with its row taken. -/
def rowTaken (s : State) : State :=
  { setPhase s 90000 with loops := { s.loops with cap := captureBehind s } }

/-- The trigger row tells its tick (R262). -/
def rowMarked (s : State) : State :=
  if rowTriggers s then raise (rowTaken s) 144 (w64 s.time.tick) else rowTaken s

/-- A capture that is COMPLETE tells the number of its rows (R262). -/
def rowClosed (s : State) : State :=
  if rowState s = 3 then raise (rowMarked s) 145 [w32 (rowsKept s).length] else rowMarked s

/-- The events of a row. -/
def rowEvents (s : State) : List (Nat × List W32) :=
  (if rowTriggers s then [(144, w64 s.time.tick)] else []) ++
    if rowState s = 3 then [(145, [w32 (rowsKept s).length])] else []

theorem rowDue_passes {s : State} (h : rowDue s = true) : ¬ ((s.loops.cap.state ≠ 1 ∧ s.loops.cap.state ≠ 2) ∨
    s.time.tick < s.loops.cap.fromTick ∨ s.loops.cap.lastRow = some s.time.tick ∨
    s.time.tick % capRate s.loops.cap.config ≠ 0) := by
  simp only [rowDue, Bool.and_eq_true, Bool.or_eq_true, beq_iff_eq, decide_eq_true_eq, bne_iff_ne, ne_eq] at h
  obtain ⟨⟨⟨hstate, hfrom⟩, hlast⟩, hrate⟩ := h
  rintro (h | h | h | h)
  · omega
  · omega
  · exact hlast h
  · exact h hrate

theorem execCaptureRow_due {s : State} (hd : rowDue s = true) : exec .captureRow s = .next (rowClosed s) :=
  congrArg Host.Outcome.next (if_neg (rowDue_passes hd))

theorem rowMarked_noted (s : State) :
    Noted s 90000 (if rowTriggers s then [(144, w64 s.time.tick)] else []) (rowMarked s) := by
  have htaken : Noted s 90000 [] (rowTaken s) := (Noted.start s 90000).keep rfl rfl
  unfold rowMarked
  split
  · exact htaken.raise ..
  · exact htaken

theorem rowClosed_noted (s : State) : Noted s 90000 (rowEvents s) (rowClosed s) := by
  rw [rowEvents, rowClosed]
  by_cases h : rowState s = 3
  · rw [if_pos h, if_pos h]
    exact (rowMarked_noted s).raise ..
  · rw [if_neg h, if_neg h, List.append_nil]
    exact rowMarked_noted s

/-- Its events leave of a row all but the capture's note that its event has come. -/
theorem rowClosed_parts (s : State) : (rowClosed s).md = s.md ∧
    loopsCore (rowClosed s).loops = loopsCore { s.loops with cap := captureBehind s } := by
  have hmarked : (rowMarked s).md = s.md ∧
      loopsCore (rowMarked s).loops = loopsCore { s.loops with cap := captureBehind s } := by
    unfold rowMarked
    split <;> simp [rowTaken]
  unfold rowClosed
  split
  · simpa using hmarked
  · exact hmarked

/-- What the row of a tick leaves of the module's mode, of its capture and of its events. -/
theorem execCaptureRow_takes {s : State} (hd : rowDue s = true) : ∃ t, exec .captureRow s = .next t ∧ t.md = s.md ∧
    t.ev = recorded s 90000 (rowEvents s) ∧ t.loops.cap.state = rowState s ∧ t.loops.cap.rows = rowsKept s ∧
    t.loops.cap.lastRow = some s.time.tick ∧
    t.loops.cap.trigTick = if rowTriggers s then some s.time.tick else s.loops.cap.trigTick := by
  obtain ⟨hmd, hloops⟩ := rowClosed_parts s
  exact ⟨_, execCaptureRow_due hd, hmd, (rowClosed_noted s).ev, congrArg (·.cap.state) hloops,
    congrArg (·.cap.rows) hloops, congrArg (·.cap.lastRow) hloops, congrArg (·.cap.trigTick) hloops⟩

/-! ### A row before the trigger, the trigger row, and a row behind it -/

theorem row_waits {s : State} (hs : s.loops.cap.state = 1) (ht : captureTriggers s (captureSel s) = false) :
    rowTriggers s = false ∧ rowState s = 1 := by
  have h : rowTriggers s = false := by simp [rowTriggers, ht]
  exact ⟨h, by simp [rowState, h, hs]⟩

theorem row_triggers {s : State} (hs : s.loops.cap.state = 1) (ht : captureTriggers s (captureSel s) = true) :
    rowTriggers s = true ∧
      rowState s = if capDepth s.loops.cap.config - capPre s.loops.cap.config ≤ 1 then 3 else 2 := by
  have h : rowTriggers s = true := by simp [rowTriggers, hs, ht]
  exact ⟨h, by simp only [rowState, rowAfter, h, true_or, if_true]⟩

theorem row_follows {s : State} (hs : s.loops.cap.state = 2) : rowTriggers s = false ∧ rowState s =
    if capDepth s.loops.cap.config - capPre s.loops.cap.config ≤ s.loops.cap.after + 1 then 3 else 2 := by
  have h : rowTriggers s = false := by simp [rowTriggers, hs]
  refine ⟨h, ?_⟩
  simp only [rowState, rowAfter, h, hs, or_true, if_true, Bool.false_eq_true, if_false]

/-- The trigger row is the last of the rows kept. -/
theorem rowsKept_getLast? {s : State} (ht : rowTriggers s = true) (hs : rowState s ≠ 1) :
    (rowsKept s).getLast? = some (s.time.tick, captureRowNow s) := by
  have hl : (rowsNow s).length = s.loops.cap.rows.length + 1 := by simp [rowsNow]
  rw [rowsKept, if_neg hs, if_pos ht, List.getLast?_drop, if_neg (by omega), rowsNow, List.getLast?_concat]

/-- Settles O37: each clause is the one row, with the state that its case leads to. -/
theorem captureTakesRowsAroundItsTrigger : Obligations.CaptureTakesRowsAroundItsTrigger := by
  unfold Obligations.CaptureTakesRowsAroundItsTrigger
  refine ⟨fun s hd hs ht => ?_, fun s hd hs ht hn => ?_, fun s hd hs ht hn => ?_, fun s hd hs hn => ?_⟩ <;>
    obtain ⟨t, ht', hmd, hev, hstate, hrows, hlast, htrig⟩ := execCaptureRow_takes hd
  · obtain ⟨h, h1⟩ := row_waits hs ht
    refine ⟨t, ht', hmd, ?_, hstate.trans h1, hlast, ?_⟩
    · simpa [rowEvents, h, h1] using hev
    · simpa [rowsKept, h1, rowsNow] using hrows
  · obtain ⟨h, h2⟩ := row_triggers hs ht
    rw [if_neg (by omega)] at h2
    refine ⟨t, ht', hmd, hstate.trans h2, by rw [htrig, if_pos h], ?_, ?_⟩
    · rw [hrows, rowsKept_getLast? h (by omega)]
    · simpa [rowEvents, h, h2] using hev
  · obtain ⟨h, h3⟩ := row_triggers hs ht
    rw [if_pos hn] at h3
    refine ⟨t, ht', hmd, hstate.trans h3, by rw [htrig, if_pos h], ?_, ?_⟩
    · rw [hrows, rowsKept_getLast? h (by omega)]
    · simpa [rowEvents, h, h3, hrows] using hev
  · obtain ⟨h, h3⟩ := row_follows hs
    rw [if_pos hn] at h3
    have hkept : rowsKept s = rowsNow s := by simp [rowsKept, h, h3]
    refine ⟨t, ht', hmd, hstate.trans h3, hrows.trans hkept, ?_⟩
    simpa [rowEvents, h, h3, hkept, rowsNow] using hev

end Sys2Proof.Machine
end

section
/-! The rebuild of a table in the background (R247, R248, R249). -/

namespace Sys2Proof.Machine

/-! ### The end of the local rebuild (R247) -/

/-- Where a partner takes part, it is told that the local buffer is complete. -/
def tableTold (s : State) (k : Nat) : State := if tablePartner s then linkMortar s (.tableReady k) else s

/-- The state at the end of a local rebuild whose points are finite. -/
def locallyRebuilt (s : State) (k n : Nat) : State :=
  setTable (setPhase s n) k { tableSt s k with localDone := true }

theorem tableTold_alone {s : State} (k : Nat) (h : tablePartner s = false) : tableTold s k = s :=
  if_neg (by simp [h])

theorem tableTold_parts (s : State) (k : Nat) : (tableTold s k).md = s.md ∧ (tableTold s k).loops = s.loops ∧
    (tableTold s k).time = s.time ∧ tablePartner (tableTold s k) = tablePartner s := by
  unfold tableTold
  split
  · obtain ⟨lo, lf, j, h⟩ := sendLink_eq s 4 (mortarBytes (.tableReady k)) (.mortar (.tableReady k))
    rw [linkMortar, h]
    exact ⟨rfl, rfl, rfl, rfl⟩
  · exact ⟨rfl, rfl, rfl, rfl⟩

theorem tableTold_outbox {s : State} (k : Nat) (h : tablePartner s = true) :
    (tableTold s k).net.outbox = .mortar (.tableReady k) :: s.net.outbox := by
  obtain ⟨lo, lf, j, hs⟩ := sendLink_eq s 4 (mortarBytes (.tableReady k)) (.mortar (.tableReady k))
  rw [tableTold, if_pos h, linkMortar, hs]
  rfl

theorem tableCompletes_waits {s : State} {k : Nat} (hp : (tableSt s k).partnerDone = false)
    (h : tablePartner s = true) : tableCompletes s k = s := if_neg (by simp [hp, h])

/-- Without a partner to wait for, a buffer complete here is complete in this tick. -/
theorem tableCompletes_alone {s : State} {k : Nat} (hd : (tableSt s k).localDone = true)
    (hc : (tableSt s k).completeTick = none) (h : tablePartner s = false) :
    (tableSt (tableCompletes s k) k).completeTick = some s.time.tick := by
  rw [tableCompletes, if_pos (by simp [hd, hc, h]), tableSt_setTable_self]

/-- Completion touches neither buffer, and nothing beside the loop engine. -/
theorem tableCompletes_parts (s : State) (k : Nat) :
    (tableCompletes s k).md = s.md ∧ (tableCompletes s k).net = s.net ∧
    (tableSt (tableCompletes s k) k).localDone = (tableSt s k).localDone ∧
    (tableSt (tableCompletes s k) k).fore = (tableSt s k).fore ∧
    (tableSt (tableCompletes s k) k).back = (tableSt s k).back := by
  unfold tableCompletes
  dsimp only
  split <;> simp

theorem execTableRebuildComplete_finite {s : State} {k : Nat} {b : Bytes} (n : Nat) (hb : (tableSt s k).back = some b)
    (hr : (tableSt s k).rebuilding = true) (hd : (tableSt s k).localDone = false) (hf : tabPointsFinite b = true) :
    exec (.tableRebuildComplete k n) s = .next (tableCompletes (tableTold (locallyRebuilt s k n) k) k) := by
  show execTableRebuildComplete k n s = _
  simp [execTableRebuildComplete, tableTold, locallyRebuilt, hb, hr, hd, hf]

/-! ### A point that is not finite (R247) -/

/-- The table once its background buffer has been discarded. -/
def discarded (x : TableSt) : TableSt := { x with back := none, rebuilding := false, overdue := false, ticket := none }

theorem execTableRebuildComplete_notFinite {s : State} {k q : Nat} {b : Bytes} (n : Nat)
    (hb : (tableSt s k).back = some b) (hr : (tableSt s k).rebuilding = true) (hd : (tableSt s k).localDone = false)
    (hf : tabPointsFinite b = false) (hq : (tableSt s k).ticket = some q) : exec (.tableRebuildComplete k n) s =
      .next (ticketEnd (setTable (setPhase s n) k (discarded (tableSt s k))) q 7 2) := by
  show execTableRebuildComplete k n s = _
  simp [execTableRebuildComplete, discarded, hb, hr, hd, hf, hq]

/-- The end of a region request leaves the tables alone. -/
theorem tableSt_ticketEnd (s : State) (q status reason k : Nat) :
    tableSt (ticketEnd s q status reason) k = tableSt s k := by
  have h : loopsCore (ticketEnd s q status reason).loops = loopsCore s.loops := by simp
  exact congrArg (fun l : LoopsSt => tget {} l.t k) h

/-! ### A rebuild past its bound (R249) -/

theorem execRebuildOverdue_due {s : State} {k q : Nat} (hq : (tableSt s k).ticket = some q)
    (hr : (tableSt s k).rebuilding = true) (hc : (tableSt s k).completeTick = none)
    (ho : (tableSt s k).overdue = false)
    (hb : (ticket s q).runTick + tabBound (tableSt s k).fore ≤ s.time.tick) : exec (.rebuildOverdue k) s =
      .next (raise (setTable s k { tableSt s k with overdue := true }) 137 [w32 k, w32 q]) := by
  refine congrArg Host.Outcome.next ?_
  simp only [hq]
  exact if_pos (by simp [hr, hc, ho, hb])

theorem tableSt_raise (s : State) (ev : Nat) (arg : List W32) (k : Nat) : tableSt (raise s ev arg) k = tableSt s k := by
  simp [tableSt]

/-- Settles O35: the end of a local rebuild is told to a partner, and completes the rebuild where none is linked
(assumption 108). -/
theorem tablesAreRebuiltInTheBackground : Obligations.TablesAreRebuiltInTheBackground := by
  unfold Obligations.TablesAreRebuiltInTheBackground
  refine ⟨fun s k n b hb hr hd hc hf => ?_, fun s k n b q hb hr hd hf hq => ?_, fun s k q hq hr hc ho hdue => ?_⟩
  · obtain ⟨hmd, hloops, htime, hpartner⟩ := tableTold_parts (locallyRebuilt s k n) k
    have htold : tableSt (tableTold (locallyRebuilt s k n) k) k = { tableSt s k with localDone := true } := by
      rw [tableSt, hloops]
      exact tableSt_setTable_self ..
    obtain ⟨hmd', hnet, hdone, hfore, hback⟩ := tableCompletes_parts (tableTold (locallyRebuilt s k n) k) k
    rw [htold] at hdone hfore hback
    have hopen : (tableSt (tableTold (locallyRebuilt s k n) k) k).completeTick = none := by rw [htold]; exact hc
    refine ⟨_, execTableRebuildComplete_finite n hb hr hd hf, hmd'.trans hmd, hdone, hfore, hback.trans hb,
      fun hp => ⟨?_, ?_⟩, fun hp => ⟨?_, fun hw => ?_⟩⟩
    · rw [tableCompletes_alone (by rw [htold]) hopen (hpartner.trans hp), htime]
      rfl
    · rw [hnet, tableTold_alone (s := locallyRebuilt s k n) k hp]
      rfl
    · rw [hnet, tableTold_outbox (s := locallyRebuilt s k n) k hp]
      rfl
    · rw [tableCompletes_waits (by rw [htold]; exact hw) (hpartner.trans hp), hopen]
  · have htable : tableSt (ticketEnd (setTable (setPhase s n) k (discarded (tableSt s k))) q 7 2) k =
        discarded (tableSt s k) := (tableSt_ticketEnd ..).trans (tableSt_setTable_self ..)
    have hticket := ticket_ticketEnd_self (setTable (setPhase s n) k (discarded (tableSt s k))) q 7 2
    exact ⟨_, execTableRebuildComplete_notFinite n hb hr hd hf hq, by simp, congrArg (·.back) htable,
      congrArg (·.rebuilding) htable, congrArg (·.fore) htable, congrArg (·.status) hticket,
      congrArg (·.reason) hticket⟩
  · exact ⟨_, execRebuildOverdue_due hq hr hc ho hdue, by simp, by rw [tableSt_raise, tableSt_setTable_self],
      raise_ev ..⟩

end Sys2Proof.Machine
end

section
/-! Test injections and the commands of the capture unit (R255 to R263). -/

namespace Sys2Proof.Machine

/-! ### A command and its answer -/

/-- A served command leaves what its owner made of the touched state. -/
theorem hostCommand_owner {s u : State} {r : Req} {o : W32} {k : State → State} (h : servedOutside s r o = true)
    (hk : k (touch s r) = u) : hostCommand s r o k = sendChanges (wrote u o) := by rw [hostCommand_served h, hk]

theorem Noted.reply {s t : State} {n : Nat} {evs : List (Nat × List W32)} (h : Noted s n evs t) (r : Req) (o : W32)
    (status : Nat) : Noted s n evs (reply t r o status) := h.keep (reply_ev ..) (reply_time ..)

/-! ### START and STOP of an injection (R255, R257) -/

theorem injStartCheck_touch (s : State) (r : Req) (c : Nat) (q : InjCmd) :
    injStartCheck (touch s r) c q = injStartCheck s c q := rfl

/-- The injection of an accepted START, which waits for its first sample (R255, R256). -/
def injWaiting (s : State) (r : Req) (q : InjCmd) : InjSt :=
  { state := 1
    cmd := some { q with startTick := if q.startTick = 0 then s.time.tick + 1 else q.startTick }
    prbs := if q.seed = 0 then 2 ^ q.order - 1 else q.seed.toNat % 2 ^ q.order
    origin := some (originOf s r) }

theorem execInjectionStart_accepted {s : State} {r : Req} {c : Nat} {q : InjCmd}
    (h : servedOutside s r (0x10300000 + w32 c) = true) (hc : injStartCheck s c q = none) :
    exec (.injectionStart r c q) s =
      .next (loopAnswered (setInj (touch s r) c (injWaiting s r q)) r (0x10300000 + w32 c) stAccepted) := by
  refine congrArg Host.Outcome.next (hostCommand_owner h ?_)
  simp only [injStartCheck_touch, hc, originOf_touch]
  rfl

theorem injSt_loopAnswered (u : State) (r : Req) (obj : W32) (status j : Nat) :
    injSt (loopAnswered u r obj status) j = injSt u j := by rw [injSt, (loopAnswered_parts ..).2, injSt]

/-- The state behind a STOP, whose answer leaves ahead of the START's completion. -/
def injStopped (s : State) (r : Req) (c : Nat) : State :=
  stopInjection (reply (touch s r) r (0x10300000 + w32 c) stDone) c 2

theorem execInjectionStop_served {s : State} {r : Req} {c : Nat} (h : servedOutside s r (0x10300000 + w32 c) = true)
    (hd : (loopDef (theImage s) c).isSome = true) : exec (.injectionStop r c) s =
      .next (sendChanges (wrote (injStopped s r c) (0x10300000 + w32 c))) := by
  have hnone : ¬ (loopDef (theImage s) c).isNone = true := by simpa [Option.isSome_iff_ne_none] using hd
  exact congrArg Host.Outcome.next (hostCommand_owner h (if_neg hnone))

/-- An injection that waits or runs stops with EV142 (R257). -/
theorem Noted.stopInjection {s t : State} {n : Nat} {evs : List (Nat × List W32)} (h : Noted s n evs t) {c : Nat}
    (hs : (injSt t c).state = 1 ∨ (injSt t c).state = 2) (cause : Nat) :
    Noted s n (evs ++ [(142, [w32 c, w32 cause])]) (stopInjection t c cause) := by
  rw [show Machine.stopInjection t c cause = _ from if_pos hs]
  refine Noted.completeOpt (Noted.raise ?_ ..) ..
  exact h.keep rfl rfl

theorem stopInjection_l (s : State) (c cause : Nat) : (stopInjection s c cause).loops.l = s.loops.l := by
  unfold stopInjection
  dsimp only
  split <;> simp

/-- What a STOP leaves of the context's injection, of the loops and of the events, and that it is answered. -/
theorem injStopped_parts {s : State} (r : Req) {c : Nat} (hs : (injSt s c).state = 1 ∨ (injSt s c).state = 2) :
    (injStopped s r c).md = s.md ∧ (injStopped s r c).loops.l = s.loops.l ∧ (injSt (injStopped s r c) c).state = 4 ∧
    (injSt (injStopped s r c) c).cause = 2 ∧ Noted s r.at_ [(142, [w32 c, 2])] (injStopped s r c) ∧
    .response r.session r.seq stDone [] ∈ (injStopped s r c).net.outbox := by
  have hinj : injSt (reply (touch s r) r (0x10300000 + w32 c) stDone) c = injSt s c := by
    rw [injSt, reply_loops, touch_loops, injSt]
  have hrun : (injSt (reply (touch s r) r (0x10300000 + w32 c) stDone) c).state = 1 ∨
      (injSt (reply (touch s r) r (0x10300000 + w32 c) stDone) c).state = 2 := by rwa [hinj]
  have hstop := (stopInjection_inj (reply (touch s r) r (0x10300000 + w32 c) stDone) c c 2).trans (if_pos ⟨rfl, hrun⟩)
  obtain ⟨l, hl⟩ := stopInjection_outbox (reply (touch s r) r (0x10300000 + w32 c) stDone) c 2
  refine ⟨by simp [injStopped], by simp [injStopped, stopInjection_l], congrArg (·.state) hstop,
    congrArg (·.cause) hstop, ((Noted.touch s r).reply ..).stopInjection hrun 2, ?_⟩
  rw [injStopped, hl, reply_eq]
  exact List.mem_append_right _ List.mem_cons_self

/-! ### The capture unit (R260, R262, R263) -/

/-- The touched state with the capture unit replaced. -/
def touchCapture (s : State) (r : Req) (c : CaptureSt) : State :=
  { touch s r with loops := { s.loops with cap := c } }

theorem execCaptureConfigure_accepted {s : State} {r : Req} {d : Bytes} (h : servedOutside s r 0xB0000000#32 = true)
    (h1 : s.loops.cap.state ≠ 1) (h2 : s.loops.cap.state ≠ 2) (hd : captureOk (theImage s) d = true) :
    exec (.captureConfigure r d) s =
      .next (loopAnswered (touchCapture s r { s.loops.cap with config := d }) r 0xB0000000#32 stDone) := by
  have hok : ¬ (!captureOk (theImage s) d) = true := by simp [hd]
  exact congrArg Host.Outcome.next (hostCommand_owner h ((if_neg (not_or.mpr ⟨h1, h2⟩)).trans (if_neg hok)))

/-- The capture unit once it is armed at s (R262). -/
def armedCapture (s : State) : CaptureSt :=
  { config := s.loops.cap.config, rowConfig := s.loops.cap.config, state := 1, fromTick := s.time.tick + 1
    preAt := if capPre s.loops.cap.config = 0 then some s.time.tick else none }

theorem execCaptureArm_accepted {s : State} {r : Req} (h : servedOutside s r 0xB0010000#32 = true)
    (hc : captureOk (theImage s) s.loops.cap.config = true) (ht : capTrigger s.loops.cap.config = 5 →
      s.time.tick + 1 + capPre s.loops.cap.config * capRate s.loops.cap.config ≤ le s.loops.cap.config 0x10 8) :
    exec (.captureArm r) s =
      .next (loopAnswered (touchCapture s r (armedCapture s)) r 0xB0010000#32 stDone) := by
  have hlate : ¬ (capTrigger s.loops.cap.config = 5 ∧ le s.loops.cap.config 0x10 8 <
      s.time.tick + 1 + capPre s.loops.cap.config * capRate s.loops.cap.config) :=
    fun ⟨h5, hlt⟩ => absurd (ht h5) (Nat.not_le.mpr hlt)
  refine congrArg Host.Outcome.next (hostCommand_owner h (if_neg fun hrefused => ?_))
  rcases (Bool.or_eq_true ..).mp hrefused with hbad | htooLate
  · simp [hc] at hbad
  · exact hlate (of_decide_eq_true htooLate)

theorem execCaptureForceTrigger_armed {s : State} {r : Req} (h : servedOutside s r 0xB0010000#32 = true)
    (h1 : s.loops.cap.state = 1) : exec (.captureForceTrigger r) s =
      .next (loopAnswered (touchCapture s r { s.loops.cap with forced := true }) r 0xB0010000#32 stDone) :=
  congrArg Host.Outcome.next (hostCommand_owner h (if_pos h1))

/-- A capture that is ARMED or TRIGGERED ends, and that is told (R263). -/
def captureAborted (s : State) (cause : Nat) : State :=
  raise { s with loops := { s.loops with cap := { s.loops.cap with state := 4, cause := cause } } } 146 [w32 cause]

theorem abortCapture_active {s : State} (hs : s.loops.cap.state = 1 ∨ s.loops.cap.state = 2) (cause : Nat) :
    abortCapture s cause = captureAborted s cause := if_pos hs

theorem execCaptureAbort_served {s : State} {r : Req} (h : servedOutside s r 0xB0010000#32 = true)
    (hs : s.loops.cap.state = 1 ∨ s.loops.cap.state = 2) : exec (.captureAbort r) s =
      .next (sendChanges (wrote (captureAborted (reply (touch s r) r 0xB0010000#32 stDone) 1) 0xB0010000#32)) :=
  congrArg Host.Outcome.next
    (hostCommand_owner h ((if_pos hs).trans (abortCapture_active (by simpa using hs) 1)))

theorem captureAborted_parts (s : State) (cause : Nat) : (captureAborted s cause).md = s.md ∧
    (captureAborted s cause).net = s.net ∧ (captureAborted s cause).loops.cap.state = 4 ∧
    (captureAborted s cause).loops.cap.cause = cause ∧
    (captureAborted s cause).loops.cap.rows = s.loops.cap.rows := by
  simp [captureAborted]

theorem Noted.captureAborted {s t : State} {n : Nat} {evs : List (Nat × List W32)} (h : Noted s n evs t) (cause : Nat) :
    Noted s n (evs ++ [(146, [w32 cause])]) (captureAborted t cause) := by
  refine Noted.raise ?_ ..
  exact h.keep rfl rfl

/-- Settles O36: each command is its owner's effect on the served state, and its answer. -/
theorem injectionAndCaptureCommands : Obligations.InjectionAndCaptureCommands := by
  unfold Obligations.InjectionAndCaptureCommands
  refine ⟨fun s r c q h hc => ?_, fun s r c h hd hs => ?_, fun s r d h h1 h2 hd => ?_, fun s r h hc ht => ?_,
    fun s r h h1 => ?_, fun s r h hs => ?_⟩
  · have hinj : injSt (loopAnswered (setInj (touch s r) c (injWaiting s r q)) r (0x10300000 + w32 c) stAccepted) c =
        injWaiting s r q := (injSt_loopAnswered ..).trans (injSt_setInj_self ..)
    refine ⟨_, execInjectionStart_accepted h hc, acceptedFor_of_reply (reply_net rfl ..), by simp, fun j => ?_,
      congrArg (·.state) hinj, congrArg (·.cmd) hinj, congrArg (·.prbs) hinj, congrArg (·.n) hinj, fun j hj => ?_⟩
    · rw [loop_loopAnswered]
      rfl
    · rw [injSt_loopAnswered, injSt_setInj_ne _ _ _ _ hj]
      rfl
  · obtain ⟨hmd, hl, hstate, hcause, hnoted, hanswer⟩ := injStopped_parts r hs
    obtain ⟨ms, hms⟩ := sendChanges_outbox (wrote (injStopped s r c) (0x10300000 + w32 c))
    have hloops : (sendChanges (wrote (injStopped s r c) (0x10300000 + w32 c))).loops = (injStopped s r c).loops := by
      simp
    refine ⟨_, execInjectionStop_served h hd, .trans (by simp) hmd, fun j => by rw [loop, hloops, hl, loop], ?_, ?_,
      .trans (by simp) hnoted.ev, ?_⟩
    · rw [injSt, hloops, ← hstate, injSt]
    · rw [injSt, hloops, ← hcause, injSt]
    · rw [hms, wrote_outbox]
      exact List.mem_append_right _ hanswer
  · exact ⟨_, execCaptureConfigure_accepted h h1 h2 hd, answers_of_reply (reply_net rfl ..), by simp [touchCapture],
      by simp [touchCapture]⟩
  · exact ⟨_, execCaptureArm_accepted h hc ht, answers_of_reply (reply_net rfl ..), by simp [touchCapture],
      by simp [touchCapture, armedCapture]⟩
  · exact ⟨_, execCaptureForceTrigger_armed h h1, answers_of_reply (reply_net rfl ..), by simp [touchCapture],
      by simp [touchCapture]⟩
  · have hnoted := ((Noted.touch s r).reply r 0xB0010000#32 stDone).captureAborted 1
    obtain ⟨hmd, hnet, hstate, hcause, hrows⟩ := captureAborted_parts (reply (touch s r) r 0xB0010000#32 stDone) 1
    exact ⟨_, execCaptureAbort_served h hs, answers_of_reply hnet, by simp [hmd], by simp [hstate], by simp [hcause],
      by simp [hrows], .trans (by simp) hnoted.ev⟩

end Sys2Proof.Machine
end

section
/-! Publications of the solver (R282, R283, R284, R286). -/

namespace Sys2Proof.Machine

/-! ### What a frame end does with a publication -/

/-- The events of a publication: fallback starts or the limit is reached (EV161), fallback ends (EV162). -/
def publishEvents (c : Nat) (r : SolvSt × Option (Option Nat) × Bool) : List (Nat × List W32) :=
  (r.2.1.map fun bad => (161, [w32 c] ++ (bad.map w32).toList)).toList ++ if r.2.2 then [(162, [w32 c])] else []

/-- A publication stands in its context, and its events are raised. -/
def publicationTold (s : State) (c : Nat) (r : SolvSt × Option (Option Nat) × Bool) (arrived : Bool) : State :=
  let s := countOutcome (setSolv s c r.1) arrived
  let s := match r.2.1 with
    | some bad => raise s 161 ([w32 c] ++ (bad.map w32).toList)
    | none => s
  if r.2.2 then raise s 162 [w32 c] else s

/-- A publication is told, its context takes its report, and the frame of the context is over. -/
def frameClosed (s : State) (c : Nat) (r : SolvSt × Option (Option Nat) × Bool) (arrived : Bool)
    (report : SolvSt2 → SolvSt2) : State :=
  let s := publicationTold s c r arrived
  let s := setSolv2 s c (report (solv2 s c))
  setSolv2 s c { solv2 s c with frame := none, outcome := none, mortar := none, mortarLate := false }

/-- `t` follows `s` by a publication `r` of context c and its events, and leaves every other publication. -/
structure Published (s : State) (c : Nat) (r : SolvSt × Option (Option Nat) × Bool) (t : State) : Prop where
  md : t.md = s.md
  ev : t.ev = recorded s s.time.phase (publishEvents c r)
  self : solv t c = r.1
  others : ∀ j, j ≠ c → solv t j = solv s j
  frame : (solv2 t c).frame = none

theorem raise_solver (s : State) (ev : Nat) (arg : List W32) : (raise s ev arg).solver = s.solver := by simp

theorem solv_of_solver {s t : State} (h : t.solver.s = s.solver.s) (j : Nat) : solv t j = solv s j := by
  rw [solv, h, solv]

theorem solv2_of_solver {s t : State} (h : t.solver.j = s.solver.j) (j : Nat) : solv2 t j = solv2 s j := by
  rw [solv2, h, solv2]

theorem jobLate_idle {s : State} {c : Nat} (h : (solv2 s c).job = none) (why : Nat) : jobLate s c why = s := by
  simp [jobLate, h]

theorem countOutcome_instant (s : State) (arrived : Bool) :
    (countOutcome s arrived).ev = s.ev ∧ (countOutcome s arrived).time = s.time := by
  unfold countOutcome
  split <;> exact ⟨rfl, rfl⟩

theorem publicationTold_md (s : State) (c : Nat) (r : SolvSt × Option (Option Nat) × Bool) (arrived : Bool) :
    (publicationTold s c r arrived).md = s.md := by
  unfold publicationTold
  cases r.2.1 <;> cases r.2.2 <;> simp

theorem publicationTold_solver (s : State) (c : Nat) (r : SolvSt × Option (Option Nat) × Bool) (arrived : Bool) :
    (publicationTold s c r arrived).solver = (setSolv s c r.1).solver := by
  unfold publicationTold
  cases r.2.1 <;> cases r.2.2 <;> simp

theorem publicationTold_noted (s : State) (c : Nat) (r : SolvSt × Option (Option Nat) × Bool) (arrived : Bool) :
    Noted s s.time.phase (publishEvents c r) (publicationTold s c r arrived) := by
  have h0 : Noted s s.time.phase [] (countOutcome (setSolv s c r.1) arrived) := by
    obtain ⟨hev, htime⟩ := countOutcome_instant (setSolv s c r.1) arrived
    exact (Noted.start s s.time.phase).keep hev htime
  obtain ⟨x, starts, ends⟩ := r
  unfold publicationTold publishEvents
  cases starts with
  | none =>
    cases ends
    · exact h0
    · exact h0.raise ..
  | some bad =>
    cases ends
    · exact h0.raise ..
    · exact (h0.raise ..).raise ..

theorem frameClosed_published (s : State) (c : Nat) (r : SolvSt × Option (Option Nat) × Bool) (arrived : Bool)
    (report : SolvSt2 → SolvSt2) : Published s c r (frameClosed s c r arrived report) := by
  have hpub (j : Nat) : solv (frameClosed s c r arrived report) j = solv (setSolv s c r.1) j :=
    solv_of_solver (congrArg SolverSt.s (publicationTold_solver s c r arrived)) j
  exact {
    md := publicationTold_md s c r arrived
    ev := (publicationTold_noted s c r arrived).ev
    self := (hpub c).trans (solv_setSolv_self s c r.1)
    others := fun j hj => (hpub j).trans (solv_setSolv_ne s c j r.1 hj)
    frame := congrArg (·.frame) (solv2_setSolv2_self ..) }

/-- The warm-start data behind a frame are those of its report. -/
theorem frameClosed_warm (s : State) (c : Nat) (r : SolvSt × Option (Option Nat) × Bool) (arrived : Bool)
    (report : SolvSt2 → SolvSt2) : (solv2 (frameClosed s c r arrived report) c).warm = (report (solv2 s c)).warm := by
  have hj : solv2 (publicationTold s c r arrived) c = solv2 s c :=
    solv2_of_solver (congrArg SolverSt.j (publicationTold_solver s c r arrived)) c
  simp [frameClosed, hj]

/-! ### SOLVER_PUBLISH -/

theorem frameEnds_iff {s : State} {c f : Nat} {d : SolverDef} : frameEnds s c d f = true ↔
    c < 64 ∧ solverDef (theImage s) c = some d ∧ (solv2 s c).frame = some f ∧ running s = true ∧
      f + d.period ≤ s.time.tick ∧ (solv2 s c).job = none := by
  simp [frameEnds, and_assoc]

/-- The publication of a frame whose own outcome decides (R283). -/
def ownPublication (s : State) (c : Nat) (d : SolverDef) (f : Nat) (o : Outcome9) :
    SolvSt × Option (Option Nat) × Bool :=
  publish d (solv s c) f o (solv2 s c).stale (solv2 s c).fallbackVals

/-- The publication of a frame that the active's outcome decides (R286). -/
def toldPublication (s : State) (c : Nat) (d : SolverDef) (q : OutcomeMortar) : SolvSt × Option (Option Nat) × Bool :=
  publishMortar d (solv s c) q (solv2 s c).fallbackVals

/-- The context behind a frame whose own outcome decided (R328). -/
def ownReport (f : Nat) (o : Outcome9) (held : Bool) (m : SolvSt2) : SolvSt2 :=
  { m with report := some (f, o), counters := publishCounts m.counters o.fresh held }

/-- The context behind a frame that the active's outcome decided (R286, R328). -/
def toldReport (f : Nat) (q : OutcomeMortar) (m : SolvSt2) : SolvSt2 :=
  { m with report := some (f, q.outcome), counters := q.counters, warm := q.warm }

theorem mortarFor_own {s : State} {c f : Nat} {o : Outcome9} (h : ownOutcome s c f o = true) : mortarFor s c f = none := by
  simp only [ownOutcome, Bool.and_eq_true, Bool.or_eq_true, bne_iff_ne, Option.isNone_iff_eq_none] at h
  obtain ⟨hrole | hmortar, -⟩ := h
  · simp [mortarFor, hrole]
  · simp [mortarFor, hmortar]

theorem outcome_of_own {s : State} {c f : Nat} {o : Outcome9} (h : ownOutcome s c f o = true) :
    (solv2 s c).outcome = some (f, o) := by
  simp only [ownOutcome, Bool.and_eq_true, beq_iff_eq] at h
  exact h.2

theorem execSolverPublish_own {s : State} {c f : Nat} {d : SolverDef} {o : Outcome9}
    (hf : frameEnds s c d f = true) (ho : ownOutcome s c f o = true) : exec (.solverPublish c) s =
      .next (frameClosed s c (ownPublication s c d f o) false (ownReport f o (ownPublication s c d f o).1.held)) := by
  obtain ⟨hc, hd, hframe, hrun, htick, hjob⟩ := frameEnds_iff.mp hf
  show execSolverPublish c s = _
  simp only [execSolverPublish, frameDef, hc, hd, hframe, hrun, Nat.not_lt.mpr htick, jobLate_idle hjob,
    mortarFor_own ho, outcome_of_own ho, Nat.mod_eq_of_lt hc, dropOldFrame, if_true, Bool.not_true, decide_false,
    Bool.or_self, Bool.false_eq_true, if_false]
  rfl

theorem execSolverPublish_told {s : State} {c f : Nat} {d : SolverDef} {q : OutcomeMortar}
    (hf : frameEnds s c d f = true) (hrole : s.md.role = .standby) (hq : (solv2 s c).mortar = some q)
    (hqf : q.frame = f) : exec (.solverPublish c) s =
      .next (frameClosed s c (toldPublication s c d q) (!(solv2 s c).mortarLate) (toldReport f q)) := by
  obtain ⟨hc, hd, hframe, hrun, htick, hjob⟩ := frameEnds_iff.mp hf
  have hsent : mortarFor s c f = some q := by simp [mortarFor, hrole, hq, hqf]
  show execSolverPublish c s = _
  simp only [execSolverPublish, frameDef, hc, hd, hframe, hrun, Nat.not_lt.mpr htick, jobLate_idle hjob,
    hsent, Nat.mod_eq_of_lt hc, dropOldFrame, if_true, Bool.not_true, decide_false,
    Bool.or_self, Bool.false_eq_true, if_false]
  rfl

/-! ### What a publication says (R283, R284) -/

/-- The last good values are those of a fresh outcome. -/
def goodFrom (x : SolvSt) (f : Nat) (o : Outcome9) : SolvSt :=
  { x with
    goodX := o.x, goodMult := some o.mult, goodObjective := some o.objective, goodTick := f, solved := true
    solvedTick := f, consecHeld := 0, age := 0, freshCount := x.freshCount + 1 }

/-- The last good values stay behind an outcome that is not fresh. -/
def goodKept (x : SolvSt) : SolvSt :=
  { x with
    solvedTick := x.goodTick, consecHeld := min (x.consecHeld + 1) 255, age := min (x.age + 1) 255, freshCount := 0 }

/-- What a publication tells of its frame. -/
def frameTold (x : SolvSt) (f : Nat) (o : Outcome9) (stale : Bool) : SolvSt :=
  { x with frameTick := f, status := o.status, cause := if o.status = 6 then o.cause else 0, staleTags := stale }

/-- The last good values are shown. -/
def goodShown (x : SolvSt) (held : Bool) : SolvSt :=
  { x with fallback := false, held := held, x := x.goodX, mult := x.goodMult, objective := x.goodObjective }

/-- The fallback values are shown (R284). -/
def fallbackShown (x : SolvSt) (fv : List F64) : SolvSt :=
  { x with fallback := true, held := false, x := fv, mult := none, objective := none }

section
variable {d : SolverDef} {x : SolvSt} {f : Nat} {o : Outcome9} {stale : Bool} {fb : List F64}

theorem publish_fresh (ho : o.fresh = true) (hx : x.fallback = false) (hl : 1 ≤ d.heldLimit) :
    publish d x f o stale fb = (goodShown (frameTold (goodFrom x f o) f o stale) false, none, false) := by
  have hlimit : d.heldLimit ≠ 0 := Nat.one_le_iff_ne_zero.mp hl
  simp [publish, ho, hx, hlimit, goodShown, frameTold, goodFrom]

/-- Below the limit, or without a fallback brick, the last good values are held; the limit itself is told. -/
theorem publish_held (ho : o.fresh = false) (hx : x.fallback = false)
    (hb : d.fbBrick = 0xFFFF ∨ x.consecHeld + 1 < d.heldLimit) :
    publish d x f o stale fb = (goodShown (frameTold (goodKept x) f o stale) true,
      if d.fbBrick = 0xFFFF ∧ x.consecHeld < d.heldLimit ∧ d.heldLimit ≤ x.consecHeld + 1 then some none else none,
      false) := by
  have hstart : (d.fbBrick != 0xFFFF && decide (d.heldLimit ≤ x.consecHeld + 1)) = false := by
    obtain h | h := hb
    · simp [h]
    · simp [Nat.not_le.mpr h]
  simp [publish, ho, hx, hstart, goodShown, frameTold, goodKept]

/-- At the limit the fallback brick's values are shown, and an element that is not finite is told. -/
theorem publish_fallsBack (ho : o.fresh = false) (hx : x.fallback = false) (hb : d.fbBrick ≠ 0xFFFF)
    (hl : d.heldLimit ≤ x.consecHeld + 1) (hr : 1 ≤ d.recover) :
    publish d x f o stale fb = (fallbackShown (frameTold (goodKept x) f o stale) (fallbackOf fb x.goodX d.n).1,
      some (fallbackOf fb x.goodX d.n).2, false) := by
  have hrec : d.recover ≠ 0 := Nat.one_le_iff_ne_zero.mp hr
  simp [publish, ho, hx, hb, hl, hrec, fallbackShown, frameTold, goodKept]

theorem publish_recovers (ho : o.fresh = true) (hx : x.fallback = true) (hl : 1 ≤ d.heldLimit)
    (hr : d.recover ≤ x.freshCount + 1) :
    publish d x f o stale fb = (goodShown (frameTold (goodFrom x f o) f o stale) false, none, true) := by
  have hlimit : d.heldLimit ≠ 0 := Nat.one_le_iff_ne_zero.mp hl
  simp [publish, ho, hx, hlimit, hr, goodShown, frameTold, goodFrom]

theorem publish_fallback_stays (ho : o.fresh = true) (hx : x.fallback = true) (hl : 1 ≤ d.heldLimit)
    (hr : x.freshCount + 1 < d.recover) :
    publish d x f o stale fb = (fallbackShown (frameTold (goodFrom x f o) f o stale) (fallbackOf fb o.x d.n).1,
      none, false) := by
  have hlimit : d.heldLimit ≠ 0 := Nat.one_le_iff_ne_zero.mp hl
  simp [publish, ho, hx, hlimit, Nat.not_le.mpr hr, fallbackShown, frameTold, goodFrom]

end

theorem fallbackOf_length (vals good : List F64) (n : Nat) : (fallbackOf vals good n).1.length = n := by
  simp [fallbackOf]

/-- An element of the fallback array that is not finite comes from the last good values (R284). -/
theorem fallbackOf_getD (vals good : List F64) {n i : Nat} (h : i < n) : (fallbackOf vals good n).1.getD i 0 =
    if fIsFinite (vals.getD i 0) then vals.getD i 0 else good.getD i 0 := by
  simp [fallbackOf, h]

/-! ### What a standby publishes (R286) -/

/-- What the active's outcome tells of its frame and of the last good values. -/
def activeTold (q : OutcomeMortar) : SolvSt :=
  { frameTick := q.frame, solvedTick := q.goodTick, solved := q.goodMult.isSome, status := q.outcome.status
    cause := if q.outcome.status = 6 then q.outcome.cause else 0
    consecHeld := q.consecHeld, age := q.age, staleTags := q.staleTags
    goodX := q.goodX, goodMult := q.goodMult, goodObjective := q.goodObjective, goodTick := q.goodTick
    freshCount := q.freshCount }

theorem publishMortar_good {d : SolverDef} {x : SolvSt} {q : OutcomeMortar} {fb : List F64} (hq : q.fallback = false)
    (hx : x.fallback = false) (hb : d.fbBrick ≠ 0xFFFF ∨ q.consecHeld < d.heldLimit) :
    publishMortar d x q fb = (goodShown (activeTold q) (!q.outcome.fresh), none, false) := by
  simp only [publishMortar, hq, hx, goodShown, activeTold]
  simpa using fun h _ => hb.resolve_left (not_not_intro h)

theorem publishMortar_fallback (d : SolverDef) (x : SolvSt) {q : OutcomeMortar} (fb : List F64)
    (hq : q.fallback = true) : (publishMortar d x q fb).1 = fallbackShown (activeTold q) (fallbackOf fb q.goodX d.n).1 := by
  simp [publishMortar, hq, fallbackShown, activeTold]

/-! ### The obligation -/

/-- A frame whose own outcome decides ends in its publication. -/
theorem published_own {s : State} {c f : Nat} {d : SolverDef} {o : Outcome9} (hf : frameEnds s c d f = true)
    (ho : ownOutcome s c f o = true) :
    ∃ t, exec (.solverPublish c) s = .next t ∧ Published s c (ownPublication s c d f o) t :=
  ⟨_, execSolverPublish_own hf ho, frameClosed_published ..⟩

/-- A frame that the active's outcome decides ends in its publication, and takes its warm-start data. -/
theorem published_told {s : State} {c f : Nat} {d : SolverDef} {q : OutcomeMortar} (hf : frameEnds s c d f = true)
    (hrole : s.md.role = .standby) (hq : (solv2 s c).mortar = some q) (hqf : q.frame = f) :
    ∃ t, exec (.solverPublish c) s = .next t ∧ Published s c (toldPublication s c d q) t ∧ (solv2 t c).warm = q.warm :=
  ⟨_, execSolverPublish_told hf hrole hq hqf, frameClosed_published .., frameClosed_warm ..⟩

/-- Settles O39: a frame end publishes what `publish` gives, or `publishMortar` on a standby that was told, in each clause's
case. -/
theorem solverPublishesAtTheFrameEnd : Obligations.SolverPublishesAtTheFrameEnd := by
  unfold Obligations.SolverPublishesAtTheFrameEnd
  refine ⟨fun s c d f o hf ho hfresh hfb hlim => ?_, fun s c d f o hf ho hfresh hfb hbelow => ?_,
    fun s c d f o hf ho hfresh hfb hbrick hlim hrec => ?_, fun s c d f o hf ho hfresh hfb hlim => ?_,
    fun s c d f q hf hrole hq hqf hfb hx hbelow => ?_, fun s c d f q hf hrole hq hqf hfb => ?_⟩
  · obtain ⟨t, ht, hmd, hev, hself, hothers, hframe⟩ := published_own hf ho
    rw [ownPublication, publish_fresh hfresh hfb hlim] at hev hself
    refine ⟨t, ht, hmd, ?_⟩
    rw [hself]
    exact ⟨hev.trans (recorded_nil ..), rfl, rfl, rfl, rfl, rfl, rfl, rfl, rfl, rfl, rfl, rfl, hframe, hothers⟩
  · obtain ⟨t, ht, hmd, hev, hself, -, -⟩ := published_own hf ho
    rw [ownPublication, publish_held hfresh hfb hbelow] at hev hself
    refine ⟨t, ht, hmd, ?_⟩
    rw [hself]
    refine ⟨rfl, rfl, rfl, rfl, rfl, fun _ => ⟨rfl, rfl, rfl⟩, rfl, hev.trans ?_⟩
    congr 1
    split <;> rfl
  · obtain ⟨t, ht, hmd, hev, hself, -, -⟩ := published_own hf ho
    rw [ownPublication, publish_fallsBack hfresh hfb hbrick hlim hrec] at hev hself
    refine ⟨t, ht, hmd, ?_⟩
    rw [hself]
    exact ⟨rfl, rfl, rfl, rfl, rfl, rfl, fallbackOf_length .., fun i hi => fallbackOf_getD _ _ hi, hev.symm⟩
  · obtain ⟨t, ht, hmd, hev, hself, -, -⟩ := published_own hf ho
    by_cases hr : d.recover ≤ (solv s c).freshCount + 1
    · rw [ownPublication, publish_recovers hfresh hfb hlim hr] at hev hself
      refine ⟨t, ht, hmd, ?_⟩
      rw [hself]
      exact ⟨rfl, rfl, by simp [goodShown, hr], fun _ => ⟨rfl, rfl, hev⟩,
        fun hlt => absurd hr (Nat.not_le.mpr hlt)⟩
    · rw [ownPublication, publish_fallback_stays hfresh hfb hlim (Nat.not_le.mp hr)] at hev hself
      refine ⟨t, ht, hmd, ?_⟩
      rw [hself]
      exact ⟨rfl, rfl, by simp [fallbackShown, hr], fun hle => absurd hle hr,
        fun _ => ⟨rfl, hev.trans (recorded_nil ..)⟩⟩
  · obtain ⟨t, ht, ⟨hmd, hev, hself, -, -⟩, hwarm⟩ := published_told hf hrole hq hqf
    rw [toldPublication, publishMortar_good hfb hx hbelow] at hev hself
    refine ⟨t, ht, hmd, ?_⟩
    rw [hself]
    exact ⟨hev.trans (recorded_nil ..), hqf, rfl, rfl, rfl, rfl, rfl, rfl, rfl, rfl, rfl, rfl, hwarm⟩
  · obtain ⟨t, ht, ⟨hmd, -, hself, -, -⟩, -⟩ := published_told hf hrole hq hqf
    rw [toldPublication, publishMortar_fallback d (solv s c) _ hfb] at hself
    refine ⟨t, ht, hmd, ?_⟩
    rw [hself]
    exact ⟨hqf, rfl, rfl, rfl, rfl, rfl, rfl, fallbackOf_length .., fun i hi => fallbackOf_getD _ _ hi⟩

end Sys2Proof.Machine
end

section
/-! Lost tiles (R294, R295, R296, R297): what scheduling leaves of units, tiles and publications, and where contexts are
re-homed. -/

namespace Sys2Proof.Machine

/-! ### What re-homing leaves alone -/

/-- `t` has the tiles and the publications of `s`, and the event controller's intake has at most grown. -/
structure TilesKept (s t : State) : Prop where
  tiles : t.solver.tiles = s.solver.tiles
  publications : t.solver.s = s.solver.s
  raises : Raises s t

/-- Beside them every context is on the unit that it was on. -/
structure UnitsKept (s t : State) : Prop extends TilesKept s t where
  unit : ∀ c, (solv2 t c).unit = (solv2 s c).unit

theorem TilesKept.refl (s : State) : TilesKept s s := ⟨rfl, rfl, .refl s⟩

theorem TilesKept.trans {s t u : State} (h : TilesKept s t) (k : TilesKept t u) : TilesKept s u :=
  ⟨k.tiles.trans h.tiles, k.publications.trans h.publications, h.raises.trans k.raises⟩

theorem UnitsKept.refl (s : State) : UnitsKept s s := ⟨.refl s, fun _ => rfl⟩

theorem UnitsKept.trans {s t u : State} (h : UnitsKept s t) (k : UnitsKept t u) : UnitsKept s u :=
  ⟨h.toTilesKept.trans k.toTilesKept, fun c => (k.unit c).trans (h.unit c)⟩

theorem UnitsKept.of_solver {s t : State} (ht : t.solver.tiles = s.solver.tiles) (hs : t.solver.s = s.solver.s)
    (hj : t.solver.j = s.solver.j) (he : t.ev.intake = s.ev.intake) : UnitsKept s t :=
  ⟨⟨ht, hs, .of_intake he⟩, fun c => congrArg (·.unit) (solv2_of_solver hj c)⟩

theorem setSolv2_tilesKept (s : State) (k : Nat) (x : SolvSt2) : TilesKept s (setSolv2 s k x) :=
  ⟨rfl, rfl, .of_intake rfl⟩

/-- A slot may change while its context stays on its unit. -/
theorem setSolv2_unitsKept {s : State} {k : Nat} {x : SolvSt2} (h : x.unit = (solv2 s k).unit) :
    UnitsKept s (setSolv2 s k x) := by
  refine ⟨setSolv2_tilesKept s k x, fun c => ?_⟩
  by_cases hc : c = k
  · rw [hc, solv2_setSolv2_self, h]
  · rw [solv2_setSolv2_ne s k c x hc]

theorem raise_unitsKept (s : State) (ev : Nat) (arg : List W32) : UnitsKept s (raise s ev arg) := by
  have hsolver := raise_solver s ev arg
  exact ⟨⟨by rw [hsolver], by rw [hsolver], (Raises.refl s).raise ev arg⟩,
    fun c => congrArg (·.unit) (solv2_of_solver (congrArg SolverSt.j hsolver) c)⟩

theorem setJob_unitsKept (s : State) (k : Nat) (j : JobSt) (st at_ : Nat) : UnitsKept s (setJob s k j st at_) :=
  setSolv2_unitsKept rfl

theorem scheduleUnit_unitsKept (s : State) (u : Nat) : UnitsKept s (scheduleUnit s u) := by
  unfold scheduleUnit
  split
  · exact .refl s
  · exact setJob_unitsKept ..
  · dsimp only
    split
    · exact (setJob_unitsKept ..).trans (setJob_unitsKept ..)
    · exact .refl s

theorem noteUnit_unitsKept (s : State) (u : Nat) : UnitsKept s (noteUnit s u) := by
  unfold noteUnit
  dsimp only
  split <;> exact .of_solver rfl rfl rfl rfl

theorem schedule_unitsKept (s : State) : UnitsKept s (schedule s) :=
  foldl_inv (P := UnitsKept s) _ _ s (.refl s) fun u k hu =>
    (hu.trans (scheduleUnit_unitsKept u k)).trans (noteUnit_unitsKept _ k)

theorem setOutcome_unitsKept (s : State) (c f : Nat) (o : Outcome9) : UnitsKept s (setOutcome s c f o) :=
  setSolv2_unitsKept rfl

theorem setCounters_unitsKept (s : State) (c : Nat) (l : List Nat) :
    UnitsKept s (setSolv2 s c { solv2 s c with counters := l }) := setSolv2_unitsKept rfl

theorem jobLate_unitsKept (s : State) (c why : Nat) : UnitsKept s (jobLate s c why) := by
  unfold jobLate
  split
  · exact .refl s
  · exact (((setCounters_unitsKept ..).trans (setOutcome_unitsKept ..)).trans (raise_unitsKept ..)).trans
      (schedule_unitsKept _)

theorem rejoin_unitsKept (s : State) (c k : Nat) (d : SolverDef) (u g : Nat) : UnitsKept s (rejoin s c k d u g) := by
  unfold rejoin
  extract_lets w
  split
  · exact .refl s
  · next j _ =>
    split
    · exact jobLate_unitsKept s k 1
    · extract_lets s1 m
      have hwaits : UnitsKept s s1 := setSolv2_unitsKept rfl
      split
      · exact hwaits
      · exact (hwaits.trans (setCounters_unitsKept s1 c _)).trans (raise_unitsKept ..)

/-! ### The unit that takes a context (R297) -/

theorem unitList_congr {s t : State} (h : t.solver.tiles = s.solver.tiles) : unitList t = unitList s := by
  simp only [unitList, h]

/-- A context is placed on a remaining unit that holds its size. -/
theorem placeUnit_fits {s : State} {d : SolverDef} {u : Nat × Nat} (h : placeUnit s d = some u) :
    u ∈ unitList s ∧ sizeFits d u.2 = true := by
  obtain ⟨q, hq, rfl⟩ := Option.map_eq_some_iff.mp h
  clear h
  revert q
  refine List.foldlRecOn (motive := fun b : Option ((Nat × Nat) × Density) =>
    ∀ q, b = some q → q.1 ∈ unitList s ∧ sizeFits d q.1.2 = true) _ _ ?_ fun b ih v hv q hq => ?_
  · exact fun q hq => nomatch hq
  dsimp only at hq
  split at hq
  · exact ih q hq
  · next hfit =>
    have hsize : sizeFits d v.2 = true := by simp_all
    split at hq
    · obtain rfl := Option.some.inj hq
      exact ⟨hv, hsize⟩
    · split at hq
      · exact ih q hq
      · obtain rfl := Option.some.inj hq
        exact ⟨hv, hsize⟩

/-! ### Re-homing (R297) -/

/-- Context c is suspended, or on a unit of `s` that holds the size of one of its definitions in `l`. -/
def HomedIn (s : State) (l : List (Nat × SolverDef)) (c : Nat) (unit : Option Nat) : Prop :=
  unit = none ∨ ∃ d ∈ l, d.1 = c ∧ ∃ u ∈ unitList s, sizeFits d.2 u.2 = true ∧ unit = some u.1

theorem rehomeOne_parts (s : State) (e : Nat × SolverDef) : TilesKept s (rehomeOne s e) ∧
    (∀ c, c ≠ e.1 → (solv2 (rehomeOne s e) c).unit = (solv2 s c).unit) ∧
    HomedIn s [e] e.1 (solv2 (rehomeOne s e) e.1).unit := by
  obtain ⟨k, d⟩ := e
  unfold rehomeOne
  dsimp only
  split
  · have hlate := ((raise_unitsKept (setSolv2 s k { solv2 s k with unit := none }) 167 [w32 k]).trans
      (jobLate_unitsKept _ k 1)).trans (jobLate_unitsKept _ (64 + k) 1)
    refine ⟨(setSolv2_tilesKept ..).trans hlate.toTilesKept, fun c hc => ?_, .inl ?_⟩
    · rw [hlate.unit, solv2_setSolv2_ne _ _ _ _ hc]
    · rw [hlate.unit, solv2_setSolv2_self]
  · next u g hplace =>
    have hjoin := (rejoin_unitsKept (setSolv2 s k { solv2 s k with unit := some u }) k k d u g).trans
      (rejoin_unitsKept _ k (64 + k) d u g)
    obtain ⟨hmem, hsize⟩ := placeUnit_fits hplace
    refine ⟨(setSolv2_tilesKept ..).trans hjoin.toTilesKept, fun c hc => ?_,
      .inr ⟨_, List.mem_singleton_self _, rfl, _, hmem, hsize, ?_⟩⟩
    · rw [hjoin.unit, solv2_setSolv2_ne _ _ _ _ hc]
    · rw [hjoin.unit, solv2_setSolv2_self]

/-- What re-homing the contexts `l` one by one has come to at `t`: a context of the list is homed, another one is where it
was. -/
structure Rehomed (s : State) (l : List (Nat × SolverDef)) (t : State) : Prop extends TilesKept s t where
  homed : ∀ e ∈ l, HomedIn s l e.1 (solv2 t e.1).unit
  others : ∀ c, (∀ e ∈ l, e.1 ≠ c) → (solv2 t c).unit = (solv2 s c).unit

theorem HomedIn.mono {s t : State} {l m : List (Nat × SolverDef)} {c : Nat} {unit : Option Nat}
    (h : HomedIn s l c unit) (ht : t.solver.tiles = s.solver.tiles) (hl : ∀ e ∈ l, e ∈ m) : HomedIn t m c unit := by
  obtain h | ⟨d, hd, hc, u, hu, hfit⟩ := h
  · exact .inl h
  · exact .inr ⟨d, hl d hd, hc, u, by rwa [unitList_congr ht], hfit⟩

theorem rehomeAll_rehomed (s : State) (l : List (Nat × SolverDef)) : Rehomed s l (l.foldl rehomeOne s) := by
  induction l using List.reverseRecOn with
  | nil => exact ⟨.refl s, fun e he => absurd he List.not_mem_nil, fun _ _ => rfl⟩
  | append_singleton l e ih =>
    rw [List.foldl_append, List.foldl_cons, List.foldl_nil]
    obtain ⟨hkept, hothers, hhomed⟩ := rehomeOne_parts (l.foldl rehomeOne s) e
    refine ⟨ih.toTilesKept.trans hkept, fun b hb => ?_, fun c hc => ?_⟩
    · by_cases hbe : b.1 = e.1
      · rw [hbe]
        exact hhomed.mono ih.tiles.symm (by simp)
      · have hbl : b ∈ l := by
          obtain h | h := List.mem_append.mp hb
          · exact h
          · exact absurd (congrArg (·.1) (List.mem_singleton.mp h)) hbe
        rw [hothers _ hbe]
        exact (ih.homed b hbl).mono rfl fun b hb => List.mem_append_left _ hb
    · rw [hothers c (hc e (by simp)).symm, ih.others c fun b hb => hc b (List.mem_append_left _ hb)]

/-- Before they are placed, the contexts are on no unit. -/
theorem suspendAll_parts (s : State) (l : List (Nat × SolverDef)) :
    TilesKept s (l.foldl (fun s e => setSolv2 s e.1 { solv2 s e.1 with unit := none }) s) ∧
    ∀ c, (∀ e ∈ l, e.1 ≠ c) →
      (solv2 (l.foldl (fun s e => setSolv2 s e.1 { solv2 s e.1 with unit := none }) s) c).unit = (solv2 s c).unit := by
  induction l using List.reverseRecOn with
  | nil => exact ⟨.refl s, fun _ _ => rfl⟩
  | append_singleton l e ih =>
    rw [List.foldl_append, List.foldl_cons, List.foldl_nil]
    refine ⟨ih.1.trans (setSolv2_tilesKept ..), fun c hc => ?_⟩
    rw [solv2_setSolv2_ne _ _ _ _ (hc e (by simp)).symm, ih.2 c fun b hb => hc b (List.mem_append_left _ hb)]

theorem mem_rankInsert (x e : Nat × SolverDef) (l : List (Nat × SolverDef)) : e ∈ rankInsert x l ↔ e = x ∨ e ∈ l := by
  induction l with
  | nil => simp [rankInsert]
  | cons y l ih =>
    unfold rankInsert
    split
    · simp
    · simp [ih, or_left_comm]

theorem mem_ranked (e : Nat × SolverDef) (l : List (Nat × SolverDef)) :
    e ∈ l.foldl (fun l e => rankInsert e l) [] ↔ e ∈ l := by
  induction l using List.reverseRecOn with
  | nil => simp
  | append_singleton l b ih => simp [mem_rankInsert, ih, or_comm]

theorem rehome_rehomed (s : State) (l : List (Nat × SolverDef)) : Rehomed s l (rehome s l) := by
  unfold rehome
  extract_lets cs s1
  have hcs (e : Nat × SolverDef) : e ∈ cs ↔ e ∈ l := mem_ranked e l
  obtain ⟨hkept, hsame⟩ := suspendAll_parts s cs
  have hplaced := rehomeAll_rehomed s1 cs
  have hscheduled := schedule_unitsKept (cs.foldl rehomeOne s1)
  refine ⟨(hkept.trans hplaced.toTilesKept).trans hscheduled.toTilesKept, fun e he => ?_, fun c hc => ?_⟩
  · rw [hscheduled.unit]
    exact (hplaced.homed e ((hcs e).mpr he)).mono hkept.tiles.symm fun b hb => (hcs b).mp hb
  · have hc' : ∀ e ∈ cs, e.1 ≠ c := fun e he => hc e ((hcs e).mp he)
    rw [hscheduled.unit, hplaced.others c hc', hsame c hc']

/-! ### The tiles after one is lost (R296) -/

theorem shrink_self {tiles : List TileSt} {i : Nat} {x : TileSt} (h : tiles[i]? = some x) (cause : Nat) :
    (shrink tiles i cause)[i]? = some { x with online := false, failed := true, cause := cause, gang := 0 } := by
  simp [shrink, h]

/-- A tile k of a gang of four is in the half of a lost tile i, its mate, or in the other half, which goes on as a gang of
two. -/
theorem shrink_other {tiles : List TileSt} {i k : Nat} {x y : TileSt} (hi : i < 4) (hk : k ≠ i)
    (hx : tiles[i]? = some x) (hy : tiles[k]? = some y) (cause : Nat) : (shrink tiles i cause)[k]? = some (
      if y.gang = 0 ∨ y.unit ≠ x.unit then y
      else if x.gang = 4 ∧ k / 2 ≠ i / 2 then { y with unit := 2 - i / 2 * 2, gang := 2 }
      else { y with unit := k, gang := 1 }) := by
  have hmate : (k = if i % 2 = 0 then i + 1 else i - 1) ↔ k / 2 = i / 2 := by split <;> omega
  have hpair : (if i < 2 then 2 else 0) = 2 - i / 2 * 2 := by split <;> omega
  have hget : tiles.getD i {} = x := by simp [List.getD, hx]
  simp only [shrink, hget, hpair, hmate, List.getElem?_map, List.getElem?_zipIdx, hy, Option.map_some, Nat.zero_add, hk,
    if_false]
  by_cases hy0 : y.gang = 0 ∨ y.unit ≠ x.unit
  · rw [if_pos hy0, if_pos hy0]
  · rw [if_neg hy0, if_neg hy0]
    by_cases h4 : x.gang = 4
    · by_cases hhalf : k / 2 = i / 2
      · simp [h4, hhalf, ← hmate.mpr hhalf]
      · simp [h4, hhalf]
    · simp [h4]

/-! ### TILE_OFFLINE and TILE_SELF_TEST -/

/-- The state with a tile offline and its unit shrunk, and EV165 raised, before contexts are re-homed. -/
def tileLost (s : State) (i cause : Nat) : State :=
  raise { s with solver := { s.solver with tiles := shrink s.solver.tiles i cause } } 165 [w32 i, w32 cause]

theorem tileLost_solver (s : State) (i cause : Nat) :
    (tileLost s i cause).solver = { s.solver with tiles := shrink s.solver.tiles i cause } := by
  simp [tileLost]

/-- The contexts of a unit. -/
def contextsOn (s : State) (u : Nat) : List (Nat × SolverDef) :=
  (solverDefs (theImage s)).filter fun e => (solv2 s e.1).unit == some u

theorem mem_contextsOn {s : State} {u : Nat} {e : Nat × SolverDef} :
    e ∈ contextsOn s u ↔ e ∈ solverDefs (theImage s) ∧ (solv2 s e.1).unit = some u := by
  simp [contextsOn]

theorem contextsOn_tileLost (s : State) (i cause u : Nat) : contextsOn (tileLost s i cause) u = contextsOn s u := by
  have hkiln : (tileLost s i cause).kiln = s.kiln := by simp [tileLost]
  simp only [contextsOn, theImage, solv2, hkiln, tileLost_solver]

theorem tileOff_online {s : State} {i : Nat} {x : TileSt} (hx : s.solver.tiles[i]? = some x) (ho : x.online = true)
    (cause : Nat) : tileOff s i cause = rehome (tileLost s i cause) (contextsOn s x.unit) := by
  rw [← contextsOn_tileLost s i cause]
  simp only [tileOff, hx, ho, Bool.not_true, Bool.false_eq_true, if_false]
  rfl

theorem execTileOffline_running {s : State} (hp : s.md.powered = true) (hr : s.ev.running = true) (i cause n : Nat) :
    exec (.tileOffline i cause n) s = .next (tileOff (setPhase s n) i cause) :=
  congrArg Host.Outcome.next (if_pos (by simp [hp, hr]))

/-- The self-test of a tile is stamped with its tick (R295). -/
def selfTested (s : State) (i : Nat) : State :=
  { s with solver := { s.solver with tested := lset s.solver.tested i s.time.tick } }

theorem execTileSelfTest_running {s : State} (hp : s.md.powered = true) (hr : s.ev.running = true) (i : Nat)
    (passed : Bool) (n : Nat) : exec (.tileSelfTest i passed n) s =
      .next (if passed then selfTested (setPhase s n) i else tileOff (selfTested (setPhase s n) i) i 1) :=
  congrArg Host.Outcome.next (if_neg (by simp [hp, hr]))

theorem tileOff_tile {s : State} {i : Nat} {x : TileSt} (hx : s.solver.tiles[i]? = some x) (ho : x.online = true)
    (cause : Nat) : (tileOff s i cause).solver.tiles[i]? =
      some { x with online := false, failed := true, cause := cause, gang := 0 } := by
  rw [tileOff_online hx ho, (rehome_rehomed ..).tiles, tileLost_solver]
  exact shrink_self hx cause

/-- Settles O40: the tiles are those of `shrink`, and re-homing decides the units of the lost unit's contexts alone. -/
theorem lostTilesShrinkTheirUnits : Obligations.LostTilesShrinkTheirUnits := by
  unfold Obligations.LostTilesShrinkTheirUnits
  refine ⟨fun s i cause n x hp hr hx ho hi => ?_, fun s i n hp hr => ?_, fun s i n x hp hr hx ho hi => ?_⟩
  · have hlost := tileLost_solver (setPhase s n) i cause
    have hre := rehome_rehomed (tileLost (setPhase s n) i cause) (contextsOn (setPhase s n) x.unit)
    rw [← tileOff_online (s := setPhase s n) hx ho cause] at hre
    have htiles : (tileOff (setPhase s n) i cause).solver.tiles = shrink s.solver.tiles i cause := by
      rw [hre.tiles, hlost]
      rfl
    refine ⟨_, execTileOffline_running hp hr i cause n, by simp, by rw [hre.publications, hlost]; rfl,
      tileOff_tile (s := setPhase s n) hx ho cause, fun k y hk hy => ?_, ?_, fun c _ hc => ?_, fun e he hu => ?_⟩
    · rw [htiles]
      exact shrink_other hi hk hx hy cause
    · have hraised : (tileLost (setPhase s n) i cause).ev = recorded s n [(165, [w32 i, w32 cause])] := raise_ev ..
      rw [← hraised]
      exact hre.raises.intake
    · rw [hre.others c fun e he hec => hc (hec ▸ (mem_contextsOn.mp he).2), solv2, hlost]
      rfl
    · exact (hre.homed e (mem_contextsOn.mpr ⟨he, hu⟩)).mono hre.tiles fun b hb => (mem_contextsOn.mp hb).1
  · exact ⟨_, execTileSelfTest_running hp hr i true n, rfl, rfl, rfl⟩
  · exact ⟨_, execTileSelfTest_running hp hr i false n,
      execTileOffline_running (s := selfTested s i) hp hr i 1 n,
      tileOff_tile (s := selfTested (setPhase s n) i) hx ho 1⟩

end Sys2Proof.Machine
end

section
/-! A job at its deadline, in a slot that the table of slots lists twice (R287, R288, R289). -/

namespace Sys2Proof.Machine

/-- A job of slot 0 on unit 0 that has not begun. -/
def waitingJob (deadline : Nat) : JobSt :=
  { state := 1, snap := ⟨0, [], [], []⟩, deadline := deadline, unit := 0, record := [], warm := none }

/-- Slot 0 is listed twice, each time with a job that waits: `solv2` reads the first entry, the order of a unit's jobs
(`unitFirst`) both. A table filled by `tset` lists each slot once, but the type of `State` does not ask for it. -/
def slotListedTwice : State :=
  { State.reset with
    solver := { State.reset.solver with j := [(0, { job := some (waitingJob 0) }), (0, { job := some (waitingJob 8) })] } }

/-- Refutes O38: a job at its deadline leaves its slot. Where the table lists the slot a second time, the unit then starts
the job of that entry there, so that `(solv2 t ctx).job = none` fails: the statement lacks the premise that each slot is
listed once. -/
theorem not_solverFramesAndJobs : ¬ Obligations.SolverFramesAndJobs := by
  unfold Obligations.SolverFramesAndJobs
  rintro ⟨-, -, -, -, -, hdeadline⟩
  obtain ⟨t, ht, -, -, hjob, -⟩ := hdeadline slotListedTwice 0 (waitingJob 0) rfl (by decide)
  have hstarts : ((solv2 (jobLate slotListedTwice 0 0) 0).job.map (·.deadline)) = some 8 := by decide
  have hrun : exec (.solverJobDeadline 0) slotListedTwice = .next (jobLate slotListedTwice 0 0) := rfl
  obtain rfl : jobLate slotListedTwice 0 0 = t := by injection hrun.symm.trans ht
  rw [hjob] at hstarts
  exact absurd hstarts (by decide)

end Sys2Proof.Machine
end

section
/-! Rehearsals, the lanes of the Cerhar link, versions, the bulk copy, TRACK and firmware (R338, R358, R359, R361, R362,
R364, R365). -/

namespace Sys2Proof.Machine

/-! ### Rehearsals (R358, R359) -/

/-- A window of 8,000 ticks after a role swap that ends without a latent fault. -/
def rehearsed (s : State) : State :=
  { s with
    pair := { s.pair with watchFrom := none, watchFault := false }
    ev := { s.ev with rehearsed := some (vtime s) } }

theorem execLatentFaultWindowEnd_rehearsed {s : State} {k : Nat} (hw : s.pair.watchFrom = some k)
    (hk : k + 8000 ≤ s.time.tick) (hd : drives s = true) (hf : s.pair.watchFault = false)
    (hr : s.pair.rehearsing = true) :
    exec .latentFaultWindowEnd s = .next (raise (rehearsed s) 49 [Config.argCode 49 0]) := by
  show execLatentFaultWindowEnd s = _
  unfold execLatentFaultWindowEnd
  rw [hw]
  dsimp only
  rw [if_neg (Nat.not_lt.mpr hk), if_pos (by simp [hd, hr, hf])]
  rfl

theorem raise_rehearsed_ev (s : State) (ev : Nat) (arg : List W32) :
    (raise (rehearsed s) ev arg).ev.rehearsed = some (vtime s) ∧
    (raise (rehearsed s) ev arg).ev.intake = (recorded s s.time.phase [(ev, arg)]).intake := by
  rw [raise_ev]
  refine ⟨by simp [rehearsed], ?_⟩
  unfold recorded
  cases h : s.ev.running <;> simp [rehearsed, h, timeQuality]

/-- The ACTIVE notes when it last told that a rehearsal is overdue. -/
def overdueNoted (s : State) : State := { s with pair := { s.pair with overdueAt := some s.time.tick } }

theorem execRehearsalOverdue_own {s : State} (hr : s.md.role = .active) (hz : (mortarSel (theImage s)).rehearsalDays ≠ 0)
    (hd : (mortarSel (theImage s)).rehearsalDays < ownDays s) (ho : s.pair.overdueAt = none) :
    exec .rehearsalOverdue s = .next (raise (overdueNoted s) 48 [w32 (ownDays s)]) := by
  show execRehearsalOverdue s = _
  unfold execRehearsalOverdue
  simp [hr, hz, hd, ho, overdueNoted]

/-! ### A lane that falls (R338) -/

/-- The lanes once this one is down. -/
def lanesWithout (s : State) (lane : Nat) : List LaneSt :=
  lset s.pair.lanes lane { s.pair.lanes.getD lane {} with state := 0, run := 0 }

/-- Of the two lanes one is down, and the other and the last frames of both are as they were. -/
theorem lanesWithout_parts {s : State} {lane : Nat} (hl : lane ≤ 1) (h2 : s.pair.lanes.length = 2) :
    ((lanesWithout s lane).getD lane {}).state = 0 ∧
    (lanesWithout s lane).getD (1 - lane) {} = s.pair.lanes.getD (1 - lane) {} ∧
    ((lanesWithout s lane).all fun l => l.state != 2) = ((s.pair.lanes.getD (1 - lane) {}).state != 2) ∧
    (lanesWithout s lane).foldl (fun m l => max m l.lastTick) 0 =
      max (s.pair.lanes.getD 0 {}).lastTick (s.pair.lanes.getD 1 {}).lastTick := by
  obtain ⟨a, b, hab⟩ := List.length_eq_two.mp h2
  obtain rfl | rfl : lane = 0 ∨ lane = 1 := by omega
  · simp [lanesWithout, hab, lset]
  · simp [lanesWithout, hab, lset]

/-- The module behind the fall of a lane, before the link is looked at: counted, told with EV042, and what waits there
moved to the other lane. -/
def laneFallen (s : State) (lane : Nat) : State :=
  laneMove (raise (pairCount { s with pair := { s.pair with lanes := lanesWithout s lane } } 4) 42 [w32 lane]) lane

theorem laneFallen_pair (s : State) (lane : Nat) : (laneFallen s lane).pair =
    { s.pair with lanes := lanesWithout s lane, counters := bump s.pair.counters 4 } := by
  simp [laneFallen, pairCount]

theorem laneFallen_md (s : State) (lane : Nat) : (laneFallen s lane).md = s.md := by
  simp [laneFallen, pairCount]

theorem laneFallen_noted (s : State) (lane n : Nat) :
    Noted s n [(42, [w32 lane])] (laneFallen (setPhase s n) lane) :=
  (((Noted.start s n).keep (u := pairCount { setPhase s n with pair := { s.pair with lanes := lanesWithout s lane } } 4)
    rfl rfl).raise 42 [w32 lane]).keep rfl rfl

theorem linkLost_laneFallen {s : State} {lane : Nat} (hl : lane ≤ 1) (h2 : s.pair.lanes.length = 2) :
    linkLost (laneFallen s lane) = ((s.pair.lanes.getD (1 - lane) {}).state != 2) := by
  obtain ⟨-, -, hall, -⟩ := lanesWithout_parts hl h2
  rw [linkLost, laneFallen_pair]
  exact hall

/-- The module behind the loss of the link, before its mode is looked at: EV041, and no bulk copy goes on. -/
def linkFallen (s : State) : State :=
  let u := raise (pairCount s 3) 41 (w64 (s.pair.lanes.foldl (fun m l => max m l.lastTick) 0))
  { u with pair := { u.pair with bulk := none } }

theorem linkFallen_parts (s : State) : (linkFallen s).md = s.md ∧
    (linkFallen s).pair = { s.pair with bulk := none, counters := bump s.pair.counters 3 } := by
  simp [linkFallen, pairCount]

theorem linkFallen_noted {s t : State} {n : Nat} {evs : List (Nat × List W32)} (h : Noted s n evs t) :
    Noted s n (evs ++ [(41, w64 (t.pair.lanes.foldl (fun m l => max m l.lastTick) 0))]) (linkFallen t) :=
  ((h.keep (u := pairCount t 3) rfl rfl).raise 41 _).keep rfl rfl

/-- A STANDBY that shadows leaves for SYNC when the link is lost; another module stays as it is. -/
def linkLeft (s : State) : State := if shadows s then toSync s causePair else s

theorem laneLost_eq (s : State) (lane : Nat) : laneLost s lane =
    if !linkLost (laneFallen s lane) then laneFallen s lane else linkLeft (linkFallen (laneFallen s lane)) := rfl

/-- A lane that falls, by what the other lane is. -/
theorem execLaneDown_up {s : State} {lane : Nat} (n : Nat) (hs : linkServed s = true) (hl : lane ≤ 1)
    (h2 : s.pair.lanes.length = 2) (hu : (s.pair.lanes.getD lane {}).state = 2) : exec (.laneDown lane n) s =
      .next (if (s.pair.lanes.getD (1 - lane) {}).state = 2 then laneFallen (setPhase s n) lane
        else linkLeft (linkFallen (laneFallen (setPhase s n) lane))) := by
  have hx : exec (.laneDown lane n) s = .next (laneLost (setPhase s n) lane) :=
    congrArg Host.Outcome.next (if_neg (by simp [-List.getD_eq_getElem?_getD, hs, hl, hu]))
  rw [hx, laneLost_eq, linkLost_laneFallen (s := setPhase s n) hl h2]
  simp [-List.getD_eq_getElem?_getD]

theorem linkLeft_parts (s : State) : (linkLeft s).pair.lanes = s.pair.lanes ∧
    (s.pair.bulk = none → (linkLeft s).pair.bulk = none) ∧
    (linkLeft s).md.mode = (if shadows s then .sync else s.md.mode) ∧ Raises s (linkLeft s) := by
  unfold linkLeft
  split
  · obtain ⟨hmode, -, hev⟩ := toSync_parts s causePair
    refine ⟨?_, fun _ => ?_, hmode, hev⟩ <;> rw [toSync_eq] <;> simp [syncNoted]
  · exact ⟨rfl, id, rfl, .refl s⟩

/-! ### A lane that rises (R338, R364) -/

/-- The lane is up, and the other lanes are as they were. -/
def laneRisen (s : State) (lane : Nat) : State :=
  { s with
    pair := { s.pair with
      lanes := lset s.pair.lanes lane { s.pair.lanes.getD lane {} with state := 2, lastTick := s.time.tick } } }

theorem laneRisen_noted (s : State) (lane n : Nat) :
    Noted s n [(43, [w32 lane])] (raise (laneRisen (setPhase s n) lane) 43 [w32 lane]) :=
  ((Noted.start s n).keep (u := laneRisen (setPhase s n) lane) rfl rfl).raise 43 _

/-- The versions that the module supports leave over the link (R364). -/
def versionsSent (s : State) : State :=
  sendLink s 1 (min (Config.frameBytes 7) frameMax) (.versions Config.lvRange Config.mfList)

theorem versionsSent_parts (s : State) : (versionsSent s).md = s.md ∧ (versionsSent s).pair = s.pair ∧
    (versionsSent s).ev = s.ev ∧
    (versionsSent s).net.outbox = OutMsg.versions Config.lvRange Config.mfList :: s.net.outbox := by
  obtain ⟨lo, lf, k, h⟩ := sendLink_eq s 1 (min (Config.frameBytes 7) frameMax) (.versions Config.lvRange Config.mfList)
  rw [versionsSent, h]
  exact ⟨rfl, rfl, rfl, rfl⟩

theorem execLaneUp_ready {s : State} {lane : Nat} (n : Nat) (hs : linkServed s = true) (hl : lane ≤ 1)
    (hu : (s.pair.lanes.getD lane {}).state ≠ 2) (hr : 80 ≤ (s.pair.lanes.getD lane {}).run) :
    exec (.laneUp lane n) s = .next (if linkLost s then versionsSent (raise (laneRisen (setPhase s n) lane) 43 [w32 lane])
      else raise (laneRisen (setPhase s n) lane) 43 [w32 lane]) :=
  congrArg Host.Outcome.next (if_neg (by simp [-List.getD_eq_getElem?_getD, hs, hl, hu, hr]))

/-! ### Versions (R364) -/

/-- The pair part with the versions that both modules support. -/
def versionsTaken (s : State) (m : Nat × Nat) (hi : Nat) (miss : W32) : State :=
  { s with pair := { s.pair with lv := min Config.lvRange.2 hi, mf := m, missing := miss, noCommon := false } }

/-- The pair part without a version that both modules support. -/
def versionsMissed (s : State) : State :=
  { s with pair := { s.pair with lv := 0, mf := (0, 0), missing := 0, noCommon := true } }

theorem execLinkUpNegotiation_common {s : State} {lo hi : Nat} {mf : List (Nat × Nat)} {m : Nat × Nat} (miss : W32)
    (n : Nat) (hs : linkServed s = true) (hm : commonMf mf = some m)
    (hv : max Config.lvRange.1 lo ≤ min Config.lvRange.2 hi) : exec (.linkUpNegotiation lo hi mf miss n) s =
      .next (raise (versionsTaken (setPhase s n) m hi miss) 51
        [w32 (min Config.lvRange.2 hi), w32 (256 * m.1 + m.2), miss]) := by
  show execLinkUpNegotiation lo hi mf miss n s = _
  unfold execLinkUpNegotiation
  rw [if_neg (by simp [hs]), hm]
  exact congrArg Host.Outcome.next (if_pos hv)

theorem execLinkUpNegotiation_none {s : State} {lo hi : Nat} {mf : List (Nat × Nat)} (miss : W32) (n : Nat)
    (hs : linkServed s = true) (h : commonMf mf = none ∨ min Config.lvRange.2 hi < max Config.lvRange.1 lo) :
    exec (.linkUpNegotiation lo hi mf miss n) s = .next (if s.md.mode = .load then
      raise (versionsMissed (setPhase s n)) 50 [w32 Config.lvRange.1, w32 Config.lvRange.2, w32 lo, w32 hi]
      else versionsMissed (setPhase s n)) := by
  show execLinkUpNegotiation lo hi mf miss n s = _
  unfold execLinkUpNegotiation
  rw [if_neg (by simp [hs])]
  cases hm : commonMf mf with
  | none => rfl
  | some m =>
    have hv := h.resolve_left (by simp [hm])
    exact congrArg Host.Outcome.next (if_neg (Nat.not_le.mpr hv))

/-- Either the versions of both modules meet, or not. -/
theorem versions_common_or_none (lo hi : Nat) (mf : List (Nat × Nat)) :
    (∃ m, commonMf mf = some m ∧ max Config.lvRange.1 lo ≤ min Config.lvRange.2 hi) ∨
    commonMf mf = none ∨ min Config.lvRange.2 hi < max Config.lvRange.1 lo := by
  cases hm : commonMf mf with
  | none => exact .inr (.inl rfl)
  | some m => exact (le_or_gt _ _).imp (fun h => ⟨m, rfl, h⟩) .inr

/-! ### The bulk copy (R361, R497) -/

/-- The bulk copy is under way. -/
def copying (s : State) (bytes : Nat) : State := { s with pair := { s.pair with bulk := some bytes } }

theorem execBulkCopyStart_active {s : State} (bytes n : Nat) (hs : linkServed s = true) (hl : linkLost s = false)
    (hc : s.pair.noCommon = false) (hr : s.md.role = .active) (hp : partnerIn s [.sync] = true) :
    exec (.bulkCopyStart bytes n) s = .next (sendBulk (copying (raise (setPhase s n) 45 [w32 bytes]) bytes)) :=
  congrArg Host.Outcome.next ((if_neg (by simp [hs, hl, hc])).trans (if_pos ⟨hr, hp⟩))

theorem sendBulk_ev (s : State) : (sendBulk s).ev = s.ev := ev_of_evCore (by simp) (by simp)

/-- What the standby keeps of the active's mode, and the parts of the copy that it waits for. -/
def copyAwaited (s : State) : State :=
  { s with mortar := { s.mortar with
      activeMode := (s.pair.status.map (·.mode)).getD s.mortar.activeMode
      nextSet := [], setDue := [], awaited := [] } }

theorem execBulkCopyStart_standby {s : State} (bytes n : Nat) (hs : linkServed s = true) (hl : linkLost s = false)
    (hc : s.pair.noCommon = false) (hr : s.md.role = .standby) (hm : s.md.mode = .sync) :
    exec (.bulkCopyStart bytes n) s = .next (copying (copyAwaited (followClock (setPhase s n))) bytes) :=
  congrArg Host.Outcome.next (((if_neg (by simp [hs, hl, hc])).trans (if_neg (by simp [hr]))).trans (if_pos ⟨hr, hm⟩))

theorem followClock_reported {s : State} {f : StatusFrame} (hf : s.pair.status = some f) :
    followClock s = setClock s ((f.tick + (s.time.tick - s.pair.statusTick)) * tickNs) s.time.phase := by
  rw [followClock, hf]

theorem setClock_ticks (s : State) (k phase : Nat) : (setClock s (k * tickNs) phase).time.tick = k :=
  Nat.mul_div_cancel k (by decide)

/-- Setting the clock keeps mode, role and the last report. -/
theorem setClock_report (s : State) (boundary phase : Nat) : (setClock s boundary phase).md.mode = s.md.mode ∧
    (setClock s boundary phase).md.role = s.md.role ∧ (setClock s boundary phase).pair.status = s.pair.status :=
  ⟨rfl, rfl, rfl⟩

/-! ### TRACK (R362) -/

/-- The copy has ended, and the mode is TRACK. -/
def trackEntered (s : State) : State := changeMode { s with pair := { s.pair with bulk := none } } .track causePair

/-- Entry to a mode that runs courses leaves an exchange as it is. -/
theorem changeMode_runs_exch (s : State) {m : Mode} (cause : Nat) (h : runs m = true) :
    (changeMode s m cause).exch = s.exch := by
  unfold changeMode enterEffects
  simp [h]

theorem settle_ev (s : State) : (settle s).ev = s.ev := ev_of_evCore (by simp) (by simp)

/-- Courses run in TRACK, so that entry to it stops nothing that would tell so. -/
theorem enterEffects_track_ev (s : State) (old : Mode) : (enterEffects s old .track).ev = s.ev := by
  simp [enterEffects, runs]

section

/-! Before LOAD the event controller takes nothing (R87): the intake stays through a change of mode. -/

variable {s : State} (h : s.ev.running = false)
include h

theorem raise_beforeLoad (ev : Nat) (arg : List W32) : (raise s ev arg).ev = s.ev := by
  rw [raise_ev, recorded, h]
  rfl

theorem injectionSetOff_beforeLoad : (injectionSetOff s).ev = s.ev := by
  refine foldl_inv (P := fun u => u.ev = s.ev) _ _ { s with md := { s.md with injection := false } } rfl fun u c hu => ?_
  unfold stopInjection
  dsimp only
  split
  · exact (completeOpt_loops ..).2.trans ((raise_beforeLoad (by exact hu ▸ h) _ _).trans hu)
  · exact hu

theorem resolve_beforeLoad (m : Mode) : (resolve s m).ev = s.ev := by
  unfold resolve
  extract_lets r r' inj n inj' mir' _ s1 s2 _ s3
  have h2 : s2.ev = s.ev := by
    simp only [s2]
    split
    · exact injectionSetOff_beforeLoad (s := s1) h
    · rfl
  have h3 : s3.ev = s.ev := by
    simp only [s3]
    split
    · exact (raise_beforeLoad (by exact h2 ▸ h) _ _).trans h2
    · exact h2
  split
  · exact (raise_beforeLoad (h3 ▸ h) _ _).trans h3
  · exact h3

theorem changeMode_track_beforeLoad (cause : Nat) : (changeMode s .track cause).ev = s.ev := by
  have htold := raise_beforeLoad h 8 [w32 (modeCode s.md.mode), w32 (modeCode .track), Config.modeCauseCode cause]
  have hresolved := (resolve_beforeLoad (by rwa [htold]) .track).trans htold
  unfold changeMode
  extract_lets old
  split
  · rfl
  · exact (settle_ev _).trans ((enterEffects_track_ev ..).trans hresolved)

end

theorem trackEntered_parts {s : State} (hm : s.md.mode = .sync) : (trackEntered s).md.mode = .track ∧
    (trackEntered s).md.prevMode = .sync ∧ (trackEntered s).md.role = s.md.role ∧ (trackEntered s).pair.bulk = none ∧
    (trackEntered s).exch = s.exch := by
  refine ⟨changeMode_mode .., ?_, changeMode_role _ _ _ nofun nofun, by simp [trackEntered],
    changeMode_runs_exch _ _ rfl⟩
  rw [trackEntered, changeMode_md]
  simp [hm]

/-- Behind the entry to TRACK an event is the last one of the tick, where the event controller takes any. -/
theorem trackEntered_told (s : State) (ev : Nat) (arg : List W32) :
    (raise (trackEntered s) ev arg).ev.intake.getLast?.map (fun e => (e.ev, e.arg)) =
      if s.ev.running then some (ev, arg.take 4) else s.ev.intake.getLast?.map fun e => (e.ev, e.arg) := by
  cases h : s.ev.running with
  | true =>
    have hrun : (trackEntered s).ev.running = true :=
      (running_of_evCore (f := s.ev) (by simp [trackEntered])).trans h
    rw [raise_ev, recorded_one hrun]
    simp
  | false =>
    have hev : (trackEntered s).ev = s.ev :=
      changeMode_track_beforeLoad (s := { s with pair := { s.pair with bulk := none } }) h causePair
    rw [raise_beforeLoad (by rwa [hev]), hev]
    rfl

theorem execTrackReached_current {s : State} (n : Nat) (hs : linkServed s = true) (hl : linkLost s = false)
    (hr : s.md.role = .standby) (hm : s.md.mode = .sync) (hb : bulkArrived s = true)
    (hc : ∀ k ∈ [0, 1, 2, 3], s.pair.stale.getD k 0 ≤ staleLimit s k) (hx : s.exch.state ≠ 4) :
    exec (.trackReached n) s =
      .next (raise (trackEntered (setPhase s n)) 46 [w32 (s.time.tick - s.pair.syncTick)]) := by
  have hcur : ((List.range 4).all fun k => decide (s.pair.stale.getD k 0 ≤ staleLimit s k)) = true :=
    List.all_eq_true.mpr fun k hk => decide_eq_true (hc k hk)
  obtain ⟨-, -, -, -, hexch⟩ := trackEntered_parts (s := setPhase s n) hm
  have hstay : (if (trackEntered (setPhase s n)).exch.state = 4 then
      changeMode (trackEntered (setPhase s n)) .change causeExchange else trackEntered (setPhase s n)) =
      trackEntered (setPhase s n) := if_neg (by rw [hexch]; exact hx)
  show execTrackReached n s = _
  unfold execTrackReached
  rw [hcur, if_neg (by simp [hs, hl, hr, hm, hb])]
  exact congrArg (fun u => Host.Outcome.next (raise u 46 [w32 (s.time.tick - s.pair.syncTick)])) hstay

/-! ### Firmware (R365) -/

theorem enterKiln_atKilnEntry (s : State) : atKilnEntry (enterKiln s) := startAgain_atKilnEntry s

/-- The module with a firmware stage stored. -/
def stageStored (s : State) (stage : Nat) (fw : FwStage) : State :=
  { s with kiln := { s.kiln with fw := tset s.kiln.fw stage fw } }

theorem execFirmwareLoad_served {s : State} {stage : Nat} (code : Bytes) (signed : Bool) (v : W32)
    (hp : s.md.powered = true) (hi : ifaceAnswers s 1 = true) (hl : (s.net.lan.getD 2 {}).up = true) (h1 : 1 ≤ stage)
    (h6 : stage ≤ 6) : exec (.firmwareLoad stage code signed v) s = .next (if resetOutcome s = .kiln then
      enterKiln (stageStored s stage ⟨code, signed, v⟩) else stageStored s stage ⟨code, signed, v⟩) :=
  congrArg Host.Outcome.next (if_neg (by simp [-List.getD_eq_getElem?_getD, hp, hi, hl]; omega))

/-! ### The obligation -/

/-- Settles O44: each clause is one command past its guards, with the state that it leaves. The standby's clock follows the
active's report (assumption 58), EV050 comes in LOAD alone (56), and firmware comes over the service link (60, 78). -/
theorem rehearsalsLanesAndForming : Obligations.RehearsalsLanesAndForming := by
  unfold Obligations.RehearsalsLanesAndForming
  refine ⟨fun s k hw hk hd hf hr => ?rehearsal, fun s hr hz hd ho => ?overdue, fun s lane n hs hl hu ho h2 => ?laneFalls,
    fun s lane n hs hl hu ho h2 => ?linkFalls, fun s lane n hs hl hu hr => ?laneRises,
    fun s lo hi mf miss n hs => ?versions, fun s bytes n hs hl hc hr hp => ?copySent,
    fun s bytes n f hs hl hc hr hm hf => ?copyTaken, fun s n hs hl hr hm hb hc hx => ?track,
    fun s stage code signed v hp hi hl h1 h6 => ?firmware⟩
  case rehearsal =>
    refine ⟨_, execLatentFaultWindowEnd_rehearsed hw hk hd hf hr, by simp [rehearsed], ?_, raise_rehearsed_ev ..⟩
    simp [rehearsed, ← hf]
  case overdue =>
    exact ⟨_, execRehearsalOverdue_own hr hz hd ho, by simp [overdueNoted], by simp [overdueNoted], raise_ev ..⟩
  case laneFalls =>
    obtain ⟨hdown, hother, -⟩ := lanesWithout_parts hl h2
    have hpair := laneFallen_pair (setPhase s n) lane
    have hx := execLaneDown_up n hs hl h2 hu
    rw [if_pos ho] at hx
    refine ⟨_, hx, laneFallen_md .., ?_, ?_, ?_, (laneFallen_noted s lane n).ev⟩
    · rw [hpair]; exact hdown
    · rw [hpair]; exact (congrArg LaneSt.state hother).trans ho
    · rw [hpair]; rfl
  case linkFalls =>
    obtain ⟨hdown, -, -, hlast⟩ := lanesWithout_parts hl h2
    have hpair := laneFallen_pair (setPhase s n) lane
    obtain ⟨hmd, hlost⟩ := linkFallen_parts (laneFallen (setPhase s n) lane)
    obtain ⟨hlanes, hbulk, hmode, hev⟩ := linkLeft_parts (linkFallen (laneFallen (setPhase s n) lane))
    have hnoted := linkFallen_noted (laneFallen_noted s lane n)
    have hx := execLaneDown_up n hs hl h2 hu
    rw [if_neg ho] at hx
    rw [hlost, hpair] at hlanes
    rw [hpair] at hnoted
    refine ⟨_, hx, (congrArg (fun l : List LaneSt => (l.getD lane {}).state) hlanes).trans hdown, hbulk (by rw [hlost]),
      hmode.trans ?_, ?_⟩
    · rw [shadows, hmd, laneFallen_md]
      rfl
    · rw [← hlast]
      exact hnoted.ev ▸ hev.intake
  case laneRises =>
    have hx := execLaneUp_ready n hs hl hu hr
    have hev := (laneRisen_noted s lane n).ev
    cases hlost : linkLost s with
    | false =>
      rw [hlost] at hx
      exact ⟨_, hx, by simp [laneRisen], by simp [laneRisen], hev, by simp [laneRisen]⟩
    | true =>
      rw [hlost] at hx
      obtain ⟨hmd, hpair, hsent, hout⟩ := versionsSent_parts (raise (laneRisen (setPhase s n) lane) 43 [w32 lane])
      refine ⟨_, hx, hmd.trans (by simp [laneRisen]), ?_, hsent.trans hev, hout.trans (by simp [laneRisen])⟩
      exact (congrArg PairSt.lanes hpair).trans (by simp [laneRisen])
  case versions =>
    rcases versions_common_or_none lo hi mf with ⟨m, hm, hv⟩ | hnone
    · refine ⟨_, execLinkUpNegotiation_common miss n hs hm hv, by simp [versionsTaken], fun m' hm' _ => ?_, fun h => ?_⟩
      · obtain rfl : m = m' := Option.some.inj (hm.symm.trans hm')
        exact ⟨by simp [versionsTaken], raise_ev ..⟩
      · rcases h with h | h
        · exact absurd (hm.symm.trans h) nofun
        · exact absurd h (Nat.not_lt.mpr hv)
    · refine ⟨_, execLinkUpNegotiation_none miss n hs hnone, ?_, fun m hm hv => ?_, fun _ => ?_⟩
      · split <;> simp [versionsMissed]
      · rcases hnone with h | h
        · exact absurd (hm.symm.trans h) nofun
        · exact absurd h (Nat.not_lt.mpr hv)
      · split
        · exact ⟨by simp [versionsMissed], raise_ev ..⟩
        · exact ⟨rfl, rfl⟩
  case copySent =>
    refine ⟨_, execBulkCopyStart_active bytes n hs hl hc hr hp, by simp [copying], by simp [copying], ?_⟩
    exact (sendBulk_ev _).trans (raise_ev ..)
  case copyTaken =>
    have hx := execBulkCopyStart_standby bytes n hs hl hc hr hm
    rw [followClock_reported (f := f) (by exact hf)] at hx
    obtain ⟨hmode, hrole, hstatus⟩ := setClock_report (setPhase s n)
      ((f.tick + (s.time.tick - s.pair.statusTick)) * tickNs) n
    refine ⟨_, hx, hmode.trans hm, hrole.trans hr, rfl, ?_, setClock_ticks ..⟩
    exact congrArg (fun o : Option StatusFrame => (o.map (·.mode)).getD s.mortar.activeMode) (hstatus.trans hf)
  case track =>
    obtain ⟨hmode, hprev, hrole, hbulk, -⟩ := trackEntered_parts (s := setPhase s n) hm
    refine ⟨_, execTrackReached_current n hs hl hr hm hb hc hx, by simpa using hmode, by simpa using hprev,
      by simpa using hrole.trans hr, by simpa using hbulk, trackEntered_told (setPhase s n) 46 _⟩
  case firmware =>
    refine ⟨_, execFirmwareLoad_served code signed v hp hi hl h1 h6, ?_, fun h => ?_, fun h => ?_⟩
    · split <;> rfl
    · rw [if_pos h]
      exact enterKiln_atKilnEntry _
    · rw [if_neg h]
      rfl

end Sys2Proof.Machine
end

section
/-! SUPPORT. The axis switches are closed only in the modes that evaluate, SYNC excepted (R380, Table 02.1): entry to any other
mode opens them, the safety decision alone closes one, and the start, KILN and HALT leave all of them open. One lemma for each
operation that reaches the mode or the axes. -/

namespace Sys2Proof.Machine

/-! ### The switches of a state -/

/-- Every switch of every axis is open. -/
def SwitchesOpen (s : State) : Prop := ∀ e ∈ s.safe.axis, e.2.swA = false ∧ e.2.swB = false

/-- The permits follow the safety decision in this mode (Table 02.1). -/
def permitsFollow (m : Mode) : Bool := evaluates m && m != .sync

/-- Where the permits do not follow the safety decision, every switch is open (`switchesInMode`). -/
structure SwitchesFit (s : State) : Prop where
  inMode : switchesInMode s

theorem SwitchesFit.of_open {s : State} (h : SwitchesOpen s) : SwitchesFit s := ⟨fun _ => h⟩

theorem SwitchesFit.of_follow {s : State} (h : permitsFollow s.md.mode = true) : SwitchesFit s :=
  ⟨fun ht => absurd (ht.symm.trans h) nofun⟩

/-- The mode is as before, and each axis's switches are open where every switch was. -/
theorem SwitchesFit.of_axis {s t : State} (h : SwitchesFit s) (hm : t.md.mode = s.md.mode)
    (ha : SwitchesOpen s → SwitchesOpen t) : SwitchesFit t := by
  refine ⟨fun ht => ha (h.inMode ?_)⟩
  rw [← hm]
  exact ht

/-- An operation that leaves the mode and the axes alone. -/
theorem SwitchesFit.keep {s t : State} (h : SwitchesFit s)
    (k : t.md.mode = s.md.mode ∧ t.safe.axis = s.safe.axis) : SwitchesFit t :=
  h.of_axis k.1 fun ho => by
    rw [SwitchesOpen, k.2]
    exact ho

theorem ite_switches {c : Prop} [Decidable c] {s t : State} (hs : SwitchesFit s) (ht : SwitchesFit t) :
    SwitchesFit (if c then s else t) := by
  split <;> assumption

theorem foldl_switches {α : Type} {l : List α} {g : State → α → State} {s : State} (h : SwitchesFit s)
    (hg : ∀ u b, SwitchesFit u → SwitchesFit (g u b)) : SwitchesFit (l.foldl g s) := foldl_inv l g s h hg

theorem setPhase_switches {s : State} (h : SwitchesFit s) (n : Nat) : SwitchesFit (setPhase s n) := h.keep ⟨rfl, rfl⟩

theorem tget_mem_or_default {α : Type} (d : α) (t : Tab α) (k : Nat) : (k, tget d t k) ∈ t ∨ tget d t k = d := by
  induction t with
  | nil => exact .inr rfl
  | cons e t ih => grind [tget]

/-- An axis reads with open switches where every switch is open: one that is not listed has its reset value. -/
theorem SwitchesOpen.read {s : State} (h : SwitchesOpen s) (j : Nat) : (axSt s j).swA = false ∧ (axSt s j).swB = false := by
  rcases tget_mem_or_default ({} : AxisSt) s.safe.axis j with hm | hd
  · exact h _ hm
  · rw [axSt, hd]
    exact ⟨rfl, rfl⟩

theorem SwitchesOpen.set {s : State} (h : SwitchesOpen s) {j : Nat} {x : AxisSt} (hx : x.swA = false ∧ x.swB = false) :
    SwitchesOpen (setAx s j x) := fun e he => by
  rcases mem_tset he with he | rfl
  · exact h e he
  · exact hx

/-- An axis is set and its switches stay. -/
theorem setAx_switches {s : State} (h : SwitchesFit s) {j : Nat} {x : AxisSt}
    (hx : x.swA = (axSt s j).swA ∧ x.swB = (axSt s j).swB) : SwitchesFit (setAx s j x) :=
  h.of_axis rfl fun ho => ho.set ⟨hx.1.trans (ho.read j).1, hx.2.trans (ho.read j).2⟩

/-! ### What leaves the axes alone -/

@[simp] theorem ite_axis (c : Prop) [Decidable c] (x y : SafetySt) :
    (if c then x else y).axis = if c then x.axis else y.axis := apply_ite _ _ _ _

@[simp] theorem startCountdown_axis (s : State) : (startCountdown s).safe.axis = s.safe.axis := by
  unfold startCountdown
  split <;> rfl

@[simp] theorem seeReset_axis (s : State) (source tick : Nat) : (seeReset s source tick).safe.axis = s.safe.axis := rfl

@[simp] theorem safeCount_axis (s : State) (i : Nat) : (safeCount s i).safe.axis = s.safe.axis := rfl

theorem foldl_axis {α : Type} {l : List α} {g : State → α → State} (s : State)
    (h : ∀ u b, (g u b).safe.axis = u.safe.axis) : (l.foldl g s).safe.axis = s.safe.axis :=
  foldl_inv (P := fun u => u.safe.axis = s.safe.axis) l g s rfl fun u b hu => (h u b).trans hu

@[simp] theorem latchSi_axis (s : State) (l : Latch) (i : Nat) : (latchSi s l i).safe.axis = s.safe.axis := by
  unfold latchSi
  dsimp only
  (repeat' split) <;> rfl

@[simp] theorem latchSafety_axis (s : State) (l : Latch) : (latchSafety s l).safe.axis = s.safe.axis := by
  unfold latchSafety
  split
  · exact foldl_axis s fun u b => latchSi_axis u l b.1
  · rfl

@[simp] theorem connReset_axis (s : State) (k : Nat) : (connReset s k).safe.axis = s.safe.axis := by
  unfold connReset
  dsimp only
  (repeat' split) <;> rfl

@[simp] theorem takeContainer_axis (k : Nat) (d : ConnDef) (s : State) (b : Bytes) :
    (takeContainer k d s b).safe.axis = s.safe.axis := by
  unfold takeContainer
  dsimp only
  (repeat' split) <;> simp

@[simp] theorem evalConns_axis (s : State) : (evalConns s).safe.axis = s.safe.axis := by
  refine foldl_axis s fun u e => ?_
  split
  · rfl
  · exact (connReset_axis _ _).trans (foldl_axis _ fun v b => takeContainer_axis _ _ v b.1)

@[simp] theorem resetSi_axis (s : State) (i : Nat) : (resetSi s i).safe.axis = s.safe.axis := by
  unfold resetSi
  dsimp only
  split <;> simp

@[simp] theorem latchAll_axis (s : State) (l : Latch) : (latchAll s l).safe.axis = s.safe.axis := by
  unfold latchAll latchToken
  dsimp only
  split <;> simp [sampleButton]

@[simp] theorem latchToken_axis (s : State) (l : Latch) : (latchToken s l).safe.axis = s.safe.axis := by
  unfold latchToken
  split <;> rfl

@[simp] theorem standbyReceive_axis (s : State) (m : Mortar) : (standbyReceive s m).safe.axis = s.safe.axis := by
  unfold standbyReceive
  split <;> simp

/-! ### Changes of mode -/

/-- Entry to a mode in which the permits do not follow the safety decision opens every switch; the resolution of Table 02.3
and the settling behind it do not reach the axes. -/
theorem enterEffects_axis (s : State) (old m : Mode) : (enterEffects s old m).safe.axis =
    if permitsFollow m then s.safe.axis
    else s.safe.axis.map fun e => (e.1, { e.2 with swA := false, swB := false }) := by
  cases m <;> simp [enterEffects, permitsFollow, evaluates]

theorem enterEffects_open {s : State} {old m : Mode} (hm : permitsFollow m = false) : SwitchesOpen (enterEffects s old m) := by
  intro e he
  rw [enterEffects_axis, hm] at he
  obtain ⟨x, -, rfl⟩ := List.mem_map.mp he
  exact ⟨rfl, rfl⟩

/-- A change of mode: the new mode lets the permits follow, or its entry has opened every switch. -/
theorem changeMode_switches {s : State} (h : SwitchesFit s) (m : Mode) (cause : Nat) :
    SwitchesFit (changeMode s m cause) := by
  by_cases hm : s.md.mode = m
  · rwa [changeMode, if_pos hm]
  · cases hf : permitsFollow m with
    | true => exact .of_follow (by rw [changeMode_mode, hf])
    | false =>
      refine .of_open ?_
      simp only [changeMode, if_neg hm, SwitchesOpen, settle_keeps]
      exact enterEffects_open hf

theorem voidSwap_switches {s : State} (h : SwitchesFit s) : SwitchesFit (voidSwap s) := h.keep (by simp [voidSwap_md])

theorem enterHalt_switches (s : State) (cause : Nat) : SwitchesFit (enterHalt s cause) :=
  .of_open (enterHalt_dropped s cause).switches

theorem abdicate_switches {s : State} (h : SwitchesFit s) (cause : Nat) : SwitchesFit (abdicate s cause) := by
  unfold abdicate
  extract_lets ctl s1 s2 s3
  have h3 : SwitchesFit s3 := (enterHalt_switches s causeSelf).keep (by simp [s3, s2, s1])
  exact ite_switches h (ite_switches (h3.keep ⟨rfl, rfl⟩) (h3.keep ⟨rfl, rfl⟩))

theorem leaveChange_switches {s : State} (h : SwitchesFit s) : SwitchesFit (leaveChange s) := h.keep ⟨rfl, rfl⟩

theorem toSync_switches {s : State} (h : SwitchesFit s) (cause : Nat) : SwitchesFit (toSync s cause) := by
  unfold toSync
  refine changeMode_switches ?_ .sync cause
  exact h.keep ⟨rfl, rfl⟩

theorem oasisReaction_switches {s : State} (h : SwitchesFit s) : SwitchesFit (oasisReaction s) := by
  unfold oasisReaction
  split
  · split
    case h_5 => exact changeMode_switches (h.keep (by simp)) _ _
    case h_6 => exact h
    all_goals exact changeMode_switches h _ _
  · exact ite_switches (h.keep ⟨rfl, rfl⟩) h

theorem degradedMode_switches {s : State} (h : SwitchesFit s) : SwitchesFit (degradedMode s) := by
  unfold degradedMode
  refine ite_switches ?_ h
  split
  · exact changeMode_switches h _ _
  · exact changeMode_switches h _ _
  · exact changeMode_switches (h.keep (by simp)) _ _
  · exact h

theorem degradedReaction_switches {s : State} (h : SwitchesFit s) : SwitchesFit (degradedReaction s) :=
  degradedMode_switches (h.keep (by simp))

/-! ### Requests (R516, R517) -/

theorem hostWrite_switches {s : State} (h : SwitchesFit s) (r : Req) (obj : W32) {k : State → State}
    (hk : ∀ u, SwitchesFit u → SwitchesFit (k u)) : SwitchesFit (hostWrite s r obj k) := by
  unfold hostWrite withSession
  extract_lets x s1
  have h1 : SwitchesFit (setSess s1 r.session { x with lastTick := s1.time.tick }) := h.keep ⟨rfl, rfl⟩
  refine ite_switches (ite_switches (h1.keep (by simp)) (ite_switches (h1.keep (by simp)) ?_)) h
  exact (hk _ h1).keep (by simp)

theorem hostCommand_switches {s : State} (h : SwitchesFit s) (r : Req) (obj : W32) {k : State → State}
    (hk : ∀ u, SwitchesFit u → SwitchesFit (k u)) : SwitchesFit (hostCommand s r obj k) :=
  hostWrite_switches h r obj fun u hu => ite_switches (hu.keep (by simp)) (hk u hu)

/-- A mode command acts in the modes alone that its gate lets pass. -/
theorem modeCommand_switches {s : State} (h : SwitchesFit s) (r : Req) (g : ModeGate) {k : State → State}
    (hk : ∀ u, SwitchesFit u → g.mode u = false → SwitchesFit (k u)) : SwitchesFit (modeCommand r g k s) := by
  refine hostWrite_switches h r modeObj fun u hu => ?_
  have hr : ∀ code, SwitchesFit (refuse u r modeObj code) := fun code => hu.keep (by simp)
  refine ite_switches (hr _) (ite_switches (hr _) (ite_switches (hr _) ?_))
  split
  · exact hr _
  next hm => exact hk u hu (by simpa using hm)

theorem acceptTransition_switches {s : State} (h : SwitchesFit s) (r : Req) (code : Nat) (dest : Mode) :
    SwitchesFit (acceptTransition r code dest s) :=
  h.keep (by simp [acceptTransition])

theorem acceptAck_switches {s : State} (h : SwitchesFit s) : SwitchesFit (acceptAck s) := h.keep ⟨rfl, rfl⟩

theorem acceptSwap_switches {s : State} (h : SwitchesFit s) (reset : Bool) (cmd : Option Origin) :
    SwitchesFit (acceptSwap s reset cmd) := h.keep ⟨rfl, rfl⟩

theorem resetToKiln_switches {s : State} (h : SwitchesFit s) : SwitchesFit (resetToKiln s) := h.keep ⟨rfl, rfl⟩

/-! ### KILN, power and the start (R65, R89, R94) -/

/-- Entry to KILN forgets every axis. -/
theorem cleared_open (s : State) : SwitchesOpen (cleared s) := fun _ he => nomatch he

theorem enterKiln_switches (s : State) : SwitchesFit (enterKiln s) := .of_open (cleared_open s)

theorem powerOff_switches (s : State) : SwitchesFit (powerOff s) := .of_open (cleared_open s)

theorem startAgain_switches (s : State) : SwitchesFit (startAgain s) := .of_open (cleared_open s)

theorem measureStages_switches {s : State} (h : SwitchesFit s) (l : List Nat) : SwitchesFit (measureStages l s) := by
  induction l generalizing s with
  | nil => exact h
  | cons i l ih =>
    have h1 : SwitchesFit (measureStage s i (tget ({} : FwStage) s.kiln.fw i).code) := h.keep (by simp)
    exact ite_switches (ih h1) (enterHalt_switches _ causeStart)

theorem enterLoad_switches {s : State} (h : SwitchesFit s) : SwitchesFit (enterLoad s) := by
  unfold enterLoad
  extract_lets again m t e s1 s2 b s3 s4 c s5 r
  have h1 : SwitchesFit s1 := h.keep ⟨rfl, rfl⟩
  have h2 : SwitchesFit s2 := changeMode_switches h1 .load causeStart
  exact h2.keep (by simp [s5, s4, s3])

theorem kilnLoader_switches {s : State} (h : SwitchesFit s) : SwitchesFit (kilnLoader s) := by
  unfold kilnLoader
  extract_lets s1 x s2
  have h1 : SwitchesFit s1 := measureStages_switches h _
  have h2 : SwitchesFit s2 := h1.keep ⟨rfl, rfl⟩
  exact ite_switches h1 (ite_switches (changeMode_switches h2 _ _) (enterLoad_switches h2))

/-! ### The exchange and the courses (R141, R150, R173 to R178) -/

theorem changeFault_switches {s : State} (h : SwitchesFit s) (reason : Nat) : SwitchesFit (changeFault s reason) := by
  unfold changeFault
  exact ite_switches h (ite_switches (leaveChange_switches (h.keep (by simp))) (ite_switches h (h.keep ⟨rfl, rfl⟩)))

theorem rollbackDue_switches {s : State} (h : SwitchesFit s) : SwitchesFit (rollbackDue s) := by
  unfold rollbackDue
  split
  · exact ite_switches (leaveChange_switches (h.keep (by simp))) h
  · exact h

theorem noQuietTick_switches {s : State} (h : SwitchesFit s) : SwitchesFit (noQuietTick s) :=
  ite_switches (changeFault_switches h 9) h

theorem windowStep_switches {s : State} (h : SwitchesFit s) : SwitchesFit (windowStep s) := by
  unfold windowStep
  extract_lets s1 s2
  have h1 : SwitchesFit s1 := rollbackDue_switches h
  have h2 : SwitchesFit s2 := h1.keep (by simp [s2])
  have h3 : SwitchesFit (leaveChange (exchComplete s2)) := leaveChange_switches (h2.keep (by simp))
  exact ite_switches (ite_switches (noQuietTick_switches h1) (ite_switches h3 (h2.keep ⟨rfl, rfl⟩))) h1

theorem windowScanEnd_switches {s : State} (h : SwitchesFit s) : SwitchesFit (windowScanEnd s) := by
  unfold windowScanEnd
  extract_lets e s1
  refine ite_switches h ?_
  split
  · exact h.keep ⟨rfl, rfl⟩
  · exact h.keep ⟨rfl, rfl⟩
  · exact leaveChange_switches (h.keep (by simp [s1]))
  · exact h.keep ⟨rfl, rfl⟩

theorem openWindow_switches {s : State} (h : SwitchesFit s) (before : Mode) : SwitchesFit (openWindow s before) :=
  h.keep (by simp [openWindow])

theorem courseOasis_switches {s : State} (h : SwitchesFit s) : SwitchesFit (courseOasis s) :=
  oasisReaction_switches (h.keep (by simp))

theorem watchScan_switches {s : State} (h : SwitchesFit s) (n : Nat) : SwitchesFit (watchScan s n) := by
  unfold watchScan
  extract_lets x at1 s1 s2
  have h1 : SwitchesFit s1 := h.keep (by simp [s1])
  have h2 : SwitchesFit s2 := ite_switches (changeFault_switches (h1.keep (by simp)) 10) h1
  exact ite_switches (courseOasis_switches (h2.keep (by simp))) h2

theorem baseWatch_switches {s : State} (h : SwitchesFit s) : SwitchesFit (baseWatch s) := ite_switches h (watchScan_switches h _)

theorem overrun_switches {s : State} (h : SwitchesFit s) (c : Nat) : SwitchesFit (overrun s c) := by
  unfold overrun
  extract_lets x n s1 s2 s3
  have h3 : SwitchesFit s3 := changeFault_switches (h.keep (by simp [s2, s1])) 11
  exact ite_switches h (ite_switches (courseOasis_switches (h3.keep (by simp))) h3)

theorem dispatch_switches {s : State} (h : SwitchesFit s) : SwitchesFit (dispatch s) := by
  unfold dispatch
  have hf : ∀ (u : State) (c : Nat), SwitchesFit u → SwitchesFit (if !coursesRun u || !courseDue u c then u
      else if (course u c).state ≠ 0 then overrun u c else startCourse u c 0) := fun u c hu =>
    ite_switches hu (ite_switches (overrun_switches hu c) (hu.keep (by simp)))
  have hd := foldl_switches (l := List.range 8) h fun u i hu => hf u (i + 1) hu
  exact hd.keep (by simp)

theorem startBase_switches {s : State} (h : SwitchesFit s) : SwitchesFit (startBase s) := by
  unfold startBase
  extract_lets x waits frozen scanB n s1
  have h1 : SwitchesFit s1 := h.keep (by simp [s1])
  exact ite_switches h (ite_switches (watchScan_switches h1 n) h1)

/-! ### The safety function (chapter 11) -/

theorem compareFault_switches {s : State} (h : SwitchesFit s) (datum : Nat) : SwitchesFit (compareFault s datum) :=
  ite_switches h (oasisReaction_switches (h.keep (by simp)))

theorem loseChannel_switches {s : State} (h : SwitchesFit s) (b : Bool) (cause : Nat) :
    SwitchesFit (loseChannel s b cause) := by
  unfold loseChannel
  extract_lets c s1 s2 s3
  have h3 : SwitchesFit s3 := h.keep (by simp [s3, s2, s1, c])
  exact ite_switches (ite_switches (compareFault_switches h3 255) h3) h

theorem safeLosses_switches {s : State} (h : SwitchesFit s) (lossA lossB : Nat) (dataA dataB : Bool) :
    SwitchesFit (safeLosses s lossA lossB dataA dataB) := by
  unfold safeLosses
  extract_lets c s1 s2
  have h1 : SwitchesFit s1 := h.keep ⟨rfl, rfl⟩
  have h2 : SwitchesFit s2 := ite_switches (loseChannel_switches h1 _ _) (ite_switches (loseChannel_switches h1 _ _) h1)
  exact ite_switches (loseChannel_switches h2 _ _) (ite_switches (loseChannel_switches h2 _ _) h2)

theorem evalSi_switches {s : State} (h : SwitchesFit s) (i : Nat) (d : SiDef) : SwitchesFit (evalSi s i d) := by
  unfold evalSi
  extract_lets x dA dB hitA hitB hit fault raw waiting run s1 s2
  have h2 : SwitchesFit s2 := h.keep (by simp [s2, s1])
  exact ite_switches (compareFault_switches h2 i) h2

theorem evalSpeed_switches {s : State} (h : SwitchesFit s) (j : Nat) (d : AxisDef) : SwitchesFit (evalSpeed s j d) := by
  unfold evalSpeed
  refine ite_switches ?_ h
  split
  · exact setAx_switches h ⟨rfl, rfl⟩
  · extract_lets x valid v vB run runA runB hit lead s1 s2 s3
    have h1 : SwitchesFit s1 := setAx_switches h ⟨rfl, rfl⟩
    have h3 : SwitchesFit s3 := h1.keep (by simp [s3, s2])
    exact ite_switches (compareFault_switches h3 _) h3

/-- The own decision for an axis sets the axis, and then counts and reports. -/
theorem axisOwn_switches {s : State} (h : SwitchesFit s) (j : Nat) (d : AxisDef) : SwitchesFit (axisOwn s j d) := by
  unfold axisOwn
  extract_lets x ra rb r began startB s1 s2
  have h1 : SwitchesFit s1 := setAx_switches h ⟨rfl, rfl⟩
  have h2 : SwitchesFit s2 := ite_switches (h1.keep ⟨rfl, rfl⟩) h1
  exact foldl_switches h2 fun u e hu => hu.keep (by simp)

theorem axisAdopt_switches {s : State} (h : SwitchesFit s) (j before own0 : Nat) :
    SwitchesFit (axisAdopt s j before own0) := by
  unfold axisAdopt
  extract_lets x
  split
  · exact setAx_switches h ⟨rfl, rfl⟩
  · extract_lets run y s1 s2 s3 s4
    have h1 : SwitchesFit s1 := setAx_switches h ⟨rfl, rfl⟩
    have h2 : SwitchesFit s2 := ite_switches (h1.keep (by simp)) h1
    have hy : axSt s2 j = y := by
      have hs : s2.safe = s1.safe := by simp [s2]
      rw [axSt, hs]
      exact axSt_setAx_self s j y
    have hx : ∀ z : AxisSt, z.swA = y.swA ∧ z.swB = y.swB → SwitchesFit (setAx s2 j z) := fun z hz =>
      setAx_switches h2 (by rwa [hy])
    have h3 : SwitchesFit s3 := hx _ ⟨rfl, rfl⟩
    have h4 : SwitchesFit s4 := hx _ ⟨rfl, rfl⟩
    exact ite_switches h2 (ite_switches (ite_switches h3 (h3.keep (by simp)))
      (ite_switches (hx _ ⟨rfl, rfl⟩) (ite_switches (h4.keep (by simp)) h4)))

/-- The one place that closes a switch asks for a mode in which the permits follow the decision. -/
theorem axisSwitches_switches {s : State} (h : SwitchesFit s) (j : Nat) : SwitchesFit (axisSwitches s j) := by
  cases hf : permitsFollow s.md.mode with
  | true => exact .of_follow hf
  | false =>
    have hoff : (s.md.mode != .sync && evaluates s.md.mode) = false := (Bool.and_comm ..).trans hf
    refine h.of_axis rfl fun ho => ho.set ?_
    simp [Bool.and_assoc, hoff]

theorem evalAxis_switches {s : State} (h : SwitchesFit s) (j : Nat) (d : AxisDef) : SwitchesFit (evalAxis s j d) :=
  axisSwitches_switches (axisAdopt_switches (axisOwn_switches h j d) j _ _) j

theorem loseInput_switches {s : State} (h : SwitchesFit s) (i channel : Nat) : SwitchesFit (loseInput s i channel) :=
  degradedReaction_switches (h.keep (by simp))

/-! ### Acknowledgement and the return (R84, R573) -/

theorem applyAck_switches {s : State} (h : SwitchesFit s) (reset : Bool) : SwitchesFit (applyAck s reset) := by
  unfold applyAck
  extract_lets s1 s2
  have h2 : SwitchesFit s2 := h.keep (by simp [s2, s1])
  exact ite_switches h (ite_switches (changeMode_switches h2 .stop causeButton) h2)

theorem enterSealed_switches (s : State) : SwitchesFit (enterSealed s) := by
  unfold enterSealed
  extract_lets s1 s2 s3 m
  have h2 : SwitchesFit s2 := .of_open (dropOutputs_dropped _).switches
  exact h2.keep (by simp [m, s3])

theorem confirmReturn_switches {s : State} (h : SwitchesFit s) : SwitchesFit (confirmReturn s) := by
  unfold confirmReturn
  split
  · exact h
  · refine ite_switches h ?_
    extract_lets e s1 s2 s3 s4 s5 c s6
    refine ite_switches (h.keep (by simp [s1])) (enterSealed_switches s6)

theorem pressAck_switches {s : State} (h : SwitchesFit s) : SwitchesFit (pressAck s) := by
  unfold pressAck
  extract_lets s1 reset s2 s3
  have h1 : SwitchesFit s1 := h.keep (by simp [s1])
  have h2 : SwitchesFit s2 := applyAck_switches h1 reset
  have h3 : SwitchesFit s3 := ite_switches h (ite_switches (ite_switches (h2.keep (by simp)) h2) (h1.keep (by simp)))
  exact confirmReturn_switches (h3.keep (by simp))

theorem pressReset_switches {s : State} (h : SwitchesFit s) : SwitchesFit (pressReset s) := by
  have hr : ∀ ev, SwitchesFit (raise s ev) := fun ev => h.keep (by simp)
  unfold pressReset
  split
  · exact hr 13
  · exact resetToKiln_switches (hr 12)
  · exact acceptSwap_switches (hr 12) true none

theorem press_switches {s : State} (h : SwitchesFit s) (d : Nat) : SwitchesFit (press s d) :=
  ite_switches h (ite_switches (pressAck_switches h) (ite_switches (pressReset_switches h) (h.keep (by simp))))

/-! ### Vessel time -/

theorem setClock_switches {s : State} (h : SwitchesFit s) (boundary phase : Nat) :
    SwitchesFit (setClock s boundary phase) :=
  h.of_axis rfl fun ho e he => by
    obtain ⟨x, hx, rfl⟩ := List.mem_map.mp he
    exact ho x hx

theorem stepTime_switches {s : State} (h : SwitchesFit s) : SwitchesFit (stepTime s) := by
  unfold stepTime
  split
  · exact h
  next off o _ =>
    extract_lets m s1 old s2 t s3
    have h1 : SwitchesFit s1 := h.keep ⟨rfl, rfl⟩
    have h2 : SwitchesFit s2 := setClock_switches h1 _ 0
    have h3 : SwitchesFit s3 := h2.keep (by simp [s3])
    exact ite_switches (h1.keep (by simp)) (h3.keep (by simp))

theorem ptpInLoad_switches {s : State} (h : SwitchesFit s) (port : Nat) (gm : W64) (cls steps : Nat) (offset : Int) :
    SwitchesFit (ptpInLoad s port gm cls steps offset) := by
  unfold ptpInLoad
  extract_lets n a s1 s2
  have h1 : SwitchesFit s1 := h.keep ⟨rfl, rfl⟩
  have h2 : SwitchesFit s2 := setClock_switches h1 _ _
  exact ite_switches h1 (h2.keep ⟨rfl, rfl⟩)

theorem followClock_switches {s : State} (h : SwitchesFit s) : SwitchesFit (followClock s) := by
  unfold followClock
  split
  · exact h
  · exact setClock_switches h _ _

theorem startClock_switches {s : State} (h : SwitchesFit s) : SwitchesFit (startClock s) := by
  unfold startClock
  extract_lets t s1
  have h1 : SwitchesFit s1 := setClock_switches h _ 0
  exact ite_switches h (h1.keep ⟨rfl, rfl⟩)

/-! ### The standby (R66, R69, R194, R339) -/

theorem followSwap_switches {s : State} (h : SwitchesFit s) : SwitchesFit (followSwap s) := by
  unfold followSwap
  extract_lets s1 e s2
  have h1 : SwitchesFit s1 := h.keep (by simp [s1])
  exact ite_switches h1 (startBase_switches (dispatch_switches (h1.keep (by simp [s2]))))

theorem takeTick_switches {s : State} (h : SwitchesFit s) (f : TickMortar) : SwitchesFit (takeTick s f) := by
  unfold takeTick
  extract_lets s1 m s2 s3
  have h2 : SwitchesFit s2 := h.keep (by simp [s2, s1])
  have h3 : SwitchesFit s3 := h2.keep (by simp [s3])
  have h4 := startBase_switches (dispatch_switches h3)
  exact ite_switches (h.keep (by simp)) (ite_switches (followSwap_switches h2) (ite_switches (ite_switches h4 h3) h2))

theorem followEnd_switches {s : State} (h : SwitchesFit s) (state : Nat) : SwitchesFit (followEnd s state) := by
  unfold followEnd
  generalize hu : (if state = 5 then _ else _ : State) = u
  have hk : SwitchesFit u := h.keep (by subst hu; (repeat' split) <;> simp)
  exact ite_switches (changeMode_switches hk .track causeExchange) hk

theorem followOpen_switches {s : State} (h : SwitchesFit s) (before : Mode) : SwitchesFit (followOpen s before) :=
  openWindow_switches (ite_switches (changeMode_switches h .change causeExchange) h) before

theorem enterEffects_switches {s : State} (h : SwitchesFit s) (old m : Mode) : SwitchesFit (enterEffects s old m) := by
  cases hf : permitsFollow m with
  | true => exact h.keep (by simp [enterEffects_md, enterEffects_axis, hf])
  | false => exact .of_open (enterEffects_open hf)

theorem followMode_switches {s : State} (h : SwitchesFit s) (m state phase : Nat) :
    SwitchesFit (followMode s m state phase) := by
  unfold followMode
  extract_lets old new p q s1 s2 s3 e s4
  have h1 : SwitchesFit s1 := h.keep ⟨rfl, rfl⟩
  have h2 : SwitchesFit s2 := ite_switches (followEnd_switches h1 state) (ite_switches (followOpen_switches h1 old) h1)
  have h3 : SwitchesFit s3 := ite_switches (changeMode_switches h2 .track causeExchange) h2
  have h4 : SwitchesFit s4 := ite_switches (h3.keep ⟨rfl, rfl⟩) h3
  exact ite_switches h4 (enterEffects_switches h4 old new)

theorem applyMortar_switches {s : State} (h : SwitchesFit s) (m : Mortar) : SwitchesFit (applyMortar s m) := by
  cases m
  case mode m state phase => exact followMode_switches h m state phase
  case swap t => exact h.keep ⟨rfl, rfl⟩
  all_goals exact h.keep (by simp [applyMortar])

theorem applyQueued_switches {acc : State × List Mortar} (h : SwitchesFit acc.1) (m : Mortar) :
    SwitchesFit (applyQueued acc m).1 := by
  have hm := applyMortar_switches h m
  unfold applyQueued
  split
  · dsimp only
    (repeat' split) <;> assumption
  · exact hm

theorem applyQueue_switches {s : State} (h : SwitchesFit s) : SwitchesFit (applyQueue s) := by
  unfold applyQueue
  refine SwitchesFit.keep (s := (s.mortar.queue.foldl _ (s, s.mortar.queue)).1) ?_ ⟨rfl, rfl⟩
  refine foldl_pair_inv (P := SwitchesFit) _ _ _ h fun y b hy => ?_
  exact foldl_pair_inv (P := SwitchesFit) _ _ _ hy fun z m hz => applyQueued_switches hz m

theorem mortarBoundary_switches {s : State} (h : SwitchesFit s) : SwitchesFit (mortarBoundary s) := by
  unfold mortarBoundary
  extract_lets m s1 due n s2
  have h1 : SwitchesFit s1 := ite_switches ((applyQueue_switches h).keep (by simp)) (h.keep ⟨rfl, rfl⟩)
  have h2 : SwitchesFit s2 := h1.keep ⟨rfl, rfl⟩
  exact ite_switches (toSync_switches h2 causeReaction) h2

theorem activeReceive_switches {s : State} (h : SwitchesFit s) (m : Mortar) : SwitchesFit (activeReceive s m) := by
  unfold activeReceive
  split
  · exact ite_switches (acceptAck_switches h) h
  all_goals exact h.keep (by (repeat' split) <;> simp)

theorem laneLost_switches {s : State} (h : SwitchesFit s) (lane : Nat) : SwitchesFit (laneLost s lane) := by
  unfold laneLost
  extract_lets l p s1 s2 last s3 q s4
  have h2 : SwitchesFit s2 := h.keep (by simp [s2, s1])
  have h4 : SwitchesFit s4 := h2.keep (by simp [s4, s3])
  exact ite_switches h2 (ite_switches (toSync_switches h4 causePair) h4)

theorem laneTick_switches {s : State} (h : SwitchesFit s) (lane : Nat) : SwitchesFit (laneTick s lane) := by
  unfold laneTick
  extract_lets l run p s1
  have h1 : SwitchesFit s1 := h.keep ⟨rfl, rfl⟩
  exact ite_switches (laneLost_switches h1 lane) h1

theorem lanesTick_switches {s : State} (h : SwitchesFit s) : SwitchesFit (lanesTick s) :=
  ite_switches (laneTick_switches (laneTick_switches h 0) 1) h

theorem roleBoundary_switches {s : State} (h : SwitchesFit s) : SwitchesFit (roleBoundary s) := by
  refine h.keep ⟨(roleBoundary_md s).1, ?_⟩
  simp

theorem refuseSwap_switches {s : State} (h : SwitchesFit s) : SwitchesFit (refuseSwap s) := by
  unfold refuseSwap
  extract_lets reset s1 o m
  have h1 : SwitchesFit s1 := voidSwap_switches h
  exact ite_switches h1 (h1.keep (by simp [m]))

theorem swapIn_switches {s : State} (h : SwitchesFit s) : SwitchesFit (swapIn s) := by
  unfold swapIn
  extract_lets m f p s1
  have h1 : SwitchesFit (failTickets (injectionSetOff s1)) := h.keep (by simp [s1, m])
  have h2 := changeMode_switches h1 (modeOfCode s1.mortar.activeMode) causePair
  exact h2.keep (by simp)

theorem swapAway_switches {s : State} (h : SwitchesFit s) : SwitchesFit (swapAway s) := by
  unfold swapAway
  extract_lets cmd reset mode s1 s2 s3 a b c d e s4 s5 s6
  have h3 : SwitchesFit s3 := h.keep (by simp [s3, s2, s1])
  have h4 : SwitchesFit s4 := h3.keep ⟨rfl, rfl⟩
  have h6 : SwitchesFit s6 := (toSync_switches h4 causePair).keep (by simp [s6, s5])
  exact ite_switches (h6.keep ⟨rfl, rfl⟩) h6

/-! ### The tick boundary (R64, R67, R88) -/

theorem cmdEnds_switches {s : State} (h : SwitchesFit s) (o : Option Origin) : SwitchesFit (cmdEnds s o) :=
  ite_switches (h.keep ⟨rfl, rfl⟩) h

theorem takeTrans_switches {s : State} (h : SwitchesFit s) (t : Trans) : SwitchesFit (takeTrans s t) := by
  unfold takeTrans
  extract_lets s1 e s2 before s3 s4
  have h1 : SwitchesFit s1 := cmdEnds_switches h t.origin
  have h4 : SwitchesFit s4 := changeMode_switches (h1.keep (by simp [s3])) t.dest t.cause
  exact ite_switches (applyAck_switches h1 false) (ite_switches (h1.keep (by simp [s2]))
    (ite_switches (openWindow_switches h4 before) (h4.keep (by simp))))

theorem takeTransitions_switches {s : State} (h : SwitchesFit s) : SwitchesFit (takeTransitions s) := by
  unfold takeTransitions
  extract_lets l m
  exact foldl_switches (h.keep ⟨rfl, rfl⟩) fun u t hu => takeTrans_switches hu t

theorem resetDrop_switches {s : State} (h : SwitchesFit s) : SwitchesFit (resetDrop s) := by
  unfold resetDrop
  exact h.keep (by simp)

theorem resetBoundary_switches {s : State} (h : SwitchesFit s) : SwitchesFit (resetBoundary s) := by
  unfold resetBoundary
  split
  · exact h
  · have hd := resetDrop_switches h
    exact ite_switches h (ite_switches (ite_switches (h.keep ⟨rfl, rfl⟩) hd) (ite_switches (enterKiln_switches _) hd))

theorem leaveLoad_switches {s : State} (h : SwitchesFit s) : SwitchesFit (leaveLoad s) := by
  have hc : SwitchesFit (raise (startClock s) 5) := (startClock_switches h).keep (by simp)
  unfold leaveLoad
  dsimp only
  refine ite_switches h (ite_switches (changeMode_switches (hc.keep ?_) _ _) ?_)
  · simp
  · split
    · exact h
    · refine ite_switches h (ite_switches (ite_switches h (h.keep (by simp))) (toSync_switches (hc.keep ?_) _))
      simp

/-! ### The boundary and the commands -/

theorem boundaryLatched_switches {s : State} (h : SwitchesFit s) (l : Latch) : SwitchesFit (boundaryLatched s l) := by
  have h1 : SwitchesFit (stepTime (prpTick (releaseEventRecs (advance s)))) := stepTime_switches (h.keep (by simp))
  have h2 : SwitchesFit (lampTick (slewTick (stepTime (prpTick (releaseEventRecs (advance s)))))) :=
    h1.keep (by simp [lampTick])
  exact h2.keep (by simp [boundaryLatched])

theorem boundaryMoves_switches {s : State} (h : SwitchesFit s) : SwitchesFit (boundaryMoves s) := by
  have h1 : SwitchesFit (roleBoundary (linkTick s)) := roleBoundary_switches (h.keep (by simp))
  exact takeTransitions_switches (lanesTick_switches (h1.keep (by simp)))

theorem boundaryEffects_switches {s : State} (h : SwitchesFit s) (l : Latch) : SwitchesFit (boundaryEffects s l) := by
  unfold boundaryEffects
  extract_lets s1 s2 s3 s4 s5
  have h3 : SwitchesFit s3 := (mortarBoundary_switches h).keep (by simp [s3, s2, s1])
  have h4 : SwitchesFit s4 := (leaveLoad_switches h3).keep (by simp [s4])
  exact h4.keep (by simp [s5])

theorem boundary_switches {s : State} (h : SwitchesFit s) (l : Latch) : SwitchesFit (boundary s l) := by
  rw [boundary_eq]
  have ht := resetBoundary_switches (boundaryMoves_switches (boundaryLatched_switches h l))
  exact ite_switches ht (boundaryEffects_switches ht l)

theorem coreTick_switches {s : State} (h : SwitchesFit s) (l : Latch) : SwitchesFit (coreTick s l) := by
  unfold coreTick
  extract_lets s1 s2 o m
  have h1 : SwitchesFit s1 := h.keep ⟨rfl, rfl⟩
  have h2 : SwitchesFit s2 := (roleBoundary_switches (h1.keep (by simp))).keep ⟨rfl, rfl⟩
  exact ite_switches h1 (ite_switches h2 (ite_switches (enterKiln_switches _) (resetDrop_switches h2)))

theorem cascade_switches {s : State} (h : SwitchesFit s) : SwitchesFit (cascade s) := by
  unfold cascade
  extract_lets t l m s1
  have h1 : SwitchesFit s1 := h.keep ⟨rfl, rfl⟩
  exact ite_switches (abdicate_switches h1 5) h1

/-- A next state that a command answers with has switches that fit its mode. -/
def NextSwitches (o : Host.Outcome State Fault Refusal) : Prop := ∀ t, o = .next t → SwitchesFit t

theorem nextSwitches {s : State} (h : SwitchesFit s) : NextSwitches (.next s) := by
  intro t ht
  cases ht
  exact h

theorem execPowerOn_switches {s : State} (h : SwitchesFit s) (slot : Nat) (a b : Bool) :
    NextSwitches (execPowerOn slot a b s) := by
  unfold execPowerOn
  refine nextSwitches (ite_switches h ?_)
  extract_lets c m c1
  have hc : SwitchesFit c1 := .of_open (cleared_open (powerOff s))
  split
  · exact hc
  · exact hc.keep (by simp)

theorem execStartSupplyLoss_switches {s : State} (h : SwitchesFit s) : NextSwitches (execStartSupplyLoss s) :=
  nextSwitches (ite_switches (startAgain_switches s) h)

theorem execSramClearComplete_switches {s : State} (h : SwitchesFit s) : NextSwitches (execSramClearComplete s) := by
  unfold execSramClearComplete
  extract_lets k e s1 s2 s3
  have h3 : SwitchesFit s3 := measureStages_switches (h.keep (by simp [s2, s1])) _
  exact nextSwitches (ite_switches h (ite_switches (kilnLoader_switches h3) h3))

theorem execDramClearComplete_switches {s : State} (h : SwitchesFit s) : NextSwitches (execDramClearComplete s) := by
  unfold execDramClearComplete
  extract_lets k s1
  have h1 : SwitchesFit s1 := h.keep ⟨rfl, rfl⟩
  exact nextSwitches (ite_switches h (ite_switches (kilnLoader_switches h1) h1))

theorem execClearTimeout_switches {s : State} (h : SwitchesFit s) : NextSwitches (execClearTimeout s) :=
  nextSwitches (ite_switches (enterHalt_switches s _) h)

theorem execKilnRemeasureComplete_switches {s : State} (h : SwitchesFit s) (stage : Nat) (code : Bytes) (n : Nat) :
    NextSwitches (execKilnRemeasureComplete stage code n s) :=
  nextSwitches (ite_switches (abdicate_switches (h.keep (by simp)) 6) h)

theorem execTickBoundary_switches {s : State} (h : SwitchesFit s) (l : Latch) : NextSwitches (execTickBoundary l s) :=
  nextSwitches (ite_switches h (ite_switches (coreTick_switches h l) (boundary_switches h l)))

theorem execInputImageComplete_switches {s : State} (h : SwitchesFit s) : NextSwitches (execInputImageComplete s) := by
  unfold execInputImageComplete
  extract_lets s1 s2 s3 s4
  have h3 : SwitchesFit s3 := baseWatch_switches (h.keep (by simp [s2, s1]))
  have h4 : SwitchesFit s4 := startBase_switches (dispatch_switches (windowStep_switches h3))
  exact nextSwitches (ite_switches h ((cascade_switches h4).keep (by simp)))

theorem execOverrunLimitReached_switches {s : State} (h : SwitchesFit s) (c : Nat) :
    NextSwitches (execOverrunLimitReached c s) :=
  nextSwitches (ite_switches (overrun_switches (h.keep (by simp)) c) h)

theorem execMaxScanReached_switches {s : State} (h : SwitchesFit s) : NextSwitches (execMaxScanReached s) :=
  nextSwitches (ite_switches (baseWatch_switches (h.keep (by simp))) h)

theorem execScanWatchExpiry_switches {s : State} (h : SwitchesFit s) : NextSwitches (execScanWatchExpiry s) :=
  nextSwitches (ite_switches (baseWatch_switches (h.keep (by simp))) h)

theorem execCourseActivationEnd_switches {s : State} (h : SwitchesFit s) (c : Nat) (rel : Release) (n : Nat) :
    NextSwitches (execCourseActivationEnd c rel n s) := by
  unfold execCourseActivationEnd
  extract_lets c' s1 s2 s3 s4 s5 s6 s7 s8 s9 m s10 s11
  have h9 : SwitchesFit s9 := h.keep (by simp only [s9, s8, s7, s6, s5, s4, s3, s2, s1]; split <;> simp)
  have h10 : SwitchesFit s10 := ite_switches (h9.keep ⟨rfl, rfl⟩) (h9.keep (by simp))
  have h11 : SwitchesFit s11 := h10.keep (by simp [s11])
  have h12 : SwitchesFit (if c' = 0 then windowScanEnd s11 else s11) := ite_switches (windowScanEnd_switches h11) h11
  exact nextSwitches (ite_switches h (h12.keep (by simp)))

theorem execExecutionTrap_switches {s : State} (h : SwitchesFit s) (c brick offset n : Nat) :
    NextSwitches (execExecutionTrap c brick offset n s) := by
  unfold execExecutionTrap
  extract_lets c' s1 x s2 s3
  have h3 : SwitchesFit s3 := h.keep (by simp [s3, s2, s1])
  exact nextSwitches (ite_switches h (ite_switches
    (ite_switches (changeFault_switches h3 12) (courseOasis_switches (h3.keep (by simp)))) (courseOasis_switches h3)))

theorem execBreakpointReached_switches {s : State} (h : SwitchesFit s) (brick n : Nat) :
    NextSwitches (execBreakpointReached brick n s) := by
  unfold execBreakpointReached
  refine nextSwitches ?_
  extract_lets x
  split
  · exact h
  · rename_i o s1 c _ b p _
    extract_lets s2 y s3
    have h1 : SwitchesFit s1 := h.keep (by simp [s1])
    exact ite_switches h (ite_switches (changeMode_switches (h1.keep (by simp [s3, s2])) _ _) (h1.keep (by simp)))

/-! Mode commands (R77, R78). -/

theorem execModeStart_switches {s : State} (h : SwitchesFit s) (r : Req) : NextSwitches (execModeStart r s) :=
  nextSwitches (modeCommand_switches h r _ fun _ hu _ => acceptTransition_switches hu r _ _)

theorem execModeStop_switches {s : State} (h : SwitchesFit s) (r : Req) : NextSwitches (execModeStop r s) :=
  nextSwitches (modeCommand_switches h r _ fun _ hu _ => acceptTransition_switches hu r _ _)

theorem execModeContinue_switches {s : State} (h : SwitchesFit s) (r : Req) : NextSwitches (execModeContinue r s) :=
  nextSwitches (modeCommand_switches h r _ fun _ hu _ => acceptTransition_switches hu r _ _)

theorem execModeAcknowledge_switches {s : State} (h : SwitchesFit s) (r : Req) : NextSwitches (execModeAcknowledge r s) := by
  refine nextSwitches (modeCommand_switches h r _ fun u hu _ => ?_)
  have ha : SwitchesFit (if inControl u then acceptAck u else forwardAck u) :=
    ite_switches (acceptAck_switches hu) (hu.keep (by simp))
  exact ha.keep (by simp)

theorem execModeReset_switches {s : State} (h : SwitchesFit s) (r : Req) : NextSwitches (execModeReset r s) := by
  refine nextSwitches (modeCommand_switches h r _ fun u hu _ => ?_)
  extract_lets o out s1 m s2
  have h1 : SwitchesFit s1 := hu.keep (by simp [s1])
  have h2 : SwitchesFit s2 := h1.keep ⟨rfl, rfl⟩
  exact ite_switches (acceptSwap_switches h2 true none) (resetToKiln_switches h2)

theorem execModeRoleSwap_switches {s : State} (h : SwitchesFit s) (r : Req) : NextSwitches (execModeRoleSwap r s) :=
  nextSwitches (modeCommand_switches h r _ fun _ hu _ => acceptSwap_switches (hu.keep (by simp)) _ _)

theorem execInjectionOn_switches {s : State} (h : SwitchesFit s) (r : Req) : NextSwitches (execInjectionOn r s) :=
  nextSwitches (modeCommand_switches h r _ fun _ hu _ => hu.keep (by simp))

theorem execInjectionOff_switches {s : State} (h : SwitchesFit s) (r : Req) : NextSwitches (execInjectionOff r s) :=
  nextSwitches (modeCommand_switches h r _ fun _ hu _ => hu.keep (by simp))

theorem execButtonReleaseRecognised_switches {s : State} (h : SwitchesFit s) :
    NextSwitches (execButtonReleaseRecognised s) := by
  unfold execButtonReleaseRecognised
  extract_lets s1 opened b s2
  have h2 : SwitchesFit s2 := h.keep ⟨rfl, rfl⟩
  have h3 := ite_switches (c := s2.btn.stuck = true) h2 (press_switches h2 (opened - s2.btn.closedAt))
  exact nextSwitches (ite_switches h (h3.keep (by simp)))

/-! The exchange. -/

theorem execExchangeActivate_switches {s : State} (h : SwitchesFit s) (r : Req) :
    NextSwitches (execExchangeActivate r s) := by
  refine nextSwitches (hostCommand_switches h r exchObj fun u hu => ?_)
  split
  · exact hu.keep (by simp)
  · exact hu.keep (by simp)
  · exact ite_switches (hu.keep (by simp)) (hu.keep (by simp))

theorem execExchangeNoQuietTick_switches {s : State} (h : SwitchesFit s) : NextSwitches (execExchangeNoQuietTick s) :=
  nextSwitches (noQuietTick_switches (h.keep ⟨rfl, rfl⟩))

theorem execExchangeRollback_switches {s : State} (h : SwitchesFit s) : NextSwitches (execExchangeRollback s) :=
  nextSwitches (rollbackDue_switches (h.keep ⟨rfl, rfl⟩))

/-! The pair. -/

theorem execStatusFrameReceive_switches {s : State} (h : SwitchesFit s) (lane : Nat) (f : StatusFrame) (n : Nat) :
    NextSwitches (execStatusFrameReceive lane f n s) := by
  unfold execStatusFrameReceive
  extract_lets s1 l shadow p s2 s3
  have h3 : SwitchesFit s3 := h.keep (by simp [s3, s2, s1])
  have h4 := abdicate_switches (h3.keep (by simp) : SwitchesFit (raise s3 52)) 7
  exact nextSwitches (ite_switches h (ite_switches (ite_switches (h3.keep (by simp)) h3) (ite_switches h4 h3)))

theorem execAbdicateFrameReceive_switches {s : State} (h : SwitchesFit s) (cause n : Nat) :
    NextSwitches (execAbdicateFrameReceive cause n s) :=
  nextSwitches (ite_switches h (h.keep ⟨rfl, rfl⟩))

theorem execAbdicationDetected_switches {s : State} (h : SwitchesFit s) (one : Bool) (n : Nat) :
    NextSwitches (execAbdicationDetected one n s) := by
  unfold execAbdicationDetected
  extract_lets s1 cause p m s2 q m2
  have h2 : SwitchesFit s2 := h.keep (by simp [s2, p, s1])
  exact nextSwitches (ite_switches h (ite_switches (h2.keep ⟨rfl, rfl⟩) (h2.keep ⟨rfl, rfl⟩)))

theorem execTakeover_switches {s : State} (h : SwitchesFit s) : NextSwitches (execTakeover s) := by
  unfold execTakeover
  extract_lets s1 wiring held s2 m p s3 s4 s5 s6 s7 s8 s9 s10
  have h5 : SwitchesFit s5 := h.keep (by simp [s5, s4, s3, s2, m, s1])
  have h9 : SwitchesFit s9 := h5.keep (by simp [s9, s8, s7, s6])
  exact nextSwitches (ite_switches h ((changeMode_switches h9 (takeoverMode s9) causePair).keep (by simp [s10])))

theorem execRoleSwapTick_switches {s : State} (h : SwitchesFit s) : NextSwitches (execRoleSwapTick s) := by
  unfold execRoleSwapTick
  refine nextSwitches (ite_switches h ?_)
  extract_lets s1
  have h1 : SwitchesFit s1 := h.keep ⟨rfl, rfl⟩
  split
  · have ht := ite_switches (c := (swapMode s1.md.mode && partnerTracks s1) = true) (swapAway_switches h1)
      (refuseSwap_switches h1)
    exact ht.keep (by simp)
  · exact ite_switches (swapIn_switches h1) (h1.keep ⟨rfl, rfl⟩)
  · exact (refuseSwap_switches h1).keep (by simp)

theorem execLaneDown_switches {s : State} (h : SwitchesFit s) (lane n : Nat) : NextSwitches (execLaneDown lane n s) :=
  nextSwitches (ite_switches h (laneLost_switches (setPhase_switches h n) lane))

theorem execMortarTickFrameReceive_switches {s : State} (h : SwitchesFit s) (f : TickMortar) :
    NextSwitches (execMortarTickFrameReceive f s) :=
  nextSwitches (ite_switches h (ite_switches (takeTick_switches (setPhase_switches h _) f)
    (ite_switches (h.keep (by simp)) h)))

theorem execMortarFrameReceive_switches {s : State} (h : SwitchesFit s) (ok : Bool) (m : Mortar) (n : Nat) :
    NextSwitches (execMortarFrameReceive ok m n s) := by
  unfold execMortarFrameReceive
  extract_lets s1 s2 q s3
  have h3 : SwitchesFit s3 := h.keep (by simp [s3, s1])
  refine nextSwitches (ite_switches h (ite_switches (h.keep (by simp [s2, s1]))
    (ite_switches (h3.keep (by simp)) (ite_switches ?_ h3))))
  exact (activeReceive_switches h3 m).keep (by simp)

theorem execMortarStale_switches {s : State} (h : SwitchesFit s) (cls n : Nat) : NextSwitches (execMortarStale cls n s) :=
  nextSwitches (ite_switches h (toSync_switches (h.keep (by simp)) _))

theorem execBulkCopyStart_switches {s : State} (h : SwitchesFit s) (bytes n : Nat) :
    NextSwitches (execBulkCopyStart bytes n s) := by
  unfold execBulkCopyStart
  extract_lets s1 p s2 q m
  have h2 : SwitchesFit s2 := followClock_switches (h.keep ⟨rfl, rfl⟩)
  exact nextSwitches (ite_switches h (ite_switches (h.keep (by simp [s1])) (ite_switches (h2.keep ⟨rfl, rfl⟩) h)))

theorem execTrackReached_switches {s : State} (h : SwitchesFit s) (n : Nat) : NextSwitches (execTrackReached n s) := by
  unfold execTrackReached
  extract_lets current s1 ticks p s2 s3
  have h2 : SwitchesFit s2 := by
    refine changeMode_switches ?_ .track causePair
    exact h.keep ⟨rfl, rfl⟩
  have h3 : SwitchesFit s3 := ite_switches (changeMode_switches h2 .change causeExchange) h2
  exact nextSwitches (ite_switches h (h3.keep (by simp)))

/-! Faults and supplies. -/

theorem execLockstepMismatch_switches {s : State} (h : SwitchesFit s) (pair n : Nat) :
    NextSwitches (execLockstepMismatch pair n s) := by
  have hm : SwitchesFit (mismatched (setPhase s n) pair) := h.keep ⟨rfl, rfl⟩
  exact nextSwitches (ite_switches h (abdicate_switches hm 1))

theorem execUncorrectableEccError_switches {s : State} (h : SwitchesFit s) (bank word n : Nat) :
    NextSwitches (execUncorrectableEccError bank word n s) :=
  nextSwitches (ite_switches h (ite_switches (h.keep (by simp)) (abdicate_switches (h.keep (by simp)) 2)))

theorem execClockMonitorFault_switches {s : State} (h : SwitchesFit s) (domain n : Nat) :
    NextSwitches (execClockMonitorFault domain n s) :=
  have hc : SwitchesFit (clockFailed (setPhase s n) domain) := h.keep (by simp [clockFailed])
  nextSwitches (ite_switches h (abdicate_switches hc 3))

theorem execSupplyMonitorFault_switches {s : State} (h : SwitchesFit s) (n : Nat) :
    NextSwitches (execSupplyMonitorFault n s) := by
  unfold execSupplyMonitorFault
  extract_lets t s1 u
  have h1 : SwitchesFit s1 := abdicate_switches (setPhase_switches h n) 4
  exact nextSwitches (ite_switches h (ite_switches (startAgain_switches s) (ite_switches (h1.keep ⟨rfl, rfl⟩) h1)))

theorem execInternalRailsOff_switches {s : State} (h : SwitchesFit s) : NextSwitches (execInternalRailsOff s) := by
  unfold execInternalRailsOff
  refine nextSwitches ?_
  split
  · exact h
  · exact ite_switches (powerOff_switches s) h

theorem execFirmwareLoad_switches {s : State} (h : SwitchesFit s) (stage : Nat) (code : Bytes) (signed : Bool)
    (version : W32) :
    NextSwitches (execFirmwareLoad stage code signed version s) :=
  nextSwitches (ite_switches h (ite_switches (enterKiln_switches _) (h.keep ⟨rfl, rfl⟩)))

/-! Safety, field and time. -/

theorem execSafetyDecision_switches {s : State} (h : SwitchesFit s) (lossA lossB : Nat) (dataA dataB : Bool) :
    NextSwitches (execSafetyDecision lossA lossB dataA dataB s) := by
  unfold execSafetyDecision
  extract_lets s1 e s2 had s3 lost s4 s5 s6 s7 s8 p s9 s10
  have h2 : SwitchesFit s2 := h.keep ⟨rfl, rfl⟩
  have h3 : SwitchesFit s3 := safeLosses_switches h2 lossA lossB dataA dataB
  have h5 : SwitchesFit s5 := foldl_switches (h3.keep (by simp [s4])) fun u e hu => evalSi_switches hu e.1 e.2
  have h6 : SwitchesFit s6 := foldl_switches h5 fun u e hu => evalSpeed_switches hu e.1 e.2
  have h7 : SwitchesFit s7 := foldl_switches h6 fun u e hu => evalAxis_switches hu e.1 e.2
  have h9 : SwitchesFit s9 := h7.keep (by simp [s9, p, s8])
  have h10 : SwitchesFit s10 := ite_switches (degradedMode_switches h9) h9
  exact nextSwitches (ite_switches h (ite_switches (oasisReaction_switches h10) h10))

theorem execTestPulse_switches {s : State} (h : SwitchesFit s) (input channel : Nat) (readsClosed : Bool) (n : Nat) :
    NextSwitches (execTestPulse input channel readsClosed n s) := by
  unfold execTestPulse
  refine nextSwitches ?_
  split
  · exact h
  · extract_lets s1 x lost s2
    have h1 : SwitchesFit s1 := h.keep ⟨rfl, rfl⟩
    exact ite_switches h (ite_switches (ite_switches (h1.keep (by simp)) (loseInput_switches h1 _ _))
      (ite_switches (h1.keep (by simp [s2])) h1))

theorem execSafetyReset_switches {s : State} (h : SwitchesFit s) (source n : Nat) :
    NextSwitches (execSafetyReset source n s) := by
  unfold execSafetyReset
  refine nextSwitches ?_
  split
  · exact h
  · extract_lets s1 e s2 s3 s4 s5 f s6 m
    have h3 : SwitchesFit s3 := h.keep (by simp [s3, s2, e, s1])
    have h4 : SwitchesFit s4 := foldl_switches h3 fun u e hu => hu.keep (by simp)
    have h5 : SwitchesFit s5 := foldl_switches h4 fun u e hu => setAx_switches hu ⟨rfl, rfl⟩
    have h6 : SwitchesFit s6 := h5.keep ⟨rfl, rfl⟩
    exact ite_switches h (ite_switches (ite_switches (h6.keep ⟨rfl, rfl⟩) h6) h5)

theorem execLogicSilence_switches {s : State} (h : SwitchesFit s) (n : Nat) : NextSwitches (execLogicSilence n s) := by
  unfold execLogicSilence
  extract_lets s1 outs term s2 f s3
  have h2 : SwitchesFit s2 := by
    refine foldl_switches (h.keep ⟨rfl, rfl⟩) fun u e hu => hu.keep ?_
    cases kkOf e.2 <;> simp
  exact nextSwitches (ite_switches h (oasisReaction_switches (h2.keep (by simp [s3]))))

theorem execFieldControllerWatchdog_switches {s : State} (h : SwitchesFit s) (n : Nat) :
    NextSwitches (execFieldControllerWatchdog n s) :=
  nextSwitches (ite_switches h (oasisReaction_switches (h.keep (by simp))))

theorem execPtpMeasurement_switches {s : State} (h : SwitchesFit s) (port : Nat) (gm : W64) (cls steps : Nat) (raw : Int)
    (n : Nat) : NextSwitches (execPtpMeasurement port gm cls steps raw n s) := by
  unfold execPtpMeasurement
  extract_lets offset s1 t s2 u
  have h1 : SwitchesFit s1 := h.keep ⟨rfl, rfl⟩
  exact nextSwitches (ite_switches h (ite_switches (ptpInLoad_switches h1 _ _ _ _ _)
    (ite_switches (ite_switches (h1.keep ⟨rfl, rfl⟩) h1)
      (ite_switches (ite_switches (h1.keep (by simp [s2])) (h1.keep ⟨rfl, rfl⟩)) (ite_switches h1 (h1.keep (by simp)))))))

/-! Object writes. -/

theorem refuseWrite_switches {s : State} (h : SwitchesFit s) (r : Req) (obj : W32) (code : Nat) :
    NextSwitches (refuseWrite r obj code s) := nextSwitches (h.keep (by simp))

theorem writeMode_switches {s : State} (h : SwitchesFit s) (r : Req) (code : Nat) : NextSwitches (writeMode r code s) := by
  unfold writeMode
  split
  · exact execModeStart_switches h r
  · exact execModeStop_switches h r
  · exact execModeContinue_switches h r
  · exact execModeAcknowledge_switches h r
  · exact execModeReset_switches h r
  · exact execModeRoleSwap_switches h r
  · exact execInjectionOn_switches h r
  · exact execInjectionOff_switches h r
  · exact fun t ht => h.keep (by simp [execArmBreakpoints_keeps r s t ht])
  · exact fun t ht => h.keep (by simp [execDisarmBreakpoints_keeps r s t ht])
  · exact fun t ht => h.keep (by simp [execPrepareReturn_keeps r s t ht])
  · exact nextSwitches (modeCommand_switches h r _ fun _ hu _ => hu)

theorem writeExchange_switches {s : State} (h : SwitchesFit s) (r : Req) (code : Nat) :
    NextSwitches (writeExchange r code s) := by
  unfold writeExchange
  split
  · exact fun t ht => h.keep (by simp [execExchangeStage_keeps r s t ht])
  · exact execExchangeActivate_switches h r
  · exact fun t ht => h.keep (by simp [execExchangeUnstage_keeps r s t ht])
  · exact nextSwitches (h.keep (by simp))

theorem code16_switches {s : State} (h : SwitchesFit s) (r : Req) (obj : W32) (d : Bytes)
    {k : Nat → Host.Outcome State Fault Refusal} (hk : ∀ c, NextSwitches (k c)) : NextSwitches (code16 r obj d s k) := by
  unfold code16
  split
  · exact refuseWrite_switches h r obj _
  · exact hk _

theorem sized_switches {s : State} (h : SwitchesFit s) (r : Req) (obj : W32) (n : Nat) (d : Bytes)
    {k : Nat → Host.Outcome State Fault Refusal} (hk : ∀ c, NextSwitches (k c)) : NextSwitches (sized r obj n d s k) := by
  unfold sized
  split
  · exact refuseWrite_switches h r obj _
  · exact hk _

theorem writeLow_switches {s : State} (h : SwitchesFit s) (r : Req) (obj : W32) (d : Bytes) :
    NextSwitches (writeLow r obj d s) := by
  unfold writeLow
  extract_lets i
  split
  · exact fun t ht => h.keep (by simp [execSignerEnrol_keeps r _ d s t ht])
  · exact code16_switches h r obj d (writeMode_switches h r)
  · exact sized_switches h r obj 4 d fun v t ht => h.keep (by simp [execCourseCounterClear_keeps r _ _ s t ht])
  · exact sized_switches h r obj 4 d fun v t ht => h.keep (by simp [execBreakpointWrite_keeps r _ _ s t ht])
  · exact fun t ht => h.keep (by simp [writeMirage_keeps r d s t ht])
  · exact code16_switches h r obj d (writeExchange_switches h r)
  · exact code16_switches h r obj d fun c t ht => h.keep (by simp [writeLoopMode_keeps r _ c s t ht])
  · exact sized_switches h r obj 8 d fun v t ht => h.keep (by simp [execManualValueWrite_keeps r _ _ s t ht])
  · exact sized_switches h r obj 4 d fun v t ht => h.keep (by simp [execApply_keeps r _ _ s t ht])
  · exact fun t ht => h.keep (by simp [writeInjection_keeps r i d s t ht])

theorem execObjectWrite_switches {s : State} (h : SwitchesFit s) (r : Req) (obj : W32) (d : Bytes) :
    NextSwitches (execObjectWrite r obj d s) := by
  unfold execObjectWrite
  split
  · exact refuseWrite_switches h r obj _
  · exact refuseWrite_switches h r obj _
  · exact refuseWrite_switches h r obj _
  · split
    · exact writeLow_switches h r obj d
    · exact fun t ht => h.keep (by simp [writeHigh_keeps r obj d s t ht])

/-- A command that lists neither the mode state nor the safety state among what it may change leaves the axes alone: one
line for each. -/
theorem exec_safe {c : Instr} {s t : State} (hm : .md ∉ mayChange c) (hc : .safe ∉ mayChange c)
    (h : exec c s = .next t) : t.safe = s.safe := by
  cases c
  case bankHeadersRead at_ => simp [execBankHeadersRead_keeps at_ s t h]
  case bankFullCheckComplete at_ => simp [execBankFullCheckComplete_keeps at_ s t h]
  case acqWaitExpiry at_ => simp [execAcqWaitExpiry_keeps at_ s t h]
  case imageKeyRemoved at_ => simp [execImageKeyRemoved_keeps at_ s t h]
  case imageKeyInserted key at_ => simp [execImageKeyInserted_keeps key at_ s t h]
  case loopSample ctx at_ => simp [execLoopSample_keeps ctx at_ s t h]
  case loopDeadline lane => simp [execLoopDeadline_keeps lane s t h]
  case armBreakpoints r => simp [execArmBreakpoints_keeps r s t h]
  case disarmBreakpoints r => simp [execDisarmBreakpoints_keeps r s t h]
  case prepareReturn r => simp [execPrepareReturn_keeps r s t h]
  case prepareReturnTimeout => simp [execPrepareReturnTimeout_keeps s t h]
  case buttonClosingRecognised => simp [execButtonClosingRecognised_keeps s t h]
  case buttonStuck => simp [execButtonStuck_keeps s t h]
  case buttonStuckEnd => simp [execButtonStuckEnd_keeps s t h]
  case settingWrite r index data => simp [execSettingWrite_keeps r index data s t h]
  case settingsComplete r generation => simp [execSettingsComplete_keeps r generation s t h]
  case settingsDeclarationDone session => simp [execSettingsDeclarationDone_keeps session s t h]
  case attestationNonce r nonce => simp [execAttestationNonce_keeps r nonce s t h]
  case quoteReady session at_ => simp [execQuoteReady_keeps session at_ s t h]
  case breakpointWrite r bp value => simp [execBreakpointWrite_keeps r bp value s t h]
  case miragePlace r cmd => simp [execMiragePlace_keeps r cmd s t h]
  case mirageRelease r cmd => simp [execMirageRelease_keeps r cmd s t h]
  case mirageReleaseAll r => simp [execMirageReleaseAll_keeps r s t h]
  case courseCounterClear r course value => simp [execCourseCounterClear_keeps r course value s t h]
  case exchangeStage r => simp [execExchangeStage_keeps r s t h]
  case stagingComplete tablesLoaded partner unwrittenNew unwrittenOld at_ =>
    simp [execStagingComplete_keeps tablesLoaded partner unwrittenNew unwrittenOld at_ s t h]
  case exchangeUnstage r => simp [execExchangeUnstage_keeps r s t h]
  case regionUpdateRequest r cmd => simp [execRegionUpdateRequest_keeps r cmd s t h]
  case regionDataWrite r ticket data => simp [execRegionDataWrite_keeps r ticket data s t h]
  case regionDataChecked ticket at_ => simp [execRegionDataChecked_keeps ticket at_ s t h]
  case regionPendingStart ticket => simp [execRegionPendingStart_keeps ticket s t h]
  case regionCancel r ticket value => simp [execRegionCancel_keeps r ticket value s t h]
  case regionDataTimeout ticket at_ => simp [execRegionDataTimeout_keeps ticket at_ s t h]
  case imageWriteComplete partnerPassed at_ => simp [execImageWriteComplete_keeps partnerPassed at_ s t h]
  case loopModeManual r ctx => simp [execLoopModeManual_keeps r ctx s t h]
  case loopModeAuto r ctx => simp [execLoopModeAuto_keeps r ctx s t h]
  case loopModeCascade r ctx => simp [execLoopModeCascade_keeps r ctx s t h]
  case loopModeExternal r ctx => simp [execLoopModeExternal_keeps r ctx s t h]
  case loopModeHold r ctx => simp [execLoopModeHold_keeps r ctx s t h]
  case manualValueWrite r ctx value => simp [execManualValueWrite_keeps r ctx value s t h]
  case apply r ctx value => simp [execApply_keeps r ctx value s t h]
  case tableRebuildComplete table at_ => simp [execTableRebuildComplete_keeps table at_ s t h]
  case rebuildOverdue table => simp [execRebuildOverdue_keeps table s t h]
  case injectionStart r ctx cmd => simp [execInjectionStart_keeps r ctx cmd s t h]
  case injectionStop r ctx => simp [execInjectionStop_keeps r ctx s t h]
  case captureConfigure r data => simp [execCaptureConfigure_keeps r data s t h]
  case captureArm r => simp [execCaptureArm_keeps r s t h]
  case captureForceTrigger r => simp [execCaptureForceTrigger_keeps r s t h]
  case captureAbort r => simp [execCaptureAbort_keeps r s t h]
  case captureRow => simp [execCaptureRow_keeps s t h]
  case solverFrameStart ctx => simp [execSolverFrameStart_keeps ctx s t h]
  case solverJobEnd ctx at_ => simp [execSolverJobEnd_keeps ctx at_ s t h]
  case solverJobDeadline ctx => simp [execSolverJobDeadline_keeps ctx s t h]
  case solverPublish ctx => simp [execSolverPublish_keeps ctx s t h]
  case tileOffline tile cause at_ => simp [execTileOffline_keeps tile cause at_ s t h]
  case tileSelfTest tile passed at_ => simp [execTileSelfTest_keeps tile passed at_ s t h]
  case partnerReportLapse => simp [execPartnerReportLapse_keeps s t h]
  case latentFaultWindowEnd => simp [execLatentFaultWindowEnd_keeps s t h]
  case rehearsalOverdue => simp [execRehearsalOverdue_keeps s t h]
  case singleBitCorrection bank word at_ => simp [execSingleBitCorrection_keeps bank word at_ s t h]
  case scrubPass bank corrected at_ => simp [execScrubPass_keeps bank corrected at_ s t h]
  case logicFeedLow feed volts at_ => simp [execLogicFeedLow_keeps feed volts at_ s t h]
  case logicFeedRestored feed at_ => simp [execLogicFeedRestored_keeps feed at_ s t h]
  case laneUp lane at_ => simp [execLaneUp_keeps lane at_ s t h]
  case linkUpNegotiation lvLow lvHigh mf missing at_ =>
    simp [execLinkUpNegotiation_keeps lvLow lvHigh mf missing at_ s t h]
  case digitalInputChange channel level changedNs => simp [execDigitalInputChange_keeps channel level changedNs s t h]
  case soeRead r => simp [execSoeRead_keeps r s t h]
  case outputOverload channel at_ => simp [execOutputOverload_keeps channel at_ s t h]
  case outputOvertemp channel at_ => simp [execOutputOvertemp_keeps channel at_ s t h]
  case outputRetry channel cooled => simp [execOutputRetry_keeps channel cooled s t h]
  case channelClear r kk value => simp [execChannelClear_keeps r kk value s t h]
  case groupOvercurrent group channels at_ => simp [execGroupOvercurrent_keeps group channels at_ s t h]
  case openWire channel open_ => simp [execOpenWire_keeps channel open_ s t h]
  case fieldFeedLow group => simp [execFieldFeedLow_keeps group s t h]
  case fieldFeedRestored group => simp [execFieldFeedRestored_keeps group s t h]
  case readbackFailure kk => simp [execReadbackFailure_keeps kk s t h]
  case analogueUnderRange ai => simp [execAnalogueUnderRange_keeps ai s t h]
  case analogueOverRange ai => simp [execAnalogueOverRange_keeps ai s t h]
  case analogueRangeClear ai => simp [execAnalogueRangeClear_keeps ai s t h]
  case complianceLost ao => simp [execComplianceLost_keeps ao s t h]
  case complianceRegained ao => simp [execComplianceRegained_keeps ao s t h]
  case positionSignalFault pos => simp [execPositionSignalFault_keeps pos s t h]
  case positionSignalClear pos => simp [execPositionSignalClear_keeps pos s t h]
  case trimModeWrite r mask => simp [execTrimModeWrite_keeps r mask s t h]
  case trimCurrentWrite r ao value => simp [execTrimCurrentWrite_keeps r ao value s t h]
  case ringCycleMissed station => simp [execRingCycleMissed_keeps station s t h]
  case ringClosed => simp [execRingClosed_keeps s t h]
  case ringLinkUp answers at_ => simp [execRingLinkUp_keeps answers at_ s t h]
  case stationJoin station => simp [execStationJoin_keeps station s t h]
  case hopSpeedNegotiated hop bothGen2 gigabit at_ => simp [execHopSpeedNegotiated_keeps hop bothGen2 gigabit at_ s t h]
  case canFrameReceived f at_ => simp [execCanFrameReceived_keeps f at_ s t h]
  case canReceiveSlotTimeout slot => simp [execCanReceiveSlotTimeout_keeps slot s t h]
  case sysCanCancel handle at_ => simp [execSysCanCancel_keeps handle at_ s t h]
  case canSelectionPoint port at_ => simp [execCanSelectionPoint_keeps port at_ s t h]
  case canTransmitEnd port result stampNs stampFrac at_ =>
    simp [execCanTransmitEnd_keeps port result stampNs stampFrac at_ s t h]
  case canLaunchLate port at_ => simp [execCanLaunchLate_keeps port at_ s t h]
  case canRecover r port => simp [execCanRecover_keeps r port s t h]
  case canRecoveryComplete port at_ => simp [execCanRecoveryComplete_keeps port at_ s t h]
  case flushFifo r port => simp [execFlushFifo_keeps r port s t h]
  case flushLaunch r port => simp [execFlushLaunch_keeps r port s t h]
  case flushAll r port => simp [execFlushAll_keeps r port s t h]
  case lanLinkDown port at_ => simp [execLanLinkDown_keeps port at_ s t h]
  case lanLinkUp port speed at_ => simp [execLanLinkUp_keeps port speed at_ s t h]
  case announceTimeout at_ => simp [execAnnounceTimeout_keeps at_ s t h]
  case timeSlew r rate => simp [execTimeSlew_keeps r rate s t h]
  case timeStep r => simp [execTimeStep_keeps r s t h]
  case timeReject r => simp [execTimeReject_keeps r s t h]
  case haltSlew r => simp [execHaltSlew_keeps r s t h]
  case sessionOpen iface role minGen maxGen authority seq at_ =>
    simp [execSessionOpen_keeps iface role minGen maxGen authority seq at_ s t h]
  case sessionClose r => simp [execSessionClose_keeps r s t h]
  case sessionIdleTimeout session => simp [execSessionIdleTimeout_keeps session s t h]
  case streamEvents r op mask fromSeq => simp [execStreamEvents_keeps r op mask fromSeq s t h]
  case subscribe r object action minTicks => simp [execSubscribe_keeps r object action minTicks s t h]
  case batchWrite r entries => simp [execBatchWrite_keeps r entries s t h]
  case eventRecordsRead r => simp [execEventRecordsRead_keeps r s t h]
  case intrusion mesh at_ => simp [execIntrusion_keeps mesh at_ s t h]
  case environmentalWipe cause at_ => simp [execEnvironmentalWipe_keeps cause at_ s t h]
  case identityKeyReload at_ => simp [execIdentityKeyReload_keeps at_ s t h]
  case signerEnrol r slot data => simp [execSignerEnrol_keeps r slot data s t h]
  case authorityEnrol r slot cert => simp [execAuthorityEnrol_keeps r slot cert s t h]
  case enrolmentTimeout => simp [execEnrolmentTimeout_keeps s t h]
  case framePairBoundary at_ => simp [execFramePairBoundary_keeps at_ s t h]
  case ntcRead deciC at_ => simp [execNtcRead_keeps deciC at_ s t h]
  case crackLoopMeasure ohms mv at_ => simp [execCrackLoopMeasure_keeps ohms mv at_ s t h]
  case lampTest r => simp [execLampTest_keeps r s t h]
  case journalBlockClose at_ => simp [execJournalBlockClose_keeps at_ s t h]
  case journalWriteComplete readBackOk at_ => simp [execJournalWriteComplete_keeps readBackOk at_ s t h]
  case dieTemperatureWarning celsius at_ => simp [execDieTemperatureWarning_keeps celsius at_ s t h]
  case canBusError port rise at_ => simp [execCanBusError_keeps port rise at_ s t h]
  case forwardingReceive f at_ => simp [execForwardingReceive_keeps f at_ s t h]
  case gratuitousArpRepeat at_ => simp [execGratuitousArpRepeat_keeps at_ s t h]
  case holdoverClockClassChange at_ => simp [execHoldoverClockClassChange_keeps at_ s t h]
  case prpSupervisionFrame lan peer at_ => simp [execPrpSupervisionFrame_keeps lan peer at_ s t h]
  all_goals simp [mayChange] at hm hc

/-! Commands that change the safety state and not the mode. -/

/-- LOAD gives every axis its reset value, both switches open. -/
theorem applyImage_open (s : State) (b : Nat) (img : Image) : SwitchesOpen (applyImage s b img) := by
  intro e he
  simp only [applyImage_eq, settle_keeps] at he
  obtain h | ⟨_, _, rfl⟩ := mem_foldl_tset (t := []) (show e ∈ (axisDefs _).foldl _ [] from he)
  · cases h
  · exact ⟨rfl, rfl⟩

theorem execImageApplied_switches {s : State} (h : SwitchesFit s) (n : Nat) : NextSwitches (execImageApplied n s) := by
  unfold execImageApplied
  refine nextSwitches ?_
  split
  · exact h
  · exact ite_switches (.of_open (applyImage_open _ _ _)) h

theorem markOverrides_switches {s : State} (h : SwitchesFit s) : SwitchesFit (markOverrides s) :=
  foldl_switches h fun _ _ hu => setAx_switches hu ⟨rfl, rfl⟩

theorem keepCommit_switches {s : State} (h : SwitchesFit s) (vals : List (Nat × IoEntry × Applied)) :
    SwitchesFit (keepCommit s vals) := by
  unfold keepCommit
  extract_lets c l s1
  have h1 : SwitchesFit s1 := h.keep ⟨rfl, rfl⟩
  exact (markOverrides_switches h1).keep (by simp)

theorem drivenCommit_switches {s : State} (h : SwitchesFit s) : SwitchesFit (drivenCommit s) := by
  have hk : SwitchesFit (keptCommit s) := (ite_switches (keepCommit_switches h _) h).keep ⟨rfl, rfl⟩
  exact ite_switches (hk.keep (by simp)) (hk.keep (by simp))

theorem execOutputCommit_switches {s : State} (h : SwitchesFit s) : NextSwitches (execOutputCommit s) := by
  have hc : SwitchesFit (committing s) := h.keep (by simp [committing])
  have ha : SwitchesFit (afterCommit s) := (drivenCommit_switches hc).keep (by simp)
  exact nextSwitches (ite_switches h ha)

theorem execPartnerAxisStateReceive_switches {s : State} (h : SwitchesFit s) (axes : List (Nat × Nat × F64)) :
    NextSwitches (execPartnerAxisStateReceive axes s) := by
  refine nextSwitches (ite_switches h (foldl_switches h fun u e hu => ?_))
  split
  · exact setAx_switches hu ⟨rfl, rfl⟩
  · exact hu

theorem execPermitOffPulse_switches {s : State} (h : SwitchesFit s) (axis switch : Nat) (below on : Bool) (n : Nat) :
    NextSwitches (execPermitOffPulse axis switch below on n s) := by
  unfold execPermitOffPulse
  refine nextSwitches ?_
  split
  · exact h
  · extract_lets s1 x commanded had bad y s2
    have hy : y.swA = x.swA ∧ y.swB = x.swB := by
      unfold y
      split <;> exact ⟨rfl, rfl⟩
    have h2 : SwitchesFit s2 := setAx_switches (setPhase_switches h n) hy
    exact ite_switches h (ite_switches (h2.keep (by simp)) h2)

theorem execRingSafetyWatchdog_switches {s : State} (h : SwitchesFit s) (conn : Nat) :
    NextSwitches (execRingSafetyWatchdog conn s) := by
  unfold execRingSafetyWatchdog
  refine nextSwitches ?_
  split
  · exact h
  · exact ite_switches h (h.keep (by simp))

theorem execDegradedExpiryNear_switches {s : State} (h : SwitchesFit s) (n : Nat) :
    NextSwitches (execDegradedExpiryNear n s) := by
  unfold execDegradedExpiryNear
  refine nextSwitches ?_
  have h1 : SwitchesFit (setPhase s n) := setPhase_switches h n
  extract_lets s1 e
  split
  · exact h1
  · exact ite_switches h1 (h1.keep (by simp [e, s1]))

theorem execDegradedExpiry_switches {s : State} (h : SwitchesFit s) (n : Nat) :
    NextSwitches (execDegradedExpiry n s) := by
  unfold execDegradedExpiry
  refine nextSwitches ?_
  have h1 : SwitchesFit (setPhase s n) := setPhase_switches h n
  extract_lets s1 e
  split
  · exact ite_switches h1 (h1.keep (by simp [e, s1]))
  · exact h1

theorem execRingInputFrameReceive_switches {s : State} (h : SwitchesFit s) (f : RingFrame) :
    NextSwitches (execRingInputFrameReceive f s) := by
  unfold execRingInputFrameReceive
  extract_lets x s1
  have h1 : SwitchesFit s1 := h.keep (by simp [s1])
  have h2 : SwitchesFit (ringContainers s1 f) := ite_switches (h1.keep ⟨rfl, rfl⟩) h1
  exact nextSwitches (ite_switches h (ite_switches (ite_switches h (h.keep ⟨rfl, rfl⟩))
    (ite_switches h (ite_switches h1 h2))))

/-- The commands that may change the safety state and not the mode. -/
theorem exec_safeOnly_switches {c : Instr} {s : State} (h : SwitchesFit s) (hm : .md ∉ mayChange c)
    (hc : .safe ∈ mayChange c) : NextSwitches (exec c s) := by
  cases c
  case imageApplied at_ => exact execImageApplied_switches h at_
  case outputCommit => exact execOutputCommit_switches h
  case partnerAxisStateReceive axes => exact execPartnerAxisStateReceive_switches h axes
  case permitOffPulse axis switch below on at_ => exact execPermitOffPulse_switches h axis switch below on at_
  case ringSafetyWatchdog conn => exact execRingSafetyWatchdog_switches h conn
  case degradedExpiryNear at_ => exact execDegradedExpiryNear_switches h at_
  case degradedExpiry at_ => exact execDegradedExpiry_switches h at_
  case ringInputFrameReceive f => exact execRingInputFrameReceive_switches h f
  all_goals simp [mayChange] at hm hc

/-- No command closes a switch, or leaves one closed, where the permits do not follow the safety decision: one line for each
command that may change the mode state or the safety state. -/
theorem exec_switches {s : State} (h : SwitchesFit s) (c : Instr) : NextSwitches (exec c s) := by
  by_cases hm : .md ∈ mayChange c
  case neg =>
    by_cases hc : .safe ∈ mayChange c
    case neg => exact fun t ht => h.keep ⟨by rw [exec_md hm ht], by rw [exec_safe hm hc ht]⟩
    exact exec_safeOnly_switches h hm hc
  cases c
  case powerOn slot feedA feedB => exact execPowerOn_switches h slot feedA feedB
  case sramClearComplete => exact execSramClearComplete_switches h
  case dramClearComplete => exact execDramClearComplete_switches h
  case clearTimeout => exact execClearTimeout_switches h
  case startSupplyLoss => exact execStartSupplyLoss_switches h
  case kilnRemeasureComplete stage code at_ => exact execKilnRemeasureComplete_switches h stage code at_
  case tickBoundary latch => exact execTickBoundary_switches h latch
  case inputImageComplete => exact execInputImageComplete_switches h
  case overrunLimitReached course => exact execOverrunLimitReached_switches h course
  case maxScanReached => exact execMaxScanReached_switches h
  case scanWatchExpiry => exact execScanWatchExpiry_switches h
  case courseActivationEnd course rel at_ => exact execCourseActivationEnd_switches h course rel at_
  case executionTrap course brick offset at_ => exact execExecutionTrap_switches h course brick offset at_
  case breakpointReached brick at_ => exact execBreakpointReached_switches h brick at_
  case modeStart r => exact execModeStart_switches h r
  case modeStop r => exact execModeStop_switches h r
  case modeContinue r => exact execModeContinue_switches h r
  case modeAcknowledge r => exact execModeAcknowledge_switches h r
  case modeReset r => exact execModeReset_switches h r
  case modeRoleSwap r => exact execModeRoleSwap_switches h r
  case roleSwapTick => exact execRoleSwapTick_switches h
  case injectionOn r => exact execInjectionOn_switches h r
  case injectionOff r => exact execInjectionOff_switches h r
  case buttonReleaseRecognised => exact execButtonReleaseRecognised_switches h
  case exchangeActivate r => exact execExchangeActivate_switches h r
  case exchangeNoQuietTick => exact execExchangeNoQuietTick_switches h
  case exchangeRollback => exact execExchangeRollback_switches h
  case statusFrameReceive lane f at_ => exact execStatusFrameReceive_switches h lane f at_
  case abdicateFrameReceive cause at_ => exact execAbdicateFrameReceive_switches h cause at_
  case abdicationDetected oneSample at_ => exact execAbdicationDetected_switches h oneSample at_
  case takeover => exact execTakeover_switches h
  case lockstepMismatch pair at_ => exact execLockstepMismatch_switches h pair at_
  case uncorrectableEccError bank word at_ => exact execUncorrectableEccError_switches h bank word at_
  case clockMonitorFault domain at_ => exact execClockMonitorFault_switches h domain at_
  case supplyMonitorFault at_ => exact execSupplyMonitorFault_switches h at_
  case internalRailsOff => exact execInternalRailsOff_switches h
  case laneDown lane at_ => exact execLaneDown_switches h lane at_
  case mortarTickFrameReceive f => exact execMortarTickFrameReceive_switches h f
  case mortarFrameReceive crcOk m at_ => exact execMortarFrameReceive_switches h crcOk m at_
  case mortarStale cls at_ => exact execMortarStale_switches h cls at_
  case bulkCopyStart bytes at_ => exact execBulkCopyStart_switches h bytes at_
  case trackReached at_ => exact execTrackReached_switches h at_
  case safetyDecision lossA lossB dataA dataB => exact execSafetyDecision_switches h lossA lossB dataA dataB
  case testPulse input channel readsClosed at_ => exact execTestPulse_switches h input channel readsClosed at_
  case safetyReset source at_ => exact execSafetyReset_switches h source at_
  case logicSilence at_ => exact execLogicSilence_switches h at_
  case fieldControllerWatchdog at_ => exact execFieldControllerWatchdog_switches h at_
  case ptpMeasurement port gm cls steps offset at_ => exact execPtpMeasurement_switches h port gm cls steps offset at_
  case objectWrite r object data => exact execObjectWrite_switches h r object data
  case firmwareLoad stage code signed version => exact execFirmwareLoad_switches h stage code signed version
  all_goals simp [mayChange] at hm

/-- Settles O5: a step runs one command, and every command keeps the switches to the modes in which the permits follow the
safety decision. -/
theorem axisSwitchesOnlyInTheirModes : Obligations.AxisSwitchesOnlyInTheirModes := by
  unfold Obligations.AxisSwitchesOnlyInTheirModes
  intro s t h ht
  unfold step at ht
  split at ht
  · cases ht
    exact h
  next c rest _ =>
    have hq : SwitchesFit { s with pending := rest } := ⟨h⟩
    exact (exec_switches hq c t ht).inMode

end Sys2Proof.Machine

end

section
/-! SUPPORT. What a reaction of the safety function leaves alone (R67, R393), the used inputs and axes one by one, and the
events of chapter 11 at their instant. -/

namespace Sys2Proof.Machine

/-! ### Reactions -/

/-- Where the permits follow the safety decision, entry to a mode does not touch the safety state. -/
theorem enterEffects_safe {m : Mode} (h : permitsFollow m = true) (s : State) (old : Mode) :
    (enterEffects s old m).safe = s.safe := by
  cases m <;> simp [permitsFollow, evaluates] at h <;> simp [enterEffects, evaluates]

theorem changeMode_safe {m : Mode} (h : permitsFollow m = true) (s : State) (cause : Nat) :
    (changeMode s m cause).safe = s.safe := by
  unfold changeMode
  extract_lets old s1 s2 md s3
  split
  · rfl
  · simp [enterEffects_safe h, s3, s2, s1]

@[simp] theorem theImage_changeMode (s : State) (m : Mode) (cause : Nat) : theImage (changeMode s m cause) = theImage s := by
  simp [theImage]

@[simp] theorem theImage_raise (s : State) (ev : Nat) (arg : List W32) : theImage (raise s ev arg) = theImage s := by
  simp [theImage]

/-- An exchange that ends in its window leaves the running image. -/
@[simp] theorem theImage_exchEnd (s : State) (reason : Nat) : theImage (exchEnd s reason) = theImage s := by
  have hc : theImage (exchComplete s) = theImage s := by
    unfold exchComplete
    dsimp only
    split <;> simp [theImage]
  unfold exchEnd
  split
  · rfl
  · split
    · exact hc
    · simp [theImage]

/-- A reaction of the safety function: the running image, the safety state, the instant and the role stay. -/
structure Reacts (s t : State) : Prop where
  image : theImage t = theImage s
  safe : t.safe = s.safe
  time : t.time = s.time
  role : t.md.role = s.md.role
  /-- Whether the permits follow the safety decision stays as it was (Table 02.1). -/
  follow : permitsFollow t.md.mode = permitsFollow s.md.mode

theorem Reacts.refl (s : State) : Reacts s s := ⟨rfl, rfl, rfl, rfl, rfl⟩

theorem Reacts.change {s u : State} {m : Mode} (cause : Nat) (h : Reacts s u) (hm : permitsFollow m = true)
    (hs : permitsFollow s.md.mode = true) (hh : m ≠ .halt) (hk : m ≠ .sealed) : Reacts s (changeMode u m cause) where
  image := by rw [theImage_changeMode, h.image]
  safe := by rw [changeMode_safe hm, h.safe]
  time := by rw [changeMode_time, h.time]
  role := by rw [changeMode_role u m cause hh hk, h.role]
  follow := by rw [changeMode_mode, hm, hs]

theorem Reacts.exchEnd (s : State) (reason : Nat) : Reacts s (exchEnd s reason) :=
  ⟨by simp, by simp, by simp, by simp, by simp⟩

theorem oasisReaction_reacts (s : State) : Reacts s (oasisReaction s) := by
  unfold oasisReaction
  split
  · split
    case h_5 hm => exact (Reacts.exchEnd s 14).change _ rfl (by rw [hm]; rfl) nofun nofun
    case h_6 => exact .refl s
    all_goals next hm => exact (Reacts.refl s).change _ rfl (by rw [hm]; rfl) nofun nofun
  · split
    · exact ⟨rfl, rfl, rfl, rfl, rfl⟩
    · exact .refl s

theorem degradedMode_reacts (s : State) : Reacts s (degradedMode s) := by
  unfold degradedMode
  split
  · split
    case h_3 hm => exact (Reacts.exchEnd s 14).change _ rfl (by rw [hm]; rfl) nofun nofun
    case h_4 => exact .refl s
    all_goals next hm => exact (Reacts.refl s).change _ rfl (by rw [hm]; rfl) nofun nofun
  · exact .refl s

theorem degradedMode_run {s : State} (hc : inControl s = true) (hm : s.md.mode = .run) :
    (degradedMode s).md.mode = .degraded := by simp [degradedMode, hc, hm]

theorem exchEnd_raises (s : State) (reason : Nat) : Raises s (exchEnd s reason) := by
  unfold exchEnd
  split
  · exact .refl s
  · split
    · unfold exchComplete
      extract_lets n s1 c s2 s3
      have h1 : Raises s s1 := (Raises.refl s).raise _ _
      have h2 : Raises s s2 := by
        unfold s2
        split
        · exact h1
        · exact h1.trans (Raises.raise (.of_intake (by rfl)) _ _)
      exact ⟨h2.intake⟩
    · unfold exchAbandon
      exact Raises.raise (.of_intake (by rfl)) _ _

theorem degradedMode_raises (s : State) : Raises s (degradedMode s) := by
  unfold degradedMode
  split
  · split
    · exact changeMode_raises s _ _
    · exact changeMode_raises s _ _
    · exact (exchEnd_raises s 14).trans (changeMode_raises _ _ _)
    · exact .refl s
  · exact .refl s

/-! ### Folds over the used inputs and axes -/

theorem filterMap_keys_nodup {α : Type} (f : Nat → Option α) (n : Nat) :
    (((List.range n).filterMap fun i => (f i).map fun d => (i, d)).map (·.1)).Nodup := by
  rw [List.map_filterMap]
  refine List.nodup_range.filterMap fun i j b hi hj => ?_
  simp only [Option.map_map, Option.mem_def, Option.map_eq_some_iff] at hi hj
  obtain ⟨_, _, rfl⟩ := hi
  obtain ⟨_, _, h⟩ := hj
  exact h.symm

theorem siDefs_nodup (img : Image) : ((siDefs img).map (·.1)).Nodup := filterMap_keys_nodup _ 8

theorem axisDefs_nodup (img : Image) : ((axisDefs img).map (·.1)).Nodup := filterMap_keys_nodup _ 4

/-- A fold whose elements have different keys: what holds up to the step of one element gives, at its step, what the steps
of the others keep. -/
theorem foldl_at_key {α : Type} {l : List (Nat × α)} (hn : (l.map (·.1)).Nodup) {b : Nat × α} (hb : b ∈ l)
    {g : State → Nat × α → State} {R P : State → Prop} (hR : ∀ u c, c.1 ≠ b.1 → R u → R (g u c))
    (hb' : ∀ u, R u → P (g u b)) (hP : ∀ u c, c.1 ≠ b.1 → P u → P (g u c)) {s : State} (h : R s) : P (l.foldl g s) := by
  induction l generalizing s with
  | nil => cases hb
  | cons c l ih =>
    rw [List.map_cons, List.nodup_cons] at hn
    obtain ⟨hc, hn⟩ := hn
    rcases List.mem_cons.mp hb with rfl | hb
    · refine List.foldlRecOn l g (hb' s h) fun u hu d hd => hP u d (fun he => hc ?_) hu
      exact List.mem_map.mpr ⟨d, hd, he⟩
    · refine ih hn hb (hR s c (fun he => hc ?_) h)
      exact List.mem_map.mpr ⟨b, hb, he.symm⟩

/-! ### Inputs and axes, read -/

/-- At a phase of the tick, whatever the safety state has become, an event is handed in with that phase (R50). -/
theorem raise_atPhase (s : State) (n : Nat) (f : SafetySt) (ev : Nat) (arg : List W32) :
    (raise { setPhase s n with safe := f } ev arg).ev = recorded s n [(ev, arg)] := by
  have h : Noted s n [] { setPhase s n with safe := f } := (Noted.start s n).keep rfl rfl
  exact (h.raise ev arg).ev

theorem siSt_of_safe {s t : State} (h : t.safe.si = s.safe.si) (i : Nat) : siSt t i = siSt s i := by rw [siSt, siSt, h]

theorem axSt_of_safe {s t : State} (h : t.safe.axis = s.safe.axis) (j : Nat) : axSt t j = axSt s j := by
  rw [axSt, axSt, h]

theorem connSt_of_safe {s t : State} (h : t.safe.conn = s.safe.conn) (k : Nat) : connSt t k = connSt s k := by
  rw [connSt, connSt, h]

@[simp] theorem axSt_raise (s : State) (ev : Nat) (arg : List W32) (j : Nat) : axSt (raise s ev arg) j = axSt s j :=
  axSt_of_safe (by simp) j

@[simp] theorem siSt_raise (s : State) (ev : Nat) (arg : List W32) (i : Nat) : siSt (raise s ev arg) i = siSt s i :=
  siSt_of_safe (by simp) i

@[simp] theorem axSt_safeCount (s : State) (i j : Nat) : axSt (safeCount s i) j = axSt s j := rfl

@[simp] theorem siSt_safeCount (s : State) (k i : Nat) : siSt (safeCount s k) i = siSt s i := rfl

@[simp] theorem siSt_setAx (s : State) (j : Nat) (x : AxisSt) (i : Nat) : siSt (setAx s j x) i = siSt s i := rfl

@[simp] theorem axSt_setSi (s : State) (i : Nat) (x : SiSt) (j : Nat) : axSt (setSi s i x) j = axSt s j := rfl

end Sys2Proof.Machine
end

section
/-! Partner states, test pulses, permit read-back, safety reset, watchdog and countdown (R374, R376, R381, R383, R389, R392 to
R394, R396). -/

namespace Sys2Proof.Machine

/-! ### Partner states (R383) -/

/-- What PARTNER_AXIS_STATE_RECEIVE does with one of the states that came, of the axis that it belongs to. -/
def takePartner (s : State) (e : (Nat × Nat × F64) × Nat) : State :=
  match axisDef (theImage s) e.2 with
  | some _ => setAx s e.2 { axSt s e.2 with partner := some e.1 }
  | none => s

theorem takePartner_keeps (s : State) (e : (Nat × Nat × F64) × Nat) : (takePartner s e).md = s.md ∧
    (takePartner s e).ev = s.ev ∧ theImage (takePartner s e) = theImage s := by
  unfold takePartner
  split <;> exact ⟨rfl, rfl, rfl⟩

theorem axSt_takePartner (s : State) (e : (Nat × Nat × F64) × Nat) (j : Nat) : axSt (takePartner s e) j =
    if j = e.2 ∧ (axisDef (theImage s) j).isSome then { axSt s j with partner := some e.1 } else axSt s j := by
  unfold takePartner
  by_cases hj : j = e.2
  · subst hj
    split <;> simp [*]
  · split <;> simp [axSt_setAx_ne, hj]

/-- The states that came are those of the axes from number k on. -/
theorem foldl_takePartner (axes : List (Nat × Nat × F64)) (k : Nat) (s : State) :
    ((axes.zipIdx k).foldl takePartner s).md = s.md ∧ ((axes.zipIdx k).foldl takePartner s).ev = s.ev ∧
    ∀ j, axSt ((axes.zipIdx k).foldl takePartner s) j =
      if k ≤ j ∧ j < k + axes.length ∧ (axisDef (theImage s) j).isSome then
        { axSt s j with partner := some (axes.getD (j - k) (0, 0, 0)) }
      else axSt s j := by
  induction axes generalizing k s with
  | nil => exact ⟨rfl, rfl, fun j => (if_neg (by simp; omega)).symm⟩
  | cons a axes ih =>
    obtain ⟨hmd, hev, himg⟩ := takePartner_keeps s (a, k)
    obtain ⟨imd, iev, iax⟩ := ih (k + 1) (takePartner s (a, k))
    refine ⟨imd.trans hmd, iev.trans hev, fun j => (iax j).trans ?_⟩
    rw [himg, axSt_takePartner, List.length_cons]
    by_cases hd : (axisDef (theImage s) j).isSome
    · rcases lt_trichotomy j k with hj | rfl | hj
      · simp [hd, show ¬ k ≤ j by omega, show ¬ k + 1 ≤ j by omega, hj.ne]
      · simp [hd]
      · obtain ⟨i, rfl⟩ : ∃ i, j = k + 1 + i := ⟨j - (k + 1), by omega⟩
        simp [hd, show k + 1 + i ≠ k by omega, show k + 1 + i - k = i + 1 by omega,
          show k + 1 + i < k + (axes.length + 1) ↔ i < axes.length by omega, show k ≤ k + 1 + i by omega]
    · simp [hd]

theorem execPartnerAxisStateReceive_evaluating {s : State} (axes : List (Nat × Nat × F64)) (ht : onTwin s = true)
    (he : evaluates s.md.mode = true) :
    exec (.partnerAxisStateReceive axes) s = .next (axes.zipIdx.foldl takePartner s) := by
  show execPartnerAxisStateReceive axes s = _
  exact congrArg Host.Outcome.next (if_neg (by simp [ht, he]))

/-! ### Test pulses (R374, R376) -/

/-- A pulse that a lost channel has passed: the eighth in agreement restores it, with EV081. -/
def pulsePassed (s : State) (i c : Nat) : State :=
  let x := siSt s i
  let s' := setSi s i { x with passes := x.passes + 1, restored := decide (8 ≤ x.passes + 1) }
  if 8 ≤ x.passes + 1 then raise s' 81 [w32 i, w32 c] else s'

section
variable {s : State} {i c : Nat} {d : SiDef} (n : Nat) (hd : siDef (theImage s) i = some d) (he : evaluates s.md.mode = true)
  (hm : d.mode ≠ 3) (hc : c ≤ 1) (hp : pulseDue s i c = true)
include hd he hm hc hp

/-- A channel that is not lost and reads closed in its pulse is lost. -/
theorem execTestPulse_closed (hl : (if c = 0 then (siSt s i).lostA else (siSt s i).lostB) = false) :
    exec (.testPulse i c true n) s = .next (loseInput (setPhase s n) i c) := by
  have hl' : (if c = 0 then (siSt (setPhase s n) i).lostA else (siSt (setPhase s n) i).lostB) = false := hl
  show execTestPulse i c true n s = _
  simp [execTestPulse, hd, he, hm, hp, hl', Nat.not_lt.mpr hc]

theorem execTestPulse_passed (hl : (if c = 0 then (siSt s i).lostA else (siSt s i).lostB) = true)
    (hr : (siSt s i).restored = false) : exec (.testPulse i c false n) s = .next (pulsePassed (setPhase s n) i c) := by
  have hl' : (if c = 0 then (siSt (setPhase s n) i).lostA else (siSt (setPhase s n) i).lostB) = true := hl
  have hr' : (siSt (setPhase s n) i).restored = false := hr
  show execTestPulse i c false n s = _
  simp [execTestPulse, pulsePassed, hd, he, hm, hp, hl', hr', Nat.not_lt.mpr hc]

end

/-- The countdown of DEGRADED is all that the reaction on a loss changes of the safety state (R393). -/
theorem degradedReaction_safe (s : State) : (degradedReaction s).safe.si = s.safe.si ∧
    (degradedReaction s).safe.loss = s.safe.loss := by
  rw [degradedReaction, (degradedMode_reacts _).safe]
  unfold startCountdown
  split <;> exact ⟨rfl, rfl⟩

theorem degradedReaction_run {s : State} (hc : inControl s = true) (hm : s.md.mode = .run) :
    (degradedReaction s).md.mode = .degraded := by
  have hmd : (startCountdown s).md = s.md := by simp
  exact degradedMode_run (by rw [inControl, hmd]; exact hc) (by rw [hmd, hm])

theorem degradedReaction_raises (s : State) : Raises s (degradedReaction s) :=
  (Raises.of_intake (by simp)).trans (degradedMode_raises (startCountdown s))

theorem loseInput_lost (s : State) (i c : Nat) :
    (siSt (loseInput s i c) i).lostA = ((siSt s i).lostA || c == 0) ∧
    (siSt (loseInput s i c) i).lostB = ((siSt s i).lostB || c == 1) ∧
    (loseInput s i c).safe.loss = (if s.safe.loss = 0 then 3 else s.safe.loss) := by
  unfold loseInput
  extract_lets x s1 f s2
  obtain ⟨hsi, hloss⟩ := degradedReaction_safe (raise (safeCount s2 4) 70 [w32 i, w32 c])
  have hi : siSt (degradedReaction (raise (safeCount s2 4) 70 [w32 i, w32 c])) i = siSt s1 i := by
    rw [siSt_of_safe hsi, siSt_raise]
    rfl
  rw [hi, hloss, siSt_setSi_self]
  exact ⟨rfl, rfl, by simp only [raise_keeps]; rfl⟩

theorem loseInput_run {s : State} (i c : Nat) (hc : inControl s = true) (hm : s.md.mode = .run) :
    (loseInput s i c).md.mode = .degraded := by
  unfold loseInput
  exact degradedReaction_run (by simpa [inControl] using hc) (by simpa using hm)

theorem loseInput_noted (s : State) (i c n : Nat) :
    (recorded s n [(70, [w32 i, w32 c])]).intake <+: (loseInput (setPhase s n) i c).ev.intake := by
  unfold loseInput
  extract_lets x s1 f s2
  have h2 : (raise (safeCount s2 4) 70 [w32 i, w32 c]).ev = recorded s n [(70, [w32 i, w32 c])] := raise_atPhase s n _ 70 _
  exact h2 ▸ (degradedReaction_raises _).intake

/-! ### Permit read-back (R381) -/

theorem permitRead_bad {s : State} {j w : Nat} {below on : Bool} (n : Nat) (hd : (axisDef (theImage s) j).isSome = true)
    (he : evaluates s.md.mode = true) (hw : w ≤ 1)
    (hf : (if w = 0 then (axSt s j).pfaultA else (axSt s j).pfaultB) = false)
    (hb : (!below || ((if w = 0 then (axSt s j).swA else (axSt s j).swB) && !on)) = true) :
    exec (.permitOffPulse j w below on n) s = .next (raise (safeCount (setAx (setPhase s n) j
      (if w = 0 then { axSt s j with belowA := below, pfaultA := true }
        else { axSt s j with belowB := below, pfaultB := true })) 5) 71 [w32 j, w32 w]) := by
  obtain ⟨d, hd⟩ := Option.isSome_iff_exists.mp hd
  show execPermitOffPulse j w below on n s = _
  unfold execPermitOffPulse
  rw [hd]
  refine congrArg Host.Outcome.next ((if_neg (by simp [he, hw])).trans ?_)
  have hx : axSt (setPhase s n) j = axSt s j := rfl
  simp [hx, hf, hb]

/-! ### Watchdog and countdown (R389, R393) -/

theorem execRingSafetyWatchdog_expired {s : State} {k : Nat} {d : ConnDef} (hd : connDef (theImage s) k = some d)
    (he : evaluates s.md.mode = true) (hk : d.kind ≠ 3) (hx : (connSt s k).expired = false)
    (ht : (connSt s k).lastTick + d.wd ≤ s.time.tick) : exec (.ringSafetyWatchdog k) s =
      .next (raise (safeCount (setConn s k { connSt s k with expired := true, valid := false }) 7) 77 [w32 k]) := by
  show execRingSafetyWatchdog k s = _
  unfold execRingSafetyWatchdog
  rw [hd]
  exact congrArg Host.Outcome.next (if_neg (by simp [he, hk, hx]; omega))

theorem expiryLeft_of_expiry {s : State} {x : Nat} (n : Nat) (h : s.safe.expiry = some x) :
    expiryLeft (setPhase s n) = some (x - (s.time.ns + n)) := by
  show s.safe.expiry.map _ = _
  rw [h]
  rfl

theorem execDegradedExpiryNear_due {s : State} {n x : Nat} (hx : s.safe.expiry = some x) (he : evaluates s.md.mode = true)
    (hn : s.safe.expired = false) (hl : x - (s.time.ns + n) ≤ 3600 * 10 ^ 9)
    (hd : s.safe.notices < (if x - (s.time.ns + n) ≤ 600 * 10 ^ 9 then 2 else 1)) :
    exec (.degradedExpiryNear n) s = .next (raise { setPhase s n with safe := { s.safe with
      notices := if x - (s.time.ns + n) ≤ 600 * 10 ^ 9 then 2 else 1 } } 78 [w32 ((x - (s.time.ns + n)) / 10 ^ 9)]) := by
  show execDegradedExpiryNear n s = _
  unfold execDegradedExpiryNear
  dsimp only
  rw [expiryLeft_of_expiry n hx]
  generalize x - (s.time.ns + n) = left at hl hd ⊢
  have hdue : (if left ≤ 600 * 10 ^ 9 then 2 else if left ≤ 3600 * 10 ^ 9 then 1 else 0) =
      if left ≤ 600 * 10 ^ 9 then 2 else 1 := by rw [if_pos hl]
  simp only [hdue]
  exact congrArg Host.Outcome.next (if_neg (by simp [he, hn]; exact hd))

theorem execDegradedExpiry_due {s : State} {n x : Nat} (hx : s.safe.expiry = some x) (he : evaluates s.md.mode = true)
    (hn : s.safe.expired = false) (hl : x ≤ s.time.ns + n) :
    exec (.degradedExpiry n) s = .next (raise { setPhase s n with safe := { s.safe with expired := true } } 79) := by
  show execDegradedExpiry n s = _
  unfold execDegradedExpiry
  dsimp only
  rw [expiryLeft_of_expiry n hx, Nat.sub_eq_zero_of_le hl]
  exact congrArg Host.Outcome.next (if_neg (by simp [he, hn]))

/-! ### Safety reset (R392, R394) -/

/-- A safety reset at its latch, before the countdown: what it says to every used input and axis. -/
def resetAll (s : State) (source : Nat) : State :=
  let s1 := raise { s with safe := { s.safe with resetSeen := none } } 80 [w32 source]
  let s2 := (siDefs (theImage s1)).foldl (fun s e => resetSi s e.1) s1
  (axisDefs (theImage s2)).foldl (fun s e => resetAxis s e.1) s2

/-- Without a loss the countdown of DEGRADED ends, and DEGRADED returns to RUN at the next boundary (R394). -/
def endCountdown (s : State) : State :=
  let s := { s with safe := { s.safe with expiry := none, expired := false, notices := 0, loss := 0 } }
  if s.md.mode == .degraded then { s with md := { s.md with trans := s.md.trans ++ [⟨7, .run, causeSafety, none, 0⟩] } }
  else s

theorem resetSi_parts (s : State) (i : Nat) : (resetSi s i).safe.expiry = s.safe.expiry ∧
    (resetSi s i).safe.resetSeen = s.safe.resetSeen := by
  unfold resetSi
  extract_lets x clear fault v back s1
  split
  · simp [s1]
  · exact ⟨rfl, rfl⟩

theorem resetSi_raises (s : State) (i : Nat) : Raises s (resetSi s i) := by
  unfold resetSi
  extract_lets x clear fault v back s1
  have h1 : Raises s s1 := .of_intake rfl
  split
  · exact h1.raise _ _
  · exact h1

/-- What a safety reset leaves of the mode and the countdown, beside the used inputs and axes. -/
theorem resetAll_parts (s : State) (src : Nat) : (resetAll s src).md = s.md ∧
    (resetAll s src).safe.expiry = s.safe.expiry ∧ (resetAll s src).safe.resetSeen = none := by
  unfold resetAll
  extract_lets f s1 s2
  have h1 : s1.safe.expiry = s.safe.expiry ∧ s1.safe.resetSeen = none := by simp [s1, f]
  have h2 : s2.safe.expiry = s.safe.expiry ∧ s2.safe.resetSeen = none :=
    foldl_inv (P := fun u => u.safe.expiry = s.safe.expiry ∧ u.safe.resetSeen = none) _ _ s1 h1 fun u e ⟨he, hr⟩ =>
      have ⟨ke, kr⟩ := resetSi_parts u e.1
      ⟨ke.trans he, kr.trans hr⟩
  refine ⟨by simp [s2, s1], ?_⟩
  exact foldl_inv (P := fun u => u.safe.expiry = s.safe.expiry ∧ u.safe.resetSeen = none) _ _ s2 h2 fun u e hu => hu

theorem resetAll_noted (s : State) (n src : Nat) :
    (recorded s n [(80, [w32 src])]).intake <+: (resetAll (setPhase s n) src).ev.intake := by
  unfold resetAll
  extract_lets f s1 s2
  have h1 : s1.ev = recorded s n [(80, [w32 src])] := raise_atPhase s n _ 80 _
  have h2 : Raises s1 s2 := .foldl _ _ s1 fun u e => resetSi_raises u e.1
  have h3 := h2.trans (.foldl (axisDefs (theImage s2)) (fun u e => resetAxis u e.1) s2 fun u e => .of_intake rfl)
  exact h1 ▸ h3.intake

/-- Each used axis is told once; the used inputs do not reach it. -/
theorem resetAll_axis (s : State) (src : Nat) {e : Nat × AxisDef} (he : e ∈ axisDefs (theImage s)) :
    axSt (resetAll s src) e.1 = axSt (resetAxis s e.1) e.1 := by
  unfold resetAll
  extract_lets f s1 s2
  have himg : theImage s2 = theImage s := by simp [theImage, s2, s1]
  have hfold : s2.safe.axis = s1.safe.axis := foldl_axis s1 fun u (c : Nat × SiDef) => resetSi_axis u c.1
  have h2 : axSt s2 e.1 = axSt s e.1 := axSt_of_safe (hfold.trans (by simp [s1, f])) _
  rw [himg]
  refine foldl_at_key (axisDefs_nodup _) he (R := fun u => axSt u e.1 = axSt s e.1)
    (P := fun u => axSt u e.1 = axSt (resetAxis s e.1) e.1) (fun u c hc hu => ?_) (fun u hu => ?_) (fun u c hc hu => ?_) h2
  · exact (axSt_setAx_ne u _ _ _ hc.symm).trans hu
  · simp [resetAxis, hu]
  · exact (axSt_setAx_ne u _ _ _ hc.symm).trans hu

theorem endCountdown_parts (s : State) : lossFree (endCountdown s) = lossFree s ∧ (∀ j, axSt (endCountdown s) j = axSt s j) ∧
    (endCountdown s).ev = s.ev ∧ (endCountdown s).safe = { s.safe with
      expiry := none, expired := false, notices := 0, loss := 0 } ∧
    (endCountdown s).md = (if s.md.mode = .degraded then
      { s.md with trans := s.md.trans ++ [⟨7, .run, causeSafety, none, 0⟩] } else s.md) := by
  unfold endCountdown
  extract_lets f s1
  split
  next h =>
    have hm : s.md.mode = .degraded := by simpa [s1] using h
    exact ⟨rfl, fun _ => rfl, rfl, rfl, (if_pos hm).symm⟩
  next h =>
    have hm : s.md.mode ≠ .degraded := by simpa [s1] using h
    exact ⟨rfl, fun _ => rfl, rfl, rfl, (if_neg hm).symm⟩

theorem execSafetyReset_seen {s : State} {src k : Nat} (n : Nat) (hr : s.safe.resetSeen = some (src, k))
    (hk : k ≤ s.time.tick) (he : evaluates s.md.mode = true) : exec (.safetyReset src n) s = .next
      (if lossFree (resetAll (setPhase s n) src) && (resetAll (setPhase s n) src).safe.expiry.isSome then
        endCountdown (resetAll (setPhase s n) src) else resetAll (setPhase s n) src) := by
  show execSafetyReset src n s = _
  unfold execSafetyReset
  rw [hr]
  exact congrArg Host.Outcome.next (if_neg (by simp [hk, he]))

/-! ### The obligation -/

theorem pulsePassed_parts (s : State) (i c n : Nat) : (pulsePassed (setPhase s n) i c).md = s.md ∧
    siSt (pulsePassed (setPhase s n) i c) i = { siSt s i with
      passes := (siSt s i).passes + 1, restored := decide (8 ≤ (siSt s i).passes + 1) } ∧
    (pulsePassed (setPhase s n) i c).ev =
      (if 8 ≤ (siSt s i).passes + 1 then recorded s n [(81, [w32 i, w32 c])] else s.ev) := by
  unfold pulsePassed
  extract_lets x s1
  split
  next h => exact ⟨by simp [s1], (siSt_raise ..).trans (siSt_setSi_self ..), (raise_atPhase s n _ 81 _).trans (if_pos h).symm⟩
  next h => exact ⟨rfl, siSt_setSi_self .., (if_neg h).symm⟩

/-- Settles O47: one command each, by what it does once its condition holds. -/
theorem safetyTestsResetsAndTimeouts : Obligations.SafetyTestsResetsAndTimeouts := by
  unfold Obligations.SafetyTestsResetsAndTimeouts
  refine ⟨fun s axes ht he => ?partner, fun s i c n d hd he hm hc hp hl => ?lost,
    fun s i c n d hd he hm hc hp hl hr => ?passed, fun s j w below on n hd he hw hf hb => ?permit,
    fun s src n k hr hk he => ?reset, fun s k d hd he hk hx ht => ?watchdog,
    fun s n x hx he hn hl hd => ?near, fun s n x hx he hn hl => ?expiry⟩
  case partner =>
    obtain ⟨hmd, hev, hax⟩ := foldl_takePartner axes 0 s
    exact ⟨_, execPartnerAxisStateReceive_evaluating axes ht he, hmd, hev, fun j => (hax j).trans (by simp)⟩
  case lost =>
    obtain ⟨hA, hB, hloss⟩ := loseInput_lost (setPhase s n) i c
    exact ⟨_, execTestPulse_closed n hd he hm hc hp hl, hA, hB, hloss,
      fun hct hrun => loseInput_run i c hct hrun, loseInput_noted s i c n⟩
  case passed =>
    exact ⟨_, execTestPulse_passed n hd he hm hc hp hl hr, pulsePassed_parts s i c n⟩
  case permit =>
    refine ⟨_, permitRead_bad n hd he hw hf hb, by simp, ?_, ?_, by simp [safeCount], raise_atPhase s n _ 71 _⟩
    · split <;> simp [*]
    · split <;> simp
  case reset =>
    obtain ⟨hmd, hexp, hseen⟩ := resetAll_parts (setPhase s n) src
    have hax := fun e he => resetAll_axis (setPhase s n) src (e := e) he
    have hev := resetAll_noted s n src
    refine ⟨_, execSafetyReset_seen n hr hk he, ?_⟩
    generalize resetAll (setPhase s n) src = u at *
    have hmd : u.md = s.md := hmd
    have hexp : u.safe.expiry = s.safe.expiry := hexp
    have hfields : ∀ e ∈ axisDefs (theImage s), (axSt u e.1).released = ((axSt s e.1).released || (axSt s e.1).state == 3) ∧
        (axSt u e.1).pfaultA = ((axSt s e.1).pfaultA && !(axSt s e.1).belowA) ∧
        (axSt u e.1).pfaultB = ((axSt s e.1).pfaultB && !(axSt s e.1).belowB) ∧
        (axSt u e.1).state = (axSt s e.1).state := fun e he => by
      rw [hax e he, resetAxis, axSt_setAx_self]
      exact ⟨rfl, rfl, rfl, rfl⟩
    by_cases h : lossFree u && u.safe.expiry.isSome
    · obtain ⟨elf, eax, eev, esafe, emd⟩ := endCountdown_parts u
      obtain ⟨hfree, -⟩ := Bool.and_eq_true_iff.mp h
      rw [if_pos h, esafe, elf, eev, emd, hmd]
      refine ⟨hseen, by split <;> rfl, hev, fun e he => ?_, fun _ _ => ⟨rfl, rfl, rfl, rfl⟩, fun hl => ?_⟩
      · rw [eax]
        exact hfields e he
      · exact absurd (hfree.symm.trans hl) nofun
    · rw [if_neg h]
      refine ⟨hseen, congrArg _ hmd, hev, hfields, fun hl hx => absurd ?_ h, fun _ => ⟨hexp, hmd⟩⟩
      rw [hl, hexp, Option.isSome_iff_ne_none.mpr hx]
      rfl
  case watchdog =>
    refine ⟨_, execRingSafetyWatchdog_expired hd he hk hx ht, by simp, ?_, by simp [safeCount], raise_atPhase s s.time.phase _ 77 _⟩
    rw [connSt_of_safe (s := setConn s k { connSt s k with expired := true, valid := false }) (by simp [safeCount]),
      connSt_setConn_self]
  case near =>
    exact ⟨_, execDegradedExpiryNear_due hx he hn hl hd, by simp, by simp, raise_atPhase s n _ 78 _⟩
  case expiry =>
    exact ⟨_, execDegradedExpiry_due hx he hn hl, by simp, by simp, raise_atPhase s n _ 79 []⟩

end Sys2Proof.Machine
end

section
/-! SUPPORT. The decision of phase 35 µs up to the axes: what losses, ring data, inputs and speeds leave of what the axes are
decided by (R370 to R372, R377, R389). -/

namespace Sys2Proof.Machine

/-- What the steps of a decision before the axes leave: the image, the instant, the role, the axes' states and what the partner
has told, and the latched readings. Where the mode changes, it is to OASIS with a compare fault latched. -/
structure Weighs (s t : State) : Prop where
  image : theImage t = theImage s
  time : t.time = s.time
  role : t.md.role = s.md.role
  follow : permitsFollow t.md.mode = permitsFollow s.md.mode
  mode : t.md.mode = s.md.mode ∨ t.md.mode = .oasis ∧ t.safe.compareFault = true
  latched : s.safe.compareFault = true → t.safe.compareFault = true
  once : t.safe.evalTick = s.safe.evalTick
  expired : t.safe.expired = s.safe.expired
  axis : ∀ j, (axSt t j).state = (axSt s j).state ∧ (axSt t j).partner = (axSt s j).partner
  reading : ∀ i, (siSt t i).a = (siSt s i).a ∧ (siSt t i).b = (siSt s i).b ∧ (siSt t i).lostA = (siSt s i).lostA ∧
    (siSt t i).lostB = (siSt s i).lostB

theorem Weighs.refl (s : State) : Weighs s s :=
  ⟨rfl, rfl, rfl, rfl, .inl rfl, id, rfl, rfl, fun _ => ⟨rfl, rfl⟩, fun _ => ⟨rfl, rfl, rfl, rfl⟩⟩

theorem Weighs.trans {s t u : State} (h : Weighs s t) (k : Weighs t u) : Weighs s u where
  image := k.image.trans h.image
  time := k.time.trans h.time
  role := k.role.trans h.role
  follow := k.follow.trans h.follow
  mode := by
    rcases k.mode with hm | hm
    · rw [hm]
      exact h.mode.imp_right fun ⟨ho, hc⟩ => ⟨ho, k.latched hc⟩
    · exact .inr hm
  latched := k.latched ∘ h.latched
  once := k.once.trans h.once
  expired := k.expired.trans h.expired
  axis j := ⟨(k.axis j).1.trans (h.axis j).1, (k.axis j).2.trans (h.axis j).2⟩
  reading i :=
    have ⟨ha, hb, hA, hB⟩ := h.reading i
    have ⟨ka, kb, kA, kB⟩ := k.reading i
    ⟨ka.trans ha, kb.trans hb, kA.trans hA, kB.trans hB⟩

/-- A step that changes the safety state alone, and of it neither the axes nor what is latched. -/
theorem Weighs.of_safe {s t : State} (hm : t.md = s.md) (hk : t.kiln = s.kiln) (ht : t.time = s.time)
    (hc : t.safe.compareFault = s.safe.compareFault) (ho : t.safe.evalTick = s.safe.evalTick)
    (he : t.safe.expired = s.safe.expired)
    (ha : ∀ j, (axSt t j).state = (axSt s j).state ∧ (axSt t j).partner = (axSt s j).partner)
    (hr : ∀ i, (siSt t i).a = (siSt s i).a ∧ (siSt t i).b = (siSt s i).b ∧ (siSt t i).lostA = (siSt s i).lostA ∧
      (siSt t i).lostB = (siSt s i).lostB) : Weighs s t :=
  ⟨by rw [theImage, hk, theImage], ht, by rw [hm], by rw [hm], .inl (by rw [hm]), fun h => hc.trans h, ho, he, ha, hr⟩

theorem Weighs.raise {s t : State} (h : Weighs s t) (ev : Nat) (arg : List W32) : Weighs s (raise t ev arg) :=
  h.trans (.of_safe (by simp) (by simp) (by simp) (by simp) (by simp) (by simp) (by simp) (by simp))

theorem Weighs.safeCount {s t : State} (h : Weighs s t) (i : Nat) : Weighs s (safeCount t i) :=
  ⟨h.image, h.time, h.role, h.follow, h.mode, h.latched, h.once, h.expired, h.axis, h.reading⟩

/-- The state of the safety channels: which of the two are not lost, the first loss and the expiry (R371, R393). -/
def channels (s : State) : Bool × Bool × Nat × Option Nat := (s.safe.chA, s.safe.chB, s.safe.loss, s.safe.expiry)

@[simp] theorem channels_raise (s : State) (ev : Nat) (arg : List W32) : channels (raise s ev arg) = channels s := by
  simp [channels]

/-- A step of the evaluation: it does not lose a channel either. -/
structure Evaluates (s t : State) : Prop extends Weighs s t where
  channels : channels t = channels s

theorem Evaluates.refl (s : State) : Evaluates s s := ⟨.refl s, rfl⟩

theorem Evaluates.trans {s t u : State} (h : Evaluates s t) (k : Evaluates t u) : Evaluates s u :=
  ⟨h.toWeighs.trans k.toWeighs, k.channels.trans h.channels⟩

theorem Evaluates.foldl {α : Type} (l : List α) (g : State → α → State) (s : State) (h : ∀ u b, Evaluates u (g u b)) :
    Evaluates s (l.foldl g s) :=
  foldl_inv (P := Evaluates s) l g s (.refl s) fun u b hu => hu.trans (h u b)

theorem Evaluates.raise {s t : State} (h : Evaluates s t) (ev : Nat) (arg : List W32) : Evaluates s (raise t ev arg) :=
  ⟨h.toWeighs.raise ev arg, (channels_raise t ev arg).trans h.channels⟩

theorem Evaluates.safeCount {s t : State} (h : Evaluates s t) (i : Nat) : Evaluates s (safeCount t i) :=
  ⟨h.toWeighs.safeCount i, h.channels⟩

theorem Evaluates.setConn {s t : State} (h : Evaluates s t) (k : Nat) (x : ConnSt) : Evaluates s (setConn t k x) :=
  h.trans ⟨.of_safe rfl rfl rfl rfl rfl rfl (fun _ => ⟨rfl, rfl⟩) (fun _ => ⟨rfl, rfl, rfl, rfl⟩), rfl⟩

theorem Evaluates.setSi {s t : State} (h : Evaluates s t) {i : Nat} {x : SiSt} (hx : x.a = (siSt t i).a ∧ x.b = (siSt t i).b ∧
    x.lostA = (siSt t i).lostA ∧ x.lostB = (siSt t i).lostB) : Evaluates s (setSi t i x) := by
  refine h.trans ⟨.of_safe rfl rfl rfl rfl rfl rfl (fun _ => ⟨rfl, rfl⟩) fun k => ?_, rfl⟩
  by_cases hk : k = i
  · rwa [hk, siSt_setSi_self]
  · rw [siSt_setSi_ne t i k x hk]
    exact ⟨rfl, rfl, rfl, rfl⟩

theorem Evaluates.setAx {s t : State} (h : Evaluates s t) {j : Nat} {x : AxisSt} (hx : x.state = (axSt t j).state ∧
    x.partner = (axSt t j).partner) : Evaluates s (setAx t j x) := by
  refine h.trans ⟨.of_safe rfl rfl rfl rfl rfl rfl (fun k => ?_) (fun _ => ⟨rfl, rfl, rfl, rfl⟩), rfl⟩
  by_cases hk : k = j
  · rwa [hk, axSt_setAx_self]
  · rw [axSt_setAx_ne t j k x hk]
    exact ⟨rfl, rfl⟩

/-! ### Compare faults (R370) -/

theorem oasisReaction_mode (s : State) : (oasisReaction s).md.mode = s.md.mode ∨ (oasisReaction s).md.mode = .oasis := by
  unfold oasisReaction
  split
  · split <;> simp
  · split <;> exact .inl rfl

/-- A compare fault is latched, and of the mode no more than OASIS follows. -/
theorem compareFault_evaluates (s : State) (datum : Nat) : Evaluates s (compareFault s datum) := by
  unfold compareFault
  split
  · exact .refl s
  · generalize hu : raise _ 73 _ = u
    have hs : u.safe = { s.safe with compareFault := true } := by simp [← hu]
    have hmd : u.md = s.md := by simp [← hu]
    have hr := oasisReaction_reacts u
    have hsafe : (oasisReaction u).safe = { s.safe with compareFault := true } := hr.safe.trans hs
    refine ⟨⟨hr.image.trans (by simp [← hu, theImage]), hr.time.trans (by simp [← hu]), hr.role.trans (by rw [hmd]),
      hr.follow.trans (by rw [hmd]), ?_, fun _ => by rw [hsafe], by rw [hsafe], by rw [hsafe], fun j => ?_, fun i => ?_⟩, ?_⟩
    · rw [hsafe, ← hmd]
      exact (oasisReaction_mode u).imp_right fun h => ⟨h, rfl⟩
    · rw [axSt_of_safe (s := s) (by rw [hsafe])]
      exact ⟨rfl, rfl⟩
    · rw [siSt_of_safe (s := s) (by rw [hsafe])]
      exact ⟨rfl, rfl, rfl, rfl⟩
    · rw [channels, hsafe]
      rfl

/-! ### Losses (R371, R393, R394) -/

theorem tget_map {α : Type} (d : α) (f : α → α) (hf : f d = d) (t : Tab α) (k : Nat) :
    tget d (t.map fun e => (e.1, f e.2)) k = f (tget d t k) := by
  induction t with
  | nil => exact hf.symm
  | cons e t ih => grind [tget]

theorem startCountdown_weighs (s : State) : Weighs s (startCountdown s) := by
  unfold startCountdown
  split
  · exact .of_safe rfl rfl rfl rfl rfl rfl (fun _ => ⟨rfl, rfl⟩) (fun _ => ⟨rfl, rfl, rfl, rfl⟩)
  · exact .refl s

/-- The expiry once a loss has come: on the unit in control it is set, and does not move (R393). -/
def countdownFrom (s : State) : Option Nat :=
  if inControl s then some (s.safe.expiry.getD (vtime s + degHours (theImage s) * 3600 * 10 ^ 9)) else s.safe.expiry

theorem startCountdown_channels (s : State) :
    channels (startCountdown s) = (s.safe.chA, s.safe.chB, s.safe.loss, countdownFrom s) := by
  unfold startCountdown countdownFrom
  split <;> rfl

/-- A safety channel is no longer live: it takes what was seen of the reset sources with it. -/
def withoutChannel (s : State) (b : Bool) : State :=
  { s with safe := { s.safe with
    chA := s.safe.chA && b, chB := s.safe.chB && !b
    loss := if s.safe.loss = 0 then (if b then 2 else 1) else s.safe.loss
    si := s.safe.si.map fun e => (e.1, { e.2 with level := none, since := none })
    conn := s.safe.conn.map fun e => (e.1, { e.2 with level := none, since := none }) } }

theorem siSt_withoutChannel (s : State) (b : Bool) (i : Nat) :
    siSt (withoutChannel s b) i = { siSt s i with level := none, since := none } :=
  tget_map ({} : SiSt) (fun x => { x with level := none, since := none }) rfl s.safe.si i

theorem withoutChannel_weighs (s : State) (b : Bool) : Weighs s (withoutChannel s b) := by
  refine .of_safe rfl rfl rfl rfl rfl rfl (fun _ => ⟨rfl, rfl⟩) fun i => ?_
  rw [siSt_withoutChannel]
  exact ⟨rfl, rfl, rfl, rfl⟩

theorem loseChannel_live {s : State} {b : Bool} (cause : Nat) (h : (if b then s.safe.chB else s.safe.chA) = true) :
    Weighs s (loseChannel s b cause) ∧ channels (loseChannel s b cause) =
      (s.safe.chA && b, s.safe.chB && !b, if s.safe.loss = 0 then (if b then 2 else 1) else s.safe.loss,
        countdownFrom s) := by
  unfold loseChannel
  rw [if_pos h]
  extract_lets c s1 s2 s3
  have h2 : Weighs s s2 := (withoutChannel_weighs s b).raise 72 _
  have h3 : Weighs s s3 := h2.trans (startCountdown_weighs s2)
  have hfrom : countdownFrom s2 = countdownFrom s := by
    simp [countdownFrom, inControl, vtime, theImage, s2, s1, c]
  have hs2 : s2.safe = s1.safe := by simp [s2]
  have hch := startCountdown_channels s2
  rw [hfrom, hs2] at hch
  obtain ⟨hw, hc⟩ := compareFault_evaluates s3 255
  split
  · exact ⟨h3.trans hw, hc.trans hch⟩
  · exact ⟨h3, hch⟩

theorem loseChannel_lost {s : State} {b : Bool} (cause : Nat) (h : (if b then s.safe.chB else s.safe.chA) = false) :
    loseChannel s b cause = s := by
  unfold loseChannel
  rw [h]
  rfl

theorem loseChannel_weighs (s : State) (b : Bool) (cause : Nat) : Weighs s (loseChannel s b cause) := by
  cases h : (if b then s.safe.chB else s.safe.chA) with
  | true => exact (loseChannel_live cause h).1
  | false =>
    rw [loseChannel_lost cause h]
    exact .refl s

/-- What the compare data of a tick say of one channel: it is lost to a cause shown, or to two ticks without data (R371). -/
def weighLoss (s : State) (b : Bool) (cause missed : Nat) : State :=
  if cause ≠ 0 then loseChannel s b cause else if 2 ≤ missed then loseChannel s b 4 else s

theorem weighLoss_cases (s : State) (b : Bool) (cause missed : Nat) :
    weighLoss s b cause missed = s ∨ ∃ n, weighLoss s b cause missed = loseChannel s b n := by
  unfold weighLoss
  (repeat' split) <;> simp

theorem weighLoss_weighs (s : State) (b : Bool) (cause missed : Nat) : Weighs s (weighLoss s b cause missed) := by
  rcases weighLoss_cases s b cause missed with h | ⟨n, h⟩
  · rw [h]
    exact .refl s
  · rw [h]
    exact loseChannel_weighs s b n

/-- The compare data of a tick are noted as missed or not. -/
def comparing (s : State) (da db : Bool) : State :=
  { s with safe := { s.safe with missedA := count1 (!da) s.safe.missedA, missedB := count1 (!db) s.safe.missedB } }

theorem safeLosses_eq (s : State) (la lb : Nat) (da db : Bool) : safeLosses s la lb da db =
    weighLoss (weighLoss (comparing s da db) false la (comparing s da db).safe.missedA) true lb
      (weighLoss (comparing s da db) false la (comparing s da db).safe.missedA).safe.missedB := rfl

theorem comparing_weighs (s : State) (da db : Bool) : Weighs s (comparing s da db) :=
  .of_safe rfl rfl rfl rfl rfl rfl (fun _ => ⟨rfl, rfl⟩) (fun _ => ⟨rfl, rfl, rfl, rfl⟩)

theorem safeLosses_weighs (s : State) (la lb : Nat) (da db : Bool) : Weighs s (safeLosses s la lb da db) := by
  rw [safeLosses_eq]
  exact ((comparing_weighs s da db).trans (weighLoss_weighs _ _ _ _)).trans (weighLoss_weighs _ _ _ _)

/-- The loss of channel B leaves channel A, and what the first loss has set. -/
theorem weighLoss_B (s : State) (cause missed : Nat) : (weighLoss s true cause missed).safe.chA = s.safe.chA ∧
    (s.safe.loss ≠ 0 → (weighLoss s true cause missed).safe.loss = s.safe.loss) ∧
    (∀ x, s.safe.expiry = some x → (weighLoss s true cause missed).safe.expiry = some x) := by
  rcases weighLoss_cases s true cause missed with h | ⟨n, h⟩
  · rw [h]
    exact ⟨rfl, fun _ => rfl, fun _ => id⟩
  · rw [h]
    cases hb : s.safe.chB with
    | false =>
      rw [loseChannel_lost n (by simpa using hb)]
      exact ⟨rfl, fun _ => rfl, fun _ => id⟩
    | true =>
      obtain ⟨-, hc⟩ := loseChannel_live n (s := s) (b := true) (by simpa using hb)
      simp only [channels, Prod.mk.injEq] at hc
      obtain ⟨hA, -, hl, he⟩ := hc
      refine ⟨by simpa using hA, fun h0 => by simpa [h0] using hl, fun x hx => he.trans ?_⟩
      simp [countdownFrom, hx]

/-- With no cause shown and data come, channel A stays. -/
theorem safeLosses_keeps_A (s : State) (lb : Nat) (db : Bool) :
    (safeLosses s 0 lb true db).safe.chA = s.safe.chA := by
  have h : weighLoss (comparing s true db) false 0 (comparing s true db).safe.missedA = comparing s true db := by
    simp [weighLoss, comparing, count1]
  rw [safeLosses_eq, h]
  exact (weighLoss_B _ _ _).1

/-- The first loss is that of channel A, on the unit in control (R371, R393). -/
theorem safeLosses_loses_A {s : State} {la : Nat} (lb : Nat) (da db : Bool) (hc : inControl s = true)
    (hA : s.safe.chA = true) (hl : la ≠ 0) : (safeLosses s la lb da db).safe.chA = false ∧
    (safeLosses s la lb da db).safe.loss = (if s.safe.loss = 0 then 1 else s.safe.loss) ∧
    (safeLosses s la lb da db).safe.expiry =
      some (s.safe.expiry.getD (vtime s + degHours (theImage s) * 3600 * 10 ^ 9)) := by
  have hw : weighLoss (comparing s da db) false la (comparing s da db).safe.missedA =
      loseChannel (comparing s da db) false la := if_pos hl
  obtain ⟨-, hch⟩ := loseChannel_live la (s := comparing s da db) (b := false) hA
  rw [safeLosses_eq, hw]
  generalize loseChannel (comparing s da db) false la = u at hch ⊢
  have hfrom : countdownFrom (comparing s da db) =
      some (s.safe.expiry.getD (vtime s + degHours (theImage s) * 3600 * 10 ^ 9)) := if_pos hc
  rw [hfrom] at hch
  simp only [channels, Prod.mk.injEq] at hch
  obtain ⟨uA, -, ul, ue⟩ := hch
  obtain ⟨kA, kl, ke⟩ := weighLoss_B u lb u.safe.missedB
  have ul : u.safe.loss = if s.safe.loss = 0 then 1 else s.safe.loss := ul
  refine ⟨kA.trans (by simpa using uA), (kl ?_).trans ul, ke _ ue⟩
  rw [ul]
  split <;> simp [*]

/-! ### Ring safety connections (R389) -/

theorem takeContainer_evaluates (k : Nat) (d : ConnDef) (s : State) (b : Bytes) :
    Evaluates s (takeContainer k d s b) := by
  unfold takeContainer
  dsimp only
  split
  · exact (Evaluates.refl s).setConn _ _
  · have h1 := fun x => ((Evaluates.refl s).setConn k x).safeCount 6
    split
    · exact h1 _
    · exact (h1 _).raise _ _

theorem connReset_evaluates (s : State) (k : Nat) : Evaluates s (connReset s k) := by
  unfold connReset
  extract_lets g x v e s1
  have h1 : Evaluates s s1 := (Evaluates.refl s).setConn _ _
  have h2 : Evaluates s1 (seeReset s1 2 (s1.time.tick + 1)) :=
    ⟨.of_safe rfl rfl rfl rfl rfl rfl (fun _ => ⟨rfl, rfl⟩) (fun _ => ⟨rfl, rfl, rfl, rfl⟩), rfl⟩
  (repeat' split)
  · exact h1.trans h2
  · exact h1
  · exact .refl s

theorem evalConns_evaluates (s : State) : Evaluates s (evalConns s) := by
  unfold evalConns
  refine .foldl _ _ s fun u e => ?_
  split
  · exact .refl u
  · have h1 : Evaluates u (setConn u e.1 { connSt u e.1 with arrived := [] }) := (Evaluates.refl u).setConn _ _
    have h2 := h1.trans (.foldl (connSt u e.1).arrived (fun v b => takeContainer e.1 e.2 v b.1) _ fun v b =>
      takeContainer_evaluates e.1 e.2 v b.1)
    exact h2.trans (connReset_evaluates _ e.1)

/-! ### Inputs and speeds (R370, R377, R387) -/

theorem evalSi_evaluates (s : State) (i : Nat) (d : SiDef) : Evaluates s (evalSi s i d) := by
  unfold evalSi
  extract_lets x dA dB hitA hitB hit fault raw waiting run s1 s2
  have h1 : Evaluates s s1 := (Evaluates.refl s).setSi ⟨rfl, rfl, rfl, rfl⟩
  have h2 : Evaluates s s2 := by
    unfold s2
    split
    · exact (h1.safeCount 3).raise _ _
    · exact h1
  split
  · exact h2.trans (compareFault_evaluates s2 i)
  · exact h2

theorem evalSpeed_evaluates (s : State) (j : Nat) (d : AxisDef) : Evaluates s (evalSpeed s j d) := by
  unfold evalSpeed
  split
  · split
    · exact (Evaluates.refl s).setAx ⟨rfl, rfl⟩
    · extract_lets x valid v vB run runA runB hit lead s1 s2 s3
      have h1 : Evaluates s s1 := (Evaluates.refl s).setAx ⟨rfl, rfl⟩
      have h2 : Evaluates s s2 := by
        unfold s2
        split
        · exact h1.raise _ _
        · exact h1
      have h3 : Evaluates s s3 := by
        unfold s3
        split
        · exact h2.raise _ _
        · exact h2
      split
      · exact h3.trans (compareFault_evaluates s3 _)
      · exact h3
  · exact .refl s

end Sys2Proof.Machine
end

section
/-! SUPPORT. What one safety channel decides for an axis, what both decide together, and what the partner's state adds (R370,
R380, R383, R385). -/

namespace Sys2Proof.Machine

/-! ### The decision of one channel (R385) -/

theorem axisSto_state (r : AxisRes) (j cause : Nat) : (axisSto r j cause).state = 3 := by
  unfold axisSto
  split
  · assumption
  · rfl

/-- A demand leaves STO, and takes an axis of FUNC 1 there from PERMITTED. -/
theorem axisTake_sto {d : AxisDef} {j now : Nat} {valid : Bool} {v : F64} {dem : Option (Nat × Bool)} {r : AxisRes}
    (h : r.state = 3 ∨ dem.isSome = true ∧ d.ss1 = false ∧ r.state = 1) :
    (axisTake d j now valid v dem r).state = 3 := by
  unfold axisTake
  rcases h with h | ⟨hd, hf, h⟩
  · cases dem <;> simp [h]
  · obtain ⟨e, rfl⟩ := Option.isSome_iff_exists.mp hd
    simp [hf, h, axisSto_state]

theorem axisSs1_other {d : AxisDef} {j now : Nat} {valid : Bool} {v : F64} {r : AxisRes} (h : r.state ≠ 2) :
    axisSs1 d j now valid v r = r := if_neg h

/-- An SS1 goes on, or ends in STO. -/
theorem axisSs1_state {d : AxisDef} {j now : Nat} {valid : Bool} {v : F64} {r : AxisRes} (h : r.state = 2) :
    (axisSs1 d j now valid v r).state = 2 ∨ (axisSs1 d j now valid v r).state = 3 := by
  unfold axisSs1
  rw [if_pos h]
  dsimp only
  (repeat' split) <;> simp [axisSto_state, h]

/-- The axis as one channel sees it before the decision. -/
def axisSeen (s : State) (j : Nat) (isB : Bool) : AxisRes :=
  let x := axSt s j
  ⟨x.state, x.cause, x.ts, if isB then x.v0B else x.v0, if isB then x.stopRunB else x.stopRun, x.env, []⟩

/-- A latched fault of the unit or of the permits asks for STO before anything else. -/
def axisFaulted (s : State) (j : Nat) (isB : Bool) : AxisRes :=
  if s.safe.compareFault then axisSto (axisSeen s j isB) j 8
  else if (axSt s j).pfaultA || (axSt s j).pfaultB then axisSto (axisSeen s j isB) j 9 else axisSeen s j isB

/-- Behind the faults, the demand of the tick, and then an SS1. -/
def axisMoved (s : State) (j : Nat) (d : AxisDef) (isB : Bool) : AxisRes :=
  let v := if isB then (axSt s j).vB else (axSt s j).v
  axisSs1 d j s.time.tick (axSt s j).valid v
    (axisTake d j s.time.tick (axSt s j).valid v (axisDemand s j d) (axisFaulted s j isB))

theorem axisDecide_eq (s : State) (j : Nat) (d : AxisDef) (isB : Bool) : axisDecide s j d isB =
    if (axisMoved s j d isB).state = 3 ∧ axisDemand s j d = none ∧ !axisFault s j ∧ (!d.manual || (axSt s j).released) then
      { axisMoved s j d isB with state := 1 }
    else axisMoved s j d isB := rfl

theorem axisFaulted_state (s : State) (j : Nat) (isB : Bool) : (axisFaulted s j isB).state = 3 ∨
    (axisFaulted s j isB).state = (axSt s j).state := by
  unfold axisFaulted
  (repeat' split) <;> simp [axisSto_state, axisSeen]

/-- A compare fault, or a demand on an axis of FUNC 1 that is PERMITTED or in STO: the channel decides for STO. -/
theorem axisDecide_sto {s : State} {j : Nat} {d : AxisDef} (isB : Bool) (h : s.safe.compareFault = true ∨
    (axisDemand s j d).isSome = true ∧ d.ss1 = false ∧ (axSt s j).state = 1) : (axisDecide s j d isB).state = 3 := by
  have hm : (axisMoved s j d isB).state = 3 := by
    unfold axisMoved
    have ht : (axisTake d j s.time.tick (axSt s j).valid (if isB then (axSt s j).vB else (axSt s j).v) (axisDemand s j d)
        (axisFaulted s j isB)).state = 3 := by
      refine axisTake_sto ?_
      rcases h with h | ⟨hd, hf, h⟩
      · exact .inl (by simp [axisFaulted, h, axisSto_state])
      · exact (axisFaulted_state s j isB).imp_right fun e => ⟨hd, hf, e.trans h⟩
    rw [axisSs1_other (by simp [ht]), ht]
  have hn : ¬ (axisDemand s j d = none ∧ (!axisFault s j) = true) := by
    rintro ⟨hd, hf⟩
    rcases h with h | ⟨hs, -⟩
    · simp [axisFault, h] at hf
    · simp [hd] at hs
  rw [axisDecide_eq, if_neg (fun hc => hn ⟨hc.2.1, hc.2.2.1⟩), hm]

/-- Without a demand and a fault an axis of RESTART 0 does not stay in STO. -/
theorem axisDecide_free {s : State} {j : Nat} {d : AxisDef} (isB : Bool) (hd : axisDemand s j d = none)
    (hf : axisFault s j = false) (hm : d.manual = false) (hs : (axSt s j).state ∈ [1, 2, 3]) :
    (axisDecide s j d isB).state = 1 ∨ (axisDecide s j d isB).state = 2 := by
  have hseen : axisFaulted s j isB = axisSeen s j isB := by
    simp only [axisFault, Bool.or_eq_false_iff] at hf
    obtain ⟨⟨⟨hc, -⟩, hA⟩, hB⟩ := hf
    simp [axisFaulted, hc, hA, hB]
  have hmoved : (axisMoved s j d isB).state ∈ [1, 2, 3] := by
    unfold axisMoved
    rw [hseen, hd]
    show (axisSs1 d j _ _ _ (axisSeen s j isB)).state ∈ _
    by_cases h2 : (axSt s j).state = 2
    · rcases axisSs1_state (d := d) (j := j) (now := s.time.tick) (valid := (axSt s j).valid)
        (v := if isB then (axSt s j).vB else (axSt s j).v) (r := axisSeen s j isB) h2 with h | h <;> simp [h]
    · rw [axisSs1_other (r := axisSeen s j isB) h2]
      exact hs
  rw [axisDecide_eq]
  split
  · exact .inl rfl
  next h =>
    have h3 : (axisMoved s j d isB).state ≠ 3 := fun h3 => h ⟨h3, hd, by simp [hf], by simp [hm]⟩
    simpa [h3] using hmoved

/-! ### One axis at phase 35 µs -/

/-- A step of the decision for the axes: of the safety state it changes the axes and the counters. -/
structure AxesOnly (s t : State) : Prop where
  md : t.md = s.md
  image : theImage t = theImage s
  time : t.time = s.time
  safe : t.safe = { s.safe with axis := t.safe.axis, counters := t.safe.counters }

theorem AxesOnly.refl (s : State) : AxesOnly s s := ⟨rfl, rfl, rfl, rfl⟩

theorem AxesOnly.trans {s t u : State} (h : AxesOnly s t) (k : AxesOnly t u) : AxesOnly s u :=
  ⟨k.md.trans h.md, k.image.trans h.image, k.time.trans h.time, k.safe.trans
    (congrArg (fun f : SafetySt => { f with axis := u.safe.axis, counters := u.safe.counters }) h.safe)⟩

/-- A step that decides for one axis, and clears or sets none of its latched faults. -/
structure AtAxis (j : Nat) (s t : State) : Prop extends AxesOnly s t where
  others : ∀ k, k ≠ j → axSt t k = axSt s k
  faults : (axSt t j).xchk = (axSt s j).xchk ∧ (axSt t j).pfaultA = (axSt s j).pfaultA ∧
    (axSt t j).pfaultB = (axSt s j).pfaultB

theorem AtAxis.refl (j : Nat) (s : State) : AtAxis j s s := ⟨.refl s, fun _ _ => rfl, rfl, rfl, rfl⟩

theorem AtAxis.trans {j : Nat} {s t u : State} (h : AtAxis j s t) (k : AtAxis j t u) : AtAxis j s u where
  toAxesOnly := h.toAxesOnly.trans k.toAxesOnly
  others i hi := (k.others i hi).trans (h.others i hi)
  faults :=
    have ⟨hx, hA, hB⟩ := h.faults
    have ⟨kx, kA, kB⟩ := k.faults
    ⟨kx.trans hx, kA.trans hA, kB.trans hB⟩

theorem AtAxis.raise {j : Nat} {s t : State} (h : AtAxis j s t) (ev : Nat) (arg : List W32) : AtAxis j s (raise t ev arg) :=
  h.trans ⟨⟨by simp, by simp, by simp, by simp⟩, by simp, by simp⟩

theorem AtAxis.safeCount {j : Nat} {s t : State} (h : AtAxis j s t) (i : Nat) : AtAxis j s (safeCount t i) :=
  h.trans ⟨⟨rfl, rfl, rfl, rfl⟩, fun _ _ => rfl, rfl, rfl, rfl⟩

theorem AtAxis.setAx {j : Nat} {s t : State} (h : AtAxis j s t) {x : AxisSt} (hx : x.xchk = (axSt t j).xchk ∧
    x.pfaultA = (axSt t j).pfaultA ∧ x.pfaultB = (axSt t j).pfaultB) : AtAxis j s (setAx t j x) :=
  h.trans ⟨⟨rfl, rfl, rfl, rfl⟩, fun k hk => axSt_setAx_ne t j k x hk, by rwa [axSt_setAx_self]⟩

/-- The own decision is one of the two channels' decisions, and leaves what the partner has told. -/
theorem axisOwn_parts (s : State) (j : Nat) (d : AxisDef) : AtAxis j s (axisOwn s j d) ∧
    (axSt (axisOwn s j d) j).partner = (axSt s j).partner ∧
    ∃ isB, (axSt (axisOwn s j d) j).state = (axisDecide s j d isB).state := by
  unfold axisOwn
  extract_lets x ra rb r began startB s1 s2
  have h1 : AtAxis j s s1 := (AtAxis.refl j s).setAx ⟨rfl, rfl, rfl⟩
  have hr : ∃ isB, r = axisDecide s j d isB := by
    unfold r
    (repeat' split)
    · exact ⟨true, rfl⟩
    · exact ⟨false, rfl⟩
    · exact ⟨true, rfl⟩
    · exact ⟨false, rfl⟩
  have hx : axSt s2 j = axSt s1 j := by
    unfold s2
    split <;> rfl
  have h2 : AtAxis j s s2 := by
    unfold s2
    split
    · exact h1.safeCount 0
    · exact h1
  refine foldl_inv (P := fun u => AtAxis j s u ∧ (axSt u j).partner = (axSt s j).partner ∧
    ∃ isB, (axSt u j).state = (axisDecide s j d isB).state) _ _ s2 ⟨h2, ?_, ?_⟩ fun u e ⟨ha, hp, hs⟩ => ?_
  · rw [hx, axSt_setAx_self]
  · rw [hx, axSt_setAx_self]
    exact hr.imp fun isB h => congrArg AxisRes.state h
  · extract_lets u1
    have hu : AtAxis j s u1 ∧ axSt u1 j = axSt u j := by
      unfold u1
      (repeat' split)
      · exact ⟨ha.safeCount 1, rfl⟩
      · exact ⟨ha.safeCount 2, rfl⟩
      · exact ⟨ha, rfl⟩
    rw [axSt_raise, hu.2]
    exact ⟨hu.1.raise _ _, hp, hs⟩

/-- Without the partner's data its adoption leaves the state; STO it never leaves (R383). -/
theorem axisAdopt_parts (s : State) (j before own0 : Nat) : AtAxis j s (axisAdopt s j before own0) ∧
    ((axSt s j).partner = none → (axSt (axisAdopt s j before own0) j).state = (axSt s j).state) ∧
    ((axSt s j).state = 3 → (axSt (axisAdopt s j before own0) j).state = 3) := by
  unfold axisAdopt
  extract_lets x
  have h0 : AtAxis j s s := .refl j s
  split
  next hn =>
    rw [axSt_setAx_self]
    exact ⟨h0.setAx ⟨rfl, rfl, rfl⟩, fun _ => rfl, id⟩
  next ps pts pv hp =>
    extract_lets run y s1 s2 s3 s4
    have hnone : (axSt s j).partner ≠ none := by simp [show (axSt s j).partner = _ from hp]
    have h1 : AtAxis j s s1 := h0.setAx ⟨rfl, rfl, rfl⟩
    have h2 : AtAxis j s s2 ∧ axSt s2 j = y := by
      unfold s2
      split
      · exact ⟨h1.raise _ _, by rw [axSt_raise]; exact axSt_setAx_self s j y⟩
      · exact ⟨h1, axSt_setAx_self s j y⟩
    obtain ⟨h2, hy⟩ := h2
    have hset : ∀ z : AxisSt, z.xchk = x.xchk ∧ z.pfaultA = x.pfaultA ∧ z.pfaultB = x.pfaultB → AtAxis j s (setAx s2 j z) :=
      fun z hz => h2.setAx (by rwa [hy])
    have hgoes : ∀ u, AtAxis j s u ∧ ((axSt s j).state = 3 → (axSt u j).state = 3) → AtAxis j s u ∧
        ((axSt s j).partner = none → (axSt u j).state = (axSt s j).state) ∧
        ((axSt s j).state = 3 → (axSt u j).state = 3) := fun u ⟨ha, h3⟩ => ⟨ha, fun h => absurd h hnone, h3⟩
    have hsto : ∀ cause, AtAxis j s (setAx s2 j { y with state := 3, cause := cause }) ∧
        (axSt (setAx s2 j { y with state := 3, cause := cause }) j).state = 3 := fun _ =>
      ⟨hset _ ⟨rfl, rfl, rfl⟩, by rw [axSt_setAx_self]⟩
    refine hgoes _ ?_
    split
    · exact ⟨h2, fun h3 => by rw [hy]; exact h3⟩
    next hps =>
      split
      next h2' =>
        have hlow : (axSt s j).state ≠ 3 := fun h3 => hps (by rw [h2']; exact h3 ▸ (by decide : 2 ≤ 3))
        have h3 : AtAxis j s s3 := hset _ ⟨rfl, rfl, rfl⟩
        split
        · exact ⟨h3, fun h => absurd h hlow⟩
        · exact ⟨(h3.safeCount 1).raise _ _, fun h => absurd h hlow⟩
      · split
        · exact ⟨(hsto y.cause).1, fun _ => (hsto y.cause).2⟩
        · split
          · exact ⟨(hsto 3).1.raise _ _, fun _ => by rw [axSt_raise]; exact (hsto 3).2⟩
          · exact ⟨(hsto 3).1, fun _ => (hsto 3).2⟩

theorem axisSwitches_parts (s : State) (j : Nat) : AtAxis j s (axisSwitches s j) ∧
    (axSt (axisSwitches s j) j).state = (axSt s j).state ∧
    (axSt (axisSwitches s j) j).swA = (permitsFollow s.md.mode && ((axSt s j).state == 1 || (axSt s j).state == 2)) ∧
    (axSt (axisSwitches s j) j).swB = (axSt (axisSwitches s j) j).swA := by
  unfold axisSwitches
  extract_lets x on
  rw [axSt_setAx_self]
  refine ⟨(AtAxis.refl j s).setAx ⟨rfl, rfl, rfl⟩, rfl, ?_, rfl⟩
  show on = _
  unfold on permitsFollow
  ac_rfl

/-- The decision for one axis: both switches follow its state, a decision for STO of both channels stands, and where the
partner has told nothing one of the channels' decisions does. -/
theorem evalAxis_parts (s : State) (j : Nat) (d : AxisDef) : AtAxis j s (evalAxis s j d) ∧
    (axSt (evalAxis s j d) j).swA = (permitsFollow s.md.mode &&
      ((axSt (evalAxis s j d) j).state == 1 || (axSt (evalAxis s j d) j).state == 2)) ∧
    (axSt (evalAxis s j d) j).swB = (axSt (evalAxis s j d) j).swA ∧
    ((∀ isB, (axisDecide s j d isB).state = 3) → (axSt (evalAxis s j d) j).state = 3) ∧
    ((axSt s j).partner = none → ∃ isB, (axSt (evalAxis s j d) j).state = (axisDecide s j d isB).state) := by
  unfold evalAxis
  extract_lets before own0
  obtain ⟨ho, hop, isB, hos⟩ := axisOwn_parts s j d
  obtain ⟨ha, han, hat⟩ := axisAdopt_parts (axisOwn s j d) j before own0
  generalize axisAdopt (axisOwn s j d) j before own0 = u at ha han hat ⊢
  obtain ⟨hw, hws, hwA, hwB⟩ := axisSwitches_parts u j
  have hmd : u.md = s.md := ha.md.trans ho.md
  refine ⟨(ho.trans ha).trans hw, ?_, hwB, fun h => ?_, fun h => ⟨isB, ?_⟩⟩
  · rw [hwA, hws, hmd]
  · rw [hws]
    exact hat (hos.trans (h isB))
  · rw [hws, han (hop.trans h), hos]

end Sys2Proof.Machine
end

section
/-! The decision of phase 35 µs (R370 to R372, R380, R385, R393, R394). -/

namespace Sys2Proof.Machine

/-! ### All axes -/

/-- The demand on an axis is read from the inputs, the connections, the countdown and the cross-check. -/
theorem axisDemand_congr {s t : State} {j : Nat} (himg : theImage t = theImage s) (hsi : t.safe.si = s.safe.si)
    (hconn : t.safe.conn = s.safe.conn) (hexp : t.safe.expired = s.safe.expired)
    (hx : (axSt t j).xchk = (axSt s j).xchk) (d : AxisDef) : axisDemand t j d = axisDemand s j d := by
  simp only [axisDemand, himg, hexp, hx, siSt_of_safe hsi, connSt_of_safe hconn]

theorem axisFault_congr {s t : State} {j : Nat} (hc : t.safe.compareFault = s.safe.compareFault)
    (hf : (axSt t j).xchk = (axSt s j).xchk ∧ (axSt t j).pfaultA = (axSt s j).pfaultA ∧
      (axSt t j).pfaultB = (axSt s j).pfaultB) : axisFault t j = axisFault s j := by
  simp only [axisFault, hc, hf]

/-- What the decision has made of one axis, from the state in which every input and speed is evaluated. -/
structure Decided (s : State) (e : Nat × AxisDef) (t : State) : Prop extends AxesOnly s t where
  faults : (axSt t e.1).xchk = (axSt s e.1).xchk ∧ (axSt t e.1).pfaultA = (axSt s e.1).pfaultA ∧
    (axSt t e.1).pfaultB = (axSt s e.1).pfaultB
  swA : (axSt t e.1).swA = (permitsFollow s.md.mode && ((axSt t e.1).state == 1 || (axSt t e.1).state == 2))
  swB : (axSt t e.1).swB = (axSt t e.1).swA
  sto : s.safe.compareFault = true ∨ (axisDemand s e.1 e.2).isSome = true ∧ e.2.ss1 = false ∧ (axSt s e.1).state = 1 →
    (axSt t e.1).state = 3
  free : axisDemand s e.1 e.2 = none → axisFault s e.1 = false → e.2.manual = false → (axSt s e.1).partner = none →
    (axSt s e.1).state ∈ [1, 2, 3] → (axSt t e.1).state = 1 ∨ (axSt t e.1).state = 2

theorem evalAxis_decided {s u : State} {e : Nat × AxisDef} (h : AxesOnly s u) (hx : axSt u e.1 = axSt s e.1) :
    Decided s e (evalAxis u e.1 e.2) := by
  obtain ⟨ha, hA, hB, hsto, hfree⟩ := evalAxis_parts u e.1 e.2
  have hdem : axisDemand u e.1 e.2 = axisDemand s e.1 e.2 :=
    axisDemand_congr h.image (by rw [h.safe]) (by rw [h.safe]) (by rw [h.safe]) (by rw [hx]) e.2
  have hcf : u.safe.compareFault = s.safe.compareFault := by rw [h.safe]
  have hfault : axisFault u e.1 = axisFault s e.1 := axisFault_congr hcf (by rw [hx]; exact ⟨rfl, rfl, rfl⟩)
  refine ⟨h.trans ha.toAxesOnly, ?_, ?_, hB, fun hs => hsto fun isB => axisDecide_sto isB ?_, fun hd hf hm hp hs => ?_⟩
  · rw [← hx]
    exact ha.faults
  · rw [hA, h.md]
  · rwa [hcf, hdem, hx]
  · obtain ⟨isB, hs'⟩ := hfree (by rw [hx, hp])
    rw [hs']
    exact axisDecide_free isB (hdem.trans hd) (hfault.trans hf) hm (by rwa [hx])

theorem Decided.other {s t : State} {e : Nat × AxisDef} (h : Decided s e t) {j : Nat} (hj : j ≠ e.1) (d : AxisDef) :
    Decided s e (evalAxis t j d) := by
  obtain ⟨ha, -⟩ := evalAxis_parts t j d
  have hx : axSt (evalAxis t j d) e.1 = axSt t e.1 := ha.others e.1 hj.symm
  obtain ⟨hax, hf, hA, hB, hs, hfr⟩ := h
  refine ⟨hax.trans ha.toAxesOnly, ?_, ?_, ?_, ?_, ?_⟩ <;> rwa [hx]

/-- Every used axis is decided by the same inputs, connections and speeds. -/
theorem evalAxes_decided {s : State} {e : Nat × AxisDef} (he : e ∈ axisDefs (theImage s)) :
    Decided s e ((axisDefs (theImage s)).foldl (fun u c => evalAxis u c.1 c.2) s) := by
  refine foldl_at_key (axisDefs_nodup _) he (R := fun u => AxesOnly s u ∧ axSt u e.1 = axSt s e.1) (P := Decided s e)
    (fun u c hc ⟨h, hx⟩ => ?_) (fun u ⟨h, hx⟩ => evalAxis_decided h hx) (fun u c hc h => h.other hc c.2) ⟨.refl s, rfl⟩
  obtain ⟨ha, -⟩ := evalAxis_parts u c.1 c.2
  exact ⟨h.trans ha.toAxesOnly, (ha.others e.1 hc.symm).trans hx⟩

theorem evalAxes_only (l : List (Nat × AxisDef)) (s : State) :
    AxesOnly s (l.foldl (fun u c => evalAxis u c.1 c.2) s) :=
  foldl_inv (P := AxesOnly s) l _ s (.refl s) fun u c h => h.trans (evalAxis_parts u c.1 c.2).1.toAxesOnly

/-! ### The inputs -/

theorem compareFault_si (s : State) (datum : Nat) : (compareFault s datum).safe.si = s.safe.si := by
  unfold compareFault
  split
  · rfl
  · rw [(oasisReaction_reacts _).safe]
    simp

/-- An input demands at its evaluation where channel A sees one of its channels open. -/
theorem evalSi_demand {s : State} {i : Nat} (d : SiDef) (hA : s.safe.chA = true)
    (hraw : siRaw (siSt s i) (siSt s i).a (siSt s i).b = true) : (siSt (evalSi s i d) i).demand = true := by
  unfold evalSi
  extract_lets x dA dB hitA hitB hit fault raw waiting run s1 s2
  have hx : siSt s2 i = siSt s1 i := by
    unfold s2
    split
    · rw [siSt_raise, siSt_safeCount]
    · rfl
  have hd : (siSt s2 i).demand = true := by
    rw [hx, siSt_setSi_self]
    simp [raw, hA, x, hraw]
  split
  · rwa [siSt_of_safe (compareFault_si s2 i)]
  · exact hd

theorem evalSi_others (s : State) {i k : Nat} (d : SiDef) (h : k ≠ i) : siSt (evalSi s i d) k = siSt s k := by
  unfold evalSi
  extract_lets x dA dB hitA hitB hit fault raw waiting run s1 s2
  have hx : siSt s2 k = siSt s k := by
    unfold s2
    split
    · rw [siSt_raise, siSt_safeCount]
      exact siSt_setSi_ne s i k _ h
    · exact siSt_setSi_ne s i k _ h
  split
  · exact (siSt_of_safe (compareFault_si s2 i) k).trans hx
  · exact hx

theorem evalSpeed_si (s : State) (j : Nat) (d : AxisDef) : (evalSpeed s j d).safe.si = s.safe.si := by
  unfold evalSpeed
  split
  · split
    · rfl
    · extract_lets x valid v vB run runA runB hit lead s1 s2 s3
      have h1 : s1.safe.si = s.safe.si := rfl
      have h3 : s3.safe.si = s.safe.si := by
        unfold s3 s2
        (repeat' split) <;> simp [h1]
      split
      · exact (compareFault_si s3 _).trans h3
      · exact h3
  · rfl

/-! ### The command -/

/-- The decision of a tick begins: one a tick. -/
def deciding (s : State) : State := { setPhase s 35000 with safe := { s.safe with evalTick := some s.time.tick } }

/-- Losses, ring data and inputs are evaluated. -/
def judged (s : State) : State :=
  (siDefs (theImage (evalConns s))).foldl (fun s e => evalSi s e.1 e.2) (evalConns s)

/-- The speeds are evaluated. -/
def measured (s : State) : State := (axisDefs (theImage s)).foldl (fun s e => evalSpeed s e.1 e.2) s

/-- The axes are decided. -/
def axesDecided (s : State) : State := (axisDefs (theImage s)).foldl (fun s e => evalAxis s e.1 e.2) s

/-- Whether the partner's states differ is noted (R383). -/
def mismatchNoted (s : State) : State :=
  { s with safe := { s.safe with pairMismatch := (axisDefs (theImage s)).any fun e => (axSt s e.1).mismatch != 0 } }

/-- What follows for the mode (R67, R393, R394). -/
def modeDecided (s : State) (lost : Bool) : State :=
  let s := if lost || (s.md.mode == .run && s.safe.expiry.isSome) then degradedMode s else s
  if s.md.mode == .degraded && s.safe.expired && allSto s then oasisReaction s else s

/-- The state by which the axes are decided. -/
def weighed (s : State) (la lb : Nat) (da db : Bool) : State := measured (judged (safeLosses (deciding s) la lb da db))

theorem execSafetyDecision_due {s : State} (la lb : Nat) (da db : Bool) (he : evaluates s.md.mode = true)
    (ht : s.safe.evalTick ≠ some s.time.tick) : exec (.safetyDecision la lb da db) s = .next
      (modeDecided (mismatchNoted (sendAxes (axesDecided (weighed s la lb da db))))
        (((safeLosses (deciding s) la lb da db).safe.chA, (safeLosses (deciding s) la lb da db).safe.chB) !=
          (s.safe.chA, s.safe.chB))) := by
  have hd : ¬ (!evaluates s.md.mode || s.safe.evalTick == some s.time.tick) = true := by simp [he, ht]
  show execSafetyDecision la lb da db s = _
  unfold execSafetyDecision
  extract_lets s1 e s2 had s3 lost s4 s5 s6 s7 s8 p s9 s10
  rw [if_neg hd]
  have h3 : s3 = safeLosses (deciding s) la lb da db := rfl
  have h5 : s5 = judged s3 := rfl
  have h6 : s6 = measured s5 := rfl
  have h7 : s7 = axesDecided s6 := rfl
  have h8 : s8 = sendAxes s7 := rfl
  have h9 : s9 = mismatchNoted s8 := rfl
  have hend : (if (s10.md.mode == .degraded && s10.safe.expired && allSto s10) = true then oasisReaction s10 else s10) =
    modeDecided s9 lost := rfl
  rw [weighed, ← h3, ← h5, ← h6, ← h7, ← h8, ← h9]
  exact congrArg Host.Outcome.next hend

theorem execSafetyDecision_idle {s : State} (la lb : Nat) (da db : Bool)
    (h : s.safe.evalTick = some s.time.tick ∨ evaluates s.md.mode = false) :
    exec (.safetyDecision la lb da db) s = .next s := by
  show execSafetyDecision la lb da db s = _
  exact congrArg Host.Outcome.next (if_pos (by rcases h with h | h <;> simp [h]))

theorem Evaluates.chA {s t : State} (h : Evaluates s t) : t.safe.chA = s.safe.chA := congrArg Prod.fst h.channels

theorem judged_evaluates (s : State) : Evaluates s (judged s) :=
  (evalConns_evaluates s).trans (.foldl _ _ _ fun u e => evalSi_evaluates u e.1 e.2)

theorem measured_evaluates (s : State) : Evaluates s (measured s) := .foldl _ _ s fun u e => evalSpeed_evaluates u e.1 e.2

theorem measured_si (s : State) : (measured s).safe.si = s.safe.si :=
  foldl_inv (P := fun u => u.safe.si = s.safe.si) _ _ s rfl fun u e h => (evalSpeed_si u e.1 e.2).trans h

theorem weighed_evaluates (s : State) (la lb : Nat) (da db : Bool) :
    Evaluates (safeLosses (deciding s) la lb da db) (weighed s la lb da db) :=
  (judged_evaluates _).trans (measured_evaluates _)

theorem deciding_weighs (s : State) (la lb : Nat) (da db : Bool) : Weighs (deciding s) (weighed s la lb da db) :=
  (safeLosses_weighs _ la lb da db).trans (weighed_evaluates s la lb da db).toWeighs

theorem weighed_channels (s : State) (la lb : Nat) (da db : Bool) :
    channels (weighed s la lb da db) = channels (safeLosses (deciding s) la lb da db) :=
  (weighed_evaluates s la lb da db).channels

/-! ### Behind the axes -/

/-- What follows a decision for the axes: of the safety state no more than the difference to the partner is noted. -/
structure Concludes (s t : State) : Prop where
  image : theImage t = theImage s
  follow : permitsFollow t.md.mode = permitsFollow s.md.mode
  safe : t.safe = { s.safe with pairMismatch := t.safe.pairMismatch }

theorem Reacts.trans {s t u : State} (h : Reacts s t) (k : Reacts t u) : Reacts s u :=
  ⟨k.image.trans h.image, k.safe.trans h.safe, k.time.trans h.time, k.role.trans h.role, k.follow.trans h.follow⟩

theorem modeDecided_reacts (s : State) (lost : Bool) : Reacts s (modeDecided s lost) := by
  unfold modeDecided
  extract_lets u
  have hu : Reacts s u := by
    unfold u
    split
    · exact degradedMode_reacts s
    · exact .refl s
  split
  · exact hu.trans (oasisReaction_reacts u)
  · exact hu

/-- The axes are sent and compared: the mode stays, and of the safety state the difference alone is noted. -/
theorem mismatchNoted_keeps (s : State) : (mismatchNoted (sendAxes s)).md = s.md ∧
    theImage (mismatchNoted (sendAxes s)) = theImage s ∧ (mismatchNoted (sendAxes s)).safe =
      { s.safe with pairMismatch := (mismatchNoted (sendAxes s)).safe.pairMismatch } := by
  simp [mismatchNoted, theImage]

theorem modeDecided_concludes (s : State) (lost : Bool) :
    Concludes s (modeDecided (mismatchNoted (sendAxes s)) lost) := by
  have h := modeDecided_reacts (mismatchNoted (sendAxes s)) lost
  obtain ⟨hmd, himg, hsafe⟩ := mismatchNoted_keeps s
  exact ⟨h.image.trans himg, h.follow.trans (by rw [hmd]), by rw [h.safe, hsafe]⟩

/-- RUN with a channel newly lost: DEGRADED, or OASIS once the countdown has expired; a unit in OASIS stays (R67, R393,
R394). -/
theorem modeDecided_lost {s : State} (hc : inControl s = true) :
    (s.md.mode = .run → (modeDecided s true).md.mode = .degraded ∨
      (modeDecided s true).md.mode = .oasis ∧ s.safe.expired = true) ∧
    (s.md.mode = .oasis → (modeDecided s true).md.mode = .oasis) := by
  have hr := degradedMode_reacts s
  refine ⟨fun hm => ?_, fun hm => ?_⟩
  · have hd := degradedMode_run hc hm
    simp only [modeDecided, Bool.true_or, if_true]
    split
    next h =>
      simp only [Bool.and_eq_true, hr.safe] at h
      exact (oasisReaction_mode _).imp (·.trans hd) fun ho => ⟨ho, h.1.2⟩
    · exact .inl hd
  · have hd : degradedMode s = s := by simp [degradedMode, hc, hm]
    simp [modeDecided, hd, hm]

/-- The decision of a tick, from the state that the losses, ring data, inputs and speeds have left. -/
structure SafetyDecided (s : State) (la lb : Nat) (da db : Bool) (t : State) : Prop where
  run : exec (.safetyDecision la lb da db) s = .next t
  image : theImage t = theImage s
  follow : permitsFollow t.md.mode = permitsFollow (weighed s la lb da db).md.mode
  safe : t.safe = { (weighed s la lb da db).safe with
    axis := t.safe.axis, counters := t.safe.counters, pairMismatch := t.safe.pairMismatch }
  axis : ∀ e ∈ axisDefs (theImage s), Decided (weighed s la lb da db) e (axesDecided (weighed s la lb da db)) ∧
    axSt t e.1 = axSt (axesDecided (weighed s la lb da db)) e.1

theorem safetyDecided {s : State} (la lb : Nat) (da db : Bool) (he : evaluates s.md.mode = true)
    (ht : s.safe.evalTick ≠ some s.time.tick) : SafetyDecided s la lb da db
      (modeDecided (mismatchNoted (sendAxes (axesDecided (weighed s la lb da db))))
        (((safeLosses (deciding s) la lb da db).safe.chA, (safeLosses (deciding s) la lb da db).safe.chB) !=
          (s.safe.chA, s.safe.chB))) := by
  have hrun := execSafetyDecision_due la lb da db he ht
  generalize (((safeLosses (deciding s) la lb da db).safe.chA, (safeLosses (deciding s) la lb da db).safe.chB) !=
    (s.safe.chA, s.safe.chB)) = lost at hrun ⊢
  have himg : theImage (weighed s la lb da db) = theImage s := (deciding_weighs s la lb da db).image
  have hc := modeDecided_concludes (axesDecided (weighed s la lb da db)) lost
  have ha : AxesOnly (weighed s la lb da db) (axesDecided (weighed s la lb da db)) := evalAxes_only _ _
  refine ⟨hrun, hc.image.trans (ha.image.trans himg), hc.follow.trans (by rw [ha.md]), ?_, fun e hm => ⟨?_, ?_⟩⟩
  · rw [hc.safe, ha.safe]
  · exact evalAxes_decided (by rwa [himg])
  · exact axSt_of_safe (by rw [hc.safe]) e.1

/-! ### The obligation's clauses -/

theorem safetyDecision_permits {s t : State} {la lb : Nat} {da db : Bool} (h : SafetyDecided s la lb da db t)
    {e : Nat × AxisDef} (he : e ∈ axisDefs (theImage s)) :
    (axSt t e.1).swA = (evaluates t.md.mode && t.md.mode != .sync &&
      ((axSt t e.1).state == 1 || (axSt t e.1).state == 2)) ∧
    (axSt t e.1).swB = (axSt t e.1).swA ∧ (t.safe.compareFault = true → (axSt t e.1).state = 3) ∧
    (axisDemand t e.1 e.2 = none → axisFault t e.1 = false → e.2.manual = false → (axSt s e.1).partner = none →
      (axSt s e.1).state ∈ [1, 2, 3] → (axSt t e.1).state = 1 ∨ (axSt t e.1).state = 2) := by
  obtain ⟨-, himg, hfol, hsafe, hax⟩ := h
  obtain ⟨hd, hx⟩ := hax e he
  have hw := deciding_weighs s la lb da db
  obtain ⟨hstate, hpartner⟩ := hw.axis e.1
  have hcf : t.safe.compareFault = (weighed s la lb da db).safe.compareFault := by rw [hsafe]
  refine ⟨?_, by rw [hx, hd.swB], fun hc => ?_, fun hdem hf hm hp hs => ?_⟩
  · rw [hx, hd.swA, ← hfol]
    rfl
  · rw [hx]
    exact hd.sto (.inl (hcf.symm.trans hc))
  · have hdem' := axisDemand_congr (t := t) (himg.trans hw.image.symm) (by rw [hsafe]) (by rw [hsafe]) (by rw [hsafe])
      (by rw [hx]; exact hd.faults.1) e.2
    have hf' := axisFault_congr hcf (by rw [hx]; exact hd.faults)
    rw [hx]
    exact hd.free (hdem'.symm.trans hdem) (hf'.symm.trans hf) hm (hpartner.trans hp) (by rwa [hstate])

/-- Where channel A stays live and sees an input open, the input demands once the inputs are evaluated. -/
theorem weighed_demand {s : State} (lb : Nat) (db : Bool) {i : Nat} {d : SiDef} (hi : (i, d) ∈ siDefs (theImage s))
    (hA : s.safe.chA = true) (hraw : siRaw (siSt s i) (siSt s i).a (siSt s i).b = true) :
    (siSt (weighed s 0 lb true db) i).demand = true := by
  rw [weighed, siSt_of_safe (measured_si _)]
  have hl : Weighs (deciding s) (safeLosses (deciding s) 0 lb true db) := safeLosses_weighs _ _ _ _ _
  have hc := evalConns_evaluates (safeLosses (deciding s) 0 lb true db)
  have hw := hl.trans hc.toWeighs
  have hlA : (safeLosses (deciding s) 0 lb true db).safe.chA = true := (safeLosses_keeps_A (deciding s) lb db).trans hA
  have hcA : (evalConns (safeLosses (deciding s) 0 lb true db)).safe.chA = true := hc.chA.trans hlA
  unfold judged
  refine foldl_at_key (siDefs_nodup _) (b := (i, d)) (by rwa [hw.image])
    (R := fun u => Weighs (deciding s) u ∧ u.safe.chA = true) (P := fun u => (siSt u i).demand = true)
    (fun u c _ ⟨hu, ha⟩ => ?_) (fun u ⟨hu, ha⟩ => ?_) (fun u c hc hu => ?_) ⟨hw, hcA⟩
  · have he := evalSi_evaluates u c.1 c.2
    exact ⟨hu.trans he.toWeighs, he.chA.trans ha⟩
  · obtain ⟨xa, xb, xlA, xlB⟩ := hu.reading i
    refine evalSi_demand d ha ?_
    rw [siRaw, xa, xb, xlA, xlB]
    exact hraw
  · rwa [evalSi_others u c.2 hc.symm]

/-- An input that demands is a demand on the axes that name it. -/
theorem axisDemand_of_input {s : State} {i j : Nat} {d : SiDef} {ax : AxisDef} (hi : (i, d) ∈ siDefs (theImage s))
    (hd : (siSt s i).demand = true) (hb : ax.demand.testBit i = true) : (axisDemand s j ax).isSome = true := by
  have hany : (siDefs (theImage s)).any (fun e => ax.demand.testBit e.1 && (siSt s e.1).demand) = true :=
    List.any_eq_true.mpr ⟨_, hi, by simp [hd, hb]⟩
  simp only [axisDemand, hany, if_true]
  split <;> rfl

theorem safetyDecision_demands {s t : State} {lb : Nat} {db : Bool} (h : SafetyDecided s 0 lb true db t)
    {i : Nat} {d : SiDef} {j : Nat} {ax : AxisDef} (hi : (i, d) ∈ siDefs (theImage s))
    (hj : (j, ax) ∈ axisDefs (theImage s)) (hA : s.safe.chA = true)
    (hraw : siRaw (siSt s i) (siSt s i).a (siSt s i).b = true) (hf : ax.ss1 = false) (hb : ax.demand.testBit i = true)
    (hs : (axSt s j).state = 1) :
    (siSt t i).demand = true ∧ (axSt t j).state = 3 ∧ (axSt t j).swA = false ∧ (axSt t j).swB = false := by
  have hdem := weighed_demand lb db hi hA hraw
  have hw := deciding_weighs s 0 lb true db
  obtain ⟨hd, hx⟩ := h.axis (j, ax) hj
  have h3 := hd.sto (.inr ⟨axisDemand_of_input (by rwa [hw.image]) hdem hb, hf, (hw.axis j).1.trans hs⟩)
  have hswA := hd.swA
  rw [h3] at hswA
  have hswA : (axSt t j).swA = false := by rw [hx, hswA]; simp
  refine ⟨?_, by rw [hx, h3], hswA, ?_⟩
  · rwa [siSt_of_safe (s := weighed s 0 lb true db) (by rw [h.safe])]
  · rw [hx] at hswA ⊢
    rw [hd.swB, hswA]

/-- The first loss of a channel in RUN (R371, R393, R394). -/
theorem safetyDecision_loses {s : State} {la : Nat} (lb : Nat) (da db : Bool) (hm : s.md.mode = .run)
    (hc : inControl s = true) (ht : s.safe.evalTick ≠ some s.time.tick) (hA : s.safe.chA = true) (hl : la ≠ 0) :
    ∃ t, exec (.safetyDecision la lb da db) s = .next t ∧ t.safe.chA = false ∧
      t.safe.loss = (if s.safe.loss = 0 then 1 else s.safe.loss) ∧ (t.md.mode = .degraded ∨ t.md.mode = .oasis) ∧
      (t.safe.compareFault = false → s.safe.expired = false → t.md.mode = .degraded) ∧
      t.safe.expiry = some (s.safe.expiry.getD (s.time.ns + 35000 + degHours (theImage s) * 3600 * 10 ^ 9)) := by
  have h := safetyDecided la lb da db (by rw [hm]; rfl) ht
  obtain ⟨lA, ll, le⟩ := safeLosses_loses_A lb da db (s := deciding s) hc hA hl
  have hch := weighed_channels s la lb da db
  have hw := deciding_weighs s la lb da db
  have ha : AxesOnly (weighed s la lb da db) (axesDecided (weighed s la lb da db)) := evalAxes_only _ _
  rw [lA, hA, show ((false, (safeLosses (deciding s) la lb da db).safe.chB) != (true, s.safe.chB)) = true by
    cases s.safe.chB <;> cases (safeLosses (deciding s) la lb da db).safe.chB <;> rfl] at h
  simp only [channels, Prod.mk.injEq, lA, ll, le] at hch
  obtain ⟨hchA, -, hloss, hexp⟩ := hch
  obtain ⟨hmd, -, hsafe⟩ := mismatchNoted_keeps (axesDecided (weighed s la lb da db))
  rw [ha.md] at hmd
  have hx : (mismatchNoted (sendAxes (axesDecided (weighed s la lb da db)))).safe.expired = s.safe.expired := by
    rw [hsafe, ha.safe]
    exact hw.expired
  have hctl : inControl (mismatchNoted (sendAxes (axesDecided (weighed s la lb da db)))) = true := by
    rw [inControl, hmd, hw.role]
    exact hc
  obtain ⟨hrun, hoas⟩ := modeDecided_lost hctl
  rw [hmd, hx] at hrun
  rw [hmd] at hoas
  generalize modeDecided _ true = t at h hrun hoas
  have hcf : t.safe.compareFault = (weighed s la lb da db).safe.compareFault := by rw [h.safe]
  have hmode : (weighed s la lb da db).md.mode = .run ∨
      (weighed s la lb da db).md.mode = .oasis ∧ (weighed s la lb da db).safe.compareFault = true := by
    rw [← hm]
    exact hw.mode
  refine ⟨t, h.run, by rw [h.safe, hchA], by rw [h.safe, hloss]; rfl, ?_, fun hf hne => ?_, by rw [h.safe, hexp]; rfl⟩
  · rcases hmode with hr | ⟨ho, -⟩
    · exact (hrun hr).imp_right And.left
    · exact .inr (hoas ho)
  · rcases hmode with hr | ⟨-, hc⟩
    · exact (hrun hr).resolve_right fun hx => by simp [hne] at hx
    · simp [hcf, hc] at hf

/-- Settles O46: the axes are decided in the state that the losses, ring data, inputs and speeds have left
(`evalAxes_decided`), and what follows for the mode leaves them and whether the permits follow. -/
theorem safetyDecisionSetsEveryPermit : Obligations.SafetyDecisionSetsEveryPermit := by
  unfold Obligations.SafetyDecisionSetsEveryPermit
  refine ⟨fun s la lb da db he ht => ?_, fun s la lb da db i d j ax he ht hi hj hA hla hda hlA hopen hlB hf hb hs => ?_,
    fun s la lb da db hm hc ht hA hl => safetyDecision_loses lb da db hm hc ht hA hl,
    fun s la lb da db h => execSafetyDecision_idle la lb da db h⟩
  · have h := safetyDecided la lb da db he ht
    have ho : (weighed s la lb da db).safe.evalTick = some s.time.tick := (deciding_weighs s la lb da db).once
    exact ⟨_, h.run, by rw [h.safe, ho], h.image, fun e hm => safetyDecision_permits h hm⟩
  · subst hla hda
    have h := safetyDecided 0 lb true db he ht
    have hraw : siRaw (siSt s i) (siSt s i).a (siSt s i).b = true := by
      rcases hopen with h | h <;> simp [siRaw, h, hlA, hlB]
    exact ⟨_, h.run, safetyDecision_demands h hi hj hA hraw hf hb hs⟩

end Sys2Proof.Machine
end

section
/-! What a command leaves alone: the laws of the single commands (Laws/Keeps), gathered over `mayChange` (R54,
chapter 95). -/

namespace Sys2Proof.Machine

/-- Every part of the state but those listed is the same in two states. -/
def SameBut (l : List Part) (s t : State) : Prop := ∀ p, p ∉ l → same p s t

/-- The parts one by one, in the terms in which the laws of the commands are stated. -/
theorem sameBut_iff {l : List Part} {s t : State} : SameBut l s t ↔
    (.pending ∉ l → t.pending = s.pending) ∧ (.md ∉ l → t.md = s.md) ∧ (.btn ∉ l → t.btn = s.btn) ∧
    (.kiln ∉ l → t.kiln = s.kiln) ∧ (.set ∉ l → t.set = s.set) ∧ (.crs ∉ l → t.crs = s.crs) ∧
    (.exch ∉ l → t.exch = s.exch) ∧ (.tickets ∉ l → t.tickets = s.tickets) ∧
    (.lastTicket ∉ l → t.lastTicket = s.lastTicket) ∧ (.loops ∉ l → loopsCore t.loops = loopsCore s.loops) ∧
    (.solver ∉ l → t.solver = s.solver) ∧ (.pair ∉ l → t.pair = s.pair) ∧
    (.mortar ∉ l → mortarCore t.mortar = mortarCore s.mortar) ∧ (.safe ∉ l → t.safe = s.safe) ∧
    (.field ∉ l → t.field = s.field) ∧ (.ring ∉ l → t.ring = s.ring) ∧ (.can ∉ l → t.can = s.can) ∧
    (.time ∉ l → timeCore t.time = timeCore s.time) ∧ (.net ∉ l → t.net = s.net) ∧
    (.ev ∉ l → evCore t.ev = evCore s.ev) ∧ (.intake ∉ l → t.ev.intake = s.ev.intake) ∧
    (.sec ∉ l → t.sec = s.sec) ∧ (.panel ∉ l → t.panel = s.panel) ∧ (.panel2 ∉ l → t.panel2 = s.panel2) ∧
    (.sup ∉ l → t.sup = s.sup) ∧ (.free ∉ l → t.free = s.free) := by
  refine ⟨fun h => ⟨h .pending, h .md, h .btn, h .kiln, h .set, h .crs, h .exch, h .tickets, h .lastTicket, h .loops,
    h .solver, h .pair, h .mortar, h .safe, h .field, h .ring, h .can, h .time, h .net, h .ev,
    h .intake, h .sec, h .panel, h .panel2, h .sup, h .free⟩, ?_⟩
  rintro ⟨_, _, _, _, _, _, _, _, _, _, _, _, _, _, _, _, _, _, _, _, _, _, _, _, _, _⟩ p
  cases p <;> assumption

/-- The commands that may change the mode state: one line for each, by its law. -/
theorem exec_sameBut_of_md {c : Instr} {s t : State} (hm : .md ∈ mayChange c)
    (h : exec c s = .next t) : SameBut (mayChange c) s t := by
  rw [sameBut_iff]
  cases c
  case powerOn slot feedA feedB => simp [mayChange, execPowerOn_keeps slot feedA feedB s t h]
  case sramClearComplete => simp [mayChange, execSramClearComplete_keeps s t h]
  case dramClearComplete => simp [mayChange, execDramClearComplete_keeps s t h]
  case clearTimeout => simp [mayChange, execClearTimeout_keeps s t h]
  case startSupplyLoss => simp [mayChange, execStartSupplyLoss_keeps s t h]
  case kilnRemeasureComplete stage code at_ => simp [mayChange, execKilnRemeasureComplete_keeps stage code at_ s t h]
  case tickBoundary latch => simp [mayChange, execTickBoundary_keeps latch s t h]
  case inputImageComplete => simp [mayChange, execInputImageComplete_keeps s t h]
  case overrunLimitReached course => simp [mayChange, execOverrunLimitReached_keeps course s t h]
  case maxScanReached => simp [mayChange, execMaxScanReached_keeps s t h]
  case scanWatchExpiry => simp [mayChange, execScanWatchExpiry_keeps s t h]
  case courseActivationEnd course rel at_ => simp [mayChange, execCourseActivationEnd_keeps course rel at_ s t h]
  case executionTrap course brick offset at_ =>
    simp [mayChange, execExecutionTrap_keeps course brick offset at_ s t h]
  case breakpointReached brick at_ => simp [mayChange, execBreakpointReached_keeps brick at_ s t h]
  case modeStart r => simp [mayChange, execModeStart_keeps r s t h]
  case modeStop r => simp [mayChange, execModeStop_keeps r s t h]
  case modeContinue r => simp [mayChange, execModeContinue_keeps r s t h]
  case modeAcknowledge r => simp [mayChange, execModeAcknowledge_keeps r s t h]
  case modeReset r => simp [mayChange, execModeReset_keeps r s t h]
  case modeRoleSwap r => simp [mayChange, execModeRoleSwap_keeps r s t h]
  case roleSwapTick => simp [mayChange, execRoleSwapTick_keeps s t h]
  case injectionOn r => simp [mayChange, execInjectionOn_keeps r s t h]
  case injectionOff r => simp [mayChange, execInjectionOff_keeps r s t h]
  case buttonReleaseRecognised => simp [mayChange, execButtonReleaseRecognised_keeps s t h]
  case exchangeActivate r => simp [mayChange, execExchangeActivate_keeps r s t h]
  case exchangeNoQuietTick => simp [mayChange, execExchangeNoQuietTick_keeps s t h]
  case exchangeRollback => simp [mayChange, execExchangeRollback_keeps s t h]
  case statusFrameReceive lane f at_ => simp [mayChange, execStatusFrameReceive_keeps lane f at_ s t h]
  case abdicateFrameReceive cause at_ => simp [mayChange, execAbdicateFrameReceive_keeps cause at_ s t h]
  case abdicationDetected oneSample at_ => simp [mayChange, execAbdicationDetected_keeps oneSample at_ s t h]
  case takeover => simp [mayChange, execTakeover_keeps s t h]
  case lockstepMismatch pair at_ => simp [mayChange, execLockstepMismatch_keeps pair at_ s t h]
  case uncorrectableEccError bank word at_ => simp [mayChange, execUncorrectableEccError_keeps bank word at_ s t h]
  case clockMonitorFault domain at_ => simp [mayChange, execClockMonitorFault_keeps domain at_ s t h]
  case supplyMonitorFault at_ => simp [mayChange, execSupplyMonitorFault_keeps at_ s t h]
  case internalRailsOff => simp [mayChange, execInternalRailsOff_keeps s t h]
  case laneDown lane at_ => simp [mayChange, execLaneDown_keeps lane at_ s t h]
  case mortarTickFrameReceive f => simp [mayChange, execMortarTickFrameReceive_keeps f s t h]
  case mortarFrameReceive crcOk m at_ => simp [mayChange, execMortarFrameReceive_keeps crcOk m at_ s t h]
  case mortarStale cls at_ => simp [mayChange, execMortarStale_keeps cls at_ s t h]
  case bulkCopyStart bytes at_ => simp [mayChange, execBulkCopyStart_keeps bytes at_ s t h]
  case trackReached at_ => simp [mayChange, execTrackReached_keeps at_ s t h]
  case safetyDecision lossA lossB dataA dataB =>
    simp [mayChange, execSafetyDecision_keeps lossA lossB dataA dataB s t h]
  case testPulse input channel readsClosed at_ =>
    simp [mayChange, execTestPulse_keeps input channel readsClosed at_ s t h]
  case safetyReset source at_ => simp [mayChange, execSafetyReset_keeps source at_ s t h]
  case logicSilence at_ => simp [mayChange, execLogicSilence_keeps at_ s t h]
  case fieldControllerWatchdog at_ => simp [mayChange, execFieldControllerWatchdog_keeps at_ s t h]
  case ptpMeasurement port gm cls steps offset at_ =>
    simp [mayChange, execPtpMeasurement_keeps port gm cls steps offset at_ s t h]
  case objectWrite r object data => simp [mayChange, execObjectWrite_keeps r object data s t h]
  case firmwareLoad stage code signed version =>
    simp [mayChange, execFirmwareLoad_keeps stage code signed version s t h]
  all_goals simp [mayChange] at hm

/-- The commands that leave the mode state and may change the sessions: one line for each. -/
theorem exec_sameBut_of_net {c : Instr} {s t : State} (hm : .md ∉ mayChange c) (hn : .net ∈ mayChange c)
    (h : exec c s = .next t) : SameBut (mayChange c) s t := by
  rw [sameBut_iff]
  cases c
  case imageApplied at_ => simp [mayChange, execImageApplied_keeps at_ s t h]
  case imageKeyRemoved at_ => simp [mayChange, execImageKeyRemoved_keeps at_ s t h]
  case loopSample ctx at_ => simp [mayChange, execLoopSample_keeps ctx at_ s t h]
  case loopDeadline lane => simp [mayChange, execLoopDeadline_keeps lane s t h]
  case outputCommit => simp [mayChange, execOutputCommit_keeps s t h]
  case armBreakpoints r => simp [mayChange, execArmBreakpoints_keeps r s t h]
  case disarmBreakpoints r => simp [mayChange, execDisarmBreakpoints_keeps r s t h]
  case prepareReturn r => simp [mayChange, execPrepareReturn_keeps r s t h]
  case prepareReturnTimeout => simp [mayChange, execPrepareReturnTimeout_keeps s t h]
  case settingWrite r index data => simp [mayChange, execSettingWrite_keeps r index data s t h]
  case settingsComplete r generation => simp [mayChange, execSettingsComplete_keeps r generation s t h]
  case settingsDeclarationDone session => simp [mayChange, execSettingsDeclarationDone_keeps session s t h]
  case attestationNonce r nonce => simp [mayChange, execAttestationNonce_keeps r nonce s t h]
  case breakpointWrite r bp value => simp [mayChange, execBreakpointWrite_keeps r bp value s t h]
  case miragePlace r cmd => simp [mayChange, execMiragePlace_keeps r cmd s t h]
  case mirageRelease r cmd => simp [mayChange, execMirageRelease_keeps r cmd s t h]
  case mirageReleaseAll r => simp [mayChange, execMirageReleaseAll_keeps r s t h]
  case courseCounterClear r course value => simp [mayChange, execCourseCounterClear_keeps r course value s t h]
  case exchangeStage r => simp [mayChange, execExchangeStage_keeps r s t h]
  case stagingComplete tablesLoaded partner unwrittenNew unwrittenOld at_ =>
    simp [mayChange, execStagingComplete_keeps tablesLoaded partner unwrittenNew unwrittenOld at_ s t h]
  case exchangeUnstage r => simp [mayChange, execExchangeUnstage_keeps r s t h]
  case regionUpdateRequest r cmd => simp [mayChange, execRegionUpdateRequest_keeps r cmd s t h]
  case regionDataWrite r ticket data => simp [mayChange, execRegionDataWrite_keeps r ticket data s t h]
  case regionDataChecked ticket at_ => simp [mayChange, execRegionDataChecked_keeps ticket at_ s t h]
  case regionPendingStart ticket => simp [mayChange, execRegionPendingStart_keeps ticket s t h]
  case regionCancel r ticket value => simp [mayChange, execRegionCancel_keeps r ticket value s t h]
  case regionDataTimeout ticket at_ => simp [mayChange, execRegionDataTimeout_keeps ticket at_ s t h]
  case imageWriteComplete partnerPassed at_ => simp [mayChange, execImageWriteComplete_keeps partnerPassed at_ s t h]
  case loopModeManual r ctx => simp [mayChange, execLoopModeManual_keeps r ctx s t h]
  case loopModeAuto r ctx => simp [mayChange, execLoopModeAuto_keeps r ctx s t h]
  case loopModeCascade r ctx => simp [mayChange, execLoopModeCascade_keeps r ctx s t h]
  case loopModeExternal r ctx => simp [mayChange, execLoopModeExternal_keeps r ctx s t h]
  case loopModeHold r ctx => simp [mayChange, execLoopModeHold_keeps r ctx s t h]
  case manualValueWrite r ctx value => simp [mayChange, execManualValueWrite_keeps r ctx value s t h]
  case apply r ctx value => simp [mayChange, execApply_keeps r ctx value s t h]
  case tableRebuildComplete table at_ => simp [mayChange, execTableRebuildComplete_keeps table at_ s t h]
  case injectionStart r ctx cmd => simp [mayChange, execInjectionStart_keeps r ctx cmd s t h]
  case injectionStop r ctx => simp [mayChange, execInjectionStop_keeps r ctx s t h]
  case captureConfigure r data => simp [mayChange, execCaptureConfigure_keeps r data s t h]
  case captureArm r => simp [mayChange, execCaptureArm_keeps r s t h]
  case captureForceTrigger r => simp [mayChange, execCaptureForceTrigger_keeps r s t h]
  case captureAbort r => simp [mayChange, execCaptureAbort_keeps r s t h]
  case solverFrameStart ctx => simp [mayChange, execSolverFrameStart_keeps ctx s t h]
  case partnerReportLapse => simp [mayChange, execPartnerReportLapse_keeps s t h]
  case laneUp lane at_ => simp [mayChange, execLaneUp_keeps lane at_ s t h]
  case soeRead r => simp [mayChange, execSoeRead_keeps r s t h]
  case channelClear r kk value => simp [mayChange, execChannelClear_keeps r kk value s t h]
  case trimModeWrite r mask => simp [mayChange, execTrimModeWrite_keeps r mask s t h]
  case trimCurrentWrite r ao value => simp [mayChange, execTrimCurrentWrite_keeps r ao value s t h]
  case ringLinkUp answers at_ => simp [mayChange, execRingLinkUp_keeps answers at_ s t h]
  case canRecover r port => simp [mayChange, execCanRecover_keeps r port s t h]
  case flushFifo r port => simp [mayChange, execFlushFifo_keeps r port s t h]
  case flushLaunch r port => simp [mayChange, execFlushLaunch_keeps r port s t h]
  case flushAll r port => simp [mayChange, execFlushAll_keeps r port s t h]
  case lanLinkDown port at_ => simp [mayChange, execLanLinkDown_keeps port at_ s t h]
  case lanLinkUp port speed at_ => simp [mayChange, execLanLinkUp_keeps port speed at_ s t h]
  case timeSlew r rate => simp [mayChange, execTimeSlew_keeps r rate s t h]
  case timeStep r => simp [mayChange, execTimeStep_keeps r s t h]
  case timeReject r => simp [mayChange, execTimeReject_keeps r s t h]
  case haltSlew r => simp [mayChange, execHaltSlew_keeps r s t h]
  case sessionOpen iface role minGen maxGen authority seq at_ =>
    simp [mayChange, execSessionOpen_keeps iface role minGen maxGen authority seq at_ s t h]
  case sessionClose r => simp [mayChange, execSessionClose_keeps r s t h]
  case sessionIdleTimeout session => simp [mayChange, execSessionIdleTimeout_keeps session s t h]
  case streamEvents r op mask fromSeq => simp [mayChange, execStreamEvents_keeps r op mask fromSeq s t h]
  case subscribe r object action minTicks => simp [mayChange, execSubscribe_keeps r object action minTicks s t h]
  case batchWrite r entries => simp [mayChange, execBatchWrite_keeps r entries s t h]
  case eventRecordsRead r => simp [mayChange, execEventRecordsRead_keeps r s t h]
  case intrusion mesh at_ => simp [mayChange, execIntrusion_keeps mesh at_ s t h]
  case environmentalWipe cause at_ => simp [mayChange, execEnvironmentalWipe_keeps cause at_ s t h]
  case signerEnrol r slot data => simp [mayChange, execSignerEnrol_keeps r slot data s t h]
  case authorityEnrol r slot cert => simp [mayChange, execAuthorityEnrol_keeps r slot cert s t h]
  case enrolmentTimeout => simp [mayChange, execEnrolmentTimeout_keeps s t h]
  case crackLoopMeasure ohms mv at_ => simp [mayChange, execCrackLoopMeasure_keeps ohms mv at_ s t h]
  case lampTest r => simp [mayChange, execLampTest_keeps r s t h]
  case forwardingReceive f at_ => simp [mayChange, execForwardingReceive_keeps f at_ s t h]
  case gratuitousArpRepeat at_ => simp [mayChange, execGratuitousArpRepeat_keeps at_ s t h]
  case prpSupervisionFrame lan peer at_ => simp [mayChange, execPrpSupervisionFrame_keeps lan peer at_ s t h]
  all_goals simp [mayChange] at hm hn

/-- The commands that leave the mode state and the sessions: one line for each. -/
theorem exec_sameBut_of_others {c : Instr} {s t : State} (hm : .md ∉ mayChange c) (hn : .net ∉ mayChange c)
    (h : exec c s = .next t) : SameBut (mayChange c) s t := by
  rw [sameBut_iff]
  cases c
  case bankHeadersRead at_ => simp [mayChange, execBankHeadersRead_keeps at_ s t h]
  case bankFullCheckComplete at_ => simp [mayChange, execBankFullCheckComplete_keeps at_ s t h]
  case acqWaitExpiry at_ => simp [mayChange, execAcqWaitExpiry_keeps at_ s t h]
  case imageKeyInserted key at_ => simp [mayChange, execImageKeyInserted_keeps key at_ s t h]
  case buttonClosingRecognised => simp [mayChange, execButtonClosingRecognised_keeps s t h]
  case buttonStuck => simp [mayChange, execButtonStuck_keeps s t h]
  case buttonStuckEnd => simp [mayChange, execButtonStuckEnd_keeps s t h]
  case quoteReady session at_ => simp [mayChange, execQuoteReady_keeps session at_ s t h]
  case rebuildOverdue table => simp [mayChange, execRebuildOverdue_keeps table s t h]
  case captureRow => simp [mayChange, execCaptureRow_keeps s t h]
  case solverJobEnd ctx at_ => simp [mayChange, execSolverJobEnd_keeps ctx at_ s t h]
  case solverJobDeadline ctx => simp [mayChange, execSolverJobDeadline_keeps ctx s t h]
  case solverPublish ctx => simp [mayChange, execSolverPublish_keeps ctx s t h]
  case tileOffline tile cause at_ => simp [mayChange, execTileOffline_keeps tile cause at_ s t h]
  case tileSelfTest tile passed at_ => simp [mayChange, execTileSelfTest_keeps tile passed at_ s t h]
  case latentFaultWindowEnd => simp [mayChange, execLatentFaultWindowEnd_keeps s t h]
  case rehearsalOverdue => simp [mayChange, execRehearsalOverdue_keeps s t h]
  case singleBitCorrection bank word at_ => simp [mayChange, execSingleBitCorrection_keeps bank word at_ s t h]
  case scrubPass bank corrected at_ => simp [mayChange, execScrubPass_keeps bank corrected at_ s t h]
  case logicFeedLow feed volts at_ => simp [mayChange, execLogicFeedLow_keeps feed volts at_ s t h]
  case logicFeedRestored feed at_ => simp [mayChange, execLogicFeedRestored_keeps feed at_ s t h]
  case linkUpNegotiation lvLow lvHigh mf missing at_ =>
    simp [mayChange, execLinkUpNegotiation_keeps lvLow lvHigh mf missing at_ s t h]
  case partnerAxisStateReceive axes => simp [mayChange, execPartnerAxisStateReceive_keeps axes s t h]
  case permitOffPulse axis switch below on at_ =>
    simp [mayChange, execPermitOffPulse_keeps axis switch below on at_ s t h]
  case ringSafetyWatchdog conn => simp [mayChange, execRingSafetyWatchdog_keeps conn s t h]
  case degradedExpiryNear at_ => simp [mayChange, execDegradedExpiryNear_keeps at_ s t h]
  case degradedExpiry at_ => simp [mayChange, execDegradedExpiry_keeps at_ s t h]
  case digitalInputChange channel level changedNs =>
    simp [mayChange, execDigitalInputChange_keeps channel level changedNs s t h]
  case outputOverload channel at_ => simp [mayChange, execOutputOverload_keeps channel at_ s t h]
  case outputOvertemp channel at_ => simp [mayChange, execOutputOvertemp_keeps channel at_ s t h]
  case outputRetry channel cooled => simp [mayChange, execOutputRetry_keeps channel cooled s t h]
  case groupOvercurrent group channels at_ => simp [mayChange, execGroupOvercurrent_keeps group channels at_ s t h]
  case openWire channel open_ => simp [mayChange, execOpenWire_keeps channel open_ s t h]
  case fieldFeedLow group => simp [mayChange, execFieldFeedLow_keeps group s t h]
  case fieldFeedRestored group => simp [mayChange, execFieldFeedRestored_keeps group s t h]
  case readbackFailure kk => simp [mayChange, execReadbackFailure_keeps kk s t h]
  case analogueUnderRange ai => simp [mayChange, execAnalogueUnderRange_keeps ai s t h]
  case analogueOverRange ai => simp [mayChange, execAnalogueOverRange_keeps ai s t h]
  case analogueRangeClear ai => simp [mayChange, execAnalogueRangeClear_keeps ai s t h]
  case complianceLost ao => simp [mayChange, execComplianceLost_keeps ao s t h]
  case complianceRegained ao => simp [mayChange, execComplianceRegained_keeps ao s t h]
  case positionSignalFault pos => simp [mayChange, execPositionSignalFault_keeps pos s t h]
  case positionSignalClear pos => simp [mayChange, execPositionSignalClear_keeps pos s t h]
  case ringInputFrameReceive f => simp [mayChange, execRingInputFrameReceive_keeps f s t h]
  case ringCycleMissed station => simp [mayChange, execRingCycleMissed_keeps station s t h]
  case ringClosed => simp [mayChange, execRingClosed_keeps s t h]
  case stationJoin station => simp [mayChange, execStationJoin_keeps station s t h]
  case hopSpeedNegotiated hop bothGen2 gigabit at_ =>
    simp [mayChange, execHopSpeedNegotiated_keeps hop bothGen2 gigabit at_ s t h]
  case canFrameReceived f at_ => simp [mayChange, execCanFrameReceived_keeps f at_ s t h]
  case canReceiveSlotTimeout slot => simp [mayChange, execCanReceiveSlotTimeout_keeps slot s t h]
  case sysCanCancel handle at_ => simp [mayChange, execSysCanCancel_keeps handle at_ s t h]
  case canSelectionPoint port at_ => simp [mayChange, execCanSelectionPoint_keeps port at_ s t h]
  case canTransmitEnd port result stampNs stampFrac at_ =>
    simp [mayChange, execCanTransmitEnd_keeps port result stampNs stampFrac at_ s t h]
  case canLaunchLate port at_ => simp [mayChange, execCanLaunchLate_keeps port at_ s t h]
  case canRecoveryComplete port at_ => simp [mayChange, execCanRecoveryComplete_keeps port at_ s t h]
  case announceTimeout at_ => simp [mayChange, execAnnounceTimeout_keeps at_ s t h]
  case identityKeyReload at_ => simp [mayChange, execIdentityKeyReload_keeps at_ s t h]
  case framePairBoundary at_ => simp [mayChange, execFramePairBoundary_keeps at_ s t h]
  case ntcRead deciC at_ => simp [mayChange, execNtcRead_keeps deciC at_ s t h]
  case journalBlockClose at_ => simp [mayChange, execJournalBlockClose_keeps at_ s t h]
  case journalWriteComplete readBackOk at_ => simp [mayChange, execJournalWriteComplete_keeps readBackOk at_ s t h]
  case dieTemperatureWarning celsius at_ => simp [mayChange, execDieTemperatureWarning_keeps celsius at_ s t h]
  case canBusError port rise at_ => simp [mayChange, execCanBusError_keeps port rise at_ s t h]
  case holdoverClockClassChange at_ => simp [mayChange, execHoldoverClockClassChange_keeps at_ s t h]
  all_goals simp [mayChange] at hm hn

/-- A command leaves every part that it does not list. -/
theorem exec_sameBut {c : Instr} {s t : State} (h : exec c s = .next t) : SameBut (mayChange c) s t := by
  by_cases hm : .md ∈ mayChange c
  · exact exec_sameBut_of_md hm h
  · by_cases hn : .net ∈ mayChange c
    · exact exec_sameBut_of_net hm hn h
    · exact exec_sameBut_of_others hm hn h

/-- Settles O7: `same` part by part is what the law of each command says. -/
theorem frameOfCommands : Obligations.FrameOfCommands := by
  unfold Obligations.FrameOfCommands
  exact fun c s t p h hp => exec_sameBut h p hp

end Sys2Proof.Machine
end

section
/-! SUPPORT. The event buffer holds at most 4,096 records (R525, R565): a release displaces the oldest record of a full
buffer, KILN and power-off empty it, and nothing else touches it. One lemma for each operation that reaches the event
controller beside its intake. -/

namespace Sys2Proof.Machine

/-- The buffer holds at most 4,096 records (`bufferFits`). -/
structure BufferFits (s : State) : Prop where
  bound : bufferFits s

/-- An operation that leaves the buffer alone. -/
theorem BufferFits.of_buffer {s t : State} (h : BufferFits s) (k : t.ev.buffer = s.ev.buffer) : BufferFits t := by
  refine ⟨?_⟩
  rw [bufferFits, k]
  exact h.bound

/-- An operation that leaves the event controller alone beside its intake. -/
theorem BufferFits.keep {s t : State} (h : BufferFits s) (k : evCore t.ev = evCore s.ev) : BufferFits t :=
  h.of_buffer (congrArg (·.buffer) k)

theorem BufferFits.of_empty {s : State} (h : s.ev.buffer = []) : BufferFits s := ⟨by simp [bufferFits, h]⟩

theorem ite_bufferFits {c : Prop} [Decidable c] {s t : State} (hs : BufferFits s) (ht : BufferFits t) :
    BufferFits (if c then s else t) := by
  split <;> assumption

theorem foldl_bufferFits {α : Type} {l : List α} {g : State → α → State} {s : State} (h : BufferFits s)
    (hg : ∀ u b, BufferFits u → BufferFits (g u b)) : BufferFits (l.foldl g s) := foldl_inv l g s h hg

/-! ### Events and the fault journal (R565, R571, R573) -/

/-- A release displaces the oldest record of a full buffer (R565). -/
theorem releaseOne_bufferFits {s : State} (h : BufferFits s) (r : EvRec) : BufferFits (releaseOne s r) := by
  unfold releaseOne
  extract_lets cls x win count e r' b j
  refine ite_bufferFits (h.of_buffer rfl) ?_
  have hb : b.length ≤ 4096 + 1 := by simpa [b, Nat.lt_succ_iff] using h.bound
  have hcut : (if 4096 < b.length then b.drop 1 else b).length ≤ 4096 := by
    split
    · rw [List.length_drop]
      omega
    · omega
  exact ⟨hcut⟩

theorem releaseEventRecs_bufferFits {s : State} (h : BufferFits s) : BufferFits (releaseEventRecs s) :=
  foldl_bufferFits (h.of_buffer rfl) fun _ r hu => releaseOne_bufferFits hu r

theorem ackRecords_bufferFits {s : State} (h : BufferFits s) (n : Nat) : BufferFits (ackRecords s n) := h.of_buffer rfl

theorem holdBlock_bufferFits {s : State} (h : BufferFits s) (b : JBlock) : BufferFits (holdBlock s b) := by
  unfold holdBlock
  extract_lets l e lost first s1
  have h1 : BufferFits s1 := h.of_buffer rfl
  exact ite_bufferFits (h.of_buffer rfl) (ite_bufferFits (h1.keep (by simp)) h1)

theorem putBlock_bufferFits {s : State} (h : BufferFits s) (b : JBlock) : BufferFits (putBlock s b) := h.of_buffer rfl

theorem closeJournal_bufferFits {s : State} (h : BufferFits s) : BufferFits (closeJournal s) := by
  unfold closeJournal
  extract_lets s1 bs s2
  have h1 : BufferFits s1 := releaseEventRecs_bufferFits h
  have h2 : BufferFits s2 := foldl_bufferFits h1 fun _ b hu => putBlock_bufferFits hu b
  exact ite_bufferFits h1 (h2.of_buffer rfl)

/-! ### Start of the module (R65, R89, R94) -/

theorem cleared_bufferFits (s : State) : BufferFits (cleared s) := .of_empty rfl

theorem enterKiln_bufferFits (s : State) : BufferFits (enterKiln s) := .of_empty rfl

theorem startAgain_bufferFits (s : State) : BufferFits (startAgain s) := .of_empty rfl

theorem enterLoad_bufferFits {s : State} (h : BufferFits s) : BufferFits (enterLoad s) := by
  unfold enterLoad
  extract_lets again m t e s1 s2 b s3 s4 c s5 r
  have h1 : BufferFits s1 := h.of_buffer rfl
  exact h1.keep (by simp [s5, s4, s3, s2])

theorem kilnLoader_bufferFits {s : State} (h : BufferFits s) : BufferFits (kilnLoader s) := by
  unfold kilnLoader
  extract_lets s1 r s2
  have h1 : BufferFits s1 := h.keep (by simp [s1])
  have h2 : BufferFits s2 := h1.of_buffer rfl
  exact ite_bufferFits h1 (ite_bufferFits (h2.keep (by simp)) (enterLoad_bufferFits h2))

/-! ### Acknowledgement and the return (R84, R573) -/

theorem applyAck_bufferFits {s : State} (h : BufferFits s) (reset : Bool) : BufferFits (applyAck s reset) := by
  unfold applyAck
  extract_lets s1 s2
  have h2 : BufferFits s2 := (ackRecords_bufferFits h s.time.tick).keep (by simp [s2, s1])
  exact ite_bufferFits h (ite_bufferFits (h2.keep (by simp)) h2)

theorem confirmReturn_bufferFits {s : State} (h : BufferFits s) : BufferFits (confirmReturn s) := by
  unfold confirmReturn
  split
  · exact h
  · refine ite_bufferFits h ?_
    extract_lets e s1 s2 s3 s4 s5 c s6
    have h1 : BufferFits s1 := h.of_buffer rfl
    have h4 : BufferFits s4 := closeJournal_bufferFits (h1.keep (by simp [s3, s2]))
    exact ite_bufferFits (h1.keep (by simp)) (h4.keep (by simp [s6, s5]))

theorem pressAck_bufferFits {s : State} (h : BufferFits s) : BufferFits (pressAck s) := by
  unfold pressAck
  extract_lets s1 reset s2 s3
  have h1 : BufferFits s1 := h.keep (by simp [s1])
  have h2 : BufferFits s2 := applyAck_bufferFits h1 reset
  have h3 : BufferFits s3 :=
    ite_bufferFits h (ite_bufferFits (ite_bufferFits (h2.keep (by simp)) h2) (h1.keep (by simp)))
  exact confirmReturn_bufferFits (h3.keep (by simp))

theorem pressReset_bufferFits {s : State} (h : BufferFits s) : BufferFits (pressReset s) :=
  h.keep (by unfold pressReset; split <;> simp)

theorem press_bufferFits {s : State} (h : BufferFits s) (d : Nat) : BufferFits (press s d) :=
  ite_bufferFits h
    (ite_bufferFits (pressAck_bufferFits h) (ite_bufferFits (pressReset_bufferFits h) (h.keep (by simp))))

/-! ### Vessel time (R20) -/

theorem setClock_bufferFits {s : State} (h : BufferFits s) (boundary phase : Nat) :
    BufferFits (setClock s boundary phase) := h.of_buffer rfl

theorem setInstant_bufferFits {s : State} (h : BufferFits s) (now : Nat) : BufferFits (setInstant s now) :=
  setClock_bufferFits h _ _

theorem stepTime_bufferFits {s : State} (h : BufferFits s) : BufferFits (stepTime s) := by
  unfold stepTime
  split
  · exact h
  next off o _ =>
    extract_lets m s1 old s2 t s3
    have h1 : BufferFits s1 := h.of_buffer rfl
    have h2 : BufferFits s2 := setClock_bufferFits h1 _ 0
    have h3 : BufferFits s3 := h2.keep (by simp [s3])
    exact ite_bufferFits (h1.keep (by simp)) (h3.keep (by simp))

theorem startClock_bufferFits {s : State} (h : BufferFits s) : BufferFits (startClock s) := by
  unfold startClock
  extract_lets t s1
  exact ite_bufferFits h ((setClock_bufferFits h _ 0).of_buffer rfl)

theorem ptpInLoad_bufferFits {s : State} (h : BufferFits s) (port : Nat) (gm : W64) (cls steps : Nat) (offset : Int) :
    BufferFits (ptpInLoad s port gm cls steps offset) := by
  unfold ptpInLoad
  extract_lets n a s1 s2
  have h1 : BufferFits s1 := h.of_buffer rfl
  exact ite_bufferFits h1 ((setInstant_bufferFits h1 _).of_buffer rfl)

theorem followClock_bufferFits {s : State} (h : BufferFits s) : BufferFits (followClock s) := by
  unfold followClock
  split
  · exact h
  · exact setClock_bufferFits h _ _

/-! ### The tick boundary (R39) -/

theorem applyMortar_bufferFits {s : State} (h : BufferFits s) (m : Mortar) : BufferFits (applyMortar s m) := by
  cases m
  case ack boundary reset => exact (ackRecords_bufferFits h boundary).keep (by simp [applyMortar])
  all_goals exact h.keep (by simp [applyMortar])

theorem applyQueued_bufferFits {acc : State × List Mortar} (h : BufferFits acc.1) (m : Mortar) :
    BufferFits (applyQueued acc m).1 := by
  have hm := applyMortar_bufferFits h m
  unfold applyQueued
  split
  · dsimp only
    (repeat' split) <;> assumption
  · exact hm

theorem applyQueue_bufferFits {s : State} (h : BufferFits s) : BufferFits (applyQueue s) := by
  unfold applyQueue
  refine BufferFits.of_buffer (s := (s.mortar.queue.foldl _ (s, s.mortar.queue)).1) ?_ rfl
  refine foldl_pair_inv (P := BufferFits) _ _ _ h fun y b hy => ?_
  exact foldl_pair_inv (P := BufferFits) _ _ _ hy fun z m hz => applyQueued_bufferFits hz m

theorem mortarBoundary_bufferFits {s : State} (h : BufferFits s) : BufferFits (mortarBoundary s) := by
  unfold mortarBoundary
  extract_lets m s1 due n s2
  have h1 : BufferFits s1 := ite_bufferFits ((applyQueue_bufferFits h).keep (by simp)) (h.of_buffer rfl)
  have h2 : BufferFits s2 := h1.of_buffer rfl
  exact ite_bufferFits (h2.keep (by simp)) h2

theorem takeTrans_bufferFits {s : State} (h : BufferFits s) (t : Trans) : BufferFits (takeTrans s t) := by
  unfold takeTrans
  extract_lets s1 e s2 before s3 s4
  have h1 : BufferFits s1 := h.keep (by simp [s1])
  have h4 : BufferFits s4 := h1.keep (by simp [s4, s3])
  exact ite_bufferFits (applyAck_bufferFits h1 false) (ite_bufferFits (h1.keep (by simp [s2]))
    (ite_bufferFits (h4.keep (by simp)) (h4.keep (by simp))))

theorem takeTransitions_bufferFits {s : State} (h : BufferFits s) : BufferFits (takeTransitions s) := by
  unfold takeTransitions
  extract_lets l m
  exact foldl_bufferFits (h.of_buffer rfl) fun u t hu => takeTrans_bufferFits hu t

theorem resetBoundary_bufferFits {s : State} (h : BufferFits s) : BufferFits (resetBoundary s) := by
  unfold resetBoundary
  have hd : BufferFits (resetDrop s) := h.keep (by simp)
  split
  · exact h
  · exact ite_bufferFits h (ite_bufferFits (ite_bufferFits (h.of_buffer rfl) hd) (ite_bufferFits (enterKiln_bufferFits _) hd))

theorem leaveLoad_bufferFits {s : State} (h : BufferFits s) : BufferFits (leaveLoad s) := by
  have hc := startClock_bufferFits h
  unfold leaveLoad
  dsimp only
  refine ite_bufferFits h (ite_bufferFits (hc.keep (by simp)) ?_)
  split
  · exact h
  · exact ite_bufferFits h
      (ite_bufferFits (ite_bufferFits h (h.keep (by simp))) (hc.keep (by simp)))

theorem boundaryLatched_bufferFits {s : State} (h : BufferFits s) (l : Latch) : BufferFits (boundaryLatched s l) := by
  have h1 : BufferFits (releaseEventRecs (advance s)) := releaseEventRecs_bufferFits (h.of_buffer rfl)
  have h2 : BufferFits (stepTime (prpTick (releaseEventRecs (advance s)))) := stepTime_bufferFits (h1.keep (by simp))
  exact h2.keep (by simp [boundaryLatched])

theorem boundaryMoves_bufferFits {s : State} (h : BufferFits s) : BufferFits (boundaryMoves s) :=
  takeTransitions_bufferFits (h.keep (by simp))

theorem boundaryEffects_bufferFits {s : State} (h : BufferFits s) (l : Latch) : BufferFits (boundaryEffects s l) := by
  unfold boundaryEffects
  extract_lets s1 s2 s3 s4 s5
  have h3 : BufferFits s3 := (mortarBoundary_bufferFits h).keep (by simp [s3, s2, s1])
  have h4 : BufferFits s4 := (leaveLoad_bufferFits h3).keep (by simp [s4])
  exact h4.keep (by simp [s5])

theorem boundary_bufferFits {s : State} (h : BufferFits s) (l : Latch) : BufferFits (boundary s l) := by
  rw [boundary_eq]
  have ht := resetBoundary_bufferFits (boundaryMoves_bufferFits (boundaryLatched_bufferFits h l))
  exact ite_bufferFits ht (boundaryEffects_bufferFits ht l)

theorem coreTick_bufferFits {s : State} (h : BufferFits s) (l : Latch) : BufferFits (coreTick s l) := by
  unfold coreTick
  extract_lets s1 s2 o m
  have h1 : BufferFits s1 := h.keep (by simp [s1])
  have h2 : BufferFits s2 := h1.keep (by simp [s2])
  exact ite_bufferFits h1 (ite_bufferFits h2 (ite_bufferFits (enterKiln_bufferFits _) (h2.keep (by simp))))

/-! ### The commands that reach the event controller -/

/-- A command's outcome: a next state keeps the buffer in its bounds. -/
def NextBuffer (o : Host.Outcome State Fault Refusal) : Prop := ∀ t, o = .next t → BufferFits t

theorem nextBuffer {s : State} (h : BufferFits s) : NextBuffer (.next s) := by
  intro t ht
  cases ht
  exact h

theorem execPowerOn_buffer {s : State} (h : BufferFits s) (slot : Nat) (a b : Bool) :
    NextBuffer (execPowerOn slot a b s) := by
  unfold execPowerOn
  refine nextBuffer (ite_bufferFits h ?_)
  extract_lets c m c1
  have hc : BufferFits c1 := .of_empty rfl
  split
  · exact hc
  · exact hc.keep (by simp)

theorem execSramClearComplete_buffer {s : State} (h : BufferFits s) : NextBuffer (execSramClearComplete s) := by
  unfold execSramClearComplete
  extract_lets k e s1 s2 s3
  have h3 : BufferFits s3 := h.keep (by simp [s3, s2, s1])
  exact nextBuffer (ite_bufferFits h (ite_bufferFits (kilnLoader_bufferFits h3) h3))

theorem execDramClearComplete_buffer {s : State} (h : BufferFits s) : NextBuffer (execDramClearComplete s) := by
  unfold execDramClearComplete
  extract_lets k s1
  have h1 : BufferFits s1 := h.of_buffer rfl
  exact nextBuffer (ite_bufferFits h (ite_bufferFits (kilnLoader_bufferFits h1) h1))

theorem execStartSupplyLoss_buffer {s : State} (h : BufferFits s) : NextBuffer (execStartSupplyLoss s) :=
  nextBuffer (ite_bufferFits (startAgain_bufferFits s) h)

theorem execImageKeyRemoved_buffer {s : State} (h : BufferFits s) (n : Nat) : NextBuffer (execImageKeyRemoved n s) := by
  unfold execImageKeyRemoved
  extract_lets gone k e s1 s2
  have h1 : BufferFits s1 := h.of_buffer rfl
  exact nextBuffer (ite_bufferFits h (ite_bufferFits h1 (h1.keep (by simp [s2]))))

theorem execImageKeyInserted_buffer {s : State} (h : BufferFits s) (key : KeyContent) (n : Nat) :
    NextBuffer (execImageKeyInserted key n s) := by
  unfold execImageKeyInserted
  extract_lets put k s1 s2 e
  have h1 : BufferFits s1 := h.of_buffer rfl
  have h2 : BufferFits s2 := h1.of_buffer rfl
  have h3 : BufferFits { s2 with ev := { e with rehearsed := key.rehearsal } } := h1.of_buffer rfl
  exact nextBuffer (ite_bufferFits h (ite_bufferFits h1 (ite_bufferFits (h3.keep (by simp)) (h2.keep (by simp)))))

theorem execTickBoundary_buffer {s : State} (h : BufferFits s) (l : Latch) : NextBuffer (execTickBoundary l s) :=
  nextBuffer (ite_bufferFits h (ite_bufferFits (coreTick_bufferFits h l) (boundary_bufferFits h l)))

theorem hostWrite_bufferFits {s : State} (h : BufferFits s) (r : Req) (obj : W32) {k : State → State}
    (hk : ∀ u, BufferFits u → BufferFits (k u)) : BufferFits (hostWrite s r obj k) := by
  unfold hostWrite withSession
  extract_lets x s1
  have h1 : BufferFits (setSess s1 r.session { x with lastTick := s1.time.tick }) := h.of_buffer rfl
  refine ite_bufferFits (ite_bufferFits (h1.keep (by simp)) (ite_bufferFits (h1.keep (by simp)) ?_)) h
  exact (hk _ h1).keep (by simp)

theorem modeCommand_bufferFits {s : State} (h : BufferFits s) (r : Req) (g : ModeGate) {k : State → State}
    (hk : ∀ u, BufferFits u → BufferFits (k u)) : BufferFits (modeCommand r g k s) := by
  refine hostWrite_bufferFits h r modeObj fun u hu => ?_
  have hr : ∀ code, BufferFits (refuse u r modeObj code) := fun code => hu.keep (by simp)
  exact ite_bufferFits (hr _) (ite_bufferFits (hr _) (ite_bufferFits (hr _) (ite_bufferFits (hr _) (hk u hu))))

theorem execPrepareReturn_buffer {s : State} (h : BufferFits s) (r : Req) : NextBuffer (execPrepareReturn r s) :=
  nextBuffer (modeCommand_bufferFits h r _ fun u hu => (hu.keep (t := reply u r modeObj stAccepted) (by simp)).of_buffer rfl)

theorem execPrepareReturnTimeout_buffer {s : State} (h : BufferFits s) : NextBuffer (execPrepareReturnTimeout s) := by
  unfold execPrepareReturnTimeout
  refine nextBuffer ?_
  split
  next o d _ =>
    have h1 : BufferFits { s with ev := { s.ev with prepare := none } } := h.of_buffer rfl
    exact ite_bufferFits (h1.keep (by simp)) h
  · exact h

theorem execButtonReleaseRecognised_buffer {s : State} (h : BufferFits s) : NextBuffer (execButtonReleaseRecognised s) := by
  unfold execButtonReleaseRecognised
  extract_lets s1 opened b s2
  have h2 : BufferFits s2 := h.of_buffer rfl
  have h3 := ite_bufferFits (c := s2.btn.stuck = true) h2 (press_bufferFits h2 (opened - s2.btn.closedAt))
  exact nextBuffer (ite_bufferFits h (h3.keep (by simp)))

theorem execLatentFaultWindowEnd_buffer {s : State} (h : BufferFits s) : NextBuffer (execLatentFaultWindowEnd s) := by
  unfold execLatentFaultWindowEnd
  refine nextBuffer ?_
  split
  · exact h
  · extract_lets ok p s1 e
    have h1 : BufferFits s1 := h.of_buffer rfl
    have h2 : BufferFits { s1 with ev := { e with rehearsed := some (vtime s1) } } := h1.of_buffer rfl
    exact ite_bufferFits h (ite_bufferFits (h2.keep (by simp)) h1)

theorem execSupplyMonitorFault_buffer {s : State} (h : BufferFits s) (n : Nat) :
    NextBuffer (execSupplyMonitorFault n s) := by
  unfold execSupplyMonitorFault
  extract_lets t s1 u
  have h1 : BufferFits s1 := h.keep (by simp [s1])
  exact nextBuffer (ite_bufferFits h (ite_bufferFits (startAgain_bufferFits s)
    (ite_bufferFits (h1.of_buffer rfl) h1)))

theorem execInternalRailsOff_buffer {s : State} (h : BufferFits s) : NextBuffer (execInternalRailsOff s) := by
  unfold execInternalRailsOff
  refine nextBuffer ?_
  split
  · exact h
  · exact ite_bufferFits (.of_empty rfl) h

theorem execBulkCopyStart_buffer {s : State} (h : BufferFits s) (bytes n : Nat) :
    NextBuffer (execBulkCopyStart bytes n s) := by
  unfold execBulkCopyStart
  extract_lets s1 p s2 q m
  have h1 : BufferFits s1 := h.keep (by simp [s1])
  have h2 : BufferFits (followClock (setPhase s n)) := followClock_bufferFits (h.of_buffer rfl)
  exact nextBuffer (ite_bufferFits h (ite_bufferFits (h1.keep (by simp))
    (ite_bufferFits (h2.of_buffer rfl) h)))

theorem execPtpMeasurement_buffer {s : State} (h : BufferFits s) (port : Nat) (gm : W64) (cls steps : Nat) (raw : Int)
    (n : Nat) : NextBuffer (execPtpMeasurement port gm cls steps raw n s) := by
  unfold execPtpMeasurement
  extract_lets offset s1 t s2 u
  have h1 : BufferFits s1 := h.of_buffer rfl
  exact nextBuffer (ite_bufferFits h (ite_bufferFits (ptpInLoad_bufferFits h1 _ _ _ _ _)
    (ite_bufferFits (ite_bufferFits (h1.of_buffer rfl) h1)
      (ite_bufferFits (ite_bufferFits (h1.keep (by simp [s2])) (h1.of_buffer rfl))
        (ite_bufferFits h1 (h1.keep (by simp)))))))

theorem closeBlock_bufferFits {s : State} (h : BufferFits s) : BufferFits (closeBlock s) := by
  unfold closeBlock
  exact holdBlock_bufferFits (s := { s with ev := { s.ev with
    open_ := s.ev.open_.drop 126, openTick := s.time.tick } }) (h.of_buffer rfl) _

theorem execJournalBlockClose_buffer {s : State} (h : BufferFits s) (n : Nat) :
    NextBuffer (execJournalBlockClose n s) :=
  nextBuffer (ite_bufferFits (closeBlock_bufferFits (h.of_buffer rfl)) h)

theorem execJournalWriteComplete_buffer {s : State} (h : BufferFits s) (ok : Bool) (n : Nat) :
    NextBuffer (execJournalWriteComplete ok n s) := by
  unfold execJournalWriteComplete
  refine nextBuffer ?_
  split
  · exact h
  · extract_lets s1 s2 e f
    have h1 : BufferFits s1 := h.of_buffer rfl
    have h2 : BufferFits s2 := putBlock_bufferFits h1 _
    refine ite_bufferFits h (ite_bufferFits (h2.of_buffer rfl) ?_)
    exact BufferFits.keep (h1.of_buffer rfl : BufferFits { s1 with ev := { f with
      key := eraseBlock s1.ev.key s1.ev.jseq, jseq := s1.ev.jseq + 1 } }) (by simp)

theorem execFirmwareLoad_buffer {s : State} (h : BufferFits s) (stage : Nat) (code : Bytes) (signed : Bool)
    (version : W32) : NextBuffer (execFirmwareLoad stage code signed version s) :=
  nextBuffer (ite_bufferFits h (ite_bufferFits (enterKiln_bufferFits _)
    (h.of_buffer rfl)))

/-! Object writes: PREPARE_RETURN alone reaches the event controller beside its intake. -/

theorem refuseWrite_buffer {s : State} (h : BufferFits s) (r : Req) (obj : W32) (code : Nat) :
    NextBuffer (refuseWrite r obj code s) := nextBuffer (h.keep (by simp))

theorem writeMode_buffer {s : State} (h : BufferFits s) (r : Req) (code : Nat) : NextBuffer (writeMode r code s) := by
  unfold writeMode
  split
  · exact fun t ht => h.keep (by simp [execModeStart_keeps r s t ht])
  · exact fun t ht => h.keep (by simp [execModeStop_keeps r s t ht])
  · exact fun t ht => h.keep (by simp [execModeContinue_keeps r s t ht])
  · exact fun t ht => h.keep (by simp [execModeAcknowledge_keeps r s t ht])
  · exact fun t ht => h.keep (by simp [execModeReset_keeps r s t ht])
  · exact fun t ht => h.keep (by simp [execModeRoleSwap_keeps r s t ht])
  · exact fun t ht => h.keep (by simp [execInjectionOn_keeps r s t ht])
  · exact fun t ht => h.keep (by simp [execInjectionOff_keeps r s t ht])
  · exact fun t ht => h.keep (by simp [execArmBreakpoints_keeps r s t ht])
  · exact fun t ht => h.keep (by simp [execDisarmBreakpoints_keeps r s t ht])
  · exact execPrepareReturn_buffer h r
  · exact nextBuffer (modeCommand_bufferFits h r _ fun _ hu => hu)

theorem code16_buffer {s : State} (h : BufferFits s) (r : Req) (obj : W32) (d : Bytes)
    {k : Nat → Host.Outcome State Fault Refusal} (hk : ∀ c, NextBuffer (k c)) : NextBuffer (code16 r obj d s k) := by
  unfold code16
  split
  · exact refuseWrite_buffer h r obj _
  · exact hk _

theorem sized_buffer {s : State} (h : BufferFits s) (r : Req) (obj : W32) (n : Nat) (d : Bytes)
    {k : Nat → Host.Outcome State Fault Refusal} (hk : ∀ c, NextBuffer (k c)) : NextBuffer (sized r obj n d s k) := by
  unfold sized
  split
  · exact refuseWrite_buffer h r obj _
  · exact hk _

theorem writeLow_buffer {s : State} (h : BufferFits s) (r : Req) (obj : W32) (d : Bytes) :
    NextBuffer (writeLow r obj d s) := by
  unfold writeLow
  extract_lets i
  split
  · exact fun t ht => h.keep (by simp [execSignerEnrol_keeps r _ d s t ht])
  · exact code16_buffer h r obj d (writeMode_buffer h r)
  · exact sized_buffer h r obj 4 d fun v t ht => h.keep (by simp [execCourseCounterClear_keeps r _ _ s t ht])
  · exact sized_buffer h r obj 4 d fun v t ht => h.keep (by simp [execBreakpointWrite_keeps r _ _ s t ht])
  · exact fun t ht => h.keep (by simp [writeMirage_keeps r d s t ht])
  · exact code16_buffer h r obj d fun c t ht => h.keep (by simp [writeExchange_keeps r c s t ht])
  · exact code16_buffer h r obj d fun c t ht => h.keep (by simp [writeLoopMode_keeps r _ c s t ht])
  · exact sized_buffer h r obj 8 d fun v t ht => h.keep (by simp [execManualValueWrite_keeps r _ _ s t ht])
  · exact sized_buffer h r obj 4 d fun v t ht => h.keep (by simp [execApply_keeps r _ _ s t ht])
  · exact fun t ht => h.keep (by simp [writeInjection_keeps r i d s t ht])

theorem execObjectWrite_buffer {s : State} (h : BufferFits s) (r : Req) (obj : W32) (d : Bytes) :
    NextBuffer (execObjectWrite r obj d s) := by
  unfold execObjectWrite
  split
  · exact refuseWrite_buffer h r obj _
  · exact refuseWrite_buffer h r obj _
  · exact refuseWrite_buffer h r obj _
  · split
    · exact writeLow_buffer h r obj d
    · exact fun t ht => h.keep (by simp [writeHigh_keeps r obj d s t ht])

/-- Every command keeps the buffer in its bounds: one that does not list the event controller leaves it (`exec_sameBut`),
and one line for each of the others. -/
theorem exec_buffer {s : State} (h : BufferFits s) (c : Instr) : NextBuffer (exec c s) := by
  by_cases hc : .ev ∈ mayChange c
  case neg => exact fun t ht => h.keep (exec_sameBut ht .ev hc)
  cases c
  case powerOn slot feedA feedB => exact execPowerOn_buffer h slot feedA feedB
  case sramClearComplete => exact execSramClearComplete_buffer h
  case dramClearComplete => exact execDramClearComplete_buffer h
  case startSupplyLoss => exact execStartSupplyLoss_buffer h
  case imageKeyRemoved at_ => exact execImageKeyRemoved_buffer h at_
  case imageKeyInserted key at_ => exact execImageKeyInserted_buffer h key at_
  case tickBoundary latch => exact execTickBoundary_buffer h latch
  case prepareReturn r => exact execPrepareReturn_buffer h r
  case prepareReturnTimeout => exact execPrepareReturnTimeout_buffer h
  case buttonReleaseRecognised => exact execButtonReleaseRecognised_buffer h
  case latentFaultWindowEnd => exact execLatentFaultWindowEnd_buffer h
  case supplyMonitorFault at_ => exact execSupplyMonitorFault_buffer h at_
  case internalRailsOff => exact execInternalRailsOff_buffer h
  case bulkCopyStart bytes at_ => exact execBulkCopyStart_buffer h bytes at_
  case ptpMeasurement port gm cls steps offset at_ => exact execPtpMeasurement_buffer h port gm cls steps offset at_
  case objectWrite r object data => exact execObjectWrite_buffer h r object data
  case journalBlockClose at_ => exact execJournalBlockClose_buffer h at_
  case journalWriteComplete readBackOk at_ => exact execJournalWriteComplete_buffer h readBackOk at_
  case firmwareLoad stage code signed version => exact execFirmwareLoad_buffer h stage code signed version
  all_goals simp [mayChange] at hc

/-- Settles O6: a step runs one command, and every command keeps the buffer in its bounds. -/
theorem eventBufferStaysBounded : Obligations.EventBufferStaysBounded := by
  unfold Obligations.EventBufferStaysBounded
  intro s t h ht
  unfold step at ht
  split at ht
  · cases ht
    exact h
  next c rest _ =>
    have hq : BufferFits { s with pending := rest } := ⟨h⟩
    exact (exec_buffer hq c t ht).bound

end Sys2Proof.Machine
end

section
/-! Every command has a next state (R503, R511): each is an effect on the state, and OBJECT_WRITE is the command of the
object that it writes or a refusal. -/

namespace Sys2Proof.Machine

/-- The outcome is a next state, no fault and no refusal. -/
def HasNext (o : Host.Outcome State Fault Refusal) : Prop := ∃ t, o = .next t

theorem hasNext (s : State) : HasNext (.next s) := ⟨s, rfl⟩

theorem ite_hasNext {c : Prop} [Decidable c] {a b : Host.Outcome State Fault Refusal} (ha : HasNext a) (hb : HasNext b) :
    HasNext (if c then a else b) := by
  split <;> assumption

theorem refuseWrite_hasNext (r : Req) (obj : W32) (code : Nat) (s : State) : HasNext (refuseWrite r obj code s) :=
  hasNext _

/-! ### The forms of a write (R510) -/

theorem code16_hasNext (r : Req) (obj : W32) (d : Bytes) (s : State) {k : Nat → Host.Outcome State Fault Refusal}
    (hk : ∀ c, HasNext (k c)) : HasNext (code16 r obj d s k) := ite_hasNext (hasNext _) (hk _)

theorem sized_hasNext (r : Req) (obj : W32) (n : Nat) (d : Bytes) (s : State)
    {k : Nat → Host.Outcome State Fault Refusal} (hk : ∀ v, HasNext (k v)) : HasNext (sized r obj n d s k) :=
  ite_hasNext (hasNext _) (hk _)

/-! ### The writers of one object each -/

theorem writeMode_hasNext (r : Req) (code : Nat) (s : State) : HasNext (writeMode r code s) := by
  unfold writeMode
  split <;> exact ⟨_, rfl⟩

theorem writeMirage_hasNext (r : Req) (d : Bytes) (s : State) : HasNext (writeMirage r d s) := by
  unfold writeMirage
  extract_lets cmd
  refine ite_hasNext (hasNext _) ?_
  split
  · exact ⟨_, rfl⟩
  · exact ⟨_, rfl⟩
  · exact ite_hasNext (hasNext _) ⟨_, rfl⟩
  · exact ⟨_, rfl⟩

theorem writeExchange_hasNext (r : Req) (code : Nat) (s : State) : HasNext (writeExchange r code s) := by
  unfold writeExchange
  split <;> exact ⟨_, rfl⟩

theorem writeLoopMode_hasNext (r : Req) (c code : Nat) (s : State) : HasNext (writeLoopMode r c code s) := by
  unfold writeLoopMode
  split <;> exact ⟨_, rfl⟩

theorem writeInjection_hasNext (r : Req) (c : Nat) (d : Bytes) (s : State) : HasNext (writeInjection r c d s) := by
  unfold writeInjection
  extract_lets cmd obj
  refine ite_hasNext (hasNext _) ?_
  split
  · exact ⟨_, rfl⟩
  · exact ite_hasNext (hasNext _) ⟨_, rfl⟩
  · exact ⟨_, rfl⟩

theorem writePort_hasNext (r : Req) (p code : Nat) (s : State) : HasNext (writePort r p code s) := by
  unfold writePort
  split <;> exact ⟨_, rfl⟩

theorem writeTime_hasNext (r : Req) (d : Bytes) (s : State) : HasNext (writeTime r d s) := by
  unfold writeTime
  extract_lets code rate
  refine ite_hasNext (hasNext _) (ite_hasNext (hasNext _) ?_)
  clear_value code
  split <;> exact ⟨_, rfl⟩

theorem writeCapture_hasNext (r : Req) (code : Nat) (s : State) : HasNext (writeCapture r code s) := by
  unfold writeCapture
  split <;> exact ⟨_, rfl⟩

theorem writeRegion_hasNext (r : Req) (d : Bytes) (s : State) : HasNext (writeRegion r d s) :=
  ite_hasNext (hasNext _) ⟨_, rfl⟩

/-! ### OBJECT_WRITE (R511) -/

theorem writeLow_hasNext (r : Req) (obj : W32) (d : Bytes) (s : State) : HasNext (writeLow r obj d s) := by
  unfold writeLow
  extract_lets i
  split
  · exact ⟨_, rfl⟩
  · exact code16_hasNext r obj d s fun c => writeMode_hasNext r c s
  · exact sized_hasNext r obj 4 d s fun _ => ⟨_, rfl⟩
  · exact sized_hasNext r obj 4 d s fun _ => ⟨_, rfl⟩
  · exact writeMirage_hasNext r d s
  · exact code16_hasNext r obj d s fun c => writeExchange_hasNext r c s
  · exact code16_hasNext r obj d s fun c => writeLoopMode_hasNext r _ c s
  · exact sized_hasNext r obj 8 d s fun _ => ⟨_, rfl⟩
  · exact sized_hasNext r obj 4 d s fun _ => ⟨_, rfl⟩
  · exact writeInjection_hasNext r _ d s

theorem writeHigh_hasNext (r : Req) (obj : W32) (d : Bytes) (s : State) : HasNext (writeHigh r obj d s) := by
  unfold writeHigh
  extract_lets i
  split
  · exact sized_hasNext r obj 4 d s fun _ => ⟨_, rfl⟩
  · exact sized_hasNext r obj 8 d s fun _ => ⟨_, rfl⟩
  · exact sized_hasNext r obj 1 d s fun _ => ⟨_, rfl⟩
  · exact code16_hasNext r obj d s fun c => writePort_hasNext r _ c s
  · exact writeTime_hasNext r d s
  · exact sized_hasNext r obj 4 d s fun _ => ⟨_, rfl⟩
  · exact ⟨_, rfl⟩
  · exact ⟨_, rfl⟩
  · exact code16_hasNext r obj d s fun c => writeCapture_hasNext r c s
  · exact ⟨_, rfl⟩
  · exact ⟨_, rfl⟩
  · exact code16_hasNext r obj d s fun _ => ite_hasNext ⟨_, rfl⟩ (hasNext _)
  · exact writeRegion_hasNext r d s
  · exact ⟨_, rfl⟩
  · exact sized_hasNext r obj 4 d s fun _ => ⟨_, rfl⟩

theorem execObjectWrite_hasNext (r : Req) (obj : W32) (d : Bytes) (s : State) : HasNext (execObjectWrite r obj d s) := by
  unfold execObjectWrite
  split
  · exact refuseWrite_hasNext r obj _ s
  · exact refuseWrite_hasNext r obj _ s
  · exact refuseWrite_hasNext r obj _ s
  · exact ite_hasNext (writeLow_hasNext r obj d s) (writeHigh_hasNext r obj d s)

/-- Settles O2: OBJECT_WRITE by the forms and objects of a write; every other command is an effect on the state. -/
theorem noCommandStops : Obligations.NoCommandStops := by
  unfold Obligations.NoCommandStops
  intro c s
  cases c
  case objectWrite r object data => exact execObjectWrite_hasNext r object data s
  all_goals exact ⟨_, rfl⟩

end Sys2Proof.Machine
end

section
/-! The waits for a press: PREPARE_RETURN and the enrolments (R514, R541, R573). -/

namespace Sys2Proof.Machine

/-! ### PREPARE_RETURN (R573) -/

/-- What PREPARE_RETURN leaves to wait for the press. -/
def returnAwaited (s : State) (r : Req) : State :=
  let u := reply (touch s r) r modeObj stAccepted
  { u with ev := { u.ev with prepare := some (originOf s r, s.time.tick + 240000) } }

theorem execPrepareReturn_accepted {s : State} {r : Req} (h : servedOutside s r modeObj = true)
    (hb : cmdBusy s = false) (hr : s.md.role ≠ .active) (ha : returnAllowed s = true) :
    exec (.prepareReturn r) s = .next (sendChanges (wrote (returnAwaited s r) modeObj)) := by
  refine congrArg Host.Outcome.next ((modeCommand_idle h hb rfl (by simp [hr]) rfl ?_ _).trans ?_)
  · simp [returnAllowed_touch, ha]
  · simp [returnAwaited]

theorem execPrepareReturnTimeout_late {s : State} {o : Origin} {d : Nat} (h : s.ev.prepare = some (o, d))
    (hd : d < s.time.tick) : exec .prepareReturnTimeout s =
      .next (complete { s with ev := { s.ev with prepare := none } } o rfAccess) := by
  show execPrepareReturnTimeout s = _
  unfold execPrepareReturnTimeout
  rw [h]
  exact congrArg Host.Outcome.next (if_pos hd)

/-- Settles O11: the command passes its gate and waits, and its lapse is its completion. -/
theorem prepareReturnWaitsForThePress : Obligations.PrepareReturnWaitsForThePress := by
  unfold Obligations.PrepareReturnWaitsForThePress
  refine ⟨fun s r h hb hr ha => ?_, fun s o d obj hp hd ho => ?_⟩
  · refine ⟨_, execPrepareReturn_accepted h hb hr ha, acceptedFor_of_reply rfl, by simp [returnAwaited], by simp [returnAwaited]⟩
  · refine ⟨_, execPrepareReturnTimeout_late hp hd, by simp, by simp, ?_⟩
    exact complete_outstanding rfAccess ((isOutstanding_net rfl o obj).trans ho)

/-! ### Enrolments (R541) -/

/-- What an accepted enrolment leaves to wait for the press. -/
def enrolAwaited (s : State) (r : Req) (obj : W32) (signer : Bool) (slot : Nat) (d : Bytes) : State :=
  let u := reply (touch s r) r obj stAccepted
  { u with sec := { u.sec with enrol := some ⟨originOf s r, signer, slot, d, s.time.tick + 240000⟩ } }

@[simp] theorem originOf_reply (s : State) (r : Req) (o : W32) (st : Nat) (p : Bytes) :
    originOf (reply s r o st p) r = originOf s r := by
  by_cases h : st = stAccepted <;> simp [originOf, reply_eq, sess, h]

theorem hostEnrol_accepted {s : State} {r : Req} {obj : W32} {signer : Bool} {slot : Nat} {d : Bytes}
    (h : servedOutside s r obj = true) (hs : slot ≤ 3) (he : enrolRefusal (touch s r) r signer slot d = none) :
    hostEnrol r obj signer slot d s = sendChanges (wrote (enrolAwaited s r obj signer slot d) obj) := by
  unfold hostEnrol
  rw [hostCommand_served h, if_neg (by omega), he]
  simp only [enrolAwaited, originOf_reply, originOf_touch, reply_time, touch_tick]

/-- The enrolment is answered ACCEPTED and waits; no key and no authority is stored. -/
theorem enrolAwaited_waits (s : State) (r : Req) (obj : W32) (signer : Bool) (slot : Nat) (d : Bytes) :
    acceptedFor s (sendChanges (wrote (enrolAwaited s r obj signer slot d) obj)) r obj ∧
    (sendChanges (wrote (enrolAwaited s r obj signer slot d) obj)).md = s.md ∧
    (sendChanges (wrote (enrolAwaited s r obj signer slot d) obj)).sec =
      { s.sec with enrol := some ⟨originOf s r, signer, slot, d, s.time.tick + 240000⟩ } :=
  ⟨acceptedFor_of_reply rfl, by simp [enrolAwaited], by simp [enrolAwaited]⟩

theorem execEnrolmentTimeout_late {s : State} {e : EnrolSt} (h : s.sec.enrol = some e) (hd : e.deadline < s.time.tick) :
    exec .enrolmentTimeout s = .next (raise (complete { s with sec := { s.sec with enrol := none } } e.origin rfAccess)
      246 [w32 e.slot]) := by
  show execEnrolmentTimeout s = _
  unfold execEnrolmentTimeout
  rw [h]
  exact congrArg Host.Outcome.next (if_neg (by omega))

/-- Settles O59: either write waits with its origin, slot and bytes, and its lapse is its completion and EV246. -/
theorem enrolmentWaitsForThePress : Obligations.EnrolmentWaitsForThePress := by
  unfold Obligations.EnrolmentWaitsForThePress
  refine ⟨fun s r slot d h hs he => ?_, fun s r slot d h hs he => ?_, fun s e obj he hd ho => ?_⟩
  · exact ⟨_, congrArg Host.Outcome.next (hostEnrol_accepted h hs he), enrolAwaited_waits ..⟩
  · exact ⟨_, congrArg Host.Outcome.next (hostEnrol_accepted h hs he), enrolAwaited_waits ..⟩
  · refine ⟨_, execEnrolmentTimeout_late he hd, by simp, by simp, ?_, ?_⟩
    · have hc := complete_outstanding rfAccess ((isOutstanding_net (s := s)
        (u := { s with sec := { s.sec with enrol := none } }) rfl e.origin obj).trans ho)
      simpa using hc
    · have hn : Noted s s.time.phase [] (complete { s with sec := { s.sec with enrol := none } } e.origin rfAccess) :=
        Noted.keep (t := { s with sec := { s.sec with enrol := none } }) ⟨(recorded_nil s _).symm, rfl⟩ (by simp)
          (by simp)
      simpa using (hn.raise 246 [w32 e.slot]).ev

end Sys2Proof.Machine
end

section
/-! Corrected errors in memory (R532, R533). -/

namespace Sys2Proof.Machine

theorem satAdd_one (n : Nat) : satAdd 32 n 1 = min (n + 1) (2 ^ 32 - 1) := rfl

/-- The bank's last EV240 lies less than 8,000 ticks back (R532). -/
def toldLately (s : State) (b : Nat) : Bool := (tfind s.sec.lastEv240 b).any fun d => decide (s.time.tick < d + 8000)

/-- A corrected error as it is counted for its kind of memory and its bank. -/
def correctionCounted (s : State) (b : Nat) : State :=
  let u := secCount s (memoryKind b)
  { u with sec := { u.sec with corrections := tset u.sec.corrections b (satAdd 32 (tget 0 u.sec.corrections b) 1) } }

/-- A counted error is told with EV240, unless the bank's last one is told lately (R532). -/
theorem correctBit_eq (b : Nat) (s : State) (word : Nat) : correctBit b s word =
    if toldLately s b then correctionCounted s b
    else
      let u := correctionCounted s b
      raise { u with sec := { u.sec with lastEv240 := tset u.sec.lastEv240 b u.time.tick } } 240 [bankArg b, w32 word] := by
  unfold correctBit toldLately correctionCounted memoryKind
  dsimp only
  have hl : (secCount s (if b < 48 then 0 else 1)).sec.lastEv240 = s.sec.lastEv240 := rfl
  rw [hl]
  cases tfind s.sec.lastEv240 b with
  | none => simp
  | some d => by_cases hd : s.time.tick < d + 8000 <;> simp [hd, secCount]

theorem correctBit_corrections (b : Nat) (s : State) (word : Nat) : (correctBit b s word).sec.corrections =
    tset s.sec.corrections b (satAdd 32 (tget 0 s.sec.corrections b) 1) := by
  rw [correctBit_eq]
  split
  · rfl
  · simp [correctionCounted, secCount]

theorem correctBit_counters (b : Nat) (s : State) (word : Nat) :
    (correctBit b s word).sec.counters = (secCount s (memoryKind b)).sec.counters := by
  rw [correctBit_eq]
  split
  · rfl
  · simp [correctionCounted]

theorem correctBit_scrubbed (b : Nat) (s : State) (word : Nat) :
    (correctBit b s word).sec.scrubbed = s.sec.scrubbed := by
  rw [correctBit_eq]
  split
  · rfl
  · simp [correctionCounted, secCount]

theorem correctBit_time (b : Nat) (s : State) (word : Nat) : (correctBit b s word).time = s.time := by
  rw [correctBit_eq]
  split
  · rfl
  · simp [correctionCounted, secCount]

theorem correctBit_ev (b : Nat) (s : State) (word : Nat) : (correctBit b s word).ev =
    if toldLately s b then s.ev else recorded s s.time.phase [(240, [bankArg b, w32 word])] := by
  rw [correctBit_eq]
  split
  · rfl
  · rw [raise_ev]
    rfl

@[simp] theorem corrections_md (b : Nat) (words : List Nat) (s : State) : (words.foldl (correctBit b) s).md = s.md :=
  foldl_inv (P := fun u => u.md = s.md) _ _ _ rfl fun u w hu => by simp [hu]

@[simp] theorem corrections_time (b : Nat) (words : List Nat) (s : State) :
    (words.foldl (correctBit b) s).time = s.time :=
  foldl_inv (P := fun u => u.time = s.time) _ _ _ rfl fun u w hu => by rw [correctBit_time, hu]

@[simp] theorem corrections_scrubbed (b : Nat) (words : List Nat) (s : State) :
    (words.foldl (correctBit b) s).sec.scrubbed = s.sec.scrubbed :=
  foldl_inv (P := fun u => u.sec.scrubbed = s.sec.scrubbed) _ _ _ rfl fun u w hu => by
    rw [correctBit_scrubbed, hu]

/-- Each of the errors that a pass found counts for its bank, up to the counter's bound (R533). -/
theorem corrections_counted (b : Nat) {words : List Nat} (h : words ≠ []) (s : State) :
    tget 0 (words.foldl (correctBit b) s).sec.corrections b =
      min (tget 0 s.sec.corrections b + words.length) (2 ^ 32 - 1) := by
  induction words generalizing s with
  | nil => exact absurd rfl h
  | cons w ws ih =>
    have hw : tget 0 (correctBit b s w).sec.corrections b = min (tget 0 s.sec.corrections b + 1) (2 ^ 32 - 1) := by
      rw [correctBit_corrections, tget_tset_self, satAdd_one]
    rw [List.foldl_cons, List.length_cons]
    by_cases hn : ws = []
    · subst hn
      exact hw
    · rw [ih hn, hw]
      omega

theorem execSingleBitCorrection_powered {s : State} {b : Nat} (word n : Nat) (hp : s.md.powered = true) (hb : b ≤ 48) :
    exec (.singleBitCorrection b word n) s = .next (correctBit b (setPhase s n) word) :=
  congrArg Host.Outcome.next (if_pos (by simp [hp, hb]))

theorem execScrubPass_powered {s : State} {b : Nat} (words : List Nat) (n : Nat) (hp : s.md.powered = true)
    (hb : b ≤ 48) : exec (.scrubPass b words n) s = .next
      (let u := words.foldl (correctBit b) (setPhase s n)
       { u with sec := { u.sec with scrubbed := tset u.sec.scrubbed b u.time.tick } }) :=
  congrArg Host.Outcome.next (if_pos (by simp [hp, hb]))

/-- Settles O57: one error counts and is told as `correctBit_eq` says, and a pass counts each of its errors. -/
theorem memoryErrorsAreCountedPerBank : Obligations.MemoryErrorsAreCountedPerBank := by
  unfold Obligations.MemoryErrorsAreCountedPerBank
  refine ⟨fun s b word n hp hb => ?_, fun s b words n hp hb => ?_⟩
  · refine ⟨_, execSingleBitCorrection_powered word n hp hb, by simp, ?_, fun j hj => ?_, ?_, ?_⟩
    · rw [correctBit_corrections, tget_tset_self, satAdd_one]
      rfl
    · rw [correctBit_corrections, tget_tset_ne _ _ _ _ _ hj]
      rfl
    · rw [correctBit_counters]
      rfl
    · rw [correctBit_ev]
      rfl
  · refine ⟨_, execScrubPass_powered words n hp hb, by simp, by simp, fun hw => ?_, fun hw => corrections_counted b hw _⟩
    subst hw
    rfl

end Sys2Proof.Machine
end

section
/-! Feeds, internal rails and die temperature (R577, R578, R590). -/

namespace Sys2Proof.Machine

/-- An event raised at a phase of the tick, behind changes that reach neither events nor time. -/
theorem raise_behind {s u : State} {n : Nat} (he : u.ev = s.ev) (ht : u.time = { s.time with phase := n }) (ev : Nat)
    (arg : List W32) : (raise u ev arg).ev = recorded s n [(ev, arg)] :=
  ((Noted.start s n).keep he ht |>.raise ev arg).ev

/-! ### Feeds (R577) -/

/-- The module at an instant, with what its supply monitors and its thermometer then show. -/
def supplySeen (s : State) (n : Nat) (x : SupplySt) : State := { setPhase s n with sup := x }

/-- What the supply shows is told with one event. -/
theorem raise_supplySeen (s : State) (n : Nat) (x : SupplySt) (ev : Nat) (arg : List W32) :
    (raise (supplySeen s n x) ev arg).md = s.md ∧ (raise (supplySeen s n x) ev arg).sup = x ∧
      (raise (supplySeen s n x) ev arg).ev = recorded s n [(ev, arg)] :=
  ⟨by simp [supplySeen], by simp [supplySeen], raise_behind rfl rfl ev arg⟩

theorem execLogicFeedLow_inRange {s : State} {feed : Nat} (v : F64) (n : Nat) (hp : s.md.powered = true)
    (hr : s.sup.inRange.getD feed false = true) : exec (.logicFeedLow feed v n) s =
      .next (raise (supplySeen s n { s.sup with inRange := lset s.sup.inRange feed false }) 252 (w32 feed :: wF64 v)) :=
  congrArg Host.Outcome.next (if_neg (by simp only [hp, hr]; decide))

theorem execLogicFeedRestored_outOfRange {s : State} {feed : Nat} (n : Nat) (hp : s.md.powered = true)
    (hr : s.sup.inRange.getD feed true = false) : exec (.logicFeedRestored feed n) s =
      .next (raise (supplySeen s n { s.sup with inRange := lset s.sup.inRange feed true }) 253 [w32 feed]) :=
  congrArg Host.Outcome.next (if_neg (by simp only [hp, hr]; decide))

/-! ### The internal rails (R578) -/

theorem powerOff_atKilnEntry (s : State) : atKilnEntry (powerOff s) :=
  ⟨rfl, rfl, rfl, rfl, rfl, rfl, rfl, rfl, rfl, rfl, rfl, rfl, rfl, rfl, rfl, rfl, rfl, rfl, rfl, rfl, rfl, rfl, rfl,
    rfl, rfl⟩

theorem execInternalRailsOff_due {s : State} {d : Nat} (hp : s.md.powered = true) (hr : s.sup.railsOffAt = some d)
    (hd : s.md.ticking = true → d ≤ s.time.tick) : exec .internalRailsOff s = .next (powerOff s) := by
  show execInternalRailsOff s = _
  unfold execInternalRailsOff
  rw [hr]
  refine congrArg Host.Outcome.next (if_pos ?_)
  cases ht : s.md.ticking with
  | false => simp [hp]
  | true => simp [hp, hd ht]

/-! ### The die (R590) -/

theorem execDieTemperatureWarning_rise {s : State} {c : Int} (n : Nat) (hp : s.md.powered = true)
    (hh : s.sup.hot = false) (hc : 100 ≤ c) : exec (.dieTemperatureWarning c n) s =
      .next (raise (supplySeen s n { s.sup with hot := true }) 254 []) := by
  show execDieTemperatureWarning c n s = _
  unfold execDieTemperatureWarning
  exact congrArg Host.Outcome.next ((if_neg (by simp [hp])).trans (if_pos (by simp [hh, hc])))

theorem execDieTemperatureWarning_fall {s : State} {c : Int} (n : Nat) (hp : s.md.powered = true)
    (hh : s.sup.hot = true) (hc : c < 95) : exec (.dieTemperatureWarning c n) s =
      .next (raise (supplySeen s n { s.sup with hot := false }) 255 []) := by
  show execDieTemperatureWarning c n s = _
  unfold execDieTemperatureWarning
  exact congrArg Host.Outcome.next
    ((if_neg (by simp [hp])).trans ((if_neg (by simp [hh])).trans (if_pos (by simp [hh, hc]))))

/-- Settles O56: feeds and die are what was seen with one event, and rails that go off leave the state of a power-off. -/
theorem supplyAndTemperature : Obligations.SupplyAndTemperature := by
  unfold Obligations.SupplyAndTemperature
  refine ⟨fun s feed v n hp hr => ?_, fun s feed n hp hr => ?_, fun s d hp hr hd => ?_, fun s c n hp hh hc => ?_,
    fun s c n hp hh hc => ?_⟩
  · exact ⟨_, execLogicFeedLow_inRange v n hp hr, raise_supplySeen ..⟩
  · exact ⟨_, execLogicFeedRestored_outOfRange n hp hr, raise_supplySeen ..⟩
  · exact ⟨_, execInternalRailsOff_due hp hr hd, powerOff_atKilnEntry s, rfl, rfl, rfl, rfl, rfl, rfl, rfl⟩
  · exact ⟨_, execDieTemperatureWarning_rise n hp hh hc, raise_supplySeen ..⟩
  · exact ⟨_, execDieTemperatureWarning_fall n hp hh hc, raise_supplySeen ..⟩

end Sys2Proof.Machine
end

section
/-! Sessions that end (R484, R502, R538): what holds of every session holds of those that an operation leaves, for each
operation that completes requests. -/

namespace Sys2Proof.Machine

/-- Every session of the module has the property. -/
def EachSession (P : SessSt → Prop) (s : State) : Prop := ∀ e ∈ s.net.sess, P e.2

/-- A property of a session that does not depend on the requests it waits for. -/
def WaitsApart (P : SessSt → Prop) : Prop := ∀ x w, P x → P { x with waiting := w }

theorem EachSession.keep {P : SessSt → Prop} {s t : State} (h : EachSession P s) (k : t.net.sess = s.net.sess) :
    EachSession P t := by
  unfold EachSession
  rw [k]
  exact h

theorem eachSession_none {s : State} (h : EachSession (fun _ => False) s) : s.net.sess = [] :=
  List.eq_nil_iff_forall_not_mem.mpr h

variable {P : SessSt → Prop} {s : State}

/-- An open session is one of the module's. -/
theorem EachSession.of_open (h : EachSession P s) {i : Nat} (ho : (sess s i).open_ = true) : P (sess s i) := by
  rcases tget_mem_or_default ({} : SessSt) s.net.sess i with hm | hd
  · exact h _ hm
  · rw [sess, hd] at ho
    cases ho

theorem completeOne_eachSession (hP : WaitsApart P) (h : EachSession P s) (o : Origin) (st : Nat) :
    EachSession P (completeOne s o st) := by
  unfold completeOne
  extract_lets x
  split
  next ho =>
    have ho : x.open_ = true := (Bool.and_eq_true_iff.mp ho).1
    split
    · exact h
    next w _ =>
      extract_lets u
      have hu : EachSession P u := by
        intro e he
        rcases mem_tset he with hm | rfl
        · exact h e hm
        · exact hP _ _ (h.of_open ho)
      split
      · exact hu.keep rfl
      · exact hu
  · exact h

theorem complete_eachSession (hP : WaitsApart P) (h : EachSession P s) (o : Origin) (st : Nat) :
    EachSession P (complete s o st) := by
  unfold complete
  split
  · exact completeOne_eachSession hP h o st
  · extract_lets rest
    split
    · exact h.keep rfl
    · refine completeOne_eachSession hP ?_ o st
      exact h.keep rfl

theorem completeOpt_eachSession (hP : WaitsApart P) (h : EachSession P s) (o : Option Origin) (st : Nat) :
    EachSession P (completeOpt s o st) := by
  unfold completeOpt
  split
  · exact complete_eachSession hP h _ st
  · exact h

theorem sendMortar_sessions (s : State) (m : Mortar) : (sendMortar s m).net.sess = s.net.sess := by
  obtain ⟨ms, lo, lf, k, h⟩ := sendMortarAt_eq 4 s m
  rw [sendMortar, h]
  rfl

theorem ticketEnd_eachSession (hP : WaitsApart P) (h : EachSession P s) (k status reason : Nat) :
    EachSession P (ticketEnd s k status reason) := by
  unfold ticketEnd
  extract_lets x s1 s2 s3 s4
  have h2 : EachSession P s2 := by
    unfold s2
    split
    · exact h.keep (by simp [s1])
    · exact h.keep rfl
  have h3 : EachSession P s3 := h2.keep (by unfold s3; split_ifs <;> simp)
  exact completeOpt_eachSession hP (h3.keep (sendMortar_sessions _ _)) _ _

theorem endSessions_eachSession (hP : WaitsApart P) (p : Nat → SessSt → Bool)
    (h : ∀ e ∈ s.net.sess, p e.1 e.2 = false → P e.2) : EachSession P (endSessions s p) := by
  unfold endSessions
  extract_lets gone mine n k u
  have hu : EachSession P u := by
    intro e he
    obtain ⟨hm, hp⟩ := List.mem_filter.mp he
    exact h e hm (by simpa using hp)
  refine foldl_inv _ _ _ hu fun v e hv => ?_
  split
  · exact ticketEnd_eachSession hP hv _ _ _
  · exact hv

end Sys2Proof.Machine
end

section
/-! Environmental wipes, intrusions and the reload of the identity key (R532, R538, R539). -/

namespace Sys2Proof.Machine

/-! ### A wipe of bank 47 (R538) -/

theorem wipeBank_sessions (s : State) (cause : Nat) : (wipeBank s cause).net.sess = [] := by
  refine eachSession_none ?_
  have hw : WaitsApart fun _ => False := fun _ _ h => h
  unfold wipeBank
  extract_lets b u
  have hu : EachSession (fun _ => False) u := endSessions_eachSession hw _ fun _ _ h => by simp at h
  refine foldl_inv _ _ _ hu fun v e hv => ?_
  split
  · exact ticketEnd_eachSession hw hv _ _ _
  · exact hv

theorem wipeBank_sec (s : State) (cause : Nat) :
    (wipeBank s cause).sec = { s.sec with loaded := false, lastWipe := cause } := by simp [wipeBank]

@[simp] theorem wipeBank_time (s : State) (cause : Nat) : (wipeBank s cause).time = s.time := by
  unfold wipeBank
  extract_lets b u
  refine foldl_inv (P := fun v => v.time = s.time) _ _ u (by simp [u]) fun v e hv => ?_
  split
  · rw [ticketEnd_time, hv]
  · exact hv

theorem wipeBank_wiped (s : State) (cause : Nat) : bankWiped (wipeBank s cause) cause :=
  ⟨by rw [wipeBank_sec], by rw [wipeBank_sec], wipeBank_sessions s cause⟩

theorem wipeBank_raises (s : State) (cause : Nat) : Raises s (wipeBank s cause) := by
  unfold wipeBank
  extract_lets b u
  have hu : Raises s u := by
    refine Raises.trans ?_ (endSessions_raises _ _)
    exact .of_intake rfl
  refine hu.trans (.foldl _ _ u fun v e => ?_)
  split
  · exact ticketEnd_raises v e.1 6 0
  · exact .refl v

theorem envWipe_wiped (s : State) (cause : Nat) : bankWiped (envWipe s cause) cause :=
  wipeBank_wiped (raise (secCount s 2) 243 [w32 cause]) cause

/-- An environmental wipe keeps the key store, and tells EV243 first (R538). -/
theorem envWipe_kept (s : State) (cause n : Nat) : (envWipe (setPhase s n) cause).md = s.md ∧
    (envWipe (setPhase s n) cause).sec.identity = s.sec.identity ∧
    (envWipe (setPhase s n) cause).sec.envFrom = some s.time.tick ∧
    (recorded s n [(243, [w32 cause])]).intake <+: (envWipe (setPhase s n) cause).ev.intake := by
  refine ⟨by simp [envWipe, secCount], by simp [envWipe, wipeBank_sec, secCount], by simp [envWipe, secCount, setPhase], ?_⟩
  have hraise : (raise (secCount (setPhase s n) 2) 243 [w32 cause]).ev = recorded s n [(243, [w32 cause])] :=
    raise_behind rfl rfl _ _
  rw [← hraise]
  exact (wipeBank_raises (raise (secCount (setPhase s n) 2) 243 [w32 cause]) cause).intake

/-! ### Intrusions (R538, R539) -/

theorem intrude_wiped (s : State) (mesh : Bool) : bankWiped (intrude s mesh) (if mesh then 3 else 2) :=
  wipeBank_wiped _ _

theorem intrude_sec (s : State) (mesh : Bool) : (intrude s mesh).sec = { s.sec with
    identity := [], signers := [], authorities := [], intruded := true, loaded := false
    lastWipe := if mesh then 3 else 2 } := by
  simp [intrude, wipeBank_sec]

/-- EV242 of an intrusion, which waits while the event controller does not run yet (R87). -/
def intrusionTold (s : State) (mesh : Bool) : State :=
  if s.ev.running then raise s 242 (intrusionArgs mesh true)
  else { s with sec := { s.sec with ev242Due := s.sec.ev242Due ++ [(mesh, true)] } }

theorem execIntrusion_powered {s : State} (mesh : Bool) (n : Nat) (hp : s.md.powered = true) :
    exec (.intrusion mesh n) s = .next (intrusionTold (intrude (setPhase s n) mesh) mesh) :=
  congrArg Host.Outcome.next (if_pos hp)

theorem intrusionTold_running {s : State} (mesh : Bool) (h : s.ev.running = true) :
    intrusionTold s mesh = raise s 242 (intrusionArgs mesh true) := if_pos h

theorem intrusionTold_starting {s : State} (mesh : Bool) (h : s.ev.running = false) :
    intrusionTold s mesh = { s with sec := { s.sec with ev242Due := s.sec.ev242Due ++ [(mesh, true)] } } :=
  if_neg (by simp [h])

theorem raise_last {s : State} (h : s.ev.running = true) (ev : Nat) (arg : List W32) :
    ∃ e ∈ (raise s ev arg).ev.intake, e.ev = ev ∧ e.stamp = s.time.ns + s.time.phase := by
  rw [raise_ev, recorded_one h]
  exact ⟨_, List.mem_append_right _ (List.mem_singleton_self _), rfl, rfl⟩

/-! ### The reload (R538) -/

theorem execIdentityKeyReload_due {s : State} {d : Nat} (n : Nat) (hp : s.md.powered = true)
    (he : s.sec.envFrom = some d) (hd : d + 8000 ≤ s.time.tick) : exec (.identityKeyReload n) s =
      .next (raise { setPhase s n with
        sec := { s.sec with envFrom := none, loaded := !s.sec.identity.isEmpty } } 244 []) := by
  show execIdentityKeyReload n s = _
  unfold execIdentityKeyReload
  rw [he]
  exact congrArg Host.Outcome.next (if_pos (by simp [hp, hd]))

/-- Settles O58: every wipe is `wipeBank`, whose sessions and sealed state are known, with its event before or behind it. -/
theorem secureBankIsWiped : Obligations.SecureBankIsWiped := by
  unfold Obligations.SecureBankIsWiped
  refine ⟨fun s cause n hp h4 h7 => ?_, fun s word n hp => ?_, fun s mesh n hp => ?_, fun s mesh n hp hu => ?_,
    fun s d n hp he hd => ?_⟩
  · exact ⟨_, congrArg Host.Outcome.next (if_pos (by simp [hp, h4, h7])), envWipe_wiped .., envWipe_kept s cause n⟩
  · obtain ⟨hmd, hid, -, hev⟩ := envWipe_kept s 7 n
    exact ⟨_, congrArg Host.Outcome.next ((if_neg (by simp [hp])).trans (if_pos rfl)), envWipe_wiped .., hmd, hid, hev⟩
  · have hw := intrude_wiped (setPhase s n) mesh
    have hrun : (intrude (setPhase s n) mesh).ev.running = s.ev.running := running_of_evCore (by simp)
    refine ⟨_, execIntrusion_powered mesh n hp, ?_⟩
    cases hr : s.ev.running with
    | false =>
      rw [intrusionTold_starting mesh (hrun.trans hr)]
      exact ⟨hw, by simp, by simp [intrude_sec], by simp [intrude_sec], by simp [intrude_sec], by simp [intrude_sec],
        fun _ => by simp [intrude_sec], nofun⟩
    | true =>
      have htime : (intrude (setPhase s n) mesh).time = (setPhase s n).time := wipeBank_time ..
      obtain ⟨e, hm, hev, hst⟩ := raise_last (hrun.trans hr) 242 (intrusionArgs mesh true)
      rw [intrusionTold_running mesh (hrun.trans hr)]
      refine ⟨?_, by simp, by simp [intrude_sec], by simp [intrude_sec], by simp [intrude_sec], by simp [intrude_sec],
        nofun, fun _ => ⟨e, hm, hev, ?_⟩⟩
      · simpa [bankWiped] using hw
      · rw [hst, htime]
        rfl
  · refine ⟨_, congrArg Host.Outcome.next (if_neg (by simp [hp])), by simp [hu]⟩
  · exact ⟨_, execIdentityKeyReload_due n hp he hd, by simp, raise_behind rfl rfl 244 [], by simp⟩

end Sys2Proof.Machine
end

section
/-! SUPPORT. What a reaction to OASIS leaves of the field and of the intake (R72, R421). -/

namespace Sys2Proof.Machine

/-- Of the field a change of mode touches the trim mode alone. -/
structure FieldKept (s t : State) : Prop where
  field : t.field = { s.field with trimMask := t.field.trimMask, trimMaskNext := t.field.trimMaskNext }

theorem FieldKept.of_field {s t : State} (h : t.field = s.field) : FieldKept s t := ⟨by rw [h]⟩

/-- Leaving STOP ends the trim mode (R421). -/
theorem trimEnds_field {s u : State} (old : Mode) (h : u.field = s.field) :
    (if old = .stop then { u with field := { u.field with trimMask := 0, trimMaskNext := none } } else u).field =
      if old = .stop then { s.field with trimMask := 0, trimMaskNext := none } else s.field := by
  split <;> simp [h]

theorem enterEffects_field (s : State) (old m : Mode) : (enterEffects s old m).field =
    if old = .stop then { s.field with trimMask := 0, trimMaskNext := none } else s.field := by
  unfold enterEffects
  extract_lets s1 _ s2 _ _ s3 _ s4 s5 s6 s7 _ s8 _ s9
  have h1 : s1.field = s.field := by simp [s1]
  have h4 : s4.field = s1.field := by simp only [s4, s3, s2]; (repeat' split) <;> rfl
  have h5 : s5.field = s4.field := by simp [s5]
  have h6 : s6.field = s5.field := by simp [s6]
  have h7 : s7.field = s6.field := by simp [s7]
  have h8 : s8.field = s.field := by
    rw [← h1, ← h4, ← h5, ← h6, ← h7]
    simp only [s8]
    split <;> rfl
  exact trimEnds_field old h8

theorem changeMode_fieldKept {s u : State} (h : u.field = s.field) (m : Mode) (cause : Nat) :
    FieldKept s (changeMode u m cause) := by
  unfold changeMode
  extract_lets old s1 s2 md s3
  split
  · exact .of_field h
  · have h3 : s3.field = s.field := by simp [s3, s2, s1, h]
    have hs : (settle (enterEffects s3 old m)).field = (enterEffects s3 old m).field := by simp
    refine ⟨?_⟩
    rw [hs, enterEffects_field, h3]
    split <;> rfl

theorem oasisReaction_fieldKept (s : State) : FieldKept s (oasisReaction s) := by
  unfold oasisReaction
  split
  · split
    case h_5 => exact changeMode_fieldKept (by simp) _ _
    case h_6 => exact .of_field rfl
    all_goals exact changeMode_fieldKept rfl _ _
  · split <;> exact .of_field rfl

theorem oasisReaction_raises (s : State) : Raises s (oasisReaction s) := by
  unfold oasisReaction
  split
  · split
    case h_5 => exact (exchEnd_raises s 14).trans (changeMode_raises _ _ _)
    case h_6 => exact .refl s
    all_goals exact changeMode_raises _ _ _
  · split <;> exact .of_intake rfl

/-- A unit in control goes to OASIS from the modes that drive the plant, CHANGE apart (R72). -/
theorem oasisReaction_drives {s : State} (hc : inControl s = true) (hm : s.md.mode ∈ [.stop, .run, .hold, .degraded]) :
    (oasisReaction s).md.mode = .oasis := by
  simp only [List.mem_cons, List.not_mem_nil, or_false] at hm
  unfold oasisReaction
  rw [if_pos hc]
  rcases hm with hm | hm | hm | hm <;> simp [hm]

end Sys2Proof.Machine
end

section
/-! Logic silence, the watchdog of the field controller and trim mode (R420, R421, R427, R429). -/

namespace Sys2Proof.Machine

theorem inControl_of_drives {s : State} (h : drives s = true) : inControl s = true := (Bool.and_eq_true_iff.mp h).1

/-- A reaction to OASIS with EV205: the field but for the trim mode, the mode, and the event first of all. -/
theorem oasisReaction_raised {s u : State} {n : Nat} (arg : List W32) (hmd : u.md = s.md) (he : u.ev = s.ev)
    (ht : u.time = { s.time with phase := n }) (hd : drives s = true) :
    FieldKept u (oasisReaction (raise u 205 arg)) ∧
    (s.md.mode ∈ [.stop, .run, .hold, .degraded] → (oasisReaction (raise u 205 arg)).md.mode = .oasis) ∧
    (recorded s n [(205, arg)]).intake <+: (oasisReaction (raise u 205 arg)).ev.intake := by
  refine ⟨⟨?_⟩, fun hm => ?_, ?_⟩
  · have hu : (raise u 205 arg).field = u.field := by simp
    rw [← hu]
    exact (oasisReaction_fieldKept (raise u 205 arg)).field
  · refine oasisReaction_drives ?_ ?_
    · simpa [inControl, hmd] using inControl_of_drives hd
    · simpa [hmd] using hm
  · rw [← raise_behind he ht 205 arg]
    exact (oasisReaction_raises _).intake

/-! ### Logic silence (R429) -/

/-- The onboard outputs of a list with SILENCE set. -/
def silenced (s : State) (outs : List (Nat × IoEntry)) : State :=
  outs.foldl (fun s e => (kkOf e.2).elim s fun kk => setChan s kk { chan s kk with silence := true }) s

theorem silenced_concat (s : State) (outs : List (Nat × IoEntry)) (e : Nat × IoEntry) : silenced s (outs ++ [e]) =
    (kkOf e.2).elim (silenced s outs) fun kk =>
      setChan (silenced s outs) kk { chan (silenced s outs) kk with silence := true } := by
  simp [silenced]

theorem silenced_silence (s : State) {outs : List (Nat × IoEntry)} {e : Nat × IoEntry} {kk : Nat} (he : e ∈ outs)
    (hk : kkOf e.2 = some kk) : (chan (silenced s outs) kk).silence = true := by
  induction outs using List.reverseRecOn with
  | nil => cases he
  | append_singleton l c ih =>
    rw [silenced_concat]
    rcases List.mem_append.mp he with hl | hc
    · cases hc : kkOf c.2 with
      | none => exact ih hl
      | some j =>
        by_cases hj : kk = j
        · subst hj
          simp
        · rw [Option.elim_some, chan_setChan_ne _ _ _ _ hj]
          exact ih hl
    · obtain rfl := List.mem_singleton.mp hc
      simp [hk]

/-- SILENCE apart, the outputs are left as they are. -/
theorem silenced_keeps (s : State) (outs : List (Nat × IoEntry)) : (silenced s outs).md = s.md ∧
    (silenced s outs).ev = s.ev ∧ (silenced s outs).time = s.time := by
  unfold silenced
  refine foldl_inv (P := fun u => u.md = s.md ∧ u.ev = s.ev ∧ u.time = s.time) _ _ _ ⟨rfl, rfl, rfl⟩ fun u e hu => ?_
  cases kkOf e.2 <;> exact hu

/-- The terminals as logic silence drives them (R429). -/
def silenceTerminals (s : State) : Tab W64 :=
  (onboardOutputs s).foldl (fun t e => tset t e.1 (silenceTerminal s e.1 e.2)) s.field.terminal

theorem silenceTerminals_output {s : State} {e : Nat × IoEntry} (he : e ∈ onboardOutputs s) :
    tget 0 (silenceTerminals s) e.1 = silenceTerminal s e.1 e.2 := by
  have hio : ∀ c ∈ onboardOutputs s, ioEntry (theImage s) c.1 = some c.2 := fun c hc =>
    mem_ioNum.mp (List.mem_filter.mp hc).1
  refine tget_foldl_tset 0 (·.1) (fun e => silenceTerminal s e.1 e.2) s.field.terminal he fun c hc h => ?_
  have h2 : c.2 = e.2 := Option.some.inj ((hio c hc).symm.trans (h ▸ hio e he))
  simp only [h, h2]

/-- The module once logic silence has been found, before it reacts. -/
def silenceFound (s : State) (n : Nat) : State :=
  let u := silenced (setPhase s n) (onboardOutputs s)
  { u with field := { u.field with silence := true, cause := 1, terminal := silenceTerminals s } }

theorem execLogicSilence_late {s : State} {n : Nat} (hd : drives s = true) (hr : s.field.refreshed = true)
    (hs : s.field.silence = false)
    (ht : tSilence (theImage s) * tickNs + 105000 ≤ (s.time.tick - s.field.lastRefresh) * tickNs + n) :
    exec (.logicSilence n) s = .next (oasisReaction (raise (silenceFound s n) 205 [1])) :=
  congrArg Host.Outcome.next (if_neg (by simp [hd, hr, hs, ht]))

/-! ### The watchdog of the field controller (R429) -/

/-- The module once the watchdog has stopped the field controller, before it reacts. -/
def controllerFailed (s : State) (n : Nat) : State :=
  let u := setPhase s n
  releaseStages { u with field := { u.field with
    fault := true, cause := 2, terminal := u.field.terminal.map fun e => (e.1, 0) } }

theorem execFieldControllerWatchdog_failed {s : State} (n : Nat) (hd : drives s = true) (hr : s.field.refreshed = true)
    (hf : s.field.fault = false) :
    exec (.fieldControllerWatchdog n) s = .next (oasisReaction (raise (controllerFailed s n) 205 [2])) :=
  congrArg Host.Outcome.next (if_neg (by simp [hd, hr, hf]))

theorem controllerFailed_targets (s : State) (n kk : Nat) : (chan (controllerFailed s n) kk).targets = [] := by
  unfold chan controllerFailed releaseStages
  rw [tget_map ({} : ChanSt) (fun c => { c with targets := [] }) rfl]

/-! ### Trim mode (R421) -/

/-- The trim mask and a trim current as a host has written them for the next boundary. -/
def trimAwaited (s : State) (r : Req) (obj : W32) (f : FieldSt) : State :=
  reply { touch s r with field := f } r obj stDone

theorem trimAwaited_answers (s : State) (r : Req) (obj : W32) (f : FieldSt) :
    answers s (sendChanges (wrote (trimAwaited s r obj f) obj)) r stDone ∧
    (sendChanges (wrote (trimAwaited s r obj f) obj)).md = s.md ∧
    (sendChanges (wrote (trimAwaited s r obj f) obj)).field = f :=
  ⟨answers_of_reply (reply_net rfl ..), by simp [trimAwaited], by simp [trimAwaited]⟩

theorem execTrimModeWrite_stop {s : State} {r : Req} (mask : Byte) (h : servedOutside s r 0x30210000#32 = true)
    (hc : inControl s = true) (hm : s.md.mode = .stop) : exec (.trimModeWrite r mask) s = .next
      (sendChanges (wrote (trimAwaited s r 0x30210000 { s.field with trimMaskNext := some mask }) 0x30210000)) :=
  congrArg Host.Outcome.next (hostCommand_owner h (if_neg (by simp [hc, hm])))

theorem execTrimCurrentWrite_inRange {s : State} {r : Req} {a : Nat} {v : F64}
    (h : servedOutside s r (0x30200000 + w32 a) = true) (ha : a ≤ 7) (hk : chanClass s (0x40 + a) ≠ 0)
    (hv : (fLe 0 v && fLe v (fOfInt 24)) = true) : exec (.trimCurrentWrite r a v) s = .next
      (sendChanges (wrote (trimAwaited s r (0x30200000 + w32 a) { s.field with trimNext := s.field.trimNext ++ [(a, v)] })
        (0x30200000 + w32 a))) := by
  refine congrArg Host.Outcome.next (hostCommand_owner h ?_)
  exact (if_neg (by omega)).trans ((if_neg hk).trans (if_neg (by rw [hv]; decide)))

/-- Settles O50: silence and watchdog are what the field controller found with the reaction to OASIS behind it, which leaves
of the field all but the trim mode. -/
theorem silenceWatchdogAndTrim : Obligations.SilenceWatchdogAndTrim := by
  unfold Obligations.SilenceWatchdogAndTrim
  refine ⟨fun s n hd hr hs ht => ?_, fun s n hd hr hf => ?_, fun s r mask h hc hm => ?_, fun s r a v h ha hk hv => ?_⟩
  · obtain ⟨kmd, kev, ktime⟩ := silenced_keeps (setPhase s n) (onboardOutputs s)
    obtain ⟨⟨hfield⟩, hmode, hev⟩ := oasisReaction_raised (u := silenceFound s n) [1] kmd kev ktime hd
    refine ⟨_, execLogicSilence_late hd hr hs ht, by rw [hfield]; rfl, by rw [hfield]; rfl, fun e he => ⟨?_, fun kk hk => ?_⟩,
      hmode, hev⟩
    · rw [hfield]
      exact silenceTerminals_output he
    · rw [chan, hfield]
      exact silenced_silence (setPhase s n) he hk
  · obtain ⟨⟨hfield⟩, hmode, hev⟩ := oasisReaction_raised (u := controllerFailed s n) [2] rfl rfl rfl hd
    refine ⟨_, execFieldControllerWatchdog_failed n hd hr hf, by rw [hfield]; rfl, by rw [hfield]; rfl, by rw [hfield]; rfl,
      fun kk => ?_, hmode, hev⟩
    rw [chan, hfield]
    exact controllerFailed_targets s n kk
  · exact ⟨_, execTrimModeWrite_stop mask h hc hm, trimAwaited_answers ..⟩
  · exact ⟨_, execTrimCurrentWrite_inRange h ha hk hv, trimAwaited_answers ..⟩

end Sys2Proof.Machine
end

section
/-! Digital input changes and event stamps, analogue ranges, position signals (R404 to R406, R416, R425). -/

namespace Sys2Proof.Machine

/-! ### One channel that changes, and its event -/

/-- A channel's new state told with one event: no mode, no other channel. -/
theorem raise_setChan (s : State) (kk : Nat) (c : ChanSt) (ev : Nat) (arg : List W32) :
    (raise (setChan s kk c) ev arg).md = s.md ∧ chan (raise (setChan s kk c) ev arg) kk = c ∧
    (raise (setChan s kk c) ev arg).ev = recorded s s.time.phase [(ev, arg)] := by
  have hch : chan (raise (setChan s kk c) ev arg) kk = chan (setChan s kk c) kk := by simp [chan]
  exact ⟨by simp, by rw [hch, chan_setChan_self], raise_behind rfl rfl ev arg⟩

/-! ### Event stamps (R405, R406) -/

theorem soeInsert_length (r : SoeRec) (l : List SoeRec) : (soeInsert r l).length = l.length + 1 := by
  induction l with
  | nil => rfl
  | cons x l ih =>
    unfold soeInsert
    split <;> simp [ih]

/-- A buffer that has room takes the stamp in its place. -/
theorem soePush_room {s : State} (r : SoeRec) (h : s.field.soe.length < 8192) : soePush s r =
    { s with field := { s.field with soe := soeInsert r s.field.soe, soeSeq := s.field.soeSeq + 1 } } :=
  if_pos (by rw [soeInsert_length]; omega)

/-- An input with its new level, stamped where its entry asks for it (R404, R405). -/
def inputChanged (s : State) (kk : Nat) (v : Bool) (ns : Nat) (e : IoEntry) : State :=
  let u := setChan s kk { chan s kk with level := v }
  if e.flags.testBit 0 then soePush u ⟨stampOf e ns, kk, v, timeQuality s, w32 s.field.soeSeq⟩ else u

theorem execDigitalInputChange_changed {s : State} {kk : Nat} {v : Bool} {n : Nat} {e : IoEntry} (ns : Nat)
    (he : ioByKind (theImage s) kk [1, 2, 3] = some (n, e)) (hf : fieldRuns s = true) (hl : (chan s kk).level ≠ v) :
    exec (.digitalInputChange kk v ns) s = .next (inputChanged s kk v ns e) := by
  show execDigitalInputChange kk v ns s = _
  unfold execDigitalInputChange
  rw [he]
  exact congrArg Host.Outcome.next (if_neg (by simp [hf, hl]))

/-- A change of level leaves events and the other channels, and adds its stamp where one is asked for. -/
theorem inputChanged_effect (s : State) (kk : Nat) (v : Bool) (ns : Nat) (e : IoEntry) (h : s.field.soe.length < 8192) :
    (inputChanged s kk v ns e).md = s.md ∧ (inputChanged s kk v ns e).ev = s.ev ∧
    (inputChanged s kk v ns e).field.ch = tset s.field.ch kk { chan s kk with level := v } ∧
    (inputChanged s kk v ns e).field.soe = if e.flags.testBit 0 then
      soeInsert ⟨stampOf e ns, kk, v, timeQuality s, w32 s.field.soeSeq⟩ s.field.soe else s.field.soe := by
  unfold inputChanged
  extract_lets c u
  rw [soePush_room (s := u) _ h]
  split <;> exact ⟨rfl, rfl, rfl, rfl⟩

theorem le_foldl_max {α : Type} (f : α → Nat) (l : List α) (a : Nat) : a ≤ l.foldl (fun n e => max n (f e)) a := by
  induction l generalizing a with
  | nil => exact le_rfl
  | cons x l ih => exact (le_max_left _ _).trans (ih _)

theorem mem_le_foldl_max {α : Type} (f : α → Nat) {l : List α} {e : α} (he : e ∈ l) (a : Nat) :
    f e ≤ l.foldl (fun n e => max n (f e)) a := by
  induction l generalizing a with
  | nil => cases he
  | cons x l ih =>
    rcases List.mem_cons.mp he with rfl | he
    · exact (le_max_right _ _).trans (le_foldl_max f l _)
    · exact ih he _

/-- The stamps that a read answers (R406). -/
def soeUnread (s : State) (r : Req) : List SoeRec :=
  (s.field.soe.filter fun e => decide ((sess s r.session).soePos ≤ e.seq.toNat)).take 64

/-- The module behind a read of the stamps. -/
def soeAnswered (s : State) (r : Req) : State :=
  let u := reply (touch s r) r 0x30100000 stDone ((soeUnread s r).flatMap soeBytes)
  let v := setSess u r.session { sess u r.session with
    soePos := (soeUnread s r).foldl (fun n e => max n (e.seq.toNat + 1)) (sess s r.session).soePos }
  { v with field := { v.field with soeLost := false } }

theorem execSoeRead_served {s : State} {r : Req} (h : servedRead s r 0x30100000#32 = true) :
    exec (.soeRead r) s = .next (soeAnswered s r) := by
  refine congrArg Host.Outcome.next ((hostRead_served h _).trans ?_)
  have hp : (sess (touch s r) r.session).soePos = (sess s r.session).soePos := by simp [sess]
  simp only [soeAnswered, soeUnread, hp, touch_field]

/-- A read answers the unread stamps, and the session's position passes each of them. -/
theorem soeAnswered_effect (s : State) (r : Req) : (soeAnswered s r).md = s.md ∧ (soeAnswered s r).ev = s.ev ∧
    (soeAnswered s r).field = { s.field with soeLost := false } ∧
    answers s (soeAnswered s r) r stDone ((soeUnread s r).flatMap soeBytes) ∧
    ∀ e ∈ soeUnread s r, e.seq.toNat < (sess (soeAnswered s r) r.session).soePos := by
  have hev : ∀ u : State, ∀ x, (setSess u r.session x).ev = u.ev := fun _ _ => rfl
  refine ⟨by simp [soeAnswered], by simp [soeAnswered, hev], by simp [soeAnswered], ⟨[], by simp [soeAnswered, reply_eq]⟩,
    fun e he => ?_⟩
  have hp : (sess (soeAnswered s r) r.session).soePos =
      (soeUnread s r).foldl (fun n e => max n (e.seq.toNat + 1)) (sess s r.session).soePos := by
    simp [soeAnswered, sess, setSess]
  rw [hp]
  exact mem_le_foldl_max (fun e : SoeRec => e.seq.toNat + 1) he _

/-! ### Analogue ranges (R416) -/

theorem execAnalogueUnderRange_low {s : State} {a : Nat} (ha : a ≤ 15) (hr : 4 ≤ (chanRun s (0x30 + a)).under)
    (hu : (chan s (0x30 + a)).under = false) : exec (.analogueUnderRange a) s =
      .next (raise (setChan s (0x30 + a) { chan s (0x30 + a) with under := true }) 200
        (w32 (0x30 + a) :: wF64 (chan s (0x30 + a)).measured)) :=
  congrArg Host.Outcome.next (if_neg (by simp only [hu, Bool.false_eq_true, or_false]; omega))

theorem execAnalogueOverRange_high {s : State} {a : Nat} (ha : a ≤ 15) (hr : 4 ≤ (chanRun s (0x30 + a)).above)
    (hu : (chan s (0x30 + a)).above = false) : exec (.analogueOverRange a) s =
      .next (raise (setChan s (0x30 + a) { chan s (0x30 + a) with above := true }) 201
        (w32 (0x30 + a) :: wF64 (chan s (0x30 + a)).measured)) :=
  congrArg Host.Outcome.next (if_neg (by simp only [hu, Bool.false_eq_true, or_false]; omega))

/-- The limits that an input's run of latches inside them clears (R416). -/
def rangeCleared (s : State) (kk : Nat) : ChanSt :=
  let c := chan s kk
  let x := { c with
    under := c.under && !(c.under && decide (80 ≤ (chanRun s kk).good))
    above := c.above && !(c.above && decide (80 ≤ (chanRun s kk).goodOver)) }
  let now := (ioByKind (theImage s) kk [6, 7]).map fun e => aiValue e.2 x.measured
  { x with lastValid := if x.under || x.above || s.field.fault then x.lastValid else now.orElse fun _ => x.lastValid }

theorem execAnalogueRangeClear_inside {s : State} {a : Nat} (ha : a ≤ 15)
    (h : ((chan s (0x30 + a)).under && decide (80 ≤ (chanRun s (0x30 + a)).good) ||
      (chan s (0x30 + a)).above && decide (80 ≤ (chanRun s (0x30 + a)).goodOver)) = true) :
    exec (.analogueRangeClear a) s =
      .next (raise (setChan s (0x30 + a) (rangeCleared s (0x30 + a))) 202 [w32 (0x30 + a)]) :=
  congrArg Host.Outcome.next (if_neg (by rw [h]; simp [ha]))

/-- The two bits are cleared by their runs. -/
theorem rangeCleared_bits (s : State) (kk : Nat) : rangeCleared s kk = { chan s kk with
    under := (chan s kk).under && !decide (80 ≤ (chanRun s kk).good)
    above := (chan s kk).above && !decide (80 ≤ (chanRun s kk).goodOver)
    lastValid := (rangeCleared s kk).lastValid } := by
  have hb : ∀ b d : Bool, (b && !(b && d)) = (b && !d) := by decide
  simp only [rangeCleared, hb]

/-- An input that is not BAD any more shows the reading of its latch (R416). -/
theorem rangeCleared_valid {s : State} {kk n : Nat} {e : IoEntry} (he : ioByKind (theImage s) kk [6, 7] = some (n, e))
    (hu : (rangeCleared s kk).under = false) (ha : (rangeCleared s kk).above = false) (hf : s.field.fault = false) :
    (rangeCleared s kk).lastValid = some (aiValue e (chan s kk).measured) := by
  have hl : (rangeCleared s kk).lastValid =
      if (rangeCleared s kk).under || (rangeCleared s kk).above || s.field.fault then (chan s kk).lastValid
      else ((ioByKind (theImage s) kk [6, 7]).map fun e => aiValue e.2 (chan s kk).measured).orElse
        fun _ => (chan s kk).lastValid := rfl
  rw [hl, hu, ha, hf, he]
  rfl

theorem chanBad_false {s : State} {kk : Nat} (h : chanBad s kk = false) :
    (chan s kk).under = false ∧ (chan s kk).above = false ∧ s.field.fault = false := by
  simp only [chanBad, moduleValid, Bool.or_eq_false_iff, Bool.not_eq_false', Bool.and_eq_true] at h
  obtain ⟨⟨⟨hu, ha⟩, -⟩, hf, -⟩ := h
  exact ⟨hu, ha, by simpa using hf⟩

/-! ### Position signals (R425) -/

theorem raise_posGood (s : State) (ev : Nat) (arg : List W32) : (raise s ev arg).loops.posGood = s.loops.posGood := by
  have h : loopsCore (raise s ev arg).loops = loopsCore s.loops := by simp
  exact congrArg (·.posGood) h

/-- A position input whose channel and whose run of good counts become these. -/
def positionSet (s : State) (p : Nat) (c : ChanSt) (good : Nat) : State :=
  let u := setChan s (0x48 + p) c
  { u with loops := { u.loops with posGood := lset u.loops.posGood p good } }

theorem execPositionSignalFault_found {s : State} {p : Nat} (hp : p ≤ 1) (hf : (chanRun s (0x48 + p)).fault ≠ 0)
    (hs : (chan s (0x48 + p)).signal = false) : exec (.positionSignalFault p) s =
      .next (raise (positionSet s p { chan s (0x48 + p) with signal := true } 0) 207
        [w32 p, w32 (chanRun s (0x48 + p)).fault]) :=
  congrArg Host.Outcome.next (if_neg (by simp only [hs, Bool.false_eq_true, or_false]; omega))

theorem execPositionSignalClear_clean {s : State} {p : Nat} (hp : p ≤ 1) (hf : s.field.fault = false)
    (hr : 8 ≤ (chanRun s (0x48 + p)).clean) (hs : (chan s (0x48 + p)).signal = true) :
    exec (.positionSignalClear p) s = .next (positionSet s p { chan s (0x48 + p) with
      signal := false, lastValid := some (chan s (0x48 + p)).measured } 1) := by
  refine congrArg Host.Outcome.next ((if_neg ?_).trans ?_)
  · simp only [hs, Bool.not_true, Bool.false_eq_true, false_or]
    omega
  · simp [positionSet, hf]

/-- Settles O48: each clause is one channel's entry set, with the event that tells it; a read moves its session's position. -/
theorem inputsAreStampedAndJudged : Obligations.InputsAreStampedAndJudged := by
  unfold Obligations.InputsAreStampedAndJudged
  refine ⟨fun s kk v ns n e he hf hl hs => ?_, fun s r h => ⟨_, execSoeRead_served h, soeAnswered_effect s r⟩,
    fun s a ha hr hu => ⟨_, execAnalogueUnderRange_low ha hr hu, raise_setChan ..⟩,
    fun s a ha hr hu => ⟨_, execAnalogueOverRange_high ha hr hu, raise_setChan ..⟩,
    fun s a ha h => ?_, fun s p hp hf hs => ?_, fun s p hp hf hr hs => ?_⟩
  · obtain ⟨hmd, hev, hch, hsoe⟩ := inputChanged_effect s kk v ns e hs
    refine ⟨_, execDigitalInputChange_changed ns he hf hl, hmd, hev, ?_, fun k hk => ?_, hsoe⟩
    · rw [chan, hch, tget_tset_self]
    · rw [chan, hch, tget_tset_ne _ _ _ _ _ hk]
      rfl
  · obtain ⟨hmd, hch, hev⟩ := raise_setChan s (0x30 + a) (rangeCleared s (0x30 + a)) 202 [w32 (0x30 + a)]
    refine ⟨_, execAnalogueRangeClear_inside ha h, hmd, ?_, fun n e he hb => ?_, hev⟩
    · rw [hch]
      exact rangeCleared_bits s (0x30 + a)
    · obtain ⟨hu, hab, hfault⟩ := chanBad_false hb
      rw [hch] at hu hab ⊢
      exact rangeCleared_valid he hu hab (by simpa using hfault)
  · refine ⟨_, execPositionSignalFault_found hp hf hs, by simp [positionSet], ?_, raise_posGood ..,
      raise_behind rfl rfl _ _⟩
    simp [chan, positionSet, setChan]
  · exact ⟨_, execPositionSignalClear_clean hp hf hr hs, rfl, rfl, rfl, tget_tset_self ..⟩

end Sys2Proof.Machine
end

section
/-! Protection, retries, groups, feeds and read-back of the onboard outputs (R407 to R413, R422). -/

namespace Sys2Proof.Machine

/-- An event that is told unless its condition stood before. -/
def toldUnless (b : Bool) (s : State) (ev : Nat) (arg : List W32) : State := if b then s else raise s ev arg

theorem toldUnless_eq (b : Bool) (s : State) (ev : Nat) (arg : List W32) :
    (if !b then raise s ev arg else s) = toldUnless b s ev arg := by cases b <;> rfl

theorem toldUnless_effect {s u : State} {n : Nat} (he : u.ev = s.ev) (ht : u.time = { s.time with phase := n }) (b : Bool)
    (ev : Nat) (arg : List W32) : (toldUnless b u ev arg).md = u.md ∧ (∀ k, chan (toldUnless b u ev arg) k = chan u k) ∧
    (toldUnless b u ev arg).ev = if b then s.ev else recorded s n [(ev, arg)] := by
  cases b
  · exact ⟨by simp [toldUnless], fun k => by simp [toldUnless, chan], raise_behind he ht ev arg⟩
  · exact ⟨rfl, fun _ => rfl, he⟩

/-! ### Overload and temperature (R407) -/

/-- A digital output that its protection has switched off, with what the protection notes. -/
def switchedOff (s : State) (kk n : Nat) (e : IoEntry) (note : ChanSt → ChanSt) : State :=
  let u := protectOff (setPhase s n) kk e
  setChan u kk (note (chan u kk))

/-- The channel that its protection switches off (R407, R408). -/
def protectedOff (s : State) (kk : Nat) (e : IoEntry) : ChanSt := { chan s kk with
  tripped := true, latched := (chan s kk).latched || e.flags.testBit 3, offTick := s.time.tick, retryTick := none }

theorem switchedOff_effect (s : State) (kk n : Nat) (e : IoEntry) (note : ChanSt → ChanSt) :
    (switchedOff s kk n e note).md = s.md ∧ (switchedOff s kk n e note).ev = s.ev ∧
    (switchedOff s kk n e note).time = { s.time with phase := n } ∧
    chan (switchedOff s kk n e note) kk = note (protectedOff s kk e) ∧
    ∀ k, k ≠ kk → chan (switchedOff s kk n e note) k = chan s k := by
  refine ⟨rfl, rfl, rfl, ?_, fun k hk => ?_⟩
  · simp [switchedOff, protectOff, protectedOff, chan, setChan]
  · simp only [switchedOff, protectOff]
    rw [chan_setChan_ne _ _ _ _ hk, chan_setChan_ne _ _ _ _ hk]
    rfl

theorem execOutputOverload_on {s : State} {kk : Nat} {e : IoEntry} (n : Nat) (he : doEntry s kk = some e)
    (ho : doOn s kk = true) : exec (.outputOverload kk n) s = .next (toldUnless (chan s kk).overload
      (switchedOff s kk n e fun c => { c with overload := true, counters := bump c.counters 0 })
      192 [w32 kk, if e.flags.testBit 3 then 1 else 0]) := by
  show execOutputOverload kk n s = _
  unfold execOutputOverload
  rw [he]
  exact congrArg Host.Outcome.next ((if_neg (by simp [ho])).trans (toldUnless_eq ..))

theorem execOutputOvertemp_on {s : State} {kk : Nat} {e : IoEntry} (n : Nat) (he : doEntry s kk = some e)
    (ho : doOn s kk = true) : exec (.outputOvertemp kk n) s = .next (toldUnless (chan s kk).overtemp
      (switchedOff s kk n e fun c => { c with overtemp := true }) 195 [w32 kk]) := by
  show execOutputOvertemp kk n s = _
  unfold execOutputOvertemp
  rw [he]
  exact congrArg Host.Outcome.next ((if_neg (by simp [ho])).trans (toldUnless_eq ..))

/-! ### Retry and clear (R408, R413) -/

theorem targets_on {c : ChanSt} (h : (c.targets.getD 0 none).isSome = true) : ∃ x l, c.targets = some x :: l := by
  match hc : c.targets with
  | [] => simp [hc] at h
  | none :: l => simp [hc] at h
  | some x :: l => exact ⟨x, l, rfl⟩

theorem execOutputRetry_due {s : State} {kk : Nat} {e : IoEntry} (he : doEntry s kk = some e)
    (ht : (chan s kk).tripped = true) (hl : (chan s kk).latched = false)
    (hd : ((chan s kk).targets.getD 0 none).isSome = true) (hp : (chan s kk).offTick + e.param ≤ s.time.tick) :
    exec (.outputRetry kk true) s = .next (setChan s kk { chan s kk with
      tripped := false, overtemp := false, retries := min ((chan s kk).retries + 1) 255
      retryTick := if (chan s kk).overload then some s.time.tick else none }) := by
  obtain ⟨x, l, hx⟩ := targets_on hd
  show execOutputRetry kk true s = _
  unfold execOutputRetry
  rw [he]
  exact congrArg Host.Outcome.next (if_pos (by simp [ht, hl, hp, hx]))

/-- The channel that a host has cleared (Table 12.14). -/
def clearedChannel (s : State) (kk : Nat) : ChanSt := { chan s kk with
  latched := false, tripped := (chan s kk).tripped && !(chan s kk).latched, retries := 0
  readback := (chan s kk).readback && !(chanRun s kk).readbackOk
  extDrive := (chan s kk).extDrive && !(chanRun s kk).readbackOk }

/-- The module with a channel cleared, and its run of failed read-backs where the last one passed. -/
def channelCleared (s : State) (kk : Nat) : State :=
  setRun (setChan s kk (clearedChannel s kk)) kk
    { chanRun s kk with readback := if (chanRun s kk).readbackOk then 0 else (chanRun s kk).readback }

theorem execChannelClear_served {s : State} {r : Req} {kk : Nat} (h : servedOutside s r (0x30020000 + w32 kk) = true)
    (hk : kk ≤ 0x49) (hc : chanClass s kk ≠ 0) : exec (.channelClear r kk 1) s = .next (sendChanges
      (wrote (reply (channelCleared (touch s r) kk) r (0x30020000 + w32 kk) stDone) (0x30020000 + w32 kk))) := by
  refine congrArg Host.Outcome.next (hostCommand_owner h ?_)
  exact (if_neg (by omega)).trans ((if_neg (by decide)).trans (if_neg hc))

theorem channelCleared_keeps (s : State) (kk : Nat) : (channelCleared s kk).md = s.md ∧ (channelCleared s kk).ev = s.ev :=
  ⟨rfl, rfl⟩

theorem channelCleared_chan (s : State) (kk k : Nat) : chan (channelCleared s kk) k =
    if k = kk then clearedChannel s kk else chan s k := by
  split
  next h =>
    subst h
    exact tget_tset_self ..
  next h => exact tget_tset_ne _ _ _ _ _ h

/-! ### Groups (R409) -/

/-- A channel that its group's overcurrent switches off. -/
def groupTripped (tick : Nat) (c : ChanSt) : ChanSt :=
  { c with tripped := true, latched := true, offTick := tick, retryTick := none }

/-- The channels of a list switched off and latched. -/
def tripAll (s : State) (cs : List Nat) : State :=
  cs.foldl (fun s k => setChan s k { chan s k with
    tripped := true, latched := true, offTick := s.time.tick, retryTick := none }) s

theorem tripAll_chan (s : State) (cs : List Nat) (k : Nat) : chan (tripAll s cs) k =
    if k ∈ cs then groupTripped s.time.tick (chan s k) else chan s k := by
  induction cs generalizing s with
  | nil => rfl
  | cons a cs ih =>
    show chan (tripAll (setChan s a (groupTripped s.time.tick (chan s a))) cs) k = _
    rw [ih]
    by_cases hk : k = a
    · subst hk
      simp [groupTripped, setChan, chan]
    · rw [chan_setChan_ne _ _ _ _ hk]
      simp [hk]

theorem tripAll_keeps (s : State) (cs : List Nat) :
    (tripAll s cs).md = s.md ∧ (tripAll s cs).ev = s.ev ∧ (tripAll s cs).time = s.time :=
  foldl_inv (P := fun u => u.md = s.md ∧ u.ev = s.ev ∧ u.time = s.time) _ _ _ ⟨rfl, rfl, rfl⟩ fun _ _ hu => hu

/-- The outputs of an overcurrent that are the group's and carry a load. -/
def groupOn (s : State) (g : Nat) (cs : List Nat) : List Nat :=
  cs.filter fun k => groupOf k == g && (doEntry s k).isSome && doOn s k

theorem mem_groupOn {s : State} {g : Nat} {cs : List Nat} {k : Nat} :
    k ∈ groupOn s g cs ↔ k ∈ cs ∧ groupOf k = g ∧ (doEntry s k).isSome ∧ doOn s k := by
  simp [groupOn, and_assoc]

/-- The module with these outputs off and the group's run begun again. -/
def groupSwitchedOff (s : State) (g n : Nat) (cs : List Nat) : State :=
  let u := tripAll (setPhase s n) cs
  setGroup u g { groupSt u g with overRun := 0 }

theorem groupSwitchedOff_keeps (s : State) (g n : Nat) (cs : List Nat) : (groupSwitchedOff s g n cs).md = s.md ∧
    (groupSwitchedOff s g n cs).ev = s.ev ∧ (groupSwitchedOff s g n cs).time = { s.time with phase := n } := by
  unfold groupSwitchedOff
  obtain ⟨hmd, hev, htime⟩ := tripAll_keeps (setPhase s n) cs
  exact ⟨hmd, hev, htime⟩

theorem groupSwitchedOff_chan (s : State) (g n : Nat) (cs : List Nat) (k : Nat) : chan (groupSwitchedOff s g n cs) k =
    if k ∈ cs then groupTripped s.time.tick (chan s k) else chan s k :=
  tripAll_chan (setPhase s n) cs k

theorem execGroupOvercurrent_over {s : State} {g : Nat} {cs : List Nat} (n : Nat) (hr : 80 ≤ (groupSt s g).overRun)
    (hc : groupOn s g cs ≠ []) : exec (.groupOvercurrent g cs n) s =
      .next (raise (groupSwitchedOff s g n (groupOn s g cs)) 193
        [w32 g, w32 ((groupOn s g cs).foldl (fun m k => m + 2 ^ (k % 8)) 0)]) := by
  refine congrArg Host.Outcome.next (if_neg ?_)
  rw [not_or]
  exact ⟨by omega, fun h => hc (List.isEmpty_iff.mp h)⟩

/-! ### Open wire (R410) -/

theorem execOpenWire_open {s : State} {kk : Nat} (he : (doEntry s kk).isSome = true) (hw : (chan s kk).openWire = false)
    (hr : 80 ≤ (chanRun s kk).open_) : exec (.openWire kk true) s =
      .next (raise (setChan s kk { chan s kk with openWire := true, counters := bump (chan s kk).counters 1 }) 194
        [w32 kk, if doOn s kk then 1 else 0]) := by
  have hon : doOn (setChan s kk { chan s kk with openWire := true, counters := bump (chan s kk).counters 1 }) kk =
      doOn s kk := by simp [doOn]
  refine congrArg Host.Outcome.next ((if_neg ?_).trans ((if_pos rfl).trans ((if_neg (by omega)).trans ?_)))
  · simp [Option.isNone_eq_false_iff.mpr he, hw]
  · dsimp only
    rw [hon]

theorem execOpenWire_closed {s : State} {kk : Nat} (he : (doEntry s kk).isSome = true)
    (hw : (chan s kk).openWire = true) (hr : 80 ≤ (chanRun s kk).closed) :
    exec (.openWire kk false) s = .next (setChan s kk { chan s kk with openWire := false }) := by
  refine congrArg Host.Outcome.next ((if_neg ?_).trans ((if_neg (by decide)).trans (if_neg (by omega))))
  simp [Option.isNone_eq_false_iff.mpr he, hw]

/-! ### Field feeds (R411) -/

theorem raise_groupSt (s : State) (ev : Nat) (arg : List W32) (g : Nat) : groupSt (raise s ev arg) g = groupSt s g := by
  simp [groupSt]

theorem execFieldFeedLow_fell {s : State} {g : Nat} (h1 : 1 ≤ g) (h6 : g ≤ 6) (hf : (groupSt s g).fell = true)
    (hl : (groupSt s g).low = false) (hr : fieldRuns s = true) : exec (.fieldFeedLow g) s =
      .next (raise (setGroup s g { groupSt s g with low := true, fell := false, good := 0 }) 198
        (w32 g :: wF64 (groupSt s g).volts)) :=
  congrArg Host.Outcome.next (if_neg (by simp only [hf, hl, hr, Bool.not_true, Bool.false_eq_true, or_false]; omega))

theorem execFieldFeedRestored_good {s : State} {g : Nat} (hl : (groupSt s g).low = true) (hg : 80 ≤ (groupSt s g).good) :
    exec (.fieldFeedRestored g) s =
      .next (raise (groupValid (setGroup s g { groupSt s g with low := false }) g) 199 [w32 g]) :=
  congrArg Host.Outcome.next (if_neg (by simp only [hl, Bool.not_true, Bool.false_eq_true, false_or]; omega))

/-! ### Read-back (R413, R358) -/

theorem latentFault_unwatched {s : State} (h : s.pair.watchFrom = none) (kk : Nat) : latentFault s kk = s := by
  simp [latentFault, h]

theorem latentFault_watched {s : State} {k : Nat} (h : s.pair.watchFrom = some k) (hk : s.time.tick < k + 8000) (kk : Nat) :
    latentFault s kk = raise { s with pair := { s.pair with watchFault := true } } 47 [w32 kk] := by
  simp [latentFault, h, hk]

theorem execReadbackFailure_failed {s : State} {kk : Nat} (hr : 3 ≤ (chanRun s kk).readback)
    (ho : 0x30 ≤ kk ∨ ((chan s kk).targets.getD 0 none).isSome = true) (hb : (chan s kk).readback = false)
    (hw : s.pair.watchFrom = none) : exec (.readbackFailure kk) s =
      .next (raise (setChan s kk { chan s kk with readback := true, counters := bump (chan s kk).counters 2 }) 196
        (w32 kk :: wF64 ((aoTarget (chan s kk)).getD 0) ++ wF64 (chan s kk).measured)) := by
  refine congrArg Host.Outcome.next ((if_neg (by omega)).trans ((if_neg ?_).trans ((if_neg (by simp [hb])).trans ?_)))
  · rcases ho with h | h
    · simp [Nat.not_lt.mpr h]
    · obtain ⟨x, l, hx⟩ := targets_on h
      simp [hx]
  · exact latentFault_unwatched (by simpa using hw) kk

theorem execReadbackFailure_driven {s : State} {kk k : Nat} (hr : 3 ≤ (chanRun s kk).readback) (hk : kk < 0x30)
    (ho : (chan s kk).targets.getD 0 none = none) (hx : (chan s kk).extDrive = false) (hw : s.pair.watchFrom = some k)
    (ht : s.time.tick < k + 8000) : exec (.readbackFailure kk) s =
      .next (let u := raise (setChan s kk { chan s kk with extDrive := true }) 197 [w32 kk]
        raise { u with pair := { u.pair with watchFault := true } } 47 [w32 kk]) := by
  refine congrArg Host.Outcome.next ((if_neg (by omega)).trans ((if_pos ?_).trans ((if_neg (by simp [hx])).trans ?_)))
  · match hc : (chan s kk).targets with
    | [] => simp [hk]
    | none :: l => simp [hk]
    | some x :: l => simp [hc] at ho
  · exact latentFault_watched (by simpa using hw) (by simpa using ht) kk

/-! ### Compliance (R422) -/

theorem execComplianceLost_short {s : State} {a : Nat} (ha : a ≤ 7) (hr : 4 ≤ (chanRun s (0x40 + a)).lost)
    (hc : (chan s (0x40 + a)).compliance = false) : exec (.complianceLost a) s =
      .next (raise (setChan s (0x40 + a) { chan s (0x40 + a) with
        compliance := true, counters := bump (chan s (0x40 + a)).counters 3 }) 203
        (w32 (0x40 + a) :: wF64 ((aoTarget (chan s (0x40 + a))).getD 0) ++ wF64 (chan s (0x40 + a)).measured)) :=
  congrArg Host.Outcome.next (if_neg (by simp only [hc, Bool.false_eq_true, or_false]; omega))

theorem execComplianceRegained_within {s : State} {a : Nat} (ha : a ≤ 7) (hr : 80 ≤ (chanRun s (0x40 + a)).regained)
    (hc : (chan s (0x40 + a)).compliance = true) : exec (.complianceRegained a) s =
      .next (raise (setChan s (0x40 + a) { chan s (0x40 + a) with compliance := false }) 204 [w32 (0x40 + a)]) :=
  congrArg Host.Outcome.next (if_neg (by simp only [hc, Bool.not_true, Bool.false_eq_true, false_or]; omega))

/-- Settles O49: each clause is one channel's or one group's entry set, with the event that tells it. -/
theorem outputsAreProtectedAndReadBack : Obligations.OutputsAreProtectedAndReadBack := by
  unfold Obligations.OutputsAreProtectedAndReadBack
  refine ⟨fun s kk n e he ho => ?_, fun s kk n e he ho => ?_, fun s kk e he ht hl hd hp => ?_, fun s r kk h hk hc => ?_,
    fun s g cs n hr hc => ?_, fun s kk he hw hr => ⟨_, execOpenWire_open he hw hr, raise_setChan ..⟩,
    fun s kk he hw hr => ⟨_, execOpenWire_closed he hw hr, rfl, rfl, chan_setChan_self ..⟩,
    fun s g h1 h6 hf hl hr => ?_, fun s g hl hg => ?_,
    fun s kk hr ho hb hw => ⟨_, execReadbackFailure_failed hr ho hb hw, raise_setChan ..⟩,
    fun s kk k hr hk ho hx hw ht => ?_,
    fun s a ha hr hc => ⟨_, execComplianceLost_short ha hr hc, raise_setChan ..⟩,
    fun s a ha hr hc => ⟨_, execComplianceRegained_within ha hr hc, raise_setChan ..⟩⟩
  · obtain ⟨umd, uev, utime, uself, uother⟩ := switchedOff_effect s kk n e fun c =>
      { c with overload := true, counters := bump c.counters 0 }
    obtain ⟨hmd, hch, hev⟩ := toldUnless_effect uev utime (chan s kk).overload 192
      [w32 kk, if e.flags.testBit 3 then 1 else 0]
    exact ⟨_, execOutputOverload_on n he ho, hmd.trans umd, (hch kk).trans uself,
      fun k hk => (hch k).trans (uother k hk), hev⟩
  · obtain ⟨umd, uev, utime, uself, uother⟩ := switchedOff_effect s kk n e fun c => { c with overtemp := true }
    obtain ⟨hmd, hch, hev⟩ := toldUnless_effect uev utime (chan s kk).overtemp 195 [w32 kk]
    exact ⟨_, execOutputOvertemp_on n he ho, hmd.trans umd, (hch kk).trans uself,
      fun k hk => (hch k).trans (uother k hk), hev⟩
  · exact ⟨_, execOutputRetry_due he ht hl hd hp, rfl, rfl, chan_setChan_self .., fun k hk => chan_setChan_ne _ _ _ _ hk⟩
  · have hch : ∀ k, chan (sendChanges (wrote (reply (channelCleared (touch s r) kk) r (0x30020000 + w32 kk) stDone)
        (0x30020000 + w32 kk))) k = chan (channelCleared (touch s r) kk) k := fun k => by simp [chan]
    obtain ⟨hmd, hev⟩ := channelCleared_keeps (touch s r) kk
    refine ⟨_, execChannelClear_served h hk hc, answers_of_reply (reply_net rfl ..), by simp [hmd],
      by simp [hev], ?_, fun k hk' => ?_⟩
    · rw [hch, channelCleared_chan, if_pos rfl]
      rfl
    · rw [hch, channelCleared_chan, if_neg hk']
      rfl
  · obtain ⟨umd, uev, utime⟩ := groupSwitchedOff_keeps s g n (groupOn s g cs)
    have hk : ∀ k arg, chan (raise (groupSwitchedOff s g n (groupOn s g cs)) 193 arg) k =
        chan (groupSwitchedOff s g n (groupOn s g cs)) k := fun k arg => by simp [chan]
    refine ⟨_, execGroupOvercurrent_over n hr hc, by simp [umd], ?_, fun k => ?_, raise_behind uev utime _ _⟩
    · rw [raise_groupSt]
      simp [groupSwitchedOff, groupSt, setGroup]
    · rw [hk, groupSwitchedOff_chan]
      simp only [mem_groupOn]
      rfl
  · refine ⟨_, execFieldFeedLow_fell h1 h6 hf hl hr, by simp, ?_, raise_behind rfl rfl _ _⟩
    rw [raise_groupSt]
    exact tget_tset_self ..
  · refine ⟨_, execFieldFeedRestored_good hl hg, by simp, ?_, raise_behind rfl rfl _ _⟩
    rw [raise_groupSt]
    exact tget_tset_self ..
  · have hn : Noted s s.time.phase [] (setChan s kk { chan s kk with extDrive := true }) := ⟨(recorded_nil s _).symm, rfl⟩
    have hw : Noted s s.time.phase [(197, [w32 kk])]
        { raise (setChan s kk { chan s kk with extDrive := true }) 197 [w32 kk] with
          pair := { (raise (setChan s kk { chan s kk with extDrive := true }) 197 [w32 kk]).pair with watchFault := true } } :=
      (hn.raise 197 [w32 kk]).keep rfl rfl
    refine ⟨_, execReadbackFailure_driven hr hk ho hx ‹_› ht, by simp, ?_, by simp, (hw.raise 47 [w32 kk]).ev⟩
    simp [chan, setChan]

end Sys2Proof.Machine
end

section
/-! The annunciator's frame pairs, temperature, crack loop and lamp test (R547, R553 to R561). -/

namespace Sys2Proof.Machine

/-! ### The pixels lit (R549, R561) -/

/-- The pixels lit depend on the lamp test, the instant, the conditions noted, the map and trust alone. -/
theorem litPixels_congr {s t : State} (hl : t.panel.lampUntil.isSome = s.panel.lampUntil.isSome) (ht : t.time = s.time)
    (hh : t.panel2.hist = s.panel2.hist) (hm : t.panel2.map = s.panel2.map) (hu : t.panel.untrusted = s.panel.untrusted) :
    litPixels t = litPixels s := by
  unfold litPixels shownConds vtime
  rw [hl, ht, hh, hm, hu]

/-- So does the decision at a boundary, with a lamp test that is due. -/
theorem decidePixels_congr {s t : State} (hd : t.panel.lampDue = s.panel.lampDue)
    (hl : t.panel.lampUntil = s.panel.lampUntil) (ht : t.time = s.time) (hh : t.panel2.hist = s.panel2.hist)
    (hm : t.panel2.map = s.panel2.map) (hu : t.panel.untrusted = s.panel.untrusted) : decidePixels t = decidePixels s :=
  litPixels_congr (by simp only [hd, hl, ht]) ht hh hm hu

/-- A lamp test that is due lights every pixel. -/
theorem decidePixels_lamp {s : State} (h : s.panel.lampDue = true) : decidePixels s = List.range 960 := by
  simp [decidePixels, litPixels, h]

/-- The pair that starts shows the pixels decided, a lamp test that was due among them. -/
theorem startPair_decided (s : State) : (startPair s (decidePixels s)).panel.shown = litPixels (startPair s (decidePixels s)) ∧
    (startPair s (decidePixels s)).panel.lampDue = false ∧
    (s.panel.lampDue = true → (startPair s (decidePixels s)).panel.lampUntil = some (s.time.tick + 16000)) := by
  cases hd : s.panel.lampDue with
  | true =>
    rw [decidePixels_lamp hd]
    simp [startPair, litPixels, hd]
  | false =>
    refine ⟨?_, by simp [startPair, hd], nofun⟩
    exact litPixels_congr (s := startPair s (decidePixels s)) (by simp [startPair, hd]) rfl rfl rfl rfl

/-! ### Frame-pair boundaries (R553, R555, R557) -/

/-- The panel at a boundary at which it is driven: the instant is noted. -/
def pairDriven (s : State) (n : Nat) : State :=
  { setPhase s n with
    panel := { s.panel with driving := true, starting := false }
    panel2 := { s.panel2 with pairAt := s.time.tick * tickNs + n } }

/-- Band and bias in force at that boundary (R551, R553). -/
def bandTaken (s : State) (n : Nat) : State :=
  let u := pairDriven s n
  { u with panel := { u.panel with
    band := s.panel.decided.getD s.panel.band, decided := none, bias := mapBias s.panel2.map } }

theorem takeBand_pairDriven {s : State} (n : Nat) (h : s.panel2.mapDue = none) :
    takeBand (pairDriven s n) = bandTaken s n := by
  unfold takeBand
  rw [show (pairDriven s n).panel2.mapDue = none from h]
  rfl

/-- What a boundary does where the panel is driven and not released. -/
def pairServed (u : State) : State :=
  if u.panel.comp ≠ 0 then
    let t := compensated (bandDef u.panel2.map u.panel.band) u.panel.comp u.panel.ledger
    let v := panelCount u 1 u.panel.comp
    let v := if ledgerWithin ledgerAlarm t then v else raise v 250 [3]
    startPair { v with panel := { v.panel with ledger := t, comp := 0 } } v.panel2.next
  else
    let v := takeBand u
    if v.panel2.map.isEmpty then releasePanel v
    else
      let k := compFrames (bandDef v.panel2.map v.panel.band) v.panel.ledger
      let lit := decidePixels v
      if k = 0 then startPair v lit
      else { v with panel := { v.panel with comp := k, inPair := false, shown := [] }, panel2 := { v.panel2 with next := lit } }

theorem execFramePairBoundary_pair {s : State} (n : Nat) (h : panelPair s = true) :
    exec (.framePairBoundary n) s = .next (pairServed (pairDriven s n)) := by
  simp only [panelPair, Bool.and_eq_true, Bool.not_eq_true'] at h
  obtain ⟨hd, hr⟩ := h
  refine congrArg Host.Outcome.next ((if_neg ?_).trans (if_neg (by simp [hr])))
  rw [← Bool.not_or, hd]
  decide

theorem pairServed_plain {s : State} (n : Nat) (hc : s.panel.comp = 0) (hd : s.panel2.mapDue = none)
    (hm : s.panel2.map ≠ []) : pairServed (pairDriven s n) =
      let v := bandTaken s n
      let k := compFrames (bandDef s.panel2.map (s.panel.decided.getD s.panel.band)) s.panel.ledger
      if k = 0 then startPair v (decidePixels v)
      else { v with
        panel := { v.panel with comp := k, inPair := false, shown := [] }, panel2 := { v.panel2 with next := decidePixels v } } := by
  unfold pairServed
  rw [takeBand_pairDriven n hd]
  refine (if_neg ?_).trans (if_neg ?_)
  · simpa [pairDriven] using hc
  · simpa [bandTaken, pairDriven] using hm

/-- The ledger corrected by the compensation frames that a boundary ends (R554). -/
def ledgerCorrected (s : State) : Tab Int :=
  compensated (bandDef s.panel2.map s.panel.band) s.panel.comp s.panel.ledger

/-- The panel with its compensation frames counted, and told where a ledger is far off (R554). -/
def framesCounted (s : State) (n : Nat) : State :=
  let u := panelCount (pairDriven s n) 1 s.panel.comp
  toldUnless (ledgerWithin ledgerAlarm (ledgerCorrected s)) u 250 [3]

theorem pairServed_compensated {s : State} (n : Nat) (hc : s.panel.comp ≠ 0) : pairServed (pairDriven s n) =
    let v := framesCounted s n
    startPair { v with panel := { v.panel with ledger := ledgerCorrected s, comp := 0 } } v.panel2.next := by
  exact if_pos hc

theorem framesCounted_effect (s : State) (n : Nat) : (framesCounted s n).md = s.md ∧
    (framesCounted s n).panel = (pairDriven s n).panel ∧
    (framesCounted s n).panel2 = (panelCount (pairDriven s n) 1 s.panel.comp).panel2 ∧
    (framesCounted s n).ev = if ledgerWithin ledgerAlarm (ledgerCorrected s) then s.ev else recorded s n [(250, [3])] := by
  obtain ⟨hmd, -, hev⟩ := toldUnless_effect (s := s) (u := panelCount (pairDriven s n) 1 s.panel.comp) (n := n) rfl rfl
    (ledgerWithin ledgerAlarm (ledgerCorrected s)) 250 [3]
  refine ⟨hmd, ?_, ?_, hev⟩ <;> unfold framesCounted toldUnless <;> dsimp only <;> split <;> simp [panelCount]

theorem execFramePairBoundary_releasing {s : State} (n : Nat) (hd : s.panel.driving = true)
    (hr : s.panel2.releasing = true) : exec (.framePairBoundary n) s = .next
      (let u := releasePanel { setPhase s n with panel2 := { s.panel2 with pairAt := s.time.tick * tickNs + n } }
       { u with panel2 := { u.panel2 with releasing := false, releasedAt := some s.time.tick } }) :=
  congrArg Host.Outcome.next ((if_neg (by simp [hd])).trans (if_pos hr))

/-! ### The temperature (R547) -/

/-- The panel with a valid reading and its runs. -/
def ntcTaken (s : State) (x : Int) (rise fall : Nat) : PanelSt :=
  { s.panel with temp := x, ntcFault := false, anyReading := true, rise := rise, fall := fall }

/-- The band decided for the next boundary, with EV251. -/
def bandMoved (s : State) (x : Int) (n new : Nat) : State :=
  raise (panelCount { setPhase s n with
      panel := { ntcTaken s x 0 0 with decided := some new } } 0) 251
    (w32 (s.panel.decided.getD s.panel.band) :: w32 new :: wF64 (fDiv (fOfInt x) (fOfInt 10)))

theorem execNtcRead_inRange {s : State} {x : Int} (n : Nat) (hs : panelServed s = true) (hl : -500 ≤ x) (hh : x ≤ 1000) :
    exec (.ntcRead x n) s = .next
      (let up := if callsUp s x then s.panel.rise + 1 else 0
       let down := if callsDown s x then s.panel.fall + 1 else 0
       if 3 ≤ up then bandMoved s x n (s.panel.decided.getD s.panel.band + 1)
       else if 3 ≤ down then bandMoved s x n (s.panel.decided.getD s.panel.band - 1)
       else { setPhase s n with panel := ntcTaken s x up down }) :=
  congrArg Host.Outcome.next ((if_neg (by simp [hs])).trans (if_neg (by omega)))

theorem bandMoved_effect (s : State) (x : Int) (n new : Nat) : (bandMoved s x n new).md = s.md ∧
    (bandMoved s x n new).panel = { ntcTaken s x 0 0 with decided := some new } ∧
    (bandMoved s x n new).ev = recorded s n [(251, [w32 (s.panel.decided.getD s.panel.band), w32 new] ++
      wF64 (fDiv (fOfInt x) (fOfInt 10)))] :=
  ⟨by simp [bandMoved, panelCount], by simp [bandMoved, panelCount], raise_behind rfl rfl _ _⟩

/-- The module with a reading that calls for the next higher band: the third in a row decides it. -/
def ntcCalledUp (s : State) (x : Int) (n : Nat) : State :=
  if 3 ≤ s.panel.rise + 1 then bandMoved s x n (s.panel.decided.getD s.panel.band + 1)
  else { setPhase s n with panel := ntcTaken s x (s.panel.rise + 1) 0 }

/-- The same for the next lower band. -/
def ntcCalledDown (s : State) (x : Int) (n : Nat) : State :=
  if 3 ≤ s.panel.fall + 1 then bandMoved s x n (s.panel.decided.getD s.panel.band - 1)
  else { setPhase s n with panel := ntcTaken s x 0 (s.panel.fall + 1) }

theorem execNtcRead_up {s : State} {x : Int} (n : Nat) (hs : panelServed s = true) (hl : -500 ≤ x) (hh : x ≤ 1000)
    (hup : callsUp s x = true) (hdown : callsDown s x = false) : exec (.ntcRead x n) s = .next (ntcCalledUp s x n) := by
  rw [execNtcRead_inRange n hs hl hh, hup, hdown]
  rfl

theorem execNtcRead_down {s : State} {x : Int} (n : Nat) (hs : panelServed s = true) (hl : -500 ≤ x) (hh : x ≤ 1000)
    (hup : callsUp s x = false) (hdown : callsDown s x = true) :
    exec (.ntcRead x n) s = .next (ntcCalledDown s x n) := by
  rw [execNtcRead_inRange n hs hl hh, hup, hdown]
  rfl

theorem ntcCalled_up (s : State) (x : Int) (n : Nat) : let t := ntcCalledUp s x n
    t.md = s.md ∧ t.panel.band = s.panel.band ∧ t.panel.temp = x ∧ t.panel.ntcFault = false ∧ t.panel.fall = 0 ∧
      (s.panel.rise < 2 → t.panel.rise = s.panel.rise + 1 ∧ t.panel.decided = s.panel.decided ∧ t.ev = s.ev) ∧
      (2 ≤ s.panel.rise → t.panel.rise = 0 ∧ t.panel.decided = some (s.panel.decided.getD s.panel.band + 1) ∧
        t.ev = recorded s n [(251, [w32 (s.panel.decided.getD s.panel.band),
          w32 (s.panel.decided.getD s.panel.band + 1)] ++ wF64 (fDiv (fOfInt x) (fOfInt 10)))]) := by
  obtain ⟨hmd, hp, hev⟩ := bandMoved_effect s x n (s.panel.decided.getD s.panel.band + 1)
  unfold ntcCalledUp
  dsimp only
  split
  case isTrue h3 =>
    rw [hmd, hp]
    exact ⟨rfl, rfl, rfl, rfl, rfl, fun h => absurd h (by omega), fun _ => ⟨rfl, rfl, hev⟩⟩
  case isFalse h3 =>
    exact ⟨rfl, rfl, rfl, rfl, rfl, fun _ => ⟨rfl, rfl, rfl⟩, fun h => absurd h (by omega)⟩

theorem ntcCalled_down (s : State) (x : Int) (n : Nat) : let t := ntcCalledDown s x n
    t.md = s.md ∧ t.panel.band = s.panel.band ∧ t.panel.temp = x ∧ t.panel.ntcFault = false ∧ t.panel.rise = 0 ∧
      (s.panel.fall < 2 → t.panel.fall = s.panel.fall + 1 ∧ t.panel.decided = s.panel.decided ∧ t.ev = s.ev) ∧
      (2 ≤ s.panel.fall → t.panel.fall = 0 ∧ t.panel.decided = some (s.panel.decided.getD s.panel.band - 1) ∧
        t.ev = recorded s n [(251, [w32 (s.panel.decided.getD s.panel.band),
          w32 (s.panel.decided.getD s.panel.band - 1)] ++ wF64 (fDiv (fOfInt x) (fOfInt 10)))]) := by
  obtain ⟨hmd, hp, hev⟩ := bandMoved_effect s x n (s.panel.decided.getD s.panel.band - 1)
  unfold ntcCalledDown
  dsimp only
  split
  case isTrue h3 =>
    rw [hmd, hp]
    exact ⟨rfl, rfl, rfl, rfl, rfl, fun h => absurd h (by omega), fun _ => ⟨rfl, rfl, hev⟩⟩
  case isFalse h3 =>
    exact ⟨rfl, rfl, rfl, rfl, rfl, fun _ => ⟨rfl, rfl, rfl⟩, fun h => absurd h (by omega)⟩

/-- The panel with a reading out of range noted. -/
def ntcFaulted (s : State) (n : Nat) : State :=
  { setPhase s n with panel := { s.panel with ntcFault := true, rise := 0, fall := 0 } }

/-- EV250 tells the fault that did not stand before. -/
theorem execNtcRead_outOfRange {s : State} {x : Int} (n : Nat) (hs : panelServed s = true) (hx : x < -500 ∨ 1000 < x) :
    exec (.ntcRead x n) s = .next
      (if s.panel.ntcFault then ntcFaulted s n else raise (panelCount (ntcFaulted s n) 3) 250 [2]) :=
  congrArg Host.Outcome.next ((if_neg (by simp [hs])).trans (if_pos hx))

theorem ntcFaulted_told (s : State) (n : Nat) :
    let t := if s.panel.ntcFault then ntcFaulted s n else raise (panelCount (ntcFaulted s n) 3) 250 [2]
    t.md = s.md ∧ t.panel = { s.panel with ntcFault := true, rise := 0, fall := 0 } ∧
      t.ev = (if s.panel.ntcFault then s.ev else recorded s n [(250, [2])]) := by
  dsimp only
  split
  · exact ⟨rfl, rfl, rfl⟩
  · exact ⟨by simp [panelCount, ntcFaulted], by simp [panelCount, ntcFaulted], raise_behind rfl rfl _ _⟩

/-! ### The crack loop (R558, R559) -/

/-- The panel with a crack loop reading. -/
def loopRead (s : State) (ohms mv : Nat) : PanelSt :=
  { s.panel with
    ohms := ohms, loopKind := loopOutcome ohms mv, loopRun := loopRunNow s (loopOutcome ohms mv)
    validRun := if loopOutcome ohms mv = 0 then s.panel.validRun + 1 else 0 }

/-- The module with that reading and what it changes on the panel. -/
def loopNoted (s : State) (ohms mv n : Nat) (f : PanelSt → PanelSt) : State :=
  { setPhase s n with panel := f (loopRead s ohms mv) }

/-- The panel is UNTRUSTED from this reading on, and the twin is told. -/
def loopDistrusted (s : State) (ohms mv n : Nat) : State :=
  let k := loopOutcome ohms mv
  let u := loopNoted s ohms mv n fun p => { p with marginal := false, untrusted := true, crackCause := k - 1 }
  sendMortar (raise (panelCount u 2) 248 (w32 (k - 1) :: wF64 (fOfInt ohms))) (.untrusted true)

theorem execCrackLoopMeasure_driving {s : State} (ohms mv n : Nat) (hd : s.panel.driving = true) :
    exec (.crackLoopMeasure ohms mv n) s = .next
      (let k := loopOutcome ohms mv
       if loopRunNow s k < 3 then loopNoted s ohms mv n id
       else if k = 0 then loopNoted s ohms mv n fun p => { p with marginal := false }
       else if k = 1 then
         if s.panel.marginal then loopNoted s ohms mv n id
         else raise (loopNoted s ohms mv n fun p => { p with marginal := true }) 250 [1]
       else if s.panel.untrusted ∧ s.panel.crackCause = k - 1 then loopNoted s ohms mv n fun p => { p with marginal := false }
       else loopDistrusted s ohms mv n) :=
  congrArg Host.Outcome.next (if_neg (by simp [hd]))

theorem loopDistrusted_effect (s : State) (ohms mv n : Nat) : (loopDistrusted s ohms mv n).md = s.md ∧
    (loopDistrusted s ohms mv n).panel = { loopRead s ohms mv with
      marginal := false, untrusted := true, crackCause := loopOutcome ohms mv - 1 } ∧
    (loopDistrusted s ohms mv n).ev =
      recorded s n [(248, w32 (loopOutcome ohms mv - 1) :: wF64 (fOfInt ohms))] := by
  refine ⟨by simp [loopDistrusted, panelCount, loopNoted], by simp [loopDistrusted, panelCount, loopNoted], ?_⟩
  unfold loopDistrusted
  rw [sendMortar_ev]
  exact raise_behind rfl rfl _ _

/-- What a reading tells of the loop: valid readings clear MARGINAL, marginal ones set it with EV250, others make the
panel UNTRUSTED with EV248. -/
theorem crackLoopMeasure_told (s : State) (ohms mv n : Nat) (hd : s.panel.driving = true) :
    ∃ t, exec (.crackLoopMeasure ohms mv n) s = .next t ∧ t.md = s.md ∧ t.panel.ohms = ohms ∧
      t.panel.loopKind = loopOutcome ohms mv ∧ t.panel.loopRun = loopRunNow s (loopOutcome ohms mv) ∧
      t.panel.validRun = (if loopOutcome ohms mv = 0 then s.panel.validRun + 1 else 0) ∧
      (loopRunNow s (loopOutcome ohms mv) < 3 → t.ev = s.ev ∧ t.panel.marginal = s.panel.marginal ∧
        t.panel.untrusted = s.panel.untrusted) ∧
      (3 ≤ loopRunNow s (loopOutcome ohms mv) → loopOutcome ohms mv ≤ 1 → t.panel.untrusted = s.panel.untrusted ∧
        t.panel.marginal = decide (loopOutcome ohms mv = 1) ∧
        t.ev = (if loopOutcome ohms mv = 1 ∧ s.panel.marginal = false then recorded s n [(250, [1])] else s.ev)) ∧
      (3 ≤ loopRunNow s (loopOutcome ohms mv) → 2 ≤ loopOutcome ohms mv →
        (s.panel.untrusted && s.panel.crackCause == loopOutcome ohms mv - 1) = false →
        t.panel.untrusted = true ∧ t.panel.marginal = false ∧ t.panel.crackCause = loopOutcome ohms mv - 1 ∧
        t.ev = recorded s n [(248, w32 (loopOutcome ohms mv - 1) :: wF64 (fOfInt ohms))]) := by
  refine ⟨_, execCrackLoopMeasure_driving ohms mv n hd, ?_⟩
  dsimp only
  split
  case isTrue hrun =>
    exact ⟨rfl, rfl, rfl, rfl, rfl, fun _ => ⟨rfl, rfl, rfl⟩, fun h => absurd hrun (by omega), fun h => absurd hrun (by omega)⟩
  case isFalse hrun =>
    split
    case isTrue h0 =>
      refine ⟨rfl, rfl, rfl, rfl, if_pos h0, fun h => absurd h hrun, fun _ _ => ⟨rfl, ?_, ?_⟩, fun _ h => absurd h (by omega)⟩
      · simp [h0, loopNoted]
      · exact (if_neg (by simp [h0])).symm
    case isFalse h0 =>
      split
      case isTrue h1 =>
        split
        case isTrue hm =>
          refine ⟨rfl, rfl, rfl, rfl, if_neg h0, fun h => absurd h hrun, fun _ _ => ⟨rfl, ?_, ?_⟩, fun _ h => absurd h (by omega)⟩
          · simp [h1, loopNoted, loopRead, hm]
          · exact (if_neg (by simp [hm])).symm
        case isFalse hm =>
          refine ⟨by simp [loopNoted], by simp [loopNoted, loopRead], by simp [loopNoted, loopRead],
            by simp [loopNoted, loopRead], by simp [loopNoted, loopRead, h0], fun h => absurd h hrun, fun _ _ => ⟨?_, ?_, ?_⟩,
            fun _ h => absurd h (by omega)⟩
          · simp [loopNoted, loopRead]
          · simp [h1, loopNoted]
          · exact (raise_behind rfl rfl _ _).trans (if_pos ⟨h1, by simpa using hm⟩).symm
      case isFalse h1 =>
        split
        case isTrue hu =>
          exact ⟨rfl, rfl, rfl, rfl, if_neg h0, fun h => absurd h hrun, fun _ h => absurd h (by omega),
            fun _ _ h => by simp [hu] at h⟩
        case isFalse hu =>
          obtain ⟨hmd, hp, hev⟩ := loopDistrusted_effect s ohms mv n
          rw [hmd, hp]
          exact ⟨rfl, rfl, rfl, rfl, if_neg h0, fun h => absurd h hrun, fun _ h => absurd h (by omega),
            fun _ _ _ => ⟨rfl, rfl, rfl, hev⟩⟩

/-! ### The lamp test (R561) -/

/-- The module behind an accepted LAMP_TEST. -/
def lampAnswered (s : State) (r : Req) : State :=
  reply { touch s r with panel := { s.panel with lampDue := true } } r 0xD0050000 stDone

theorem execLampTest_driving {s : State} {r : Req} (h : servedOutside s r 0xD0050000#32 = true) (hc : inControl s = true)
    (hd : s.panel.driving = true) :
    exec (.lampTest r) s = .next (sendChanges (wrote (lampAnswered s r) 0xD0050000#32)) := by
  have hc' : ¬ (!inControl (touch s r)) = true := by
    rw [show inControl (touch s r) = inControl s from rfl, hc]
    decide
  have hd' : ¬ (!(touch s r).panel.driving) = true := by
    rw [show (touch s r).panel = s.panel from rfl, hd]
    decide
  exact congrArg Host.Outcome.next (hostCommand_owner h ((if_neg hc').trans (if_neg hd')))

end Sys2Proof.Machine
end

section
/-! The fault journal's blocks (R569 to R572), and how they settle with the panel. -/

namespace Sys2Proof.Machine

/-! ### Blocks that close (R571, R572) -/

/-- The open block with its first 126 records taken out. -/
def blockTaken (s : State) (n : Nat) : State :=
  { setPhase s n with ev := { s.ev with open_ := s.ev.open_.drop 126, openTick := s.time.tick } }

theorem execJournalBlockClose_due {s : State} (n : Nat) (hj : journals s = true) (hb : blockDue s = true) :
    exec (.journalBlockClose n) s = .next (holdBlock (blockTaken s n) { recs := s.ev.open_.take 126 }) :=
  congrArg Host.Outcome.next (if_pos (by simp [hj, hb]))

/-- A block for which there is place is held. -/
theorem holdBlock_kept {s : State} (b : JBlock) (h : s.kiln.keyPresent = true ∨ s.ev.held.length < 64) :
    holdBlock s b = { s with ev := { s.ev with
      held := s.ev.held ++ [b], writing := s.ev.writing || (s.kiln.keyPresent && s.ev.ready) } } :=
  if_pos (h.imp_right fun hl => by simpa using hl)

/-- The oldest of 64 held blocks gives way. -/
def oldestDropped (s : State) (b : JBlock) : State :=
  { s with ev := { s.ev with
    held := s.ev.held.drop 1 ++ [b], lost := s.ev.lost + (s.ev.held.headD {}).recs.length, gap := true, gapDue := true
    dropped := true } }

theorem holdBlock_full {s : State} (b : JBlock) (hk : s.kiln.keyPresent = false) (hl : s.ev.held.length = 64) :
    holdBlock s b = toldUnless s.ev.dropped (oldestDropped s b) 20 [w32 (oldestDropped s b).ev.lost] := by
  obtain ⟨x, l, hx⟩ : ∃ x l, s.ev.held = x :: l := List.exists_cons_of_length_pos (by omega)
  have hfull : ¬ (s.kiln.keyPresent = true ∨ (s.ev.held ++ [b]).length ≤ 64) := by simp [hk, hl]
  refine (if_neg hfull).trans ?_
  rw [← toldUnless_eq]
  simp [oldestDropped, hx]

/-- The intake behind an event is that of the state whose clock and intake it finds. -/
theorem raise_intake {s u : State} {n : Nat} (hr : u.ev.running = s.ev.running) (hi : u.ev.intake = s.ev.intake)
    (ht : u.time = { s.time with phase := n }) (ev : Nat) (arg : List W32) :
    (raise u ev arg).ev.intake = (recorded s n [(ev, arg)]).intake := by
  rw [raise_ev]
  unfold recorded timeQuality
  rw [hr, ht]
  split
  · exact congrArg (· ++ _) hi
  · exact hi

theorem oldestDropped_told {s u : State} {n : Nat} (b : JBlock) (hr : u.ev.running = s.ev.running)
    (hi : u.ev.intake = s.ev.intake) (ht : u.time = { s.time with phase := n }) (d : Bool) :
    let t := toldUnless d (oldestDropped u b) 20 [w32 (oldestDropped u b).ev.lost]
    t.md = u.md ∧ t.ev.held = u.ev.held.drop 1 ++ [b] ∧ t.ev.gapDue = true ∧
      t.ev.lost = u.ev.lost + (u.ev.held.headD {}).recs.length ∧
      t.ev.intake = (if d then s.ev.intake else (recorded s n [(20, [w32 t.ev.lost])]).intake) := by
  cases d with
  | true => exact ⟨rfl, rfl, rfl, rfl, hi⟩
  | false =>
    have hlost : (raise (oldestDropped u b) 20 [w32 (oldestDropped u b).ev.lost]).ev.lost = (oldestDropped u b).ev.lost := by
      simp
    refine ⟨?_, ?_, ?_, hlost, ?_⟩
    · simp [toldUnless, oldestDropped]
    · simp [toldUnless, oldestDropped]
    · simp [toldUnless, oldestDropped]
    · show (raise _ 20 [w32 _]).ev.intake = (recorded s n [(20, [w32 (raise _ 20 [w32 _]).ev.lost])]).intake
      rw [hlost]
      exact raise_intake (u := oldestDropped u b) hr hi ht 20 _

/-! ### Blocks that are written (R569, R570) -/

/-- A block whose read-back failed: its JSEQ is spent, and it is written again. -/
def readBackFailed (s : State) (n : Nat) : State :=
  { setPhase s n with ev := { s.ev with key := eraseBlock s.ev.key s.ev.jseq, jseq := s.ev.jseq + 1 } }

theorem execJournalWriteComplete_writing {s : State} {b : JBlock} {l : List JBlock} (n : Nat) (hh : s.ev.held = b :: l)
    (hw : s.ev.writing = true) (hk : s.kiln.keyPresent = true) (ok : Bool) :
    exec (.journalWriteComplete ok n) s = .next (if ok then
        { putBlock (setPhase s n) b with ev := { (putBlock (setPhase s n) b).ev with held := l, writing := !l.isEmpty } }
      else raise (readBackFailed s n) 18 (w64 s.ev.jseq)) := by
  show execJournalWriteComplete ok n s = _
  unfold execJournalWriteComplete
  rw [hh]
  exact congrArg Host.Outcome.next (if_neg (by simp [hw, hk]))

/-! ### The statement -/

/-- Settles O60: each boundary, reading and block ends in one named state. -/
theorem panelAndJournalRecordConditions : Obligations.PanelAndJournalRecordConditions := by
  unfold Obligations.PanelAndJournalRecordConditions
  refine ⟨fun s n hp hc hd hm hk => ?_, fun s n hp hc hd hm hk => ?_, fun s n hp hc => ?_, fun s n hd hr => ?_,
    fun s x n hs hl hh hup hdown => ?_, fun s x n hs hl hh hup hdown => ?_, fun s x n hs hx => ?_,
    fun s ohms mv n hd => crackLoopMeasure_told s ohms mv n hd, fun s r hs hc hd => ?_, fun s n hj hb hroom => ?_,
    fun s n hj hb hk hl => ?_, fun s n b l hh hw hk => ⟨?_, ?_⟩⟩
  · obtain ⟨hshown, hdue, hlamp⟩ := startPair_decided (bandTaken s n)
    refine ⟨_, (execFramePairBoundary_pair n hp).trans
      (congrArg Host.Outcome.next ((pairServed_plain n hc hd hm).trans (if_pos hk))), ?_⟩
    exact ⟨rfl, rfl, rfl, rfl, rfl, rfl, hc, rfl, rfl, rfl, rfl, hshown, hdue, hlamp⟩
  · refine ⟨_, (execFramePairBoundary_pair n hp).trans
      (congrArg Host.Outcome.next ((pairServed_plain n hc hd hm).trans (if_neg hk.ne'))), ?_⟩
    exact ⟨rfl, rfl, rfl, rfl, decidePixels_congr rfl rfl rfl rfl rfl rfl, rfl, rfl, rfl, rfl⟩
  · obtain ⟨hmd, hpanel, hpanel2, hev⟩ := framesCounted_effect s n
    refine ⟨_, (execFramePairBoundary_pair n hp).trans (congrArg Host.Outcome.next (pairServed_compensated n hc)), hmd, rfl,
      rfl, rfl, congrArg (·.next) hpanel2, congrArg (·.counters) hpanel2, hev⟩
  · exact ⟨_, execFramePairBoundary_releasing n hd hr, rfl, rfl, rfl, rfl, rfl⟩
  · exact ⟨_, execNtcRead_up n hs hl hh hup hdown, ntcCalled_up s x n⟩
  · exact ⟨_, execNtcRead_down n hs hl hh hup hdown, ntcCalled_down s x n⟩
  · exact ⟨_, execNtcRead_outOfRange n hs hx, ntcFaulted_told s n⟩
  · exact ⟨_, execLampTest_driving hs hc hd, answers_of_reply (reply_net rfl ..), by simp [lampAnswered],
      by simp [lampAnswered], by simp [lampAnswered]⟩
  · refine ⟨_, (execJournalBlockClose_due n hj hb).trans (congrArg Host.Outcome.next (holdBlock_kept _ hroom)), ?_⟩
    exact ⟨rfl, rfl, rfl, rfl, rfl, rfl, rfl⟩
  · exact ⟨_, (execJournalBlockClose_due n hj hb).trans (congrArg Host.Outcome.next (holdBlock_full _ hk hl)),
      oldestDropped_told (s := s) (u := blockTaken s n) { recs := s.ev.open_.take 126 } rfl rfl rfl s.ev.dropped⟩
  · exact ⟨_, execJournalWriteComplete_writing n hh hw hk true, rfl, rfl, rfl, rfl, rfl, rfl, rfl, rfl⟩
  · refine ⟨_, execJournalWriteComplete_writing n hh hw hk false, ?_, ?_, ?_, ?_,
      raise_intake (s := s) (u := readBackFailed s n) rfl rfl rfl 18 _⟩
    all_goals simp [readBackFailed, hh]

end Sys2Proof.Machine
end

section
/-! The I/O ring's input cycles, missed cycles, DISCOVER, joining stations and hops (R436 to R454). -/

namespace Sys2Proof.Machine

/-! ### The module blocks of a frame (R446, R454) -/

/-- What a frame of sample tick n makes of a declared module with this block, or with none. -/
def blockRead (n : Nat) (b : Option (Nat × Byte × Bytes)) (m : RModSt) : RModSt :=
  match b with
  | none => { m with present := false, valid := false, down := true }
  | some (_, status, data) =>
    if status.getLsbD 2 then { m with present := status.getLsbD 0, valid := false, mstatus := status, ignored := true }
    else
      let ok := status.getLsbD 0 && !status.getLsbD 1
      { m with
        present := status.getLsbD 0, valid := ok, mstatus := status, ignored := false, down := !ok
        data := if ok then data else m.data, sample := if ok then n else m.sample }

theorem blockRead_again (n : Nat) (b : Option (Nat × Byte × Bytes)) (m : RModSt) :
    blockRead n b (blockRead n b m) = blockRead n b m := by
  match b with
  | none => rfl
  | some (_, status, data) =>
    simp only [blockRead]
    cases status.getLsbD 2 <;> cases status.getLsbD 0 && !status.getLsbD 1 <;> rfl

/-- A module whose block is good takes its data; any other keeps it and is not valid. -/
theorem blockRead_some (n : Nat) (b : Nat × Byte × Bytes) (m : RModSt) : (blockRead n (some b) m).valid = blockGood b ∧
    (blockGood b = true → (blockRead n (some b) m).data = b.2.2 ∧ (blockRead n (some b) m).sample = n) ∧
    (blockGood b = false → (blockRead n (some b) m).data = m.data) := by
  obtain ⟨k, status, data⟩ := b
  simp only [blockRead, blockGood]
  cases status.getLsbD 2 <;> cases status.getLsbD 0 <;> cases status.getLsbD 1 <;> simp

/-- The station with another state of one module. -/
def withMod (x : StationSt) (k : Nat) (m : RModSt) : StationSt := { x with mods := tset x.mods k m }

theorem takeModule_ring (s : State) (st n : Nat) (blocks : List (Nat × Byte × Bytes)) (d : RModDef) :
    (takeModule s st n blocks d).ring = (setStn s st (withMod (stn s st) d.module
      (blockRead n (blocks.find? fun b => b.1 == d.module) (tget {} (stn s st).mods d.module)))).ring := by
  unfold takeModule blockRead withMod
  dsimp only
  cases blocks.find? fun b => b.1 == d.module with
  | none => dsimp only; split <;> simp
  | some b =>
    dsimp only
    cases hs : b.2.1.getLsbD 2 with
    | true => simp only [if_true]; split <;> simp
    | false =>
      simp only [Bool.false_eq_true, if_false]
      split
      · simp
      · split <;> simp

theorem takeUndeclared_ring (s : State) (st : Nat) (d : StationDef) (b : Nat × Byte × Bytes) :
    (takeUndeclared s st d b).ring = s.ring ∨ d.mods.any (fun m => m.module == b.1) = false ∧ ∃ m,
      (takeUndeclared s st d b).ring = (setStn s st (withMod (stn s st) b.1 m)).ring := by
  unfold takeUndeclared
  split
  · exact .inl rfl
  next hd =>
    dsimp only
    split
    · exact .inl rfl
    · exact .inr ⟨by simpa using hd, { tget {} (stn s st).mods b.1 with ignored := true }, by simp [withMod]⟩

/-! ### What the blocks of a frame leave of the stations (R442) -/

/-- From s to t nothing but the modules of one station has changed on the ring. -/
def ModsTaken (st : Nat) (s t : State) : Prop :=
  (∀ k, k ≠ st → stn t k = stn s k) ∧ stn t st = { stn s st with mods := (stn t st).mods }

theorem ModsTaken.refl (st : Nat) (s : State) : ModsTaken st s s := ⟨fun _ _ => rfl, rfl⟩

theorem ModsTaken.trans {st : Nat} {s t u : State} (h : ModsTaken st s t) (g : ModsTaken st t u) : ModsTaken st s u :=
  ⟨fun k hk => (g.1 k hk).trans (h.1 k hk), by rw [g.2, h.2]⟩

theorem ModsTaken.of_withMod {st k : Nat} {s t : State} {m : RModSt}
    (h : t.ring = (setStn s st (withMod (stn s st) k m)).ring) : ModsTaken st s t := by
  refine ⟨fun j hj => ?_, ?_⟩
  · rw [stn, h]
    exact stn_setStn_ne _ _ _ _ hj
  · rw [show stn t st = withMod (stn s st) k m by rw [stn, h]; exact stn_setStn_self ..]
    rfl

theorem ModsTaken.of_ring {st : Nat} {s t : State} (h : t.ring = s.ring) : ModsTaken st s t :=
  ⟨fun j _ => by rw [stn, h, stn], by rw [stn, h]; rfl⟩

theorem ModsTaken.foldl {st : Nat} {α : Type} (l : List α) (f : State → α → State) (s : State)
    (h : ∀ u a, ModsTaken st u (f u a)) : ModsTaken st s (l.foldl f s) := by
  induction l generalizing s with
  | nil => exact .refl st s
  | cons a l ih => exact (h s a).trans (ih _)

theorem takeModule_taken (s : State) (st n : Nat) (blocks : List (Nat × Byte × Bytes)) (d : RModDef) :
    ModsTaken st s (takeModule s st n blocks d) := .of_withMod (takeModule_ring ..)

theorem takeUndeclared_taken (s : State) (st : Nat) (d : StationDef) (b : Nat × Byte × Bytes) :
    ModsTaken st s (takeUndeclared s st d b) := by
  obtain h | ⟨-, m, h⟩ := takeUndeclared_ring s st d b
  · exact .of_ring h
  · exact .of_withMod h

theorem takeBlocks_taken (s : State) (d : StationDef) (n : Nat) (blocks : List (Nat × Byte × Bytes)) :
    ModsTaken d.station s (takeBlocks s d n blocks) :=
  (ModsTaken.foldl _ _ _ fun _ _ => takeModule_taken ..).trans (.foldl _ _ _ fun _ _ => takeUndeclared_taken ..)

/-! ### What the blocks make of a declared module -/

/-- The state of a station's module. -/
def rmod (s : State) (st k : Nat) : RModSt := tget {} (stn s st).mods k

theorem rmod_of_withMod {st k j : Nat} {s t : State} {m : RModSt}
    (h : t.ring = (setStn s st (withMod (stn s st) k m)).ring) : rmod t st j = if j = k then m else rmod s st j := by
  have hs : stn t st = withMod (stn s st) k m := by
    rw [stn, h]
    exact stn_setStn_self ..
  rw [rmod, hs]
  split
  next hj => rw [hj]; exact tget_tset_self ..
  next hj => exact tget_tset_ne _ _ _ _ _ hj

theorem foldl_takeModule_rmod (l : List RModDef) (s : State) (st n : Nat) (blocks : List (Nat × Byte × Bytes)) (j : Nat) :
    rmod (l.foldl (fun s m => takeModule s st n blocks m) s) st j =
      if ∃ m ∈ l, m.module = j then blockRead n (blocks.find? fun b => b.1 == j) (rmod s st j) else rmod s st j := by
  induction l generalizing s with
  | nil => simp
  | cons d l ih =>
    rw [List.foldl_cons, ih, rmod_of_withMod (takeModule_ring ..)]
    by_cases hd : j = d.module
    · subst hd
      simp [rmod, blockRead_again]
    · simp [hd, Ne.symm hd]

theorem takeUndeclared_rmod (s : State) {d : StationDef} (b : Nat × Byte × Bytes) {m : RModDef} (hm : m ∈ d.mods) :
    rmod (takeUndeclared s d.station d b) d.station m.module = rmod s d.station m.module := by
  obtain h | ⟨hd, x, h⟩ := takeUndeclared_ring s d.station d b
  · rw [rmod, stn, h, rmod, stn]
  · have hne : m.module ≠ b.1 := by simpa using List.any_eq_false.mp hd m hm
    rw [rmod_of_withMod h, if_neg hne]

theorem takeBlocks_rmod (s : State) {d : StationDef} (n : Nat) (blocks : List (Nat × Byte × Bytes)) {m : RModDef}
    (hm : m ∈ d.mods) : rmod (takeBlocks s d n blocks) d.station m.module =
      blockRead n (blocks.find? fun b => b.1 == m.module) (rmod s d.station m.module) := by
  unfold takeBlocks
  refine foldl_inv (P := fun u => rmod u d.station m.module = _) _ _ _ ?_ fun u b hu => (takeUndeclared_rmod u b hm).trans hu
  rw [foldl_takeModule_rmod, if_pos ⟨m, hm, rfl⟩]

/-! ### The first copy of a cycle (R442, R445) -/

/-- A cycle's first copy noted at its station, on time or late, with its events and the hops it reports. -/
def copyNoted (s : State) (f : RingFrame) (onTime : Bool) : State :=
  let x := stn s f.station
  let held := f.sstatus.getLsbD 2
  let u := setStn (setPhase s f.at_) f.station { x with
    lastCycle := some f.tick, missed := 0, sample := f.tick, late := !onTime, heldOut := held
    counters := if onTime then x.counters else bump x.counters 0
    pendingFrame := if onTime then none else some (f.tick, f.modules) }
  let u := toldUnless (onTime || x.late) u 215 [w32 f.station, w32 f.at_]
  let u := toldUnless (!held || x.heldOut) u 219 [w32 f.station]
  hopReport u x.position f.sstatus

/-- What the station of a cycle's first copy, and the frame, fulfil. -/
theorem newCycle_iff {s : State} {f : RingFrame} {d : StationDef} : newCycle s f d = true ↔ s.ring.forwarding = true ∧
    (s.md.mode == .load || evaluates s.md.mode) = true ∧ frameSound f = true ∧ f.rtype = 2 ∧
    stationDef (theImage s) f.station = some d ∧ (stn s f.station).state = 3 ∧ cycleTick d f.tick = true ∧
    (stn s f.station).lastCycle.elim true (fun n => decide (n < f.tick)) = true := by
  simp only [newCycle, Bool.and_eq_true, beq_iff_eq, and_assoc]

theorem notSecond {x : Option Nat} {n : Nat} (h : x.elim true (fun k => decide (k < n)) = true) :
    x.elim false (fun k => decide (n ≤ k)) = false := by
  cases x with
  | none => rfl
  | some k => simpa using h

@[simp] theorem hopReport_st (s : State) (pos : Nat) (sstatus : Byte) : (hopReport s pos sstatus).ring.st = s.ring.st := by
  unfold hopReport
  dsimp only
  (repeat' split) <;> rfl

/-- The station of a first copy. -/
def copyStation (s : State) (f : RingFrame) (onTime : Bool) : StationSt :=
  { stn s f.station with
    lastCycle := some f.tick, missed := 0, sample := f.tick, late := !onTime, heldOut := f.sstatus.getLsbD 2
    counters := if onTime then (stn s f.station).counters else bump (stn s f.station).counters 0
    pendingFrame := if onTime then none else some (f.tick, f.modules) }

theorem copyNoted_st (s : State) (f : RingFrame) (b : Bool) :
    (copyNoted s f b).ring.st = tset s.ring.st f.station (copyStation s f b) := by
  unfold copyNoted toldUnless
  dsimp only
  rw [hopReport_st]
  split <;> split <;> simp <;> rfl

theorem stn_copyNoted (s : State) (f : RingFrame) (b : Bool) : stn (copyNoted s f b) f.station = copyStation s f b := by
  rw [stn, copyNoted_st]
  exact tget_tset_self ..

theorem stn_copyNoted_ne (s : State) (f : RingFrame) (b : Bool) {k : Nat} (hk : k ≠ f.station) :
    stn (copyNoted s f b) k = stn s k := by
  rw [stn, copyNoted_st]
  exact tget_tset_ne _ _ _ _ _ hk

theorem Noted.hopReport {s t : State} {n : Nat} {evs : List (Nat × List W32)} (h : Noted s n evs t) (pos : Nat)
    (sstatus : Byte) : Noted s n evs (hopReport t pos sstatus) := by
  unfold Machine.hopReport
  dsimp only
  (repeat' split) <;> exact h.keep rfl rfl

theorem Noted.toldUnless {s t : State} {n : Nat} {evs : List (Nat × List W32)} (h : Noted s n evs t) (b : Bool) (ev : Nat)
    (arg : List W32) : Noted s n (evs ++ if b then [] else [(ev, arg)]) (toldUnless b t ev arg) := by
  cases b with
  | true => simpa [Machine.toldUnless] using h
  | false => exact h.raise ev arg

theorem copyNoted_keeps (s : State) (f : RingFrame) (b : Bool) : (copyNoted s f b).md = s.md ∧
    (copyNoted s f b).safe = s.safe := by
  unfold copyNoted Machine.toldUnless
  dsimp only
  split <;> split <;> simp

theorem copyNoted_noted (s : State) (f : RingFrame) (b : Bool) : Noted s f.at_
    ((if b || (stn s f.station).late then [] else [(215, [w32 f.station, w32 f.at_])]) ++
      if !f.sstatus.getLsbD 2 || (stn s f.station).heldOut then [] else [(219, [w32 f.station])]) (copyNoted s f b) := by
  have h0 := (Noted.start s f.at_).keep (u := setStn (setPhase s f.at_) f.station (copyStation s f b)) rfl rfl
  exact ((h0.toldUnless (b || (stn s f.station).late) 215 [w32 f.station, w32 f.at_]).toldUnless
    (!f.sstatus.getLsbD 2 || (stn s f.station).heldOut) 219 [w32 f.station]).hopReport ..

theorem ringInput_new {s : State} {f : RingFrame} {d : StationDef} (h : newCycle s f d = true) (ht : f.tick = s.time.tick) :
    ringInput (setPhase s f.at_) f = if f.at_ ≤ 20000 then takeBlocks (copyNoted s f true) d f.tick f.modules
      else copyNoted s f false := by
  obtain ⟨-, -, -, -, hd, hst, hc, hl⟩ := newCycle_iff.mp h
  have hd' : stationDef (theImage (setPhase s f.at_)) f.station = some d := hd
  have hl' := notSecond hl
  have ht' : f.tick = (setPhase s f.at_).time.tick := ht
  have hx : stn (setPhase s f.at_) f.station = stn s f.station := rfl
  unfold ringInput copyNoted toldUnless
  rw [hd']
  by_cases hat : f.at_ ≤ 20000
  · have hlate : ¬ 20000 < f.at_ := by omega
    simp only [hl', hst, hc, ← ht', hat, hlate, hx]
    cases (stn s f.station).heldOut <;> cases f.sstatus.getLsbD 2 <;> simp
  · have hlate : 20000 < f.at_ := by omega
    simp only [hl', hst, hc, ← ht', hat, hlate, hx]
    cases (stn s f.station).heldOut <;> cases f.sstatus.getLsbD 2 <;> cases (stn s f.station).late <;> simp

theorem station_of_stationDef {img : Image} {n : Nat} {d : StationDef} (h : stationDef img n = some d) : d.station = n := by
  unfold stationDef at h
  simpa using List.find?_some h

/-- The first copy is always accepted: on time with its safety containers, late for the next image. -/
theorem execRingInputFrameReceive_new {s : State} {f : RingFrame} {d : StationDef} (h : newCycle s f d = true)
    (ht : f.tick = s.time.tick) : exec (.ringInputFrameReceive f) s = .next
      (if f.at_ ≤ 20000 then ringContainers (takeBlocks (copyNoted s f true) d f.tick f.modules) f
       else copyNoted s f false) := by
  obtain ⟨hfw, hm, hsound, htype, hd, -, -, hl⟩ := newCycle_iff.mp h
  have hstation := station_of_stationDef hd
  have hne : ¬ ((some f.tick == (stn s f.station).lastCycle) = true) := fun he => by
    rw [← beq_iff_eq.mp he] at hl
    simp at hl
  refine congrArg Host.Outcome.next ((if_neg (by simp [hfw, hm])).trans ((if_neg (by simp [hsound])).trans
    ((if_neg (by simp [htype])).trans ?_)))
  dsimp only
  rw [ringInput_new h ht]
  split
  case isTrue hat =>
    have htaken := (takeBlocks_taken (copyNoted s f true) d f.tick f.modules).2
    rw [hstation, stn_copyNoted] at htaken
    rw [htaken]
    exact if_neg hne
  case isFalse hat =>
    rw [stn_copyNoted]
    exact (if_neg hne).trans (if_neg fun hc => hat hc.2)

/-- A first copy on time brings its modules' data; everything else of the station is noted with it. -/
theorem takeBlocks_copyNoted {s : State} {f : RingFrame} {d : StationDef} (hd : d.station = f.station) :
    let t := takeBlocks (copyNoted s f true) d f.tick f.modules
    (∀ k, k ≠ f.station → stn t k = stn s k) ∧ stn t f.station = { copyStation s f true with mods := (stn t f.station).mods } ∧
      ∀ m ∈ d.mods, tget {} (stn t f.station).mods m.module =
        blockRead f.tick (f.modules.find? fun b => b.1 == m.module) (tget {} (stn s f.station).mods m.module) := by
  obtain ⟨hother, hself⟩ := hd ▸ takeBlocks_taken (copyNoted s f true) d f.tick f.modules
  refine ⟨fun k hk => (hother k hk).trans (stn_copyNoted_ne _ _ _ hk), stn_copyNoted s f true ▸ hself, fun m hm => ?_⟩
  have h := takeBlocks_rmod (copyNoted s f true) f.tick f.modules hm
  rw [hd] at h
  refine h.trans ?_
  rw [rmod, stn_copyNoted]
  rfl

/-! ### Faulty frames, missed cycles, a closed ring (R437, R442, R446, R453) -/

theorem execRingInputFrameReceive_faulty {s : State} {f : RingFrame} (hfw : s.ring.forwarding = true)
    (hm : (s.md.mode == .load || evaluates s.md.mode) = true) (hd : (stationDef (theImage s) f.station).isSome = true)
    (hf : frameSound f = false) : exec (.ringInputFrameReceive f) s = .next
      (setStn s f.station { stn s f.station with counters := bump (stn s f.station).counters 4 }) :=
  congrArg Host.Outcome.next ((if_neg (by simp [hfw, hm])).trans ((if_pos (by simp [hf])).trans
    (if_neg (by simpa [Option.isSome_iff_ne_none] using hd))))

/-- The station with one more missed cycle. -/
def missNoted (s : State) (k : Nat) : StationSt :=
  { stn s k with
    missed := (stn s k).missed + 1, counters := bump (stn s k).counters 1, lastCycle := some (s.time.tick - 1) }

/-- The station lost after a second missed cycle. -/
def stationLost (s : State) (k : Nat) : State :=
  setStn (setPhase s 20000) k { missNoted s k with
    state := 4, mods := (stn s k).mods.map fun e => (e.1, { e.2 with valid := false }) }

theorem execRingCycleMissed_missed {s : State} {k : Nat} {d : StationDef} (hd : stationDef (theImage s) k = some d)
    (h3 : (stn s k).state = 3) (ht : 1 ≤ s.time.tick) (hc : cycleTick d (s.time.tick - 1) = true)
    (hl : ((stn s k).lastCycle.elim true fun n => decide (n < s.time.tick - 1)) = true) :
    exec (.ringCycleMissed k) s = .next (if (stn s k).missed + 1 < 2 then setStn (setPhase s 20000) k (missNoted s k)
      else raise (stationLost s k) (if d.optional then 209 else 208) [w32 k]) := by
  have h0 : s.time.tick ≠ 0 := by omega
  show execRingCycleMissed k s = _
  unfold execRingCycleMissed
  rw [hd]
  refine congrArg Host.Outcome.next (if_neg ?_)
  rw [notSecond hl]
  simp [h3, h0, hc]

theorem raise_stationLost (s : State) (k ev : Nat) (arg : List W32) : (raise (stationLost s k) ev arg).md = s.md ∧
    (∀ j, stn (raise (stationLost s k) ev arg) j = stn (stationLost s k) j) ∧
    (raise (stationLost s k) ev arg).ev = recorded s 20000 [(ev, arg)] :=
  ⟨by simp [stationLost], fun j => by simp [stn], raise_behind rfl rfl _ _⟩

theorem execRingClosed_open {s : State} (ho : s.ring.opened = true) (hd : s.ring.hopsDown = []) :
    exec .ringClosed s = .next
      (raise { s with ring := { s.ring with opened := false, openHop := 0xFF, hopsTold := [] } } 214 []) :=
  congrArg Host.Outcome.next (if_neg (by simp [ho, hd]))

/-- Whether a missed cycle is the first or the second in a row decides what becomes of the station. -/
theorem ringCycleMissed_told {s : State} {k : Nat} {d : StationDef} (hd : stationDef (theImage s) k = some d)
    (h3 : (stn s k).state = 3) (ht : 1 ≤ s.time.tick) (hc : cycleTick d (s.time.tick - 1) = true)
    (hl : ((stn s k).lastCycle.elim true fun n => decide (n < s.time.tick - 1)) = true) :
    ∃ t, exec (.ringCycleMissed k) s = .next t ∧ t.md = s.md ∧ (∀ j, j ≠ k → stn t j = stn s j) ∧
      (stn t k).missed = (stn s k).missed + 1 ∧ (stn t k).counters = bump (stn s k).counters 1 ∧
      ((stn s k).missed = 0 → (stn t k).state = 3 ∧ (stn t k).mods = (stn s k).mods ∧ t.ev = s.ev) ∧
      (1 ≤ (stn s k).missed → (stn t k).state = 4 ∧ (∀ e ∈ (stn t k).mods, e.2.valid = false) ∧
        t.ev = recorded s 20000 [(if d.optional then 209 else 208, [w32 k])]) := by
  refine ⟨_, execRingCycleMissed_missed hd h3 ht hc hl, ?_⟩
  split
  case isTrue h1 =>
    rw [stn_setStn_self]
    exact ⟨rfl, fun j hj => stn_setStn_ne _ _ _ _ hj, rfl, rfl, fun _ => ⟨h3, rfl, rfl⟩, fun h => absurd h (by omega)⟩
  case isFalse h1 =>
    obtain ⟨hmd, hstn, hev⟩ := raise_stationLost s k (if d.optional then 209 else 208) [w32 k]
    rw [hstn, stationLost, stn_setStn_self]
    refine ⟨hmd, fun j hj => (hstn j).trans (stn_setStn_ne _ _ _ _ hj), rfl, rfl, fun h => absurd h (by omega),
      fun _ => ⟨rfl, fun e he => ?_, hev⟩⟩
    obtain ⟨m, -, rfl⟩ := List.mem_map.mp he
    rfl

/-! ### DISCOVER (R451) -/

/-- A station with the place and the hops of its answer to DISCOVER. -/
def answerPlaced (s : State) (a : Discovered) : StationSt :=
  { stn s a.station with
    position := a.position, hopA := tget 0 s.ring.speed (a.position - 1), hopB := tget 0 s.ring.speed a.position }

/-- The module once it has sent DISCOVER. -/
def discoverSent (s : State) (n : Nat) : State := send (setPhase s n) .ringDiscover

theorem execRingLinkUp_discovers {s : State} (l : List Discovered) (n : Nat) (h : discovers s = true) :
    exec (.ringLinkUp l n) s = .next (l.foldl (fun s a => discoverAnswer s l a) (discoverSent s n)) := by
  simp only [discovers, Bool.and_eq_true] at h
  obtain ⟨⟨⟨hfw, him⟩, hm⟩, hmode⟩ := h
  exact congrArg Host.Outcome.next (if_neg (by simp [hfw, Option.isSome_iff_ne_none.mp him, hm, hmode]))

theorem discoverAnswer_undeclared {s : State} {l : List Discovered} {a : Discovered}
    (hd : stationDef (theImage s) a.station = none) : discoverAnswer s l a =
      raise (setStn s a.station { answerPlaced s a with undeclared := true, state := 5 }) 211 [w32 a.station] := by
  unfold discoverAnswer
  dsimp only
  rw [hd]
  rfl

/-- A station number that two stations answer with. -/
def stationDoubled (s : State) (a : Discovered) : State :=
  setStn s a.station { answerPlaced s a with mismatch := true, state := 5 }

theorem discoverAnswer_double {s : State} {l : List Discovered} {a : Discovered}
    (hd : (stationDef (theImage s) a.station).isSome = true)
    (hl : 1 < (l.filter fun b => b.station == a.station).length) : discoverAnswer s l a =
      raise (stationDoubled s a) 212 [w32 a.station, a.ident] := by
  obtain ⟨d, hd⟩ := Option.isSome_iff_exists.mp hd
  unfold discoverAnswer
  dsimp only
  rw [hd]
  exact if_pos (by simp [hl])

/-- The second answer leaves its own place in the ring. -/
theorem stationDoubled_again {s u : State} {a b : Discovered} (hab : a.station = b.station)
    (hu : u.ring = (stationDoubled s a).ring) : stn (stationDoubled u b) a.station =
      { answerPlaced s a with
        mismatch := true, position := b.position, state := 5, hopA := tget 0 s.ring.speed (b.position - 1)
        hopB := tget 0 s.ring.speed b.position } := by
  have hs : stn u b.station = { answerPlaced s a with mismatch := true, state := 5 } := by
    rw [stn, hu, ← hab]
    exact stn_setStn_self ..
  have hspeed : u.ring.speed = s.ring.speed := by rw [hu]; rfl
  rw [stationDoubled, hab, stn_setStn_self, answerPlaced, hs, hspeed]

/-- A station of the declared type and revision, with the digest it is to hold. -/
def answerTaken (s : State) (a : Discovered) (state : Nat) : StationSt :=
  { answerPlaced s a with
    mismatch := false, undeclared := false, digest := some (ringDigest (theImage s)), state := state }

/-- The CONFIG for a station (R451). -/
def configMsg (s : State) (k : Nat) : OutMsg :=
  .ringConfig k (ringDigest (theImage s)) (stationBytes ((recOf (theImage s) 0x80 0).getD []) k
    (le ((recOf (theImage s) 0x80 0).getD []) 0 2) 16) (stationOasis (theImage s) k)

theorem discoverAnswer_declared {s : State} {a : Discovered} {d : StationDef}
    (hd : stationDef (theImage s) a.station = some d) (hi : a.ident = d.ident) : discoverAnswer s [a] a =
      if a.digest = ringDigest (theImage s) then
        setStn s a.station (answerTaken s a (if (stn s a.station).state = 3 then 3 else 2))
      else send (setStn s a.station (answerTaken s a 2)) (configMsg s a.station) := by
  unfold discoverAnswer
  dsimp only
  rw [hd]
  exact if_neg (by simp [hi])

/-! ### Joining and hop speeds (R436, R452) -/

/-- A station that runs from this cycle on. -/
def stationJoined (s : State) (k : Nat) : State :=
  setStn s k { stn s k with state := 3, missed := 0, late := false, lastCycle := none, pendingFrame := none }

theorem execStationJoin_configured {s : State} {k : Nat} {d : StationDef} (hd : stationDef (theImage s) k = some d)
    (h2 : (stn s k).state = 2) (hc : cycleTick d s.time.tick = true) : exec (.stationJoin k) s = .next
      (if s.md.mode = .load then stationJoined s k
       else raise (stationJoined s k) 210 [w32 k, w32 (stn s k).position]) := by
  show execStationJoin k s = _
  unfold execStationJoin
  rw [hd]
  exact congrArg Host.Outcome.next (if_neg (by simp [h2, hc]))

/-- A hop that is up at its speed. -/
def hopUp (s : State) (h sp n : Nat) : State :=
  { setPhase s n with ring := { s.ring with
      speed := tset s.ring.speed h sp, hopsDown := s.ring.hopsDown.filter fun j => j != h
      st := s.ring.st.map fun e => (e.1, { e.2 with
        hopA := if e.2.position = h + 1 then sp else e.2.hopA
        hopB := if e.2.position = h then sp else e.2.hopB }) } }

theorem execHopSpeedNegotiated_forwarding {s : State} (h : Nat) (gen2 gigabit : Bool) (n : Nat)
    (hfw : s.ring.forwarding = true) : exec (.hopSpeedNegotiated h gen2 gigabit n) s = .next
      (toldUnless (!(gen2 && !gigabit)) (hopUp s h (if gen2 && gigabit then 2 else 1) n) 220 [w32 h]) := by
  refine congrArg Host.Outcome.next ((if_neg (by simp [hfw])).trans ?_)
  rw [← toldUnless_eq, Bool.not_not]
  rfl

theorem toldUnless_ring (b : Bool) (s : State) (ev : Nat) (arg : List W32) : (toldUnless b s ev arg).ring = s.ring := by
  cases b <;> simp [toldUnless]

theorem stn_raise (s : State) (ev : Nat) (arg : List W32) (k : Nat) : stn (raise s ev arg) k = stn s k := by simp [stn]

theorem stn_ringContainers (s : State) (f : RingFrame) (k : Nat) : stn (ringContainers s f) k = stn s k := by simp [stn]

/-- Settles O51: a frame's blocks are read module by module, and every other command leaves one named state. -/
theorem ringCyclesJoinsAndHops : Obligations.RingCyclesJoinsAndHops := by
  unfold Obligations.RingCyclesJoinsAndHops
  refine ⟨fun s f d hn ht hat => ?_, fun s f d hn ht hat => ?_, fun s f hfw hm hd hf => ?_,
    fun s k d hd h3 ht hc hl => ringCycleMissed_told hd h3 ht hc hl, fun s ho hd => ?_, fun s a n d hdis hd hi => ?_,
    fun s a n hdis hd => ?_, fun s a b n hdis hd hab => ?_, fun s k d hd h2 hc => ?_, fun s h gen2 gigabit n hfw => ?_⟩
  · obtain ⟨-, -, -, -, hd, -⟩ := newCycle_iff.mp hn
    obtain ⟨hother, hself, hmods⟩ := takeBlocks_copyNoted (s := s) (station_of_stationDef hd)
    refine ⟨_, (execRingInputFrameReceive_new hn ht).trans (congrArg Host.Outcome.next (if_pos hat)),
      by simp [copyNoted_keeps], fun k hk => (stn_ringContainers ..).trans (hother k hk), ?_⟩
    rw [stn_ringContainers]
    refine ⟨congrArg (·.lastCycle) hself, congrArg (·.missed) hself, congrArg (·.sample) hself, congrArg (·.late) hself,
      congrArg (·.heldOut) hself, fun m hm hnone => ?_, fun m hm b hb => ?_⟩
    · rw [hmods m hm, hnone]
      exact ⟨rfl, rfl⟩
    · rw [hmods m hm, hb]
      exact blockRead_some ..
  · obtain ⟨hmd, hsafe⟩ := copyNoted_keeps s f false
    refine ⟨_, (execRingInputFrameReceive_new hn ht).trans (congrArg Host.Outcome.next (if_neg (by omega))), hmd, hsafe,
      stn_copyNoted .., (copyNoted_noted s f false).ev.trans ?_⟩
    cases f.sstatus.getLsbD 2 <;> cases (stn s f.station).heldOut <;> rfl
  · exact ⟨_, execRingInputFrameReceive_faulty hfw hm hd hf, rfl, rfl, fun k hk => stn_setStn_ne _ _ _ _ hk,
      stn_setStn_self ..⟩
  · exact ⟨_, execRingClosed_open ho hd, by simp, by simp, by rw [raise_ev]; rfl⟩
  · refine ⟨_, (execRingLinkUp_discovers _ n hdis).trans
      (congrArg Host.Outcome.next (discoverAnswer_declared (s := discoverSent s n) hd hi)), ?_⟩
    by_cases hdig : a.digest = ringDigest (theImage s)
    · rw [if_pos (by exact hdig), if_pos hdig]
      exact ⟨rfl, rfl, (stn_setStn_self ..).trans (by rw [answerTaken]; simp only [hdig, true_and]; rfl), rfl⟩
    · rw [if_neg (by exact hdig), if_neg hdig]
      exact ⟨rfl, rfl, (stn_setStn_self ..).trans (by rw [answerTaken]; simp only [hdig, false_and, if_false]; rfl), rfl⟩
  · refine ⟨_, (execRingLinkUp_discovers _ n hdis).trans
      (congrArg Host.Outcome.next (discoverAnswer_undeclared (s := discoverSent s n) hd)), ?_, ?_, ?_,
      raise_behind rfl rfl _ _⟩
    · simp [discoverSent]
    · simp [discoverSent, send]
    · exact (stn_raise ..).trans (stn_setStn_self ..)
  · have h2 : 1 < ([a, b].filter fun c => c.station == a.station).length := by simp [hab]
    have ha := discoverAnswer_double (s := discoverSent s n) hd h2
    have hb := discoverAnswer_double (s := raise (stationDoubled (discoverSent s n) a) 212 [w32 a.station, a.ident])
      (a := b) (hab ▸ by simpa [stationDoubled, discoverSent, theImage] using hd) (hab ▸ h2)
    have h0 : Noted s n [] (stationDoubled (discoverSent s n) a) := (Noted.start s n).keep rfl rfl
    refine ⟨_, (execRingLinkUp_discovers _ n hdis).trans (congrArg Host.Outcome.next
      ((congrArg (fun u => discoverAnswer u [a, b] b) ha).trans hb)), ?_, ?_, ?_, ?_⟩
    · simp [stationDoubled, discoverSent]
    · simp [stationDoubled, discoverSent, send]
    · exact (stn_raise ..).trans (stationDoubled_again (s := discoverSent s n) hab (by simp))
    · exact ((h0.raise 212 _).keep (u := stationDoubled _ b) rfl rfl |>.raise 212 _).ev
  · refine ⟨_, execStationJoin_configured hd h2 hc, ?_⟩
    split
    case isTrue hm => exact ⟨rfl, fun j hj => stn_setStn_ne _ _ _ _ hj, stn_setStn_self .., rfl⟩
    case isFalse hm =>
      exact ⟨by simp [stationJoined], fun j hj => (stn_raise ..).trans (stn_setStn_ne _ _ _ _ hj),
        (stn_raise ..).trans (stn_setStn_self ..), raise_ev ..⟩
  · obtain ⟨hmd, -, hev⟩ := toldUnless_effect (s := s) (u := hopUp s h (if gen2 && gigabit then 2 else 1) n) rfl rfl
      (!(gen2 && !gigabit)) 220 [w32 h]
    refine ⟨_, execHopSpeedNegotiated_forwarding h gen2 gigabit n hfw, hmd, ?_⟩
    rw [toldUnless_ring]
    refine ⟨tget_tset_self .., by simp [hopUp], fun j hj => ⟨tget_tset_ne _ _ _ _ _ hj, by simp [hopUp, hj]⟩, hev.trans ?_⟩
    cases gen2 && !gigabit <;> rfl

end Sys2Proof.Machine
end

section
/-! The CAN ports: what a frame, an entry and an error leave of a controller (R462 to R477). -/

namespace Sys2Proof.Machine

/-! ### Handles, ports and slots -/

@[simp] theorem port_setEntryHandle (s : State) (e : TxEntry) (st p : Nat) : port (setEntryHandle s e st) p = port s p := by
  unfold setEntryHandle
  split <;> rfl

@[simp] theorem slotSt_setEntryHandle (s : State) (e : TxEntry) (st k : Nat) :
    slotSt (setEntryHandle s e st) k = slotSt s k := by
  unfold setEntryHandle
  split <;> rfl

@[simp] theorem setEntryHandle_ev (s : State) (e : TxEntry) (st : Nat) : (setEntryHandle s e st).ev = s.ev := by
  unfold setEntryHandle
  split <;> rfl

theorem handleReads_setEntryHandle {s : State} {e : TxEntry} (st : Nat) (h : e.slot = none) :
    handleReads (setEntryHandle s e st) e.req.handle = { handleReads s e.req.handle with state := st } := by
  rw [setEntryHandle, if_neg (by simp [h])]
  exact tget_tset_self ..

@[simp] theorem handleReads_setCancel (s : State) (h r : Nat) :
    handleReads (setCancel s h r) h = { handleReads s h with cancel := r } := tget_tset_self ..

@[simp] theorem port_canCount_self (s : State) (p i n : Nat) :
    port (canCount s p i n) p = { port s p with counters := bump (port s p).counters i n } := port_setPort_self ..

@[simp] theorem port_canRemove_self (s : State) (p : Nat) (e : TxEntry) : port (canRemove s p e) p = { port s p with
    fifo := (port s p).fifo.filter fun a => a.order != e.order
    launch := (port s p).launch.filter fun a => a.order != e.order } := port_setPort_self ..

@[simp] theorem port_raise (s : State) (ev : Nat) (arg : List W32) (p : Nat) : port (raise s ev arg) p = port s p := by
  simp [port]

/-- An entry that canRemove has taken out stands in neither list, whatever else changes. -/
theorem entryGone_of_lists {s t : State} {p : Nat} {e : TxEntry} (hf : (port t p).fifo = (port (canRemove s p e) p).fifo)
    (hl : (port t p).launch = (port (canRemove s p e) p).launch) : entryGone t p e := by
  intro a ha
  rw [hf, hl, port_canRemove_self, ← List.filter_append] at ha
  simpa using (List.mem_filter.mp ha).2

/-! ### The error state of a controller (R472) -/

/-- From s to t nothing of the CAN ports has changed but the error state of one controller. -/
structure StateMoved (p : Nat) (s t : State) : Prop where
  can : t.can = { s.can with p := t.can.p }
  other : ∀ j, j ≠ p → port t j = port s j
  self : port t p = { port s p with state := (port t p).state }

theorem StateMoved.refl (p : Nat) (s : State) : StateMoved p s s := ⟨rfl, fun _ _ => rfl, rfl⟩

theorem raise_stateMoved (s : State) (p st ev : Nat) (arg : List W32) :
    StateMoved p s (raise (setPort s p { port s p with state := st }) ev arg) := by
  refine ⟨?_, fun j hj => ?_, ?_⟩
  · simp [setPort]
  · rw [port_raise]
    exact port_setPort_ne _ _ _ _ hj
  · rw [port_raise, port_setPort_self]

theorem canErrorState_moved (s : State) (p : Nat) : StateMoved p s (canErrorState s p) := by
  unfold canErrorState
  dsimp only
  split
  · exact raise_stateMoved ..
  · split
    · exact raise_stateMoved ..
    · exact .refl p s

theorem canErrorState_passive {s : State} {p : Nat} (h1 : (port s p).state = 1)
    (h : 128 ≤ (port s p).txErr ∨ 128 ≤ (port s p).rxErr) : canErrorState s p =
      raise (setPort s p { port s p with state := 2 }) 224 [w32 p, w32 (port s p).txErr, w32 (port s p).rxErr] :=
  if_pos ⟨h1, h⟩

theorem canErrorState_stays {s : State} {p : Nat} (h2 : (port s p).state = 2)
    (h : 128 ≤ (port s p).txErr ∨ 128 ≤ (port s p).rxErr) : canErrorState s p = s :=
  (if_neg (by simp [h2])).trans (if_neg (by omega))

theorem Noted.canErrorState {s t : State} {n : Nat} {evs : List (Nat × List W32)} (h : Noted s n evs t) (p : Nat) :
    ∃ l, Noted s n (evs ++ l) (canErrorState t p) := by
  have hset : ∀ x, Noted s n evs (setPort t p x) := fun x => h.keep rfl rfl
  unfold Machine.canErrorState
  dsimp only
  split
  · exact ⟨_, (hset _).raise ..⟩
  · split
    · exact ⟨_, (hset _).raise ..⟩
    · exact ⟨[], by simpa using h⟩

/-! ### Received frames (R462, R463, R464, R470) -/

/-- A frame counted at its port, with the error counter lowered as a good reception lowers it. -/
def counted (s : State) (f : CanFrame) (n : Nat) : State := canGoodReceive (canCount (setPhase s n) f.port 1) f.port

theorem canGoodReceive_can (s : State) (p : Nat) : (canGoodReceive s p).can = { s.can with p := (canGoodReceive s p).can.p } ∧
    (port (canGoodReceive s p) p).counters = (port s p).counters := by
  have h : ∀ u x, u.can = s.can → x.counters = (port s p).counters →
      (canErrorState (setPort u p x) p).can = { s.can with p := (canErrorState (setPort u p x) p).can.p } ∧
      (port (canErrorState (setPort u p x) p) p).counters = (port s p).counters := fun u x hu hx => by
    obtain ⟨hcan, -, hself⟩ := canErrorState_moved (setPort u p x) p
    refine ⟨hcan.trans (by rw [setPort, hu]), ?_⟩
    rw [hself, port_setPort_self, hx]
  unfold canGoodReceive
  dsimp only
  split
  · exact ⟨rfl, rfl⟩
  split
  · exact h s _ rfl rfl
  · exact h _ _ rfl rfl

theorem Noted.canGoodReceive {s t : State} {n : Nat} {evs : List (Nat × List W32)} (h : Noted s n evs t) (p : Nat) :
    ∃ l, Noted s n (evs ++ l) (canGoodReceive t p) := by
  have hset : ∀ u x, u.ev = t.ev → u.time = t.time → Noted s n evs (setPort u p x) := fun u x he ht => h.keep he ht
  unfold Machine.canGoodReceive
  dsimp only
  split
  · exact ⟨[], by simpa using h⟩
  split
  · exact (hset t _ rfl rfl).canErrorState p
  · exact (hset (takeFree t).2 _ rfl rfl).canErrorState p

/-- What counting a frame leaves: only ports change, and the events are those of the error state. -/
theorem counted_effect (s : State) (f : CanFrame) (n : Nat) : (counted s f n).md = s.md ∧
    theImage (counted s f n) = theImage s ∧ (counted s f n).can = { s.can with p := (counted s f n).can.p } ∧
    (port (counted s f n) f.port).counters = bump (port s f.port).counters 1 ∧ ∃ l, Noted s n l (counted s f n) := by
  obtain ⟨hcan, hcount⟩ := canGoodReceive_can (canCount (setPhase s n) f.port 1) f.port
  obtain ⟨l, hl⟩ := Noted.canGoodReceive ((Noted.start s n).keep (u := canCount (setPhase s n) f.port 1) rfl rfl) f.port
  refine ⟨by simp [counted], by simp [counted, theImage], hcan, hcount.trans ?_, l, hl⟩
  rw [port_canCount_self]
  rfl

theorem frameRec_counted (s : State) (f : CanFrame) (n : Nat) : frameRec (counted s f n) f = frameRec s f := by
  obtain ⟨-, him, -, -, l, hl⟩ := counted_effect s f n
  have hq : timeQuality (counted s f n) = timeQuality s := by simp only [timeQuality, hl.time]
  simp only [frameRec, canRxStamp, canStamp, him, hq]

theorem execCanFrameReceived_taken {s : State} {f : CanFrame} (n : Nat) {k : Nat} {d : FilterDef}
    (hl : canListens s f.port = true) (hk : (filterDefs (theImage s)).find? (fun e => filterTakes e.2 f) = some (k, d)) :
    exec (.canFrameReceived f n) s = .next (takeFrame (counted s f n) k d f) := by
  refine congrArg Host.Outcome.next ((if_neg (by simp [hl])).trans ?_)
  dsimp only
  rw [show theImage (canGoodReceive (canCount (setPhase s n) f.port 1) f.port) = theImage s from (counted_effect s f n).2.1, hk]
  rfl

theorem execCanFrameReceived_unmatched {s : State} {f : CanFrame} (n : Nat) (hl : canListens s f.port = true)
    (hk : ∀ e ∈ filterDefs (theImage s), filterTakes e.2 f = false) :
    exec (.canFrameReceived f n) s = .next (canCount (counted s f n) f.port 2) := by
  have hnone : (filterDefs (theImage s)).find? (fun e => filterTakes e.2 f) = none :=
    List.find?_eq_none.mpr fun e he => by simp [hk e he]
  refine congrArg Host.Outcome.next ((if_neg (by simp [hl])).trans ?_)
  dsimp only
  rw [show theImage (canGoodReceive (canCount (setPhase s n) f.port 1) f.port) = theImage s from (counted_effect s f n).2.1, hnone]
  rfl

/-- The last frame of a filter. -/
def lastTaken (u : State) (k : Nat) (r : CanRec) : State := { u with can := { u.can with last := tset u.can.last k r } }

/-- The queue of a filter has taken a frame. -/
def queueTaken (u : State) (k : Nat) (r : CanRec) : State :=
  { lastTaken u k r with can := { (lastTaken u k r).can with
    q := tset u.can.q k (tget [] u.can.q k ++ [r]), qFull := u.can.qFull.filter (· != k) } }

/-- The queue of a filter has lost a frame, and stands as full. -/
def queueFull (u : State) (k p : Nat) (r : CanRec) : State :=
  let v := canCount (lastTaken u k r) p 3
  { v with can := { v.can with qFull := k :: v.can.qFull } }

theorem takeFrame_queue (u : State) (k : Nat) {d : FilterDef} (f : CanFrame) (hd : d.slot = false) : takeFrame u k d f =
    if (tget [] u.can.q k).length < d.depth then queueTaken u k (frameRec u f)
    else if u.can.qFull.contains k then canCount (lastTaken u k (frameRec u f)) f.port 3
    else raise (queueFull u k f.port (frameRec u f)) 229 [w32 k] :=
  if_neg (by simp [hd])

theorem takeFrame_slot (u : State) (k : Nat) {d : FilterDef} (f : CanFrame) (hd : d.slot = true) : takeFrame u k d f =
    setSlot (lastTaken u k (frameRec u f)) d.dest
      { slotSt u d.dest with last := some (frameRec u f), endNs := f.endNs, tick := u.time.tick } := if_pos hd

theorem takeFrame_slot_effect (u : State) (k : Nat) {d : FilterDef} (f : CanFrame) (hd : d.slot = true) :
    (takeFrame u k d f).md = u.md ∧ (takeFrame u k d f).can.q = u.can.q ∧ (takeFrame u k d f).can.p = u.can.p ∧
    slotSt (takeFrame u k d f) d.dest =
      { slotSt u d.dest with last := some (frameRec u f), endNs := f.endNs, tick := u.time.tick } := by
  rw [takeFrame_slot u k f hd]
  exact ⟨rfl, rfl, rfl, slotSt_setSlot_self ..⟩

/-- A full queue keeps its frames and counts the one that it loses. -/
theorem takeFrame_lost {u t : State} {k : Nat} {f : CanFrame}
    (ht : t.can.p = (canCount (lastTaken u k (frameRec u f)) f.port 3).can.p) :
    (port t f.port).counters = bump (port u f.port).counters 3 := by
  rw [port, ht]
  exact congrArg PortSt.counters (port_canCount_self (lastTaken u k (frameRec u f)) f.port 3 1)

theorem takeFrame_queue_effect (u : State) (k : Nat) {d : FilterDef} (f : CanFrame) (hd : d.slot = false) :
    let t := takeFrame u k d f
    t.md = u.md ∧ tfind t.can.last k = some (frameRec u f) ∧ t.can.slot = u.can.slot ∧
      ((tget [] u.can.q k).length < d.depth → tget [] t.can.q k = tget [] u.can.q k ++ [frameRec u f] ∧
        port t f.port = port u f.port) ∧
      (d.depth ≤ (tget [] u.can.q k).length → t.can.q = u.can.q ∧
        (port t f.port).counters = bump (port u f.port).counters 3) := by
  dsimp only
  rw [takeFrame_queue u k f hd]
  split
  case isTrue h =>
    exact ⟨rfl, tfind_tset_self .., rfl, fun _ => ⟨tget_tset_self .., rfl⟩, fun h' => absurd h (by omega)⟩
  case isFalse h =>
    split
    case isTrue hf => exact ⟨rfl, tfind_tset_self .., rfl, fun h' => absurd h' h, fun _ => ⟨rfl, takeFrame_lost rfl⟩⟩
    case isFalse hf =>
      refine ⟨by simp [queueFull, lastTaken], ?_, by simp [queueFull, lastTaken, canCount], fun h' => absurd h' h,
        fun _ => ⟨by simp [queueFull, lastTaken, canCount], takeFrame_lost (k := k) (by simp [queueFull])⟩⟩
      rw [show (raise (queueFull u k f.port (frameRec u f)) 229 [w32 k]).can = (queueFull u k f.port (frameRec u f)).can by simp]
      exact tfind_tset_self ..

theorem Noted.takeFrame_queue {s u : State} {n : Nat} {evs : List (Nat × List W32)} (h : Noted s n evs u) (k : Nat)
    {d : FilterDef} (f : CanFrame) (hd : d.slot = false) : Noted s n
      (evs ++ if (tget [] u.can.q k).length < d.depth ∨ k ∈ u.can.qFull then [] else [(229, [w32 k])]) (takeFrame u k d f) := by
  rw [Machine.takeFrame_queue u k f hd]
  by_cases hroom : (tget [] u.can.q k).length < d.depth
  · rw [if_pos hroom, if_pos (.inl hroom), List.append_nil]
    exact h.keep rfl rfl
  · rw [if_neg hroom]
    by_cases hfull : k ∈ u.can.qFull
    · rw [if_pos (.inr hfull), if_pos (by simpa using hfull), List.append_nil]
      exact h.keep rfl rfl
    · rw [if_neg (by simp [hroom, hfull]), if_neg (by simpa using hfull)]
      exact (h.keep (u := queueFull u k f.port (frameRec u f)) rfl rfl).raise ..

/-! ### Entries that leave or stay (R466, R468, R469) -/

/-- A cancel that takes an entry out of its list. -/
def entryCancelled (s : State) (p : Nat) (e : TxEntry) : State :=
  setCancel (setEntryHandle (canCount (canRemove s p e) p 5) e 4) e.req.handle 1

theorem entryCancelled_effect (s : State) (p : Nat) (e : TxEntry) : (entryCancelled s p e).md = s.md ∧
    (entryCancelled s p e).ev = s.ev ∧ port (entryCancelled s p e) p =
      { port (canRemove s p e) p with counters := bump (port s p).counters 5 } ∧
    entryGone (entryCancelled s p e) p e ∧ (handleReads (entryCancelled s p e) e.req.handle).cancel = 1 ∧
    (e.slot = none → (handleReads (entryCancelled s p e) e.req.handle).state = 4) := by
  have hp : port (entryCancelled s p e) p = { port (canRemove s p e) p with counters := bump (port s p).counters 5 } := by
    show port (setEntryHandle (canCount (canRemove s p e) p 5) e 4) p = _
    rw [port_setEntryHandle, port_canCount_self, port_canRemove_self]
  refine ⟨by simp [entryCancelled], setEntryHandle_ev _ e 4, hp, entryGone_of_lists (by rw [hp]) (by rw [hp]), ?_, fun h => ?_⟩
  · simp [entryCancelled]
  · simp [entryCancelled, handleReads_setEntryHandle _ h]

/-- The cancel of a handle as it reaches its controller. -/
def cancelReached (s : State) (h n : Nat) : State :=
  { setPhase s n with can := { s.can with cancels := s.can.cancels.erase h } }

theorem execSysCanCancel_found {s : State} {h p : Nat} {e : TxEntry} (n : Nat) (hc : s.can.cancels.contains h = true)
    (he : findEntry s h = some (p, e)) : exec (.sysCanCancel h n) s = .next
      (if isOnBus (port s p) e then setPort (cancelReached s h n) p { port s p with cancelOnBus := true }
       else setCancel (setEntryHandle (canCount (canRemove (cancelReached s h n) p e) p 5) e 4) h 1) := by
  refine congrArg Host.Outcome.next ((if_neg (by simp only [hc]; decide)).trans ?_)
  dsimp only
  split
  next hnone => exact nomatch hnone.symm.trans he
  next p' e' hsome =>
    obtain ⟨rfl, rfl⟩ := Prod.mk.inj (Option.some.inj (hsome.symm.trans he))
    rfl

theorem execSysCanCancel_none {s : State} {h : Nat} (n : Nat) (hc : s.can.cancels.contains h = true)
    (he : findEntry s h = none) : exec (.sysCanCancel h n) s = .next (setCancel (cancelReached s h n) h 3) := by
  refine congrArg Host.Outcome.next ((if_neg (by simp only [hc]; decide)).trans ?_)
  dsimp only
  split
  next => rfl
  next hsome => exact nomatch hsome.symm.trans he

/-- The entry that a handle finds is that handle's. -/
theorem findEntry_some {s : State} {h p : Nat} {e : TxEntry} (he : findEntry s h = some (p, e)) :
    e.slot = none ∧ e.req.handle = h := by
  unfold findEntry at he
  obtain ⟨x, -, hx⟩ := List.exists_of_findSome?_eq_some he
  obtain ⟨a, ha, hpe⟩ := Option.map_eq_some_iff.mp hx
  obtain rfl : a = e := congrArg Prod.snd hpe
  simpa using List.find?_some ha

/-- A cancel found its entry: on the bus it waits, else the entry leaves. -/
theorem sysCanCancel_told {s : State} {h p : Nat} {e : TxEntry} (n : Nat) (hc : s.can.cancels.contains h = true)
    (he : findEntry s h = some (p, e)) :
    ∃ t, exec (.sysCanCancel h n) s = .next t ∧ t.md = s.md ∧ t.ev = s.ev ∧
      (isOnBus (port s p) e = true → (port t p).cancelOnBus = true ∧ (port t p).fifo = (port s p).fifo ∧
        (port t p).launch = (port s p).launch ∧ t.can.handle = s.can.handle) ∧
      (isOnBus (port s p) e = false → entryGone t p e ∧ (handleReads t h).state = 4 ∧ (handleReads t h).cancel = 1 ∧
        (port t p).counters = bump (port s p).counters 5) := by
  obtain ⟨hslot, rfl⟩ := findEntry_some he
  refine ⟨_, execSysCanCancel_found n hc he, ?_⟩
  split
  case isTrue hb =>
    rw [port_setPort_self]
    exact ⟨rfl, rfl, fun _ => ⟨rfl, rfl, rfl, rfl⟩, fun h' => by simp [hb] at h'⟩
  case isFalse hb =>
    obtain ⟨hmd, hev, hp, hgone, hcancel, hstate⟩ := entryCancelled_effect (cancelReached s e.req.handle n) p e
    exact ⟨hmd, hev, fun h' => absurd h' hb, fun _ => ⟨hgone, hstate hslot, hcancel, congrArg PortSt.counters hp⟩⟩

/-! ### Entries that are late (R468) -/

/-- The handles of a list of entries read a state. -/
def handlesSet (s : State) (l : List TxEntry) (st : Nat) : State := l.foldl (fun s e => setEntryHandle s e st) s

theorem setEntryHandle_eq (s : State) (e : TxEntry) (st : Nat) :
    ∃ h, setEntryHandle s e st = { s with can := { s.can with handle := h } } := by
  unfold setEntryHandle
  split
  · exact ⟨s.can.handle, rfl⟩
  · exact ⟨_, rfl⟩

theorem handlesSet_eq (s : State) (l : List TxEntry) (st : Nat) :
    ∃ h, handlesSet s l st = { s with can := { s.can with handle := h } } := by
  induction l generalizing s with
  | nil => exact ⟨s.can.handle, rfl⟩
  | cons e l ih =>
    obtain ⟨h, hs⟩ := setEntryHandle_eq s e st
    obtain ⟨h', hl⟩ := ih (setEntryHandle s e st)
    exact ⟨h', hl.trans (by rw [hs])⟩

theorem state_setEntryHandle {s : State} {h st : Nat} (e : TxEntry) (hs : (handleReads s h).state = st) :
    (handleReads (setEntryHandle s e st) h).state = st := by
  unfold setEntryHandle
  split
  · exact hs
  · by_cases he : h = e.req.handle
    · rw [he]
      exact congrArg HandleSt.state (tget_tset_self ..)
    · exact (congrArg HandleSt.state (tget_tset_ne _ _ _ _ _ he)).trans hs

theorem state_handlesSet (s : State) (l : List TxEntry) (st : Nat) {e : TxEntry} (he : e ∈ l) (hs : e.slot = none) :
    (handleReads (handlesSet s l st) e.req.handle).state = st := by
  obtain ⟨l1, l2, rfl⟩ := List.append_of_mem he
  rw [handlesSet, List.foldl_append, List.foldl_cons]
  refine foldl_inv (P := fun u => (handleReads u e.req.handle).state = st) _ _ _ ?_ fun u a hu => state_setEntryHandle a hu
  rw [handleReads_setEntryHandle _ hs]

/-- A port without the entries that a test finds late. -/
def latePort (s : State) (p : Nat) (late : TxEntry → Bool) : PortSt :=
  { port s p with
    launch := (port s p).launch.filter fun e => !(late e && !isOnBus (port s p) e), listFull := false
    counters := bump (port s p).counters 4 (lateEntries s p late).length }

/-- The late entries have left the list and are counted. -/
def lateLeft (s : State) (p : Nat) (late : TxEntry → Bool) : State :=
  canCount (handlesSet (setPort s p { port s p with
    launch := (port s p).launch.filter fun e => !(late e && !isOnBus (port s p) e), listFull := false })
    (lateEntries s p late) 5) p 4 (lateEntries s p late).length

theorem dropLate_none {s : State} {p : Nat} {late : TxEntry → Bool} (h : lateEntries s p late = []) :
    dropLate s p late = s := if_pos (List.isEmpty_iff.mpr h)

theorem dropLate_some {s : State} {p : Nat} {late : TxEntry → Bool} (h : lateEntries s p late ≠ []) :
    dropLate s p late = raiseLate (lateLeft s p late) p (lateEntries s p late).length :=
  if_neg fun he => h (List.isEmpty_iff.mp he)

theorem raiseLate_first {s : State} {p : Nat} (n : Nat) (h : ∀ e ∈ s.ev.intake, e.ev = 227 → e.arg.headD 0 ≠ w32 p) :
    raiseLate s p n = raise s 227 [w32 p, w32 n] := by
  refine if_neg fun hany => ?_
  obtain ⟨e, he, hm⟩ := List.any_eq_true.mp hany
  simp only [Bool.and_eq_true, beq_iff_eq] at hm
  exact h e he hm.1 hm.2

theorem lateLeft_effect (s : State) (p : Nat) (late : TxEntry → Bool) : (lateLeft s p late).md = s.md ∧
    (lateLeft s p late).ev = s.ev ∧ (lateLeft s p late).time = s.time ∧ port (lateLeft s p late) p = latePort s p late ∧
    ∀ e ∈ lateEntries s p late, e.slot = none → (handleReads (lateLeft s p late) e.req.handle).state = 5 := by
  obtain ⟨h, hh⟩ := handlesSet_eq (setPort s p { port s p with
    launch := (port s p).launch.filter fun e => !(late e && !isOnBus (port s p) e), listFull := false })
    (lateEntries s p late) 5
  refine ⟨?_, ?_, ?_, ?_, fun e he hs => state_handlesSet _ _ _ he hs⟩ <;> rw [lateLeft, hh]
  · rfl
  · rfl
  · rfl
  · rw [port_canCount_self]
    exact congrArg (fun x : PortSt => { x with
      counters := bump x.counters 4 (lateEntries s p late).length }) (port_setPort_self s p _)

theorem dropLate_effect {s : State} {p : Nat} {late : TxEntry → Bool} (h : lateEntries s p late ≠ []) :
    (dropLate s p late).md = s.md ∧ port (dropLate s p late) p = latePort s p late ∧
    (∀ e ∈ lateEntries s p late, e.slot = none → (handleReads (dropLate s p late) e.req.handle).state = 5) := by
  obtain ⟨hmd, -, -, hp, hh⟩ := lateLeft_effect s p late
  have hcan : (raiseLate (lateLeft s p late) p (lateEntries s p late).length).can = (lateLeft s p late).can := by simp
  rw [dropLate_some h]
  refine ⟨by simp [hmd], ?_, fun e he hs => ?_⟩
  · rw [port, hcan]
    exact hp
  · rw [handleReads, hcan]
    exact hh e he hs

theorem dropLate_ev {s : State} {p n : Nat} {late : TxEntry → Bool} (h : lateEntries s p late ≠ [])
    (hn : ∀ e ∈ s.ev.intake, e.ev = 227 → e.arg.headD 0 ≠ w32 p) :
    (dropLate (setPhase s n) p late).ev = recorded s n [(227, [w32 p, w32 (lateEntries s p late).length])] := by
  obtain ⟨-, hev, htime, -, -⟩ := lateLeft_effect (setPhase s n) p late
  rw [dropLate_some (s := setPhase s n) h, raiseLate_first _ (hev ▸ hn)]
  exact raise_behind hev htime _ _

/-- Late or not, the list of a port loses those found late and its FIFO none. -/
theorem dropLate_lists (s : State) (p : Nat) (late : TxEntry → Bool) : (dropLate s p late).md = s.md ∧
    (port (dropLate s p late) p).fifo = (port s p).fifo ∧
    (port (dropLate s p late) p).launch = (port s p).launch.filter (fun e => !(late e && !isOnBus (port s p) e)) := by
  by_cases h : lateEntries s p late = []
  · rw [dropLate_none h]
    refine ⟨rfl, rfl, (List.filter_eq_self.mpr fun e he => ?_).symm⟩
    simpa [imp_iff_not_or] using List.filter_eq_nil_iff.mp h e he
  · obtain ⟨hmd, hp, -⟩ := dropLate_effect h
    rw [hp]
    exact ⟨hmd, rfl, rfl⟩

theorem execCanLaunchLate_eq (s : State) (p n : Nat) : exec (.canLaunchLate p n) s =
    .next (dropLate (setPhase s n) p (limitCome (setPhase s n) p)) := rfl

/-! ### Selection points (R466) -/

/-- An entry goes on the bus. -/
def busTaken (u : State) (p : Nat) (e : TxEntry) : State :=
  setEntryHandle (setPort u p { port u p with onBus := some e, cancelOnBus := false }) e 2

/-- The entry offered, when there is one, goes on the bus. -/
def selected (u : State) (p : Nat) : State :=
  (offered u p u.time.phase).elim u (busTaken u p)

theorem execCanSelectionPoint_free {s : State} {p : Nat} (n : Nat) (hs : canSends s = true) (hx : (port s p).state ∈ [1, 2])
    (hb : (port s p).onBus = none) : exec (.canSelectionPoint p n) s = .next
      (selected (dropLate (setPhase s n) p (isLate (setPhase s n) p)) p) := by
  have hx' : (port s p).state = 1 ∨ (port s p).state = 2 := by simpa using hx
  refine congrArg Host.Outcome.next ((if_neg (by simpa [hs, hb, imp_iff_not_or] using hx')).trans ?_)
  dsimp only
  generalize dropLate (setPhase s n) p (isLate (setPhase s n) p) = u
  rw [selected, show offered u p u.time.phase = ((port u p).launch.head?.filter fun e => decide (e.time ≤ vtime u)).or
    (port u p).fifo.head? from rfl]
  cases (port u p).launch.head?.filter fun e => decide (e.time ≤ vtime u) with
  | some e => rfl
  | none =>
    cases hf : (port u p).fifo with
    | nil => rfl
    | cons e l =>
      show _ = busTaken u p e
      simp only [busTaken, hf]

theorem selected_lists (u : State) (p : Nat) : (selected u p).md = u.md ∧ (port (selected u p) p).fifo = (port u p).fifo ∧
    (port (selected u p) p).launch = (port u p).launch ∧ (port (selected u p) p).counters = (port u p).counters := by
  unfold selected
  cases offered u p u.time.phase with
  | none => exact ⟨rfl, rfl, rfl, rfl⟩
  | some e =>
    simp [busTaken]

/-! ### The end of a frame on the bus (R466, R469, R470, R472, R473) -/

/-- The frame on the bus has ended. -/
def busFreed (s : State) (p n : Nat) : State :=
  setPort (setPhase s n) p { port s p with onBus := none, cancelOnBus := false }

/-- A frame that has been sent, with the cancel that came too late for it. -/
def sentCounted (s : State) (p n : Nat) (e : TxEntry) (st : CanStamp) : State :=
  let u := canSent (busFreed s p n) p e st
  if (port s p).cancelOnBus then setCancel (canCount u p 6) e.req.handle 2 else u

/-- A transmission without error lowers the transmit error counter. -/
def txLowered (u : State) (p : Nat) : State :=
  if (port u p).state = 5 then u
  else canErrorState (setPort u p { port u p with txErr := (port u p).txErr - 1 }) p

theorem execCanTransmitEnd_sent {s : State} {p : Nat} {e : TxEntry} (ns : Nat) (frac : W16) (n : Nat)
    (he : (port s p).onBus = some e) : exec (.canTransmitEnd p 0 ns frac n) s = .next
      (txLowered (sentCounted s p n e (canTxStamp s ns frac)) p) := by
  show execCanTransmitEnd p 0 ns frac n s = _
  unfold execCanTransmitEnd
  dsimp only
  rw [he]
  rfl

theorem execCanTransmitEnd_lost {s : State} {p : Nat} {e : TxEntry} (ns : Nat) (frac : W16) (n : Nat)
    (he : (port s p).onBus = some e) : exec (.canTransmitEnd p 1 ns frac n) s = .next
      (canRetry (busFreed s p n) p e (port s p).cancelOnBus) := by
  show execCanTransmitEnd p 1 ns frac n s = _
  unfold execCanTransmitEnd
  dsimp only
  rw [he]
  rfl

theorem execCanTransmitEnd_error {s : State} {p : Nat} {e : TxEntry} (ns : Nat) (frac : W16) (n : Nat)
    (he : (port s p).onBus = some e) : exec (.canTransmitEnd p 2 ns frac n) s = .next
      (canTxError (canRetry (busFreed s p n) p e (port s p).cancelOnBus) p e) := by
  show execCanTransmitEnd p 2 ns frac n s = _
  unfold execCanTransmitEnd
  dsimp only
  rw [he]
  rfl

theorem port_busFreed (s : State) (p n : Nat) : port (busFreed s p n) p =
    { port s p with onBus := none, cancelOnBus := false } := port_setPort_self ..

/-- A sent frame leaves its list, is counted, and its handle or slot has its stamp. -/
theorem canSent_effect (u : State) (p : Nat) (e : TxEntry) (st : CanStamp) :
    port (canSent u p e st) p = { port (canRemove u p e) p with counters := bump (port u p).counters 0 } ∧
    (e.slot = none → handleReads (canSent u p e st) e.req.handle =
      { handleReads u e.req.handle with state := 3, stamp := some st }) ∧
    (∀ k, e.slot = some k → (slotSt (canSent u p e st) k).last =
      some ⟨st, p, e.req.flags &&& 0x1F, e.req.dlc, e.req.ident, e.req.data⟩) := by
  have hp : port (canCount (canRemove u p e) p 0) p = { port (canRemove u p e) p with
      counters := bump (port u p).counters 0 } := by rw [port_canCount_self, port_canRemove_self]
  unfold canSent
  cases hs : e.slot with
  | none => exact ⟨hp, fun _ => tget_tset_self .., nofun⟩
  | some k =>
    refine ⟨hp, nofun, fun j hj => ?_⟩
    obtain rfl := Option.some.inj hj
    exact congrArg SlotSt.last (slotSt_setSlot_self ..)

theorem sentCounted_effect (s : State) (p n : Nat) (e : TxEntry) (st : CanStamp) : (sentCounted s p n e st).md = s.md ∧
    port (sentCounted s p n e st) p = { port (canRemove (busFreed s p n) p e) p with
      counters := if (port s p).cancelOnBus then bump (bump (port s p).counters 0) 6 else bump (port s p).counters 0 } ∧
    (e.slot = none → (handleReads (sentCounted s p n e st) e.req.handle).state = 3 ∧
      (handleReads (sentCounted s p n e st) e.req.handle).stamp = some st ∧
      ((port s p).cancelOnBus = true → (handleReads (sentCounted s p n e st) e.req.handle).cancel = 2)) ∧
    (∀ k, e.slot = some k → (slotSt (sentCounted s p n e st) k).last =
      some ⟨st, p, e.req.flags &&& 0x1F, e.req.dlc, e.req.ident, e.req.data⟩) := by
  obtain ⟨hp, hh, hk⟩ := canSent_effect (busFreed s p n) p e st
  have hport : port (canSent (busFreed s p n) p e st) p = { port (canRemove (busFreed s p n) p e) p with
      counters := bump (port s p).counters 0 } := hp.trans (by rw [busFreed, port_setPort_self])
  unfold sentCounted
  dsimp only
  split
  case isTrue hc =>
    refine ⟨by simp [busFreed], ?_, fun hs => ?_, hk⟩
    · exact (port_canCount_self ..).trans (by rw [hport])
    · rw [handleReads_setCancel, show handleReads (canCount _ p 6) e.req.handle = _ from hh hs]
      exact ⟨rfl, rfl, fun _ => rfl⟩
  case isFalse hc =>
    refine ⟨by simp [busFreed], hport, fun hs => ?_, hk⟩
    rw [hh hs]
    exact ⟨rfl, rfl, fun h => absurd h hc⟩

theorem txLowered_effect (u : State) (p : Nat) : (txLowered u p).md = u.md ∧
    (txLowered u p).can = { u.can with p := (txLowered u p).can.p } ∧
    port (txLowered u p) p = { port u p with
      state := (port (txLowered u p) p).state
      txErr := if (port u p).state = 5 then (port u p).txErr else (port u p).txErr - 1 } := by
  unfold txLowered
  split
  · exact ⟨rfl, rfl, rfl⟩
  · obtain ⟨hcan, -, hself⟩ := canErrorState_moved (setPort u p { port u p with txErr := (port u p).txErr - 1 }) p
    refine ⟨by simp, hcan, ?_⟩
    rw [hself, port_setPort_self]

/-- A sent frame: it has left its list, its handle or its slot has its stamp, and a cancel came too late. -/
theorem frameSent_told (s : State) (p n : Nat) (e : TxEntry) (st : CanStamp) : let t := txLowered (sentCounted s p n e st) p
    t.md = s.md ∧ (port t p).onBus = none ∧ entryGone t p e ∧
      (port t p).txErr = (if (port s p).state = 5 then (port s p).txErr else (port s p).txErr - 1) ∧
      (port t p).counters = (if (port s p).cancelOnBus then bump (bump (port s p).counters 0) 6
        else bump (port s p).counters 0) ∧
      (e.slot = none → (handleReads t e.req.handle).state = 3 ∧ (handleReads t e.req.handle).stamp = some st ∧
        ((port s p).cancelOnBus = true → (handleReads t e.req.handle).cancel = 2)) ∧
      (∀ k, e.slot = some k →
        (slotSt t k).last = some ⟨st, p, e.req.flags &&& 0x1F, e.req.dlc, e.req.ident, e.req.data⟩) := by
  obtain ⟨hmd, hp, hh, hk⟩ := sentCounted_effect s p n e st
  obtain ⟨hmd', hcan, hp'⟩ := txLowered_effect (sentCounted s p n e st) p
  have hhandle : (txLowered (sentCounted s p n e st) p).can.handle = (sentCounted s p n e st).can.handle :=
    congrArg (·.handle) hcan
  have hslot : (txLowered (sentCounted s p n e st) p).can.slot = (sentCounted s p n e st).can.slot :=
    congrArg (·.slot) hcan
  have hgone : entryGone (txLowered (sentCounted s p n e st) p) p e :=
    entryGone_of_lists (s := busFreed s p n) (by rw [hp', hp]) (by rw [hp', hp])
  rw [hp, port_canRemove_self, port_busFreed] at hp'
  refine ⟨hmd'.trans hmd, congrArg (·.onBus) hp', hgone, congrArg (·.txErr) hp', congrArg (·.counters) hp', ?_, ?_⟩
  · rw [handleReads, hhandle]
    exact hh
  · intro k
    rw [slotSt, hslot]
    exact hk k

/-- A frame that may not be sent any more leaves its list (R476). -/
def entryDropped (u : State) (p : Nat) (e : TxEntry) : State :=
  let v := setEntryHandle (canRemove u p e) e 6
  setPort v p { port v p with dropped := satAdd 32 (port v p).dropped 1 }

theorem canRetry_cancelled (u : State) (p : Nat) (e : TxEntry) : canRetry u p e true = entryCancelled u p e := rfl

theorem canRetry_kept {u : State} (p : Nat) (e : TxEntry) (h : canSends u = true) :
    canRetry u p e false = setEntryHandle u e 1 := (if_neg (by decide)).trans (if_neg (by simp [h]))

theorem canRetry_dropped {u : State} (p : Nat) (e : TxEntry) (h : canSends u = false) :
    canRetry u p e false = raise (entryDropped u p e) 230 [w32 p, 1] :=
  (if_neg (by decide)).trans (if_pos (by simp [h]))

theorem entryDropped_effect (u : State) (p : Nat) (e : TxEntry) : (entryDropped u p e).md = u.md ∧
    (entryDropped u p e).ev = u.ev ∧ (entryDropped u p e).time = u.time ∧
    port (entryDropped u p e) p = { port (canRemove u p e) p with dropped := satAdd 32 (port u p).dropped 1 } ∧
    (e.slot = none → (handleReads (entryDropped u p e) e.req.handle).state = 6) := by
  refine ⟨by simp [entryDropped], setEntryHandle_ev _ e 6, setEntryHandle_time _ e 6, ?_, fun hs => ?_⟩
  · rw [entryDropped, port_setPort_self, port_setEntryHandle, port_canRemove_self]
  · exact congrArg HandleSt.state (handleReads_setEntryHandle (s := canRemove u p e) 6 hs)

/-- A lost arbitration: a waiting cancel takes the frame out, else it keeps its place where frames may be sent. -/
theorem canRetry_told (s : State) (p n : Nat) (e : TxEntry) : let t := canRetry (busFreed s p n) p e (port s p).cancelOnBus
    t.md = s.md ∧ (port t p).onBus = none ∧ (port t p).state = (port s p).state ∧ (port t p).txErr = (port s p).txErr ∧
      (if (port s p).cancelOnBus then entryGone t p e ∧ t.ev = s.ev ∧
          (port t p).counters = bump (port s p).counters 5 ∧ (handleReads t e.req.handle).cancel = 1 ∧
          (e.slot = none → (handleReads t e.req.handle).state = 4)
        else if canSends s then (port t p).fifo = (port s p).fifo ∧ (port t p).launch = (port s p).launch ∧ t.ev = s.ev ∧
          (e.slot = none → (handleReads t e.req.handle).state = 1)
        else entryGone t p e ∧ (port t p).dropped = satAdd 32 (port s p).dropped 1 ∧
          (e.slot = none → (handleReads t e.req.handle).state = 6) ∧ t.ev = recorded s n [(230, [w32 p, 1])]) := by
  dsimp only
  cases hc : (port s p).cancelOnBus with
  | true =>
    obtain ⟨hmd, hev, hp, hgone, hcancel, hstate⟩ := entryCancelled_effect (busFreed s p n) p e
    rw [port_canRemove_self, port_busFreed] at hp
    rw [canRetry_cancelled, if_pos rfl, hp]
    exact ⟨hmd, rfl, rfl, rfl, hgone, hev, rfl, hcancel, hstate⟩
  | false =>
    rw [if_neg (by decide)]
    cases hs : canSends s with
    | true =>
      rw [canRetry_kept p e (u := busFreed s p n) hs, if_pos rfl, port_setEntryHandle, port_busFreed]
      refine ⟨by simp [busFreed], rfl, rfl, rfl, rfl, rfl, setEntryHandle_ev _ e 1, fun h => ?_⟩
      rw [handleReads_setEntryHandle _ h]
    | false =>
      obtain ⟨hmd, hev, htime, hp, hstate⟩ := entryDropped_effect (busFreed s p n) p e
      have hgone : entryGone (entryDropped (busFreed s p n) p e) p e := entryGone_of_lists (by rw [hp]) (by rw [hp])
      rw [port_canRemove_self, port_busFreed] at hp
      rw [canRetry_dropped p e (u := busFreed s p n) hs, if_neg (by decide), port_raise, hp]
      have hcan : (raise (entryDropped (busFreed s p n) p e) 230 [w32 p, 1]).can = (entryDropped (busFreed s p n) p e).can := by
        simp
      refine ⟨Eq.trans (by simp) hmd, rfl, rfl, rfl, ?_, rfl, ?_, raise_behind hev htime _ _⟩
      · simpa only [entryGone, port_raise] using hgone
      · rw [handleReads, hcan]
        exact hstate

/-! ### Errors, recovery and port commands (R472, R473, R474) -/

/-- A transmit error adds 8 at the controller. -/
theorem canTxError_busOff {u : State} {p : Nat} (e : TxEntry) (h5 : (port u p).state ≠ 5) (h : 256 ≤ (port u p).txErr + 8) :
    canTxError u p e = raise (canCount (setPort u p { port u p with
      txErr := (port u p).txErr + 8, state := 3 }) p 7) 225 [w32 p, e.req.ident] :=
  (if_neg h5).trans (if_pos h)

theorem canTxError_counted {u : State} {p : Nat} (e : TxEntry) (h5 : (port u p).state ≠ 5) (h : (port u p).txErr + 8 < 256) :
    canTxError u p e = canErrorState (setPort u p { port u p with txErr := (port u p).txErr + 8 }) p :=
  (if_neg h5).trans (if_neg (by omega))

theorem canTxError_effect {u : State} {p : Nat} (e : TxEntry) (h5 : (port u p).state ≠ 5) :
    (canTxError u p e).md = u.md ∧ (canTxError u p e).can.handle = u.can.handle ∧
    port (canTxError u p e) p = { port u p with
      txErr := (port u p).txErr + 8, state := (port (canTxError u p e) p).state
      counters := (port (canTxError u p e) p).counters } := by
  by_cases h : 256 ≤ (port u p).txErr + 8
  · rw [canTxError_busOff e h5 h]
    exact ⟨by simp, by simp [canCount], by simp⟩
  · rw [canTxError_counted e h5 (by omega)]
    obtain ⟨hcan, -, hself⟩ := canErrorState_moved (setPort u p { port u p with txErr := (port u p).txErr + 8 }) p
    refine ⟨by simp, by rw [hcan]; rfl, ?_⟩
    rw [hself, port_setPort_self]

/-- An event behind a change of one port. -/
theorem raise_setPort {s u : State} {n : Nat} (he : u.ev = s.ev) (ht : u.time = { s.time with phase := n }) (p : Nat)
    (x : PortSt) (ev : Nat) (arg : List W32) : (raise (setPort u p x) ev arg).ev = recorded s n [(ev, arg)] := by
  have he' : (setPort u p x).ev = u.ev := rfl
  have ht' : (setPort u p x).time = u.time := rfl
  exact raise_behind (he'.trans he) (ht'.trans ht) ev arg

theorem canTxError_busOff_effect {s u : State} {p n : Nat} (e : TxEntry) (h5 : (port u p).state ≠ 5)
    (h : 256 ≤ (port u p).txErr + 8) (he : u.ev = s.ev) (ht : u.time = { s.time with phase := n }) :
    (port (canTxError u p e) p).state = 3 ∧ (port (canTxError u p e) p).counters = bump (port u p).counters 7 ∧
      (canTxError u p e).ev = recorded s n [(225, [w32 p, e.req.ident])] := by
  rw [canTxError_busOff e h5 h, port_raise, port_canCount_self, port_setPort_self]
  exact ⟨rfl, rfl, raise_setPort (u := setPort u p _) he ht p _ _ _⟩

theorem canTxError_passive_effect {s u : State} {p n : Nat} (e : TxEntry) (h1 : (port u p).state = 1)
    (h : (port u p).txErr + 8 < 256) (h' : 128 ≤ (port u p).txErr + 8) (he : u.ev = s.ev)
    (ht : u.time = { s.time with phase := n }) : (port (canTxError u p e) p).state = 2 ∧
      (canTxError u p e).ev = recorded s n [(224, [w32 p, w32 ((port u p).txErr + 8), w32 (port u p).rxErr])] := by
  have hx : port (setPort u p { port u p with txErr := (port u p).txErr + 8 }) p =
      { port u p with txErr := (port u p).txErr + 8 } := port_setPort_self ..
  rw [canTxError_counted e (by omega) h, canErrorState_passive (by rw [hx]; exact h1) (.inl (by rw [hx]; exact h')), hx,
    port_raise, port_setPort_self]
  exact ⟨rfl, raise_setPort (u := setPort u p _) he ht p _ _ _⟩

/-- An attempt that failed, and the entry that keeps its place (R466). -/
def attemptFailed (s : State) (p n : Nat) (e : TxEntry) : State := setEntryHandle (busFreed s p n) e 1

theorem port_attemptFailed (s : State) (p n : Nat) (e : TxEntry) : port (attemptFailed s p n e) p =
    { port s p with onBus := none, cancelOnBus := false } := (port_setEntryHandle ..).trans (port_busFreed ..)

/-- An error of the frame on the bus: the entry keeps its place, and the counter decides the state. -/
theorem canTransmitEnd_error_told {s : State} {p : Nat} (ns : Nat) (frac : W16) (n : Nat) {e : TxEntry}
    (he : (port s p).onBus = some e) (hx : (port s p).state ∈ [1, 2]) (hc : (port s p).cancelOnBus = false)
    (hs : canSends s = true) :
    ∃ t, exec (.canTransmitEnd p 2 ns frac n) s = .next t ∧ t.md = s.md ∧ (port t p).onBus = none ∧
      (port t p).fifo = (port s p).fifo ∧ (port t p).launch = (port s p).launch ∧
      (port t p).txErr = (port s p).txErr + 8 ∧ (e.slot = none → (handleReads t e.req.handle).state = 1) ∧
      (256 ≤ (port s p).txErr + 8 → (port t p).state = 3 ∧ (port t p).counters = bump (port s p).counters 7 ∧
        t.ev = recorded s n [(225, [w32 p, e.req.ident])]) ∧
      ((port s p).txErr + 8 < 256 → 128 ≤ (port s p).txErr + 8 → (port s p).state = 1 → (port t p).state = 2 ∧
        t.ev = recorded s n [(224, [w32 p, w32 ((port s p).txErr + 8), w32 (port s p).rxErr])]) := by
  have hu := port_attemptFailed s p n e
  have hev : (attemptFailed s p n e).ev = s.ev := setEntryHandle_ev _ e 1
  have htime : (attemptFailed s p n e).time = { s.time with phase := n } := setEntryHandle_time _ e 1
  have hx' : (port s p).state = 1 ∨ (port s p).state = 2 := by simpa using hx
  have h5 : (port (attemptFailed s p n e) p).state ≠ 5 := by rw [hu]; dsimp only; omega
  have hexec := execCanTransmitEnd_error ns frac n he
  rw [hc, canRetry_kept p e (u := busFreed s p n) hs] at hexec
  obtain ⟨hmd, hhandle, hp⟩ := canTxError_effect e h5
  have hoff := canTxError_busOff_effect (s := s) (n := n) e h5
  have hpassive := canTxError_passive_effect (s := s) (u := attemptFailed s p n e) (p := p) (n := n) e
  rw [hu] at hp hoff hpassive
  refine ⟨_, hexec, hmd.trans (by simp [attemptFailed, busFreed]), congrArg (·.onBus) hp, congrArg (·.fifo) hp,
    congrArg (·.launch) hp, congrArg (·.txErr) hp, fun h => ?_, fun h => hoff h hev htime,
    fun h h' h1 => hpassive h1 h h' hev htime⟩
  show (tget _ (canTxError (attemptFailed s p n e) p e).can.handle _).state = 1
  rw [hhandle]
  exact congrArg HandleSt.state (handleReads_setEntryHandle (s := busFreed s p n) 1 h)

theorem canBusError_told {s : State} {p : Nat} (k n : Nat) (hx : (port s p).state ∈ [1, 2]) :
    ∃ t, exec (.canBusError p k n) s = .next t ∧ t.md = s.md ∧ (port t p).rxErr = (port s p).rxErr + k ∧
      (port t p).txErr = (port s p).txErr ∧ (∀ j, j ≠ p → port t j = port s j) ∧
      (128 ≤ (port s p).rxErr + k → (port t p).state = 2 ∧ t.ev = (if (port s p).state = 2 then s.ev else
        recorded s n [(224, [w32 p, w32 (port s p).txErr, w32 ((port s p).rxErr + k)])])) := by
  have hx' : (port s p).state = 1 ∨ (port s p).state = 2 := by simpa using hx
  have hu : port (setPort (setPhase s n) p { port s p with rxErr := (port s p).rxErr + k }) p =
      { port s p with rxErr := (port s p).rxErr + k } := port_setPort_self ..
  obtain ⟨-, hother, hself⟩ := canErrorState_moved (setPort (setPhase s n) p { port s p with rxErr := (port s p).rxErr + k }) p
  refine ⟨_, congrArg Host.Outcome.next (if_pos hx'), by simp, ?_, ?_, fun j hj => ?_, fun h => ?_⟩
  · rw [hself, hu]
  · rw [hself, hu]
  · exact (hother j hj).trans (port_setPort_ne _ _ _ _ hj)
  · obtain h1 | h2 := hx'
    · rw [canErrorState_passive (by rw [hu]; exact h1) (.inr (by rw [hu]; exact h)), port_raise, port_setPort_self, hu,
        if_neg (by omega)]
      exact ⟨rfl, raise_behind rfl rfl _ _⟩
    · rw [canErrorState_stays (by rw [hu]; exact h2) (.inr (by rw [hu]; exact h)), hu, if_pos h2]
      exact ⟨h2, rfl⟩

theorem execCanRecoveryComplete_recovering {s : State} {p : Nat} (n : Nat) (h : (port s p).state = 4) :
    exec (.canRecoveryComplete p n) s = .next
      (raise (setPort (setPhase s n) p { port s p with state := 1, txErr := 0, rxErr := 0 }) 226 [w32 p]) :=
  congrArg Host.Outcome.next (if_pos h)

/-! ### Port commands (R474) -/

theorem hostPort_done {s u : State} {r : Req} {p code : Nat} (h : servedOutside s r (portObj p) = true)
    (hc : portCommand (touch s r) p code = (u, stDone)) :
    hostPort r p code s = sendChanges (wrote (reply u r (portObj p) stDone) (portObj p)) := by
  refine hostCommand_owner h ?_
  rw [hc]
  exact if_pos rfl

theorem portCommand_recover {s : State} {p : Nat} (r : Req) (hg : portGate s p = none) (h3 : (port s p).state = 3) :
    portCommand (touch s r) p 1 = (setPort (touch s r) p { port s p with state := 4 }, stDone) := by
  unfold portCommand
  rw [show portGate (touch s r) p = none from hg]
  exact if_pos h3

theorem portCommand_flush {s : State} {p : Nat} (r : Req) (hg : portGate s p = none) :
    portCommand (touch s r) p 2 = ((canDropWaiting (touch s r) p true false).1, stDone) ∧
    portCommand (touch s r) p 3 = ((canDropWaiting (touch s r) p false true).1, stDone) ∧
    portCommand (touch s r) p 4 = ((canDropWaiting (touch s r) p true true).1, stDone) := by
  unfold portCommand
  rw [show portGate (touch s r) p = none from hg]
  exact ⟨rfl, rfl, rfl⟩

/-- The answer DONE behind a port command changes nothing that the command left. -/
theorem hostPort_told {s u : State} {r : Req} {p code : Nat} (h : servedOutside s r (portObj p) = true)
    (hc : portCommand (touch s r) p code = (u, stDone)) (hnet : u.net = (touch s r).net) (hmd : u.md = s.md)
    (hev : u.ev = s.ev) : answers s (hostPort r p code s) r stDone ∧ (hostPort r p code s).md = s.md ∧
      (hostPort r p code s).ev = s.ev ∧ (hostPort r p code s).can = u.can := by
  rw [hostPort_done h hc]
  exact ⟨answers_of_reply (reply_net hnet ..), by simp [hmd], by simp [hev], by simp⟩

/-- The frames of a port that a flush of its FIFO, its launch list or both removes. -/
def flushedEntries (u : State) (p : Nat) (fifo launch : Bool) : List TxEntry :=
  ((if fifo then (port u p).fifo else []) ++ (if launch then (port u p).launch else [])).filter
    fun e => !isOnBus (port u p) e

/-- The port behind that flush. -/
def flushedPort (u : State) (p : Nat) (fifo launch : Bool) : PortSt :=
  { port u p with
    fifo := if fifo then (port u p).fifo.filter (isOnBus (port u p)) else (port u p).fifo
    launch := if launch then (port u p).launch.filter (isOnBus (port u p)) else (port u p).launch
    fifoFull := if fifo then false else (port u p).fifoFull
    listFull := if launch then false else (port u p).listFull }

theorem canDropWaiting_fst (u : State) (p : Nat) (fifo launch : Bool) : (canDropWaiting u p fifo launch).1 =
    handlesSet (setPort u p (flushedPort u p fifo launch)) (flushedEntries u p fifo launch) 6 := rfl

theorem canDropWaiting_effect (u : State) (p : Nat) (fifo launch : Bool) :
    (canDropWaiting u p fifo launch).1.net = u.net ∧ (canDropWaiting u p fifo launch).1.md = u.md ∧
    (canDropWaiting u p fifo launch).1.ev = u.ev ∧
    port (canDropWaiting u p fifo launch).1 p = flushedPort u p fifo launch ∧
    ∀ e ∈ flushedEntries u p fifo launch, e.slot = none →
      (handleReads (canDropWaiting u p fifo launch).1 e.req.handle).state = 6 := by
  obtain ⟨h, hh⟩ := handlesSet_eq (setPort u p (flushedPort u p fifo launch)) (flushedEntries u p fifo launch) 6
  refine ⟨?_, ?_, ?_, ?_, fun e he hs => state_handlesSet _ _ _ he hs⟩ <;> rw [canDropWaiting_fst, hh]
  · rfl
  · rfl
  · rfl
  · exact port_setPort_self ..

/-- A flush that a host writes is answered DONE, and leaves the port without the frames that it removes. -/
theorem hostPort_flushed {s : State} {r : Req} {p code : Nat} {fifo launch : Bool}
    (h : servedOutside s r (portObj p) = true)
    (hc : portCommand (touch s r) p code = ((canDropWaiting (touch s r) p fifo launch).1, stDone)) :
    answers s (hostPort r p code s) r stDone ∧ (hostPort r p code s).md = s.md ∧ (hostPort r p code s).ev = s.ev ∧
      port (hostPort r p code s) p = flushedPort s p fifo launch ∧
      ∀ e ∈ flushedEntries s p fifo launch, e.slot = none → (handleReads (hostPort r p code s) e.req.handle).state = 6 := by
  obtain ⟨hnet, hmd, hev, hp, hh⟩ := canDropWaiting_effect (touch s r) p fifo launch
  obtain ⟨ha, hmd', hev', hcan⟩ := hostPort_told h hc hnet hmd hev
  refine ⟨ha, hmd', hev', ?_, fun e he hs => ?_⟩
  · rw [port, hcan]
    exact hp
  · rw [handleReads, hcan]
    exact hh e he hs

theorem mem_flushedEntries {s : State} {p : Nat} {fifo launch : Bool} {e : TxEntry}
    (he : e ∈ (if fifo then (port s p).fifo else []) ++ (if launch then (port s p).launch else []))
    (hb : isOnBus (port s p) e = false) : e ∈ flushedEntries s p fifo launch :=
  List.mem_filter.mpr ⟨he, by simp [hb]⟩

theorem execCanReceiveSlotTimeout_due {s : State} {k : Nat} {d : SlotDef} (hd : slotDef (theImage s) k = some d)
    (ht : d.tx = false) (hp : (slotSt s k).tick + d.period ≤ s.time.tick) :
    exec (.canReceiveSlotTimeout k) s = .next (setSlot s k { slotSt s k with valid := false }) := by
  show execCanReceiveSlotTimeout k s = _
  unfold execCanReceiveSlotTimeout
  rw [hd]
  exact congrArg Host.Outcome.next (if_neg (by simpa [ht] using hp))

/-- Settles O52: a frame is counted and taken, entries leave and stay as the lemmas of this part say. -/
theorem canFramesListsAndErrors : Obligations.CanFramesListsAndErrors := by
  unfold Obligations.CanFramesListsAndErrors
  refine ⟨fun s f n k d hl hk hd => ?_, fun s f n k d hl hk hd => ?_, fun s f n hl hk => ?_, fun s k d hd htx hp => ?_,
    fun s h n p e hc he => sysCanCancel_told n hc he, fun s h n hc he => ?_, fun s p n e hs hx hb hlate hoff => ?_,
    fun s p n hlate => ?_, fun s p n hs hx hb => ?_, fun s p ns frac n e he => ?_, fun s p ns frac n e he => ?_,
    fun s p ns frac n e he hx hc hs => canTransmitEnd_error_told ns frac n he hx hc hs,
    fun s p k n hx => canBusError_told k n hx, fun s r p hs hg h3 => ?_, fun s p n h4 => ?_,
    fun s r p hs hg => ⟨?_, ?_, ?_⟩⟩
  · obtain ⟨hmd, -, hcan, hcount, l, hnoted⟩ := counted_effect s f n
    have hq : (counted s f n).can.q = s.can.q := congrArg (·.q) hcan
    have hfull : (counted s f n).can.qFull = s.can.qFull := congrArg (·.qFull) hcan
    obtain ⟨hmd', hlast, hslot, hroom, hover⟩ := takeFrame_queue_effect (counted s f n) k f hd
    have hev := (hnoted.takeFrame_queue k f hd).ev
    rw [hq] at hroom hover hev
    rw [hfull] at hev
    rw [frameRec_counted] at hlast hroom
    refine ⟨_, l, execCanFrameReceived_taken n hl hk, hmd'.trans hmd, hlast, hslot.trans (congrArg (·.slot) hcan),
      fun h => ?_, fun h => ?_, hev⟩
    · obtain ⟨hin, hsame⟩ := hroom h
      exact ⟨hin, by rw [hsame, hcount]⟩
    · obtain ⟨hin, hbump⟩ := hover h
      exact ⟨hin, by rw [hbump, hcount]⟩
  · obtain ⟨hmd, -, hcan, hcount, l, hnoted⟩ := counted_effect s f n
    obtain ⟨hmd', hq, hp, hslot⟩ := takeFrame_slot_effect (counted s f n) k f hd
    refine ⟨_, execCanFrameReceived_taken n hl hk, hmd'.trans hmd, hq.trans (congrArg (·.q) hcan), ?_, ?_⟩
    · rw [hslot, frameRec_counted, slotSt, hcan, hnoted.time]
      rfl
    · rw [port, hp]
      exact hcount
  · obtain ⟨hmd, -, hcan, hcount, -⟩ := counted_effect s f n
    refine ⟨_, execCanFrameReceived_unmatched n hl hk, hmd, congrArg (·.q) hcan, congrArg (·.slot) hcan, ?_⟩
    rw [port_canCount_self, hcount]
  · exact ⟨_, execCanReceiveSlotTimeout_due hd htx hp, rfl, rfl, slotSt_setSlot_self ..,
      fun j hj => slotSt_setSlot_ne _ _ _ _ hj⟩
  · exact ⟨_, execSysCanCancel_none n hc he, rfl, rfl, rfl, handleReads_setCancel ..⟩
  · have hexec := execCanSelectionPoint_free n hs hx hb
    rw [dropLate_none (s := setPhase s n) hlate] at hexec
    have hsel : selected (setPhase s n) p = busTaken (setPhase s n) p e := by
      rw [selected, show offered (setPhase s n) p (setPhase s n).time.phase = some e from hoff]
      rfl
    rw [hsel] at hexec
    refine ⟨_, hexec, by simp [busTaken], setEntryHandle_ev _ e 2, ?_, fun h => ?_⟩
    · rw [busTaken, port_setEntryHandle, port_setPort_self]
      rfl
    · rw [busTaken, handleReads_setEntryHandle _ h]
  · obtain ⟨hmd, hp, hh⟩ := dropLate_effect (s := setPhase s n) hlate
    exact ⟨_, execCanLaunchLate_eq s p n, hmd, congrArg (·.launch) hp, congrArg (·.fifo) hp, congrArg (·.counters) hp, hh,
      fun hn => dropLate_ev hlate hn⟩
  · obtain ⟨hmd, hf, hla, hc⟩ := selected_lists (dropLate (setPhase s n) p (isLate (setPhase s n) p)) p
    obtain ⟨hmd', hf', hla'⟩ := dropLate_lists (setPhase s n) p (isLate (setPhase s n) p)
    refine ⟨_, execCanSelectionPoint_free n hs hx hb, hmd.trans hmd', hf.trans hf', hla.trans hla', fun h => ?_⟩
    obtain ⟨-, hp, -⟩ := dropLate_effect (s := setPhase s n) h
    exact hc.trans (congrArg (·.counters) hp)
  · exact ⟨_, execCanTransmitEnd_sent ns frac n he, frameSent_told s p n e (canTxStamp s ns frac)⟩
  · exact ⟨_, execCanTransmitEnd_lost ns frac n he, canRetry_told s p n e⟩
  · obtain ⟨ha, hmd, hev, hcan⟩ := hostPort_told hs (portCommand_recover r hg h3) rfl rfl rfl
    refine ⟨_, rfl, ha, hmd, hev, ?_, fun j hj => ?_⟩
    · rw [port, hcan]
      exact port_setPort_self ..
    · rw [port, hcan]
      exact port_setPort_ne _ _ _ _ hj
  · refine ⟨_, execCanRecoveryComplete_recovering n h4, by simp, ?_, fun j hj => ?_, raise_setPort (u := setPhase s n) rfl rfl ..⟩
    · rw [port_raise, port_setPort_self]
    · rw [port_raise]
      exact port_setPort_ne _ _ _ _ hj
  · obtain ⟨ha, hmd, hev, hp, hh⟩ := hostPort_flushed hs (portCommand_flush r hg).1
    exact ⟨_, rfl, ha, hmd, hev, hp, fun e he h hb => hh e (mem_flushedEntries (by simpa using he) hb) h⟩
  · obtain ⟨ha, hmd, hev, hp, hh⟩ := hostPort_flushed hs (portCommand_flush r hg).2.1
    exact ⟨_, rfl, ha, hmd, hev, hp, fun e he h hb => hh e (mem_flushedEntries (by simpa using he) hb) h⟩
  · obtain ⟨ha, hmd, hev, hp, hh⟩ := hostPort_flushed hs (portCommand_flush r hg).2.2
    exact ⟨_, rfl, ha, hmd, hev, hp, fun e he h hb => hh e (mem_flushedEntries (by simpa using he) hb) h⟩

end Sys2Proof.Machine
end

section
/-! Measurements of the time master, the servo and jumps (R486 to R494). -/

namespace Sys2Proof.Machine

/-! ### Events in the servo's new state (R491) -/

/-- An event behind others of its instant, where the running time and its quality are those of s. -/
theorem raise_after {s u : State} {n : Nat} {evs : List (Nat × List W32)} (he : u.ev = recorded s n evs)
    (hns : u.time.ns = s.time.ns) (hp : u.time.phase = n) (hq : timeQuality u = timeQuality s) (ev : Nat) (arg : List W32) :
    (raise u ev arg).ev = recorded s n (evs ++ [(ev, arg)]) := by
  rw [raise_ev, hp]
  unfold recorded at he ⊢
  by_cases hr : s.ev.running = true
  · simp only [hr, if_true] at he ⊢
    simp [he, hns, hq]
  · simp only [hr] at he ⊢
    simp [he, hr]

/-! ### LAN ports -/

/-- The state of a LAN port. -/
def lan (s : State) (p : Nat) : LanSt := s.net.lan.getD p {}

theorem lan_lt_of_up {s : State} {p : Nat} (h : (lan s p).up = true) : p < s.net.lan.length := by
  by_contra hp
  rw [lan, List.getD_eq_default _ _ (by omega)] at h
  exact absurd h (by decide)

theorem getD_lset_self {l : List LanSt} {p : Nat} (h : p < l.length) (x : LanSt) : (lset l p x).getD p {} = x := by
  simp [lset, List.getD_eq_getElem?_getD, h]

theorem getD_lset_ne (l : List LanSt) {p q : Nat} (h : q ≠ p) (x : LanSt) : (lset l p x).getD q {} = l.getD q {} := by
  simp [lset, List.getD_eq_getElem?_getD, List.getElem?_set_ne (Ne.symm h)]

theorem lan_lanCount {s : State} {p : Nat} (h : p < s.net.lan.length) (i : Nat) :
    lan (lanCount s p i) p = { lan s p with counters := bump (lan s p).counters i } := getD_lset_self h _

/-! ### What a measurement is judged by (R488) -/

/-- A measurement behind the conditions under which PTP runs. -/
def ptpServed (u : State) (p : Nat) (gm : W64) (cls steps : Nat) (o : Int) : State :=
  if u.md.mode = .load ∧ !u.time.set then ptpInLoad u p gm cls steps o
  else if u.md.role = .standby then
    if ptpSelects u p gm cls then
      { u with time := { u.time with monitor := some o, port := p, gm := gm, gmClass := cls, steps := steps, offset := o } }
    else u
  else if u.time.servo = 3 ∧ u.time.ignored = some gm then
    let v := { u with time := { u.time with offset := o } }
    if o.natAbs ≤ 100 then slewDone { v with time := { v.time with port := p, gmClass := cls, steps := steps } } else v
  else if u.time.ignored = some gm || !ptpSelects u p gm cls then u
  else ptpFeeds u p gm cls steps o

theorem execPtpMeasurement_runs {s : State} {p : Nat} (gm : W64) (cls steps : Nat) (raw : Int) (n : Nat)
    (h : ptpRuns s p = true) : exec (.ptpMeasurement p gm cls steps raw n) s =
      .next (ptpServed (setPhase s n) p gm cls steps (ptpOffset s p raw)) := by
  simp only [ptpRuns, Bool.and_eq_true, decide_eq_true_eq] at h
  obtain ⟨⟨⟨⟨hpow, hprof⟩, hmode⟩, hp⟩, hup⟩ := h
  exact congrArg Host.Outcome.next (if_neg (by simp only [hpow, hprof, hmode, hp, hup]; decide))

theorem lan_of_ptpRuns {s : State} {p : Nat} (h : ptpRuns s p = true) : p - 1 < s.net.lan.length := by
  simp only [ptpRuns, Bool.and_eq_true] at h
  exact lan_lt_of_up h.2

/-- A measurement that counts goes to the servo or is beyond JUMP_NS (R494). -/
theorem execPtpMeasurement_counts {s : State} {p : Nat} {gm : W64} {cls : Nat} (steps : Nat) (raw : Int) (n : Nat)
    (h : ptpCounts s p gm cls = true) : exec (.ptpMeasurement p gm cls steps raw n) s = .next
      (if ptpBeyond s p gm (ptpOffset s p raw) then ptpOutlier (setPhase s n) p gm (ptpOffset s p raw)
       else ptpAccept (setPhase s n) p gm cls steps (ptpOffset s p raw)) := by
  simp only [ptpCounts, Bool.and_eq_true, Bool.or_eq_true, bne_iff_ne] at h
  obtain ⟨⟨⟨⟨hruns, hload⟩, hrole⟩, hign⟩, hsel⟩ := h
  rw [execPtpMeasurement_runs gm cls steps raw n hruns]
  have hrole' : ¬ (setPhase s n).md.role = .standby := hrole
  have hign' : ¬ (setPhase s n).time.ignored = some gm := hign
  have hsel' : ptpSelects (setPhase s n) p gm cls = true := hsel
  have hload' : ¬ ((setPhase s n).md.mode = .load ∧ (!(setPhase s n).time.set) = true) := fun ⟨hm, hs⟩ => by
    obtain h1 | h2 := hload
    · exact h1 hm
    · have : s.time.set = false := by simpa using hs
      simp [this] at h2
  refine congrArg Host.Outcome.next ((if_neg hload').trans ((if_neg hrole').trans ((if_neg fun hc => hign' hc.2).trans
    ((if_neg ?_).trans rfl))))
  rw [hsel', decide_eq_false hign']
  decide

/-! ### Outliers and jumps (R494) -/

/-- The measurements of one source beyond JUMP_NS with the present one. -/
def outlierNoted (s : State) (gm : W64) (n : Nat) : State :=
  { s with time := { s.time with phase := n, badRun := ptpBad s gm, badGm := gm } }

theorem ptpOutlier_eq (s : State) (p : Nat) (gm : W64) (o : Int) (n : Nat) : ptpOutlier (setPhase s n) p gm o =
    if 4 ≤ ptpBad s gm then ptpJump (outlierNoted s gm n) p gm o else lanCount (outlierNoted s gm n) (p - 1) 3 := rfl

theorem timeQuality_holdover (u : State) (x : TimeSt) (h : x.servo = 2) : timeQuality { u with time := x } = 1 := by
  simp [timeQuality, h]

/-- The servo in HOLDOVER from now on. -/
def inHoldover (u : State) : State :=
  { u with time := { u.time with
    servo := 2, holdFrom := u.time.tick, goodRun := 0, announced := if u.time.everLocked then 7 else 248 } }

theorem enterHoldover_eq (u : State) (why : Nat) : enterHoldover u why =
    if u.time.servo = 2 then u else raise (inHoldover u) 233 [Config.argCode 233 why] := rfl

theorem timeQuality_inHoldover {u : State} (s : State) (h : u.time.servo = 2) : timeQuality u = timeQuality (servoAs s 2) := by
  simp [timeQuality, servoAs, h]

/-- The servo enters HOLDOVER; what it tells is stamped in that state. -/
theorem enterHoldover_effect {s u : State} {n : Nat} (he : u.ev = s.ev) (ht : u.time.ns = s.time.ns) (hp : u.time.phase = n)
    (why : Nat) : (enterHoldover u why).net = u.net ∧ (enterHoldover u why).time.servo = 2 ∧
      (enterHoldover u why).time.ns = u.time.ns ∧ (enterHoldover u why).time.tick = u.time.tick ∧
      (enterHoldover u why).time.phase = n ∧ (enterHoldover u why).time.port = u.time.port ∧
      (u.time.servo ≠ 2 → (enterHoldover u why).time.holdFrom = u.time.tick) ∧
      (enterHoldover u why).ev = recorded (servoAs s 2) n (if u.time.servo = 2 then [] else [(233, [Config.argCode 233 why])]) := by
  have hev : u.ev = recorded (servoAs s 2) n [] := he.trans (recorded_nil (servoAs s 2) n).symm
  rw [enterHoldover_eq]
  split
  case isTrue h2 => exact ⟨rfl, h2, rfl, rfl, hp, rfl, fun h => absurd h2 h, hev⟩
  case isFalse h2 =>
    have hraise := raise_after (s := servoAs s 2) (u := inHoldover u) hev ht hp (timeQuality_inHoldover s rfl) 233
      [Config.argCode 233 why]
    refine ⟨?_, ?_, ?_, ?_, ?_, ?_, fun _ => ?_, hraise⟩ <;> simp [inHoldover, hp]

/-- The source of a jump is ignored, and JUMP is set. -/
def jumpNoted (u : State) (gm : W64) (o : Int) : State :=
  { u with time := { u.time with
    jump := true, refused := o, ignored := some gm, rejected := false, badRun := 0, port := 0, goodRun := 0 } }

theorem ptpJump_eq (u : State) (p : Nat) (gm : W64) (o : Int) : ptpJump u p gm o =
    raise (jumpNoted (lanCount (enterHoldover u 1) (p - 1) 4) gm o) 234 (wOffset o ++ w64 gm.toNat) := rfl

theorem ptpJump_effect {s u : State} {n p : Nat} (gm : W64) (o : Int) (he : u.ev = s.ev) (ht : u.time.ns = s.time.ns)
    (hph : u.time.phase = n) (hl : p - 1 < u.net.lan.length) : (ptpJump u p gm o).time.servo = 2 ∧
      (ptpJump u p gm o).time.jump = true ∧ (ptpJump u p gm o).time.refused = o ∧
      (ptpJump u p gm o).time.ignored = some gm ∧ (ptpJump u p gm o).time.tick = u.time.tick ∧
      (ptpJump u p gm o).time.ns = u.time.ns ∧
      (lan (ptpJump u p gm o) (p - 1)).counters = bump (lan u (p - 1)).counters 4 ∧
      (ptpJump u p gm o).ev = recorded (servoAs s 2) n
        ((if u.time.servo = 2 then [] else [(233, [Config.argCode 233 1])]) ++ [(234, wOffset o ++ w64 gm.toNat)]) := by
  obtain ⟨hnet, hservo, hns, htick, hphase, -, -, hev⟩ := enterHoldover_effect he ht hph 1
  generalize hw : enterHoldover u 1 = w at hnet hservo hns htick hphase hev
  have hlan : lan (lanCount w (p - 1) 4) (p - 1) = { lan u (p - 1) with counters := bump (lan u (p - 1)).counters 4 } := by
    rw [lan_lanCount (by rwa [hnet]), lan, hnet]
    rfl
  have hraise := raise_after (s := servoAs s 2) (u := jumpNoted (lanCount w (p - 1) 4) gm o) hev (hns.trans ht) hphase
    (timeQuality_inHoldover s hservo) 234 (wOffset o ++ w64 gm.toNat)
  rw [ptpJump_eq, hw]
  refine ⟨?_, ?_, ?_, ?_, ?_, ?_, ?_, hraise⟩
  · simpa [jumpNoted] using hservo
  · simp [jumpNoted]
  · simp [jumpNoted]
  · simp [jumpNoted]
  · simpa [jumpNoted] using htick
  · simpa [jumpNoted] using hns
  · rw [lan, show (raise (jumpNoted (lanCount w (p - 1) 4) gm o) 234 (wOffset o ++ w64 gm.toNat)).net.lan =
      (lanCount w (p - 1) 4).net.lan by simp [jumpNoted]]
    exact congrArg LanSt.counters hlan

/-! ### Measurements that feed the servo (R491, R494) -/

/-- The time behind a change of master. -/
def changedTime (u : State) (gm : W64) : TimeSt :=
  if ptpChange u gm then { u.time with jump := false, ignored := none, goodRun := 0 } else u.time

/-- A change of master, told with EV235. -/
def masterTaken (u : State) (gm : W64) : State :=
  let v := { u with time := changedTime u gm }
  if ptpChange u gm then raise v 235 (w64 gm.toNat) else v

/-- The servo fed with an offset. -/
def servoFed (v : State) (p : Nat) (gm : W64) (cls steps : Nat) (o : Int) : State :=
  { v with time := { v.time with
    port := p, slavePort := p, gm := gm, gmClass := cls, steps := steps, offset := o
    badRun := if v.time.badGm = gm then 0 else v.time.badRun
    goodRun := if o.natAbs ≤ 100 then v.time.goodRun + 1 else 0 } }

/-- A servo that is LOCKED announces its master's class. -/
def announcing (v : State) (cls : Nat) : State :=
  if v.time.servo = 1 then { v with time := { v.time with announced := cls } } else v

theorem ptpChange_iff {u : State} {gm : W64} : ptpChange u gm = true ↔ u.time.gm ≠ gm ∨ u.time.ignored.isSome := by
  simp [ptpChange]

theorem ptpAccept_eq (u : State) (p : Nat) (gm : W64) (cls steps : Nat) (o : Int) : ptpAccept u p gm cls steps o =
    announcing (ptpLock (servoFed (masterTaken u gm) p gm cls steps o) p o) cls := by
  unfold ptpAccept masterTaken changedTime
  dsimp only
  by_cases h : ptpChange u gm = true
  · rw [if_pos (ptpChange_iff.mp h), if_pos h, if_pos h]
    rfl
  · rw [if_neg fun hc => h (ptpChange_iff.mpr hc), if_neg h, if_neg h]
    rfl

/-- The servo reaches LOCKED. -/
def lockedAs (v : State) : State := { v with time := { v.time with servo := 1, everLocked := true } }

theorem ptpLock_eq (v : State) (p : Nat) (o : Int) : ptpLock v p o =
    if 16 ≤ v.time.goodRun ∧ v.time.servo ≠ 1 then raise (lockedAs v) 232 (w32 p :: wOffset o) else v := rfl

/-- What a measurement that is accepted leaves of the time before the lock. -/
def fedTime (s : State) (p : Nat) (gm : W64) (cls steps : Nat) (o : Int) (n : Nat) : TimeSt :=
  { changedTime s gm with
    phase := n, port := p, slavePort := p, gm := gm, gmClass := cls, steps := steps, offset := o
    badRun := if s.time.badGm = gm then 0 else s.time.badRun, goodRun := ptpGood s gm o }

theorem changedTime_rest (s : State) (gm : W64) : (changedTime s gm).tick = s.time.tick ∧
    (changedTime s gm).ns = s.time.ns ∧ (changedTime s gm).servo = s.time.servo ∧
    (changedTime s gm).everLocked = s.time.everLocked ∧ (changedTime s gm).badGm = s.time.badGm ∧
    (changedTime s gm).badRun = s.time.badRun ∧
    (changedTime s gm).goodRun = (if ptpChange s gm then 0 else s.time.goodRun) ∧
    (ptpChange s gm = true → (changedTime s gm).jump = false ∧ (changedTime s gm).ignored = none) := by
  unfold changedTime
  cases ptpChange s gm with
  | true => exact ⟨rfl, rfl, rfl, rfl, rfl, rfl, rfl, fun _ => ⟨rfl, rfl⟩⟩
  | false => exact ⟨rfl, rfl, rfl, rfl, rfl, rfl, rfl, nofun⟩

theorem masterTaken_effect (s : State) (gm : W64) (n : Nat) : (masterTaken (setPhase s n) gm).md = s.md ∧
    (masterTaken (setPhase s n) gm).net = s.net ∧
    (masterTaken (setPhase s n) gm).time = { changedTime s gm with phase := n } ∧
    (masterTaken (setPhase s n) gm).ev = recorded s n (if ptpChange s gm then [(235, w64 gm.toNat)] else []) := by
  unfold masterTaken changedTime
  rw [show ptpChange (setPhase s n) gm = ptpChange s gm from rfl]
  cases ptpChange s gm with
  | true =>
    refine ⟨by simp, by simp, by simp, ?_⟩
    simp [recorded]
    rfl
  | false => exact ⟨rfl, rfl, rfl, (recorded_nil s n).symm⟩

theorem servoFed_effect (s : State) (p : Nat) (gm : W64) (cls steps : Nat) (o : Int) (n : Nat) :
    let v := servoFed (masterTaken (setPhase s n) gm) p gm cls steps o
    v.md = s.md ∧ v.net = s.net ∧ v.time = fedTime s p gm cls steps o n ∧
      v.ev = recorded s n (if ptpChange s gm then [(235, w64 gm.toNat)] else []) := by
  obtain ⟨hmd, hnet, htime, hev⟩ := masterTaken_effect s gm n
  obtain ⟨-, -, -, -, hbad, hrun, hgood, -⟩ := changedTime_rest s gm
  refine ⟨hmd, hnet, ?_, hev⟩
  rw [servoFed, htime]
  simp only [fedTime, ptpGood, hbad, hrun, hgood]

theorem announcing_eq (v : State) (cls : Nat) :
    ∃ a, announcing v cls = { v with time := { v.time with announced := a } } := by
  unfold announcing
  split
  · exact ⟨cls, rfl⟩
  · exact ⟨v.time.announced, rfl⟩

/-- A new master's first good measurement is one of the 16 that lock the servo. -/
theorem ptpGood_of_change {s : State} {gm : W64} (o : Int) (h : ptpChange s gm = true) : ptpGood s gm o < 16 := by
  unfold ptpGood
  rw [if_pos h]
  split <;> decide

/-- The lock comes with the 16th good measurement, and EV232 with it unless the servo was LOCKED. -/
theorem ptpLock_effect (s : State) (p : Nat) (gm : W64) (cls steps : Nat) (o : Int) (n : Nat) :
    let w := ptpLock (servoFed (masterTaken (setPhase s n) gm) p gm cls steps o) p o
    w.md = s.md ∧ w.net = s.net ∧ (∃ l, w.time = { fedTime s p gm cls steps o n with
        servo := if 16 ≤ ptpGood s gm o then 1 else s.time.servo, everLocked := l }) ∧
      w.ev = (if ptpChange s gm then recorded s n [(235, w64 gm.toNat)]
        else if 16 ≤ ptpGood s gm o ∧ s.time.servo ≠ 1 then recorded (servoAs s 1) n [(232, w32 p :: wOffset o)]
        else s.ev) := by
  obtain ⟨hmd, hnet, htime, hev⟩ := servoFed_effect s p gm cls steps o n
  obtain ⟨-, hns, hservo, hlocked, -⟩ := changedTime_rest s gm
  dsimp only
  generalize servoFed (masterTaken (setPhase s n) gm) p gm cls steps o = v at hmd hnet htime hev ⊢
  have hgood : v.time.goodRun = ptpGood s gm o := by rw [htime]; rfl
  have hs : v.time.servo = s.time.servo := by rw [htime]; exact hservo
  rw [ptpLock_eq, hgood, hs]
  by_cases hl : 16 ≤ ptpGood s gm o ∧ s.time.servo ≠ 1
  · have hch : ptpChange s gm = false := by
      cases hc : ptpChange s gm with
      | true => exact absurd hl.1 (Nat.not_le.mpr (ptpGood_of_change o hc))
      | false => rfl
    rw [hch] at hev
    have hraise := raise_after (s := servoAs s 1) (u := lockedAs v) (n := n) (evs := []) hev
      (by rw [lockedAs, htime]; exact hns) (by rw [lockedAs, htime]; rfl) rfl 232 (w32 p :: wOffset o)
    rw [if_pos hl, if_pos hl, hch]
    refine ⟨by simp [lockedAs, hmd], by simp [lockedAs, hnet], ⟨true, ?_⟩, hraise⟩
    rw [if_pos hl.1]
    simp [lockedAs, htime]
  · rw [if_neg hl, if_neg hl]
    refine ⟨hmd, hnet, ⟨s.time.everLocked, ?_⟩, hev.trans ?_⟩
    · rw [htime, fedTime, hservo, hlocked]
      by_cases h16 : 16 ≤ ptpGood s gm o
      · have h1 : s.time.servo = 1 := by_contra fun h1 => hl ⟨h16, h1⟩
        rw [if_pos h16, h1]
      · rw [if_neg h16]
    · cases ptpChange s gm with
      | true => rfl
      | false => exact recorded_nil s n

/-! ### Vessel time in LOAD (R492) -/

/-- The measurement noted for its master. -/
def masterMeasured (u : State) (p : Nat) (gm : W64) : State :=
  { u with time := { u.time with seen := u.time.seen ++ [(gm, p, 1)] } }

/-- Vessel time set from a master. -/
def timeSet (u : State) (p : Nat) (gm : W64) (cls steps : Nat) (o : Int) : State :=
  let v := setInstant u ((vtime u : Int) - o).toNat
  { v with time := { v.time with
    set := true, port := p, slavePort := p, gm := gm, gmClass := cls, steps := steps, offset := 0 } }

theorem ptpInLoad_eq (u : State) (p : Nat) (gm : W64) (cls steps : Nat) (o : Int) : ptpInLoad u p gm cls steps o =
    if 3 ≤ ((u.time.seen.filter fun e => e.1 == gm).map fun e => e.2.2).sum then timeSet (masterMeasured u p gm) p gm cls steps o
    else masterMeasured u p gm := by
  unfold ptpInLoad
  rw [List.sum_eq_foldl]
  dsimp only
  split
  · exact (if_neg (by omega)).symm
  · exact (if_pos (by omega)).symm

theorem timeSet_effect (u : State) (p : Nat) (gm : W64) (cls steps : Nat) (o : Int) :
    let t := timeSet u p gm cls steps o
    t.md.mode = u.md.mode ∧ t.ev.intake = u.ev.intake ∧ t.time.set = true ∧ t.time.gm = gm ∧ t.time.port = p ∧
      t.time.tick = t.time.ns / tickNs ∧ t.time.ns + t.time.phase = ((vtime u : Int) - o).toNat :=
  ⟨rfl, rfl, rfl, rfl, rfl, rfl, Nat.div_add_mod' _ _⟩

theorem execPtpMeasurement_load {s : State} {p : Nat} (gm : W64) (cls steps : Nat) (raw : Int) (n : Nat)
    (h : ptpRuns s p = true) (hm : s.md.mode = .load) (hs : s.time.set = false) :
    exec (.ptpMeasurement p gm cls steps raw n) s = .next (ptpInLoad (setPhase s n) p gm cls steps (ptpOffset s p raw)) := by
  rw [execPtpMeasurement_runs gm cls steps raw n h]
  have hs' : (!(setPhase s n).time.set) = true := by
    rw [show (setPhase s n).time.set = s.time.set from rfl, hs]
    rfl
  exact congrArg Host.Outcome.next (if_pos ⟨hm, hs'⟩)

/-! ### A standby's monitor, a lost master, the class of a holdover (R487, R491, R497) -/

theorem execPtpMeasurement_standby {s : State} {p : Nat} {gm : W64} {cls : Nat} (steps : Nat) (raw : Int) (n : Nat)
    (h : ptpRuns s p = true) (hr : s.md.role = .standby) (hm : s.md.mode ≠ .load) (hsel : ptpSelects s p gm cls = true) :
    exec (.ptpMeasurement p gm cls steps raw n) s = .next { s with time := { s.time with
      phase := n, monitor := some (ptpOffset s p raw), port := p, gm := gm, gmClass := cls, steps := steps
      offset := ptpOffset s p raw } } := by
  rw [execPtpMeasurement_runs gm cls steps raw n h]
  exact congrArg Host.Outcome.next ((if_neg fun hc => hm hc.1).trans ((if_pos hr).trans (if_pos hsel)))

/-- The slave port without its master. -/
def masterLost (s : State) (n : Nat) : State := { s with time := { s.time with phase := n, port := 0 } }

theorem execAnnounceTimeout_slave {s : State} (n : Nat) (hp : s.md.powered = true)
    (hm : s.md.mode = .load ∨ evaluates s.md.mode = true) (h0 : s.time.port ≠ 0) : exec (.announceTimeout n) s = .next
      (if s.md.role ≠ .standby ∧ s.time.servo ∈ [0, 1] then enterHoldover (masterLost s n) 0 else masterLost s n) := by
  have hm' : (s.md.mode == .load || evaluates s.md.mode) = true := by simpa using hm
  have hiff : (s.md.role != .standby && (s.time.servo == 0 || s.time.servo == 1)) = true ↔
      s.md.role ≠ .standby ∧ s.time.servo ∈ [0, 1] := by simp
  refine congrArg Host.Outcome.next ((if_neg (by simp [hp, hm', h0])).trans ?_)
  exact if_congr hiff rfl rfl

/-- A lost master is HOLDOVER where the servo follows one, on a module that keeps its own time. -/
theorem announceTimeout_told (s : State) (n : Nat) : let t :=
      if s.md.role ≠ .standby ∧ s.time.servo ∈ [0, 1] then enterHoldover (masterLost s n) 0 else masterLost s n
    t.md = s.md ∧ t.time.port = 0 ∧ t.time.ns = s.time.ns ∧
      (s.md.role ≠ .standby → s.time.servo ∈ [0, 1] → t.time.servo = 2 ∧ t.time.holdFrom = s.time.tick ∧
        t.ev = recorded (servoAs s 2) n [(233, [Config.argCode 233 0])]) ∧
      (s.md.role = .standby ∨ s.time.servo ∉ [0, 1] → t.time.servo = s.time.servo ∧ t.ev = s.ev) := by
  obtain ⟨-, hservo, hns, -, -, hport, hhold, hev⟩ :=
    enterHoldover_effect (s := s) (u := masterLost s n) rfl rfl rfl 0
  dsimp only
  split
  case isTrue h =>
    have h2 : (masterLost s n).time.servo ≠ 2 := fun h2 => by
      have hin : (masterLost s n).time.servo ∈ [0, 1] := h.2
      rw [h2] at hin
      simp at hin
    rw [if_neg h2] at hev
    exact ⟨by simp [masterLost], hport, hns, fun _ _ => ⟨hservo, hhold h2, hev⟩,
      fun hc => (hc.elim h.1 fun hn => hn h.2).elim⟩
  case isFalse h => exact ⟨rfl, rfl, rfl, fun hr hs => absurd ⟨hr, hs⟩ h, fun _ => ⟨rfl, rfl⟩⟩

theorem execHoldoverClockClassChange_hour {s : State} (n : Nat) (hp : s.md.powered = true) (h2 : s.time.servo = 2)
    (hc : (netNow s).clock = 1) (hh : s.time.holdFrom + 28800000 ≤ s.time.tick) :
    exec (.holdoverClockClassChange n) s = .next { s with time := { s.time with phase := n, announced := 248 } } :=
  congrArg Host.Outcome.next (if_pos (by simp [hp, h2, hc, hh]))

end Sys2Proof.Machine
end

section
/-! Time commands (R495, R496). -/

namespace Sys2Proof.Machine

/-- A served time command that no other keeps busy reaches its owner, in its mode and range (R78). -/
theorem timeCommand_pass {s : State} {r : Req} {whileBusy : Bool} {mode range : State → Bool} {k : State → State}
    (h : timeServed s r = true) (hb : whileBusy = true ∨ timeBusy s = false) (hm : mode (touch s r) = false)
    (hr : range (touch s r) = false) :
    timeCommand r whileBusy mode range k s = sendChanges (wrote (k (touch s r)) timeObj) := by
  simp only [timeServed, Bool.and_eq_true] at h
  obtain ⟨hs, hc⟩ := h
  have hb' : ¬ (!whileBusy && timeBusy (touch s r)) = true := by
    rw [show timeBusy (touch s r) = timeBusy s from rfl]
    obtain h1 | h2 := hb
    · simp [h1]
    · simp [h2]
  have hc' : ¬ (!inControl (touch s r)) = true := by
    rw [show inControl (touch s r) = inControl s from rfl, hc]
    decide
  exact hostCommand_owner hs ((if_neg hb').trans ((if_neg hc').trans ((if_neg (by simp [hm])).trans (if_neg (by simp [hr])))))

/-- An accepted slew (R495). -/
def slewAccepted (s : State) (r : Req) (rate : Nat) : State :=
  { reply (touch s r) r timeObj stAccepted with time := { s.time with
    phase := r.at_, servo := 3, jump := false, slewLeft := 8 * s.time.refused, slewRate := rate
    slewFrom := s.time.ns + r.at_, slewOrigin := some (originOf s r), goodRun := 0 } }

theorem execTimeSlew_accepted {s : State} {r : Req} {rate : Nat} (h : timeServed s r = true) (hb : timeBusy s = false)
    (ho : timeOpen s = true) (hm : evaluates s.md.mode = true) (h1 : 1 ≤ rate) (h100 : rate ≤ 100) :
    exec (.timeSlew r rate) s = .next (sendChanges (wrote (slewAccepted s r rate) timeObj)) := by
  have ho' : timeOpen (touch s r) = true := ho
  have hrate : (rate == 0 || decide (100 < rate)) = false := by
    rw [beq_false_of_ne (by omega), decide_eq_false (by omega)]
    rfl
  refine congrArg Host.Outcome.next ((timeCommand_pass h (.inr hb) (by simp [hm, ho']) hrate).trans ?_)
  simp only [originOf_touch, vtime, reply_time]
  rfl

/-- An accepted step waits for the next boundary, and the standby is told (R496, R497). -/
def stepAccepted (s : State) (r : Req) : State :=
  { sendMortar (reply (touch s r) r timeObj stAccepted) (.step s.time.refused) with time := { s.time with
    phase := r.at_, stepDue := some (s.time.refused, some (originOf s r)) } }

theorem execTimeStep_accepted {s : State} {r : Req} (h : timeServed s r = true) (hb : timeBusy s = false)
    (ho : timeOpen s = true) (hm : s.md.mode = .stop) :
    exec (.timeStep r) s = .next (sendChanges (wrote (stepAccepted s r) timeObj)) := by
  have ho' : timeOpen (touch s r) = true := ho
  refine congrArg Host.Outcome.next ((timeCommand_pass h (.inr hb) (by simp [hm, ho']) rfl).trans ?_)
  simp only [originOf_touch, sendMortar_time, reply_time]
  rfl

theorem execTimeReject_jump {s : State} {r : Req} (h : timeServed s r = true) (hb : timeBusy s = false)
    (hj : s.time.jump = true) : exec (.timeReject r) s = .next (sendChanges (wrote (reply
      { touch s r with time := { s.time with phase := r.at_, jump := false, rejected := true } } r timeObj stDone) timeObj)) :=
  congrArg Host.Outcome.next (timeCommand_pass h (.inr hb) (by rw [show (touch s r).time.jump = true from hj]; rfl) rfl)

/-- The slew ends where it stands (R495). -/
def slewHalted (s : State) (r : Req) : State :=
  { touch s r with time := { s.time with
    phase := r.at_, servo := 2, jump := true, refused := s.time.slewLeft / 8, slewLeft := 0, slewOrigin := none
    holdFrom := s.time.tick } }

theorem execHaltSlew_slewing {s : State} {r : Req} (h : timeServed s r = true) (h3 : s.time.servo = 3) :
    exec (.haltSlew r) s = .next (sendChanges (wrote
      (reply (completeOpt (slewHalted s r) s.time.slewOrigin (Config.finalCode 0x6002 0)) r timeObj stDone) timeObj)) :=
  congrArg Host.Outcome.next (timeCommand_pass h (.inl rfl) (by rw [show (touch s r).time.servo = 3 from h3]; rfl) rfl)

theorem time_answered (u : State) (o : W32) : (sendChanges (wrote u o)).time = u.time := by
  obtain ⟨ms, lo, lf, k, n, h⟩ := sendChanges_sent (wrote u o)
  rw [h]
  rfl

/-- What has left behind a message behind the outbox of s stands behind it, with mortar between (R499). -/
theorem sendChanges_answer {s u : State} {l : List Mortar} {m : OutMsg} {w : List OutMsg} {o : W32}
    (h : u.net.outbox = l.map OutMsg.mortar ++ m :: (w ++ s.net.outbox)) :
    ∃ ms : List Mortar, (sendChanges (wrote u o)).net.outbox = ms.map OutMsg.mortar ++ m :: (w ++ s.net.outbox) := by
  obtain ⟨ms, hms⟩ := sendChanges_outbox (wrote u o)
  refine ⟨ms ++ l, hms.trans ?_⟩
  rw [wrote_outbox, h, List.map_append, List.append_assoc]

theorem stepAccepted_acceptedFor (s : State) (r : Req) :
    acceptedFor s (sendChanges (wrote (stepAccepted s r) timeObj)) r timeObj := by
  obtain ⟨ms, lo, lf, k, h⟩ := sendMortarAt_eq 4 (reply (touch s r) r timeObj stAccepted) (.step s.time.refused)
  refine ⟨sendChanges_answer (w := []) (l := ms) ?_, ?_⟩
  · show (sendMortar _ _).net.outbox = _
    rw [sendMortar, h, reply_eq]
    rfl
  · rw [sess_sendChanges]
    show (tget {} (sendMortar _ _).net.sess r.session).waiting = _
    rw [sendMortar_sessions, reply_eq]
    simp [sess]

theorem stepAccepted_tells {s : State} {r : Req} (h : s.md.role = .active) :
    OutMsg.mortar (.step s.time.refused) ∈ (sendChanges (wrote (stepAccepted s r) timeObj)).net.outbox := by
  obtain ⟨ms, hms⟩ := sendChanges_outbox (wrote (stepAccepted s r) timeObj)
  rw [hms]
  refine List.mem_append_right _ ?_
  show OutMsg.mortar _ ∈ (sendMortarAt 4 (reply (touch s r) r timeObj stAccepted) (.step s.time.refused)).net.outbox
  have hr : ((reply (touch s r) r timeObj stAccepted).md.role == .active) = true := by simp [h]
  rw [sendMortarAt, if_pos hr]
  exact mem_linkMortar _ _

/-- A message on a session changes nothing of what it waits for. -/
theorem isOutstanding_touch (s : State) (r : Req) (o : Origin) (obj : W32) :
    isOutstanding (touch s r) o obj = isOutstanding s o obj := by
  unfold isOutstanding
  by_cases h : o.session = r.session
  · rw [h, sess_touch]
    rfl
  · rw [show sess (touch s r) o.session = sess s o.session from tget_tset_ne _ _ _ _ _ h]
    rfl

/-- The slew's request completes ahead of the answer to HALT_SLEW. -/
theorem slewHalted_outbox (s : State) (r : Req) : ∃ (ms : List Mortar) (u : List OutMsg),
    (sendChanges (wrote (reply (completeOpt (slewHalted s r) s.time.slewOrigin (Config.finalCode 0x6002 0)) r timeObj stDone)
      timeObj)).net.outbox = ms.map OutMsg.mortar ++ OutMsg.response r.session r.seq stDone [] :: (u ++ s.net.outbox) ∧
    (∀ o, s.time.slewOrigin = some o → isOutstanding s o timeObj = true →
      u = [OutMsg.completion o.session o.seq timeObj (Config.finalCode 0x6002 0)]) := by
  obtain ⟨u, hu⟩ := completeOpt_outbox (slewHalted s r) s.time.slewOrigin (Config.finalCode 0x6002 0)
  obtain ⟨ms, hms⟩ := sendChanges_answer (s := s) (o := timeObj) (l := []) (m := .response r.session r.seq stDone []) (w := u)
    (u := reply (completeOpt (slewHalted s r) s.time.slewOrigin (Config.finalCode 0x6002 0)) r timeObj stDone)
    (by rw [reply_eq]; exact congrArg _ hu)
  refine ⟨ms, u, hms, fun o ho hout => ?_⟩
  have hout' : isOutstanding (slewHalted s r) o timeObj = true :=
    (isOutstanding_net (u := slewHalted s r) (s := touch s r) rfl o timeObj).trans ((isOutstanding_touch ..).trans hout)
  rw [ho, show completeOpt (slewHalted s r) (some o) (Config.finalCode 0x6002 0) = complete (slewHalted s r) o _ from rfl,
    complete_outstanding _ hout'] at hu
  exact (List.append_cancel_right (as := [_]) hu).symm

end Sys2Proof.Machine
end

section
/-! LAN links, the role address and PRP peers (R481, R484, R485). -/

namespace Sys2Proof.Machine

/-! ### What an end of sessions leaves of the ports -/

theorem sendMortar_lan (s : State) (m : Mortar) : (sendMortar s m).net.lan = s.net.lan := by
  obtain ⟨ms, lo, lf, k, h⟩ := sendMortarAt_eq 4 s m
  rw [sendMortar, h]
  rfl

theorem completeOne_lan (s : State) (o : Origin) (st : Nat) : (completeOne s o st).net.lan = s.net.lan := by
  unfold completeOne
  dsimp only
  (repeat' split) <;> rfl

theorem completeOpt_lan (s : State) (o : Option Origin) (st : Nat) : (completeOpt s o st).net.lan = s.net.lan := by
  unfold completeOpt complete
  split
  · split
    · exact completeOne_lan ..
    · dsimp only
      split
      · rfl
      · exact completeOne_lan ..
  · rfl

theorem ticketEnd_lan (s : State) (k status reason : Nat) : (ticketEnd s k status reason).net.lan = s.net.lan := by
  unfold ticketEnd
  extract_lets x s1 s2 s3 s4
  have h2 : s2.net = s.net := by
    unfold s2
    split
    · simp [s1]
    · rfl
  have h3 : s3.net = s2.net := by unfold s3; split_ifs <;> simp
  rw [completeOpt_lan, show s4.net.lan = s3.net.lan from sendMortar_lan .., h3, h2]

theorem endSessions_lan (s : State) (p : Nat → SessSt → Bool) : (endSessions s p).net.lan = s.net.lan := by
  unfold endSessions
  refine foldl_inv (P := fun v => v.net.lan = s.net.lan) _ _ _ rfl fun v e hv => ?_
  split
  · exact (ticketEnd_lan ..).trans hv
  · exact hv

theorem netNow_endSessions (s : State) (p : Nat → SessSt → Bool) : netNow (endSessions s p) = netNow s := by
  have hsel : (endSessions s p).kiln.selected = s.kiln.selected := congrArg (·.selected) (endSessions_quotesApart s p)
  have him : (endSessions s p).kiln.image = s.kiln.image := congrArg (·.image) (endSessions_quotesApart s p)
  rw [netNow, theImage, hsel, him]
  rfl

/-! ### Links (R485) -/

/-- A link that goes down, told with EV236. -/
def linkDown (s : State) (p n : Nat) : State :=
  raise { setPhase s n with net := { s.net with lan := lset s.net.lan p { lan s p with up := false, speed := 0 } } } 236 [w32 p]

/-- Both LANs are down: plant sessions end, and the master is lost. -/
def plantLost (v : State) : State :=
  let w := endSessions v fun _ x => x.iface == 0
  { w with time := { w.time with port := 0 } }

/-- The servo of a module that keeps its own time loses PTP with it. -/
def ptpLost (w : State) : State :=
  if w.md.role != .standby && (w.time.servo == 0 || w.time.servo == 1) && decide ((netNow w).profile ≠ 0) then
    enterHoldover w 2 else w

theorem linkDown_effect {s : State} {p : Nat} (n : Nat) (h : (lan s p).up = true) : (linkDown s p n).md = s.md ∧
    (lan (linkDown s p n) p).up = false ∧ (∀ q, q ≠ p → lan (linkDown s p n) q = lan s q) ∧
    (linkDown s p n).net.sess = s.net.sess ∧ (linkDown s p n).time = { s.time with phase := n } ∧
    (linkDown s p n).kiln = s.kiln ∧ (linkDown s p n).ev = recorded s n [(236, [w32 p])] := by
  have hlan : (linkDown s p n).net.lan = lset s.net.lan p { lan s p with up := false, speed := 0 } := by simp [linkDown]
  refine ⟨by simp [linkDown], ?_, fun q hq => ?_, by simp [linkDown], by simp [linkDown], by simp [linkDown],
    raise_behind rfl rfl _ _⟩
  · rw [lan, hlan, getD_lset_self (lan_lt_of_up h)]
  · rw [lan, hlan, getD_lset_ne _ hq]
    rfl

theorem execLanLinkDown_up {s : State} {p : Nat} (n : Nat) (hp : s.md.powered = true) (h2 : p ≤ 2)
    (hu : (lan s p).up = true) : exec (.lanLinkDown p n) s = .next
      (if (lan (linkDown s p n) 0).up || (lan (linkDown s p n) 1).up || decide (p = 2) then linkDown s p n
       else ptpLost (plantLost (linkDown s p n))) := by
  have hu' : (s.net.lan.getD p {}).up = true := hu
  refine congrArg Host.Outcome.next ((if_neg ?_).trans ?_)
  · rw [hp, hu', decide_eq_false (by omega)]
    decide
  · simp only [Bool.or_eq_true, decide_eq_true_eq]
    rfl

/-- A LAN stands as long as one of its ports is up; the service port has no partner. -/
theorem linkDown_stands {s : State} {p : Nat} (n : Nat) (h2 : p ≤ 2) (hu : (lan s p).up = true) :
    ((lan (linkDown s p n) 0).up || (lan (linkDown s p n) 1).up || decide (p = 2)) = true ↔
      p = 2 ∨ (lan s (1 - p)).up = true := by
  obtain ⟨-, hself, hother, -⟩ := linkDown_effect n hu
  interval_cases p
  · simp [hself, hother 1 (by decide)]
  · simp [hself, hother 0 (by decide)]
  · simp

theorem plantLost_effect (v : State) : (plantLost v).md = v.md ∧ (plantLost v).net.lan = v.net.lan ∧
    (∀ e ∈ (plantLost v).net.sess, e.2.iface ≠ 0) ∧ (plantLost v).time = { v.time with port := 0 } ∧
    netNow (plantLost v) = netNow v ∧ v.ev.intake <+: (plantLost v).ev.intake := by
  have hsess : EachSession (fun x => x.iface ≠ 0) (endSessions v fun _ x => x.iface == 0) :=
    endSessions_eachSession (fun _ _ => id) _ fun e _ h => by simpa using h
  refine ⟨by simp [plantLost], endSessions_lan .., hsess, ?_, netNow_endSessions .., (endSessions_raises v _).intake⟩
  show ({ (endSessions v _).time with port := 0 } : TimeSt) = _
  rw [endSessions_time]

theorem ptpLost_effect (w : State) : (ptpLost w).md = w.md ∧ (ptpLost w).net = w.net ∧ (ptpLost w).time.port = w.time.port ∧
    w.ev.intake <+: (ptpLost w).ev.intake ∧
    (w.md.role ≠ .standby → w.time.servo ∈ [0, 1] → (netNow w).profile ≠ 0 → (ptpLost w).time.servo = 2) := by
  obtain ⟨hnet, hservo, -, -, -, hport, -, -⟩ := enterHoldover_effect (s := w) (u := w) rfl rfl rfl 2
  unfold ptpLost
  split
  case isTrue h => exact ⟨by simp, hnet, hport, (enterHoldover_raises w 2).intake, fun _ _ _ => hservo⟩
  case isFalse h =>
    refine ⟨rfl, rfl, rfl, List.prefix_refl _, fun hr hs hp => absurd ?_ h⟩
    have hs' : w.time.servo = 0 ∨ w.time.servo = 1 := by simpa using hs
    simp [hr, hs', hp]

/-- A link that goes down: alone, or with the other LAN down and its sessions and its master lost. -/
theorem lanLinkDown_told {s : State} {p : Nat} (n : Nat) (hp : s.md.powered = true) (h2 : p ≤ 2)
    (hu : (lan s p).up = true) : ∃ t, exec (.lanLinkDown p n) s = .next t ∧ t.md = s.md ∧ (lan t p).up = false ∧
      (∀ q, q ≠ p → lan t q = lan s q) ∧ (recorded s n [(236, [w32 p])]).intake <+: t.ev.intake ∧
      (p = 2 ∨ (lan s (1 - p)).up = true → t.net.sess = s.net.sess ∧ t.time = { s.time with phase := n } ∧
        t.ev = recorded s n [(236, [w32 p])]) ∧
      (p < 2 → (lan s (1 - p)).up = false → (∀ e ∈ t.net.sess, e.2.iface ≠ 0) ∧ t.time.port = 0 ∧
        (s.md.role ≠ .standby → s.time.servo ∈ [0, 1] → (netNow s).profile ≠ 0 → t.time.servo = 2)) := by
  obtain ⟨hmd, hself, hother, hsess, htime, hkiln, hev⟩ := linkDown_effect n hu
  refine ⟨_, execLanLinkDown_up n hp h2 hu, ?_⟩
  split
  case isTrue h =>
    have hstands := (linkDown_stands n h2 hu).mp h
    refine ⟨hmd, hself, hother, by rw [hev], fun _ => ⟨hsess, htime, hev⟩, fun hlt hdown => ?_⟩
    obtain hp2 | hup := hstands
    · omega
    · simp [hdown] at hup
  case isFalse h =>
    have hfalls : ¬ (p = 2 ∨ (lan s (1 - p)).up = true) := fun hc => h ((linkDown_stands n h2 hu).mpr hc)
    obtain ⟨hmd', hlan', hsess', htime', hnet', hev'⟩ := plantLost_effect (linkDown s p n)
    obtain ⟨hmd'', hnet'', hport'', hev'', hservo''⟩ := ptpLost_effect (plantLost (linkDown s p n))
    have hlan : ∀ q, lan (ptpLost (plantLost (linkDown s p n))) q = lan (linkDown s p n) q := fun q => by
      rw [lan, hnet'', hlan']
      rfl
    refine ⟨hmd''.trans (hmd'.trans hmd), (hlan p).symm ▸ hself, fun q hq => (hlan q).trans (hother q hq), ?_,
      fun hc => absurd hc hfalls, fun _ _ => ⟨?_, ?_, fun hr hs hprof => hservo'' ?_ ?_ ?_⟩⟩
    · rw [← hev]
      exact hev'.trans hev''
    · rw [hnet'']
      exact hsess'
    · rw [hport'', htime']
    · rwa [hmd', hmd]
    · rw [htime', htime]
      exact hs
    · rw [hnet', netNow, theImage, hkiln]
      exact hprof

/-- A link that comes up, with its speed. -/
def linkUp (s : State) (p v n : Nat) : State :=
  { setPhase s n with net := { s.net with lan := lset s.net.lan p { lan s p with up := true, speed := v } } }

theorem execLanLinkUp_down {s : State} {p : Nat} (v n : Nat) (hp : s.md.powered = true) (h2 : p ≤ 2)
    (hd : (lan s p).up = false) : exec (.lanLinkUp p v n) s = .next (raise (linkUp s p v n) 237 [w32 p, w32 v]) := by
  have hd' : (s.net.lan.getD p {}).up = false := hd
  refine congrArg Host.Outcome.next (if_neg ?_)
  rw [hp, hd', decide_eq_false (by omega)]
  decide

/-! ### The role address and the PRP peers (R481, R484) -/

/-- A repeat of the announcement leaves its list. -/
def arpTaken (s : State) (l : List Nat) (n : Nat) : State := { setPhase s n with net := { s.net with arp := l } }

theorem execGratuitousArpRepeat_due {s : State} {k : Nat} {l : List Nat} (n : Nat) (hp : s.md.powered = true)
    (ha : s.net.arp = k :: l) (hk : k ≤ s.time.tick) (hr : s.net.roleAddr = true) :
    exec (.gratuitousArpRepeat n) s = .next (sendArp (arpTaken s l n)) := by
  show execGratuitousArpRepeat n s = _
  unfold execGratuitousArpRepeat
  rw [ha]
  exact congrArg Host.Outcome.next ((if_neg (by simp [hp, hk])).trans (if_pos hr))

/-- The peer of a supervision frame is recorded for its LAN. -/
def peerSeen (u : State) (p m : Nat) : State :=
  if (lan u p).peers.contains m then u
  else { u with net := { u.net with lan := lset u.net.lan p { lan u p with peers := (lan u p).peers ++ [m] } } }

theorem execPrpSupervisionFrame_up {s : State} {p : Nat} (m n : Nat) (hp : s.md.powered = true) (hr : s.ev.running = true)
    (h1 : p ≤ 1) (hu : (lan s p).up = true) :
    exec (.prpSupervisionFrame p m n) s = .next (peerSeen (lanCount (setPhase s n) p 0) p m) := by
  have hu' : (s.net.lan.getD p {}).up = true := hu
  refine congrArg Host.Outcome.next (if_neg ?_)
  rw [hp, hr, hu', decide_eq_false (by omega)]
  decide

theorem peerSeen_effect (u : State) {p : Nat} (m : Nat) (hl : p < u.net.lan.length) : (peerSeen u p m).md = u.md ∧
    (peerSeen u p m).ev = u.ev ∧ m ∈ (lan (peerSeen u p m) p).peers ∧
    (∀ x, x ≠ m → (x ∈ (lan (peerSeen u p m) p).peers ↔ x ∈ (lan u p).peers)) ∧
    (lan (peerSeen u p m) p).counters = (lan u p).counters := by
  unfold peerSeen
  split
  case isTrue h => exact ⟨rfl, rfl, by simpa using h, fun _ _ => Iff.rfl, rfl⟩
  case isFalse h =>
    have hself : lan { u with net := { u.net with lan := lset u.net.lan p { lan u p with
        peers := (lan u p).peers ++ [m] } } } p = { lan u p with peers := (lan u p).peers ++ [m] } := getD_lset_self hl _
    rw [hself]
    exact ⟨rfl, rfl, by simp, fun x hx => by simp [hx], rfl⟩

/-! ### The statement -/

/-- Settles O53: measurements are fed or discarded, and each command and link leaves one named state. -/
theorem timeFollowsItsMaster : Obligations.TimeFollowsItsMaster := by
  unfold Obligations.TimeFollowsItsMaster
  refine ⟨?_, ?_, ?_, ?_, ?_, ?_, ?_, ?_, ?_, ?_, ?_, ?_, ?_, ?_, ?_⟩
  · rintro s p gm cls steps raw o n rfl hc hb
    obtain ⟨hmd, hnet, ⟨l, htime⟩, hev⟩ := ptpLock_effect s p gm cls steps (ptpOffset s p raw) n
    obtain ⟨a, ha⟩ := announcing_eq (ptpLock (servoFed (masterTaken (setPhase s n) gm) p gm cls steps (ptpOffset s p raw)) p
      (ptpOffset s p raw)) cls
    obtain ⟨htick, hns, -, -, -, -, -, hch⟩ := changedTime_rest s gm
    refine ⟨_, (execPtpMeasurement_counts steps raw n hc).trans (congrArg Host.Outcome.next
      ((if_neg (by simp [hb])).trans ((ptpAccept_eq ..).trans ha))), hmd, hnet, ?_⟩
    dsimp only
    rw [htime]
    exact ⟨htick, hns, rfl, rfl, rfl, rfl, rfl, rfl, rfl, rfl, hch, hev⟩
  · intro s p gm cls steps raw n hc hb h4
    refine ⟨_, (execPtpMeasurement_counts steps raw n hc).trans (congrArg Host.Outcome.next ((if_pos hb).trans
      ((ptpOutlier_eq ..).trans (if_neg (by omega))))), rfl, rfl, rfl, ?_⟩
    simp only [ptpCounts, Bool.and_eq_true] at hc
    obtain ⟨⟨⟨⟨hruns, -⟩, -⟩, -⟩, -⟩ := hc
    exact congrArg LanSt.counters (lan_lanCount (s := outlierNoted s gm n) (lan_of_ptpRuns hruns) 3)
  · rintro s p gm cls steps raw o n rfl hc hb h4
    refine ⟨_, (execPtpMeasurement_counts steps raw n hc).trans (congrArg Host.Outcome.next ((if_pos hb).trans
      ((ptpOutlier_eq ..).trans (if_pos h4)))), by simp [outlierNoted], ?_⟩
    simp only [ptpCounts, Bool.and_eq_true] at hc
    obtain ⟨⟨⟨⟨hruns, -⟩, -⟩, -⟩, -⟩ := hc
    exact ptpJump_effect (u := outlierNoted s gm n) gm _ rfl rfl rfl (lan_of_ptpRuns hruns)
  · rintro s p gm cls steps raw o n rfl hr hm hs
    refine ⟨_, (execPtpMeasurement_load gm cls steps raw n hr hm hs).trans (congrArg Host.Outcome.next (ptpInLoad_eq ..)), ?_⟩
    obtain ⟨hmode, hin, hset, hgm, hport, htick, hnow⟩ :=
      timeSet_effect (masterMeasured (setPhase s n) p gm) p gm cls steps (ptpOffset s p raw)
    by_cases h3 : 3 ≤ ((s.time.seen.filter fun e => e.1 == gm).map fun e => e.2.2).sum
    · rw [if_pos h3, if_pos (by exact h3)]
      exact ⟨hmode.trans hm, hin, hset, hgm, hport, htick, hnow⟩
    · rw [if_neg h3, if_neg (by exact h3)]
      exact ⟨hm, rfl, rfl⟩
  · rintro s p gm cls steps raw o n rfl hr hrole hm hsel
    exact ⟨_, execPtpMeasurement_standby steps raw n hr hrole hm hsel, rfl, rfl, rfl⟩
  · exact fun s n hp hm h0 => ⟨_, execAnnounceTimeout_slave n hp hm h0, announceTimeout_told s n⟩
  · exact fun s n hp h2 hc hh => ⟨_, execHoldoverClockClassChange_hour n hp h2 hc hh, rfl, rfl, rfl⟩
  · intro s r rate h hb ho hm h1 h100
    exact ⟨_, execTimeSlew_accepted h hb ho hm h1 h100, acceptedFor_of_reply rfl, by simp [slewAccepted],
      by simp [slewAccepted], time_answered ..⟩
  · intro s r h hb ho hm
    exact ⟨_, execTimeStep_accepted h hb ho hm, stepAccepted_acceptedFor s r, by simp [stepAccepted],
      by simp [stepAccepted], time_answered .., stepAccepted_tells⟩
  · intro s r h hb hj
    exact ⟨_, execTimeReject_jump h hb hj, answers_of_reply (reply_net rfl ..), by simp, by simp,
      (time_answered ..).trans (reply_time ..)⟩
  · intro s r h h3
    obtain ⟨ms, u, hout, hu⟩ := slewHalted_outbox s r
    exact ⟨_, ms, u, execHaltSlew_slewing h h3, by simp [slewHalted], by simp [slewHalted],
      (time_answered ..).trans ((reply_time ..).trans (completeOpt_time ..)), hout, hu⟩
  · exact fun s p n hp h2 hu => lanLinkDown_told n hp h2 hu
  · intro s p v n hp h2 hl hd
    have hlan : (raise (linkUp s p v n) 237 [w32 p, w32 v]).net.lan =
        lset s.net.lan p { lan s p with up := true, speed := v } := by simp [linkUp]
    refine ⟨_, execLanLinkUp_down v n hp h2 hd, by simp [linkUp], ?_, fun q hq => ?_, raise_behind rfl rfl _ _⟩
    · rw [hlan]
      exact getD_lset_self hl _
    · rw [hlan]
      exact getD_lset_ne _ hq _
  · exact fun s k l n hp ha hk hr => ⟨_, execGratuitousArpRepeat_due n hp ha hk hr, rfl, rfl, rfl⟩
  · intro s p m n hp hr h1 hu
    have hl := lan_lt_of_up (s := s) hu
    obtain ⟨hmd, hev, hin, hothers, hc⟩ := peerSeen_effect (lanCount (setPhase s n) p 0) (p := p) m
      (by simpa [lanCount, lset] using hl)
    have hcount := lan_lanCount (s := setPhase s n) hl 0
    rw [hcount] at hothers hc
    exact ⟨_, execPrpSupervisionFrame_up m n hp hr h1 hu, hmd, hev, hin, hothers, hc⟩

end Sys2Proof.Machine
end
